-- ==== Sys2Proof/Word.lean ====
section
/-! DEFINITION. The words of the model: a byte, a 32-bit register word, a 64-bit word, the place of a register field,
and the plainest conversions between them. -/

namespace Sys2Proof

/-- One byte. -/
abbrev Byte := BitVec 8

/-- One register word (R4: every register is 32 bits wide). -/
abbrev Word := BitVec 32

/-- One 64-bit word (Stroke registers, signatures, fabric tags). -/
abbrev DWord := BitVec 64

/-- The place of a register field: the BAR0 offset of its register and its bits `[hi:lo]`. -/
structure Field where
  off : Nat
  hi : Nat
  lo : Nat
  deriving DecidableEq, Repr

/-- A Boolean as the number 0 or 1. -/
def bit (b : Bool) : Nat := if b then 1 else 0

end Sys2Proof
end

