-- ==== Sys2Proof/Syntax.lean ====
section
/-! DEFINITION. The commands of the block: one constructor of `Instr` for each row of the opcode table, with the
operands that the row's rule names. An operand `t` is the instant of the command in ns: on the module's time scale
for the schedule of tasks and frames, and on the local monotonic time for timers that the spec measures on it
(DESIGN CHOICE, log entry 2). -/

namespace Sys2Proof

/-- The three compute lanes (R2). -/
inductive Lane where
  | a | b | c
  deriving DecidableEq, Repr

/-- Lane number: 0, 1, 2. -/
def Lane.idx : Lane → Nat
  | .a => 0
  | .b => 1
  | .c => 2

/-- The two execution pairs of a lane (R2). -/
inductive Ep where
  | ep0 | ep1
  deriving DecidableEq, Repr

/-- Execution pair number. -/
def Ep.idx : Ep → Nat
  | .ep0 => 0
  | .ep1 => 1

/-- The two cores of an execution pair (R2). -/
inductive Core where
  | main | checker
  deriving DecidableEq, Repr

/-- The two field groups (R2). -/
inductive Grp where
  | g0 | g1
  deriving DecidableEq, Repr

/-- Field group number. -/
def Grp.idx : Grp → Nat
  | .g0 => 0
  | .g1 => 1

/-- The level of a channel pin at a read (R203, R208): 5 V or less, between, 11 V or more. -/
inductive Pin where
  | low | mid | high
  deriving DecidableEq, Repr

/-- The blocks of the BAR0 block map (R22). -/
inductive Block where
  | sys | rpc | sec | vote | time | net | ink | tge | brg | que | laneA | laneB | laneC | fioG0 | fioG1 | ssm | dup
  deriving DecidableEq, Repr

/-- The requesters that keep their own latch of a 64-bit register pair (R25). -/
inductive Requester where
  | host | scribe
  deriving DecidableEq, Repr

/-- The causes of a lane fault or exclusion, LANE_STATE.CAUSE. -/
inductive LaneCause where
  | none | sigMain | sigChecker | sigUnresolved | proof | comparator | disagree | missing | latent | watchdog | ecc
  | startCheck | transfer
  deriving DecidableEq, Repr

/-- The data types of Stroke code (R120). -/
inductive Ty where
  | bool | int8 | int16 | int32 | int64 | uint8 | uint16 | uint32 | uint64 | real32 | real64 | time
  deriving DecidableEq, Repr

/-- A frame register number x0 to x255 (R119). -/
abbrev Reg := BitVec 8

/-- The execution that a Stroke instruction belongs to: a task in one lane. -/
structure Ctx where
  lane : Lane
  task : Nat
  deriving DecidableEq, Repr

/-- A Quill command as the module carries it: its queue (16 is the mailbox, R398), TAG, SESSION and parameters
(R387). The opcode is the row's. -/
structure Cmd where
  queue : Nat
  tag : Nat
  session : Nat
  params : List Byte
  deriving DecidableEq, Repr

/-- A verdict of a lane (R401): accept, or a status with its INDEX. -/
inductive Verdict where
  | accept
  | refuse (status : Nat) (index : Nat)
  deriving DecidableEq, Repr

/-- What the lanes cannot compute from the model's data: whether signatures verify, whether a key is sound, and the first
part of a rubric whose check fails (DESIGN CHOICE, log entry 8). -/
structure CheckInput where
  sigOk : Bool
  keyOk : Bool
  bad : Option Nat
  deriving DecidableEq, Repr


/-- The commands of the block, in the order of the opcode table. Each docstring gives the row and its rule. -/
inductive Instr where
  /-- FABRIC_UNIT_RECEIVE (R15). A receiving block takes a whole fabric unit, checks its KIND, SEQ against the
  expected number and its GEN, and accepts, discards or counts it. -/
  | fabricUnitReceive (b : Block) (tag : DWord) (payload : List Byte) (last : Bool) (t : Nat)
  /-- IGNORED_WRITE (R21). A write to a register that has no row of its own is ignored, counted in SYS_IGN_COUNT and
  its offset captured if VALID is 0. -/
  | ignoredWrite (off : Nat)
  /-- SYS_IGN_ADDR_CLEAR (R27). A write of 1 to SYS_IGN_ADDR.VALID clears the capture and re-arms it. -/
  | sysIgnAddrClear
  /-- LOW_REGISTER_READ (R25). A read of the low register of a 64-bit pair returns it and latches the high register
  for that requester. -/
  | lowRegisterRead (r : Requester) (off : Nat)
  /-- HIGH_REGISTER_READ (R25). A read of the high register of a 64-bit pair returns the latched value and empties the
  latch, or the current value if the latch is empty. -/
  | highRegisterRead (r : Requester) (off : Nat)
  /-- STORE_RETIRE (R35). A store retires in the main core, feeds the signature and allocates an egress entry,
  stalling if none is free. -/
  | storeRetire (l : Lane) (e : Ep) (c : Core) (branches : List DWord) (addr : DWord) (size : Nat) (attr : Byte) (data : List DWord)
  /-- WINDOW_CLOSE (R31). A signature window closes at its 64th cycle or 32nd store, feeds the window-close word and
  opens the next window. -/
  | windowClose (l : Lane) (e : Ep) (c : Core) (branches : List DWord)
  /-- COMPARATOR_RESULT (R32). The comparator delivers its result for a window on two rails, releasing egress on match
  or signalling a lane fault. -/
  | comparatorResult (l : Lane) (e : Ep) (fault : BitVec 2) (mainLocal checkerLocal : Bool) (t : Nat)
  /-- PROOF_DUE (R38). The 12,500,000-cycle proof count of an execution pair expires and arms a comparator proof. -/
  | proofDue (l : Lane) (e : Ep)
  /-- COMPARATOR_PROOF (R38). At the first window close after the proof count expired, the comparator compares against
  proof pattern n and must report mismatch. -/
  | comparatorProof (l : Lane) (e : Ep) (fault : BitVec 2) (t : Nat)
  /-- PROOF_TIMEOUT (R39). No proof completes within 11 ms of the previous one, giving a lane fault with cause PROOF. -/
  | proofTimeout (l : Lane) (e : Ep) (t : Nat)
  /-- ECC_ERROR_UNCORRECTABLE (R42). An uncorrectable ECC error in a lane's LPDDR4X or process-image SRAM is a lane
  fault with cause ECC. -/
  | eccErrorUncorrectable (l : Lane) (t : Nat)
  /-- LANE_FAULT (R53). A lane signals a fault to the vote, which excludes it at once and continues 2oo2 or fails. -/
  | laneFault (l : Lane) (cause : LaneCause) (t : Nat)
  /-- WATCHDOG_EXPIRE (R482). A lane watchdog expires 50 ms after last service, giving a CORE reset of the lane and a
  lane fault with cause WATCHDOG. -/
  | watchdogExpire (l : Lane) (t : Nat)
  /-- VOTE_COMMIT (R48). At a commit instant the vote decodes and votes each lane's LANE_OUT object and releases
  VOTED_OUT, records an overrun, or fails. -/
  | voteCommit (task : Nat) (t : Nat)
  /-- CENSUS_SLICE_HASH (R57). A lane hashes a census slice of a task while no write to its variables can apply and
  sends the CENSUS unit. -/
  | censusSliceHash (l : Lane) (task slice : Nat) (abandoned : Bool) (t : Nat)
  /-- CENSUS_ROUND_START (R57). At each whole second an event task's census round starts, and an unfinished round ends
  with skipped slices counted. -/
  | censusRoundStart (task : Nat) (t : Nat)
  /-- CENSUS_COMPARE (R60). The vote compares census hashes of the same slice from the voting lanes and records a
  latent divergence or clears PROBATION. -/
  | censusCompare (task slice exec stamp : Nat) (t : Nat)
  /-- LANE_EXCLUDED_TIMEOUT (R62). 1 ms after exclusion a lane enters POWER_CYCLE if the re-integration limit permits,
  otherwise OUT_LIMIT. -/
  | laneExcludedTimeout (l : Lane) (t : Nat)
  /-- LANE_POWER_CYCLE_DONE (R62). The lane's power domain has been off for 10 ms and is back on, and the lane enters
  BOOTING. -/
  | lanePowerCycleDone (l : Lane) (t : Nat)
  /-- LANE_BOOT_COMPLETE (R62). The boot stage and lane firmware finish their start checks, and the lane enters
  TRANSLATING or EXCLUDED. -/
  | laneBootComplete (l : Lane) (ok : Bool) (t : Nat)
  /-- LANE_TRANSLATION_COMPLETE (R62). A lane's native image is complete and its hash is compared or recorded, and the
  lane enters READY or EXCLUDED. `bad` holds the hash of an image that differs from the one the translation gives,
  where the lane's working is faulty. -/
  | laneTranslationComplete (l : Lane) (bad : Option DWord) (t : Nat)
  /-- VOTE_ENABLE (R63). At the first grid instant with at least two lanes READY, the vote enables and that instant is
  the first commit. -/
  | voteEnable (t : Nat)
  /-- PRECOPY_PASS_COMPLETE (R64). A pre-copy pass of state to a READY lane completes and leaves a dirty remainder. -/
  | precopyPassComplete (l : Lane) (t : Nat)
  /-- STATE_TRANSFER_SEAM (R65). At a usable seam the READY lane enters TRANSFER and the final delta is sent. -/
  | stateTransferSeam (l : Lane) (t : Nat)
  /-- FINAL_DELTA_LANDED (R62). The final delta of a transfer has landed and the lane joins VOTING with PROBATION at
  the next release. -/
  | finalDeltaLanded (l : Lane) (t : Nat)
  /-- TRANSFER_TIMEOUT (R65). No usable seam occurs within 10 s of READY, or 16 passes do not fit, and the attempt
  fails with cause TRANSFER. -/
  | transferTimeout (l : Lane) (t : Nat)
  /-- VOTE_DIS_CAP_CLEAR (R70). A write of 1 to VOTE_DIS_CAP.VALID clears the disagreement capture and re-arms it. -/
  | voteDisCapClear
  /-- CENSUS_CAP_CLEAR (R70). A write of 1 to CENSUS_CAP.VALID clears the census capture and re-arms it. -/
  | censusCapClear
  /-- TASK_RELEASE (R75). At a release instant a task's input snapshot is taken, command writes and forces are applied
  and the execution becomes ready, or the release is skipped. -/
  | taskRelease (task : Nat) (t : Nat)
  /-- TASK_FINISH (R79). The terminator of an execution's LANE_OUT object leaves egress and the task becomes FINISHED. -/
  | taskFinish (l : Lane) (task : Nat) (t : Nat)
  /-- LATE_EXECUTION_END (R80). An execution that passed its commit instant reaches its end and the task returns to
  IDLE. -/
  | lateExecutionEnd (l : Lane) (task : Nat) (t : Nat)
  /-- TIME_ALARM_FIRE (R91). The time scale reaches an armed alarm value and the event task's release is scheduled. -/
  | timeAlarmFire (task : Nat) (t : Nat)
  /-- MODE_CHANGE_EFFECT (R95). An accepted mode change takes effect at its instant and MODE_SET is answered. -/
  | modeChangeEffect (t : Nat)
  /-- TIME_FENCE_EXPIRE (R110). The time scale reaches T + 80 µs and a TIME fence completes. -/
  | timeFenceExpire (queue tag : Nat) (t : Nat)
  /-- FENCE_TIMEOUT (R113). A COMMIT fence not complete within 20.5 s of acceptance replies TIMEOUT. -/
  | fenceTimeout (queue tag : Nat) (t : Nat)
  /-- NOP (R131). Does nothing. -/
  | opNop (x : Ctx)
  /-- END (R130). Ends the execution. -/
  | opEnd (x : Ctx)
  /-- JMP (R126). Jumps forward to the target. -/
  | opJmp (x : Ctx) (target : Nat)
  /-- BRT (R126). Jumps forward if the condition is TRUE. -/
  | opBrt (x : Ctx) (a : Reg) (target : Nat)
  /-- BRF (R126). Jumps forward if the condition is FALSE. -/
  | opBrf (x : Ctx) (a : Reg) (target : Nat)
  /-- LOOP (R127). Bounded backward branch that counts iterations and faults with LOOP_BOUND at the bound. -/
  | opLoop (x : Ctx) (bound : BitVec 16) (a : Reg) (target : Nat)
  /-- CALL (R129). Calls the subroutine at the target on the caller's frame. -/
  | opCall (x : Ctx) (target : Nat)
  /-- RET (R129). Returns to the word after the CALL. -/
  | opRet (x : Ctx)
  /-- ASSERT (R143). Raises the task fault ASSERT if the condition is FALSE. -/
  | opAssert (x : Ctx) (a : Reg)
  /-- LDI (R134). Loads imm8 as the given type. -/
  | opLdi (x : Ctx) (d : Reg) (ty : Ty) (imm : Byte)
  /-- LDL (R134). Loads the value literal as the given type. -/
  | opLdl (x : Ctx) (d : Reg) (ty : Ty) (value : Word)
  /-- MOV (R131). Copies a register. -/
  | opMov (x : Ctx) (d a : Reg)
  /-- LD (R123). Loads a scalar variable into a register. -/
  | opLd (x : Ctx) (d : Reg) (var : Nat)
  /-- ST (R123). Stores a register into a scalar variable. -/
  | opSt (x : Ctx) (src : Reg) (var : Nat)
  /-- LDX (R124). Loads an array element, faulting with INDEX if out of range. -/
  | opLdx (x : Ctx) (d a : Reg) (var : Nat)
  /-- STX (R124). Stores an array element, faulting with INDEX if out of range. -/
  | opStx (x : Ctx) (src a : Reg) (var : Nat)
  /-- CMOV (R131). Copies b to d if a is TRUE. -/
  | opCmov (x : Ctx) (d a b : Reg)
  /-- ADD (R132). Wrapping addition. -/
  | opAdd (x : Ctx) (d a b : Reg)
  /-- SUB (R132). Wrapping subtraction. -/
  | opSub (x : Ctx) (d a b : Reg)
  /-- MUL (R132). Wrapping multiplication. -/
  | opMul (x : Ctx) (d a b : Reg)
  /-- DIV (R136). Division, giving 0 and setting DIVZ on a zero divisor. -/
  | opDiv (x : Ctx) (d a b : Reg)
  /-- MOD (R135). Remainder with the sign of a, giving 0 and setting DIVZ on a zero divisor. -/
  | opMod (x : Ctx) (d a b : Reg)
  /-- NEG (R133). Wrapping negation. -/
  | opNeg (x : Ctx) (d a : Reg)
  /-- ABS (R133). Wrapping absolute value. -/
  | opAbs (x : Ctx) (d a : Reg)
  /-- ADDS (R132). Saturating addition. -/
  | opAdds (x : Ctx) (d a b : Reg)
  /-- SUBS (R132). Saturating subtraction. -/
  | opSubs (x : Ctx) (d a b : Reg)
  /-- MULS (R132). Saturating multiplication. -/
  | opMuls (x : Ctx) (d a b : Reg)
  /-- NEGS (R133). Saturating negation. -/
  | opNegs (x : Ctx) (d a : Reg)
  /-- ABSS (R133). Saturating absolute value. -/
  | opAbss (x : Ctx) (d a : Reg)
  /-- MIN (R137). Smaller of a and b. -/
  | opMin (x : Ctx) (d a b : Reg)
  /-- MAX (R137). Larger of a and b. -/
  | opMax (x : Ctx) (d a b : Reg)
  /-- ADDI (R132). Adds a sign-extended imm8, wrapping. -/
  | opAddi (x : Ctx) (d a : Reg) (imm : Byte)
  /-- SQRT (R137). Square root under IEEE 754. -/
  | opSqrt (x : Ctx) (d a : Reg)
  /-- AND (R131). Bitwise or logical AND. -/
  | opAnd (x : Ctx) (d a b : Reg)
  /-- OR (R131). Bitwise or logical OR. -/
  | opOr (x : Ctx) (d a b : Reg)
  /-- XOR (R131). Bitwise or logical XOR. -/
  | opXor (x : Ctx) (d a b : Reg)
  /-- NOT (R131). Bitwise complement within w, or logical NOT. -/
  | opNot (x : Ctx) (d a : Reg)
  /-- SHL (R139). Shifts left by imm8. -/
  | opShl (x : Ctx) (d a : Reg) (imm : Byte)
  /-- SHR (R139). Shifts right by imm8, logical or arithmetic by type. -/
  | opShr (x : Ctx) (d a : Reg) (imm : Byte)
  /-- ROL (R139). Rotates left by imm8 modulo w. -/
  | opRol (x : Ctx) (d a : Reg) (imm : Byte)
  /-- ROR (R139). Rotates right by imm8 modulo w. -/
  | opRor (x : Ctx) (d a : Reg) (imm : Byte)
  /-- SHLV (R139). Shifts left by the count in b. -/
  | opShlv (x : Ctx) (d a b : Reg)
  /-- SHRV (R139). Shifts right by the count in b. -/
  | opShrv (x : Ctx) (d a b : Reg)
  /-- BITGET (R131). Reads bit imm8 of a as BOOL. -/
  | opBitget (x : Ctx) (d a : Reg) (imm : Byte)
  /-- BSWAP (R131). Reverses byte order within w/8 bytes. -/
  | opBswap (x : Ctx) (d a : Reg)
  /-- EQ (R138). Compares for equality. -/
  | opEq (x : Ctx) (d a b : Reg)
  /-- NE (R138). Compares for inequality. -/
  | opNe (x : Ctx) (d a b : Reg)
  /-- LT (R138). Compares less than. -/
  | opLt (x : Ctx) (d a b : Reg)
  /-- LE (R138). Compares less than or equal. -/
  | opLe (x : Ctx) (d a b : Reg)
  /-- GT (R138). Compares greater than. -/
  | opGt (x : Ctx) (d a b : Reg)
  /-- GE (R138). Compares greater than or equal. -/
  | opGe (x : Ctx) (d a b : Reg)
  /-- ISNAN (R138). Tests a REAL for NaN. -/
  | opIsnan (x : Ctx) (d a : Reg)
  /-- CONV (R140). Wrapping type conversion. -/
  | opConv (x : Ctx) (d a : Reg) (imm : Byte)
  /-- CONVS (R140). Saturating type conversion. -/
  | opConvs (x : Ctx) (d a : Reg) (imm : Byte)
  /-- TRUNC (R140). Converts REAL toward zero to int or TIME, saturating. -/
  | opTrunc (x : Ctx) (d a : Reg) (imm : Byte)
  /-- NOW (R141). Returns the execution's release instant. -/
  | opNow (x : Ctx) (d : Reg)
  /-- DTIME (R141). Returns the time since the task's previous execution. -/
  | opDtime (x : Ctx) (d : Reg)
  /-- GETF (R142). Reads a task flag. -/
  | opGetf (x : Ctx) (d : Reg) (flag : Byte)
  /-- CLRF (R142). Clears the DIVZ flag. -/
  | opClrf (x : Ctx) (flag : Byte)
  /-- FENCE_OUT (R145). Marks the task as fenced and has no effect when it executes. -/
  | opFenceOut (x : Ctx)
  /-- TON (R152). Evaluates an on-delay timer record. -/
  | opTon (x : Ctx) (d a : Reg) (inst : Nat)
  /-- TOF (R152). Evaluates an off-delay timer record. -/
  | opTof (x : Ctx) (d a : Reg) (inst : Nat)
  /-- TP (R152). Evaluates a pulse timer record. -/
  | opTp (x : Ctx) (d a : Reg) (inst : Nat)
  /-- RTRIG (R152). Evaluates a rising-edge detector record. -/
  | opRtrig (x : Ctx) (d a : Reg) (inst : Nat)
  /-- FTRIG (R152). Evaluates a falling-edge detector record. -/
  | opFtrig (x : Ctx) (d a : Reg) (inst : Nat)
  /-- CTU (R152). Evaluates an up-counter record. -/
  | opCtu (x : Ctx) (d a : Reg) (inst : Nat)
  /-- CTD (R152). Evaluates a down-counter record. -/
  | opCtd (x : Ctx) (d a : Reg) (inst : Nat)
  /-- CTUD (R152). Evaluates an up-down counter record. -/
  | opCtud (x : Ctx) (d a : Reg) (inst : Nat)
  /-- SR (R152). Evaluates a set-dominant bistable record. -/
  | opSr (x : Ctx) (d a : Reg) (inst : Nat)
  /-- RS (R152). Evaluates a reset-dominant bistable record. -/
  | opRs (x : Ctx) (d a : Reg) (inst : Nat)
  /-- HYST (R152). Evaluates a hysteresis record. -/
  | opHyst (x : Ctx) (d a : Reg) (inst : Nat)
  /-- RAMP (R152). Evaluates a rate-limited ramp record. -/
  | opRamp (x : Ctx) (d a : Reg) (inst : Nat)
  /-- LIMIT (R152). Evaluates a clamp record. -/
  | opLimit (x : Ctx) (d a : Reg) (inst : Nat)
  /-- BLKRD (R153). Reads one field of a block record into a register. -/
  | opBlkrd (x : Ctx) (d : Reg) (field : Byte) (inst : Nat)
  /-- BLKRST (R150). Resets a block record to its initial state. -/
  | opBlkrst (x : Ctx) (inst : Nat)
  /-- FOLIO_STAGING_COMPLETE (R172). Every voting lane finishes the seven checks of the staged folio and the last
  FOLIO_STAGE block is answered. -/
  | folioStagingComplete (sigOk : Bool) (badA badB badC : Option DWord) (t : Nat)
  /-- SEAM (R178). At the confirmed seam every voting lane makes the staged folio the running folio, advances the
  generation and starts the carry. -/
  | seam (t : Nat)
  /-- CARRY_COMPLETE (R182). The carry completes in every voting lane, the slot is recorded, the counter raised, the
  old folio discarded and FOLIO_SWITCH answered OK. -/
  | carryComplete (t : Nat)
  /-- SEAM_SEARCH_TIMEOUT (R177). The seam search reaches a + 10 s with no seam and FOLIO_SWITCH is answered NO_SEAM. -/
  | seamSearchTimeout (t : Nat)
  /-- SEAM_VOID (R177). An announced seam is void because a task is still uncommitted or the standby has not confirmed
  by S − 2 ms, and the search continues. -/
  | seamVoid (t : Nat)
  /-- FIELD_LINK_FRAME_TIME (R214). At g + 20 µs the field controller latches its tick sample and both sides send
  their frames. -/
  | fieldLinkFrameTime (t : Nat)
  /-- LOGIC_TO_FIELD_FRAME (R216). The field controller receives a logic-to-field frame, checks it and writes its
  records into shadows. -/
  | logicToFieldFrame (g : Grp) (bytes : List Byte) (t : Nat)
  /-- FIELD_TO_LOGIC_FRAME (R217). The logic side receives a field-to-logic frame, forms IN_IMAGE units, updates
  mirrors and acknowledges shadow records. -/
  | fieldToLogicFrame (g : Grp) (bytes : List Byte) (t : Nat)
  /-- APPLY_INSTANT (R214). At g + 50 µs the field controller applies the frame's commands, claim result and any
  take-over. -/
  | applyInstant (t : Nat)
  /-- SHADOW_SET_OPEN_TIMEOUT (R226). An open shadow set receives no packet for 10 s and is discarded. -/
  | shadowSetOpenTimeout (t : Nat)
  /-- SHADOW_SET_COMPLETE_TIMEOUT (R226). A closed set not complete within 10 s of LAST is discarded and its packets
  answered TIMEOUT. -/
  | shadowSetCompleteTimeout (t : Nat)
  /-- INPUT_FILTER_EXPIRE (R206). The raw state has differed for the FILTER time and the filtered state changes with a
  time-stamped edge. -/
  | inputFilterExpire (g : Grp) (p : Nat) (t : Nat)
  /-- INPUT_TICK_SAMPLE (R206). On each 10 µs tick the field controller latches the filtered state of every input. -/
  | inputTickSample (t : Nat)
  /-- WETTING_PULSE_END (R205). A 2 ms wetting pulse ends and the sink limit returns to normal. -/
  | wettingPulseEnd (g : Grp) (p : Nat) (t : Nat)
  /-- VALID_HOLDOFF_EXPIRE (R227). After a kind change the VALID hold-off ends and the filtered state is set to the
  raw state without an edge. -/
  | validHoldoffExpire (g : Grp) (p : Nat) (t : Nat)
  /-- BANK_SUPPLY_MEASURE (R241). Every 10 µs the field controller measures each L+b and enters WARN or CUT. -/
  | bankSupplyMeasure (g : Grp) (b : Nat) (volts : Nat) (t : Nat)
  /-- BANK_WARN_CLEAR (R241). L+b has been at or above 18.3 V for 1 ms and WARN clears. -/
  | bankWarnClear (g : Grp) (b : Nat) (t : Nat)
  /-- BANK_RESTORE (R242). L+b has been at or above 16.5 V for 10 ms and the bank restores with the command of the
  next APPLY instant. -/
  | bankRestore (g : Grp) (b : Nat) (t : Nat)
  /-- BANK_VALID_RESUME (R243). 1 ms after WARN clears, VALID returns for the bank's channels. -/
  | bankValidResume (g : Grp) (b : Nat) (t : Nat)
  /-- TEST_DUE (R230). A test falls due and a dark pulse or probe starts, waits for its bank, or is skipped. -/
  | testDue (g : Grp) (p : Nat) (t : Nat)
  /-- DARK_PULSE_END (R232). A dark pulse ends with DARK_PASS, DARK_FAIL_EXT, DARK_FAIL_STAGE or INCOMPLETE and the
  stage returns to its command. -/
  | darkPulseEnd (g : Grp) (p : Nat) (over20 : Bool) (t : Nat)
  /-- DARK_PULSE_REPEAT (R232). 100 ms after a first dark-pulse failure the pulse is repeated. -/
  | darkPulseRepeat (g : Grp) (p : Nat) (t : Nat)
  /-- PROBE_END (R233). A 100 µs probe ends with PROBE_LOAD, PROBE_OPEN or PROBE_UNDECIDED. -/
  | probeEnd (g : Grp) (p : Nat) (t : Nat)
  /-- OVERLOAD_LATCH (R236). A stage has been in current limit for 10 ms and is latched off. -/
  | overloadLatch (g : Grp) (p : Nat) (t : Nat)
  /-- OVERLOAD_RETRY (R236). Every 1 s a latched-off stage with its command on is retried, and OVERLOAD clears after
  100 ms without limit. -/
  | overloadRetry (g : Grp) (p : Nat) (cooled : Bool) (t : Nat)
  /-- THERMAL_SHUTDOWN (R236). A stage junction reaches 150 °C and the stage turns off at once. -/
  | thermalShutdown (g : Grp) (p : Nat) (t : Nat)
  /-- OPEN_LOAD_DETECT (R237). An on-state or member open-load condition has held for 100 ms, or has ceased for 100
  ms, and OPEN_LOAD sets or clears. -/
  | openLoadDetect (g : Grp) (p : Nat) (present : Bool) (t : Nat)
  /-- EXTERNAL_DRIVE_DETECT (R238). The readback of an off stage has read high for 1 ms and EXTERNAL_DRIVE sets or a
  stage fault is declared. -/
  | externalDriveDetect (g : Grp) (p : Nat) (over20 : Bool) (t : Nat)
  /-- SILENCE_TIMEOUT (R244). No good frame has applied by g + SILENCE_MS and the field controller applies the blotter
  state with cause SILENCE. -/
  | silenceTimeout (g : Grp) (t : Nat)
  /-- HALT_RECEIVED (R246). The field controller receives 4 consecutive HALT code groups and applies the blotter state
  with cause HALT. -/
  | haltReceived (g : Grp) (t : Nat)
  /-- SPEED_EDGE (R254). A rising edge on SPD_A or SPD_B is timed by each path for the speed estimate. -/
  | speedEdge (sensorB : Bool) (t : Nat)
  /-- STOP_REQUEST_INPUT (R257). A stop-request channel changes state and its OFF run or discrepancy is timed. -/
  | stopRequestInput (ch : Nat) (on : Bool) (t : Nat)
  /-- SSM_EVALUATION (R260). Every 250 µs the SSM computes speed, checks requests, envelope, standstill, T_MAX,
  sensors, heartbeat and contacts, and drives STO2. -/
  | ssmEvaluation (welded : Bool) (t : Nat)
  /-- LANE_STOP_EVALUATION (R264). At each 250 µs instant a lane's stop supervisor evaluates the stop rules and drives
  its permit wire. -/
  | laneStopEvaluation (l : Lane) (welded : Bool) (t : Nat)
  /-- PERMIT_VOTE (R266). The STO1 logic votes the lane permits, drives or stops the heartbeat and counts or excludes
  a differing lane. -/
  | permitVote (t : Nat)
  /-- STO1_HEARTBEAT_LOSS (R266). 1 ms after the last heartbeat edge the STO1 driver opens the contact. -/
  | sto1HeartbeatLoss (t : Nat)
  /-- SSM_OSC_CHECK (R256). Every 100 ms the SSM compares its RC oscillator with the crystal and faults above 5 %. -/
  | ssmOscCheck (deviation : Int) (t : Nat)
  /-- SSM_PARITY_CHECK (R272). Every 10 ms the SSM checks the locked record's parity and CRC and opens STO2 on error. -/
  | ssmParityCheck (bad : Bool) (t : Nat)
  /-- SSM_PARAM_LOCK (R272). Two lanes deliver identical valid records on the parameter wire and the SSM locks the
  record and enters HELD. -/
  | ssmParamLock (t : Nat)
  /-- SSM_LOCK_TIMEOUT (R272). No two lanes agree within 10 ms and SSM_PARAM_LOAD is answered TIMEOUT. -/
  | ssmLockTimeout (t : Nat)
  /-- FRAME_INGRESS (R289). A frame arrives on a switched port and receives VID, class, cells, destinations and
  telegram inspection. -/
  | frameIngress (p : Nat) (bytes : List Byte) (t : Nat)
  /-- FRAME_TRANSMIT_START (R293). An egress queue's head frame starts when it fits its gate window, or is discarded
  as GATE_OVERSIZE. -/
  | frameTransmitStart (p : Nat) (t : Nat)
  /-- FRAME_TRANSMIT_COMPLETE (R297). A frame's transmission ends and its cells return to their pool when the last
  reference ends. -/
  | frameTransmitComplete (p : Nat) (t : Nat)
  /-- LINK_DOWN (R281). A port's link goes down, cutting transmission, flushing its queues and removing its dynamic
  entries. -/
  | linkDown (p : Nat) (t : Nat)
  /-- LINK_UP (R281). A port's link comes up at its only supported rate and receives again. -/
  | linkUp (p mbps : Nat) (fullDuplex : Bool) (t : Nat)
  /-- FDB_AGE_EXPIRE (R288). A dynamic entry not refreshed for AGE_S is removed. -/
  | fdbAgeExpire (mac vid : Nat) (t : Nat)
  /-- GATE_ENTRY_CHANGE (R292). A gate list entry takes effect at its instant and the gate states of the port change. -/
  | gateEntryChange (p : Nat) (t : Nat)
  /-- NET_SET_TIMEOUT (R283). An open network configuration set receives no packet for 10 s and is dropped. -/
  | netSetTimeout (t : Nat)
  /-- MP_FRAME_RECEIVE (R282). The MP MAC receives a frame and the scribe accepts ARP, ICMP echo or UDP 30510 or
  discards it. -/
  | mpFrameReceive (bytes : List Byte) (t : Nat)
  /-- TELEGRAM_DELIVERY (R314). 1 µs after an accepted telegram's last byte, the engine delivers its dataset to each
  lane as TGI_SET with a valid-from instant. -/
  | telegramDelivery (entry : Nat) (t : Nat)
  /-- PERIOD_BOUNDARY (R318). At a subscription period boundary MISSED advances and the entry changes freshness state
  with a delivery. -/
  | periodBoundary (t : Nat)
  /-- PUBLICATION_SEND (R320). At s − 4 µs the engine builds a publication frame from the bytes in force at the
  cut-off and hands it to port 6. -/
  | publicationSend (t : Nat)
  /-- TGE_REJ_CAP_CLEAR (R70). A write of 1 to TGE_REJ_CAP.VALID clears the rejection capture and re-arms it. -/
  | tgeRejCapClear
  /-- FOLIO_IOMIS_CLEAR (R166). A write of 1 to FOLIO_IOMIS.VALID clears the mismatch capture and re-arms it. -/
  | folioIomisClear
  /-- PTP_SYNC (R332). A Sync message is received and time-stamped, yielding an offset measurement or awaiting its
  Follow_Up. -/
  | ptpSync (p master seq : Nat) (mac t1 : Nat) (corr : Int) (twoStep : Bool) (t : Nat)
  /-- PTP_FOLLOW_UP (R332). A Follow_Up supplies t1 of a two-step Sync for the offset measurement. -/
  | ptpFollowUp (p seq : Nat) (t1 : Nat) (corr : Int) (t : Nat)
  /-- PTP_DELAY_REQ (R332). A Delay_Req is received or sent and time-stamped for the E2E mechanism. -/
  | ptpDelayReq (p seq : Nat) (received : Bool) (mac : Nat) (t : Nat)
  /-- PTP_DELAY_RESP (R332). A Delay_Resp supplies t4 and completes an E2E mean path delay and offset measurement. -/
  | ptpDelayResp (p seq : Nat) (t4 : Nat) (corr : Int) (t : Nat)
  /-- PTP_PDELAY_REQ (R332). A Pdelay_Req is received and answered, or sent, with peer-delay time-stamps. -/
  | ptpPdelayReq (p seq : Nat) (received : Bool) (mac : Nat) (t : Nat)
  /-- PTP_PDELAY_RESP (R332). A Pdelay_Resp or its Follow_Up completes a link delay measurement. -/
  | ptpPdelayResp (p seq : Nat) (followUp : Bool) (mac t2 : Nat) (t3 : Option Nat) (t : Nat)
  /-- PTP_ANNOUNCE (R326). An Announce message is received and feeds the BMCA port states. -/
  | ptpAnnounce (p : Nat) (states : List Nat) (t : Nat)
  /-- PTP_IGNORED_MESSAGE (R327). A Management or Signaling message is discarded and counted. -/
  | ptpIgnoredMessage (p : Nat) (t : Nat)
  /-- PTP_MESSAGE_SEND (R326). At its message interval the module sends its own Sync, Announce or delay request. -/
  | ptpMessageSend (p kind : Nat) (t : Nat)
  /-- PTP_MASTER_LOST (R335). No Sync arrives for ANN_TIMEOUT announce intervals and the time unit enters HOLDOVER. -/
  | ptpMasterLost (t : Nat)
  /-- TIME_STEP_APPLY (R337). At the step point the time scale jumps by Δ and frames, releases, timers, gates and
  telegram instants are adjusted. -/
  | timeStepApply (t : Nat)
  /-- TIME_RESTEP_TIMEOUT (R340). No 8 agreeing measurements and step point occur within 10 s and TIME_RESTEP is
  answered NO_SEAM. -/
  | timeRestepTimeout (t : Nat)
  /-- AON_SECONDS_LOAD (R325). At each whole second in LOCKED or HOLDOVER the PD_AON seconds count is loaded from the
  time scale. -/
  | aonSecondsLoad (t : Nat)
  /-- PPS_OUTPUT (R342). PPS_OUT rises at each whole second of the time scale and falls 100 ms later. -/
  | ppsOutput (t : Nat)
  /-- PPS_INPUT_EDGE (R342). A rising edge of PPS_IN is stamped and captured in TIME_PPSIN. -/
  | ppsInputEdge (t : Nat)
  /-- TIME_PPSIN_CLEAR (R342). A write of 1 to TIME_PPSIN.VALID clears the capture and re-arms it. -/
  | timePpsinClear
  /-- INBOUND_READ (R354). An inbound memory read is mapped through BAR0 or the BAR2 windows and completed, possibly
  from read-ahead. -/
  | inboundRead (bar off n : Nat) (t : Nat)
  /-- INBOUND_WRITE (R354). An inbound posted write to BAR2 is mapped through the windows and written, or ignored as a
  violation. -/
  | inboundWrite (off : Nat) (bytes : List Byte) (t : Nat)
  /-- INBOUND_READ_TIMEOUT (R359). A read whose target has no answer within 50 µs ends with a Completer Abort. -/
  | inboundReadTimeout (t : Nat)
  /-- UNSUPPORTED_REQUEST (R359). An MRdLk or AtomicOp is answered with Unsupported Request. -/
  | unsupportedRequest (t : Nat)
  /-- MALFORMED_TLP (R359). A malformed TLP is reported as an AER fatal error. -/
  | malformedTlp (t : Nat)
  /-- POSTED_WRITE_ERROR (R359). A posted write with a far-side error or poison is discarded, captured and counted,
  firing vector 32. -/
  | postedWriteError (cause off : Nat) (t : Nat)
  /-- READ_AHEAD_EXPIRE (R357). A read-ahead line 10 µs old is discarded. -/
  | readAheadExpire (line : Nat) (t : Nat)
  /-- OUTBOUND_READ_TIMEOUT (R359). An outbound read is not completed within 50 ms and is a bus error of its move. -/
  | outboundReadTimeout (tag : Nat) (t : Nat)
  /-- OUTBOUND_COMPLETION (R363). A completion for an outbound read arrives into its reservation and frees its tag. -/
  | outboundCompletion (tag : Nat) (ok : Bool) (data : List Byte) (t : Nat)
  /-- PCIE_RESET (R346). A fundamental, hot or Function Level Reset resets only the bridge and host queue machinery. -/
  | pcieReset (flr : Bool) (t : Nat)
  /-- POWER_STATE_CHANGE (R346). The host moves the function between D0 and D3hot. -/
  | powerStateChange (d3hot : Bool) (t : Nat)
  /-- MSIX_TABLE_WRITE (R347). A write to an MSI-X table entry or mask bit in BAR4 takes effect. -/
  | msixTableWrite (off : Nat) (value : Word) (t : Nat)
  /-- BRG_EVT_CLEAR (R361). A write of 1 to a BRG_EVT cause bit clears it so the vector can fire again. -/
  | brgEvtClear (mask : Nat)
  /-- BRG_PW_CAP_CLEAR (R359). A write of 1 to BRG_PW_CAP.VALID clears the posted-write capture and re-arms it. -/
  | brgPwCapClear
  /-- MAILBOX_SUBMIT (R398). A write to MBOX_H2M announces a packet in mailbox data, or is ignored while one is
  outstanding. -/
  | mailboxSubmit (len t : Nat)
  /-- MBOX_M2H_READ (R350). A read of MBOX_M2H returns the reply length and clears it. -/
  | mboxM2hRead (t : Nat)
  /-- DOORBELL (R371). A write to Q_DB.TAIL advances TAIL after its checks, or halts the queue with cause DOORBELL. -/
  | doorbell (q v : Nat) (r : Requester) (t : Nat)
  /-- RING_CONFIG_WRITE (R368). A write to Q_BASE or Q_CTRL.SIZE_LOG2 takes effect only while the queue is DISABLED
  and host-produced. -/
  | ringConfigWrite (q which : Nat) (value : Word) (t : Nat)
  /-- QUEUE_ENABLE (R376). ENABLE written 1 on a DISABLED queue sets DONE to TAIL and enters RUNNING. -/
  | queueEnable (q : Nat) (r : Requester) (t : Nat)
  /-- QUEUE_DISABLE (R376). ENABLE written 0 puts the queue into DRAINING. -/
  | queueDisable (q : Nat) (r : Requester) (t : Nat)
  /-- QUEUE_RESUME (R384). RESUME written 1 in HALTED continues with the halted burst or refetches the descriptor. -/
  | queueResume (q : Nat) (t : Nat)
  /-- QUEUE_SKIP (R384). SKIP written 1 in HALTED writes back the halted descriptor and continues with the next. -/
  | queueSkip (q : Nat) (t : Nat)
  /-- Q_STAT_IRQ_CLEAR (R382). A write of 1 to Q_STAT.IRQ clears it so the completion vector can fire again. -/
  | qStatIrqClear (q : Nat)
  /-- Q_STAT_HALT_EVT_CLEAR (R382). A write of 1 to Q_STAT.HALT_EVT clears it so the halt vector can fire again. -/
  | qStatHaltEvtClear (q : Nat)
  /-- DESCRIPTOR_FETCH (R372). A fetched descriptor is checked for OWN and format, halting the queue on a breach. -/
  | descriptorFetch (q : Nat) (bytes : List Byte) (t : Nat)
  /-- BURST_START (R377). The engine chooses the ready queue of highest priority and starts a burst, signalling
  burst-start to a request line. -/
  | burstStart (t : Nat)
  /-- BURST_DONE (R379). A burst ends, releasing a held line unit, and its descriptor completes or continues. -/
  | burstDone (q : Nat) (ecc : Bool) (t : Nat)
  /-- FLUSH_READ_RETURN (R381). The flush read of a LANDED descriptor returns and the descriptor completes, or it is a
  bus error. -/
  | flushReadReturn (q : Nat) (ok : Bool) (t : Nat)
  /-- BURST_RETRY (R383). 10 µs after a bus error the failed burst is repeated, or the queue halts when retries are
  exhausted. -/
  | burstRetry (q : Nat) (t : Nat)
  /-- REQUEST_LINE_ASSERT (R378). A request source asserts its line when a unit is ready. -/
  | requestLineAssert (line : Nat) (t : Nat)
  /-- REQUEST_LINE_WITHDRAW (R379). A source withdraws its line, before or after burst-start. -/
  | requestLineWithdraw (line : Nat) (t : Nat)
  /-- REQUEST_IDLE_TIMEOUT (R380). IDLE_US passes without a burst and the request-driven descriptor completes with
  STATUS IDLE. -/
  | requestIdleTimeout (q : Nat) (t : Nat)
  /-- COMMAND_REPLY_WRITE (R374). A command's reply is written to ADDR_B, truncated if needed, and its descriptor
  completes. -/
  | commandReplyWrite (q t : Nat)
  /-- QUILL_PACKET_RECEIVE (R399). The scribe receives a packet, executes SCRIBE-class packets and forwards LANE-class
  packets to the lanes. -/
  | quillPacketReceive (q : Nat) (params : List Byte) (authentic : Bool) (t : Nat)
  /-- LANE_PACKET_CHECK (R400). A voting lane checks a LANE-class packet in order and sends its verdict to the vote. -/
  | lanePacketCheck (l : Lane) (q tag : Nat) (x : CheckInput) (t : Nat)
  /-- VERDICT_RECEIVE (R401). The vote unit acts on the first two identical verdicts, accepting or refusing the
  command and excluding a differing lane. -/
  | verdictReceive (l : Lane) (q tag : Nat) (sent : Option Verdict) (t : Nat)
  /-- VERDICT_TIMEOUT (R401). A lane's verdict has not arrived 2 ms after the second and the lane is excluded with
  MISSING, or the command is not accepted. -/
  | verdictTimeout (q tag t : Nat)
  /-- LANE_REPLY_RECEIVE (R402). The vote releases a LANE-class reply when two voting lanes deliver identical replies. -/
  | laneReplyReceive (l : Lane) (q tag : Nat) (sent : Option (List Byte)) (t : Nat)
  /-- SESSION_PENDING_TIMEOUT (R395). A pending session not completed within 10 s is destroyed. -/
  | sessionPendingTimeout (id : Nat) (t : Nat)
  /-- SESSION_IDLE_TIMEOUT (R396). A session with no authenticated packet and nothing outstanding for 600 s ends. -/
  | sessionIdleTimeout (id : Nat) (t : Nat)
  /-- TOKEN_BUCKET_REFILL (R392). A rate-limit bucket gains a token at its refill rate. -/
  | tokenBucketRefill (which : Nat) (t : Nat)
  /-- MP_DATAGRAM_RECEIVE (R411). The scribe reassembles a UDP datagram to port 30510, applies the rate limit and
  queues its packet in Q14 or Q15. -/
  | mpDatagramReceive (source ident off : Nat) (more : Bool) (bytes : List Byte) (t : Nat)
  /-- MP_REASSEMBLY_TIMEOUT (R411). A datagram not reassembled within 100 ms is dropped and counted. -/
  | mpReassemblyTimeout (source ident : Nat) (t : Nat)
  /-- MODULE_INFO (R406). Returns the module's identity, lifecycle, role, mode and running folio. -/
  | moduleInfo (c : Cmd) (t : Nat)
  /-- LANE_REINTEGRATE (R69). Starts a re-integration attempt for a lane in OUT_LIMIT. -/
  | laneReintegrate (c : Cmd) (t : Nat)
  /-- STORE (R477). Saves the selected configuration kinds and counters to the persistent store. -/
  | store (c : Cmd) (t : Nat)
  /-- STORE_RECORD_COMPLETE (R476). A store record finishes programming as the next generation and the next record
  starts or is refused. -/
  | storeRecordComplete (t : Nat)
  /-- WINDOW_SET (R352). Replaces BAR2 window records between two inbound TLPs after checking them. -/
  | windowSet (c : Cmd) (t : Nat)
  /-- QUEUE_CONFIG (R367). Carries queue and request-line binding records into a set taken over at an output commit. -/
  | queueConfig (c : Cmd) (t : Nat)
  /-- QUEUE_CONFIG_DISCARD (R367). Drops the open or closed queue configuration set. -/
  | queueConfigDiscard (c : Cmd) (t : Nat)
  /-- NET_CONFIG (R283). Carries switch and PTP configuration records into a network configuration set. -/
  | netConfig (c : Cmd) (t : Nat)
  /-- NET_CONFIG_DISCARD (R283). Drops the open or closed network configuration set. -/
  | netConfigDiscard (c : Cmd) (t : Nat)
  /-- MODE_SET_STOP (R95). Requests entry to STOP at the first grid instant at or after a + 20 µs. -/
  | modeSetStop (c : Cmd) (t : Nat)
  /-- MODE_SET_RUN (R95). Requests entry to RUN at the first whole millisecond at or after a + 200 µs. -/
  | modeSetRun (c : Cmd) (t : Nat)
  /-- MODE_SET_HOLD (R95). Requests entry to HOLD in BENCH at the first grid instant at or after a + 20 µs. -/
  | modeSetHold (c : Cmd) (t : Nat)
  /-- FOLIO_STAGE (R171). Delivers one block of a folio with its CRC, starting the checks at the last block. -/
  | folioStage (c : Cmd) (t : Nat)
  /-- FOLIO_SWITCH (R175). Starts the seam search that switches the staged folio in. -/
  | folioSwitch (c : Cmd) (t : Nat)
  /-- TASK_TRIGGER (R87). Releases an event task bound to the command source. -/
  | taskTrigger (c : Cmd) (t : Nat)
  /-- VAR_READ (R406). Reads voted variable values at the owning task's next execution end. -/
  | varRead (c : Cmd) (t : Nat)
  /-- VAR_WRITE (R104). Writes variables at the owning task's first release at or after a + 20 µs. -/
  | varWrite (c : Cmd) (t : Nat)
  /-- FORCE_SET (R109). Forces an IN, TGI, OUT or TGO variable at standstill. -/
  | forceSet (c : Cmd) (t : Nat)
  /-- FORCE_CLEAR (R109). Clears one or every force. -/
  | forceClear (c : Cmd) (t : Nat)
  /-- TGE_ENTRY_ADD (R309). Adds a telegram entry, profile or topology change, applied at the next output commit. -/
  | tgeEntryAdd (c : Cmd) (t : Nat)
  /-- TGE_ENTRY_DEL (R309). Deletes up to 64 telegram entries, applied at the next output commit. -/
  | tgeEntryDel (c : Cmd) (t : Nat)
  /-- CH_CONFIG (R196). Carries channel and group records into a shadow set, closing it with LAST. -/
  | chConfig (c : Cmd) (t : Nat)
  /-- CH_CONFIG_DISCARD (R226). Discards the open or closed shadow set. -/
  | chConfigDiscard (c : Cmd) (t : Nat)
  /-- SSM_PARAM_LOAD (R271). Loads a signed safe stop parameter record into the SSM over the parameter wires. -/
  | ssmParamLoad (c : Cmd) (sigOk : Bool) (t : Nat)
  /-- TIME_SET (R339). Steps the time scale in FREE to a given time and enters HOLDOVER. -/
  | timeSet (c : Cmd) (t : Nat)
  /-- TIME_RESTEP (R340). Steps the time scale to the master again at standstill. -/
  | timeRestep (c : Cmd) (t : Nat)
  /-- RUBRIC_BEGIN (R464). Starts receiving a signed rubric manifest. -/
  | rubricBegin (c : Cmd) (sigOk : Bool) (t : Nat)
  /-- RUBRIC_BLOCK (R465). Writes one block of a rubric part into the element's inactive bank. -/
  | rubricBlock (c : Cmd) (t : Nat)
  /-- RUBRIC_COMMIT (R466). Checks the staged rubric and makes it COMMITTED. -/
  | rubricCommit (c : Cmd) (bad : Option Nat) (folioSig : Bool) (t : Nat)
  /-- RUBRIC_ACTIVATE (R467). Writes the activation record ARMED and schedules the restart. -/
  | rubricActivate (c : Cmd) (readsBack : Bool) (t : Nat)
  /-- RUBRIC_CONFIRM (R470). Confirms a rubric in TRIAL and raises its counter. -/
  | rubricConfirm (c : Cmd) (t : Nat)
  /-- SESSION_OPEN (R394). First phase: the module builds ephemeral keys and a signed reply and derives the session
  keys. -/
  | sessionOpen (c : Cmd) (t : Nat)
  /-- SESSION_OPEN_CREDENTIAL (R446). Second phase: the lanes check the credential and holder signature and grant a
  level. -/
  | sessionOpenCredential (c : Cmd) (sigOk holderOk : Bool) (t : Nat)
  /-- SESSION_CLOSE (R396). Ends the session after its reply. -/
  | sessionClose (c : Cmd) (t : Nat)
  /-- ATTEST (R456). Returns a signed attestation record latched at acceptance with the identity record. -/
  | attest (c : Cmd) (t : Nat)
  /-- OWNER_ENROL (R442). Enrols an owner key into an empty slot with a possession proof. -/
  | ownerEnrol (c : Cmd) (keyOk sigOk : Bool) (t : Nat)
  /-- OWNER_ENROL_REVOKE (R443). Revokes an owner slot, ending its sessions and discarding its staged folio. -/
  | ownerEnrolRevoke (c : Cmd) (t : Nat)
  /-- OWNER_ENROL_RAISE (R443). Raises an anti-rollback counter and discards staged images below it. -/
  | ownerEnrolRaise (c : Cmd) (t : Nat)
  /-- OWNER_LOCK (R449). Moves the module from OWNED to OWNED_LOCKED. -/
  | ownerLock (c : Cmd) (t : Nat)
  /-- OWNER_UNLOCK (R449). Moves the module from OWNED_LOCKED to OWNED at standstill. -/
  | ownerUnlock (c : Cmd) (t : Nat)
  /-- LIFECYCLE_SET (R450). Moves the module into or out of BENCH or into RETIRED. -/
  | lifecycleSet (c : Cmd) (t : Nat)
  /-- DUPLEX_PAIR (R415). Writes the pairing record and enters RESYNC. -/
  | duplexPair (c : Cmd) (t : Nat)
  /-- DUPLEX_UNPAIR (R415). PARTNER 0 unpairs at standstill and the module enters SINGLE. -/
  | duplexUnpair (c : Cmd) (t : Nat)
  /-- DUPLEX_REHEARSE (R433). Schedules a role swap of the pair at W. -/
  | duplexRehearse (c : Cmd) (t : Nat)
  /-- LOG_READ (R531). Returns log records from the ring starting at a given sequence. -/
  | logRead (c : Cmd) (t : Nat)
  /-- DIAG_SNAPSHOT_REGISTERS (R405). Copies every BAR0 register in one CLK_FAB cycle to module memory. -/
  | diagSnapshotRegisters (c : Cmd) (t : Nat)
  /-- DIAG_SNAPSHOT_SLICE (R405). Each voting lane writes a census slice's normalised bytes to module memory. -/
  | diagSnapshotSlice (c : Cmd) (t : Nat)
  /-- INK_SNAP (R300). Copies every inkwell book counter into the snapshot registers in one cycle. -/
  | inkSnap (c : Cmd) (t : Nat)
  /-- INK_CAPTURE (R405). Arms frame capture on a port for a count of frames. -/
  | inkCapture (c : Cmd) (t : Nat)
  /-- INK_CAPTURE_STOP (R405). PORT 0xFF stops frame capture. -/
  | inkCaptureStop (c : Cmd) (t : Nat)
  /-- FENCE_QUEUE (R110). Holds later commands of its queue until every earlier command has replied. -/
  | fenceQueue (c : Cmd) (t : Nat)
  /-- FENCE_COMMIT (R111). Completes when every masked task has committed an execution released at or after a + 50 µs. -/
  | fenceCommit (c : Cmd) (t : Nat)
  /-- FENCE_TIME (R112). Completes when the time scale reaches T + 80 µs. -/
  | fenceTime (c : Cmd) (t : Nat)
  /-- ABORT (R408). Stops a named command before its point of no return, or answers NOTHING_TO_ABORT. -/
  | abort (c : Cmd) (t : Nat)
  /-- CLAIM_OFFER (R419). At g + 30 µs the logic side sends each group its claim offer and complement. -/
  | claimOffer (t : Nat)
  /-- CLAIM_EXCHANGE (R420). At g + 35 µs the field controllers of a paired group exchange claims and decide the hold. -/
  | claimExchange (g : Grp) (peer : Option Word) (t : Nat)
  /-- CBL_LINK_UP (R422). After block lock and 1 ms without a discarded frame the copybook link is up. -/
  | cblLinkUp (t : Nat)
  /-- CBL_LINK_DOWN (R422). 100 µs without a valid block takes the link down and discards tokens in flight. -/
  | cblLinkDown (t : Nat)
  /-- PARTNER_UNREACHABLE (R422). No HELLO arrives for 1 ms and the partner counts as unreachable. -/
  | partnerUnreachable (t : Nat)
  /-- HELLO_SEND (R423). Every 50 µs the module sends a HELLO record over the copybook link. -/
  | helloSend (t : Nat)
  /-- HELLO (R423). A HELLO record from the partner updates its role, offer, hashes and epoch. -/
  | hello (ok : Bool) (r : List Byte) (t : Nat)
  /-- TOKEN (R427). A TOKEN record returns a copy token as APPLIED or DISCARDED. -/
  | token (ok : Bool) (r : List Byte) (t : Nat)
  /-- EPOCH_HEAD (R424). An EPOCH_HEAD record opens a copy epoch at the standby. -/
  | epochHead (ok : Bool) (r : List Byte) (t : Nat)
  /-- LINE (R423). A LINE record of an epoch or input set is written to every voting lane of the standby. -/
  | line (ok : Bool) (r : List Byte) (t : Nat)
  /-- TERM (R425). A TERM record lands an epoch or input set, and the standby compares and applies the epoch's lines. -/
  | term (ok : Bool) (r : List Byte) (t : Nat)
  /-- INPUT_HEAD (R428). An INPUT_HEAD record opens the input set of a release at the standby. -/
  | inputHead (ok : Bool) (r : List Byte) (t : Nat)
  /-- OUTPUT_SIG (R429). An OUTPUT_SIG record is compared with the standby's own output signature. -/
  | outputSig (ok : Bool) (r : List Byte) (t : Nat)
  /-- SCHEDULE (R423). A SCHEDULE record announces, confirms or refuses a seam, swap or mode change. -/
  | schedule (ok : Bool) (r : List Byte) (same : Bool) (t : Nat)
  /-- EPOCH_FREEZE (R424). At the first copy point after a boundary the active freezes the marked lines as a new epoch. -/
  | epochFreeze (t : Nat)
  /-- COPY_BOUNDARY (R424). At a copy boundary the standby sets LAGGING if the previous epoch has not landed. -/
  | copyBoundary (t : Nat)
  /-- SHADOW_RELEASE (R428). The standby releases a task at R + 20 µs on the landed input set or its own snapshot. -/
  | shadowRelease (task t : Nat)
  /-- FULL_SYNC_TIMEOUT (R426). Full synchronisation finds no usable seam within 10 s, or its FINAL epoch misses its
  gap, and starts again. -/
  | fullSyncTimeout (t : Nat)
  /-- REHEARSAL_SWAP (R433). At W both modules change roles. -/
  | rehearsalSwap (t : Nat)
  /-- REHEARSAL_CHECK (R433). At W + 20 µs the swapped claim is checked and DUPLEX_REHEARSE answered OK or CHECK_FAIL. -/
  | rehearsalCheck (partnerOk : Bool) (t : Nat)
  /-- DUP_DIV_CAP_CLEAR (R429). A write of 1 to DUP_DIV_CAP.VALID clears the divergence capture and re-arms it. -/
  | dupDivCapClear
  /-- RNG_HEALTH_FAIL (R437). A random bit generator health test fails and RNG_FAULT is set. -/
  | rngHealthFail
  /-- MEASUREMENT_SUBMIT (R455). A loading stage sends an image's digest and version to the vellum, which holds one
  per entry per start. -/
  | measurementSubmit (part inst version : Nat) (digest : List Byte) (t : Nat)
  /-- SYS_VIOL_CAP_CLEAR (R459). A write of 1 to SYS_VIOL_CAP.VALID clears the violation capture and re-arms it. -/
  | sysViolCapClear
  /-- DEBUG_HALT_REQUEST (R454). A debugger halt, step or resume request acts only while the mode is HOLD. -/
  | debugHaltRequest (l : Lane) (op : Nat) (t : Nat)
  /-- DEBUG_WRITE (R453). A debugger write to a main core is replayed into the checker as a store of the main core. -/
  | debugWrite (l : Lane) (e : Ep) (outside : Bool) (addr : DWord) (size : Nat) (attr : Byte) (data : List DWord) (cells : List (Nat × Byte)) (t : Nat)
  /-- JTAG_INSTRUCTION (R452). An IEEE 1149.1 instruction is loaded, limited to IDCODE and BYPASS outside BENCH. -/
  | jtagInstruction (code : Nat) (t : Nat)
  /-- ACTIVATION_RESET (R467). 10 ms after RUBRIC_ACTIVATE's reply the module performs an announced SYSTEM reset. -/
  | activationReset (t : Nat)
  /-- ELEMENT_START (R468). An element's start stage reads the activation record and starts from its new or old bank,
  updating the record. -/
  | elementStart (part inst : Nat) (ok : Bool) (t : Nat)
  /-- TRIAL_EXPIRE (R470). The 10-minute trial ends unconfirmed and the rubric becomes REVERT_PENDING. -/
  | trialExpire (t : Nat)
  /-- REVERT_RESET (R470). At the first standstill in REVERT_PENDING the module performs the reverting SYSTEM reset. -/
  | revertReset (t : Nat)
  /-- POWER_ON (R481). VIN rises and POR is asserted until VIN has been at or above 10.8 V for 20 ms. -/
  | powerOn (t : Nat)
  /-- BROWN_OUT (R481). VIN at or below 10.2 V for 2 µs asserts an announced POR. -/
  | brownOut (t : Nat)
  /-- RESET_N (R481). RESET_N low for 10 µs asserts an announced SYSTEM reset until it goes high. -/
  | resetN (t : Nat)
  /-- ECC_CRITICAL (R481). A double-bit error in vote tables, lane configuration or queue machinery asserts an
  announced SYSTEM reset. -/
  | eccCritical (t : Nat)
  /-- RPC_PARITY (R481). A parity error in the reset controller's state asserts a SYSTEM reset. -/
  | rpcParity (t : Nat)
  /-- CLOCK_CHECK (R498). Every 10 ms CLK_MGMT is compared with the crystal and a deviation or lock loss asserts CLOCK. -/
  | clockCheck (deviates locked : Bool) (t : Nat)
  /-- RESET_RELEASE (R484). The last source of an overlap is released and the release sequence of its reach runs,
  recording cause and counts. -/
  | resetRelease (source : Nat) (t : Nat)
  /-- DOMAIN_SWITCH_ON (R488). The reset controller switches on the next power domain, at most one per millisecond. -/
  | domainSwitchOn (code : Nat) (t : Nat)
  /-- PERST_HOLD_EXPIRE (R489). PERST_N held asserted for 100 ms switches PD_HOST off. -/
  | perstHoldExpire (since : Nat) (t : Nat)
  /-- PERST_RELEASE (R489). PERST_N is released and PD_HOST switches on within 5 ms. -/
  | perstRelease (t : Nat)
  /-- CONVERTER_TRIP (R490). A field-group converter trips and its domain switches off. -/
  | converterTrip (g : Grp) (t : Nat)
  /-- CONVERTER_RESTART (R490). 1 s after a trip the field-group domain restarts with every channel INACTIVE in the
  blotter state. -/
  | converterRestart (g : Grp) (t : Nat)
  /-- VIN_MEASURE (R491). Every 10 µs VIN is measured and WARN entered or left. -/
  | vinMeasure (mv : Nat) (t : Nat)
  /-- WARNING_WINDOW_END (R495). 100 ms after WARN was last left the in-warning window ends, waiting writes proceed
  and SUPPLY_DIP is logged. -/
  | warningWindowEnd (t : Nat)
  /-- SUPPLY_PIN_CHANGE (R492). A level on STORE_OK or BATT_LOW_N is taken after holding for 1 ms. -/
  | supplyPinChange (battery asserted : Bool) (t : Nat)
  /-- VBAK_MEASURE (R493). VBAK is measured and RPC_VBAK.LOW set below 2.7 V. -/
  | vbakMeasure (mv : Nat) (vinAbsent : Bool) (t : Nat)
  /-- TEMPERATURE_MEASURE (R521). Every 100 ms the cold-face temperature is measured into RPC_TEMP. -/
  | temperatureMeasure (value : BitVec 16) (t : Nat)
  /-- FLASH_REFRESH (R526). A lane or the vellum rewrites a flash page whose read margin has fallen below the
  manufacturing value. -/
  | flashRefresh (t : Nat)
  /-- RAW_TRANSITION (R205). The raw pin state of an input channel changes at a 1 µs read, starting a wetting pulse if
  WETTING is set and restarting the channel's stable run. -/
  | rawTransition (g : Grp) (p : Nat) (level : Pin) (t : Nat)
  /-- EXTERNAL_DRIVE_CLEAR (R238). After 1 ms of readback at 5 V or less, EXTERNAL_DRIVE set under R238 clears. -/
  | externalDriveClear (g : Grp) (p : Nat) (t : Nat)
  /-- REINT_WINDOW_EXPIRE (R68). A re-integration attempt passes 24 h of local monotonic time and leaves the window,
  lowering REINT_24H. -/
  | reintWindowExpire (l : Lane) (t : Nat)
  /-- QUEUE_CONFIG_SET_TIMEOUT (R367). An open queue configuration set receives no packet for 10 s and is dropped, as
  a network set is under R283. -/
  | queueConfigSetTimeout (t : Nat)
  /-- POSTED_CREDIT_RETURN (R363). The host returns posted-write credit and an outbound write that waited for it
  proceeds. -/
  | postedCreditReturn (n : Nat) (t : Nat)
  /-- PCIE_LINK_CHANGE (R344). The PCI Express data link layer comes up after training or goes down, updating BRG_LINK. -/
  | pcieLinkChange (up : Bool) (speed width credit : Nat) (t : Nat)
  /-- RNG_HEALTH_RECOVER (R437). The random bit generator's health tests pass again and RNG_FAULT clears, so first
  phases of SESSION_OPEN are served again. -/
  | rngHealthRecover
  deriving DecidableEq, Repr

end Sys2Proof
end

