-- ==== Sys2Proof/Decode.lean ====
section
/-! DEFINITION. The decoder of opcode-table words, which is empty: the table gives no row any bits, since a block takes
commands, not words. Beside it the instruction that a word of Stroke code spells (R115 to R117, R131). -/

namespace Sys2Proof

/-- The command that a word of `nbits` bits spells by the table's bits: none, since no row has bits. -/
def decodeTableWord (_nbits _w : Nat) : Option Instr := none

/-- The data type of a code (R120); none for a reserved code. -/
def tyOfWord (n : Nat) : Option Ty :=
  [Ty.bool, .int8, .int16, .int32, .int64, .uint8, .uint16, .uint32, .uint64, .real32, .real64, .time][n]?

/-- The instruction that a word of Stroke code with its literal word spells, run for the context `x`: the opcode in
bits [31:24] and three fields (R115, R131); none for an opcode that R131 does not list, or with a field not zero that
R116 marks 0. The commands of the block are not compared with the code's words. See log entry 22 (DESIGN CHOICE). -/
def strokeInstr (x : Ctx) (word lit : Nat) : Option Instr :=
  let op := word / 0x1000000 % 256
  let f1 := word / 0x10000 % 256
  let f2 := word / 0x100 % 256
  let f3 := word % 256
  let d : Reg := BitVec.ofNat 8 f1
  let a : Reg := BitVec.ofNat 8 f2
  let b : Reg := BitVec.ofNat 8 f3
  let imm : Byte := BitVec.ofNat 8 f3
  let when (ok : Bool) (i : Instr) : Option Instr := if ok then some i else none
  let n (i : Instr) := when (f1 == 0 && f2 == 0 && f3 == 0) i
  let r2 (i : Instr) := when (f3 == 0) i
  let var (i : Instr) := when (f2 == 0 && f3 == 0) i
  match op with
  | 0x00 => n (.opNop x) | 0x01 => n (.opEnd x)
  | 0x02 => n (.opJmp x lit)
  | 0x03 => when (f1 == 0 && f3 == 0) (.opBrt x a lit)
  | 0x04 => when (f1 == 0 && f3 == 0) (.opBrf x a lit)
  | 0x05 => some (.opLoop x (BitVec.ofNat 16 (f1 * 256 + f3)) a lit)
  | 0x06 => n (.opCall x lit) | 0x07 => n (.opRet x)
  | 0x08 => when (f1 == 0 && f3 == 0) (.opAssert x a)
  | 0x10 => (tyOfWord f2).map fun ty => .opLdi x d ty imm
  | 0x11 => (tyOfWord f2).bind fun ty => r2 (.opLdl x d ty (BitVec.ofNat 32 lit))
  | 0x12 => r2 (.opMov x d a)
  | 0x13 => var (.opLd x d lit) | 0x14 => var (.opSt x d lit)
  | 0x15 => r2 (.opLdx x d a lit) | 0x16 => r2 (.opStx x d a lit)
  | 0x17 => some (.opCmov x d a b)
  | 0x20 => some (.opAdd x d a b) | 0x21 => some (.opSub x d a b) | 0x22 => some (.opMul x d a b)
  | 0x23 => some (.opDiv x d a b) | 0x24 => some (.opMod x d a b)
  | 0x25 => r2 (.opNeg x d a) | 0x26 => r2 (.opAbs x d a)
  | 0x27 => some (.opAdds x d a b) | 0x28 => some (.opSubs x d a b) | 0x29 => some (.opMuls x d a b)
  | 0x2A => r2 (.opNegs x d a) | 0x2B => r2 (.opAbss x d a)
  | 0x2C => some (.opMin x d a b) | 0x2D => some (.opMax x d a b)
  | 0x2E => some (.opAddi x d a imm) | 0x2F => r2 (.opSqrt x d a)
  | 0x30 => some (.opAnd x d a b) | 0x31 => some (.opOr x d a b) | 0x32 => some (.opXor x d a b) | 0x33 => r2 (.opNot x d a)
  | 0x34 => some (.opShl x d a imm) | 0x35 => some (.opShr x d a imm)
  | 0x36 => some (.opRol x d a imm) | 0x37 => some (.opRor x d a imm)
  | 0x38 => some (.opShlv x d a b) | 0x39 => some (.opShrv x d a b)
  | 0x3A => some (.opBitget x d a imm) | 0x3B => r2 (.opBswap x d a)
  | 0x40 => some (.opEq x d a b) | 0x41 => some (.opNe x d a b) | 0x42 => some (.opLt x d a b)
  | 0x43 => some (.opLe x d a b) | 0x44 => some (.opGt x d a b) | 0x45 => some (.opGe x d a b) | 0x46 => r2 (.opIsnan x d a)
  | 0x50 => some (.opConv x d a imm) | 0x51 => some (.opConvs x d a imm) | 0x52 => some (.opTrunc x d a imm)
  | 0x60 => var (.opNow x d) | 0x61 => var (.opDtime x d)
  | 0x62 => when (f2 == 0) (.opGetf x d imm) | 0x63 => when (f1 == 0 && f2 == 0) (.opClrf x imm)
  | 0x64 => n (.opFenceOut x)
  | 0x70 => r2 (.opTon x d a lit) | 0x71 => r2 (.opTof x d a lit) | 0x72 => r2 (.opTp x d a lit)
  | 0x73 => r2 (.opRtrig x d a lit) | 0x74 => r2 (.opFtrig x d a lit)
  | 0x75 => r2 (.opCtu x d a lit) | 0x76 => r2 (.opCtd x d a lit) | 0x77 => r2 (.opCtud x d a lit)
  | 0x78 => r2 (.opSr x d a lit) | 0x79 => r2 (.opRs x d a lit)
  | 0x7A => r2 (.opHyst x d a lit) | 0x7B => r2 (.opRamp x d a lit) | 0x7C => r2 (.opLimit x d a lit)
  | 0x7D => when (f2 == 0) (.opBlkrd x d imm lit)
  | 0x7E => n (.opBlkrst x lit)
  | _ => none

end Sys2Proof
end

