-- ==== Sys2Proof/Config.lean ====
section
/-! DEFINITION. What a unit of the hardware fixes and the spec leaves open: uninterpreted constants, so that no proof
can lean on a value. Each is named in the assumption log (entries 4 and 6). -/

namespace Sys2Proof

/-- The unit has the ordering code NY3-VCP256-M, else NY3-VCP256-S (R1, SYS_REV.VARIANT). -/
opaque Config.marine : Bool

/-- SYS_REV.MAJOR and SYS_REV.MINOR, which are unit-specific (MGMT.SYS). -/
opaque Config.revision : BitVec 16

/-- The 64-bit serial number of the unit (SYS_SERIAL_LO and SYS_SERIAL_HI). -/
opaque Config.serial : DWord

/-- The module's MAC address (NET_MAC_LO and NET_MAC_HI). -/
opaque Config.mac : BitVec 48

/-- The choice behind MP's IPv4 link-local address, and behind the next one when a station uses the address already
(R282, RFC 3927). -/
opaque Config.linkLocal : Nat → BitVec 16

/-- What the identity record and its endorsement leave to the unit: time of manufacture, keys and signatures (R438), by
byte `i` of the record. -/
opaque Config.identity : Nat → Byte

/-- The assigned manufacturer code of IDCODE (R452). -/
opaque Config.manufacturer : BitVec 11

/-- SHA-384, byte `i` of the digest: a standard's function that the spec names and does not define. -/
opaque Config.sha384 : List Byte → Nat → Byte

/-- The hash of the native image of a folio, given its signed message, in lane number `l` under a version of the lane
firmware (R173). -/
opaque Config.imageHash : List Byte → Nat → Nat → DWord

/-- A value that the spec calls undefined or does not state: the free value number `n`. -/
opaque Config.freeValue : Nat → DWord

/-- The value of frame register `x` that an execution released at `r` has not written (R119: undefined). -/
opaque Config.freeReg : Nat → Nat → DWord

end Sys2Proof
end

