-- ==== Sys2Proof/Machine/RegTable.lean ====
section
/-! DEFINITION. The BAR0 register map: the offset of every register of the spec's register tables (`R.*`), every
named field of them (`F.*`), and the reset word of every register. Offsets, bit ranges and reset values are those of
the tables of chapters 01 to 19; an index argument is the table's own index (task n, port p, queue n, ...). -/

namespace Sys2Proof.Machine


/-! ### Registers of 01_two_trees.md -/

/-- SYS_PART. -/
def R.SYS_PART : Nat := 0x10
def F.SYS_PART_FAMILY : Field := ⟨R.SYS_PART, 31, 16⟩
def F.SYS_PART_DEVICE : Field := ⟨R.SYS_PART, 15, 0⟩
/-- SYS_REV. -/
def R.SYS_REV : Nat := 0x14
def F.SYS_REV_VARIANT : Field := ⟨R.SYS_REV, 23, 16⟩
def F.SYS_REV_MAJOR : Field := ⟨R.SYS_REV, 15, 8⟩
def F.SYS_REV_MINOR : Field := ⟨R.SYS_REV, 7, 0⟩
/-- SYS_SERIAL_LO. -/
def R.SYS_SERIAL_LO : Nat := 0x18
def F.SYS_SERIAL_LO_SERIAL : Field := ⟨R.SYS_SERIAL_LO, 31, 0⟩
/-- SYS_SERIAL_HI. -/
def R.SYS_SERIAL_HI : Nat := 0x1C
def F.SYS_SERIAL_HI_SERIAL : Field := ⟨R.SYS_SERIAL_HI, 31, 0⟩
/-- SYS_IGN_COUNT. -/
def R.SYS_IGN_COUNT : Nat := 0x20
def F.SYS_IGN_COUNT_COUNT : Field := ⟨R.SYS_IGN_COUNT, 31, 0⟩
/-- SYS_IGN_ADDR. -/
def R.SYS_IGN_ADDR : Nat := 0x24
def F.SYS_IGN_ADDR_VALID : Field := ⟨R.SYS_IGN_ADDR, 31, 31⟩
def F.SYS_IGN_ADDR_OFFSET : Field := ⟨R.SYS_IGN_ADDR, 21, 0⟩

/-! ### Registers of 02_lanes_and_vote.md -/

/-- LANE_STATE. -/
def R.LANE_STATE (l : Lane) : Nat := 0x200010 + 0x10000 * l.idx
def F.LANE_STATE_PROBATION (l : Lane) : Field := ⟨R.LANE_STATE l, 19, 19⟩
def F.LANE_STATE_LIMIT (l : Lane) : Field := ⟨R.LANE_STATE l, 18, 18⟩
def F.LANE_STATE_LATENT (l : Lane) : Field := ⟨R.LANE_STATE l, 17, 17⟩
def F.LANE_STATE_REINT_24H (l : Lane) : Field := ⟨R.LANE_STATE l, 15, 12⟩
def F.LANE_STATE_ENCODING (l : Lane) : Field := ⟨R.LANE_STATE l, 9, 8⟩
def F.LANE_STATE_CAUSE (l : Lane) : Field := ⟨R.LANE_STATE l, 7, 4⟩
def F.LANE_STATE_STATE (l : Lane) : Field := ⟨R.LANE_STATE l, 3, 0⟩
/-- LANE_EP0_FAULTS. -/
def R.LANE_EP0_FAULTS (l : Lane) : Nat := 0x200020 + 0x10000 * l.idx
def F.LANE_EP0_FAULTS_PROOF_MISS (l : Lane) : Field := ⟨R.LANE_EP0_FAULTS l, 31, 24⟩
def F.LANE_EP0_FAULTS_SIG_UNRES (l : Lane) : Field := ⟨R.LANE_EP0_FAULTS l, 23, 16⟩
def F.LANE_EP0_FAULTS_SIG_CHK (l : Lane) : Field := ⟨R.LANE_EP0_FAULTS l, 15, 8⟩
def F.LANE_EP0_FAULTS_SIG_MAIN (l : Lane) : Field := ⟨R.LANE_EP0_FAULTS l, 7, 0⟩
/-- LANE_EP1_FAULTS. -/
def R.LANE_EP1_FAULTS (l : Lane) : Nat := 0x200024 + 0x10000 * l.idx
def F.LANE_EP1_FAULTS_PROOF_MISS (l : Lane) : Field := ⟨R.LANE_EP1_FAULTS l, 31, 24⟩
def F.LANE_EP1_FAULTS_SIG_UNRES (l : Lane) : Field := ⟨R.LANE_EP1_FAULTS l, 23, 16⟩
def F.LANE_EP1_FAULTS_SIG_CHK (l : Lane) : Field := ⟨R.LANE_EP1_FAULTS l, 15, 8⟩
def F.LANE_EP1_FAULTS_SIG_MAIN (l : Lane) : Field := ⟨R.LANE_EP1_FAULTS l, 7, 0⟩
/-- LANE_EP0_STALL. -/
def R.LANE_EP0_STALL (l : Lane) : Nat := 0x200028 + 0x10000 * l.idx
def F.LANE_EP0_STALL_CYCLES (l : Lane) : Field := ⟨R.LANE_EP0_STALL l, 31, 0⟩
/-- LANE_EP1_STALL. -/
def R.LANE_EP1_STALL (l : Lane) : Nat := 0x20002C + 0x10000 * l.idx
def F.LANE_EP1_STALL_CYCLES (l : Lane) : Field := ⟨R.LANE_EP1_STALL l, 31, 0⟩
/-- LANE_PROOF. -/
def R.LANE_PROOF (l : Lane) : Nat := 0x200030 + 0x10000 * l.idx
def F.LANE_PROOF_EP1_PASS (l : Lane) : Field := ⟨R.LANE_PROOF l, 31, 16⟩
def F.LANE_PROOF_EP0_PASS (l : Lane) : Field := ⟨R.LANE_PROOF l, 15, 0⟩
/-- LANE_XLAT_HASH_LO. -/
def R.LANE_XLAT_HASH_LO (l : Lane) : Nat := 0x200038 + 0x10000 * l.idx
def F.LANE_XLAT_HASH_LO_HASH (l : Lane) : Field := ⟨R.LANE_XLAT_HASH_LO l, 31, 0⟩
/-- LANE_XLAT_HASH_HI. -/
def R.LANE_XLAT_HASH_HI (l : Lane) : Nat := 0x20003C + 0x10000 * l.idx
def F.LANE_XLAT_HASH_HI_HASH (l : Lane) : Field := ⟨R.LANE_XLAT_HASH_HI l, 31, 0⟩
/-- LANE_REINT. -/
def R.LANE_REINT (l : Lane) : Nat := 0x200040 + 0x10000 * l.idx
def F.LANE_REINT_LAST_DUR (l : Lane) : Field := ⟨R.LANE_REINT l, 31, 16⟩
def F.LANE_REINT_SOURCE (l : Lane) : Field := ⟨R.LANE_REINT l, 15, 14⟩
def F.LANE_REINT_ATTEMPTS (l : Lane) : Field := ⟨R.LANE_REINT l, 13, 0⟩
/-- LANE_CENSUS_SKIP. -/
def R.LANE_CENSUS_SKIP (l : Lane) : Nat := 0x200048 + 0x10000 * l.idx
def F.LANE_CENSUS_SKIP_SLICES (l : Lane) : Field := ⟨R.LANE_CENSUS_SKIP l, 31, 0⟩
/-- VOTE_CTRL. -/
def R.VOTE_CTRL : Nat := 0x80010
def F.VOTE_CTRL_KIND : Field := ⟨R.VOTE_CTRL, 13, 12⟩
def F.VOTE_CTRL_VOTING : Field := ⟨R.VOTE_CTRL, 10, 8⟩
def F.VOTE_CTRL_MODE : Field := ⟨R.VOTE_CTRL, 5, 4⟩
def F.VOTE_CTRL_FAILED : Field := ⟨R.VOTE_CTRL, 1, 1⟩
def F.VOTE_CTRL_EN : Field := ⟨R.VOTE_CTRL, 0, 0⟩
/-- VOTE_FAIL. -/
def R.VOTE_FAIL : Nat := 0x80014
def F.VOTE_FAIL_CAUSE : Field := ⟨R.VOTE_FAIL, 11, 8⟩
def F.VOTE_FAIL_TASK : Field := ⟨R.VOTE_FAIL, 5, 0⟩
/-- VOTE_COMMITS. -/
def R.VOTE_COMMITS : Nat := 0x80018
def F.VOTE_COMMITS_COUNT : Field := ⟨R.VOTE_COMMITS, 31, 0⟩
/-- VOTE_EXCL_A. -/
def R.VOTE_EXCL_A : Nat := 0x80020
def F.VOTE_EXCL_A_LATENT : Field := ⟨R.VOTE_EXCL_A, 31, 24⟩
def F.VOTE_EXCL_A_LOCKSTEP : Field := ⟨R.VOTE_EXCL_A, 23, 16⟩
def F.VOTE_EXCL_A_MISSING : Field := ⟨R.VOTE_EXCL_A, 15, 8⟩
def F.VOTE_EXCL_A_DISAGREE : Field := ⟨R.VOTE_EXCL_A, 7, 0⟩
/-- VOTE_EXCL_B. -/
def R.VOTE_EXCL_B : Nat := 0x80024
def F.VOTE_EXCL_B_LATENT : Field := ⟨R.VOTE_EXCL_B, 31, 24⟩
def F.VOTE_EXCL_B_LOCKSTEP : Field := ⟨R.VOTE_EXCL_B, 23, 16⟩
def F.VOTE_EXCL_B_MISSING : Field := ⟨R.VOTE_EXCL_B, 15, 8⟩
def F.VOTE_EXCL_B_DISAGREE : Field := ⟨R.VOTE_EXCL_B, 7, 0⟩
/-- VOTE_EXCL_C. -/
def R.VOTE_EXCL_C : Nat := 0x80028
def F.VOTE_EXCL_C_LATENT : Field := ⟨R.VOTE_EXCL_C, 31, 24⟩
def F.VOTE_EXCL_C_LOCKSTEP : Field := ⟨R.VOTE_EXCL_C, 23, 16⟩
def F.VOTE_EXCL_C_MISSING : Field := ⟨R.VOTE_EXCL_C, 15, 8⟩
def F.VOTE_EXCL_C_DISAGREE : Field := ⟨R.VOTE_EXCL_C, 7, 0⟩
/-- VOTE_DIS_CAP. -/
def R.VOTE_DIS_CAP : Nat := 0x80030
def F.VOTE_DIS_CAP_VALID : Field := ⟨R.VOTE_DIS_CAP, 31, 31⟩
def F.VOTE_DIS_CAP_ODD : Field := ⟨R.VOTE_DIS_CAP, 24, 22⟩
def F.VOTE_DIS_CAP_TASK : Field := ⟨R.VOTE_DIS_CAP, 21, 16⟩
def F.VOTE_DIS_CAP_OFFSET : Field := ⟨R.VOTE_DIS_CAP, 15, 0⟩
/-- VOTE_DIS_VAL. -/
def R.VOTE_DIS_VAL : Nat := 0x80034
def F.VOTE_DIS_VAL_LANE_C : Field := ⟨R.VOTE_DIS_VAL, 23, 16⟩
def F.VOTE_DIS_VAL_LANE_B : Field := ⟨R.VOTE_DIS_VAL, 15, 8⟩
def F.VOTE_DIS_VAL_LANE_A : Field := ⟨R.VOTE_DIS_VAL, 7, 0⟩
/-- VOTE_DIS_OFF. -/
def R.VOTE_DIS_OFF : Nat := 0x80038
def F.VOTE_DIS_OFF_SEG : Field := ⟨R.VOTE_DIS_OFF, 31, 31⟩
def F.VOTE_DIS_OFF_OFFSET : Field := ⟨R.VOTE_DIS_OFF, 21, 0⟩
/-- CENSUS_PASSES. -/
def R.CENSUS_PASSES : Nat := 0x80040
def F.CENSUS_PASSES_COUNT : Field := ⟨R.CENSUS_PASSES, 31, 0⟩
/-- CENSUS_LATENT. -/
def R.CENSUS_LATENT : Nat := 0x80044
def F.CENSUS_LATENT_NO_MAJ : Field := ⟨R.CENSUS_LATENT, 31, 24⟩
def F.CENSUS_LATENT_LANE_C : Field := ⟨R.CENSUS_LATENT, 23, 16⟩
def F.CENSUS_LATENT_LANE_B : Field := ⟨R.CENSUS_LATENT, 15, 8⟩
def F.CENSUS_LATENT_LANE_A : Field := ⟨R.CENSUS_LATENT, 7, 0⟩
/-- CENSUS_CAP. -/
def R.CENSUS_CAP : Nat := 0x80048
def F.CENSUS_CAP_VALID : Field := ⟨R.CENSUS_CAP, 31, 31⟩
def F.CENSUS_CAP_ODD : Field := ⟨R.CENSUS_CAP, 24, 22⟩
def F.CENSUS_CAP_TASK : Field := ⟨R.CENSUS_CAP, 21, 16⟩
def F.CENSUS_CAP_SLICE : Field := ⟨R.CENSUS_CAP, 15, 0⟩

/-! ### Registers of 03_ductus_cycle.md -/

/-- LANE_ADMIT. -/
def R.LANE_ADMIT (l : Lane) : Nat := 0x200050 + 0x10000 * l.idx
def F.LANE_ADMIT_REFUSED (l : Lane) : Field := ⟨R.LANE_ADMIT l, 31, 31⟩
def F.LANE_ADMIT_REASON (l : Lane) : Field := ⟨R.LANE_ADMIT l, 30, 28⟩
def F.LANE_ADMIT_TASK (l : Lane) : Field := ⟨R.LANE_ADMIT l, 27, 22⟩
def F.LANE_ADMIT_EP1_LOAD (l : Lane) : Field := ⟨R.LANE_ADMIT l, 19, 10⟩
def F.LANE_ADMIT_EP0_LOAD (l : Lane) : Field := ⟨R.LANE_ADMIT l, 9, 0⟩
/-- TASK_STAT. -/
def R.TASK_STAT (l : Lane) (n : Nat) : Nat := 0x200100 + 0x10000 * l.idx + 0x10 * n
def F.TASK_STAT_LIMIT (l : Lane) (n : Nat) : Field := ⟨R.TASK_STAT l n, 23, 20⟩
def F.TASK_STAT_CONSEC (l : Lane) (n : Nat) : Field := ⟨R.TASK_STAT l n, 19, 16⟩
def F.TASK_STAT_FAULT (l : Lane) (n : Nat) : Field := ⟨R.TASK_STAT l n, 15, 15⟩
def F.TASK_STAT_DIVZ (l : Lane) (n : Nat) : Field := ⟨R.TASK_STAT l n, 14, 14⟩
def F.TASK_STAT_EVENT (l : Lane) (n : Nat) : Field := ⟨R.TASK_STAT l n, 13, 13⟩
def F.TASK_STAT_EP (l : Lane) (n : Nat) : Field := ⟨R.TASK_STAT l n, 12, 12⟩
def F.TASK_STAT_PRIORITY (l : Lane) (n : Nat) : Field := ⟨R.TASK_STAT l n, 11, 7⟩
def F.TASK_STAT_PENDING (l : Lane) (n : Nat) : Field := ⟨R.TASK_STAT l n, 3, 3⟩
def F.TASK_STAT_STATE (l : Lane) (n : Nat) : Field := ⟨R.TASK_STAT l n, 2, 0⟩
/-- TASK_RESP_LAST. -/
def R.TASK_RESP_LAST (l : Lane) (n : Nat) : Nat := 0x200104 + 0x10000 * l.idx + 0x10 * n
def F.TASK_RESP_LAST_TIME (l : Lane) (n : Nat) : Field := ⟨R.TASK_RESP_LAST l n, 31, 0⟩
/-- TASK_RESP_MAX. -/
def R.TASK_RESP_MAX (l : Lane) (n : Nat) : Nat := 0x200108 + 0x10000 * l.idx + 0x10 * n
def F.TASK_RESP_MAX_TIME (l : Lane) (n : Nat) : Field := ⟨R.TASK_RESP_MAX l n, 31, 0⟩
/-- TASK_OVR. -/
def R.TASK_OVR (l : Lane) (n : Nat) : Nat := 0x20010C + 0x10000 * l.idx + 0x10 * n
def F.TASK_OVR_OVERRUNS (l : Lane) (n : Nat) : Field := ⟨R.TASK_OVR l n, 31, 16⟩
def F.TASK_OVR_EVT_MERGED (l : Lane) (n : Nat) : Field := ⟨R.TASK_OVR l n, 15, 0⟩
/-- MODE_STAT. -/
def R.MODE_STAT : Nat := 0x80050
def F.MODE_STAT_CHANGES : Field := ⟨R.MODE_STAT, 31, 16⟩
def F.MODE_STAT_TASK : Field := ⟨R.MODE_STAT, 13, 8⟩
def F.MODE_STAT_STOP_CAUSE : Field := ⟨R.MODE_STAT, 3, 0⟩
/-- MODE_RUN_ENTRY. -/
def R.MODE_RUN_ENTRY : Nat := 0x80054
def F.MODE_RUN_ENTRY_SECONDS : Field := ⟨R.MODE_RUN_ENTRY, 31, 0⟩

/-! ### Registers of 04_stroke_code.md -/

/-- LANE_VERIFY_STAT. -/
def R.LANE_VERIFY_STAT (l : Lane) : Nat := 0x200058 + 0x10000 * l.idx
def F.LANE_VERIFY_STAT_REFUSED (l : Lane) : Field := ⟨R.LANE_VERIFY_STAT l, 31, 31⟩
def F.LANE_VERIFY_STAT_TASK (l : Lane) : Field := ⟨R.LANE_VERIFY_STAT l, 13, 8⟩
def F.LANE_VERIFY_STAT_RULE (l : Lane) : Field := ⟨R.LANE_VERIFY_STAT l, 4, 0⟩
/-- LANE_VERIFY_WORD. -/
def R.LANE_VERIFY_WORD (l : Lane) : Nat := 0x20005C + 0x10000 * l.idx
def F.LANE_VERIFY_WORD_WORD (l : Lane) : Field := ⟨R.LANE_VERIFY_WORD l, 23, 0⟩
/-- TASK_FAULT. -/
def R.TASK_FAULT (l : Lane) (n : Nat) : Nat := 0x200500 + 0x10000 * l.idx + 0x4 * n
def F.TASK_FAULT_CAUSE (l : Lane) (n : Nat) : Field := ⟨R.TASK_FAULT l n, 31, 28⟩
def F.TASK_FAULT_WORD (l : Lane) (n : Nat) : Field := ⟨R.TASK_FAULT l n, 23, 0⟩

/-! ### Registers of 05_folio_and_online_change.md -/

/-- FOLIO_STAT. -/
def R.FOLIO_STAT : Nat := 0x80060
def F.FOLIO_STAT_SWITCHES : Field := ⟨R.FOLIO_STAT, 31, 16⟩
def F.FOLIO_STAT_LAST_RESULT : Field := ⟨R.FOLIO_STAT, 11, 8⟩
def F.FOLIO_STAT_STAGED : Field := ⟨R.FOLIO_STAT, 5, 4⟩
def F.FOLIO_STAT_PENDING : Field := ⟨R.FOLIO_STAT, 3, 3⟩
def F.FOLIO_STAT_RUNNING : Field := ⟨R.FOLIO_STAT, 2, 2⟩
def F.FOLIO_STAT_SLOT : Field := ⟨R.FOLIO_STAT, 1, 1⟩
/-- FOLIO_CARRY. -/
def R.FOLIO_CARRY : Nat := 0x80064
def F.FOLIO_CARRY_BYTES : Field := ⟨R.FOLIO_CARRY, 31, 0⟩
/-- FOLIO_CARRY_CNT. -/
def R.FOLIO_CARRY_CNT : Nat := 0x80068
def F.FOLIO_CARRY_CNT_SATURATED : Field := ⟨R.FOLIO_CARRY_CNT, 31, 20⟩
def F.FOLIO_CARRY_CNT_SEEDED : Field := ⟨R.FOLIO_CARRY_CNT, 19, 8⟩
def F.FOLIO_CARRY_CNT_EVT_DROPPED : Field := ⟨R.FOLIO_CARRY_CNT, 7, 0⟩
/-- FOLIO_SEAM_SEC. -/
def R.FOLIO_SEAM_SEC : Nat := 0x8006C
def F.FOLIO_SEAM_SEC_VALUE : Field := ⟨R.FOLIO_SEAM_SEC, 31, 0⟩
/-- FOLIO_SEAM_NS. -/
def R.FOLIO_SEAM_NS : Nat := 0x80070
def F.FOLIO_SEAM_NS_VALUE : Field := ⟨R.FOLIO_SEAM_NS, 31, 0⟩
/-- FOLIO_RUN_ID0. -/
def R.FOLIO_RUN_ID0 : Nat := 0x80080
def F.FOLIO_RUN_ID0_ID : Field := ⟨R.FOLIO_RUN_ID0, 31, 0⟩
/-- FOLIO_RUN_ID1. -/
def R.FOLIO_RUN_ID1 : Nat := 0x80084
def F.FOLIO_RUN_ID1_ID : Field := ⟨R.FOLIO_RUN_ID1, 31, 0⟩
/-- FOLIO_RUN_ID2. -/
def R.FOLIO_RUN_ID2 : Nat := 0x80088
def F.FOLIO_RUN_ID2_ID : Field := ⟨R.FOLIO_RUN_ID2, 31, 0⟩
/-- FOLIO_RUN_ID3. -/
def R.FOLIO_RUN_ID3 : Nat := 0x8008C
def F.FOLIO_RUN_ID3_ID : Field := ⟨R.FOLIO_RUN_ID3, 31, 0⟩
/-- FOLIO_STG_ID0. -/
def R.FOLIO_STG_ID0 : Nat := 0x80090
def F.FOLIO_STG_ID0_ID : Field := ⟨R.FOLIO_STG_ID0, 31, 0⟩
/-- FOLIO_STG_ID1. -/
def R.FOLIO_STG_ID1 : Nat := 0x80094
def F.FOLIO_STG_ID1_ID : Field := ⟨R.FOLIO_STG_ID1, 31, 0⟩
/-- FOLIO_STG_ID2. -/
def R.FOLIO_STG_ID2 : Nat := 0x80098
def F.FOLIO_STG_ID2_ID : Field := ⟨R.FOLIO_STG_ID2, 31, 0⟩
/-- FOLIO_STG_ID3. -/
def R.FOLIO_STG_ID3 : Nat := 0x8009C
def F.FOLIO_STG_ID3_ID : Field := ⟨R.FOLIO_STG_ID3, 31, 0⟩
/-- FOLIO_IOMIS. -/
def R.FOLIO_IOMIS : Nat := 0x800A0
def F.FOLIO_IOMIS_VALID : Field := ⟨R.FOLIO_IOMIS, 31, 31⟩
def F.FOLIO_IOMIS_CHANNEL : Field := ⟨R.FOLIO_IOMIS, 23, 16⟩
def F.FOLIO_IOMIS_BINDINGS : Field := ⟨R.FOLIO_IOMIS, 15, 0⟩
/-- LANE_STAGE. -/
def R.LANE_STAGE (l : Lane) : Nat := 0x200060 + 0x10000 * l.idx
def F.LANE_STAGE_RESULT (l : Lane) : Field := ⟨R.LANE_STAGE l, 31, 28⟩
def F.LANE_STAGE_SECTION (l : Lane) : Field := ⟨R.LANE_STAGE l, 27, 24⟩
def F.LANE_STAGE_RECORD (l : Lane) : Field := ⟨R.LANE_STAGE l, 23, 0⟩

/-! ### Registers of 06_field_channels.md -/

/-- FIO_LINK. -/
def R.FIO_LINK (g : Grp) : Nat := 0x300010 + 0x10000 * g.idx
def F.FIO_LINK_UP (g : Grp) : Field := ⟨R.FIO_LINK g, 31, 31⟩
def F.FIO_LINK_CLAIM (g : Grp) : Field := ⟨R.FIO_LINK g, 30, 30⟩
def F.FIO_LINK_BLOTTER (g : Grp) : Field := ⟨R.FIO_LINK g, 29, 29⟩
def F.FIO_LINK_DISABLED (g : Grp) : Field := ⟨R.FIO_LINK g, 28, 28⟩
def F.FIO_LINK_SET (g : Grp) : Field := ⟨R.FIO_LINK g, 7, 0⟩
/-- FIO_LINK_ERR. -/
def R.FIO_LINK_ERR (g : Grp) : Nat := 0x300014 + 0x10000 * g.idx
def F.FIO_LINK_ERR_FL_BAD (g : Grp) : Field := ⟨R.FIO_LINK_ERR g, 31, 16⟩
def F.FIO_LINK_ERR_LF_BAD (g : Grp) : Field := ⟨R.FIO_LINK_ERR g, 15, 0⟩
/-- FIO_SHADOW. -/
def R.FIO_SHADOW (g : Grp) : Nat := 0x300018 + 0x10000 * g.idx
def F.FIO_SHADOW_STATE (g : Grp) : Field := ⟨R.FIO_SHADOW g, 31, 28⟩
def F.FIO_SHADOW_LAST_RESULT (g : Grp) : Field := ⟨R.FIO_SHADOW g, 27, 24⟩
def F.FIO_SHADOW_SET (g : Grp) : Field := ⟨R.FIO_SHADOW g, 23, 16⟩
def F.FIO_SHADOW_RECORDS (g : Grp) : Field := ⟨R.FIO_SHADOW g, 8, 0⟩
/-- FIO_TAKEOVERS. -/
def R.FIO_TAKEOVERS (g : Grp) : Nat := 0x30001C + 0x10000 * g.idx
def F.FIO_TAKEOVERS_COUNT (g : Grp) : Field := ⟨R.FIO_TAKEOVERS g, 31, 0⟩
/-- FIO_BANK. -/
def R.FIO_BANK (g : Grp) (n : Nat) : Nat := 0x300020 + 0x10000 * g.idx + 0x4 * n
def F.FIO_BANK_CUT (g : Grp) (n : Nat) : Field := ⟨R.FIO_BANK g n, 31, 31⟩
def F.FIO_BANK_WARN (g : Grp) (n : Nat) : Field := ⟨R.FIO_BANK g n, 30, 30⟩
def F.FIO_BANK_UNUSED (g : Grp) (n : Nat) : Field := ⟨R.FIO_BANK g n, 29, 29⟩
def F.FIO_BANK_VOLTS (g : Grp) (n : Nat) : Field := ⟨R.FIO_BANK g n, 11, 0⟩
/-- FIO_SOE. -/
def R.FIO_SOE (g : Grp) : Nat := 0x300040 + 0x10000 * g.idx
def F.FIO_SOE_LOST (g : Grp) : Field := ⟨R.FIO_SOE g, 31, 16⟩
def F.FIO_SOE_FILL (g : Grp) : Field := ⟨R.FIO_SOE g, 12, 0⟩
/-- FIO_GRPCFG. -/
def R.FIO_GRPCFG (g : Grp) : Nat := 0x300044 + 0x10000 * g.idx
def F.FIO_GRPCFG_BANKS_USED (g : Grp) : Field := ⟨R.FIO_GRPCFG g, 15, 8⟩
def F.FIO_GRPCFG_SILENCE_MS (g : Grp) : Field := ⟨R.FIO_GRPCFG g, 7, 0⟩
/-- CH_CFG. -/
def R.CH_CFG (g : Grp) (n : Nat) : Nat := 0x300100 + 0x10000 * g.idx + 0x10 * n
def F.CH_CFG_FILTER (g : Grp) (n : Nat) : Field := ⟨R.CH_CFG g n, 31, 24⟩
def F.CH_CFG_FLAGS (g : Grp) (n : Nat) : Field := ⟨R.CH_CFG g n, 23, 16⟩
def F.CH_CFG_BLOTTER (g : Grp) (n : Nat) : Field := ⟨R.CH_CFG g n, 13, 12⟩
def F.CH_CFG_STOP (g : Grp) (n : Nat) : Field := ⟨R.CH_CFG g n, 9, 8⟩
def F.CH_CFG_KIND (g : Grp) (n : Nat) : Field := ⟨R.CH_CFG g n, 3, 0⟩
/-- CH_STAT. -/
def R.CH_STAT (g : Grp) (n : Nat) : Nat := 0x300104 + 0x10000 * g.idx + 0x10 * n
def F.CH_STAT_STATUS (g : Grp) (n : Nat) : Field := ⟨R.CH_STAT g n, 7, 0⟩
/-- CH_TEST. -/
def R.CH_TEST (g : Grp) (n : Nat) : Nat := 0x300108 + 0x10000 * g.idx + 0x10 * n
def F.CH_TEST_TEST_S (g : Grp) (n : Nat) : Field := ⟨R.CH_TEST g n, 31, 16⟩
def F.CH_TEST_DARK_US (g : Grp) (n : Nat) : Field := ⟨R.CH_TEST g n, 15, 0⟩
/-- CH_CNT. -/
def R.CH_CNT (g : Grp) (n : Nat) : Nat := 0x30010C + 0x10000 * g.idx + 0x10 * n
def F.CH_CNT_COUNT (g : Grp) (n : Nat) : Field := ⟨R.CH_CNT g n, 31, 0⟩

/-! ### Registers of 07_field_supervision.md -/

/-- FIO_BLOTTER. -/
def R.FIO_BLOTTER (g : Grp) : Nat := 0x300048 + 0x10000 * g.idx
def F.FIO_BLOTTER_ACTIVE (g : Grp) : Field := ⟨R.FIO_BLOTTER g, 31, 31⟩
def F.FIO_BLOTTER_CAUSE (g : Grp) : Field := ⟨R.FIO_BLOTTER g, 30, 28⟩
def F.FIO_BLOTTER_REARMS (g : Grp) : Field := ⟨R.FIO_BLOTTER g, 15, 8⟩
def F.FIO_BLOTTER_ENTRIES (g : Grp) : Field := ⟨R.FIO_BLOTTER g, 7, 0⟩
/-- FIO_SILENCE_MAX. -/
def R.FIO_SILENCE_MAX (g : Grp) : Nat := 0x30004C + 0x10000 * g.idx
def F.FIO_SILENCE_MAX_MICROSECONDS (g : Grp) : Field := ⟨R.FIO_SILENCE_MAX g, 31, 0⟩
/-- FIO_TEST. -/
def R.FIO_TEST (g : Grp) : Nat := 0x300054 + 0x10000 * g.idx
def F.FIO_TEST_DONE (g : Grp) : Field := ⟨R.FIO_TEST g, 31, 16⟩
def F.FIO_TEST_INCOMPLETE (g : Grp) : Field := ⟨R.FIO_TEST g, 15, 0⟩
/-- FIO_BANK_EVT. -/
def R.FIO_BANK_EVT (g : Grp) (n : Nat) : Nat := 0x300060 + 0x10000 * g.idx + 0x4 * n
def F.FIO_BANK_EVT_CUT_CAUSE (g : Grp) (n : Nat) : Field := ⟨R.FIO_BANK_EVT g n, 31, 28⟩
def F.FIO_BANK_EVT_STAGE_POS (g : Grp) (n : Nat) : Field := ⟨R.FIO_BANK_EVT g n, 27, 24⟩
def F.FIO_BANK_EVT_LATCHED (g : Grp) (n : Nat) : Field := ⟨R.FIO_BANK_EVT g n, 23, 23⟩
def F.FIO_BANK_EVT_CUTS (g : Grp) (n : Nat) : Field := ⟨R.FIO_BANK_EVT g n, 15, 8⟩
def F.FIO_BANK_EVT_WARNS (g : Grp) (n : Nat) : Field := ⟨R.FIO_BANK_EVT g n, 7, 0⟩
/-- CH_FAULT. -/
def R.CH_FAULT (g : Grp) (n : Nat) : Nat := 0x300900 + 0x10000 * g.idx + 0x4 * n
def F.CH_FAULT_LAST_TEST (g : Grp) (n : Nat) : Field := ⟨R.CH_FAULT g n, 31, 28⟩
def F.CH_FAULT_OPEN_LOADS (g : Grp) (n : Nat) : Field := ⟨R.CH_FAULT g n, 23, 16⟩
def F.CH_FAULT_EXT_DRIVES (g : Grp) (n : Nat) : Field := ⟨R.CH_FAULT g n, 15, 8⟩
def F.CH_FAULT_OVERLOADS (g : Grp) (n : Nat) : Field := ⟨R.CH_FAULT g n, 7, 0⟩

/-! ### Registers of 08_safe_stop_monitor.md -/

/-- SSM_STATE. -/
def R.SSM_STATE : Nat := 0x380010
def F.SSM_STATE_STATE : Field := ⟨R.SSM_STATE, 31, 28⟩
def F.SSM_STATE_CAUSE : Field := ⟨R.SSM_STATE, 27, 24⟩
def F.SSM_STATE_MOTION : Field := ⟨R.SSM_STATE, 23, 22⟩
def F.SSM_STATE_LOCKED : Field := ⟨R.SSM_STATE, 21, 21⟩
def F.SSM_STATE_STO1_CLOSED : Field := ⟨R.SSM_STATE, 20, 20⟩
def F.SSM_STATE_STO2_CLOSED : Field := ⟨R.SSM_STATE, 19, 19⟩
def F.SSM_STATE_HEARTBEAT : Field := ⟨R.SSM_STATE, 18, 18⟩
def F.SSM_STATE_SREQ : Field := ⟨R.SSM_STATE, 15, 12⟩
def F.SSM_STATE_SREQ_DISC : Field := ⟨R.SSM_STATE, 11, 10⟩
/-- SSM_SPEED_A. -/
def R.SSM_SPEED_A : Nat := 0x380014
def F.SSM_SPEED_A_SPEED : Field := ⟨R.SSM_SPEED_A, 31, 0⟩
/-- SSM_SPEED_B. -/
def R.SSM_SPEED_B : Nat := 0x380018
def F.SSM_SPEED_B_SPEED : Field := ⟨R.SSM_SPEED_B, 31, 0⟩
/-- SSM_PARAM_CRC. -/
def R.SSM_PARAM_CRC : Nat := 0x38001C
def F.SSM_PARAM_CRC_CRC : Field := ⟨R.SSM_PARAM_CRC, 31, 0⟩
/-- SSM_STOP_LAST. -/
def R.SSM_STOP_LAST : Nat := 0x380020
def F.SSM_STOP_LAST_END : Field := ⟨R.SSM_STOP_LAST, 31, 28⟩
def F.SSM_STOP_LAST_DURATION : Field := ⟨R.SSM_STOP_LAST, 27, 0⟩
/-- SSM_V0. -/
def R.SSM_V0 : Nat := 0x380024
def F.SSM_V0_V0 : Field := ⟨R.SSM_V0, 31, 0⟩
/-- SSM_COUNTS. -/
def R.SSM_COUNTS : Nat := 0x380028
def F.SSM_COUNTS_FAULTS : Field := ⟨R.SSM_COUNTS, 31, 24⟩
def F.SSM_COUNTS_ENVELOPE : Field := ⟨R.SSM_COUNTS, 23, 16⟩
def F.SSM_COUNTS_STOPS : Field := ⟨R.SSM_COUNTS, 15, 0⟩
/-- SSM_OSC. -/
def R.SSM_OSC : Nat := 0x38002C
def F.SSM_OSC_DEVIATION : Field := ⟨R.SSM_OSC, 15, 0⟩
/-- STO1_STAT. -/
def R.STO1_STAT : Nat := 0x800C0
def F.STO1_STAT_BENCH_HOLD : Field := ⟨R.STO1_STAT, 11, 11⟩
def F.STO1_STAT_HEARTBEAT : Field := ⟨R.STO1_STAT, 10, 10⟩
def F.STO1_STAT_STO1_CLOSED : Field := ⟨R.STO1_STAT, 9, 9⟩
def F.STO1_STAT_STO2_CLOSED : Field := ⟨R.STO1_STAT, 8, 8⟩
def F.STO1_STAT_TAKING : Field := ⟨R.STO1_STAT, 6, 4⟩
def F.STO1_STAT_PERMIT : Field := ⟨R.STO1_STAT, 2, 0⟩
/-- STO1_DIS. -/
def R.STO1_DIS : Nat := 0x800C4
def F.STO1_DIS_LANE_C : Field := ⟨R.STO1_DIS, 23, 16⟩
def F.STO1_DIS_LANE_B : Field := ⟨R.STO1_DIS, 15, 8⟩
def F.STO1_DIS_LANE_A : Field := ⟨R.STO1_DIS, 7, 0⟩
/-- LANE_STOP. -/
def R.LANE_STOP (l : Lane) : Nat := 0x200070 + 0x10000 * l.idx
def F.LANE_STOP_STATE (l : Lane) : Field := ⟨R.LANE_STOP l, 31, 28⟩
def F.LANE_STOP_CAUSE (l : Lane) : Field := ⟨R.LANE_STOP l, 27, 24⟩
def F.LANE_STOP_MATCH (l : Lane) : Field := ⟨R.LANE_STOP l, 23, 23⟩
def F.LANE_STOP_PERMIT (l : Lane) : Field := ⟨R.LANE_STOP l, 22, 22⟩
def F.LANE_STOP_TAKING (l : Lane) : Field := ⟨R.LANE_STOP l, 21, 21⟩

/-! ### Registers of 09_ports_and_inkwell.md -/

/-- NET_CFG. -/
def R.NET_CFG : Nat := 0xA0010
def F.NET_CFG_STATE : Field := ⟨R.NET_CFG, 31, 28⟩
def F.NET_CFG_LAST_RESULT : Field := ⟨R.NET_CFG, 27, 24⟩
def F.NET_CFG_TAKEOVERS : Field := ⟨R.NET_CFG, 15, 0⟩
/-- NET_FDB. -/
def R.NET_FDB : Nat := 0xA0014
def F.NET_FDB_STATIC : Field := ⟨R.NET_FDB, 28, 16⟩
def F.NET_FDB_DYNAMIC : Field := ⟨R.NET_FDB, 12, 0⟩
/-- NET_FDB_FULL. -/
def R.NET_FDB_FULL : Nat := 0xA0018
def F.NET_FDB_FULL_COUNT : Field := ⟨R.NET_FDB_FULL, 31, 0⟩
/-- NET_MAC_LO. -/
def R.NET_MAC_LO : Nat := 0xA0020
def F.NET_MAC_LO_MAC : Field := ⟨R.NET_MAC_LO, 31, 0⟩
/-- NET_MAC_HI. -/
def R.NET_MAC_HI : Nat := 0xA0024
def F.NET_MAC_HI_MAC : Field := ⟨R.NET_MAC_HI, 31, 0⟩
/-- PORT_STAT. -/
def R.PORT_STAT (n : Nat) : Nat := 0xA0100 + 0x40 * n
def F.PORT_STAT_LINK (n : Nat) : Field := ⟨R.PORT_STAT n, 31, 31⟩
def F.PORT_STAT_STATE (n : Nat) : Field := ⟨R.PORT_STAT n, 30, 29⟩
def F.PORT_STAT_CUT (n : Nat) : Field := ⟨R.PORT_STAT n, 28, 28⟩
def F.PORT_STAT_GATED (n : Nat) : Field := ⟨R.PORT_STAT n, 27, 27⟩
def F.PORT_STAT_PCP (n : Nat) : Field := ⟨R.PORT_STAT n, 26, 24⟩
def F.PORT_STAT_PVID (n : Nat) : Field := ⟨R.PORT_STAT n, 11, 0⟩
/-- PORT_RX. -/
def R.PORT_RX (n : Nat) : Nat := 0xA0104 + 0x40 * n
def F.PORT_RX_FRAMES (n : Nat) : Field := ⟨R.PORT_RX n, 31, 0⟩
/-- PORT_TX. -/
def R.PORT_TX (n : Nat) : Nat := 0xA0108 + 0x40 * n
def F.PORT_TX_FRAMES (n : Nat) : Field := ⟨R.PORT_TX n, 31, 0⟩
/-- PORT_DROP_IN. -/
def R.PORT_DROP_IN (n : Nat) : Nat := 0xA010C + 0x40 * n
def F.PORT_DROP_IN_NO_CELL (n : Nat) : Field := ⟨R.PORT_DROP_IN n, 31, 16⟩
def F.PORT_DROP_IN_FORMAT (n : Nat) : Field := ⟨R.PORT_DROP_IN n, 15, 0⟩
/-- PORT_DROP_FWD. -/
def R.PORT_DROP_FWD (n : Nat) : Nat := 0xA0110 + 0x40 * n
def F.PORT_DROP_FWD_VLAN (n : Nat) : Field := ⟨R.PORT_DROP_FWD n, 31, 16⟩
def F.PORT_DROP_FWD_FLOOD_LIMIT (n : Nat) : Field := ⟨R.PORT_DROP_FWD n, 15, 0⟩
/-- PORT_DROP_OUT. -/
def R.PORT_DROP_OUT (n : Nat) : Nat := 0xA0114 + 0x40 * n
def F.PORT_DROP_OUT_QUEUE_LIMIT (n : Nat) : Field := ⟨R.PORT_DROP_OUT n, 31, 16⟩
def F.PORT_DROP_OUT_LINK_DOWN (n : Nat) : Field := ⟨R.PORT_DROP_OUT n, 15, 0⟩
/-- PORT_DROP_GATE. -/
def R.PORT_DROP_GATE (n : Nat) : Nat := 0xA0118 + 0x40 * n
def F.PORT_DROP_GATE_GATE_OVERSIZE (n : Nat) : Field := ⟨R.PORT_DROP_GATE n, 31, 16⟩
def F.PORT_DROP_GATE_STOMPED (n : Nat) : Field := ⟨R.PORT_DROP_GATE n, 15, 0⟩
/-- INK_FREE_SHARED. -/
def R.INK_FREE_SHARED : Nat := 0xB0010
def F.INK_FREE_SHARED_CELLS : Field := ⟨R.INK_FREE_SHARED, 15, 0⟩
/-- INK_HELD_INGRESS. -/
def R.INK_HELD_INGRESS : Nat := 0xB0014
def F.INK_HELD_INGRESS_CELLS : Field := ⟨R.INK_HELD_INGRESS, 15, 0⟩
/-- INK_HELD_QUEUES. -/
def R.INK_HELD_QUEUES : Nat := 0xB0018
def F.INK_HELD_QUEUES_CELLS : Field := ⟨R.INK_HELD_QUEUES, 15, 0⟩
/-- INK_HELD_ENGINE. -/
def R.INK_HELD_ENGINE : Nat := 0xB001C
def F.INK_HELD_ENGINE_CELLS : Field := ⟨R.INK_HELD_ENGINE, 15, 0⟩
/-- INK_RES_FREE. -/
def R.INK_RES_FREE (n : Nat) : Nat := 0xB0020 + 0x4 * n
def F.INK_RES_FREE_CELLS (n : Nat) : Field := ⟨R.INK_RES_FREE n, 12, 0⟩
/-- INK_CFG. -/
def R.INK_CFG : Nat := 0xB0040
def F.INK_CFG_ALPHA : Field := ⟨R.INK_CFG, 7, 4⟩
def F.INK_CFG_RES_MIN_TC : Field := ⟨R.INK_CFG, 2, 0⟩
/-- INK_SNAP_SEQ. -/
def R.INK_SNAP_SEQ : Nat := 0xB0080
def F.INK_SNAP_SEQ_SEQ : Field := ⟨R.INK_SNAP_SEQ, 31, 0⟩
/-- INK_SNAP_FREE_SHARED. -/
def R.INK_SNAP_FREE_SHARED : Nat := 0xB0084
def F.INK_SNAP_FREE_SHARED_CELLS : Field := ⟨R.INK_SNAP_FREE_SHARED, 15, 0⟩
/-- INK_SNAP_HELD_INGRESS. -/
def R.INK_SNAP_HELD_INGRESS : Nat := 0xB0088
def F.INK_SNAP_HELD_INGRESS_CELLS : Field := ⟨R.INK_SNAP_HELD_INGRESS, 15, 0⟩
/-- INK_SNAP_HELD_QUEUES. -/
def R.INK_SNAP_HELD_QUEUES : Nat := 0xB008C
def F.INK_SNAP_HELD_QUEUES_CELLS : Field := ⟨R.INK_SNAP_HELD_QUEUES, 15, 0⟩
/-- INK_SNAP_HELD_ENGINE. -/
def R.INK_SNAP_HELD_ENGINE : Nat := 0xB0090
def F.INK_SNAP_HELD_ENGINE_CELLS : Field := ⟨R.INK_SNAP_HELD_ENGINE, 15, 0⟩
/-- INK_SNAP_RES_FREE. -/
def R.INK_SNAP_RES_FREE (n : Nat) : Nat := 0xB00A0 + 0x4 * n
def F.INK_SNAP_RES_FREE_CELLS (n : Nat) : Field := ⟨R.INK_SNAP_RES_FREE n, 15, 0⟩

/-! ### Registers of 10_telegram_engine.md -/

/-- TGE_TABLE. -/
def R.TGE_TABLE : Nat := 0xC0010
def F.TGE_TABLE_USED : Field := ⟨R.TGE_TABLE, 30, 16⟩
def F.TGE_TABLE_FREE : Field := ⟨R.TGE_TABLE, 14, 0⟩
/-- TGE_MATCH. -/
def R.TGE_MATCH : Nat := 0xC0014
def F.TGE_MATCH_OVF : Field := ⟨R.TGE_MATCH, 24, 16⟩
def F.TGE_MATCH_BUCKET : Field := ⟨R.TGE_MATCH, 14, 0⟩
/-- TGE_CHG. -/
def R.TGE_CHG : Nat := 0xC0018
def F.TGE_CHG_LAST_RESULT : Field := ⟨R.TGE_CHG, 27, 24⟩
def F.TGE_CHG_PENDING : Field := ⟨R.TGE_CHG, 23, 16⟩
def F.TGE_CHG_APPLIED : Field := ⟨R.TGE_CHG, 15, 0⟩
/-- TGE_TOPO0. -/
def R.TGE_TOPO0 : Nat := 0xC0020
def F.TGE_TOPO0_COUNTER : Field := ⟨R.TGE_TOPO0, 31, 0⟩
/-- TGE_TOPO1. -/
def R.TGE_TOPO1 : Nat := 0xC0024
def F.TGE_TOPO1_COUNTER : Field := ⟨R.TGE_TOPO1, 31, 0⟩
/-- TGE_RX_ACCEPT. -/
def R.TGE_RX_ACCEPT : Nat := 0xC0030
def F.TGE_RX_ACCEPT_COUNT : Field := ⟨R.TGE_RX_ACCEPT, 31, 0⟩
/-- TGE_PUB_SENT. -/
def R.TGE_PUB_SENT : Nat := 0xC0040
def F.TGE_PUB_SENT_COUNT : Field := ⟨R.TGE_PUB_SENT, 31, 0⟩
/-- TGE_PUB_DROP. -/
def R.TGE_PUB_DROP : Nat := 0xC0044
def F.TGE_PUB_DROP_COUNT : Field := ⟨R.TGE_PUB_DROP, 31, 0⟩
/-- TGE_REJ_A. -/
def R.TGE_REJ_A : Nat := 0xC0034
def F.TGE_REJ_A_HIGH : Field := ⟨R.TGE_REJ_A, 31, 16⟩
def F.TGE_REJ_A_LOW : Field := ⟨R.TGE_REJ_A, 15, 0⟩
/-- TGE_REJ_B. -/
def R.TGE_REJ_B : Nat := 0xC0038
def F.TGE_REJ_B_HIGH : Field := ⟨R.TGE_REJ_B, 31, 16⟩
def F.TGE_REJ_B_LOW : Field := ⟨R.TGE_REJ_B, 15, 0⟩
/-- TGE_REJ_C. -/
def R.TGE_REJ_C : Nat := 0xC003C
def F.TGE_REJ_C_HIGH : Field := ⟨R.TGE_REJ_C, 31, 16⟩
def F.TGE_REJ_C_LOW : Field := ⟨R.TGE_REJ_C, 15, 0⟩
/-- TGE_FRESH. -/
def R.TGE_FRESH : Nat := 0xC0048
def F.TGE_FRESH_SUBST : Field := ⟨R.TGE_FRESH, 31, 16⟩
def F.TGE_FRESH_STALE : Field := ⟨R.TGE_FRESH, 15, 0⟩
/-- TGE_REJ_CAP. -/
def R.TGE_REJ_CAP : Nat := 0xC0050
def F.TGE_REJ_CAP_VALID : Field := ⟨R.TGE_REJ_CAP, 31, 31⟩
def F.TGE_REJ_CAP_CAUSE : Field := ⟨R.TGE_REJ_CAP, 30, 28⟩
def F.TGE_REJ_CAP_PORT : Field := ⟨R.TGE_REJ_CAP, 26, 24⟩
def F.TGE_REJ_CAP_ENTRY : Field := ⟨R.TGE_REJ_CAP, 13, 0⟩
/-- TGE_ENT_STAT. -/
def R.TGE_ENT_STAT (n : Nat) : Nat := 0xC8000 + 0x4 * n
def F.TGE_ENT_STAT_KIND (n : Nat) : Field := ⟨R.TGE_ENT_STAT n, 15, 14⟩
def F.TGE_ENT_STAT_STATE (n : Nat) : Field := ⟨R.TGE_ENT_STAT n, 13, 11⟩
def F.TGE_ENT_STAT_TOPO_REJ (n : Nat) : Field := ⟨R.TGE_ENT_STAT n, 10, 10⟩
def F.TGE_ENT_STAT_MISSED (n : Nat) : Field := ⟨R.TGE_ENT_STAT n, 7, 0⟩

/-! ### Registers of 11_network_time.md -/

/-- TIME_STATE. -/
def R.TIME_STATE : Nat := 0x90010
def F.TIME_STATE_STATE : Field := ⟨R.TIME_STATE, 31, 28⟩
def F.TIME_STATE_TIME_FAULT : Field := ⟨R.TIME_STATE, 27, 27⟩
def F.TIME_STATE_PHASE_OK : Field := ⟨R.TIME_STATE, 26, 26⟩
def F.TIME_STATE_GRANDMASTER : Field := ⟨R.TIME_STATE, 25, 25⟩
def F.TIME_STATE_STEP_PENDING : Field := ⟨R.TIME_STATE, 24, 24⟩
def F.TIME_STATE_ROLE : Field := ⟨R.TIME_STATE, 23, 20⟩
def F.TIME_STATE_SLAVE_PORT : Field := ⟨R.TIME_STATE, 19, 16⟩
def F.TIME_STATE_STEPS : Field := ⟨R.TIME_STATE, 15, 0⟩
/-- TIME_SEC_LO. -/
def R.TIME_SEC_LO : Nat := 0x90014
def F.TIME_SEC_LO_VALUE : Field := ⟨R.TIME_SEC_LO, 31, 0⟩
/-- TIME_SEC_HI. -/
def R.TIME_SEC_HI : Nat := 0x90018
def F.TIME_SEC_HI_VALUE : Field := ⟨R.TIME_SEC_HI, 31, 0⟩
/-- TIME_NS. -/
def R.TIME_NS : Nat := 0x9001C
def F.TIME_NS_VALUE : Field := ⟨R.TIME_NS, 31, 0⟩
/-- TIME_OFFSET. -/
def R.TIME_OFFSET : Nat := 0x90020
def F.TIME_OFFSET_NS : Field := ⟨R.TIME_OFFSET, 31, 0⟩
/-- TIME_RATE. -/
def R.TIME_RATE : Nat := 0x90024
def F.TIME_RATE_PPB : Field := ⟨R.TIME_RATE, 31, 0⟩
/-- TIME_STEP_LAST. -/
def R.TIME_STEP_LAST : Nat := 0x90028
def F.TIME_STEP_LAST_SECONDS : Field := ⟨R.TIME_STEP_LAST, 31, 0⟩
/-- TIME_PPSIN. -/
def R.TIME_PPSIN : Nat := 0x90030
def F.TIME_PPSIN_VALID : Field := ⟨R.TIME_PPSIN, 31, 31⟩
def F.TIME_PPSIN_NS : Field := ⟨R.TIME_PPSIN, 29, 0⟩
/-- PTP_PORT_STAT. -/
def R.PTP_PORT_STAT (n : Nat) : Nat := 0x90100 + 0x20 * n
def F.PTP_PORT_STAT_PORT_STATE (n : Nat) : Field := ⟨R.PTP_PORT_STAT n, 31, 28⟩
def F.PTP_PORT_STAT_P2P (n : Nat) : Field := ⟨R.PTP_PORT_STAT n, 27, 27⟩
def F.PTP_PORT_STAT_TC (n : Nat) : Field := ⟨R.PTP_PORT_STAT n, 26, 26⟩
def F.PTP_PORT_STAT_IGNORED (n : Nat) : Field := ⟨R.PTP_PORT_STAT n, 15, 0⟩
/-- PTP_ING_LAT. -/
def R.PTP_ING_LAT (n : Nat) : Nat := 0x90104 + 0x20 * n
def F.PTP_ING_LAT_PS (n : Nat) : Field := ⟨R.PTP_ING_LAT n, 31, 0⟩
/-- PTP_EGR_LAT. -/
def R.PTP_EGR_LAT (n : Nat) : Nat := 0x90108 + 0x20 * n
def F.PTP_EGR_LAT_PS (n : Nat) : Field := ⟨R.PTP_EGR_LAT n, 31, 0⟩
/-- PTP_ASYM. -/
def R.PTP_ASYM (n : Nat) : Nat := 0x9010C + 0x20 * n
def F.PTP_ASYM_PS (n : Nat) : Field := ⟨R.PTP_ASYM n, 31, 0⟩
/-- PTP_PATH_DELAY. -/
def R.PTP_PATH_DELAY (n : Nat) : Nat := 0x90110 + 0x20 * n
def F.PTP_PATH_DELAY_NS (n : Nat) : Field := ⟨R.PTP_PATH_DELAY n, 31, 0⟩

/-! ### Registers of 12_host_bridge.md -/

/-- BRG_LINK. -/
def R.BRG_LINK : Nat := 0x100010
def F.BRG_LINK_UP : Field := ⟨R.BRG_LINK, 31, 31⟩
def F.BRG_LINK_DSTATE : Field := ⟨R.BRG_LINK, 30, 29⟩
def F.BRG_LINK_SPEED : Field := ⟨R.BRG_LINK, 15, 12⟩
def F.BRG_LINK_WIDTH : Field := ⟨R.BRG_LINK, 7, 0⟩
/-- BRG_ERR. -/
def R.BRG_ERR : Nat := 0x100014
def F.BRG_ERR_CA : Field := ⟨R.BRG_ERR, 31, 16⟩
def F.BRG_ERR_UR : Field := ⟨R.BRG_ERR, 15, 0⟩
/-- BRG_PW_CAP. -/
def R.BRG_PW_CAP : Nat := 0x100018
def F.BRG_PW_CAP_VALID : Field := ⟨R.BRG_PW_CAP, 31, 31⟩
def F.BRG_PW_CAP_CAUSE : Field := ⟨R.BRG_PW_CAP, 30, 29⟩
/-- BRG_PW_ADDR. -/
def R.BRG_PW_ADDR : Nat := 0x10001C
def F.BRG_PW_ADDR_OFFSET : Field := ⟨R.BRG_PW_ADDR, 29, 0⟩
/-- BRG_PW_COUNT. -/
def R.BRG_PW_COUNT : Nat := 0x100020
def F.BRG_PW_COUNT_COUNT : Field := ⟨R.BRG_PW_COUNT, 31, 0⟩
/-- BRG_EVT. -/
def R.BRG_EVT : Nat := 0x100024
def F.BRG_EVT_CAUSE : Field := ⟨R.BRG_EVT, 10, 0⟩
/-- BRG_CREDIT. -/
def R.BRG_CREDIT : Nat := 0x100028
def F.BRG_CREDIT_TAGS : Field := ⟨R.BRG_CREDIT, 21, 16⟩
def F.BRG_CREDIT_RESERVED_B : Field := ⟨R.BRG_CREDIT, 15, 0⟩
/-- WIN_CFG. -/
def R.WIN_CFG (n : Nat) : Nat := 0x100100 + 0x10 * n
def F.WIN_CFG_ENABLE (n : Nat) : Field := ⟨R.WIN_CFG n, 31, 31⟩
def F.WIN_CFG_PREF_EFF (n : Nat) : Field := ⟨R.WIN_CFG n, 30, 30⟩
def F.WIN_CFG_PREF_REQ (n : Nat) : Field := ⟨R.WIN_CFG n, 29, 29⟩
def F.WIN_CFG_WRITE (n : Nat) : Field := ⟨R.WIN_CFG n, 28, 28⟩
def F.WIN_CFG_LANES (n : Nat) : Field := ⟨R.WIN_CFG n, 27, 26⟩
def F.WIN_CFG_SIZE_LOG2 (n : Nat) : Field := ⟨R.WIN_CFG n, 25, 21⟩
def F.WIN_CFG_BAR_OFF (n : Nat) : Field := ⟨R.WIN_CFG n, 17, 0⟩
/-- WIN_TARGET. -/
def R.WIN_TARGET (n : Nat) : Nat := 0x100104 + 0x10 * n
def F.WIN_TARGET_TARGET (n : Nat) : Field := ⟨R.WIN_TARGET n, 31, 0⟩
/-- WIN_RD. -/
def R.WIN_RD (n : Nat) : Nat := 0x100108 + 0x10 * n
def F.WIN_RD_COUNT (n : Nat) : Field := ⟨R.WIN_RD n, 31, 0⟩
/-- WIN_WR. -/
def R.WIN_WR (n : Nat) : Nat := 0x10010C + 0x10 * n
def F.WIN_WR_COUNT (n : Nat) : Field := ⟨R.WIN_WR n, 31, 0⟩

/-! ### Registers of 13_queues_and_moves.md -/

/-- QUE_REQ. -/
def R.QUE_REQ : Nat := 0x110010
def F.QUE_REQ_ASSERTED : Field := ⟨R.QUE_REQ, 31, 0⟩
/-- QUE_REQ_BUSY. -/
def R.QUE_REQ_BUSY : Nat := 0x110014
def F.QUE_REQ_BUSY_BUSY : Field := ⟨R.QUE_REQ_BUSY, 31, 0⟩
/-- QUE_ENGINE. -/
def R.QUE_ENGINE : Nat := 0x110018
def F.QUE_ENGINE_INFLIGHT : Field := ⟨R.QUE_ENGINE, 3, 0⟩
/-- QUE_BIND. -/
def R.QUE_BIND (n : Nat) : Nat := 0x110040 + 0x4 * n
def F.QUE_BIND_BOUND (n : Nat) : Field := ⟨R.QUE_BIND n, 31, 31⟩
def F.QUE_BIND_OVERWRITTEN (n : Nat) : Field := ⟨R.QUE_BIND n, 23, 16⟩
def F.QUE_BIND_ENTRY (n : Nat) : Field := ⟨R.QUE_BIND n, 13, 0⟩
/-- Q_BASE_LO. -/
def R.Q_BASE_LO (n : Nat) : Nat := 0x110100 + 0x20 * n
def F.Q_BASE_LO_BASE (n : Nat) : Field := ⟨R.Q_BASE_LO n, 31, 12⟩
/-- Q_BASE_HI. -/
def R.Q_BASE_HI (n : Nat) : Nat := 0x110104 + 0x20 * n
def F.Q_BASE_HI_BASE (n : Nat) : Field := ⟨R.Q_BASE_HI n, 31, 0⟩
/-- Q_CTRL. -/
def R.Q_CTRL (n : Nat) : Nat := 0x110108 + 0x20 * n
def F.Q_CTRL_ENABLE (n : Nat) : Field := ⟨R.Q_CTRL n, 31, 31⟩
def F.Q_CTRL_RESUME (n : Nat) : Field := ⟨R.Q_CTRL n, 30, 30⟩
def F.Q_CTRL_SKIP (n : Nat) : Field := ⟨R.Q_CTRL n, 29, 29⟩
def F.Q_CTRL_SIZE_LOG2 (n : Nat) : Field := ⟨R.Q_CTRL n, 3, 0⟩
/-- Q_DB. -/
def R.Q_DB (n : Nat) : Nat := 0x11010C + 0x20 * n
def F.Q_DB_TAIL (n : Nat) : Field := ⟨R.Q_DB n, 15, 0⟩
/-- Q_STAT. -/
def R.Q_STAT (n : Nat) : Nat := 0x110110 + 0x20 * n
def F.Q_STAT_STATE (n : Nat) : Field := ⟨R.Q_STAT n, 31, 29⟩
def F.Q_STAT_CAUSE (n : Nat) : Field := ⟨R.Q_STAT n, 28, 26⟩
def F.Q_STAT_IRQ (n : Nat) : Field := ⟨R.Q_STAT n, 25, 25⟩
def F.Q_STAT_HALT_EVT (n : Nat) : Field := ⟨R.Q_STAT n, 24, 24⟩
def F.Q_STAT_OUTSTANDING (n : Nat) : Field := ⟨R.Q_STAT n, 20, 16⟩
def F.Q_STAT_DONE (n : Nat) : Field := ⟨R.Q_STAT n, 15, 0⟩
/-- Q_CFG. -/
def R.Q_CFG (n : Nat) : Nat := 0x110114 + 0x20 * n
def F.Q_CFG_TYPE (n : Nat) : Field := ⟨R.Q_CFG n, 31, 30⟩
def F.Q_CFG_PRODUCER (n : Nat) : Field := ⟨R.Q_CFG n, 29, 29⟩
def F.Q_CFG_PRIORITY (n : Nat) : Field := ⟨R.Q_CFG n, 26, 24⟩
def F.Q_CFG_RETRY (n : Nat) : Field := ⟨R.Q_CFG n, 22, 20⟩
def F.Q_CFG_FETCH (n : Nat) : Field := ⟨R.Q_CFG n, 15, 0⟩
/-- Q_HALT_DESC. -/
def R.Q_HALT_DESC (n : Nat) : Nat := 0x110118 + 0x20 * n
def F.Q_HALT_DESC_COUNTER (n : Nat) : Field := ⟨R.Q_HALT_DESC n, 15, 0⟩
/-- Q_CNT. -/
def R.Q_CNT (n : Nat) : Nat := 0x11011C + 0x20 * n
def F.Q_CNT_RETRIES (n : Nat) : Field := ⟨R.Q_CNT n, 31, 16⟩
def F.Q_CNT_COMPLETIONS (n : Nat) : Field := ⟨R.Q_CNT n, 15, 0⟩

/-! ### Registers of 14_quill_commands.md -/

/-- QUILL_ACCEPT. -/
def R.QUILL_ACCEPT : Nat := 0x800D0
def F.QUILL_ACCEPT_COUNT : Field := ⟨R.QUILL_ACCEPT, 31, 0⟩
/-- QUILL_REFUSE. -/
def R.QUILL_REFUSE : Nat := 0x800D4
def F.QUILL_REFUSE_COUNT : Field := ⟨R.QUILL_REFUSE, 31, 0⟩
/-- QUILL_DIS. -/
def R.QUILL_DIS : Nat := 0x800D8
def F.QUILL_DIS_NO_MAJ : Field := ⟨R.QUILL_DIS, 31, 24⟩
def F.QUILL_DIS_LANE_C : Field := ⟨R.QUILL_DIS, 23, 16⟩
def F.QUILL_DIS_LANE_B : Field := ⟨R.QUILL_DIS, 15, 8⟩
def F.QUILL_DIS_LANE_A : Field := ⟨R.QUILL_DIS, 7, 0⟩
/-- LOG_HEAD. -/
def R.LOG_HEAD : Nat := 0x800E0
def F.LOG_HEAD_SEQ : Field := ⟨R.LOG_HEAD, 31, 0⟩
/-- QUILL_SESS. -/
def R.QUILL_SESS : Nat := 0x800E4
def F.QUILL_SESS_OPENED : Field := ⟨R.QUILL_SESS, 31, 16⟩
def F.QUILL_SESS_OPEN : Field := ⟨R.QUILL_SESS, 4, 0⟩
/-- MP_STAT. -/
def R.MP_STAT : Nat := 0x100
def F.MP_STAT_RATE_DROP : Field := ⟨R.MP_STAT, 31, 16⟩
def F.MP_STAT_ACCEPTED : Field := ⟨R.MP_STAT, 15, 0⟩
/-- MP_ERR. -/
def R.MP_ERR : Nat := 0x104
def F.MP_ERR_REASM_DROP : Field := ⟨R.MP_ERR, 31, 16⟩
def F.MP_ERR_OTHER : Field := ⟨R.MP_ERR, 15, 0⟩
/-- QUILL_AUTH. -/
def R.QUILL_AUTH : Nat := 0x108
def F.QUILL_AUTH_LANE : Field := ⟨R.QUILL_AUTH, 31, 16⟩
def F.QUILL_AUTH_SCRIBE : Field := ⟨R.QUILL_AUTH, 15, 0⟩

/-! ### Registers of 15_duplex_pair.md -/

/-- DUP_STAT. -/
def R.DUP_STAT : Nat := 0x3C0010
def F.DUP_STAT_ROLE : Field := ⟨R.DUP_STAT, 31, 30⟩
def F.DUP_STAT_CAUSE : Field := ⟨R.DUP_STAT, 29, 27⟩
def F.DUP_STAT_LAGGING : Field := ⟨R.DUP_STAT, 26, 26⟩
def F.DUP_STAT_SEEN : Field := ⟨R.DUP_STAT, 25, 25⟩
def F.DUP_STAT_LINK : Field := ⟨R.DUP_STAT, 24, 24⟩
def F.DUP_STAT_CLM_G0 : Field := ⟨R.DUP_STAT, 23, 23⟩
def F.DUP_STAT_CLM_G1 : Field := ⟨R.DUP_STAT, 22, 22⟩
def F.DUP_STAT_CFG_DIFF : Field := ⟨R.DUP_STAT, 21, 21⟩
def F.DUP_STAT_EPOCH : Field := ⟨R.DUP_STAT, 15, 0⟩
/-- DUP_CFG. -/
def R.DUP_CFG : Nat := 0x3C0014
def F.DUP_CFG_COPY_MS : Field := ⟨R.DUP_CFG, 7, 0⟩
/-- DUP_PARTNER_LO. -/
def R.DUP_PARTNER_LO : Nat := 0x3C0018
def F.DUP_PARTNER_LO_SERIAL : Field := ⟨R.DUP_PARTNER_LO, 31, 0⟩
/-- DUP_PARTNER_HI. -/
def R.DUP_PARTNER_HI : Nat := 0x3C001C
def F.DUP_PARTNER_HI_SERIAL : Field := ⟨R.DUP_PARTNER_HI, 31, 0⟩
/-- DUP_OFFER. -/
def R.DUP_OFFER : Nat := 0x3C0020
def F.DUP_OFFER_CLAIM : Field := ⟨R.DUP_OFFER, 31, 0⟩
/-- DUP_PEER_G0. -/
def R.DUP_PEER_G0 : Nat := 0x3C0024
def F.DUP_PEER_G0_CLAIM : Field := ⟨R.DUP_PEER_G0, 31, 0⟩
/-- DUP_PEER_G1. -/
def R.DUP_PEER_G1 : Nat := 0x3C0028
def F.DUP_PEER_G1_CLAIM : Field := ⟨R.DUP_PEER_G1, 31, 0⟩
/-- DUP_CLAIM_CNT. -/
def R.DUP_CLAIM_CNT : Nat := 0x3C002C
def F.DUP_CLAIM_CNT_NOT_SEEN : Field := ⟨R.DUP_CLAIM_CNT, 31, 16⟩
def F.DUP_CLAIM_CNT_CHANGES : Field := ⟨R.DUP_CLAIM_CNT, 15, 0⟩
/-- DUP_TOK_ISSUED. -/
def R.DUP_TOK_ISSUED : Nat := 0x3C0030
def F.DUP_TOK_ISSUED_COUNT : Field := ⟨R.DUP_TOK_ISSUED, 31, 0⟩
/-- DUP_TOK_APPLIED. -/
def R.DUP_TOK_APPLIED : Nat := 0x3C0034
def F.DUP_TOK_APPLIED_COUNT : Field := ⟨R.DUP_TOK_APPLIED, 31, 0⟩
/-- DUP_TOK_DISCARDED. -/
def R.DUP_TOK_DISCARDED : Nat := 0x3C0038
def F.DUP_TOK_DISCARDED_COUNT : Field := ⟨R.DUP_TOK_DISCARDED, 31, 0⟩
/-- DUP_COPY. -/
def R.DUP_COPY : Nat := 0x3C003C
def F.DUP_COPY_LAGS : Field := ⟨R.DUP_COPY, 31, 16⟩
def F.DUP_COPY_FULL : Field := ⟨R.DUP_COPY, 15, 0⟩
/-- DUP_DIVERGE. -/
def R.DUP_DIVERGE : Nat := 0x3C0040
def F.DUP_DIVERGE_STATE : Field := ⟨R.DUP_DIVERGE, 31, 16⟩
def F.DUP_DIVERGE_OUTPUT : Field := ⟨R.DUP_DIVERGE, 15, 0⟩
/-- DUP_SHADOW. -/
def R.DUP_SHADOW : Nat := 0x3C0044
def F.DUP_SHADOW_OWN_INPUT : Field := ⟨R.DUP_SHADOW, 31, 16⟩
def F.DUP_SHADOW_SKIPPED : Field := ⟨R.DUP_SHADOW, 15, 0⟩
/-- DUP_DIV_CAP. -/
def R.DUP_DIV_CAP : Nat := 0x3C0048
def F.DUP_DIV_CAP_VALID : Field := ⟨R.DUP_DIV_CAP, 31, 31⟩
def F.DUP_DIV_CAP_KIND : Field := ⟨R.DUP_DIV_CAP, 30, 28⟩
def F.DUP_DIV_CAP_TASK : Field := ⟨R.DUP_DIV_CAP, 21, 16⟩
def F.DUP_DIV_CAP_SEG : Field := ⟨R.DUP_DIV_CAP, 15, 8⟩
/-- DUP_TAKEOVER. -/
def R.DUP_TAKEOVER : Nat := 0x3C0050
def F.DUP_TAKEOVER_COUNT : Field := ⟨R.DUP_TAKEOVER, 31, 16⟩
def F.DUP_TAKEOVER_UNSYNCED : Field := ⟨R.DUP_TAKEOVER, 15, 15⟩
def F.DUP_TAKEOVER_LAGGING : Field := ⟨R.DUP_TAKEOVER, 14, 14⟩
/-- DUP_TAKE_SEC. -/
def R.DUP_TAKE_SEC : Nat := 0x3C0054
def F.DUP_TAKE_SEC_SECONDS : Field := ⟨R.DUP_TAKE_SEC, 31, 0⟩
/-- DUP_LINK_ERR. -/
def R.DUP_LINK_ERR : Nat := 0x3C0058
def F.DUP_LINK_ERR_BAD : Field := ⟨R.DUP_LINK_ERR, 31, 16⟩
def F.DUP_LINK_ERR_DOWNS : Field := ⟨R.DUP_LINK_ERR, 15, 0⟩

/-! ### Registers of 16_vellum_security.md -/

/-- SEC_STATE. -/
def R.SEC_STATE : Nat := 0x20010
def F.SEC_STATE_RNG_FAULT : Field := ⟨R.SEC_STATE, 31, 31⟩
def F.SEC_STATE_DEBUG_OPEN : Field := ⟨R.SEC_STATE, 30, 30⟩
def F.SEC_STATE_SLOTS : Field := ⟨R.SEC_STATE, 15, 12⟩
def F.SEC_STATE_LIFECYCLE : Field := ⟨R.SEC_STATE, 3, 0⟩
/-- SEC_COUNTS. -/
def R.SEC_COUNTS : Nat := 0x20014
def F.SEC_COUNTS_SIG_FAILS : Field := ⟨R.SEC_COUNTS, 31, 16⟩
def F.SEC_COUNTS_BENCH_ENTRIES : Field := ⟨R.SEC_COUNTS, 15, 8⟩
/-- SEC_ID_FP0. -/
def R.SEC_ID_FP0 : Nat := 0x20020
def F.SEC_ID_FP0_FP : Field := ⟨R.SEC_ID_FP0, 31, 0⟩
/-- SEC_ID_FP1. -/
def R.SEC_ID_FP1 : Nat := 0x20024
def F.SEC_ID_FP1_FP : Field := ⟨R.SEC_ID_FP1, 31, 0⟩
/-- SEC_ID_FP2. -/
def R.SEC_ID_FP2 : Nat := 0x20028
def F.SEC_ID_FP2_FP : Field := ⟨R.SEC_ID_FP2, 31, 0⟩
/-- SEC_ID_FP3. -/
def R.SEC_ID_FP3 : Nat := 0x2002C
def F.SEC_ID_FP3_FP : Field := ⟨R.SEC_ID_FP3, 31, 0⟩
/-- SEC_OWNER_FP. -/
def R.SEC_OWNER_FP (n : Nat) : Nat := 0x20040 + 0x4 * n
def F.SEC_OWNER_FP_FP (n : Nat) : Field := ⟨R.SEC_OWNER_FP n, 31, 0⟩
/-- SEC_SLOT. -/
def R.SEC_SLOT (n : Nat) : Nat := 0x20080 + 0x4 * n
def F.SEC_SLOT_ENROLLED (n : Nat) : Field := ⟨R.SEC_SLOT n, 31, 31⟩
def F.SEC_SLOT_MAX_LEVEL (n : Nat) : Field := ⟨R.SEC_SLOT n, 2, 0⟩
/-- SEC_RB. -/
def R.SEC_RB (n : Nat) : Nat := 0x20100 + 0x4 * n
def F.SEC_RB_VALUE (n : Nat) : Field := ⟨R.SEC_RB n, 31, 0⟩
/-- SYS_VIOL_COUNT. -/
def R.SYS_VIOL_COUNT (n : Nat) : Nat := 0x200 + 0x4 * n
def F.SYS_VIOL_COUNT_COUNT (n : Nat) : Field := ⟨R.SYS_VIOL_COUNT n, 31, 0⟩
/-- SYS_VIOL_CAP. -/
def R.SYS_VIOL_CAP : Nat := 0x220
def F.SYS_VIOL_CAP_VALID : Field := ⟨R.SYS_VIOL_CAP, 31, 31⟩
def F.SYS_VIOL_CAP_REQUESTER : Field := ⟨R.SYS_VIOL_CAP, 30, 28⟩
def F.SYS_VIOL_CAP_WRITE : Field := ⟨R.SYS_VIOL_CAP, 27, 27⟩
/-- SYS_VIOL_ADDR_LO. -/
def R.SYS_VIOL_ADDR_LO : Nat := 0x224
def F.SYS_VIOL_ADDR_LO_ADDR : Field := ⟨R.SYS_VIOL_ADDR_LO, 31, 0⟩
/-- SYS_VIOL_ADDR_HI. -/
def R.SYS_VIOL_ADDR_HI : Nat := 0x228
def F.SYS_VIOL_ADDR_HI_ADDR : Field := ⟨R.SYS_VIOL_ADDR_HI, 31, 0⟩

/-! ### Registers of 17_rubric_update.md -/

/-- RUB_STAT. -/
def R.RUB_STAT : Nat := 0x300
def F.RUB_STAT_STATE : Field := ⟨R.RUB_STAT, 31, 28⟩
def F.RUB_STAT_LAST_RESULT : Field := ⟨R.RUB_STAT, 27, 24⟩
def F.RUB_STAT_PARTS_DONE : Field := ⟨R.RUB_STAT, 20, 16⟩
def F.RUB_STAT_TRIAL_S : Field := ⟨R.RUB_STAT, 9, 0⟩
/-- RUB_ID0. -/
def R.RUB_ID0 : Nat := 0x304
def F.RUB_ID0_ID : Field := ⟨R.RUB_ID0, 31, 0⟩
/-- RUB_ID1. -/
def R.RUB_ID1 : Nat := 0x308
def F.RUB_ID1_ID : Field := ⟨R.RUB_ID1, 31, 0⟩
/-- RUB_ID2. -/
def R.RUB_ID2 : Nat := 0x30C
def F.RUB_ID2_ID : Field := ⟨R.RUB_ID2, 31, 0⟩
/-- RUB_ID3. -/
def R.RUB_ID3 : Nat := 0x310
def F.RUB_ID3_ID : Field := ⟨R.RUB_ID3, 31, 0⟩
/-- RUB_FAIL. -/
def R.RUB_FAIL : Nat := 0x314
def F.RUB_FAIL_PART : Field := ⟨R.RUB_FAIL, 15, 8⟩
def F.RUB_FAIL_INSTANCE : Field := ⟨R.RUB_FAIL, 7, 0⟩
/-- RUB_COUNT. -/
def R.RUB_COUNT : Nat := 0x318
def F.RUB_COUNT_ACTIVATIONS : Field := ⟨R.RUB_COUNT, 31, 16⟩
def F.RUB_COUNT_REVERTS : Field := ⟨R.RUB_COUNT, 15, 0⟩
/-- STORE_STAT. -/
def R.STORE_STAT : Nat := 0x320
def F.STORE_STAT_STATE : Field := ⟨R.STORE_STAT, 31, 28⟩
def F.STORE_STAT_LAST_RESULT : Field := ⟨R.STORE_STAT, 27, 24⟩
def F.STORE_STAT_STORES : Field := ⟨R.STORE_STAT, 15, 0⟩
/-- STORE_SRC. -/
def R.STORE_SRC : Nat := 0x324
def F.STORE_SRC_SOURCE : Field := ⟨R.STORE_SRC, 9, 0⟩

/-! ### Registers of 18_reset_power_clocks.md -/

/-- RST_CAUSE. -/
def R.RST_CAUSE : Nat := 0x40
def F.RST_CAUSE_FIRST : Field := ⟨R.RST_CAUSE, 31, 28⟩
def F.RST_CAUSE_LEVEL : Field := ⟨R.RST_CAUSE, 27, 26⟩
def F.RST_CAUSE_VBAK_LOST : Field := ⟨R.RST_CAUSE, 25, 25⟩
def F.RST_CAUSE_ANNOUNCED : Field := ⟨R.RST_CAUSE, 24, 24⟩
def F.RST_CAUSE_SW_CAUSE : Field := ⟨R.RST_CAUSE, 23, 20⟩
def F.RST_CAUSE_SOURCES : Field := ⟨R.RST_CAUSE, 9, 0⟩
/-- RST_SEC. -/
def R.RST_SEC : Nat := 0x44
def F.RST_SEC_SECONDS : Field := ⟨R.RST_SEC, 31, 0⟩
/-- RST_CNT_POR. -/
def R.RST_CNT_POR : Nat := 0x48
def F.RST_CNT_POR_COUNT : Field := ⟨R.RST_CNT_POR, 31, 0⟩
/-- RST_CNT_SYS. -/
def R.RST_CNT_SYS : Nat := 0x4C
def F.RST_CNT_SYS_COUNT : Field := ⟨R.RST_CNT_SYS, 31, 0⟩
/-- RST_CNT_CORE_A. -/
def R.RST_CNT_CORE_A : Nat := 0x50
def F.RST_CNT_CORE_A_COUNT : Field := ⟨R.RST_CNT_CORE_A, 31, 0⟩
/-- RST_CNT_CORE_B. -/
def R.RST_CNT_CORE_B : Nat := 0x54
def F.RST_CNT_CORE_B_COUNT : Field := ⟨R.RST_CNT_CORE_B, 31, 0⟩
/-- RST_CNT_CORE_C. -/
def R.RST_CNT_CORE_C : Nat := 0x58
def F.RST_CNT_CORE_C_COUNT : Field := ⟨R.RST_CNT_CORE_C, 31, 0⟩
/-- AON_SEC_LO. -/
def R.AON_SEC_LO : Nat := 0x60
def F.AON_SEC_LO_SECONDS : Field := ⟨R.AON_SEC_LO, 31, 0⟩
/-- AON_SEC_HI. -/
def R.AON_SEC_HI : Nat := 0x64
def F.AON_SEC_HI_SECONDS : Field := ⟨R.AON_SEC_HI, 31, 0⟩
/-- AON_HOLDOVER. -/
def R.AON_HOLDOVER : Nat := 0x68
def F.AON_HOLDOVER_SECONDS : Field := ⟨R.AON_HOLDOVER, 31, 0⟩
/-- RPC_PD_STAT. -/
def R.RPC_PD_STAT : Nat := 0x10010
def F.RPC_PD_STAT_ON : Field := ⟨R.RPC_PD_STAT, 9, 0⟩
/-- RPC_PD_FAULT. -/
def R.RPC_PD_FAULT : Nat := 0x10014
def F.RPC_PD_FAULT_FG1 : Field := ⟨R.RPC_PD_FAULT, 15, 8⟩
def F.RPC_PD_FAULT_FG0 : Field := ⟨R.RPC_PD_FAULT, 7, 0⟩
/-- RPC_VIN. -/
def R.RPC_VIN : Nat := 0x10020
def F.RPC_VIN_IN_WARNING : Field := ⟨R.RPC_VIN, 31, 31⟩
def F.RPC_VIN_WARN : Field := ⟨R.RPC_VIN, 30, 30⟩
def F.RPC_VIN_STORE_OK : Field := ⟨R.RPC_VIN, 29, 29⟩
def F.RPC_VIN_BATT_LOW : Field := ⟨R.RPC_VIN, 28, 28⟩
def F.RPC_VIN_MV : Field := ⟨R.RPC_VIN, 15, 0⟩
/-- RPC_VBAK. -/
def R.RPC_VBAK : Nat := 0x10024
def F.RPC_VBAK_LOW : Field := ⟨R.RPC_VBAK, 31, 31⟩
def F.RPC_VBAK_MV : Field := ⟨R.RPC_VBAK, 15, 0⟩
/-- RPC_DIP. -/
def R.RPC_DIP : Nat := 0x10028
def F.RPC_DIP_COUNT : Field := ⟨R.RPC_DIP, 31, 16⟩
def F.RPC_DIP_VMIN : Field := ⟨R.RPC_DIP, 15, 0⟩
/-- RPC_DIP_DUR. -/
def R.RPC_DIP_DUR : Nat := 0x1002C
def F.RPC_DIP_DUR_MICROSECONDS : Field := ⟨R.RPC_DIP_DUR, 31, 0⟩
/-- RPC_CLK. -/
def R.RPC_CLK : Nat := 0x10030
def F.RPC_CLK_PLL_LOCK : Field := ⟨R.RPC_CLK, 31, 31⟩
def F.RPC_CLK_XTAL_OK : Field := ⟨R.RPC_CLK, 30, 30⟩
def F.RPC_CLK_LOCK_LOSSES : Field := ⟨R.RPC_CLK, 15, 0⟩
/-- RPC_START. -/
def R.RPC_START : Nat := 0x10034
def F.RPC_START_MS_TO_VOTE : Field := ⟨R.RPC_START, 31, 16⟩
def F.RPC_START_STEP : Field := ⟨R.RPC_START, 3, 0⟩

/-! ### Registers of 19_electrical_mechanical.md -/

/-- RPC_TEMP. -/
def R.RPC_TEMP : Nat := 0x10040
def F.RPC_TEMP_MAX : Field := ⟨R.RPC_TEMP, 31, 16⟩
def F.RPC_TEMP_NOW : Field := ⟨R.RPC_TEMP, 15, 0⟩

/-- One run of `count` registers, `stride` bytes apart from `base`, that share a reset word. -/
structure ResetRow where
  base : Nat
  stride : Nat
  count : Nat
  word : Nat
  deriving DecidableEq, Repr

/-- The offset `a` is one of the row's registers. -/
def resetRowHas (r : ResetRow) (a : Nat) : Bool :=
  r.base ≤ a && (a - r.base) % r.stride == 0 && (a - r.base) / r.stride < r.count

/-- Registers whose reset word is not zero, part 0. -/
def resetRows0 : List ResetRow :=
  [⟨0x0, 0x4, 1, 0x10201⟩,
   ⟨0x4, 0x4, 1, 0x40000000⟩,
   ⟨0x10, 0x4, 1, 0x4E590256⟩,
   ⟨0x40, 0x4, 1, 0x6000001⟩,
   ⟨0x10000, 0x4, 1, 0x20101⟩,
   ⟨0x10004, 0x4, 1, 0x40000000⟩,
   ⟨0x10010, 0x4, 1, 0x83⟩,
   ⟨0x20000, 0x4, 1, 0x30201⟩,
   ⟨0x20004, 0x4, 1, 0x40000000⟩,
   ⟨0x80000, 0x4, 1, 0x100601⟩,
   ⟨0x80004, 0x4, 1, 0x40000000⟩,
   ⟨0x90000, 0x4, 1, 0x110601⟩,
   ⟨0x90004, 0x4, 1, 0x40000000⟩,
   ⟨0x90010, 0x4, 1, 0xF0000⟩,
   ⟨0x90100, 0x20, 6, 0x30000000⟩,
   ⟨0xA0000, 0x4, 1, 0x120601⟩,
   ⟨0xA0004, 0x4, 1, 0x40000000⟩,
   ⟨0xA0100, 0x40, 6, 0x20000001⟩,
   ⟨0xA0280, 0x4, 1, 0xC0000001⟩,
   ⟨0xB0000, 0x4, 1, 0x130601⟩,
   ⟨0xB0004, 0x4, 1, 0x40000000⟩,
   ⟨0xB0010, 0x4, 1, 0x8000⟩,
   ⟨0xB0020, 0x4, 2, 0x1000⟩,
   ⟨0xB0028, 0x4, 4, 0x400⟩,
   ⟨0xB0038, 0x4, 1, 0x1000⟩,
   ⟨0xB0040, 0x4, 1, 0x5⟩,
   ⟨0xC0000, 0x4, 1, 0x140601⟩,
   ⟨0xC0004, 0x4, 1, 0x40000000⟩,
   ⟨0xC0010, 0x4, 1, 0x4000⟩,
   ⟨0x100000, 0x4, 1, 0x200701⟩]

/-- Registers whose reset word is not zero, part 1. -/
def resetRows1 : List ResetRow :=
  [⟨0x100004, 0x4, 1, 0x40000000⟩,
   ⟨0x100100, 0x4, 1, 0xE3000000⟩,
   ⟨0x100110, 0x4, 1, 0xE3001000⟩,
   ⟨0x100114, 0x4, 1, 0x1000000⟩,
   ⟨0x100120, 0x4, 1, 0xE3002000⟩,
   ⟨0x100124, 0x4, 1, 0x2000000⟩,
   ⟨0x100130, 0x4, 1, 0xE3003000⟩,
   ⟨0x100134, 0x4, 1, 0x3000000⟩,
   ⟨0x100140, 0x4, 1, 0xE3404000⟩,
   ⟨0x100144, 0x4, 1, 0x4000000⟩,
   ⟨0x100150, 0x4, 1, 0xF3009000⟩,
   ⟨0x100154, 0x4, 1, 0x9000000⟩,
   ⟨0x100160, 0x4, 1, 0x9180A000⟩,
   ⟨0x100164, 0x4, 1, 0xA000000⟩,
   ⟨0x100170, 0x4, 1, 0xF3810000⟩,
   ⟨0x100174, 0x4, 1, 0x10000000⟩,
   ⟨0x110000, 0x4, 1, 0x210701⟩,
   ⟨0x110004, 0x4, 1, 0x40000000⟩,
   ⟨0x110108, 0x20, 14, 0x4⟩,
   ⟨0x110114, 0x20, 4, 0x46300000⟩,
   ⟨0x110194, 0x20, 10, 0x82300000⟩,
   ⟨0x1102C0, 0x4, 1, 0x8100000⟩,
   ⟨0x1102C4, 0x20, 2, 0x80000000⟩,
   ⟨0x1102C8, 0x20, 2, 0xC⟩,
   ⟨0x1102D4, 0x20, 2, 0x65300000⟩,
   ⟨0x1102E0, 0x4, 1, 0x8140000⟩,
   ⟨0x200000, 0x4, 1, 0x300301⟩,
   ⟨0x200004, 0x4, 1, 0x80000000⟩,
   ⟨0x210000, 0x4, 1, 0x301401⟩,
   ⟨0x210004, 0x4, 1, 0x80000000⟩]

/-- Registers whose reset word is not zero, part 2. -/
def resetRows2 : List ResetRow :=
  [⟨0x210010, 0x4, 1, 0x100⟩,
   ⟨0x220000, 0x4, 1, 0x302501⟩,
   ⟨0x220004, 0x4, 1, 0x80000000⟩,
   ⟨0x220010, 0x4, 1, 0x200⟩,
   ⟨0x300000, 0x4, 1, 0x400901⟩,
   ⟨0x300004, 0x4, 1, 0x80000000⟩,
   ⟨0x300044, 0x4, 1, 0xFF14⟩,
   ⟨0x310000, 0x4, 1, 0x401A01⟩,
   ⟨0x310004, 0x4, 1, 0x80000000⟩,
   ⟨0x310044, 0x4, 1, 0xFF14⟩,
   ⟨0x380000, 0x4, 1, 0x500801⟩,
   ⟨0x380004, 0x4, 1, 0x80000000⟩,
   ⟨0x3C0000, 0x4, 1, 0x600601⟩,
   ⟨0x3C0004, 0x4, 1, 0x40000000⟩]

/-- Every register whose reset word is not zero; every other register resets to zero. -/
def resetRows : List ResetRow := resetRows0 ++ resetRows1 ++ resetRows2

/-- A run of registers that have a row in a register table; `writable` when at least one field is RW, WO, W1C or RWL
(R19, R21). -/
structure RegRow where
  base : Nat
  stride : Nat
  count : Nat
  writable : Bool
  deriving DecidableEq, Repr

/-- The offset `a` is one of the row's registers. -/
def regRowHas (r : RegRow) (a : Nat) : Bool :=
  r.base ≤ a && (a - r.base) % r.stride == 0 && (a - r.base) / r.stride < r.count

/-- The registers with at least one field of the classes of R19. A write to any other offset of BAR0 is an ignored
write (R21). -/
def writableRows : List RegRow :=
  [⟨0x24, 0x4, 1, true⟩,
   ⟨0x220, 0x4, 1, true⟩,
   ⟨0x80030, 0x4, 1, true⟩,
   ⟨0x80048, 0x4, 1, true⟩,
   ⟨0x800A0, 0x4, 1, true⟩,
   ⟨0x90030, 0x4, 1, true⟩,
   ⟨0xC0050, 0x4, 1, true⟩,
   ⟨0x100018, 0x4, 1, true⟩,
   ⟨0x100024, 0x4, 1, true⟩,
   ⟨0x110100, 0x20, 16, true⟩,
   ⟨0x110104, 0x20, 16, true⟩,
   ⟨0x110108, 0x20, 16, true⟩,
   ⟨0x11010C, 0x20, 16, true⟩,
   ⟨0x110110, 0x20, 16, true⟩,
   ⟨0x3C0048, 0x4, 1, true⟩]

/-- Every register of the tables, part 0. -/
def regRows0 : List RegRow :=
  [⟨0x0, 0x4, 2, false⟩,
   ⟨0x10, 0x4, 1, false⟩,
   ⟨0x14, 0x4, 1, false⟩,
   ⟨0x18, 0x4, 1, false⟩,
   ⟨0x1C, 0x4, 1, false⟩,
   ⟨0x20, 0x4, 1, false⟩,
   ⟨0x24, 0x4, 1, true⟩,
   ⟨0x40, 0x4, 1, false⟩,
   ⟨0x44, 0x4, 1, false⟩,
   ⟨0x48, 0x4, 1, false⟩,
   ⟨0x4C, 0x4, 1, false⟩,
   ⟨0x50, 0x4, 1, false⟩,
   ⟨0x54, 0x4, 1, false⟩,
   ⟨0x58, 0x4, 1, false⟩,
   ⟨0x60, 0x4, 1, false⟩,
   ⟨0x64, 0x4, 1, false⟩,
   ⟨0x68, 0x4, 1, false⟩,
   ⟨0x100, 0x4, 1, false⟩,
   ⟨0x104, 0x4, 1, false⟩,
   ⟨0x108, 0x4, 1, false⟩,
   ⟨0x200, 0x4, 5, false⟩,
   ⟨0x220, 0x4, 1, true⟩,
   ⟨0x224, 0x4, 1, false⟩,
   ⟨0x228, 0x4, 1, false⟩,
   ⟨0x300, 0x4, 1, false⟩,
   ⟨0x304, 0x4, 1, false⟩,
   ⟨0x308, 0x4, 1, false⟩,
   ⟨0x30C, 0x4, 1, false⟩,
   ⟨0x310, 0x4, 1, false⟩,
   ⟨0x314, 0x4, 1, false⟩,
   ⟨0x318, 0x4, 1, false⟩,
   ⟨0x320, 0x4, 1, false⟩,
   ⟨0x324, 0x4, 1, false⟩,
   ⟨0x10000, 0x4, 2, false⟩,
   ⟨0x10010, 0x4, 1, false⟩,
   ⟨0x10014, 0x4, 1, false⟩,
   ⟨0x10020, 0x4, 1, false⟩,
   ⟨0x10024, 0x4, 1, false⟩,
   ⟨0x10028, 0x4, 1, false⟩,
   ⟨0x1002C, 0x4, 1, false⟩]

/-- Every register of the tables, part 1. -/
def regRows1 : List RegRow :=
  [⟨0x10030, 0x4, 1, false⟩,
   ⟨0x10034, 0x4, 1, false⟩,
   ⟨0x10040, 0x4, 1, false⟩,
   ⟨0x20000, 0x4, 2, false⟩,
   ⟨0x20010, 0x4, 1, false⟩,
   ⟨0x20014, 0x4, 1, false⟩,
   ⟨0x20020, 0x4, 1, false⟩,
   ⟨0x20024, 0x4, 1, false⟩,
   ⟨0x20028, 0x4, 1, false⟩,
   ⟨0x2002C, 0x4, 1, false⟩,
   ⟨0x20040, 0x4, 16, false⟩,
   ⟨0x20080, 0x4, 4, false⟩,
   ⟨0x20100, 0x4, 64, false⟩,
   ⟨0x80000, 0x4, 2, false⟩,
   ⟨0x80010, 0x4, 1, false⟩,
   ⟨0x80014, 0x4, 1, false⟩,
   ⟨0x80018, 0x4, 1, false⟩,
   ⟨0x80020, 0x4, 1, false⟩,
   ⟨0x80024, 0x4, 1, false⟩,
   ⟨0x80028, 0x4, 1, false⟩,
   ⟨0x80030, 0x4, 1, true⟩,
   ⟨0x80034, 0x4, 1, false⟩,
   ⟨0x80038, 0x4, 1, false⟩,
   ⟨0x80040, 0x4, 1, false⟩,
   ⟨0x80044, 0x4, 1, false⟩,
   ⟨0x80048, 0x4, 1, true⟩,
   ⟨0x80050, 0x4, 1, false⟩,
   ⟨0x80054, 0x4, 1, false⟩,
   ⟨0x80060, 0x4, 1, false⟩,
   ⟨0x80064, 0x4, 1, false⟩,
   ⟨0x80068, 0x4, 1, false⟩,
   ⟨0x8006C, 0x4, 1, false⟩,
   ⟨0x80070, 0x4, 1, false⟩,
   ⟨0x80080, 0x4, 1, false⟩,
   ⟨0x80084, 0x4, 1, false⟩,
   ⟨0x80088, 0x4, 1, false⟩,
   ⟨0x8008C, 0x4, 1, false⟩,
   ⟨0x80090, 0x4, 1, false⟩,
   ⟨0x80094, 0x4, 1, false⟩,
   ⟨0x80098, 0x4, 1, false⟩]

/-- Every register of the tables, part 2. -/
def regRows2 : List RegRow :=
  [⟨0x8009C, 0x4, 1, false⟩,
   ⟨0x800A0, 0x4, 1, true⟩,
   ⟨0x800C0, 0x4, 1, false⟩,
   ⟨0x800C4, 0x4, 1, false⟩,
   ⟨0x800D0, 0x4, 1, false⟩,
   ⟨0x800D4, 0x4, 1, false⟩,
   ⟨0x800D8, 0x4, 1, false⟩,
   ⟨0x800E0, 0x4, 1, false⟩,
   ⟨0x800E4, 0x4, 1, false⟩,
   ⟨0x90000, 0x4, 2, false⟩,
   ⟨0x90010, 0x4, 1, false⟩,
   ⟨0x90014, 0x4, 1, false⟩,
   ⟨0x90018, 0x4, 1, false⟩,
   ⟨0x9001C, 0x4, 1, false⟩,
   ⟨0x90020, 0x4, 1, false⟩,
   ⟨0x90024, 0x4, 1, false⟩,
   ⟨0x90028, 0x4, 1, false⟩,
   ⟨0x90030, 0x4, 1, true⟩,
   ⟨0x90100, 0x20, 6, false⟩,
   ⟨0x90104, 0x20, 6, false⟩,
   ⟨0x90108, 0x20, 6, false⟩,
   ⟨0x9010C, 0x20, 6, false⟩,
   ⟨0x90110, 0x20, 6, false⟩,
   ⟨0xA0000, 0x4, 2, false⟩,
   ⟨0xA0010, 0x4, 1, false⟩,
   ⟨0xA0014, 0x4, 1, false⟩,
   ⟨0xA0018, 0x4, 1, false⟩,
   ⟨0xA0020, 0x4, 1, false⟩,
   ⟨0xA0024, 0x4, 1, false⟩,
   ⟨0xA0100, 0x40, 7, false⟩,
   ⟨0xA0104, 0x40, 7, false⟩,
   ⟨0xA0108, 0x40, 7, false⟩,
   ⟨0xA010C, 0x40, 7, false⟩,
   ⟨0xA0110, 0x40, 7, false⟩,
   ⟨0xA0114, 0x40, 7, false⟩,
   ⟨0xA0118, 0x40, 7, false⟩,
   ⟨0xB0000, 0x4, 2, false⟩,
   ⟨0xB0010, 0x4, 1, false⟩,
   ⟨0xB0014, 0x4, 1, false⟩,
   ⟨0xB0018, 0x4, 1, false⟩]

/-- Every register of the tables, part 3. -/
def regRows3 : List RegRow :=
  [⟨0xB001C, 0x4, 1, false⟩,
   ⟨0xB0020, 0x4, 7, false⟩,
   ⟨0xB0040, 0x4, 1, false⟩,
   ⟨0xB0080, 0x4, 1, false⟩,
   ⟨0xB0084, 0x4, 1, false⟩,
   ⟨0xB0088, 0x4, 1, false⟩,
   ⟨0xB008C, 0x4, 1, false⟩,
   ⟨0xB0090, 0x4, 1, false⟩,
   ⟨0xB00A0, 0x4, 7, false⟩,
   ⟨0xC0000, 0x4, 2, false⟩,
   ⟨0xC0010, 0x4, 1, false⟩,
   ⟨0xC0014, 0x4, 1, false⟩,
   ⟨0xC0018, 0x4, 1, false⟩,
   ⟨0xC0020, 0x4, 1, false⟩,
   ⟨0xC0024, 0x4, 1, false⟩,
   ⟨0xC0030, 0x4, 1, false⟩,
   ⟨0xC0034, 0x4, 1, false⟩,
   ⟨0xC0038, 0x4, 1, false⟩,
   ⟨0xC003C, 0x4, 1, false⟩,
   ⟨0xC0040, 0x4, 1, false⟩,
   ⟨0xC0044, 0x4, 1, false⟩,
   ⟨0xC0048, 0x4, 1, false⟩,
   ⟨0xC0050, 0x4, 1, true⟩,
   ⟨0xC8000, 0x4, 8192, false⟩,
   ⟨0x100000, 0x4, 2, false⟩,
   ⟨0x100010, 0x4, 1, false⟩,
   ⟨0x100014, 0x4, 1, false⟩,
   ⟨0x100018, 0x4, 1, true⟩,
   ⟨0x10001C, 0x4, 1, false⟩,
   ⟨0x100020, 0x4, 1, false⟩,
   ⟨0x100024, 0x4, 1, true⟩,
   ⟨0x100028, 0x4, 1, false⟩,
   ⟨0x100100, 0x10, 8, false⟩,
   ⟨0x100104, 0x10, 8, false⟩,
   ⟨0x100108, 0x10, 8, false⟩,
   ⟨0x10010C, 0x10, 8, false⟩,
   ⟨0x110000, 0x4, 2, false⟩,
   ⟨0x110010, 0x4, 1, false⟩,
   ⟨0x110014, 0x4, 1, false⟩,
   ⟨0x110018, 0x4, 1, false⟩]

/-- Every register of the tables, part 4. -/
def regRows4 : List RegRow :=
  [⟨0x110040, 0x4, 16, false⟩,
   ⟨0x110100, 0x20, 16, true⟩,
   ⟨0x110104, 0x20, 16, true⟩,
   ⟨0x110108, 0x20, 16, true⟩,
   ⟨0x11010C, 0x20, 16, true⟩,
   ⟨0x110110, 0x20, 16, true⟩,
   ⟨0x110114, 0x20, 16, false⟩,
   ⟨0x110118, 0x20, 16, false⟩,
   ⟨0x11011C, 0x20, 16, false⟩,
   ⟨0x200000, 0x4, 2, false⟩,
   ⟨0x200010, 0x4, 1, false⟩,
   ⟨0x200020, 0x4, 1, false⟩,
   ⟨0x200024, 0x4, 1, false⟩,
   ⟨0x200028, 0x4, 1, false⟩,
   ⟨0x20002C, 0x4, 1, false⟩,
   ⟨0x200030, 0x4, 1, false⟩,
   ⟨0x200038, 0x4, 1, false⟩,
   ⟨0x20003C, 0x4, 1, false⟩,
   ⟨0x200040, 0x4, 1, false⟩,
   ⟨0x200048, 0x4, 1, false⟩,
   ⟨0x200050, 0x4, 1, false⟩,
   ⟨0x200058, 0x4, 1, false⟩,
   ⟨0x20005C, 0x4, 1, false⟩,
   ⟨0x200060, 0x4, 1, false⟩,
   ⟨0x200070, 0x4, 1, false⟩,
   ⟨0x200100, 0x10, 64, false⟩,
   ⟨0x200104, 0x10, 64, false⟩,
   ⟨0x200108, 0x10, 64, false⟩,
   ⟨0x20010C, 0x10, 64, false⟩,
   ⟨0x200500, 0x4, 64, false⟩,
   ⟨0x210000, 0x4, 2, false⟩,
   ⟨0x210010, 0x4, 1, false⟩,
   ⟨0x210020, 0x4, 1, false⟩,
   ⟨0x210024, 0x4, 1, false⟩,
   ⟨0x210028, 0x4, 1, false⟩,
   ⟨0x21002C, 0x4, 1, false⟩,
   ⟨0x210030, 0x4, 1, false⟩,
   ⟨0x210038, 0x4, 1, false⟩,
   ⟨0x21003C, 0x4, 1, false⟩,
   ⟨0x210040, 0x4, 1, false⟩]

/-- Every register of the tables, part 5. -/
def regRows5 : List RegRow :=
  [⟨0x210048, 0x4, 1, false⟩,
   ⟨0x210050, 0x4, 1, false⟩,
   ⟨0x210058, 0x4, 1, false⟩,
   ⟨0x21005C, 0x4, 1, false⟩,
   ⟨0x210060, 0x4, 1, false⟩,
   ⟨0x210070, 0x4, 1, false⟩,
   ⟨0x210100, 0x10, 64, false⟩,
   ⟨0x210104, 0x10, 64, false⟩,
   ⟨0x210108, 0x10, 64, false⟩,
   ⟨0x21010C, 0x10, 64, false⟩,
   ⟨0x210500, 0x4, 64, false⟩,
   ⟨0x220000, 0x4, 2, false⟩,
   ⟨0x220010, 0x4, 1, false⟩,
   ⟨0x220020, 0x4, 1, false⟩,
   ⟨0x220024, 0x4, 1, false⟩,
   ⟨0x220028, 0x4, 1, false⟩,
   ⟨0x22002C, 0x4, 1, false⟩,
   ⟨0x220030, 0x4, 1, false⟩,
   ⟨0x220038, 0x4, 1, false⟩,
   ⟨0x22003C, 0x4, 1, false⟩,
   ⟨0x220040, 0x4, 1, false⟩,
   ⟨0x220048, 0x4, 1, false⟩,
   ⟨0x220050, 0x4, 1, false⟩,
   ⟨0x220058, 0x4, 1, false⟩,
   ⟨0x22005C, 0x4, 1, false⟩,
   ⟨0x220060, 0x4, 1, false⟩,
   ⟨0x220070, 0x4, 1, false⟩,
   ⟨0x220100, 0x10, 64, false⟩,
   ⟨0x220104, 0x10, 64, false⟩,
   ⟨0x220108, 0x10, 64, false⟩,
   ⟨0x22010C, 0x10, 64, false⟩,
   ⟨0x220500, 0x4, 64, false⟩,
   ⟨0x300000, 0x4, 2, false⟩,
   ⟨0x300010, 0x4, 1, false⟩,
   ⟨0x300014, 0x4, 1, false⟩,
   ⟨0x300018, 0x4, 1, false⟩,
   ⟨0x30001C, 0x4, 1, false⟩,
   ⟨0x300020, 0x4, 8, false⟩,
   ⟨0x300040, 0x4, 1, false⟩,
   ⟨0x300044, 0x4, 1, false⟩]

/-- Every register of the tables, part 6. -/
def regRows6 : List RegRow :=
  [⟨0x300048, 0x4, 1, false⟩,
   ⟨0x30004C, 0x4, 1, false⟩,
   ⟨0x300054, 0x4, 1, false⟩,
   ⟨0x300060, 0x4, 8, false⟩,
   ⟨0x300100, 0x10, 128, false⟩,
   ⟨0x300104, 0x10, 128, false⟩,
   ⟨0x300108, 0x10, 128, false⟩,
   ⟨0x30010C, 0x10, 128, false⟩,
   ⟨0x300900, 0x4, 128, false⟩,
   ⟨0x310000, 0x4, 2, false⟩,
   ⟨0x310010, 0x4, 1, false⟩,
   ⟨0x310014, 0x4, 1, false⟩,
   ⟨0x310018, 0x4, 1, false⟩,
   ⟨0x31001C, 0x4, 1, false⟩,
   ⟨0x310020, 0x4, 8, false⟩,
   ⟨0x310040, 0x4, 1, false⟩,
   ⟨0x310044, 0x4, 1, false⟩,
   ⟨0x310048, 0x4, 1, false⟩,
   ⟨0x31004C, 0x4, 1, false⟩,
   ⟨0x310054, 0x4, 1, false⟩,
   ⟨0x310060, 0x4, 8, false⟩,
   ⟨0x310100, 0x10, 128, false⟩,
   ⟨0x310104, 0x10, 128, false⟩,
   ⟨0x310108, 0x10, 128, false⟩,
   ⟨0x31010C, 0x10, 128, false⟩,
   ⟨0x310900, 0x4, 128, false⟩,
   ⟨0x380000, 0x4, 2, false⟩,
   ⟨0x380010, 0x4, 1, false⟩,
   ⟨0x380014, 0x4, 1, false⟩,
   ⟨0x380018, 0x4, 1, false⟩,
   ⟨0x38001C, 0x4, 1, false⟩,
   ⟨0x380020, 0x4, 1, false⟩,
   ⟨0x380024, 0x4, 1, false⟩,
   ⟨0x380028, 0x4, 1, false⟩,
   ⟨0x38002C, 0x4, 1, false⟩,
   ⟨0x3C0000, 0x4, 2, false⟩,
   ⟨0x3C0010, 0x4, 1, false⟩,
   ⟨0x3C0014, 0x4, 1, false⟩,
   ⟨0x3C0018, 0x4, 1, false⟩,
   ⟨0x3C001C, 0x4, 1, false⟩]

/-- Every register of the tables, part 7. -/
def regRows7 : List RegRow :=
  [⟨0x3C0020, 0x4, 1, false⟩,
   ⟨0x3C0024, 0x4, 1, false⟩,
   ⟨0x3C0028, 0x4, 1, false⟩,
   ⟨0x3C002C, 0x4, 1, false⟩,
   ⟨0x3C0030, 0x4, 1, false⟩,
   ⟨0x3C0034, 0x4, 1, false⟩,
   ⟨0x3C0038, 0x4, 1, false⟩,
   ⟨0x3C003C, 0x4, 1, false⟩,
   ⟨0x3C0040, 0x4, 1, false⟩,
   ⟨0x3C0044, 0x4, 1, false⟩,
   ⟨0x3C0048, 0x4, 1, true⟩,
   ⟨0x3C0050, 0x4, 1, false⟩,
   ⟨0x3C0054, 0x4, 1, false⟩,
   ⟨0x3C0058, 0x4, 1, false⟩]

/-- Every register of the tables, the block headers included. -/
def regRows : List RegRow := regRows0 ++ regRows1 ++ regRows2 ++ regRows3 ++ regRows4 ++ regRows5 ++ regRows6 ++ regRows7

end Sys2Proof.Machine
end

