-- ==== Sys2Proof/Machine/State.lean ====
section
/-! DEFINITION. The state of the module as plain data. Registers that the spec's register tables name live in one
place, the list `regs` of (BAR0 offset, word) pairs, where an unlisted offset holds its reset word (`resetWord` in
Machine/RegTable.lean); everything else is held by the structures below, one group for each chapter of the spec. -/

namespace Sys2Proof.Machine

/-- No command of this block ends in a fault: the spec lets every command complete (R20), so the type is empty.
See log entry 17 (DEDUCED). -/
inductive Fault where
  deriving DecidableEq, Repr

/-- Why a command is refused by the model. See log entry 17 (DEDUCED). -/
inductive Refusal where
  /-- A command whose meaning the model does not give; raised only by an arm of `exec`. Safe: nothing is claimed of it. -/
  | notModelled (mnemonic : String)
  deriving DecidableEq, Repr

/-! ### Chapter 1: the fabric and the register reads -/

/-- One stream as one receiving block keeps it (R15, R16). -/
structure Stream where
  block : Block
  /-- SRC_DOMAIN of the sender. -/
  src : Nat
  /-- KIND of the units. -/
  kind : Nat
  /-- The receiving lane mask for the kinds that name their receiver, else 0 (R15). -/
  recv : Nat
  /-- SEQ expected next; none before the first unit (R16). -/
  expected : Option Nat
  /-- Payload of the object in progress. -/
  obj : List Byte
  /-- The object in progress begins behind a gap or a stale unit (R15). -/
  broken : Bool
  deriving DecidableEq, Repr

/-- The counters of one receiving block (R13, R15, R18). The spec gives them no register and no width: they are unbounded,
and a SYSTEM reset or POR clears them (DESIGN CHOICE, log entry 70). -/
structure FabricCount where
  block : Block
  gaps : Nat
  duplicates : Nat
  stales : Nat
  tagErrors : Nat
  deriving DecidableEq, Repr

/-- The last complete object of a kind that a block has taken from the fabric. -/
structure Delivered where
  block : Block
  kind : Nat
  recv : Nat
  gen : Nat
  bytes : List Byte
  /-- The object begins behind a gap or a stale unit (R15). -/
  gapped : Bool
  deriving DecidableEq, Repr

/-- A fabric unit with the blocks that receive it: its tag and its payload (R11, R12). -/
structure FabricUnit where
  dest : List Block
  tag : DWord
  payload : List Byte
  deriving DecidableEq, Repr

/-- The numbering of one stream at its sender (R15): the next SEQ. -/
structure TxStream where
  src : Nat
  kind : Nat
  recv : Nat
  next : Nat
  deriving DecidableEq, Repr

/-- The fabric (R11 to R18). -/
structure Fabric where
  /-- The configuration generation, 16 bits (R17). -/
  gen : Nat
  /-- The instant of the commit that last advanced the generation: at most one step at one commit (R17). -/
  genAt : Option Nat
  streams : List Stream
  counts : List FabricCount
  delivered : List Delivered
  /-- The senders' numbering (R15). -/
  tx : List TxStream
  /-- The units that the module's senders have put onto the fabric at the instant `servedAt`, in the order in which the
  arbiters serve them (R14). See log entry 71 (DESIGN CHOICE). -/
  served : List FabricUnit
  servedAt : Nat
  /-- The home domains whose reports arrive at their mirrors (R26). -/
  reports : List Nat
  deriving DecidableEq, Repr

/-- The latch of the high register of a 64-bit pair, for one requester (R25). -/
structure Latch where
  requester : Requester
  /-- Offset of the low register of the pair. -/
  off : Nat
  value : Word
  deriving DecidableEq, Repr

/-! ### Chapter 2: lanes, lockstep, vote and census -/

/-- One core of an execution pair: its signature register and its window (R28, R31). -/
structure CoreState where
  sig : DWord
  /-- Number of the open window since the core's start, of which R30 feeds the low 32 bits. -/
  window : Nat
  stores : Nat
  /-- Signatures of closed windows that the comparator has not yet compared, oldest first (R32). -/
  closed : List (Nat × DWord)
  deriving DecidableEq, Repr

/-- One entry of an egress buffer: the youngest window that contributes to it, and its data (R33). -/
structure EgressEntry where
  window : Nat
  addr : DWord
  data : List DWord
  deriving DecidableEq, Repr

/-- One execution pair (R28 to R40). -/
structure Pair where
  main : CoreState
  checker : CoreState
  egress : List EgressEntry
  /-- Egress entries released to the fabric (R33), counted. -/
  released : Nat
  /-- The main core waits for a free egress entry (R35). -/
  stalled : Bool
  /-- The comparator proof is armed: its 12,500,000 cycles have expired (R38). -/
  armed : Bool
  /-- Instant of the last expiry of the proof count, or of the start of the cores (R38). -/
  dueAt : Nat
  /-- The window that closed first after the count expired, and its signatures, main and checker, once the comparator has
  compared them (R38). -/
  proofWindow : Option Nat
  proofSigs : Option (DWord × DWord)
  /-- The proof pattern index n, 0 to 127 (R38). -/
  proofN : Nat
  /-- Instant of the last completed proof (R39). -/
  proofAt : Nat
  deriving DecidableEq, Repr

/-- A loop counter: the word index of the LOOP, its head, and its count (R127). -/
structure LoopCtr where
  at_ : Nat
  head : Nat
  count : Nat
  deriving DecidableEq, Repr

/-- One execution of a task in one lane (R119, R127, R129). -/
structure Exec where
  release : Nat
  /-- Word index of the next instruction. -/
  pc : Nat
  /-- Frame registers that the execution has written: number, static type, 64 bits (R119, R120). -/
  frame : List (Nat × (Ty × DWord))
  /-- Return word indices, innermost first. -/
  calls : List Nat
  loops : List LoopCtr
  /-- The execution has reached its end, and when (R79). -/
  ended : Bool
  endAt : Nat
  /-- The execution ended with a task fault (R84). -/
  faulted : Bool
  /-- The outputs of this execution are discarded (R96, R97). -/
  discarded : Bool
  /-- The execution was frozen in HOLD (R97): no overrun is counted for it. -/
  held : Bool
  deriving DecidableEq, Repr

/-- The census round of an event task in a lane (R57). -/
structure Round where
  task : Nat
  stamp : Nat
  next : Nat
  deriving DecidableEq, Repr

/-- What one safe stop path keeps between evaluations, beyond its registers (R254 to R265). -/
structure StopPath where
  /-- Edges before this instant are not measured (R274). -/
  since : Nat
  /-- t_s and v0 in µm/s of the stop in progress (R260). -/
  ts : Nat
  v0 : Nat
  /-- Since when v has been below V_SS, the sensors have differed, and the other contact has been stuck, at every
  evaluation. -/
  below : Option Nat
  differ : Option Nat
  stuck : Option Nat
  /-- Channel discrepancies held (R258): 0 none, 1 both OFF still to be read, 2 both ON still to be read. -/
  hold1 : Nat
  hold2 : Nat
  /-- A stop request stands (R257, R259). -/
  requested : Bool
  /-- An OFF run has reached 1 ms and ended since the last evaluation (R257). -/
  offRan : Bool
  deriving DecidableEq, Repr

/-- A delivery of a subscription to the lanes (R314 to R316), as a lane's staging buffer holds it. -/
structure TgeDelivery where
  status : Nat
  /-- DATA of R315: the object carries the dataset; else `data` is what the lane holds. -/
  hasData : Bool
  data : List Byte
  /-- COUNT of R315. -/
  count : Nat
  arrival : Bool
  validFrom : Nat
  deriving DecidableEq, Repr

/-- One lane (R62 to R69, R173). -/
structure LaneState where
  ep0 : Pair
  ep1 : Pair
  /-- Segment memory as stored, by the place of each byte (`storedKey`, R43). -/
  mem : List Host.Cell
  /-- Executions, by task. -/
  execs : List (Nat × Exec)
  /-- The task that each execution pair runs, by pair (R78). -/
  runs : List (Nat × Nat)
  /-- Rotating census slice of each cyclic task (R57). -/
  sliceNext : List (Nat × Nat)
  /-- Slices of a cyclic task hashed since its last execution, by task: execution count and slices (R57). -/
  sliceDone : List (Nat × (Nat × Nat))
  rounds : List Round
  /-- Slices (task, slice) compared since this lane joined with PROBATION. -/
  censusSeen : List (Nat × Nat)
  /-- Instants at which re-integration attempts started, oldest first (R68). -/
  attempts : List Nat
  exclAt : Nat
  readyAt : Nat
  offAt : Nat
  /-- Pre-copy passes done (R64, R65). -/
  passes : Nat
  /-- Lines (segment, logical line) that the pre-copy pass under way copies, and those that the source has written since
  it began (R64). -/
  copying : List (Nat × Nat)
  rewritten : List (Nat × Nat)
  /-- The seam that the transfer took, and whether the final delta has landed (R62). -/
  transferAt : Nat
  landed : Bool
  /-- Hash of the running folio's native image, once recorded (R173). -/
  xlatHash : Option DWord
  /-- Hash of the staged folio's native image. -/
  stagedHash : Option DWord
  /-- The folio slot recorded in the lane's flash (R182). -/
  slotRecord : Nat
  /-- Lines that executions wrote and no commit has marked yet: task, segment and logical line (R424). -/
  wrote : List (Nat × (Nat × Nat))
  /-- The lane's main cores are halted by a debugger (R454). -/
  halted : Bool
  /-- Its stop supervisor (R264), and that it entered the vote during a stop whose v0 it never saw (R266). -/
  stop : StopPath
  barred : Bool
  /-- Staging buffers of the subscriptions, by entry: newest first, at most 2 (R316). -/
  staged : List (Nat × List TgeDelivery)
  deriving DecidableEq, Repr

/-- A LANE_OUT object held by the vote (R46, R47). -/
structure OutObj where
  lane : Lane
  task : Nat
  gen : Nat
  bytes : List Byte
  deriving DecidableEq, Repr

/-- A census hash held for comparison (R59, R60). -/
structure CensusHash where
  lane : Lane
  task : Nat
  slice : Nat
  exec : Nat
  stamp : Nat
  abandoned : Bool
  round : Bool
  hash : DWord
  deriving DecidableEq, Repr

/-- The vote unit beyond its registers (R48 to R60). -/
structure VoteState where
  outs : List OutObj
  /-- The last voted OUT and TGO bytes: key `segKey segment offset` (R50, R81). -/
  voted : List Host.Cell
  census : List CensusHash
  /-- Slices (task, slice) compared in the census pass in progress. -/
  censusSeen : List (Nat × Nat)
  /-- The last commit that the vote processed: its instant and task (R54, R55). -/
  lastCommit : Option (Nat × Nat)
  /-- The failure wire to the safe stop monitor (R54). -/
  failWire : Bool
  deriving DecidableEq, Repr

/-! ### Chapter 3: the ductus -/

/-- A pending release of an event task (R88, R89, R92). -/
structure PendRelease where
  instant : Nat
  coalesced : Nat
  edges : Nat
  detail : Nat
  stamp : Nat
  deriving DecidableEq, Repr

/-- A time alarm (R91): the value taken, and whether it can still fire for it. -/
structure Alarm where
  value : Int
  since : Nat
  armed : Bool
  deriving DecidableEq, Repr

/-- The bookkeeping of one task, the same in every voting lane (R64, R80, R142, R179). -/
structure TaskBook where
  task : Nat
  releases : Nat
  commits : Nat
  /-- Execution count of R59. -/
  execs : Nat
  /-- Release instant of the last execution. -/
  lastRelease : Option Nat
  /-- DTIME of the last execution (R141). -/
  dtime : Nat
  first : Bool
  switched : Bool
  lastOvr : Bool
  consec : Nat
  /-- Commit instant that is still to be voted, and whether it belongs to a release that was skipped (R83). -/
  due : Option (Nat × Bool)
  /-- The next execution is the first after RUN entry from STOP (R141, R142). -/
  firstNext : Bool
  switchedNext : Bool
  pend : Option PendRelease
  alarm : Alarm
  /-- TASK_TRIGGER commands that wait for the pending release (R404). -/
  triggers : List Cmd
  /-- The release whose execution has ended in a voting lane: its end has been evaluated (R91, R406). -/
  endTaken : Option Nat
  deriving DecidableEq, Repr

/-- A mode, VOTE_CTRL.MODE (R94). -/
inductive Mode where
  | stop | run | hold
  deriving DecidableEq, Repr

/-- A mode change that has been accepted and waits for its instant (R95). -/
structure PendMode where
  target : Mode
  instant : Nat
  cmd : Option Cmd
  deriving DecidableEq, Repr

/-- One accepted VAR_WRITE record that waits for its release (R104 to R108). -/
structure PendWrite where
  cmd : Cmd
  accepted : Nat
  index : Nat
  identity : Nat
  element : Nat
  /-- Type of the variable when the record was checked (R189). -/
  ty : Ty
  value : DWord
  deriving DecidableEq, Repr

/-- A force (R109). -/
structure Force where
  identity : Nat
  element : Nat
  ty : Ty
  value : DWord
  deriving DecidableEq, Repr

/-- A VAR_READ that waits for its items (R406). -/
structure PendRead where
  cmd : Cmd
  accepted : Nat
  /-- Items: identity, first element, elements. -/
  items : List (Nat × Nat × Nat)
  /-- Items already read: position and reply bytes. -/
  got : List (Nat × List Byte)
  deriving DecidableEq, Repr

/-- A DIAG_SNAPSHOT SLICE that waits for the lanes' writes (R405). -/
structure PendSnap where
  cmd : Cmd
  task : Nat
  slice : Nat
  done : List Lane
  deriving DecidableEq, Repr

/-- A fence that waits (R110). -/
inductive FenceKind where
  | queue
  | commit (tasks : List Nat)
  | time (instant : Nat)
  deriving DecidableEq, Repr

structure Fence where
  cmd : Cmd
  accepted : Nat
  kind : FenceKind
  /-- The commands ahead of it in its queue that had not replied when it was accepted (R110). -/
  ahead : List Cmd
  deriving DecidableEq, Repr

/-- The ductus (R71 to R114). -/
structure Ductus where
  tasks : List TaskBook
  /-- Mode changes accepted and not yet in effect, by instant (R95). -/
  modes : List PendMode
  runEntry : Option Nat
  writes : List PendWrite
  reads : List PendRead
  forces : List Force
  fences : List Fence
  snaps : List PendSnap
  /-- The event tasks' overrun limit and mode registers live in `regs`. The instant of the last STOP entry. -/
  stopAt : Nat
  /-- A task that has reached its overrun limit at a commit instant whose commits are not all voted yet (R85, R114). -/
  limitHit : Option Nat
  /-- The instant of the last HOLD entry (R65). -/
  holdAt : Nat
  deriving DecidableEq, Repr

/-! ### Chapter 5: folios -/

/-- A task record of DUCTUS (R158). -/
structure TaskRec where
  task : Nat
  event : Bool
  priority : Nat
  ep : Nat
  limit : Nat
  source : Nat
  polarity : Nat
  /-- P or M, φ and D in ns. -/
  period : Nat
  phase : Nat
  deadline : Nat
  selector : Nat
  codeOff : Nat
  codeLen : Nat
  deriving DecidableEq, Repr

/-- A variable record of LAYOUT (R161). -/
structure VarRec where
  identity : Nat
  ty : Ty
  segment : Nat
  task : Nat
  array : Bool
  noCarry : Bool
  event : Bool
  offset : Nat
  count : Nat
  initOff : Nat
  deriving DecidableEq, Repr

/-- A record of INSTANCES (R163). -/
structure InstRec where
  identity : Nat
  block : Nat
  dtype : Nat
  task : Nat
  rebound : Bool
  offset : Nat
  deriving DecidableEq, Repr

/-- A record of IOMAP (R165). -/
structure IoRec where
  var : Nat
  channel : Nat
  kind : Nat
  deriving DecidableEq, Repr

/-- A record of TGMAP (R167). -/
structure TgRec where
  var : Nat
  entry : Nat
  kind : Nat
  bigEndian : Bool
  byteOff : Nat
  bitOff : Nat
  deriving DecidableEq, Repr

/-- A record of OUTMAP (R168). -/
structure OutRec where
  task : Nat
  seg : Nat
  start : Nat
  length : Nat
  deriving DecidableEq, Repr

/-- A folio as its sections declare it (R155 to R170). -/
structure Folio where
  autostart : Bool
  narrowRefuse : Bool
  loadLimit : Nat
  keySlot : Nat
  rbIndex : Nat
  rbValue : Nat
  id : List Byte
  /-- SEG_SIZE[0] to SEG_SIZE[7] (R160). -/
  segSize : List Nat
  tasks : List TaskRec
  /-- Stroke code words of all tasks. -/
  code : List Nat
  vars : List VarRec
  insts : List InstRec
  init : List Byte
  io : List IoRec
  tg : List TgRec
  out : List OutRec
  ssmDecl : List Byte
  /-- The signed message M (R170). -/
  message : List Byte
  deriving DecidableEq, Repr

/-- The staging area (R171). -/
inductive Staging where
  | empty
  | receiving (next : Nat) (total : Nat) (bytes : List Byte)
  | checking (bytes : List Byte) (cmd : Cmd)
  | staged (folio : Folio)
  deriving DecidableEq, Repr

/-- A FOLIO_SWITCH that waits for its seam (R177); no command in a standby that follows its active (R188). -/
structure Switch where
  cmd : Option Cmd
  accepted : Nat
  /-- The candidate instant announced, if any. -/
  announced : Option Nat
  confirmed : Bool
  /-- B of the partner, once its SCHEDULE record has brought it (R188). -/
  partnerBytes : Nat
  deriving DecidableEq, Repr

/-- Folio state (R171 to R188). -/
structure FolioState where
  staging : Staging
  running : Option Folio
  /-- The folio before the last seam and the generation that the seam ended, for LANE_OUT objects still in flight (R18,
  R178). -/
  previous : Option Folio
  previousGen : Nat
  pendingSwitch : Option Switch
  /-- The carry in progress, with the switch command that is answered when it completes (R182). -/
  carry : Option (Option Cmd)
  /-- OUT and TGO bytes, channels and publications held until the first voted commit of their new owner (R181):
  tasks that have not yet had a voted commit since the seam. -/
  unvoted : List Nat
  /-- Channels bound in the folio before the seam (R181). -/
  oldChannels : List Nat
  /-- The last announced seam that took place. -/
  seamAt : Option Nat
  deriving DecidableEq, Repr

/-! ### Chapters 6, 7 and 15: field channels -/

/-- A channel configuration (R194). -/
structure ChanCfg where
  kind : Nat
  flags : Nat
  stop : Nat
  blotter : Nat
  filter : Nat
  darkUs : Nat
  testS : Nat
  deriving DecidableEq, Repr

/-- A test of an output stage in progress (R232, R233). -/
structure ChanTest where
  /-- A dark pulse; else a probe. -/
  dark : Bool
  start : Nat
  /-- The readback has read 5 V or less during it. -/
  sawLow : Bool
  deriving DecidableEq, Repr

/-- One channel in its field controller (R193 to R239). -/
structure FcChan where
  pos : Nat
  cfg : ChanCfg
  pin : Pin
  /-- Instant at which the pin took its level. -/
  pinAt : Nat
  /-- Raw comparison of the last read: raw input state or readback. -/
  raw : Bool
  /-- Filtered input state (R206). -/
  filtered : Bool
  /-- Start of the run in which the raw state differs from the filtered one. -/
  run : Option Nat
  /-- Start of the last wetting pulse (R205), and whether the sink limit is raised. -/
  wetAt : Option Nat
  wetting : Bool
  /-- End of the VALID hold-off after a change of kind (R227). -/
  hold : Option Nat
  /-- Latest instant at which the stage turned off by command (R238). -/
  offAt : Nat
  /-- Instant of the next test (R230). -/
  due : Option Nat
  test : Option ChanTest
  /-- A first dark-pulse failure: 0 none, else its result code, and the instant of the repeat (R232). -/
  firstFail : Nat
  repeatAt : Option Nat
  /-- Since which 10 µs tick the readback has read 11 V or more, and 5 V or less, at every tick (R238). -/
  highTick : Option Nat
  lowTick : Option Nat
  /-- Latched off for overload, after a thermal shutdown that has not cooled, next retry, and the retry that runs
  (R236). -/
  latched : Bool
  hot : Bool
  retryAt : Nat
  retrying : Option Nat
  overload : Bool
  openLoad : Bool
  /-- OPEN_LOAD was set by an on-state or member condition (R237). -/
  openByOn : Bool
  extDrive : Bool
  /-- EXTERNAL_DRIVE was set by dark pulses (R232). -/
  extByDark : Bool
  deriving DecidableEq, Repr

/-- One bank supply in its field controller (R241 to R243). -/
structure FcBank where
  /-- Last measurement, in units of 10 mV. -/
  volts : Nat
  /-- Consecutive measurements at or below the thresholds. -/
  warnRun : Nat
  cutRun : Nat
  /-- Since when every measurement has been at or above 18.3 V, and 16.5 V. -/
  clearSince : Option Nat
  restoreSince : Option Nat
  warn : Bool
  cut : Bool
  /-- Cut under R239. -/
  latched : Bool
  /-- Restored, and waiting for the first APPLY instant (R242). -/
  waitApply : Bool
  restoredAt : Nat
  /-- Instant at which WARN was left, until VALID resumes (R243). -/
  validHold : Option Nat
  deriving DecidableEq, Repr

/-- A filtered edge that the field controller has not yet reported (R218). -/
structure FcEdge where
  pos : Nat
  rising : Bool
  stamp : Nat
  deriving DecidableEq, Repr

/-- A field controller (R190 to R248, R418 to R421). -/
structure FcState where
  chans : List FcChan
  /-- Banks 0 to 7. -/
  banks : List FcBank
  silenceMs : Nat
  banksUsed : Nat
  /-- Shadow records: (position, or 128 for the group record; SET; record). -/
  shadow : List (Nat × (Nat × List Byte))
  setTaken : Nat
  /-- A set has been taken over since the field controller started (R220). -/
  takenAny : Bool
  /-- APPLY instant of the last good frame that applied (R244). -/
  lastApply : Option Nat
  /-- The last good frame, until its APPLY instant. -/
  frame : Option (List Byte)
  /-- Commands of the last good frame that applied: bit p for position p. -/
  cmd : Nat
  blotter : Bool
  disable : Bool
  /-- The group holds the claim (R421). -/
  claim : Bool
  gen : Nat
  /-- The field controller's time, less the module's time scale, in ns (R207, R215). -/
  skew : Int
  /-- SEQ of the last accepted logic-to-field frame; of the next field-to-logic frame; STATUS_BANK (R216, R217). -/
  rxSeq : Option Nat
  txSeq : Nat
  statusBank : Nat
  edges : List FcEdge
  /-- STATE of every position at the last 10 µs tick (R206, R208). -/
  tick : Nat
  /-- The latest of a take-over and a gain of the claim (R238). -/
  evalFrom : Nat
  /-- Claim offer received since the previous exchange, the last one, and how often it was used again (R419). -/
  offer : Option Nat
  lastOffer : Nat
  reused : Nat
  /-- Result of the exchange that takes effect at the next APPLY instant (R421). -/
  claimNext : Option Bool
  /-- Consecutive exchanges in which the partner was not seen, and seen (R421). -/
  unseen : Nat
  seenRun : Nat
  claimFault : Bool
  deriving DecidableEq, Repr

/-- The logic side of a group (R210 to R223). -/
structure FioGroup where
  /-- SEQ of the next logic-to-field frame; of the last accepted field-to-logic frame. -/
  txSeq : Nat
  rxSeq : Option Nat
  /-- The frames that are on the link: logic-to-field and field-to-logic. -/
  sentLf : List Byte
  sentFl : List Byte
  /-- SET of the first good field-to-logic frame since SYSTEM reset (R220). -/
  firstSet : Option Nat
  /-- The input image: SAMPLE, STATE and VALID bits (R208, R210). -/
  sample : Nat
  stateBits : Nat
  validBits : Nat
  /-- The shadow set that frames take over until the group reports it (R223). -/
  taking : Option Nat
  /-- Flags of the positions that the take-over in `taking` changes, as they were before it, and the instant at which it
  applied (R227). -/
  before : List (Nat × Nat)
  takenAt : Option Nat
  /-- The edges whose records the last field-to-logic frame dropped (R218). -/
  dropped : List FcEdge
  /-- The sequence-of-events buffer, oldest first (R211), and LOST_BEFORE of the next record. -/
  soe : List (List Byte)
  lostBefore : Bool
  order : Nat
  /-- Records appended since SYSTEM reset: the next place in the buffer's module memory. -/
  soeCount : Nat
  deriving DecidableEq, Repr

/-- One record of the shadow set (R221). -/
structure ShadowRec where
  grp : Grp
  bytes : List Byte
  /-- The packet that brought it; none in a re-arm set. -/
  cmd : Option Cmd
  /-- The first grid instant whose frame may carry it. -/
  start : Nat
  /-- SEQ of the frame that carried it last. -/
  sent : Option Nat
  acked : Bool
  deriving DecidableEq, Repr

/-- The shadow set (R220 to R226). -/
structure ShadowSet where
  num : Nat
  recs : List ShadowRec
  /-- The packet with LAST, once accepted. -/
  last : Option Cmd
  closedAt : Option Nat
  touchedAt : Nat
  /-- Its completion K has come (R222). -/
  complete : Bool
  /-- A re-arm set of a group (R247). -/
  rearm : Option Grp
  deriving DecidableEq, Repr

/-- The take-over of a set under way (R223, R226): its packet with LAST, the commit, the groups still to change. -/
structure TakeOver where
  num : Nat
  last : Option Cmd
  at_ : Nat
  groups : List Grp
  deriving DecidableEq, Repr

/-- The field interface (R190 to R248). -/
structure FioState where
  fc0 : FcState
  fc1 : FcState
  g0 : FioGroup
  g1 : FioGroup
  set : Option ShadowSet
  nextSet : Option Nat
  takeOvers : List TakeOver
  /-- The first shadow set since SYSTEM reset has been taken over (R247). -/
  firstTaken : Bool
  /-- The last voted state of each channel with an OUTPUT_CMD binding (R198). -/
  chan : List (Nat × Bool)
  deriving DecidableEq, Repr

/-! ### Chapter 8: the safe stop paths -/

/-- A speed sensor as the paths time it (R254): rising edges since its last silence of 2 s, and the last two. -/
structure SpeedSensor where
  count : Nat
  last : Option Nat
  prev : Nat
  deriving DecidableEq, Repr

/-- One stop-request channel (R253): ON, and since when. -/
structure ReqChannel where
  on : Bool
  since : Nat
  deriving DecidableEq, Repr

/-- An SSM_PARAM_LOAD that is served or waits (R272). -/
structure ParamLoad where
  cmd : Cmd
  record : List Byte
  since : Nat
  deriving DecidableEq, Repr

/-- The safe stop monitor and what the two paths share (R251 to R278). -/
structure SsmState where
  /-- The locked parameter record, 48 B (R269, R272); none while UNLOADED. -/
  record : Option (List Byte)
  path : StopPath
  speedA : SpeedSensor
  speedB : SpeedSensor
  /-- SREQ1_A, SREQ1_B, SREQ2_A, SREQ2_B. -/
  reqs : List ReqChannel
  /-- A fault of R256, and one of the record's parity or CRC (R272), that the next evaluation takes. -/
  oscFault : Bool
  parityFault : Bool
  /-- Instant of the last start or stop of the heartbeat (R266). -/
  hbAt : Nat
  /-- The contacts. -/
  sto1 : Bool
  sto2 : Bool
  /-- Permit vote: the lane that differed at the last evaluation, and that the permits differed (R267). -/
  odd : Option Lane
  differed : Bool
  loads : List ParamLoad
  deriving DecidableEq, Repr

/-! ### Chapter 9: the switch and the inkwell -/

/-- What the configuration gives a port beyond PORT_STAT (R284, R285), and its flood count (R289). -/
structure PortCfg where
  accept : Nat
  learn : Bool
  /-- FLOOD_LIMIT; the millisecond that is counted, and the flooded frames admitted in it. -/
  flood : Nat
  floodMs : Nat
  floodCount : Nat
  deriving DecidableEq, Repr

/-- A VLAN (R284). -/
structure Vlan where
  vid : Nat
  members : Nat
  untagged : Nat
  deriving DecidableEq, Repr

/-- An entry of the forwarding table (R288): `at_` is its last refresh on the local monotonic time. -/
structure FdbEntry where
  mac : Nat
  vid : Nat
  ports : Nat
  static : Bool
  at_ : Nat
  deriving DecidableEq, Repr

/-- A gate list (R284, R292): entries are (open classes, length in ns). -/
structure GateList where
  base : Nat
  cycle : Nat
  entries : List (Nat × Nat)
  deriving DecidableEq, Repr

/-- The gates of one port: the list in force, the list that waits for its first cycle start (R294), and the mask of
the open gates. -/
structure PortGate where
  list : Option GateList
  next : Option (GateList × Nat)
  gates : Nat
  deriving DecidableEq, Repr

/-- A frame in the inkwell (R286, R289, R295 to R297). -/
structure NetFrame where
  id : Nat
  port : Nat
  /-- The frame without tag and FCS. -/
  core : List Byte
  vid : Nat
  pcp : Nat
  /-- Length as received, with FCS. -/
  length : Nat
  /-- Drawn from the shared pool; else from the reserve of its port. -/
  shared : Bool
  cells : Nat
  /-- Egress ports whose queue references the frame, and those that send it untagged. -/
  refs : List Nat
  untagged : Nat
  /-- Its ingress stamp in units of 0.1 ns (R331), and the ING_LAT of its port at its first byte, in units of 2^−16 ns
  (R343). -/
  stamp : Nat
  lat : Int
  /-- The telegram engine references it (R297). -/
  engine : Bool
  deriving DecidableEq, Repr

/-- A transmission in progress at a port (R293), with the bytes that leave. -/
structure TxRun where
  port : Nat
  id : Nat
  cls : Nat
  start : Nat
  bytes : List Byte
  /-- Cut-through, and ended with an inverted FCS (R290). -/
  cut : Bool
  stomped : Bool
  deriving DecidableEq, Repr

/-- The correction that waits for the Follow_Up of a two-step Sync forwarded to a port (R333). -/
structure TcWait where
  port : Nat
  /-- sourcePortIdentity and sequenceId. -/
  key : List Byte
  /-- In units of 2^−16 ns. -/
  corr : Int
  deriving DecidableEq, Repr

/-- The network configuration set (R283). -/
structure NetSet where
  recs : List (List Byte)
  last : Option Cmd
  closedAt : Option Nat
  touchedAt : Nat
  deriving DecidableEq, Repr

/-- The configuration before the last take-over, under which a frame whose first byte came earlier is handled (R289,
R343): the take-over's instant, the ports, the registers that hold the configuration, the VLANs and the static
entries. -/
structure NetBefore where
  until_ : Nat
  ports : List PortCfg
  words : List (Nat × Word)
  vlans : List Vlan
  statics : List FdbEntry
  deriving DecidableEq, Repr

/-- The switch, the inkwell and MP beyond their registers (R279 to R302). -/
structure NetState where
  ports : List PortCfg
  vlans : List Vlan
  fdb : List FdbEntry
  ageS : Nat
  gates : List PortGate
  frames : List NetFrame
  nextId : Nat
  /-- Egress queues, by 8·port + class: frame identifiers, head first (R291). -/
  queues : List (Nat × List Nat)
  tx : List TxRun
  /-- The last frame that each port sent complete, and the last one delivered to port 6. -/
  sent : List (Nat × List Byte)
  port6 : List Byte
  tcWait : List TcWait
  set : Option NetSet
  /-- MP: prefix, address (none before the first MP record: link-local), gateway (R282, R284); its last frame sent. -/
  mpPrefix : Nat
  mpAddr : Option Nat
  mpGateway : Nat
  mpSent : List Byte
  /-- Capture: port and frames still to capture; the capture record, if the buffer holds one (R378, R405). -/
  capture : Option (Nat × Nat)
  /-- Records in force: those taken over since SYSTEM reset, each replaced by a later one of its key (R284). -/
  inForce : List (List Byte)
  captured : Option (List Byte)
  before : Option NetBefore
  /-- Instant at which a frame last left a port's queues (R290); an unlisted port has had none. -/
  quiet : List (Nat × Nat)
  /-- Link-local addresses that MP has given up because another station uses them (R282). -/
  mpTry : Nat
  deriving DecidableEq, Repr

/-! ### Chapter 10: the telegram engine -/

/-- Where a SUBSCRIBE entry is matched (R312): a way of a bucket, or the overflow. -/
inductive TgeSlot where
  | none
  | bucket (b : Nat)
  | overflow
  deriving DecidableEq, Repr

/-- An entry of the telegram table (R303 to R318). -/
structure TgeEntry where
  index : Nat
  /-- The record of R305 and R306. -/
  rec_ : List Byte
  addedAt : Nat
  slot : TgeSlot
  /-- Freshness state, TGE_ENT_STAT.STATE. -/
  st : Nat
  missed : Nat
  topoRej : Bool
  /-- Last accepted sequence (R313), and the instants of the last two acceptances (R318). -/
  lastSeq : Nat
  accepted : List Nat
  /-- Last accepted dataset. -/
  data : List Byte
  /-- The last delivery that started: the current dataset and status (R314). -/
  cur : Option TgeDelivery
  /-- SEQ count of a publication (R320); its status bits for a TGI binding (R317). -/
  sends : Nat
  pubStatus : Nat
  deriving DecidableEq, Repr

/-- A delivery that is due 1 µs after the last byte of its telegram (R314). -/
structure TgeDue where
  entry : Nat
  at_ : Nat
  data : List Byte
  /-- The frame in the inkwell that the engine references until then (R297). -/
  frame : Option Nat
  deriving DecidableEq, Repr

/-- An accepted change of the table (R308): its record, or the indices that it deletes; or the records of the stored
table, which the start-up sequence delivers as one change (R310). -/
inductive TgeChange where
  | add (record : List Byte)
  | table (records : List (List Byte))
  | del (indices : List Nat)
  deriving DecidableEq, Repr

/-- A change that waits for its commit (R308). -/
structure TgePending where
  /-- None for the table delivered by the start-up sequence. -/
  cmd : Option Cmd
  accepted : Nat
  change : TgeChange
  deriving DecidableEq, Repr

/-- A UDP port profile (R307). -/
structure TgeProfile where
  num : Nat
  port : Nat
  keyOff : Nat
  keyLen : Nat
  deriving DecidableEq, Repr

/-- Voted publication bytes on their way to the engine (R319): the instant at which they reach it, and
(key of a dataset byte, (mask of the bits, value)). -/
structure TgoArrival where
  at_ : Nat
  bytes : List (Nat × (Nat × Nat))
  deriving DecidableEq, Repr

/-- The telegram engine (R303 to R322). -/
structure TgeState where
  entries : List TgeEntry
  profiles : List TgeProfile
  pending : List TgePending
  due : List TgeDue
  /-- Voted publication bytes in the engine: key `entry · 2048 + byte`, (mask, value). -/
  pub : List (Nat × (Nat × Nat))
  arrivals : List TgoArrival
  /-- What the last change replaced: its instant, the entries it removed, and the topology counters and profiles before it
  (R310, R311, R322). -/
  changeAt : Nat
  gone : List TgeEntry
  oldTopo : Nat × Nat
  oldProfiles : List TgeProfile
  /-- Deliveries of each entry index since SYSTEM reset, modulo 2^32 (R315); an unlisted index has none. -/
  counts : List (Nat × Nat)
  deriving DecidableEq, Repr

/-! ### Chapter 11: network time -/

/-- PTP at one port (R330 to R332). Times are in units of 2^−16 ns. -/
structure PtpPort where
  mode : Nat
  extState : Nat
  /-- The last Sync: its sequence, t1 if known, t2, its correction, and whether a Follow_Up must come. -/
  syncSeq : Nat
  syncT1 : Option Int
  syncT2 : Int
  syncCorr : Int
  syncWait : Bool
  /-- The delay request sent last: its sequence and t3; the peer-delay request: its sequence and t1. -/
  reqSeq : Nat
  reqT3 : Option Int
  pdSeq : Nat
  pdT1 : Option Int
  /-- Of a peer-delay response: t4, t2, and t3 if known. -/
  pdT4 : Int
  pdT2 : Int
  pdWait : Bool
  /-- Link delay, once measured. -/
  link : Option Int
  /-- Identity of the master of the last measurement. -/
  master : Nat
  /-- The last message sent at this port: kind and sequence. -/
  sent : Option (Nat × Nat)
  deriving DecidableEq, Repr

/-- Why a step is made (R336, R339, R340). -/
inductive StepKind where
  | first
  | set (cmd : Cmd) (time : Nat)
  | restep (cmd : Cmd)
  deriving DecidableEq, Repr

/-- A step that waits for its step point (R337): Δ in ns, where it is already known. -/
structure PendStep where
  kind : StepKind
  delta : Int
  decided : Nat
  deriving DecidableEq, Repr

/-- The time unit (R323 to R343). -/
structure TimeState where
  /-- The PTP record in force (R330). -/
  record : List Byte
  ports : List PtpPort
  /-- The last consecutive offset measurements from one master, oldest first, and that master. -/
  offsets : List Int
  source : Nat
  /-- Since when every measurement has been beyond 1 ms, and within 100 µs (R335). -/
  farSince : Option Nat
  nearSince : Option Nat
  /-- Instant of the last Sync from the master. -/
  syncAt : Nat
  step : Option PendStep
  /-- TIME_RESTEP that still measures: its command and acceptance. -/
  restep : Option (Cmd × Nat)
  /-- From this instant on frames are sent, and tasks released, after a step (R337). -/
  framesFrom : Nat
  releasesFrom : Nat
  /-- The PPS output, and the unit of REQ18 (R378). -/
  pps : Bool
  unit_ : Option (List Byte)
  /-- The instant of the scale from which r has held its value, and the fraction accumulator then, in units of 2^−48 ns
  (R324). -/
  rateFrom : Nat
  acc : BitVec 48
  deriving DecidableEq, Repr

/-! ### Chapter 12: the host bridge -/

/-- Why an outbound read was sent (R363). -/
inductive ReadUse where
  | burst (q : Nat)
  | flush (q : Nat)
  deriving DecidableEq, Repr

/-- An outbound read with its tag and reservation (R363). -/
structure OutRead where
  tag : Nat
  bytes : Nat
  use : ReadUse
  since : Nat
  deriving DecidableEq, Repr

/-- The host bridge beyond its registers (R344 to R365). -/
structure BrgState where
  /-- Read-ahead lines: module address of the line, and the instant of its fetch (R357). -/
  ahead : List (Nat × Nat)
  /-- MSI-X table words by index; an unlisted one holds its reset word (R347). -/
  msix : List (Nat × Word)
  /-- Pending bits of the vectors. -/
  waiting : Nat
  /-- The last MSI-X message: vector, address, data; and how many were sent. -/
  message : Option (Nat × (Nat × Nat))
  messages : Nat
  /-- The last completion of an inbound read: 0 successful, 1 Unsupported Request, 4 Completer Abort; and its bytes. -/
  status : Nat
  data : List Byte
  /-- AER errors reported: fatal for a malformed TLP, non-fatal for a poisoned write (R359). -/
  aerFatal : Bool
  aerNonFatal : Bool
  reads : List OutRead
  /-- Bytes of posted data that the host will take now (R363). -/
  credit : Nat
  /-- The last posted write to host memory, and how many were sent. -/
  posted : Option (Nat × List Byte)
  writes : Nat
  /-- PERST_N since when it is asserted; none while it is released (R489). -/
  perst : Option Nat
  deriving DecidableEq, Repr

/-! ### Chapter 13: queues -/

/-- A burst in flight (R377, R379): its length, the request line of a line burst, and the data once it has come. -/
structure Burst where
  length : Nat
  line : Option Nat
  data : Option (List Byte)
  deriving DecidableEq, Repr

/-- The descriptor that a queue serves (R373, R380 to R383). -/
structure Move where
  counter : Nat
  desc : List Byte
  /-- Bytes moved, or bytes of the packet read. -/
  done : Nat
  packet : List Byte
  burst : Option Burst
  /-- Retries of the failed burst, and of the descriptor (R383). -/
  retries : Nat
  spent : Nat
  /-- RETRY when the burst started (R367). -/
  limit : Nat
  retryAt : Option Nat
  /-- The end of the last burst (R380), and the address of the last doubleword written (R381). -/
  lastBurst : Option Nat
  lastWrite : Nat
  /-- STATUS with which the descriptor completes once its flush read returns. -/
  flush : Option Nat
  deriving DecidableEq, Repr

/-- A command handed to the scribe that has not replied (R374). -/
structure Forwarded where
  counter : Nat
  desc : List Byte
  packet : List Byte
  /-- The command, once the scribe has received it. -/
  cmd : Option Cmd
  deriving DecidableEq, Repr

/-- One queue beyond its registers (R366 to R386). -/
structure QueueRun where
  /-- Descriptors fetched and not started: counter and bytes. -/
  fetched : List (Nat × List Byte)
  active : Option Move
  cmds : List Forwarded
  /-- Counters completed beyond DONE. -/
  completed : List Nat
  /-- The descriptor at which the queue halted with cause OWNERSHIP or FORMAT (R372). -/
  bad : List Byte
  deriving DecidableEq, Repr

/-- The queue configuration set (R367). -/
structure QueSet where
  recs : List (List Byte)
  last : Option Cmd
  closedAt : Option Nat
  touchedAt : Nat
  deriving DecidableEq, Repr

/-- The queue engine beyond its registers (R366 to R386). -/
structure QueState where
  /-- Queues 0 to 15. -/
  queues : List QueueRun
  /-- Units of the lines: line and bytes; and telegram units that wait for a burst-done (R378). -/
  units : List (Nat × List Byte)
  nextUnits : List (Nat × List Byte)
  /-- The queue served last at each priority (R377). -/
  served : List (Nat × Nat)
  set : Option QueSet
  /-- Packets in the scribe's own buffer, by address, each with its source (R375, R411). -/
  scribeBuf : List (Nat × (Nat × List Byte))
  /-- The last reply that the scribe sent from MP, with its destination (R411). -/
  mpReply : Nat × List (List Byte)
  deriving DecidableEq, Repr

/-! ### Chapter 14: sessions, commands and replies -/

/-- The numbers that a checker has accepted in a session (R391): the highest, and those seen within the 1,024 below. -/
structure SeqWindow where
  high : Nat
  seen : List Nat
  deriving DecidableEq, Repr

/-- A session, pending or open (R394 to R396). Its four keys are no data of the model (DESIGN CHOICE, log entry 8). -/
structure Session where
  id : Nat
  /-- 0 HOST, 1 MANAGEMENT (R396). -/
  path : Nat
  /-- Completed by the second phase (R395). -/
  opened : Bool
  /-- Requested level, and after completion the granted one (R397). -/
  level : Nat
  /-- Owner slot whose key signed the credential; none in BLANK. -/
  slot : Option Nat
  /-- Opened in BLANK without a credential (R395). -/
  blank : Bool
  createdAt : Nat
  lastAt : Nat
  laneWindow : SeqWindow
  scribeWindow : SeqWindow
  /-- Numbers sent in the two reply series (R390). -/
  laneTx : Nat
  scribeTx : Nat
  deriving DecidableEq, Repr

/-- A command accepted 2oo3 that has not yet replied (R401, R403). `started` is false between the acceptance by
verdicts and the command's own step. -/
structure CmdRec where
  cmd : Cmd
  opcode : Nat
  accepted : Nat
  started : Bool
  deriving DecidableEq, Repr

/-- A command held unstarted behind a fence of its queue (R403). -/
structure HeldCmd where
  cmd : Cmd
  opcode : Nat
  deriving DecidableEq, Repr

/-- A reply (R387, R389, R402): its parameters in clear, and for the LANE class the copies that lanes have
delivered until two agree. -/
structure Reply where
  cmd : Cmd
  opcode : Nat
  status : Nat
  params : List Byte
  /-- Number of the reply in its session's series (R390); 0 for a plain reply. -/
  sequence : Nat
  /-- Copies that lanes have delivered, with the instants of their arrival. -/
  copies : List (Lane × (List Byte × Nat))
  /-- Released by the vote, or the scribe's own. -/
  released : Bool
  /-- Its session has ended, or no two copies agreed: nothing is sent (R396, R402). -/
  dropped : Bool
  /-- Written, while a lane's copy is still awaited (R402). -/
  written : Bool
  deriving DecidableEq, Repr

/-- A LANE-class packet that the scribe has forwarded and the vote has not decided (R399, R401). -/
structure Inflight where
  cmd : Cmd
  opcode : Nat
  /-- SEQUENCE of the packet. -/
  sequence : Nat
  /-- Its trailer verifies in the lanes. -/
  authentic : Bool
  /-- Verdicts that lanes have formed, and those that have reached the vote with their instants. -/
  formed : List (Lane × Verdict)
  verdicts : List (Lane × (Verdict × Nat))
  /-- The vote has acted on two identical verdicts: the verdict and the instant. -/
  decided : Option (Verdict × Nat)
  deriving DecidableEq, Repr

/-- A datagram in reassembly on MP (R411). -/
structure Reassembly where
  source : Nat
  ident : Nat
  since : Nat
  /-- Fragments received: offset and bytes; and the length, once the last fragment has come. -/
  parts : List (Nat × List Byte)
  total : Option Nat
  deriving DecidableEq, Repr

/-- A token bucket (R392, R411). -/
structure Bucket where
  tokens : Nat
  /-- Instant of the last refill. -/
  since : Nat
  deriving DecidableEq, Repr

/-- The packet in the mailbox (R398): its length, and the command once the scribe has received it. -/
structure Mail where
  length : Nat
  cmd : Option Cmd
  deriving DecidableEq, Repr

/-- The Quill machinery (R387 to R413). -/
structure QuillState where
  sessions : List Session
  nextSession : Nat
  /-- Commands accepted and not yet replied, in acceptance order. -/
  cmds : List CmdRec
  held : List HeldCmd
  /-- Replies, oldest first. -/
  replies : List Reply
  inflight : List Inflight
  reassembly : List Reassembly
  /-- Plain replies of HOST and of MANAGEMENT (R392), and MP datagrams (R411). -/
  plainHost : Bucket
  plainMp : Bucket
  mpRate : Bucket
  /-- The mailbox command outstanding (R398), and the length that MBOX_M2H holds (R350). -/
  mailbox : Option Mail
  mboxM2h : Nat
  /-- Log records written since SYSTEM reset (R412). -/
  logCount : Nat
  deriving DecidableEq, Repr

/-! ### Chapter 15: the pair -/

/-- A LINE record (R423): segment (8 for task bookkeeping), task, logical line and its 64 bytes. -/
structure CopyLine where
  seg : Nat
  task : Nat
  line : Nat
  data : List Byte
  deriving DecidableEq, Repr

/-- A copy epoch (R424, R426). -/
structure CopyEpoch where
  token : Nat
  point : Nat
  full : Bool
  final : Bool
  /-- Lines that EPOCH_HEAD announced, and those present. -/
  expected : Nat
  lines : List CopyLine
  /-- A gap was counted in it. -/
  broken : Bool
  deriving DecidableEq, Repr

/-- The standby's own state at a copy point (R425): the memory of one voting lane, the bookkeeping lines by task, and the
lines written between the copy point before it and this one. -/
structure CopyPoint where
  point : Nat
  lane : Lane
  mem : List Host.Cell
  books : List (Nat × List Byte)
  written : List (Nat × (Nat × Nat))
  deriving DecidableEq, Repr

/-- The input set of a release (R428). -/
structure InputSet where
  task : Nat
  release : Nat
  instant : Nat
  expected : Nat
  lines : List CopyLine
  broken : Bool
  deriving DecidableEq, Repr

/-- The output signature of a commit of this module (R429): COMMIT count, signature, and whether it is not compared. -/
structure OwnSig where
  task : Nat
  commit : Nat
  sig : DWord
  skip : Bool
  deriving DecidableEq, Repr

/-- A role swap that waits for W (R433). -/
structure Swap where
  w : Nat
  /-- The command, in the module that received it. -/
  cmd : Option Cmd
  confirmed : Bool
  /-- The roles have changed at W and the frame at W + 20 µs is awaited. -/
  swapped : Bool
  deriving DecidableEq, Repr

/-- The pair beyond the DUP registers (R414 to R435). -/
structure DupState where
  /-- The last HELLO record, 80 B, and its instant (R422, R423). -/
  hello : List Byte
  helloAt : Nat
  /-- Records put onto the copybook link at the last instant at which any were sent. -/
  out : List (List Byte)
  /-- The instant at which they were put there. -/
  outAt : Nat
  /-- Lines marked since the last freeze, or in a standby since its last copy point (R424, R425). -/
  marks : List (Nat × (Nat × Nat))
  /-- TOKEN of the next epoch, and the epochs whose tokens are not returned (R427). -/
  token : Nat
  flight : List CopyEpoch
  /-- The instant at which the last epoch's TERM leaves. -/
  sentUntil : Nat
  /-- Full synchronisation under way at the active: passes sent, and its start (R426). -/
  sync : Option (Nat × Nat)
  /-- The epoch and the input set being received, and the input sets that have landed. -/
  rx : Option CopyEpoch
  rxInput : Option InputSet
  inputs : List InputSet
  /-- The standby's own state at copy points, oldest first (R425). -/
  points : List CopyPoint
  /-- Copy point of the last epoch that landed. -/
  landed : Nat
  /-- The FINAL epoch has been applied (R426). -/
  inStep : Bool
  /-- Instant of the last freeze, and of the end of the last full synchronisation (R424, R426). -/
  frozen : Nat
  syncedAt : Nat
  sigs : List OwnSig
  /-- Tasks whose last release took the module's own inputs (R428). -/
  ownInputs : List Nat
  /-- Consecutive exchanges lost while ACTIVE was offered, by group (R432). -/
  lost0 : Nat
  lost1 : Nat
  swap : Option Swap
  deriving DecidableEq, Repr

/-! ### Chapter 16: the vellum -/

/-- A measurement (R455): BANK 255 where not applicable. -/
structure Measure where
  part : Nat
  inst : Nat
  bank : Nat
  version : Nat
  digest : List Byte
  deriving DecidableEq, Repr

/-- The vellum beyond the MGMT.SEC registers (R436 to R457), and the debug port (R452). -/
structure VellumState where
  /-- Key records by slot: ECDSA_PUB and MLDSA_PUB (R440). -/
  keys : List (Nat × List Byte)
  measures : List Measure
  /-- The instruction in the IEEE 1149.1 port: 0 IDCODE, 1 BYPASS, 2 SAMPLE, 3 PRELOAD, 4 EXTEST. -/
  jtag : Nat
  deriving DecidableEq, Repr

/-! ### Chapter 17: rubrics and the persistent store -/

/-- One part of a staged rubric: the next block, and the bytes in its element's inactive bank (R465). -/
structure RubPart where
  next : Nat
  bytes : List Byte
  deriving DecidableEq, Repr

/-- States of the activation record (R468). -/
inductive ActState where
  | none | armed | tried | confirmed | reverted
  deriving DecidableEq, Repr

/-- A generation of a store record (R474, R476): a failing CRC makes it invalid. -/
structure StoreRec where
  generation : Nat
  format : Nat
  time : Nat
  body : List Byte
  valid : Bool
  deriving DecidableEq, Repr

/-- A STORE under way (R477): the kinds still to be written, the first one programming. -/
structure StoreRun where
  cmd : Cmd
  kinds : List Nat
  /-- Body of the record that programs. -/
  body : List Byte
  deriving DecidableEq, Repr

/-- Rubrics and the store beyond their registers (R461 to R479). -/
structure RubState where
  /-- The staged manifest; empty when none. -/
  manifest : List Byte
  parts : List RubPart
  /-- The activation record: its state and its manifest (R468). -/
  record : ActState
  active : List Byte
  /-- Banks in force, by PART × 256 + INSTANCE; an unlisted element runs bank 0. -/
  banks : List (Nat × Nat)
  /-- The parts run from their new banks: the trial, and its first start (R470). -/
  trial : Bool
  trialAt : Nat
  /-- Instant of the reset of RUBRIC_ACTIVATE (R467). -/
  resetAt : Option Nat
  /-- A start has read the activation record since the last reset (R468). -/
  started : Bool
  /-- Elements of the rubric that have not yet passed their first start: PART × 256 + INSTANCE. -/
  left : List Nat
  /-- The folio part, checked at commit, and the folio it replaces during the trial. -/
  folio : Option Folio
  /-- The folio in the slot that the lanes' flash records (R182). -/
  recorded : Option Folio
  /-- The two slots of each kind (R476). -/
  store : List (Nat × (Option StoreRec × Option StoreRec))
  storing : Option StoreRun
  /-- CH_CNT of every channel at the last counters store (R475). -/
  counted : List Nat
  deriving DecidableEq, Repr

/-! ### Chapter 18: reset, power and clocks -/

/-- An overlap of reset sources of SYSTEM or POR reach (R484). -/
structure Overlap where
  /-- Sources asserted now. -/
  asserted : List Nat
  /-- Every source asserted during the overlap, as a mask. -/
  sources : Nat
  first : Nat
  /-- 1 POR, 2 SYSTEM: the deepest so far. -/
  level : Nat
  announced : Bool
  swCause : Nat
  seconds : Nat
  deriving DecidableEq, Repr

/-- A dip of VIN and its window (R491, R494, R495). -/
structure Dip where
  /-- First fall below 11.0 V, and the last rise above 11.2 V, in the window. -/
  first : Nat
  rise : Nat
  vmin : Nat
  entries : Nat
  flags : Nat
  deriving DecidableEq, Repr

/-- The reset controller beyond its registers (R480 to R503). -/
structure PowerState where
  overlap : Option Overlap
  /-- Instant of the last release, and of the last domain switched on. -/
  releasedAt : Nat
  lastOn : Nat
  /-- Converter trips that wait for their restart (R490). -/
  trip0 : Option Nat
  trip1 : Option Nat
  /-- Since when VIN has been below 11.0 V at every measurement, and its lowest value since. -/
  lowSince : Option Nat
  lowMin : Nat
  dip : Option Dip
  /-- VBAK fell below 2.2 V while VIN was absent (R493). -/
  lost : Bool
  /-- The local monotonic time at which the seconds count of PD_AON stood at what AON_SEC_LO and AON_SEC_HI hold; it
  counts on its crystal from there (R325). -/
  aonAt : Nat
  deriving DecidableEq, Repr

/-! ### The whole state -/

/-- The state of the module. -/
structure State where
  /-- The commands that wait, first in first out. -/
  pending : List Instr
  /-- Free values taken so far: the model's own counter, no state of the spec (DESIGN CHOICE, log entry 4). -/
  fresh : Nat
  /-- The instant on the module's time scale, ns (R74). -/
  now : Nat
  /-- The local monotonic time, ns (R68); `power.releasedAt` is its value at the last release of a SYSTEM reset or POR. -/
  mono : Nat
  /-- Registers: (BAR0 offset, word), an unlisted offset holding its reset word. -/
  regs : List (Nat × Word)
  /-- Module memory (R348): (module address, byte), an unlisted address reading 0. -/
  mem : List Host.Cell
  /-- The fabric (R11 to R18). -/
  fabric : Fabric
  /-- The latches of 64-bit register pairs (R25). -/
  latches : List Latch
  /-- The word that the last register read returned. -/
  readOut : Word
  /-- Lane A. -/
  laneA : LaneState
  /-- Lane B. -/
  laneB : LaneState
  /-- Lane C. -/
  laneC : LaneState
  /-- The vote unit. -/
  vote : VoteState
  /-- The ductus. -/
  ductus : Ductus
  /-- Folios. -/
  folio : FolioState
  /-- The field interface and the field controllers. -/
  fio : FioState
  /-- The safe stop monitor. -/
  ssm : SsmState
  /-- The switch, the inkwell and MP. -/
  net : NetState
  /-- The telegram engine. -/
  tge : TgeState
  /-- The time unit. -/
  time : TimeState
  /-- The host bridge. -/
  brg : BrgState
  /-- The queue engine. -/
  que : QueState
  /-- The pair. -/
  dup : DupState
  /-- The vellum and the debug port. -/
  vellum : VellumState
  /-- Rubrics and the persistent store. -/
  rub : RubState
  /-- The reset controller. -/
  power : PowerState
  /-- Sessions, commands, replies and the log counter. -/
  quill : QuillState
  deriving DecidableEq, Repr

/-- The fabric after reset: generation 0 (R17), no stream, no unit. -/
def fabricReset : Fabric :=
  { gen := 0, genAt := none, streams := [], counts := [], delivered := [], tx := [], served := [], servedAt := 0, reports := [] }

/-- The vote unit after reset: nothing held, nothing voted. -/
def voteReset : VoteState :=
  { outs := [], voted := [], census := [], censusSeen := [], lastCommit := none, failWire := false }

/-- A core at the opening of its first window. -/
def coreReset : CoreState := ⟨0xFFFFFFFFFFFFFFFF, 0, 0, []⟩

/-- An execution pair after reset. -/
def pairReset : Pair :=
  { main := coreReset, checker := coreReset, egress := [], released := 0, stalled := false, armed := false, dueAt := 0,
    proofWindow := none, proofSigs := none, proofN := 0, proofAt := 0 }

/-- A safe stop path at its start. -/
def stopReset : StopPath :=
  { since := 0, ts := 0, v0 := 0, below := none, differ := none, stuck := none, hold1 := 0, hold2 := 0, requested := true, offRan := false }

/-- A lane after reset. See log entry 3 (DESIGN CHOICE). -/
def laneReset : LaneState :=
  { ep0 := pairReset, ep1 := pairReset, mem := [], execs := [], runs := [], sliceNext := [], sliceDone := [], rounds := [], censusSeen := [],
    attempts := [], exclAt := 0, readyAt := 0, offAt := 0, passes := 0, copying := [], rewritten := [], transferAt := 0, landed := false, xlatHash := none,
    stagedHash := none, slotRecord := 0, wrote := [], halted := false, stop := stopReset, barred := false,
    staged := [] }

/-- The ductus after reset: no task, no mode change, nothing pending. -/
def ductusReset : Ductus :=
  { tasks := [], modes := [], runEntry := none, writes := [], reads := [], forces := [], fences := [], snaps := [], stopAt := 0, limitHit := none, holdAt := 0 }

/-- No folio staged or running. -/
def folioReset : FolioState :=
  { staging := .empty, running := none, previous := none, previousGen := 0, pendingSwitch := none, carry := none, unvoted := [],
    oldChannels := [], seamAt := none }

/-- No session and no command; the token buckets are full (DESIGN CHOICE, log entry 3). -/
def quillReset : QuillState :=
  { sessions := [], nextSession := 1, cmds := [], held := [], replies := [], inflight := [], reassembly := [],
    plainHost := ⟨10, 0⟩, plainMp := ⟨10, 0⟩, mpRate := ⟨100, 0⟩, mailbox := none, mboxM2h := 0, logCount := 0 }

/-- The safe stop monitor with no parameters (R272); no edge seen, every request channel OFF, both contacts open.
See log entry 3 (DESIGN CHOICE). -/
def ssmReset : SsmState :=
  { record := none, path := stopReset, speedA := ⟨0, none, 0⟩, speedB := ⟨0, none, 0⟩, reqs := List.replicate 4 ⟨false, 0⟩,
    oscFault := false, parityFault := false, hbAt := 0, sto1 := false, sto2 := false, odd := none, differed := false, loads := [] }

/-- The pair after reset. -/
def dupReset : DupState :=
  { hello := [], helloAt := 0, out := [], outAt := 0, marks := [], token := 0, flight := [], sentUntil := 0, sync := none, rx := none,
    rxInput := none, inputs := [], points := [], landed := 0, inStep := false, frozen := 0, syncedAt := 0, sigs := [], ownInputs := [],
    lost0 := 0, lost1 := 0, swap := none }

/-- The vellum as delivered: no owner key, no measurement (R448). See log entry 3 (DESIGN CHOICE). -/
def vellumReset : VellumState := { keys := [], measures := [], jtag := 0 }

/-- No rubric, an empty store (DESIGN CHOICE, log entry 3). -/
def rubReset : RubState :=
  { manifest := [], parts := [], record := .none, active := [], banks := [], trial := false, trialAt := 0, resetAt := none,
    started := false, left := [], folio := none, recorded := none, store := [], storing := none, counted := [] }

/-- The reset controller at the release of the first POR. See log entry 3 (DESIGN CHOICE). -/
def powerReset : PowerState :=
  { overlap := none, releasedAt := 0, lastOn := 0, trip0 := none, trip1 := none, lowSince := none, lowMin := 0, dip := none,
    lost := false, aonAt := 0 }

/-- A channel's configuration at start: INACTIVE. -/
def cfgInactive : ChanCfg := ⟨0, 0, 0, 0, 0, 0, 0⟩

/-- A channel at the start of its field controller. See log entry 36 (DEDUCED). -/
def chanReset (pos : Nat) : FcChan :=
  { pos := pos, cfg := cfgInactive, pin := .low, pinAt := 0, raw := false, filtered := false, run := none, wetAt := none,
    wetting := false, hold := none, offAt := 0, due := none, test := none, firstFail := 0, repeatAt := none,
    highTick := none, lowTick := none, latched := false, hot := false, retryAt := 0, retrying := none, overload := false, openLoad := false, openByOn := false, extDrive := false,
    extByDark := false }

/-- A bank at the start of its field controller. -/
def bankReset : FcBank :=
  { volts := 0, warnRun := 0, cutRun := 0, clearSince := none, restoreSince := none, warn := false, cut := false,
    latched := false, waitApply := false, restoredAt := 0, validHold := none }

/-- A field controller at its start: every channel INACTIVE, the blotter state, SET 0 (R190, R220, R490).
See log entry 36 (DEDUCED). -/
def fcReset : FcState :=
  { chans := [], banks := List.replicate 8 bankReset, silenceMs := 20, banksUsed := 0xFF, shadow := [], setTaken := 0,
    takenAny := false, lastApply := none, frame := none, cmd := 0, blotter := true, disable := false, claim := true,
    gen := 0, skew := 0, rxSeq := none, txSeq := 0, statusBank := 0, edges := [], tick := 0, evalFrom := 0, offer := none,
    lastOffer := 0, reused := 0, claimNext := none, unseen := 0, seenRun := 0, claimFault := false }

/-- The logic side of a group after reset. -/
def fioGroupReset : FioGroup :=
  { txSeq := 0, rxSeq := none, sentLf := [], sentFl := [], firstSet := none, sample := 0, stateBits := 0, validBits := 0,
    taking := none, before := [], takenAt := none, dropped := [], soe := [], lostBefore := false, order := 0, soeCount := 0 }

/-- The field interface after reset. -/
def fioReset : FioState :=
  { fc0 := fcReset, fc1 := fcReset, g0 := fioGroupReset, g1 := fioGroupReset, set := none, nextSet := none,
    takeOvers := [], firstTaken := false, chan := [] }

/-- The switch after reset (R285): ports BLOCKED by PORT_STAT, VLAN 1 with every port untagged, no list, no entry. -/
def netReset : NetState :=
  { ports := List.replicate 6 ⟨0, true, 0, 0, 0⟩ ++ [⟨0, false, 0, 0, 0⟩], vlans := [⟨1, 0x7F, 0x7F⟩], fdb := [], ageS := 300,
    gates := List.replicate 6 ⟨none, none, 0xFF⟩, frames := [], nextId := 0, queues := [], tx := [], sent := [], port6 := [],
    tcWait := [], set := none, mpPrefix := 16, mpAddr := none, mpGateway := 0, mpSent := [], capture := none, inForce := [], captured := none,
    before := none, quiet := [], mpTry := 0 }

/-- The telegram engine after reset (R307, R310). -/
def tgeReset : TgeState :=
  { entries := [], profiles := [], pending := [], due := [], pub := [], arrivals := [], changeAt := 0, gone := [],
    oldTopo := (0, 0), oldProfiles := [], counts := [] }

/-- PTP at a port after reset. -/
def ptpPortReset : PtpPort :=
  { mode := 0, extState := 0, syncSeq := 0, syncT1 := none, syncT2 := 0, syncCorr := 0, syncWait := false, reqSeq := 0, reqT3 := none,
    pdSeq := 0, pdT1 := none, pdT4 := 0, pdT2 := 0, pdWait := false, link := none, master := 0, sent := none }

/-- The time unit after reset: ROLE 0, no PTP, SLEW_PPM 200 (R330). -/
def timeReset : TimeState :=
  { record := [7, 0, 0, 0, 0, 0, 0, 200, 0, 0, 0, 0, 0, 0, 0, 0], ports := List.replicate 6 ptpPortReset, offsets := [], source := 0,
    farSince := none, nearSince := none, syncAt := 0, step := none, restep := none, framesFrom := 0, releasesFrom := 0,
    pps := false, unit_ := none, rateFrom := 0, acc := 0 }

/-- The bridge after reset. -/
def brgReset : BrgState :=
  { ahead := [], msix := [], waiting := 0, message := none, messages := 0, status := 0, data := [], aerFatal := false,
    aerNonFatal := false, reads := [], credit := 0, posted := none, writes := 0, perst := none }

/-- A queue that is DISABLED and empty. -/
def queueReset : QueueRun := { fetched := [], active := none, cmds := [], completed := [], bad := [] }

/-- The queue engine after reset. -/
def queReset : QueState :=
  { queues := List.replicate 16 queueReset, units := [], nextUnits := [], served := [], set := none, scribeBuf := [], mpReply := (0, []) }

/-- The module right after reset: registers at the reset values of their tables, and everything else empty, zero, off
or none. The queue is empty. Log entries 3, 4, 5 and 6 name the values that the spec does not give.
See log entry 3 (DESIGN CHOICE). -/
def State.reset : State where
  pending := []
  fresh := 0
  now := 0
  mono := 0
  regs := []
  mem := []
  fabric := fabricReset
  latches := []
  readOut := 0
  laneA := laneReset
  laneB := laneReset
  laneC := laneReset
  vote := voteReset
  ductus := ductusReset
  folio := folioReset
  fio := fioReset
  ssm := ssmReset
  net := netReset
  tge := tgeReset
  time := timeReset
  brg := brgReset
  que := queReset
  dup := dupReset
  vellum := vellumReset
  rub := rubReset
  power := powerReset
  quill := quillReset

end Sys2Proof.Machine
end

