-- ==== Sys2Proof/Machine/Flags.lean ====
section
/-! DEFINITION. Sparse lists of (address, value) pairs in one canonical form, and the register fields over them:
reading, writing, wrapping and saturating counters. -/

namespace Sys2Proof.Machine

/-! ### Sparse lists -/

/-- The value at address `a`; `d` where `a` is not listed. -/
def cellGet {α : Type} (d : α) : List (Nat × α) → Nat → α
  | [], _ => d
  | (b, v) :: m, a => if a = b then v else cellGet d m a

/-- `m` without address `a`. -/
def cellDel {α : Type} : List (Nat × α) → Nat → List (Nat × α)
  | [], _ => []
  | (b, v) :: m, a => if a = b then cellDel m a else (b, v) :: cellDel m a

/-- `m` with `v` at address `a`, addresses kept rising. -/
def cellIns {α : Type} : List (Nat × α) → Nat → α → List (Nat × α)
  | [], a, v => [(a, v)]
  | (b, w) :: m, a, v =>
    if a = b then (a, v) :: m else if a < b then (a, v) :: (b, w) :: m else (b, w) :: cellIns m a v

/-- `m` with `v` at address `a`, where an unlisted address reads `d`: writing `d` removes the entry. -/
def cellSet {α : Type} [DecidableEq α] (d : α) (m : List (Nat × α)) (a : Nat) (v : α) : List (Nat × α) :=
  if v = d then cellDel m a else cellIns m a v

/-- The canonical form: addresses strictly rising and no entry equal to what an unlisted address reads as. -/
def cellWf {α : Type} [DecidableEq α] (d : Nat → α) : List (Nat × α) → Bool
  | [] => true
  | [(a, v)] => decide (v ≠ d a)
  | (a, v) :: (b, w) :: m => decide (v ≠ d a) && decide (a < b) && cellWf d ((b, w) :: m)

/-- `n` consecutive values from address `a`. -/
def cellGetN {α : Type} (d : α) (m : List (Nat × α)) (a : Nat) : Nat → List α
  | 0 => []
  | n + 1 => cellGet d m a :: cellGetN d m (a + 1) n

/-- `vs` written at consecutive addresses from `a`. -/
def cellSetN {α : Type} [DecidableEq α] (d : α) (m : List (Nat × α)) (a : Nat) : List α → List (Nat × α)
  | [] => m
  | v :: vs => cellSetN d (cellSet d m a v) (a + 1) vs

/-- The entries whose address is not in `[lo, hi)`. -/
def cellDrop {α : Type} (m : List (Nat × α)) (lo hi : Nat) : List (Nat × α) :=
  m.filter fun e => decide (e.1 < lo) || decide (hi ≤ e.1)

/-- The value listed for key `k`, if any. -/
def assoc {α : Type} (m : List (Nat × α)) (k : Nat) : Option α :=
  match m with
  | [] => none
  | (b, v) :: m => if k = b then some v else assoc m k

/-! ### Register words -/

/-- The reset word of the register at BAR0 offset `a` (the Reset columns of the register tables). -/
def resetWord (a : Nat) : Word :=
  match resetRows.find? (resetRowHas · a) with
  | some r => BitVec.ofNat 32 r.word
  | none => 0

/-- Bits `[hi:lo]` of a register word. -/
def wordBits (w : Word) (hi lo : Nat) : Nat := (w.extractLsb' lo (hi - lo + 1)).toNat

/-- `w` with bits `[hi:lo]` replaced by the low bits of `v`. -/
def wordPut (w : Word) (hi lo v : Nat) : Word :=
  let mask : Word := BitVec.ofNat 32 (2 ^ (hi - lo + 1) - 1) <<< lo
  (w &&& ~~~mask) ||| ((BitVec.ofNat 32 v <<< lo) &&& mask)

/-- The stored word of the register at offset `a`. See log entry 16 (DESIGN CHOICE). -/
def State.reg (s : State) (a : Nat) : Word := cellGet (resetWord a) s.regs a

/-- `s` with `w` in the register at offset `a`. See log entry 16 (DESIGN CHOICE). -/
def State.setReg (s : State) (a : Nat) (w : Word) : State :=
  { s with regs := cellSet (resetWord a) s.regs a w }

/-- The value of a register field. -/
def State.fget (s : State) (f : Field) : Nat := wordBits (s.reg f.off) f.hi f.lo

/-- A register field of one bit, as a flag. -/
def State.flag (s : State) (f : Field) : Bool := s.fget f != 0

/-- `s` with the low bits of `v` in a register field; the other bits of the register keep their values. -/
def State.fput (s : State) (f : Field) (v : Nat) : State :=
  s.setReg f.off (wordPut (s.reg f.off) f.hi f.lo v)

/-- The greatest value of a field. -/
def fieldMax (f : Field) : Nat := 2 ^ (f.hi - f.lo + 1) - 1

/-- A wrapping counter field raised by 1. -/
def State.finc (s : State) (f : Field) : State := s.fput f (s.fget f + 1)

/-- A saturating counter field raised by `n`. -/
def State.fsatAdd (s : State) (f : Field) (n : Nat) : State := s.fput f (min (s.fget f + n) (fieldMax f))

/-- A saturating counter field raised by 1. -/
def State.fsat (s : State) (f : Field) : State := s.fsatAdd f 1

/-- A field set to `v`, saturating at the field's greatest value. -/
def State.fputSat (s : State) (f : Field) (v : Nat) : State := s.fput f (min v (fieldMax f))

/-- Every register in `[lo, hi)` back at its reset word. -/
def State.resetRegs (s : State) (lo hi : Nat) : State := { s with regs := cellDrop s.regs lo hi }

/-! ### Module memory (R348) -/

/-- What a byte of module memory reads that nothing has written: 0 (R349 for the mirrors; DESIGN CHOICE, log entry 5). -/
def memDefault : Byte := 0

/-- One byte of module memory. -/
def State.mread (s : State) (a : Nat) : Byte := cellGet memDefault s.mem a

/-- `n` bytes of module memory from `a`. -/
def State.mreadN (s : State) (a n : Nat) : List Byte := cellGetN memDefault s.mem a n

/-- `bs` written to module memory from `a`; a read-ahead line of the bridge that it touches is discarded (R357). -/
def State.mwrite (s : State) (a : Nat) (bs : List Byte) : State :=
  { s with
    mem := cellSetN memDefault s.mem a bs
    brg := { s.brg with ahead := s.brg.ahead.filter fun x => decide (x.1 + 64 ≤ a) || decide (a + bs.length ≤ x.1) } }

/-- The canonical form of module memory. -/
def Memory.wf (m : List Host.Cell) : Bool := cellWf (fun _ => memDefault) m

end Sys2Proof.Machine
end

