-- ==== Sys2Proof/Machine/Operands.lean ====
section
/-! DEFINITION. Operand forms: byte strings (R3, little-endian), the data types of Stroke code and their register
representation (R120), and the line placement of the lane encodings (R43). -/

namespace Sys2Proof.Machine

/-! ### Byte strings -/

/-- The number that `bs` spells, least significant byte first (R3). -/
def leNat : List Byte → Nat
  | [] => 0
  | b :: bs => b.toNat + 256 * leNat bs

/-- The `n` bytes of `v`, least significant first (R3). -/
def leBytes : Nat → Nat → List Byte
  | 0, _ => []
  | n + 1, v => BitVec.ofNat 8 v :: leBytes n (v / 256)

/-- The number that `bs` spells, most significant byte first. -/
def beNat (bs : List Byte) : Nat := leNat bs.reverse

/-- The `n` bytes of `v`, most significant first. -/
def beBytes (n v : Nat) : List Byte := (leBytes n v).reverse

/-- `n` bytes of `bs` from offset `off`. -/
def slice (bs : List Byte) (off n : Nat) : List Byte := (bs.drop off).take n

/-- The little-endian number of `n` bytes of `bs` at offset `off`. -/
def leAt (bs : List Byte) (off n : Nat) : Nat := leNat (slice bs off n)

/-- The big-endian number of `n` bytes of `bs` at offset `off`. -/
def beAt (bs : List Byte) (off n : Nat) : Nat := beNat (slice bs off n)

/-- The byte of `bs` at offset `off`, as a number; 0 beyond the end. -/
def byteAt (bs : List Byte) (off : Nat) : Nat := (bs.getD off 0).toNat

/-- `n` zero bytes. -/
def zeros (n : Nat) : List Byte := List.replicate n 0

/-- `bs` padded with 0 to `n` bytes, or cut to them. -/
def padTo (n : Nat) (bs : List Byte) : List Byte := (bs ++ zeros (n - bs.length)).take n

/-- `bs` padded with 0 to a multiple of 8 bytes. -/
def pad8 (bs : List Byte) : List Byte := bs ++ zeros ((8 - bs.length % 8) % 8)

/-- Every byte of `bs` is 0. -/
def allZero (bs : List Byte) : Bool := bs.all (· == 0)

/-- Bit `i` of `v`. -/
def natBit (v i : Nat) : Bool := v.testBit i

/-- `bs` with the bytes from offset `off` replaced by `new`. -/
def splice (bs : List Byte) (off : Nat) (new : List Byte) : List Byte :=
  bs.take off ++ new ++ bs.drop (off + new.length)

/-- `bs` cut into records of `n` bytes, at most `fuel` of them. -/
def chunks (n : Nat) : Nat → List Byte → List (List Byte)
  | 0, _ => []
  | _ + 1, [] => []
  | k + 1, bs => bs.take n :: chunks n k (bs.drop n)

/-- `a ÷ b` rounded up. -/
def ceilDiv (a b : Nat) : Nat := (a + b - 1) / b

/-- The first multiple of `g` at or after `t`. -/
def gridAtOrAfter (g t : Nat) : Nat := ceilDiv t g * g

/-- The grid of 50 µs (R74), in ns. -/
def gridNs : Nat := 50000

/-- The first grid instant at or after `t` (R74). -/
def gridUp (t : Nat) : Nat := gridAtOrAfter gridNs t

/-! ### Check values -/

/-- One bit step of a reflected CRC with polynomial `p`. -/
def crcBit (p : Word) (c : Word) : Word :=
  if c.getLsbD 0 then (c >>> 1) ^^^ p else c >>> 1

/-- One byte step of a reflected CRC. -/
def crcByte (p : Word) (c : Word) (b : Byte) : Word :=
  let c0 := c ^^^ b.zeroExtend 32
  crcBit p (crcBit p (crcBit p (crcBit p (crcBit p (crcBit p (crcBit p (crcBit p c0)))))))

/-- CRC-32C (Castagnoli, reflected polynomial 0x82F6_3B78) of a byte string. -/
def crc32c (bs : List Byte) : Word := ~~~(bs.foldl (crcByte 0x82F63B78) 0xFFFFFFFF)

/-- CRC-32 of IEEE 802.3 (reflected polynomial 0xEDB8_8320) of a byte string. -/
def crc32 (bs : List Byte) : Word := ~~~(bs.foldl (crcByte 0xEDB88320) 0xFFFFFFFF)

/-- One step of the 64-bit signature (R28). -/
def sigStep (s w : DWord) : DWord :=
  ((s <<< 1) ^^^ (if s.getLsbD 63 then 0x1B else 0)) ^^^ w

/-- The value of a signature register when a window opens (R28). -/
def sigInit : DWord := 0xFFFFFFFFFFFFFFFF

/-- The signature after feeding the words `ws` (R28). -/
def sigFeed (s : DWord) (ws : List DWord) : DWord := ws.foldl sigStep s

/-- `bs` as little-endian 64-bit words, the last zero-padded. -/
def words64 (fuel : Nat) (bs : List Byte) : List DWord :=
  (chunks 8 fuel bs).map fun c => BitVec.ofNat 64 (leNat c)

/-! ### Line placement (R43) -/

/-- The `k` low bits of `i` in reverse order. -/
def bitrev : Nat → Nat → Nat
  | 0, _ => 0
  | k + 1, i => (i % 2) * 2 ^ k + bitrev k (i / 2)

/-- The least `k ≥ start` with `2 ^ k ≥ n`, looking at most `fuel` values on. -/
def log2Up (n : Nat) : Nat → Nat → Nat
  | 0, k => k
  | fuel + 1, k => if n ≤ 2 ^ k then k else log2Up n fuel (k + 1)

/-- k = max(1, ceil(log2 L)) for a segment of L lines (R43). -/
def lineK (lines : Nat) : Nat := log2Up lines 32 1

/-- The stored line of logical line `i` in lane `l`, for a segment of `lines` lines (R43). -/
def storedLine (l : Lane) (lines i : Nat) : Nat :=
  match l with
  | .c => bitrev (lineK lines) i
  | _ => i

/-- The stored offset of a logical offset, for a segment of `size` bytes (R43: bytes keep their order in a line). -/
def storedOff (l : Lane) (size off : Nat) : Nat := storedLine l (size / 64) (off / 64) * 64 + off % 64

/-- A byte as lane `l` stores it, and back (R43: lane B complements). -/
def encodeByte (l : Lane) (b : Byte) : Byte :=
  match l with
  | .b => ~~~b
  | _ => b

/-- The key of a voted byte: segment and offset in one number. -/
def segKey (seg off : Nat) : Nat := seg * 0x100000000 + off

/-! ### Types (R120) -/

/-- Type code (R120). -/
def tyCode : Ty → Nat
  | .bool => 0 | .int8 => 1 | .int16 => 2 | .int32 => 3 | .int64 => 4 | .uint8 => 5 | .uint16 => 6
  | .uint32 => 7 | .uint64 => 8 | .real32 => 9 | .real64 => 10 | .time => 11

/-- The type of a type code; codes 0xC to 0xF are reserved (R120). -/
def tyOfCode : Nat → Option Ty
  | 0 => some .bool | 1 => some .int8 | 2 => some .int16 | 3 => some .int32 | 4 => some .int64
  | 5 => some .uint8 | 6 => some .uint16 | 7 => some .uint32 | 8 => some .uint64 | 9 => some .real32
  | 10 => some .real64 | 11 => some .time | _ => none

/-- Width w (R120). -/
def tyWidth : Ty → Nat
  | .bool => 1 | .int8 => 8 | .int16 => 16 | .int32 => 32 | .int64 => 64 | .uint8 => 8 | .uint16 => 16
  | .uint32 => 32 | .uint64 => 64 | .real32 => 32 | .real64 => 64 | .time => 64

/-- Size in memory, in bytes (R120). -/
def tySize : Ty → Nat
  | .bool => 1
  | ty => tyWidth ty / 8

/-- INT8 to INT64 and TIME (R120). -/
def tySigned : Ty → Bool
  | .int8 | .int16 | .int32 | .int64 | .time => true
  | _ => false

/-- INT8 to UINT64: "integer" excludes BOOL and TIME (R120). -/
def tyInt : Ty → Bool
  | .int8 | .int16 | .int32 | .int64 | .uint8 | .uint16 | .uint32 | .uint64 => true
  | _ => false

/-- REAL32 and REAL64. -/
def tyReal : Ty → Bool
  | .real32 | .real64 => true
  | _ => false

/-- The unsigned integer types. -/
def tyUnsigned : Ty → Bool
  | .uint8 | .uint16 | .uint32 | .uint64 => true
  | _ => false

/-- Least value of an integer type or TIME. -/
def tyMin (ty : Ty) : Int := if tySigned ty then -(2 ^ (tyWidth ty - 1) : Nat) else 0

/-- Greatest value of an integer type or TIME. -/
def tyMax (ty : Ty) : Int :=
  if tySigned ty then ((2 ^ (tyWidth ty - 1) : Nat) : Int) - 1 else ((2 ^ tyWidth ty : Nat) : Int) - 1

/-- The integer that a register of type `ty` holds. -/
def regInt (ty : Ty) (v : DWord) : Int := if tySigned ty then v.toInt else (v.toNat : Int)

/-- The register representation of the exact result `x`, reduced to the low w bits and extended as the type
requires (R120, R132). -/
def wrapReg (ty : Ty) (x : Int) : DWord :=
  let m : Int := ((2 ^ tyWidth ty : Nat) : Int)
  let r := x % m
  let r := if tySigned ty && decide ((2 ^ (tyWidth ty - 1) : Nat) ≤ r) then r - m else r
  BitVec.ofInt 64 r

/-- `x` clamped to the range of the type (R132). -/
def clampInt (ty : Ty) (x : Int) : Int := if x < tyMin ty then tyMin ty else if tyMax ty < x then tyMax ty else x

/-- The register representation of `x` clamped to the type's range (R132). -/
def satReg (ty : Ty) (x : Int) : DWord := wrapReg ty (clampInt ty x)

/-- BOOL in a register (R120). -/
def boolReg (b : Bool) : DWord := if b then 1 else 0

/-- The register value of the stored bytes of a value of type `ty` (R120, R123). -/
def regOfBytes (ty : Ty) (bs : List Byte) : DWord :=
  let n := leNat (bs.take (tySize ty))
  if ty == .bool then BitVec.ofNat 64 (n % 2) else wrapReg ty n

/-- The bytes that a value of type `ty` occupies in memory (R120, R123). -/
def bytesOfReg (ty : Ty) (v : DWord) : List Byte :=
  if ty == .bool then [BitVec.ofNat 8 (v.toNat % 2)] else leBytes (tySize ty) v.toNat

/-- `v` is a register representation of a value of type `ty` (R120). -/
def regFits (ty : Ty) (v : DWord) : Bool :=
  match ty with
  | .bool => v.toNat ≤ 1
  | .real32 => v.toNat < 0x100000000
  | _ => wrapReg ty (regInt ty v) == v

end Sys2Proof.Machine
end

