-- ==== Sys2Proof/Machine/Ops.lean ====
section
/-! DEFINITION. The named operations that the meanings share: time, log records, power domains, lane states, exclusion
and failure, and the start, hold and reply of a command. -/

namespace Sys2Proof.Machine

/-! ### Time and free values -/

/-- A 32-bit two's complement field. -/
def State.fgetInt (s : State) (f : Field) : Int := (BitVec.ofNat 32 (s.fget f)).toInt

/-- The nominal increment of a CLK_NET cycle, 3.2 ns in units of 2^−32 ns (R324). -/
def nominalInc : Nat := 0x0333333333

/-- INC: the nominal increment raised by the rate correction r, which TIME_RATE holds in ppb (R324). -/
def State.inc (s : State) : Nat := ((nominalInc : Int) * (1000000000 + s.fgetInt F.TIME_RATE_PPB) / 1000000000).toNat

/-- The local monotonic time that passes while the scale, at its present rate, reaches `t` (R324, R338). -/
def State.localSpan (s : State) (t : Nat) : Nat := (t - s.time.rateFrom) * nominalInc / s.inc

/-- The 48-bit fraction accumulator at instant `t`: what the CLK_NET cycle that reaches `t` has carried beyond it, in
units of 2^−48 ns (R324). See log entry 78 (DEDUCED). -/
def State.accAt (s : State) (t : Nat) : BitVec 48 :=
  let span := (t - s.time.rateFrom) * 2 ^ 48
  let step := s.inc * 2 ^ 16
  BitVec.ofNat 48 (s.time.acc.toNat + ceilDiv (span - s.time.acc.toNat) step * step - span)

/-- The fraction field of the time scale: the accumulator's upper 16 bits, in units of 2^−16 ns (R323, R324). -/
def State.fraction (s : State) : BitVec 16 := (s.accAt s.now).extractLsb' 32 16

/-- The command happens at instant `t` of the time scale: the scale advances to it, and the local monotonic time by as
much as that takes at the present rate. An instant in the past leaves both (DESIGN CHOICE, log entry 2). -/
def State.tick (s : State) (t : Nat) : State :=
  if s.now ≤ t then { s with now := t, mono := s.mono + (s.localSpan t - s.localSpan s.now) } else s

/-- The seconds count of PD_AON: what was loaded last, and the seconds that its crystal has counted since (R325). -/
def State.aonSeconds (s : State) : Nat :=
  (s.fget F.AON_SEC_HI_SECONDS * 2 ^ 32 + s.fget F.AON_SEC_LO_SECONDS + (s.mono - s.power.aonAt) / 1000000000) % 2 ^ 64

/-- The seconds count of PD_AON is loaded (R325). -/
def State.loadAon (s : State) (sec : Nat) : State :=
  let s := (s.fput F.AON_SEC_LO_SECONDS (sec % 2 ^ 32)).fput F.AON_SEC_HI_SECONDS (sec / 2 ^ 32)
  { s with power := { s.power with aonAt := s.mono } }

/-- One free value. See log entry 4 (DESIGN CHOICE). -/
def State.freeWord (s : State) : DWord := Config.freeValue s.fresh

/-- The state after one free value has been taken. See log entry 4 (DESIGN CHOICE). -/
def State.spent (s : State) : State := { s with fresh := s.fresh + 1 }

/-- `n` free bytes, from free value number `k` on. -/
def freeBytes (k : Nat) : Nat → List Byte
  | 0 => []
  | n + 1 => BitVec.ofNat 8 (Config.freeValue (k + n)).toNat :: freeBytes k n

/-! ### Lanes -/

/-- Lane `l`. -/
def State.lane (s : State) : Lane → LaneState
  | .a => s.laneA
  | .b => s.laneB
  | .c => s.laneC

/-- `s` with lane `l` replaced. -/
def State.setLane (s : State) : Lane → LaneState → State
  | .a, x => { s with laneA := x }
  | .b, x => { s with laneB := x }
  | .c, x => { s with laneC := x }

/-- Execution pair `e` of a lane. -/
def LaneState.pair (x : LaneState) : Ep → Pair
  | .ep0 => x.ep0
  | .ep1 => x.ep1

/-- A lane with execution pair `e` replaced. -/
def LaneState.setPair (x : LaneState) : Ep → Pair → LaneState
  | .ep0, p => { x with ep0 := p }
  | .ep1, p => { x with ep1 := p }

/-- Core `c` of an execution pair. -/
def Pair.core (p : Pair) : Core → CoreState
  | .main => p.main
  | .checker => p.checker

/-- An execution pair with core `c` replaced. -/
def Pair.setCore (p : Pair) : Core → CoreState → Pair
  | .main, x => { p with main := x }
  | .checker, x => { p with checker := x }

/-- The three lanes, in the order of R64. -/
def allLanes : List Lane := [.a, .b, .c]

/-- Lane states, LANE_STATE.STATE (R62). -/
inductive LaneSt where
  | off | booting | translating | ready | transfer | voting | excluded | powerCycle | outLimit | failed
  deriving DecidableEq, Repr

/-- Code of a lane state (LANE_STATE.STATE). -/
def laneStCode : LaneSt → Nat
  | .off => 0 | .booting => 1 | .translating => 2 | .ready => 3 | .transfer => 4 | .voting => 5 | .excluded => 6
  | .powerCycle => 7 | .outLimit => 8 | .failed => 9

/-- The lane state of a code. -/
def laneStOf : Nat → LaneSt
  | 1 => .booting | 2 => .translating | 3 => .ready | 4 => .transfer | 5 => .voting | 6 => .excluded
  | 7 => .powerCycle | 8 => .outLimit | 9 => .failed | _ => .off

/-- Code of an exclusion cause (LANE_STATE.CAUSE). -/
def laneCauseCode : LaneCause → Nat
  | .none => 0 | .sigMain => 1 | .sigChecker => 2 | .sigUnresolved => 3 | .proof => 4 | .comparator => 5
  | .disagree => 6 | .missing => 7 | .latent => 8 | .watchdog => 9 | .ecc => 0xA | .startCheck => 0xB
  | .transfer => 0xC

/-- The state of lane `l`. -/
def State.laneSt (s : State) (l : Lane) : LaneSt := laneStOf (s.fget (F.LANE_STATE_STATE l))

/-- Lane `l` is in the vote. -/
def State.isVoting (s : State) (l : Lane) : Bool := s.laneSt l == .voting

/-- The voting lanes, in ascending order. -/
def State.voters (s : State) : List Lane := allLanes.filter s.isVoting

/-- The bit of lane `l` in LANE_MASK, VOTING and ODD. -/
def laneBit (l : Lane) : Nat := 2 ^ l.idx

/-- The mask of a set of lanes. -/
def laneMask (ls : List Lane) : Nat := (ls.map laneBit).foldl (· + ·) 0

/-! ### Log records (R412, R413) -/

/-- Module address of the log ring and its length in records (R412). See log entry 57 (UNVERIFIED). -/
def logBase : Nat := 0x04000000
def logRing : Nat := 1966080

/-- The CODE fields of the reporting blocks (R22). -/
def codeRpc : Nat := 0x0002
def codeVote : Nat := 0x0010
def codeTime : Nat := 0x0011
def codeLane : Nat := 0x0030
def codeFio : Nat := 0x0040
def codeSsm : Nat := 0x0050

/-- A log record with TIME `time` is written and LOG_HEAD advances (R412). See log entry 57 (UNVERIFIED). -/
def State.logAt (s : State) (time event source : Nat) (detail : List Byte) : State :=
  let rec_ := leBytes 8 time ++ leBytes 4 s.quill.logCount ++ leBytes 2 event ++ leBytes 2 source ++ padTo 16 detail
  let s := s.mwrite (logBase + 32 * (s.quill.logCount % logRing)) rec_
  let s := { s with quill := { s.quill with logCount := s.quill.logCount + 1 } }
  s.fput F.LOG_HEAD_SEQ s.quill.logCount

/-- A log record of an event of now (R412). -/
def State.log (s : State) (event source : Nat) (detail : List Byte) : State := s.logAt s.now event source detail

/-- A log record whose DETAIL is a register. -/
def State.logReg (s : State) (event source off : Nat) : State :=
  s.log event source (leBytes 4 (s.reg off).toNat)

/-! ### Power domains (R487) -/

/-- Power domain codes (R10). -/
def pdAon : Nat := 1
def pdMgmt : Nat := 2
def pdLane (l : Lane) : Nat := 3 + l.idx
def pdFab : Nat := 6
def pdHost : Nat := 7
def pdSsm : Nat := 8
def pdFg (g : Grp) : Nat := 9 + g.idx

/-- The domain with code `c` is on (RPC_PD_STAT.ON). -/
def State.powered (s : State) (c : Nat) : Bool := natBit (s.fget F.RPC_PD_STAT_ON) (c - 1)

/-- The holding domain of the block that a BAR0 offset lies in; none where it is unmapped (R22). -/
def holdingDomain (off : Nat) : Option Nat :=
  let b := off / 0x10000
  if b == 0x00 || b == 0x02 then some pdMgmt
  else if b == 0x01 then some pdAon
  else if b == 0x10 || b == 0x11 then some pdHost
  else if (0x08 ≤ b && b ≤ 0x0C) || (0x20 ≤ b && b ≤ 0x22) || b == 0x30 || b == 0x31 || b == 0x38 || b == 0x3C then
    some pdFab
  else none

/-- The domain in which a block receives fabric units: its home domain (R22). -/
def blockDomain : Block → Nat
  | .sys | .sec => pdMgmt
  | .rpc => pdAon
  | .vote | .time | .net | .ink | .tge | .dup => pdFab
  | .brg | .que => pdHost
  | .laneA => pdLane .a
  | .laneB => pdLane .b
  | .laneC => pdLane .c
  | .fioG0 => pdFg .g0
  | .fioG1 => pdFg .g1
  | .ssm => pdSsm

/-- Domain `c` leaves reset (R16): its senders number their streams from 0, which their receivers expect; and its
receivers know of no stream yet. -/
def Fabric.restart (f : Fabric) (c : Nat) : Fabric :=
  { f with
    tx := f.tx.filter (·.src != c)
    streams := (f.streams.filter fun x => blockDomain x.block != c).map fun x =>
      if x.src == c then { x with expected := some 0, obj := [], broken := false } else x }

/-- The domain with code `c` switched on or off. Coming on, it leaves reset (R16); going off, its reports stop (R26), and
no latch holds a register of it, nor, without PD_HOST, one of the host (R23, R25). -/
def State.setPower (s : State) (c : Nat) (on : Bool) : State :=
  let w := s.fget F.RPC_PD_STAT_ON
  let cleared := w - (if natBit w (c - 1) then 2 ^ (c - 1) else 0)
  let s := s.fput F.RPC_PD_STAT_ON (cleared + (if on then 2 ^ (c - 1) else 0))
  if on then { s with fabric := s.fabric.restart c }
  else { s with
    fabric := { s.fabric with reports := s.fabric.reports.filter (· != c) }
    latches := s.latches.filter fun x => holdingDomain x.off != some c && !(c == pdHost && x.requester == .host) }

/-- A report of home domain `c` reaches its mirror (R26). -/
def State.report (s : State) (c : Nat) : State :=
  { s with fabric := { s.fabric with reports := s.fabric.reports.filter (· != c) ++ [c] } }

/-- The reports of home domain `c` stop (R26). -/
def State.noReport (s : State) (c : Nat) : State :=
  { s with fabric := { s.fabric with reports := s.fabric.reports.filter (· != c) } }

/-! ### Interrupts to the host (R360 to R362) -/

/-- Word of the MSI-X table; the mask bit of every vector is set after reset (R347). -/
def State.msixWord (s : State) (i : Nat) : Word := cellGet (if i % 4 == 3 then 1 else 0) s.brg.msix i

/-- Vector `v` is unmasked and messages may be sent: D0 (R360). -/
def State.vectorOpen (s : State) (v : Nat) : Bool := s.msixWord (4 * v + 3) &&& 1 == 0 && s.fget F.BRG_LINK_DSTATE == 0

/-- The message of a vector is sent, or held as pending while it is masked or the function is in D3hot (R346, R360).
See log entry 50 (PRESUMED). -/
def State.hostVector (s : State) (v : Nat) : State :=
  if !s.powered pdHost then s
  else if s.vectorOpen v then
    let addr := (s.msixWord (4 * v + 1)).toNat * 2 ^ 32 + (s.msixWord (4 * v)).toNat
    { s with brg := { s.brg with
        message := some (v, (addr, (s.msixWord (4 * v + 2)).toNat)), messages := s.brg.messages + 1
        waiting := s.brg.waiting &&& (2 ^ 64 - 1 - 2 ^ v) } }
  else { s with brg := { s.brg with waiting := s.brg.waiting ||| 2 ^ v } }

/-- An event of vector 32 + `i` sets its cause bit, and sends the message when the bit was 0 (R361). -/
def State.hostEvent (s : State) (i : Nat) : State :=
  if !s.powered pdHost || natBit (s.fget F.BRG_EVT_CAUSE) i then s
  else (s.fput F.BRG_EVT_CAUSE (s.fget F.BRG_EVT_CAUSE + 2 ^ i)).hostVector (32 + i)

/-- The causes of R360. -/
def evPosted : Nat := 0
def evVote : Nat := 1
def evMode : Nat := 2
def evGroup (g : Grp) : Nat := 3 + g.idx
def evSsm : Nat := 5
def evTime : Nat := 6
def evTelegram : Nat := 7
def evDuplex : Nat := 8
def evStore : Nat := 9
def evMailbox : Nat := 10

/-! ### The vote set -/

/-- VOTE_CTRL.VOTING, KIND and EN follow the lanes that vote (R62, VOTE_CTRL): EN is 1 while at least two lanes vote
and the module has not failed, once the vote has been enabled (R63). -/
def State.refreshVote (s : State) : State :=
  let n := s.voters.length
  let s := s.fput F.VOTE_CTRL_VOTING (laneMask s.voters)
  if s.flag F.VOTE_CTRL_FAILED || !s.flag F.VOTE_CTRL_EN then s.fput F.VOTE_CTRL_KIND 0
  else s.fput F.VOTE_CTRL_KIND (if n == 3 then 2 else if n == 2 then 1 else 0)

/-- Lane `l` enters a state, which is logged (R62, R413). -/
def State.setLaneSt (s : State) (l : Lane) (st : LaneSt) : State :=
  let s := s.fput (F.LANE_STATE_STATE l) (laneStCode st)
  ((s.refreshVote).logReg 0x0010 codeLane (R.LANE_STATE l)).hostEvent evVote

/-- The VOTE_EXCL counter of lane `l` with the given bits. -/
def exclField (l : Lane) (hi lo : Nat) : Field :=
  ⟨match l with | .a => R.VOTE_EXCL_A | .b => R.VOTE_EXCL_B | .c => R.VOTE_EXCL_C, hi, lo⟩

/-- The counter of VOTE_EXCL that a cause of exclusion raises: DISAGREE, MISSING, LOCKSTEP for a lane fault that the
lane signals, LATENT. A failed start check or transfer raises none (DEDUCED, log entry 9). -/
def exclCounter (l : Lane) : LaneCause → Option Field
  | .disagree => some (exclField l 7 0)
  | .missing => some (exclField l 15 8)
  | .latent => some (exclField l 31 24)
  | .sigMain | .sigChecker | .sigUnresolved | .proof | .comparator | .watchdog | .ecc => some (exclField l 23 16)
  | .none | .startCheck | .transfer => none

/-- Causes of failure, VOTE_FAIL.CAUSE (R54). -/
def failByte : Nat := 1
def failMissing : Nat := 2
def failFewer : Nat := 3

/-- Every lane enters FAILED (R54). -/
def State.failLanes (s : State) : State :=
  allLanes.foldl (fun s l => if s.laneSt l == .failed then s else s.setLaneSt l .failed) s

/-- The heartbeat starts or stops (R266). -/
def State.setHeartbeat (s : State) (on : Bool) : State :=
  if s.flag F.STO1_STAT_HEARTBEAT == on then s else
  let s := s.fput F.STO1_STAT_HEARTBEAT (bit on)
  { s with ssm := { s.ssm with hbAt := s.mono } }

/-- The module declares itself failed (R54): VOTE_FAIL, EN and FAILED, the lanes FAILED, the heartbeat stopped and the
failure wire asserted. The blotter state and the claims follow at the next field-link frames. -/
def State.failModule (s : State) (cause task : Nat) : State :=
  if s.flag F.VOTE_CTRL_FAILED then s else
  let s := (s.fput F.VOTE_FAIL_CAUSE cause).fput F.VOTE_FAIL_TASK task
  let s := (s.fput F.VOTE_CTRL_EN 0).fput F.VOTE_CTRL_FAILED 1
  let s := s.setHeartbeat false
  let s := { s with vote := { s.vote with failWire := true, outs := [], census := [] } }
  ((s.failLanes).logReg 0x0011 codeVote R.VOTE_FAIL).hostEvent evVote

/-- Lane `l` leaves the vote or the way to it: EXCLUDED with its cause, counters raised, its units at the vote
discarded and its egress closed (R53, R62). See log entry 9 (DEDUCED). -/
def State.exclude (s : State) (l : Lane) (cause : LaneCause) : State :=
  let s := s.fput (F.LANE_STATE_CAUSE l) (laneCauseCode cause)
  let s := match exclCounter l cause with
    | some f => s.fsat f
    | none => s
  let s := (s.fput (F.LANE_STATE_LATENT l) 0).fput (F.LANE_STATE_PROBATION l) 0
  let x := s.lane l
  let x := { x with
    exclAt := s.mono, ep0 := { x.ep0 with egress := [] }, ep1 := { x.ep1 with egress := [] }, execs := [],
    rounds := [] }
  let s := s.setLane l x
  let s := { s with vote := { s.vote with
    outs := s.vote.outs.filter (·.lane != l), census := s.vote.census.filter (·.lane != l) } }
  s.setLaneSt l .excluded

/-- The states from which a lane is excluded: on its way to the vote, or voting (R53, R62). -/
def State.excludable (s : State) (l : Lane) : Bool :=
  match s.laneSt l with
  | .booting | .translating | .ready | .transfer | .voting => true
  | _ => false

/-- A lane is excluded; when it was voting and fewer than two voting lanes are left, the module fails with
FEWER_THAN_TWO, naming task `task` (R53, R54). -/
def State.excludeCheck (s : State) (l : Lane) (cause : LaneCause) (task : Nat) : State :=
  if !s.excludable l then s else
  let was := s.isVoting l
  let s := s.exclude l cause
  if was && decide (s.voters.length < 2) && s.flag F.VOTE_CTRL_EN then s.failModule failFewer task else s

/-- Commit `a` of the task record `x` is voted before commit `b` of `y`: the earlier instant; at one instant ascending
priority number, then ascending ductus number (R51). -/
def commitBefore (a : Nat) (x : TaskRec) (b : Nat) (y : TaskRec) : Bool :=
  decide (a < b) || (a == b && (decide (x.priority < y.priority) || (x.priority == y.priority && decide (x.task < y.task))))

/-- The commits whose instants have come and that are still to be voted: instant and task. -/
def State.dueCommits (s : State) : List (Nat × TaskRec) :=
  match s.folio.running with
  | none => []
  | some f => f.tasks.filterMap fun r =>
    match s.ductus.tasks.find? (·.task == r.task) with
    | some b => (match b.due with
      | some (c, _) => if c ≤ s.now then some (c, r) else none
      | none => none)
    | none => none

/-- The commit of `r` at `c` is the next to be voted of those whose instants have come (R51). -/
def State.nextCommit (s : State) (r : TaskRec) (c : Nat) : Bool :=
  s.dueCommits.all fun x => x.2.task == r.task || !commitBefore x.1 x.2 c r

/-- The task whose commit the vote processes now, 0 outside a commit (R54, R55): the first that is due, or the one that it
has processed at this instant. See log entry 72 (DEDUCED). -/
def State.votingTask (s : State) : Nat :=
  match s.dueCommits.find? fun x => s.nextCommit x.2 x.1 with
  | some x => x.2.task
  | none => match s.vote.lastCommit with
    | some (c, n) => if c == s.now then n else 0
    | none => 0

/-- A lane fault of lane `l` (R41, R53): a failure that follows names the commit being voted (R54). -/
def State.laneFault (s : State) (l : Lane) (cause : LaneCause) : State := s.excludeCheck l cause s.votingTask

/-! ### Modes (R94) -/

/-- Code of a mode (VOTE_CTRL.MODE). -/
def modeCode : Mode → Nat
  | .stop => 0 | .run => 1 | .hold => 2

/-- The mode in force. -/
def State.modeNow (s : State) : Mode :=
  match s.fget F.VOTE_CTRL_MODE with
  | 1 => .run
  | 2 => .hold
  | _ => .stop

/-- `n` free bytes, and the state after they have been taken. See log entry 4 (DESIGN CHOICE). -/
def State.random (s : State) (n : Nat) : State × List Byte := ({ s with fresh := s.fresh + n }, freeBytes s.fresh n)

/-! ### Signature blocks and the identity (R170, R438) -/

/-- The signature block around the 3,405 bytes of its two signatures (R170). -/
def sigBlock (sigs : List Byte) : List Byte := leBytes 2 1 ++ zeros 2 ++ leBytes 4 3416 ++ padTo 3405 sigs ++ zeros 3

/-- The module's serial number (R26). -/
def moduleSerial : Nat := Config.serial.toNat

/-- Bytes `a` to `a + n − 1` of what the unit's identity record leaves to the unit. -/
def identityPart (a n : Nat) : List Byte := (List.range n).map fun i => Config.identity (a + i)

/-- The identity record up to its endorsement (R438). -/
def identityHead : List Byte :=
  leBytes 2 1 ++ zeros 6 ++ leBytes 8 moduleSerial ++ identityPart 16 8 ++ [4] ++ identityPart 25 96 ++ zeros 7 ++ identityPart 128 1952

/-- The identity record with its endorsement (R438). -/
def identityRecord : List Byte := identityHead ++ sigBlock (identityPart 2088 3405)

/-- The 48 bytes of SHA-384 of a message. See log entry 20 (DESIGN CHOICE). -/
def sha384 (bs : List Byte) : List Byte := (List.range 48).map (Config.sha384 bs)

/-! ### Status values and replies (R389) -/

def stOk : Nat := 0x0000
def stAborted : Nat := 0x0001
def stNothing : Nat := 0x0002
def stBadParam : Nat := 0x0010
def stBusy : Nat := 0x0011
def stTimeout : Nat := 0x0012
def stNoSeam : Nat := 0x0013
def stCheckFail : Nat := 0x0014
def stSigFail : Nat := 0x0015
def stNotPaired : Nat := 0x0016
def stMoving : Nat := 0x0020
def stSupply : Nat := 0x0021
def stLocked : Nat := 0x0022
def stRole : Nat := 0x0023
def stPrivilege : Nat := 0x0024
def stAuthFail : Nat := 0x0030

/-- INDEX when no record applies (R389). -/
def noIndex : Nat := 0xFFFFFFFF

end Sys2Proof.Machine
end

