-- ==== Sys2Proof/Machine/Fabric.lean ====
section
/-! DEFINITION. Fabric units and their streams (R11 to R18), ignored writes (R19 to R21, R27) and register reads
(R22, R23, R25, R26). -/

namespace Sys2Proof.Machine

/-! ### Tags (R12) -/

/-- Fields of a fabric tag (R12). -/
def tagSrc (tag : DWord) : Nat := (tag.extractLsb' 60 4).toNat
def tagMask (tag : DWord) : Nat := (tag.extractLsb' 57 3).toNat
def tagClass (tag : DWord) : Nat := (tag.extractLsb' 54 3).toNat
def tagKind (tag : DWord) : Nat := (tag.extractLsb' 48 6).toNat
def tagGen (tag : DWord) : Nat := (tag.extractLsb' 32 16).toNat
def tagSeq (tag : DWord) : Nat := (tag.extractLsb' 0 32).toNat

/-- A tag from its fields (R12). -/
def mkTag (src mask cls kind gen seq : Nat) : DWord :=
  BitVec.ofNat 64 (src * 2 ^ 60 + mask * 2 ^ 57 + cls * 2 ^ 54 + kind * 2 ^ 48 + gen * 2 ^ 32 + seq)

/-- Unit kinds (R13). -/
def kindLaneOut : Nat := 0x01
def kindVotedOut : Nat := 0x02
def kindInImage : Nat := 0x03
def kindTgiSet : Nat := 0x04
def kindFieldEvent : Nat := 0x05
def kindQuill : Nat := 0x06
def kindQuillReply : Nat := 0x07
def kindStateXfer : Nat := 0x08
def kindCopybook : Nat := 0x09
def kindNetFrame : Nat := 0x0A
def kindMove : Nat := 0x0B
def kindCensus : Nat := 0x0C
def kindStatus : Nat := 0x0D
def kindTimeMark : Nat := 0x0E

/-- What LANE_MASK names (R13). -/
inductive MaskUse where
  /-- The sending lane; 0 for STATUS of a block that is no lane. -/
  | sender
  /-- The lanes that formed the majority. -/
  | majority
  /-- The receiving lane or lanes; 0 for FIELD_EVENT units to the queues. -/
  | receivers
  /-- The lanes that must check a command packet, or 0. -/
  | checkers
  /-- The replying lanes, or 0. -/
  | repliers
  /-- The source lane and the destination lane. -/
  | sourceAndDestination
  /-- The sending or the receiving lanes. -/
  | sendersOrReceivers
  /-- No lane: 0. -/
  | none
  deriving DecidableEq, Repr

/-- The unit kinds: traffic class, which for NET_FRAME is the frame's own, and what LANE_MASK names; none for a reserved
KIND (R13). -/
def unitKind (k : Nat) : Option (Option Nat × MaskUse) :=
  if k == kindLaneOut then some (some 7, .sender)
  else if k == kindVotedOut then some (some 7, .majority)
  else if k == kindInImage then some (some 7, .receivers)
  else if k == kindTgiSet then some (some 6, .receivers)
  else if k == kindFieldEvent then some (some 6, .receivers)
  else if k == kindQuill then some (some 4, .checkers)
  else if k == kindQuillReply then some (some 4, .repliers)
  else if k == kindStateXfer then some (some 3, .sourceAndDestination)
  else if k == kindCopybook then some (some 5, .sendersOrReceivers)
  else if k == kindNetFrame then some (none, .none)
  else if k == kindMove then some (some 1, .none)
  else if k == kindCensus then some (some 2, .sender)
  else if k == kindStatus then some (some 2, .sender)
  else if k == kindTimeMark then some (some 7, .none)
  else none

/-- A KIND that R13 defines. -/
def kindKnown (k : Nat) : Bool := (unitKind k).isSome

/-- The traffic class of a unit of a kind; `own` is the class of the frame of a NET_FRAME unit (R13). -/
def kindClass (k own : Nat) : Nat :=
  match unitKind k with
  | some (some c, _) => c
  | _ => own

/-- A payload that a unit can carry: 8 B to 256 B in multiples of 8 B (R11). -/
def payloadOk (p : List Byte) : Bool := decide (8 ≤ p.length) && decide (p.length ≤ 256) && p.length % 8 == 0

/-- The part of LANE_MASK that belongs to the stream's identity (R15): the receiver of TGI_SET and STATE_XFER, and
whether FIELD_EVENT units are for the queues. For STATE_XFER the mask names source and destination together. -/
def streamRecv (kind mask : Nat) : Nat :=
  if kind == kindTgiSet || kind == kindStateXfer then mask
  else if kind == kindFieldEvent then (if mask == 0 then 0 else 1)
  else 0

/-- One stream's key matches. -/
def streamIs (b : Block) (src kind recv : Nat) (x : Stream) : Bool :=
  x.block == b && x.src == src && x.kind == kind && x.recv == recv

/-- The stream as the block keeps it, or a stream of which nothing has been received. -/
def Fabric.stream (f : Fabric) (b : Block) (src kind recv : Nat) : Stream :=
  match f.streams.find? (streamIs b src kind recv) with
  | some x => x
  | none => ⟨b, src, kind, recv, none, [], false⟩

/-- The fabric with one stream replaced. -/
def Fabric.setStream (f : Fabric) (x : Stream) : Fabric :=
  { f with streams := f.streams.filter (fun y => !streamIs x.block x.src x.kind x.recv y) ++ [x] }

/-- The counters of a block. -/
def Fabric.count (f : Fabric) (b : Block) : FabricCount :=
  match f.counts.find? (·.block == b) with
  | some c => c
  | none => ⟨b, 0, 0, 0, 0⟩

/-- The fabric with the counters of a block replaced. -/
def Fabric.setCount (f : Fabric) (c : FabricCount) : Fabric :=
  { f with counts := f.counts.filter (·.block != c.block) ++ [c] }

/-- The three cases of R15 for a SEQ against the number expected next. -/
inductive SeqCase where
  | inOrder | gap | duplicate
  deriving DecidableEq, Repr

/-- The case of R15; the first unit of a stream is accepted at any SEQ (R16). -/
def seqCase (expected : Option Nat) (seq : Nat) : SeqCase :=
  match expected with
  | none => .inOrder
  | some e =>
    let d := (seq + 2 ^ 32 - e) % 2 ^ 32
    if d = 0 then .inOrder else if d < 2 ^ 31 then .gap else .duplicate

/-- The generations that a block processes: the current one, and the one before it (R18). -/
def genAccepted (current gen : Nat) : Bool := gen == current || (gen + 1) % 2 ^ 16 == current

/-- The lane that sends a unit with this LANE_MASK, when it names exactly one. -/
def maskLane : Nat → Option Lane
  | 1 => some .a
  | 2 => some .b
  | 4 => some .c
  | _ => none

/-- A census hash from the payload of a CENSUS unit (R59). -/
def censusOfPayload (l : Lane) (p : List Byte) : CensusHash :=
  { lane := l, task := byteAt p 0, slice := leAt p 2 2, exec := leAt p 4 4, stamp := leAt p 16 8,
    abandoned := natBit (byteAt p 1) 0, round := natBit (byteAt p 1) 1, hash := BitVec.ofNat 64 (leAt p 8 8) }

/-- Two census hashes of one lane for the same comparison (R60). -/
def censusSame (x y : CensusHash) : Bool :=
  x.lane == y.lane && x.task == y.task && x.slice == y.slice && x.exec == y.exec && x.stamp == y.stamp

/-- The round of a hash has ended: the next whole second has come (R57, R60). -/
def State.roundOver (s : State) (h : CensusHash) : Bool := h.round && decide (h.stamp + 1000000000 ≤ s.now)

/-- The commit before which a hash had to arrive is over: a later execution of its task has been committed (R60).
See log entry 75 (DEDUCED). -/
def State.censusLate (s : State) (h : CensusHash) : Bool :=
  match s.ductus.tasks.find? (·.task == h.task) with
  | some b => h.exec != b.execs % 2 ^ 32 && b.due.isNone
  | none => false

/-- The vote holds a census hash of a voting lane (R60); of any other lane it discards it (R53), and so it does with one
that arrives after the end of its round or after its task's next commit (R60). -/
def State.holdCensus (s : State) (h : CensusHash) : State :=
  if !s.isVoting h.lane || s.roundOver h || s.censusLate h then s else
  { s with vote := { s.vote with census := s.vote.census.filter (fun x => !censusSame h x) ++ [h] } }

/-- The vote holds a lane's LANE_OUT object for the task that its terminator names (R46, R47); an object of a lane that
does not vote is discarded (R53). -/
def State.holdOut (s : State) (o : OutObj) : State :=
  if !s.isVoting o.lane then s else
  { s with vote := { s.vote with
    outs := s.vote.outs.filter (fun x => !(x.lane == o.lane && x.task == o.task)) ++ [o] } }

/-! ### Sending (R13 to R15) -/

/-- The next SEQ of a stream at its sender (R15). -/
def Fabric.txNext (f : Fabric) (src kind recv : Nat) : Nat :=
  match f.tx.find? fun x => x.src == src && (x.kind == kind && x.recv == recv) with
  | some x => x.next
  | none => 0

/-- The sender's numbering of a stream goes on at `n` (R15). -/
def Fabric.setTx (f : Fabric) (src kind recv n : Nat) : Fabric :=
  { f with tx := f.tx.filter (fun x => !(x.src == src && (x.kind == kind && x.recv == recv))) ++ [⟨src, kind, recv, n % 2 ^ 32⟩] }

/-- Two units belong to one stream (R15). -/
def sameStream (x y : FabricUnit) : Bool :=
  tagSrc x.tag == tagSrc y.tag && tagKind x.tag == tagKind y.tag
    && streamRecv (tagKind x.tag) (tagMask x.tag) == streamRecv (tagKind y.tag) (tagMask y.tag)

/-- An arbiter takes unit `u` behind the units `us` that wait, given last first: ahead of units of a lower class,
never ahead of one of its own stream (R14). -/
def arbiterPut (u : FabricUnit) : List FabricUnit → List FabricUnit
  | [] => [u]
  | x :: us => if tagClass x.tag < tagClass u.tag && !sameStream x u then x :: arbiterPut u us else u :: x :: us

/-- The units that wait at an arbiter, in the order in which it serves them, once `us` have arrived in their order: the
class first, then the order of arrival (R14). -/
def arbitrate (waiting us : List FabricUnit) : List FabricUnit :=
  (us.foldl (fun w u => arbiterPut u w) waiting.reverse).reverse

/-- A sender puts units of one stream onto the fabric with consecutive numbers and the current generation (R12, R15, R18),
and the arbiters serve them with the other units of this instant (R14). See log entry 71 (DESIGN CHOICE). -/
def State.sendUnits (s : State) (dest : List Block) (src kind mask own : Nat) (payloads : List (List Byte)) : State :=
  let f := s.fabric
  let recv := streamRecv kind mask
  let n := f.txNext src kind recv
  let us := payloads.zipIdx.map fun x =>
    (⟨dest, mkTag src mask (kindClass kind own) kind f.gen ((n + x.2) % 2 ^ 32), x.1⟩ : FabricUnit)
  let waiting := if f.servedAt == s.now then f.served else []
  let f := f.setTx src kind recv (n + payloads.length)
  { s with fabric := { f with served := arbitrate waiting us, servedAt := s.now } }

/-- The receiving block of a lane. -/
def laneBlock : Lane → Block
  | .a => .laneA
  | .b => .laneB
  | .c => .laneC

/-- The lane that a block receives for. -/
def blockLane : Block → Option Lane
  | .laneA => some .a
  | .laneB => some .b
  | .laneC => some .c
  | _ => none

/-- The block keeps `bytes` as the last object of a stream. See log entry 7 (DESIGN CHOICE). -/
def Fabric.keep (f : Fabric) (d : Delivered) : Fabric :=
  { f with delivered := f.delivered.filter (fun x => !(x.block == d.block && x.kind == d.kind && x.recv == d.recv)) ++ [d] }

/-- The generation advances by 1, by no more than 1 at one instant (R17). -/
def State.advanceGen (s : State) : State :=
  if s.fabric.genAt == some s.now then s
  else { s with fabric := { s.fabric with gen := (s.fabric.gen + 1) % 2 ^ 16, genAt := some s.now } }

/-! ### Ignored writes (R21) -/

/-- The register at BAR0 offset `off` has at least one field of the classes of R19. -/
def writable (off : Nat) : Bool := writableRows.any (regRowHas · off)

/-- The home domain of the block that a BAR0 offset lies in (R22). -/
def homeDomain (off : Nat) : Option Nat :=
  let b := off / 0x10000
  if b == 0x20 then some (pdLane .a) else if b == 0x21 then some (pdLane .b) else if b == 0x22 then some (pdLane .c)
  else if b == 0x30 then some (pdFg .g0) else if b == 0x31 then some (pdFg .g1) else if b == 0x38 then some pdSsm
  else holdingDomain off

/-- The registers of the block at `off` are held: its holding domain is powered (R22). -/
def State.blockHeld (s : State) (off : Nat) : Bool :=
  match holdingDomain off with
  | some d => s.powered d
  | none => false

/-- The block at `off` is reachable: PD_HOST and its holding domain are powered (R23). -/
def State.reachable (s : State) (off : Nat) : Bool := s.powered pdHost && s.blockHeld off

/-- The write is an ignored one: counted, and captured when no capture is held (R21). -/
def State.ignoreWrite (s : State) (off : Nat) : State :=
  let s := s.fsat F.SYS_IGN_COUNT_COUNT
  if s.flag F.SYS_IGN_ADDR_VALID then s
  else (s.fput F.SYS_IGN_ADDR_OFFSET off).fput F.SYS_IGN_ADDR_VALID 1

/-- IGNORED_WRITE: a write to a register with no field of the classes of R19, to an unmapped offset or to an
unpowered block is counted and captured; a write to any other register is not (R21). -/
def execIgnoredWrite (off : Nat) (s : State) : Host.Outcome State Fault Refusal :=
  if writable off && s.reachable off then .next s else .next (s.ignoreWrite off)

/-- A write of 1 to the bits `mask` of the W1C field `f`: it clears them, and in a block that is not reachable it is
an ignored write (R19, R21, R23). -/
def State.clearBits (s : State) (f : Field) (mask : Nat) : State :=
  if s.reachable f.off then s.fput f (s.fget f - (s.fget f &&& mask)) else s.ignoreWrite f.off

/-- A write of 1 to the W1C field `f` of one bit (R19, R21, R23). -/
def State.clearField (s : State) (f : Field) : State :=
  if s.reachable f.off then s.fput f 0 else s.ignoreWrite f.off

/-- SYS_IGN_ADDR_CLEAR: a write of 1 to VALID clears the capture and re-arms it; it is never itself counted (R27). -/
def execSysIgnAddrClear (s : State) : Host.Outcome State Fault Refusal :=
  .next (s.clearField F.SYS_IGN_ADDR_VALID)

/-! ### Register reads (R23, R25, R26) -/

/-- The configuration generation in force for the block at `off`: a field controller's own (R228), else the fabric's
(R17, R26). -/
def State.blockGen (s : State) (off : Nat) : Nat :=
  if homeDomain off == some (pdFg .g0) then s.fio.fc0.gen
  else if homeDomain off == some (pdFg .g1) then s.fio.fc1.gen
  else s.fabric.gen

/-- BLK_STAT of the block at `off`: MIRROR, HOME_UP, which a mirror has while its home domain is powered and its reports
arrive, and GEN (R26). -/
def State.blkStat (s : State) (off : Nat) : Word :=
  let mirror := decide (holdingDomain off ≠ homeDomain off)
  let up := match homeDomain off with
    | some d => !mirror || (s.powered d && s.fabric.reports.contains d)
    | none => false
  BitVec.ofNat 32 (bit mirror * 0x80000000 + bit up * 0x40000000 + s.blockGen off % 0x10000)

/-- The instant of the time scale in seconds and nanoseconds (TIME_SEC_LO, TIME_SEC_HI, TIME_NS). -/
def secOf (t : Nat) : Nat := t / 1000000000
def nsOf (t : Nat) : Nat := t % 1000000000

/-- SYS_REV: VARIANT 0x53 or 0x4D by the ordering code, then MAJOR and MINOR. See log entry 6 (DESIGN CHOICE). -/
def sysRev : Nat := Config.revision.toNat + if Config.marine then 0x4D0000 else 0x530000

/-- The current word of a register whose value is not stored but follows from the state: the block header, the unit's
identity, the running time, the seconds of PD_AON, and the seconds left of a trial (RUB_STAT.TRIAL_S). See log entry 6
(DESIGN CHOICE). See log entry 16 (DESIGN CHOICE). -/
def State.viewWord (s : State) (off : Nat) : Word :=
  if off % 0x10000 == 4 && (holdingDomain off).isSome then s.blkStat off
  else if off == R.SYS_REV then BitVec.ofNat 32 sysRev
  else if off == R.SYS_SERIAL_LO then Config.serial.extractLsb' 0 32
  else if off == R.SYS_SERIAL_HI then Config.serial.extractLsb' 32 32
  else if off == R.NET_MAC_LO then Config.mac.extractLsb' 0 32
  else if off == R.NET_MAC_HI then (Config.mac.extractLsb' 32 16).zeroExtend 32
  else if off == R.TIME_SEC_LO then BitVec.ofNat 32 (secOf s.now)
  else if off == R.TIME_SEC_HI then BitVec.ofNat 32 (secOf s.now / 2 ^ 32)
  else if off == R.TIME_NS then BitVec.ofNat 32 (nsOf s.now)
  else if off == R.AON_SEC_LO then BitVec.ofNat 32 s.aonSeconds
  else if off == R.AON_SEC_HI then BitVec.ofNat 32 (s.aonSeconds / 2 ^ 32)
  else if off == R.RUB_STAT && wordBits (s.reg off) 31 28 == 3 then
    s.reg off + BitVec.ofNat 32 (600 - min 600 ((s.mono - s.rub.trialAt) / 1000000000))
  else if R.SEC_ID_FP0 ≤ off && off ≤ R.SEC_ID_FP3 then
    BitVec.ofNat 32 (leAt (sha384 identityHead) (off - R.SEC_ID_FP0) 4)
  else s.reg off

/-- WO fields read as zero (R5): Q_CTRL.RESUME and SKIP. -/
def readMask (off : Nat) (w : Word) : Word :=
  if 0x110108 ≤ off && off < 0x110308 && (off - 0x110108) % 0x20 == 0 then w &&& 0x9FFFFFFF else w

/-- What a read of BAR0 offset `off` returns, latches aside: 0 where the block cannot be reached or nothing is mapped
(R22, R23). -/
def State.readWord (s : State) (off : Nat) : Word :=
  if s.reachable off then readMask off (s.viewWord off) else 0

/-- What the module itself reads at BAR0 offset `off`, without the host's path. -/
def State.heldWord (s : State) (off : Nat) : Word := if s.blockHeld off then readMask off (s.viewWord off) else 0

/-- The low registers of the 64-bit pairs (R25): the high register is the next one, `off + 4`. -/
def pairLow (off : Nat) : Bool :=
  off == R.SYS_SERIAL_LO || off == R.LANE_XLAT_HASH_LO .a || off == R.LANE_XLAT_HASH_LO .b
    || off == R.LANE_XLAT_HASH_LO .c || off == R.NET_MAC_LO || off == R.TIME_SEC_LO || off == R.DUP_PARTNER_LO
    || off == R.SYS_VIOL_ADDR_LO || off == R.AON_SEC_LO || (List.range 16).any fun q => off == R.Q_BASE_LO q

/-- The latches without the one of a requester for a pair. -/
def dropLatch (ls : List Latch) (r : Requester) (off : Nat) : List Latch :=
  ls.filter fun x => !(x.requester == r && x.off == off)

/-- The latches that a read of a low register fills: the high register, and for the time also TIME_NS (R25,
TIME_SEC_LO). -/
def newLatches (s : State) (r : Requester) (off : Nat) : List Latch :=
  if off == R.TIME_SEC_LO then
    [⟨r, off, s.readWord (off + 4)⟩, ⟨r, off + 4, s.readWord (off + 8)⟩]
  else [⟨r, off, s.readWord (off + 4)⟩]

/-- LOW_REGISTER_READ: the low register of a pair is returned, and the requester's latch of that pair is filled with
the current high register (R25). -/
def execLowRegisterRead (r : Requester) (off : Nat) (s : State) : Host.Outcome State Fault Refusal :=
  let v := s.readWord off
  if pairLow off then
    let ls := dropLatch s.latches r off
    let ls := if off == R.TIME_SEC_LO then dropLatch ls r (off + 4) else ls
    .next { s with readOut := v, latches := ls ++ newLatches s r off }
  else .next { s with readOut := v }

/-- HIGH_REGISTER_READ: the latched value, which empties the latch, or the current value (R25); 0 where the block
cannot be reached (R23). -/
def execHighRegisterRead (r : Requester) (off : Nat) (s : State) : Host.Outcome State Fault Refusal :=
  if !s.reachable off then .next { s with readOut := 0 } else
  match s.latches.find? (fun x => x.requester == r && x.off == off - 4 && 4 ≤ off) with
  | some x => .next { s with readOut := x.value, latches := dropLatch s.latches r (off - 4) }
  | none => .next { s with readOut := s.readWord off }

end Sys2Proof.Machine
end

