-- ==== Sys2Proof/Machine/Variables.lean ====
section
/-! DEFINITION. Variables and function-block records in lane memory: the layout map (R160 to R164), a lane's encoding of
its segments (R43), element values (R120, R123) and census slices (R56, R58). -/

namespace Sys2Proof.Machine

/-! ### Segments in lane memory -/

/-- Segment codes (R160). -/
def segIn : Nat := 0
def segOut : Nat := 1
def segTgo : Nat := 2
def segTgi : Nat := 3
def segRet : Nat := 4
def segWrk : Nat := 5
def segCon : Nat := 6
def segFbs : Nat := 7

/-- SEG_SIZE of a segment (R160). -/
def Folio.segBytes (f : Folio) (seg : Nat) : Nat := f.segSize.getD seg 0

/-- What a stored byte reads that nothing has written: the lane's encoding of 0 (DESIGN CHOICE, log entry 5). -/
def laneDefault (l : Lane) : Byte := encodeByte l 0

/-- The lines that a lane reserves for a segment (R43). -/
def Folio.reservedLines (f : Folio) (seg : Nat) : Nat := 2 ^ lineK (f.segBytes seg / 64)

/-- The segments that lie before a segment in lane `l`: in the order of the layout map, which lane C reverses (R43). -/
def segsBefore (l : Lane) (seg : Nat) : List Nat :=
  match l with
  | .c => (List.range 8).filter (seg < ·)
  | _ => List.range seg

/-- The first stored line of a segment in lane `l` (R43). See log entry 19 (DESIGN CHOICE). -/
def Folio.segBase (l : Lane) (f : Folio) (seg : Nat) : Nat :=
  ((segsBefore l seg).map f.reservedLines).foldl (· + ·) 0

/-- The place of the stored byte of a logical offset in the lane's memory (R43). -/
def storedKey (l : Lane) (f : Folio) (seg off : Nat) : Nat :=
  64 * f.segBase l seg + storedOff l (f.segBytes seg) off

/-- The logical byte of a segment in lane `l` (R43). -/
def rdByte (l : Lane) (f : Folio) (m : List Host.Cell) (seg off : Nat) : Byte :=
  encodeByte l (cellGet (laneDefault l) m (storedKey l f seg off))

/-- `n` logical bytes of a segment. -/
def rdBytes (l : Lane) (f : Folio) (m : List Host.Cell) (seg off : Nat) : Nat → List Byte
  | 0 => []
  | n + 1 => rdByte l f m seg off :: rdBytes l f m seg (off + 1) n

/-- Lane memory with one logical byte of a segment replaced. -/
def wrByte (l : Lane) (f : Folio) (m : List Host.Cell) (seg off : Nat) (b : Byte) : List Host.Cell :=
  cellSet (laneDefault l) m (storedKey l f seg off) (encodeByte l b)

/-- Lane memory with consecutive logical bytes of a segment replaced. -/
def wrBytes (l : Lane) (f : Folio) (m : List Host.Cell) (seg off : Nat) : List Byte → List Host.Cell
  | [] => m
  | b :: bs => wrBytes l f (wrByte l f m seg off b) seg (off + 1) bs

/-! ### Variables -/

/-- The variable of an index (R161). -/
def Folio.varAt (f : Folio) (n : Nat) : Option VarRec := f.vars[n]?

/-- The variable of an identity (R161). -/
def Folio.varOf (f : Folio) (identity : Nat) : Option VarRec := f.vars.find? (·.identity == identity)

/-- The function-block record of an index (R163). -/
def Folio.instAt (f : Folio) (n : Nat) : Option InstRec := f.insts[n]?

/-- The task record of a ductus number (R158). -/
def Folio.taskOf (f : Folio) (n : Nat) : Option TaskRec := f.tasks.find? (·.task == n)

/-- Bytes that a variable occupies. -/
def VarRec.bytes (v : VarRec) : Nat := tySize v.ty * v.count

/-- The logical bytes of a variable. -/
def rdVar (l : Lane) (f : Folio) (m : List Host.Cell) (v : VarRec) : List Byte :=
  rdBytes l f m v.segment v.offset v.bytes

/-- Lane memory with the whole value of a variable replaced. -/
def wrVar (l : Lane) (f : Folio) (m : List Host.Cell) (v : VarRec) (bs : List Byte) : List Host.Cell :=
  wrBytes l f m v.segment v.offset bs

/-- The register value of element `i` of a variable (R120, R123). -/
def rdElem (l : Lane) (f : Folio) (m : List Host.Cell) (v : VarRec) (i : Nat) : DWord :=
  regOfBytes v.ty (rdBytes l f m v.segment (v.offset + i * tySize v.ty) (tySize v.ty))

/-- Lane memory with element `i` of a variable replaced (R123). -/
def wrElem (l : Lane) (f : Folio) (m : List Host.Cell) (v : VarRec) (i : Nat) (x : DWord) : List Host.Cell :=
  wrBytes l f m v.segment (v.offset + i * tySize v.ty) (bytesOfReg v.ty x)

/-- The initial value of a variable (R164). -/
def Folio.initOf (f : Folio) (v : VarRec) : List Byte :=
  if v.initOff == 0xFFFFFFFF then zeros v.bytes else padTo v.bytes (slice f.init v.initOff v.bytes)

/-- The initial bytes of element `i`. -/
def Folio.initElem (f : Folio) (v : VarRec) (i : Nat) : List Byte :=
  slice (f.initOf v) (i * tySize v.ty) (tySize v.ty)

/-- Record sizes of the built-in blocks (R148). -/
def blockSize : Nat → Nat
  | 1 => 24 | 2 => 24 | 3 => 24 | 4 => 8 | 5 => 8 | 6 => 16 | 7 => 16 | 8 => 16 | 9 => 8 | 10 => 8 | 11 => 8
  | 12 => 24 | 13 => 8 | _ => 0

/-- The bytes of a function-block record. -/
def rdInst (l : Lane) (f : Folio) (m : List Host.Cell) (i : InstRec) : List Byte :=
  rdBytes l f m segFbs i.offset (blockSize i.block)

/-- Lane memory with a function-block record replaced. -/
def wrInst (l : Lane) (f : Folio) (m : List Host.Cell) (i : InstRec) (bs : List Byte) : List Host.Cell :=
  wrBytes l f m segFbs i.offset bs

/-- A new record: every byte 0 except TYPE (R150). -/
def newRecord (block : Nat) : List Byte := BitVec.ofNat 8 block :: zeros (blockSize block - 1)

/-! ### Census slices (R56, R58) -/

/-- The variables that a task owns, in ascending identity. -/
def Folio.ownVars (f : Folio) (task : Nat) : List VarRec := f.vars.filter fun v => v.task == task && v.segment != segCon

/-- Slices: at most 4,096 B of variable data each, boundaries between variables; a larger variable is alone (R56).
`cur` is the slice in progress and `used` its bytes. -/
def sliceGo (cur : List VarRec) (used : Nat) : List VarRec → List (List VarRec)
  | [] => if cur.isEmpty then [] else [cur]
  | v :: vs =>
    if cur.isEmpty then sliceGo [v] v.bytes vs
    else if used + v.bytes ≤ 4096 then sliceGo (cur ++ [v]) (used + v.bytes) vs
    else cur :: sliceGo [v] v.bytes vs

/-- The slices of a task. -/
def Folio.slices (f : Folio) (task : Nat) : List (List VarRec) := sliceGo [] 0 (f.ownVars task)

/-- The slices that a cyclic task hashes per execution (R57). -/
def Folio.slicesPer (f : Folio) (r : TaskRec) : Nat :=
  let s := (f.slices r.task).length
  min s (max 1 (ceilDiv (s * r.period) 1000000000))

/-- A binary32 pattern is a NaN. -/
def isNan32 (n : Nat) : Bool := decide (0x7F800000 < n % 0x80000000)

/-- A binary64 pattern is a NaN. -/
def isNan64 (n : Nat) : Bool := decide (0x7FF0000000000000 < n % 0x8000000000000000)

/-- The normalised bytes of one element (R58): bit 0 of a BOOL, the canonical NaN of a REAL. -/
def normElem (ty : Ty) (bs : List Byte) : List Byte :=
  match ty with
  | .bool => bs.map (· &&& 1)
  | .real32 => if isNan32 (leNat bs) then leBytes 4 0x7FC00000 else bs
  | .real64 => if isNan64 (leNat bs) then leBytes 8 0x7FF8000000000000 else bs
  | _ => bs

/-- The normalised value of a variable (R58). -/
def normVar (v : VarRec) (bs : List Byte) : List Byte :=
  ((chunks (tySize v.ty) v.count bs).map (normElem v.ty)).flatten

/-- The words that the census hash takes for one variable (R58). -/
def censusWords (l : Lane) (f : Folio) (m : List Host.Cell) (v : VarRec) : List DWord :=
  BitVec.ofNat 64 (v.identity % 2 ^ 32 + v.bytes * 2 ^ 32) ::
    words64 v.bytes (normVar v (rdVar l f m v))

/-- The census hash of a slice in lane `l` (R58). -/
def censusHash (l : Lane) (f : Folio) (m : List Host.Cell) (vs : List VarRec) : DWord :=
  vs.foldl (fun h v => sigFeed h (censusWords l f m v)) sigInit

end Sys2Proof.Machine
end

