-- ==== Sys2Proof/Machine/Schedule.lean ====
section
/-! DEFINITION. The schedule of the ductus: task bookkeeping, the task states of TASK_STAT (R80), release instants (R75,
R88) and gaps (R65, R176). -/

namespace Sys2Proof.Machine

/-- Task states, TASK_STAT.STATE (R80). -/
inductive TaskSt where
  | absent | idle | released | finished | late
  deriving DecidableEq, Repr

/-- Code of a task state. -/
def taskStCode : TaskSt → Nat
  | .absent => 0 | .idle => 1 | .released => 2 | .finished => 3 | .late => 4

/-- The task state of a code. -/
def taskStOf : Nat → TaskSt
  | 1 => .idle | 2 => .released | 3 => .finished | 4 => .late | _ => .absent

/-- The state of a task in a lane. -/
def State.taskSt (s : State) (l : Lane) (n : Nat) : TaskSt := taskStOf (s.fget (F.TASK_STAT_STATE l n))

/-- The state of a task in a lane set. -/
def State.setTaskSt (s : State) (l : Lane) (n : Nat) (st : TaskSt) : State :=
  s.fput (F.TASK_STAT_STATE l n) (taskStCode st)

/-- Released-but-uncommitted (R80). -/
def uncommittedSt : TaskSt → Bool
  | .released | .finished | .late => true
  | _ => false

/-- Bookkeeping of a task that starts at zero (R179). -/
def bookNew (n : Nat) : TaskBook :=
  { task := n, releases := 0, commits := 0, execs := 0, lastRelease := none, dtime := 0, first := false,
    switched := false, lastOvr := false, consec := 0, due := none, firstNext := false, switchedNext := false,
    pend := none, alarm := ⟨0, 0, false⟩, triggers := [], endTaken := none }

/-- The bookkeeping of task `n`. -/
def State.book (s : State) (n : Nat) : TaskBook :=
  match s.ductus.tasks.find? (·.task == n) with
  | some b => b
  | none => bookNew n

/-- The bookkeeping of a task replaced. -/
def State.setBook (s : State) (b : TaskBook) : State :=
  { s with ductus := { s.ductus with tasks := s.ductus.tasks.filter (·.task != b.task) ++ [b] } }

/-- The running folio's record of task `n`. -/
def State.taskRec (s : State) (n : Nat) : Option TaskRec := s.folio.running.bind (·.taskOf n)

/-- An execution of a task in a lane. -/
def State.exec? (s : State) (l : Lane) (n : Nat) : Option Exec := assoc (s.lane l).execs n

/-- The execution of a task in a lane replaced. See log entry 22 (DESIGN CHOICE). -/
def State.setExec (s : State) (l : Lane) (n : Nat) (e : Exec) : State :=
  let x := s.lane l
  s.setLane l { x with execs := cellIns x.execs n e }

/-- The execution of a task in a lane removed. -/
def State.dropExec (s : State) (l : Lane) (n : Nat) : State :=
  let x := s.lane l
  s.setLane l { x with execs := cellDel x.execs n }

/-! ### What an execution pair runs (R78) -/

/-- The tasks of the running folio. -/
def State.tasks (s : State) : List TaskRec :=
  match s.folio.running with
  | some f => f.tasks
  | none => []

/-- The ready tasks of execution pair `ep` in a lane: their execution has not ended (R78). -/
def State.readyTasks (s : State) (l : Lane) (ep : Nat) : List TaskRec :=
  s.tasks.filter fun r => r.ep == ep && (match s.exec? l r.task with
    | some e => !e.ended
    | none => false)

/-- Task `x` goes before task `y`: the lower priority number, then the lower ductus number (R78). -/
def taskBefore (x y : TaskRec) : Bool :=
  decide (x.priority < y.priority) || (x.priority == y.priority && decide (x.task < y.task))

/-- The first of some tasks (R78). -/
def firstTask : List TaskRec → Option TaskRec
  | [] => none
  | r :: rs => match firstTask rs with
    | some q => if taskBefore q r then some q else some r
    | none => some r

/-- The task that execution pair `ep` of a lane runs from now on, where `now` is the release instant of executions that
become ready now: the running task, unless it has ended, a ready task has a strictly lower priority number, or it became
ready with the others and has run nothing; else the first of the ready tasks (R78). -/
def State.pickTask (s : State) (l : Lane) (ep now : Nat) : Option Nat :=
  match firstTask (s.readyTasks l ep) with
  | none => none
  | some b =>
    match assoc (s.lane l).runs ep with
    | none => some b.task
    | some m =>
      match (s.readyTasks l ep).find? (·.task == m), s.exec? l m with
      | some r, some e =>
        if decide (b.priority < r.priority) || (e.pc == 0 && e.release == now) then some b.task else some m
      | _, _ => some b.task

/-- The execution pair picks the task that it runs (R78). -/
def State.reschedule (s : State) (l : Lane) (ep now : Nat) : State :=
  let x := s.lane l
  s.setLane l { x with runs := match s.pickTask l ep now with
    | some n => cellIns x.runs ep n
    | none => cellDel x.runs ep }

/-- A lane runs task `n` on the task's execution pair (R78). -/
def State.runsTask (s : State) (l : Lane) (n : Nat) : Bool :=
  match s.taskRec n with
  | some r => assoc (s.lane l).runs r.ep == some n
  | none => true

/-- A new execution of a task in a lane, ready on its pair (R78, R80). -/
def State.addExec (s : State) (l : Lane) (n : Nat) (e : Exec) : State :=
  match s.taskRec n with
  | some r => (s.setExec l n e).reschedule l r.ep e.release
  | none => s.setExec l n e

/-- An execution has reached its end: its pair goes on with the next ready task (R78). -/
def State.closeExec (s : State) (l : Lane) (n : Nat) (e : Exec) : State :=
  let s := s.setExec l n { e with ended := true, endAt := s.now }
  match s.taskRec n with
  | some r => s.reschedule l r.ep s.now
  | none => s

/-- A task is released-but-uncommitted in some voting lane (R80). -/
def State.uncommitted (s : State) (n : Nat) : Bool := s.voters.any fun l => uncommittedSt (s.taskSt l n)

/-- Some task is released-but-uncommitted now. -/
def State.anyUncommitted (s : State) : Bool :=
  match s.folio.running with
  | none => false
  | some f => f.tasks.any fun r => s.uncommitted r.task

/-- The first release instant of a cyclic task at or after `t` (R75). -/
def cyclicAtOrAfter (r : TaskRec) (t : Nat) : Nat :=
  if t ≤ r.phase % r.period then r.phase % r.period
  else r.phase % r.period + gridAtOrAfter r.period (t - r.phase % r.period)

/-- `t` is a release instant of a cyclic task (R75). -/
def cyclicDue (r : TaskRec) (t : Nat) : Bool := r.period != 0 && cyclicAtOrAfter r t == t

/-- The lesser of two instants, where none is never. -/
def minInstant : Option Nat → Option Nat → Option Nat
  | none, y => y
  | x, none => x
  | some a, some b => some (min a b)

/-- The release instant of an event: the later of its source instant and the previous release plus M, on the grid
(R88). -/
def eventInstant (b : TaskBook) (r : TaskRec) (source : Nat) : Nat :=
  gridUp (match b.lastRelease with
    | some p => max source (p + r.period)
    | none => source)

/-- The first release of a task at or after `t`, as known now: the grid of a cyclic task, the pending release of an
event task (R75, R88). -/
def State.nextRelease (s : State) (r : TaskRec) (t : Nat) : Option Nat :=
  if r.event then
    match (s.book r.task).pend with
    | some p => if t ≤ p.instant then some p.instant else some t
    | none => none
  else some (cyclicAtOrAfter r t)

/-- The instant of a RUN entry from STOP already accepted (R95, R176). -/
def State.runEntryPending (s : State) : Option Nat :=
  if s.modeNow == .stop then (s.ductus.modes.find? (·.target == .run)).map (·.instant) else none

/-- The instant from which the tasks of a folio are released at or after `t`: `t` in RUN, an accepted RUN entry in STOP,
never otherwise (R94, R176). -/
def State.releasesFrom (s : State) (t : Nat) : Option Nat :=
  match s.modeNow with
  | .run => some (max t s.time.releasesFrom)
  | _ => s.runEntryPending.map (max t)

/-- The first release of a folio's ductus at or after `t`; none when it releases nothing (R65, R176). -/
def State.firstRelease (s : State) (f : Folio) (t : Nat) : Option Nat :=
  match s.releasesFrom t with
  | none => none
  | some u => f.tasks.foldl (fun m r => minInstant m (s.nextRelease r u)) none

/-- The gap from `t` to the first release is at least `g` (R65, R176). -/
def gapAtLeast (t g : Nat) : Option Nat → Bool
  | none => true
  | some r => decide (t + g ≤ r)

/-- 10,000 B/µs: the time for `n` bytes, in ns, rounded up (R64, R177). -/
def xferNs (n : Nat) : Nat := ceilDiv n 10

end Sys2Proof.Machine
end

