-- ==== Sys2Proof/Machine/Commands.lean ====
section
/-! DEFINITION. How a Quill command is checked, accepted, held behind a fence and answered (R389 to R403): the shared
operations of every opcode's meaning. -/

namespace Sys2Proof.Machine

/-! ### Levels, lifecycle, motion, role and supply as the checks read them -/

def lvlObserve : Nat := 1
def lvlOperate : Nat := 2
def lvlEngineer : Nat := 3
def lvlOwner : Nat := 4

/-- Lifecycle codes (R448). -/
def lcBlank : Nat := 0
def lcOwned : Nat := 1
def lcLocked : Nat := 2
def lcBench : Nat := 3
def lcRetired : Nat := 4

/-- The lifecycle state (SEC_STATE.LIFECYCLE). -/
def State.lifecycle (s : State) : Nat := s.fget F.SEC_STATE_LIFECYCLE

/-- MOTION is STANDSTILL (R275): UNKNOWN counts as moving. -/
def State.standstill (s : State) : Bool := s.fget F.SSM_STATE_MOTION == 1

/-- Duplex roles (DUP_STAT.ROLE). -/
def roleSingle : Nat := 0
def roleActive : Nat := 1
def roleStandby : Nat := 2
def roleResync : Nat := 3

/-- The duplex role. -/
def State.role (s : State) : Nat := s.fget F.DUP_STAT_ROLE

/-- The module is paired. -/
def State.paired (s : State) : Bool := s.role != roleSingle

/-- A module in STANDBY or RESYNC (R417). -/
def State.notActing (s : State) : Bool := s.role == roleStandby || s.role == roleResync

/-- STORE_OK is asserted and VIN is not in warning (R404, R492). -/
def State.supplyGood (s : State) : Bool := s.flag F.RPC_VIN_STORE_OK && !s.flag F.RPC_VIN_IN_WARNING

/-! ### Sessions -/

/-- The session of an identifier, pending or open. -/
def State.session (s : State) (id : Nat) : Option Session := s.quill.sessions.find? (·.id == id)

/-- The session record replaced. -/
def State.setSession (s : State) (x : Session) : State :=
  { s with quill := { s.quill with sessions := s.quill.sessions.map fun y => if y.id == x.id then x else y } }

/-- QUILL_SESS.OPEN counts the sessions pending or open. -/
def State.showSessions (s : State) : State := s.fput F.QUILL_SESS_OPEN s.quill.sessions.length

/-- A session ends, which is logged when it was open (R396, R413). -/
def State.endSession (s : State) (id reason : Nat) : State :=
  match s.session id with
  | none => s
  | some x =>
    let s := { s with quill := { s.quill with sessions := s.quill.sessions.filter (·.id != id) } }
    let s := s.showSessions
    if x.opened then s.log 0x0004 codeVote (leBytes 4 id ++ leBytes 1 reason) else s

/-- Every session ends, as at a change of lifecycle state (R396). -/
def State.endSessions (s : State) (reason : Nat) : State :=
  s.quill.sessions.foldl (fun s x => s.endSession x.id reason) s

/-- The level of a session; 0 for none or a pending one. -/
def State.level (s : State) (id : Nat) : Nat :=
  match s.session id with
  | some x => if x.opened then x.level else 0
  | none => 0

/-! ### Replies -/

/-- DETAIL of the log events 0x0001 and 0x0002 (R413). -/
def cmdDetail (s : State) (c : Cmd) (op status : Nat) : List Byte :=
  leBytes 2 op ++ leBytes 1 c.queue ++ leBytes 1 (s.level c.session) ++ leBytes 4 c.session ++ leBytes 4 c.tag
    ++ leBytes 2 status

/-- The 8 bytes of parameters of a reply that is not OK (R389). -/
def indexParams (index : Nat) : List Byte := leBytes 4 index ++ zeros 4

/-- The commands without the record of `c`. -/
def dropCmd (cs : List CmdRec) (c : Cmd) : List CmdRec := cs.filter (·.cmd != c)

/-- A reply is queued with the next number of its series (R390); the reply of an ended session is discarded (R396).
See log entry 53 (DEDUCED). -/
def State.pushReply (s : State) (c : Cmd) (op status : Nat) (params : List Byte) (lane : Bool) : State :=
  match s.session c.session with
  | none =>
    if c.session == 0 then
      { s with quill := { s.quill with replies := s.quill.replies ++ [⟨c, op, status, params, 0, [], true, false, false⟩] } }
    else { s with quill := { s.quill with replies := s.quill.replies ++ [⟨c, op, status, [], 0, [], true, true, false⟩] } }
  | some x =>
    let x := if lane then { x with laneTx := x.laneTx + 1 } else { x with scribeTx := x.scribeTx + 1 }
    let x := { x with lastAt := s.mono }
    let n := if lane then x.laneTx else x.scribeTx
    if 2 ^ 48 ≤ n then
      let s := s.endSession x.id 2
      { s with quill := { s.quill with replies := s.quill.replies ++ [⟨c, op, status, [], 0, [], true, true, false⟩] } }
    else
    let s := s.setSession x
    { s with quill := { s.quill with replies := s.quill.replies ++ [⟨c, op, status, params, n, [], !lane, false, false⟩] } }

/-- A queue's state beyond its registers. -/
def QueState.queue (x : QueState) (q : Nat) : QueueRun := x.queues.getD q queueReset

/-- A command has not replied: it is accepted, held or on its way to a verdict, or its reply is not released (R110,
R402). -/
def State.unreplied (s : State) (c : Cmd) : Bool :=
  s.quill.cmds.any (·.cmd == c) || s.quill.held.any (·.cmd == c) || s.quill.inflight.any (fun i => i.cmd == c && i.decided.isNone)
    || s.quill.replies.any fun r => r.cmd == c && !r.released && !r.dropped

/-- The place of a command in its queue, as long as it is outstanding there (R374, R403). -/
def State.queuePlace (s : State) (c : Cmd) : Option Nat := (s.que.queue c.queue).cmds.findIdx? (·.cmd == some c)

/-- Command `c` stands before command `f` in their queue. -/
def State.placedBefore (s : State) (c f : Cmd) : Bool :=
  match s.queuePlace c, s.queuePlace f with
  | some i, some j => decide (i < j)
  | _, _ => false

/-- Command `c` is ahead of command `f` of its queue: by their places in the queue, or, where these are not known, by
their acceptance (R403). -/
def State.isAhead (s : State) (c f : Cmd) : Bool :=
  s.placedBefore c f || (!s.placedBefore f c && (s.quill.cmds.takeWhile (·.cmd != f)).any (·.cmd == c))

/-- The commands ahead of `f`, which is accepted now, that have not replied: those accepted, held or answered before
it, and those that stand before it in the queue without a verdict (R110). -/
def State.cmdsAhead (s : State) (f : Cmd) : List Cmd :=
  let known := s.quill.cmds.map (·.cmd) ++ s.quill.held.map (·.cmd)
    ++ (s.quill.replies.filter fun r => !r.released && !r.dropped).map (·.cmd)
  let waiting := (s.quill.inflight.filter (·.decided.isNone)).map (·.cmd)
  known.filter (fun c => c.queue == f.queue && c != f && !s.placedBefore f c)
    ++ waiting.filter fun c => c.queue == f.queue && s.placedBefore c f

/-- A command ahead of the fence `f` has not replied (R110). -/
def State.aheadOf (s : State) (f : Fence) : Bool := f.ahead.any s.unreplied

/-- A LANE-class command replies: its record goes, the reply is logged and queued (R402, R413). -/
def State.replyLane (s : State) (c : Cmd) (op status : Nat) (params : List Byte) : State :=
  let s := s.log 0x0002 codeVote (cmdDetail s c op status)
  let s := s.pushReply c op status params true
  { s with quill := { s.quill with cmds := dropCmd s.quill.cmds c } }

/-- FENCE's opcode (R404). -/
def opFence : Nat := 0x0B01

/-- A fence is removed and answered; the commands behind it may start (R110). -/
def State.fenceReply (s : State) (f : Fence) (status : Nat) : State :=
  let s := { s with ductus := { s.ductus with fences := s.ductus.fences.filter (· != f) } }
  s.replyLane f.cmd opFence status (if status == stOk then [] else indexParams noIndex)

/-- Every QUEUE fence whose queue has replied everything ahead of it completes (R110). -/
def State.settleQueueFences (s : State) : State :=
  s.ductus.fences.foldl (fun s f => if f.kind == .queue && !s.aheadOf f then s.fenceReply f stOk else s) s

/-- A LANE-class command replies, and QUEUE fences that waited for it complete. -/
def State.reply (s : State) (c : Cmd) (op status : Nat) (params : List Byte) : State :=
  (s.replyLane c op status params).settleQueueFences

/-- A LANE-class command replies OK without parameters. -/
def State.replyOk (s : State) (c : Cmd) (op : Nat) : State := s.reply c op stOk []

/-- A LANE-class command replies with a status that is not OK. -/
def State.replyErr (s : State) (c : Cmd) (op status index : Nat) : State := s.reply c op status (indexParams index)

/-- A plain AUTH_FAIL reply, if its path's bucket has a token (R392). -/
def State.plainReply (s : State) (c : Cmd) (op : Nat) (mp : Bool) : State :=
  let q := s.quill
  let b := if mp then q.plainMp else q.plainHost
  if b.tokens == 0 then { s with quill := { q with replies := q.replies ++ [⟨c, op, stAuthFail, [], 0, [], true, true, false⟩] } } else
  let b : Bucket := { b with tokens := b.tokens - 1 }
  let q := if mp then { q with plainMp := b } else { q with plainHost := b }
  { s with quill := { q with replies := q.replies ++ [⟨{ c with session := 0 }, op, stAuthFail, [], 0, [], true, false, false⟩] } }

/-- A command's path: HOST for Q0 to Q13 and the mailbox, MANAGEMENT for Q14 and Q15 while the scribe produces them
(R396, R398). -/
def State.pathOf (s : State) (queue : Nat) : Nat :=
  if queue == 16 then 0 else s.fget (F.Q_CFG_PRODUCER queue)

/-- An authentication failure of a LANE-class packet (R392, QUILL_AUTH). -/
def State.authFailLane (s : State) (c : Cmd) (op : Nat) : State :=
  (s.fsat F.QUILL_AUTH_LANE).plainReply c op (s.pathOf c.queue == 1)

/-- An authentication failure of a SCRIBE-class packet, or of one with SESSION 0 (R392, QUILL_AUTH). -/
def State.authFailScribe (s : State) (c : Cmd) (op : Nat) : State :=
  (s.fsat F.QUILL_AUTH_SCRIBE).plainReply c op (s.pathOf c.queue == 1)

/-- The packet names an open session of its own path (R392, R396). -/
def State.sessionOk (s : State) (c : Cmd) : Bool :=
  match s.session c.session with
  | some x => x.opened && x.path == s.pathOf c.queue
  | none => false

/-! ### Acceptance (R400, R401) -/

/-- The opcodes that a session opened in BLANK accepts (R395). -/
def blankOps : List Nat := [0x0101, 0x0803, 0x0804, 0x0802]

/-- The refusal that comes before the command's own checks: length, then level (R400, R395, R397). -/
def State.preCheck (s : State) (c : Cmd) (op lvl : Nat) (lenOk : Bool) : Verdict :=
  if !lenOk then .refuse stBadParam noIndex
  else match s.session c.session with
    | none => .refuse stAuthFail noIndex
    | some x =>
      if x.blank && !blankOps.contains op then .refuse stBadParam noIndex
      else if x.level < lvl then .refuse stPrivilege noIndex
      else .accept

/-- The verdict on a command: the checks before it, then its own (R400). -/
def State.verdict (s : State) (c : Cmd) (op lvl : Nat) (lenOk : Bool) (own : State → Verdict) : Verdict :=
  match s.preCheck c op lvl lenOk with
  | .accept => own s
  | v => v

/-- A session is touched by an authenticated packet (R396). See log entry 55 (DEDUCED). -/
def State.touch (s : State) (id : Nat) : State :=
  match s.session id with
  | some x => s.setSession { x with lastAt := s.mono }
  | none => s

/-- The fences of a queue that are not complete: waiting, accepted, or on their way to a verdict (R110, R403). -/
def State.openFences (s : State) (q : Nat) : List Cmd :=
  (s.ductus.fences.map (·.cmd) ++ (s.quill.cmds.filter (·.opcode == opFence)).map (·.cmd)
    ++ (s.quill.inflight.filter fun i => i.opcode == opFence && i.decided.isNone).map (·.cmd)).filter (·.queue == q)

/-- Command `c` is behind a fence of its queue that is not complete (R403). See log entry 24 (DESIGN CHOICE). -/
def State.fenced (s : State) (c : Cmd) : Bool := (s.openFences c.queue).any fun f => f != c && !s.isAhead c f

/-- The command is accepted 2oo3: counted and logged, and it waits for its reply (R401, R413). -/
def State.acceptCmd (s : State) (c : Cmd) (op : Nat) : State :=
  let s := s.finc F.QUILL_ACCEPT_COUNT
  let s := s.log 0x0001 codeVote (cmdDetail s c op stOk)
  { s with quill := { s.quill with
      cmds := s.quill.cmds ++ [⟨c, op, s.now, true⟩]
      held := s.quill.held.filter (·.cmd != c) } }

/-- FOLIO_SWITCH's opcode (R404). -/
def opFolioSwitch : Nat := 0x0203

/-- The command is refused by two identical verdicts, which are its reply (R401, QUILL_REFUSE); a
FOLIO_SWITCH so answered CHECK_FAIL shows in FOLIO_STAT.LAST_RESULT, and a SESSION_OPEN so answered AUTH_FAIL under
protection destroys its session (R395). -/
def State.refuseCmd (s : State) (c : Cmd) (op status index : Nat) : State :=
  let s := s.fsat F.QUILL_REFUSE_COUNT
  let s := if op == opFolioSwitch && status == stCheckFail then s.fput F.FOLIO_STAT_LAST_RESULT 3 else s
  let s := s.log 0x0001 codeVote (cmdDetail s c op status)
  let s := { s with quill := { s.quill with held := s.quill.held.filter (·.cmd != c) } }
  let s := s.replyErr c op status index
  if op == 0x0801 && status == stAuthFail then s.endSession c.session 0 else s

/-- The record of a command that the verdicts have already accepted and that has not started.
See log entry 24 (DESIGN CHOICE). -/
def State.preAccepted (s : State) (c : Cmd) : Option CmdRec :=
  s.quill.cmds.find? fun r => r.cmd == c && !r.started

/-- The lanes would check the command now, and its own table of replies would decide (R400, R403). -/
def State.checkedNow (s : State) (c : Cmd) (op lvl : Nat) (lenOk : Bool) : Bool :=
  !s.fenced c && s.sessionOk c && decide (2 ≤ s.voters.length) && (s.preAccepted c).isNone
    && s.preCheck c op lvl lenOk == .accept

/-- A signature that the check of a command finds not to verify is counted (SEC_COUNTS.SIG_FAILS). -/
def State.noteSig (s : State) (c : Cmd) (op lvl : Nat) (lenOk fails : Bool) : State :=
  if fails && s.checkedNow c op lvl lenOk then s.fsat F.SEC_COUNTS_SIG_FAILS else s

/-- The record marked as started. -/
def State.startCmd (s : State) (c : Cmd) : State :=
  { s with quill := { s.quill with cmds := s.quill.cmds.map fun r => if r.cmd == c then { r with started := true } else r } }

/-- One LANE-class command from its check to its effect. Held unstarted while a fence of its queue waits (R403); with
fewer than two voting lanes neither accepted nor answered (R401); else accepted or refused by its verdict, and with
acceptance `effect` is what the command does, given its acceptance instant. A command that VERDICT_RECEIVE has already
accepted takes its effect with that instant. See log entry 24 (DESIGN CHOICE). -/
def State.runLane (s : State) (c : Cmd) (t op lvl : Nat) (lenOk : Bool) (own : State → Verdict)
    (effect : State → Nat → State) : State :=
  let s := s.tick t
  match s.preAccepted c with
  | some r => if s.fenced c then s else effect (s.startCmd c) r.accepted
  | none =>
    if s.voters.length < 2 then s
    else if s.fenced c then
      { s with quill := { s.quill with held := s.quill.held.filter (·.cmd != c) ++ [⟨c, op⟩] } }
    else if !s.sessionOk c then s.authFailLane c op
    else
      let s := s.touch c.session
      match s.verdict c op lvl lenOk own with
      | .accept => effect (s.acceptCmd c op) s.now
      | .refuse st i => s.refuseCmd c op st i

/-- A SCRIBE-class command replies. -/
def State.scribeReply (s : State) (c : Cmd) (op status : Nat) (params : List Byte) : State :=
  (s.pushReply c op status params false).settleQueueFences

/-- A SCRIBE-class command replies with a status that is not OK. -/
def State.scribeErr (s : State) (c : Cmd) (op status index : Nat) : State :=
  s.scribeReply c op status (indexParams index)

/-- One SCRIBE-class command: authenticated by the scribe, which carries it out (R399, R400, R401).
See log entry 24 (DESIGN CHOICE). -/
def State.runScribe (s : State) (c : Cmd) (t op lvl : Nat) (lenOk : Bool) (own : State → Verdict)
    (effect : State → State) : State :=
  let s := s.tick t
  if s.fenced c then
    { s with quill := { s.quill with held := s.quill.held.filter (·.cmd != c) ++ [⟨c, op⟩] } }
  else
    let s := { s with quill := { s.quill with held := s.quill.held.filter (·.cmd != c) } }
    if !s.sessionOk c then s.authFailScribe c op
    else
      let s := s.touch c.session
      match s.verdict c op lvl lenOk own with
      | .accept => effect s
      | .refuse st i => s.scribeErr c op st i

/-- No check of the command's own. -/
def noCheck (_ : State) : Verdict := .accept

/-- A check that refuses with `status` where `bad` holds. -/
def refuseIf (bad : Bool) (status index : Nat) (rest : Verdict) : Verdict := if bad then .refuse status index else rest

end Sys2Proof.Machine
end

