-- ==== Sys2Proof/Machine/Copybook.lean ====
section
/-! DEFINITION. Records of the copybook link as they are sent and read (R422, R423), the lines that the voting lanes form,
the lines that a task owns, and the bookkeeping line (R424, R428). -/

namespace Sys2Proof.Machine

/-! ### Records (R423) -/

/-- LINE. -/
def cbLine (x : CopyLine) : List Byte := leBytes 1 4 ++ leBytes 1 x.seg ++ leBytes 1 x.task ++ zeros 1 ++ leBytes 4 x.line ++ x.data

/-- TERM: the token of an epoch, or the release count of an input set. -/
def cbTerm (n : Nat) : List Byte := leBytes 1 5 ++ zeros 3 ++ leBytes 4 n

/-- TOKEN: 1 APPLIED, 2 DISCARDED. -/
def cbToken (outcome token : Nat) : List Byte := leBytes 1 2 ++ leBytes 1 outcome ++ zeros 2 ++ leBytes 4 token

/-- EPOCH_HEAD. -/
def cbEpochHead (full final : Bool) (token point lines : Nat) : List Byte :=
  leBytes 1 3 ++ leBytes 1 (bit full + 2 * bit final) ++ zeros 2 ++ leBytes 4 token ++ leBytes 8 point ++ leBytes 4 lines ++ zeros 4

/-- INPUT_HEAD. -/
def cbInputHead (task release instant lines : Nat) : List Byte :=
  leBytes 1 6 ++ leBytes 1 task ++ zeros 2 ++ leBytes 4 release ++ leBytes 8 instant ++ leBytes 4 lines ++ zeros 4

/-- OUTPUT_SIG. -/
def cbOutputSig (task : Nat) (forced : Bool) (commit : Nat) (sig : DWord) (c : Nat) : List Byte :=
  leBytes 1 7 ++ leBytes 1 task ++ leBytes 1 (bit forced) ++ zeros 1 ++ leBytes 4 commit ++ leBytes 8 sig.toNat ++ leBytes 8 c

/-- WHAT and PHASE of a SCHEDULE record. -/
def whatSeam : Nat := 1
def whatSwap : Nat := 2
def whatMode : Nat := 3
def phAnnounce : Nat := 1
def phConfirm : Nat := 2
def phRefuse : Nat := 3

/-- SCHEDULE. -/
def cbSchedule (what phase arg b instant : Nat) : List Byte :=
  leBytes 1 8 ++ leBytes 1 what ++ leBytes 1 phase ++ leBytes 1 arg ++ leBytes 4 b ++ leBytes 8 instant ++ zeros 8

/-- The copybook link is up (R422). -/
def State.linked (s : State) : Bool := s.flag F.DUP_STAT_LINK

/-- Records go onto the link; with the link down they are lost (R422). -/
def State.cbSend (s : State) (rs : List (List Byte)) : State :=
  if !s.linked || rs.isEmpty then s
  else if s.dup.outAt == s.now then { s with dup := { s.dup with out := s.dup.out ++ rs } }
  else { s with dup := { s.dup with out := rs, outAt := s.now } }

/-- The module sends copies: it is ACTIVE (R416). -/
def State.copies (s : State) : Bool := s.role == roleActive

/-! ### Lines -/

/-- SEG of a bookkeeping line (R423). -/
def segBook : Nat := 8

/-- The logical line `n` of a segment in lane `l`. -/
def logicalLine (l : Lane) (f : Folio) (m : List Host.Cell) (seg n : Nat) : List Byte := rdBytes l f m seg (64 * n) 64

/-- A byte of a segment belongs to a variable or an instance of `task` (R73, R425). -/
def Folio.owns (f : Folio) (task seg off : Nat) : Bool :=
  if seg == segFbs then
    f.insts.any fun i => i.task == task && decide (i.offset ≤ off) && decide (off < i.offset + blockSize i.block)
  else
    f.vars.any fun v => v.task == task && v.segment == seg && decide (v.offset ≤ off) && decide (off < v.offset + v.bytes)

/-- Lane memory with the bytes of a line that `task` owns replaced (R425). -/
def wrOwned (l : Lane) (f : Folio) (m : List Host.Cell) (x : CopyLine) : List Host.Cell :=
  (List.range 64).foldl (fun m i =>
    if f.owns x.task x.seg (64 * x.line + i) then wrByte l f m x.seg (64 * x.line + i) (x.data.getD i 0) else m) m

/-- The lines of a task's variables in a segment, ascending. -/
def Folio.ownLines (f : Folio) (task seg : Nat) : List Nat :=
  (List.range (f.segBytes seg / 64)).filter fun n => (List.range 64).any fun i => f.owns task seg (64 * n + i)

/-- The bookkeeping line of a task (R424; the places of its items are the model's, DESIGN CHOICE, log entry 14):
release and commit counts, the consecutive-overrun count and the task flags of R142. -/
def State.bookLine (s : State) (task : Nat) : List Byte :=
  let b := s.book task
  let divz := match s.voters.head? with
    | some l => s.flag (F.TASK_STAT_DIVZ l task)
    | none => false
  leBytes 4 b.releases ++ leBytes 4 b.commits ++ leBytes 1 b.consec
    ++ leBytes 1 (bit divz + 2 * bit b.first + 4 * bit b.switched + 8 * bit b.lastOvr) ++ zeros 54

/-- A bookkeeping line written into every voting lane (R64, R426). See log entry 14 (DESIGN CHOICE). -/
def State.putBookLine (s : State) (task : Nat) (d : List Byte) : State :=
  let b := s.book task
  let fl := byteAt d 9
  let s := s.setBook { b with
    releases := leAt d 0 4, commits := leAt d 4 4, consec := byteAt d 8, first := natBit fl 1, switched := natBit fl 2,
    lastOvr := natBit fl 3 }
  s.voters.foldl (fun s l => (s.fput (F.TASK_STAT_DIVZ l task) (fl % 2)).fput (F.TASK_STAT_CONSEC l task) (byteAt d 8)) s

/-- A line as lane `l` delivers it. -/
def State.lineOf (s : State) (f : Folio) (l : Lane) (x : Nat × (Nat × Nat)) : List Byte :=
  if x.2.1 == segBook then s.bookLine x.1 else logicalLine l f (s.lane l).mem x.2.1 x.2.2

/-- Of three values of which two are equal: the lane that differs, and the value of the others (R48, R423). -/
def oddLane {α : Type} [DecidableEq α] (ds : List (Lane × α)) : Option (Lane × α) :=
  match ds with
  | [(l0, x), (l1, y), (l2, z)] =>
    if x == y then if x == z then none else some (l2, x)
    else if x == z then some (l1, x) else if y == z then some (l0, y) else none
  | _ => none

/-- One record is formed from the voting lanes: two must deliver it identically; of three, the one that differs is
excluded with DISAGREE. With no two alike nothing is formed (R423). -/
def State.formLine (s : State) (f : Folio) (x : Nat × (Nat × Nat)) : State × Option CopyLine :=
  let ds := s.voters.map fun l => (l, s.lineOf f l x)
  let made (d : List Byte) : Option CopyLine := some ⟨x.2.1, x.1, x.2.2, d⟩
  match ds.head? with
  | none => (s, none)
  | some (_, d) =>
    if ds.all (·.2 == d) then (s, made d)
    else match oddLane ds with
      | some (l, d) => (s.excludeCheck l .disagree 0, made d)
      | none => (s, none)

/-- Lines (task, segment, line) formed in order; none when one of them cannot be formed, which discards the whole epoch
or input set (R423). -/
def State.formLines (s : State) (f : Folio) (xs : List (Nat × (Nat × Nat))) : State × Option (List CopyLine) :=
  xs.foldl (fun (p : State × Option (List CopyLine)) x =>
    match p.2 with
    | none => p
    | some ls =>
      let (s, r) := p.1.formLine f x
      (s, r.map fun y => ls ++ [y])) (s, some [])

end Sys2Proof.Machine
end

