-- ==== Sys2Proof/Machine/Real.lean ====
section
/-! DEFINITION. REAL arithmetic (R137): IEEE 754 binary32 and binary64 computed exactly over rationals and rounded once,
to nearest with ties to even. -/

namespace Sys2Proof.Machine

/-- A binary format: precision p, exponent bits, and the exponent of the least subnormal. -/
structure Fmt where
  p : Nat
  ebits : Nat
  emin : Int
  deriving DecidableEq, Repr

def fmt32 : Fmt := ⟨24, 8, -149⟩
def fmt64 : Fmt := ⟨53, 11, -1074⟩

/-- The format of a REAL type. -/
def fmtOf : Ty → Fmt
  | .real32 => fmt32
  | _ => fmt64

/-- A datum: NaN, infinity, or ±m × 2^e. -/
inductive Fp where
  | nan
  | inf (neg : Bool)
  | fin (neg : Bool) (m : Nat) (e : Int)
  deriving DecidableEq, Repr

/-- Width of a format. -/
def Fmt.width (f : Fmt) : Nat := f.p + f.ebits

/-- The sign bit of a pattern. -/
def Fmt.signBit (f : Fmt) (n : Nat) : Bool := n.testBit (f.width - 1)

/-- The exponent field of all ones. -/
def Fmt.emaxField (f : Fmt) : Nat := 2 ^ f.ebits - 1

/-- The datum of a pattern. -/
def fpDecode (f : Fmt) (n : Nat) : Fp :=
  let frac := n % 2 ^ (f.p - 1)
  let ex := n / 2 ^ (f.p - 1) % 2 ^ f.ebits
  let neg := f.signBit n
  if ex = f.emaxField then (if frac = 0 then .inf neg else .nan)
  else if ex = 0 then .fin neg frac f.emin
  else .fin neg (frac + 2 ^ (f.p - 1)) (f.emin + (ex - 1 : Nat))

/-- The sign of a pattern in place. -/
def fpSign (f : Fmt) (neg : Bool) : Nat := if neg then 2 ^ (f.width - 1) else 0

/-- The canonical quiet NaN (R137). -/
def fpNan (f : Fmt) : Nat := f.emaxField * 2 ^ (f.p - 1) + 2 ^ (f.p - 2)

/-- An infinity. -/
def fpInf (f : Fmt) (neg : Bool) : Nat := fpSign f neg + f.emaxField * 2 ^ (f.p - 1)

/-- The greatest finite magnitude. -/
def fpMax (f : Fmt) (neg : Bool) : Nat := fpInf f neg - 1

/-- A zero. -/
def fpZero (f : Fmt) (neg : Bool) : Nat := fpSign f neg

/-- num × 2^e ÷ den rounded to an integer multiple of 2^(to), ties to even. -/
def roundQuot (num den : Nat) (e dst : Int) : Nat :=
  let sh := e - dst
  let n := if 0 ≤ sh then num * 2 ^ sh.toNat else num
  let d := if 0 ≤ sh then den else den * 2 ^ (-sh).toNat
  let q := n / d
  let r := n % d
  if 2 * r > d ∨ (2 * r = d ∧ q % 2 = 1) then q + 1 else q

/-- The integer part of num × 2^e ÷ den in units of 2^(to). -/
def floorQuot (num den : Nat) (e dst : Int) : Nat :=
  let sh := e - dst
  if 0 ≤ sh then num * 2 ^ sh.toNat / den else num / (den * 2 ^ (-sh).toNat)

/-- The pattern of ±num × 2^e ÷ den, rounded to nearest, ties to even; an overflow gives the infinity (R137). -/
def fpRound (f : Fmt) (neg : Bool) (num den : Nat) (e : Int) : Nat :=
  if num = 0 then fpZero f neg
  else
    let k : Int := (num.log2 : Int) - den.log2 + e
    let e0 := max f.emin (k - f.p)
    let e1 := if 2 ^ f.p ≤ floorQuot num den e e0 then e0 + 1 else e0
    let q := roundQuot num den e e1
    let e2 := if q = 2 ^ f.p then e1 + 1 else e1
    let q2 := if q = 2 ^ f.p then 2 ^ (f.p - 1) else q
    if q2 < 2 ^ (f.p - 1) then fpSign f neg + q2
    else
      let ex := (e2 - f.emin).toNat + 1
      if f.emaxField ≤ ex then fpInf f neg
      else fpSign f neg + ex * 2 ^ (f.p - 1) + (q2 - 2 ^ (f.p - 1))

/-- The pattern of a datum that the format holds. -/
def fpEncode (f : Fmt) : Fp → Nat
  | .nan => fpNan f
  | .inf neg => fpInf f neg
  | .fin neg m e => fpRound f neg m 1 e

/-- ±m as an integer in units of 2^(to), for `to ≤ e`. -/
def fpScaled (neg : Bool) (m : Nat) (e dst : Int) : Int :=
  let v : Int := (m * 2 ^ (e - dst).toNat : Nat)
  if neg then -v else v

/-- Sum of two data. An exact zero sum is +0 unless both operands are −0. -/
def fpAdd (f : Fmt) : Fp → Fp → Nat
  | .nan, _ => fpNan f
  | _, .nan => fpNan f
  | .inf a, .inf b => if a = b then fpInf f a else fpNan f
  | .inf a, _ => fpInf f a
  | _, .inf b => fpInf f b
  | .fin a m e, .fin b n k =>
    let dst := min e k
    let x := fpScaled a m e dst + fpScaled b n k dst
    if x = 0 then fpZero f (a && b) else fpRound f (decide (x < 0)) x.natAbs 1 dst

/-- A datum with its sign turned. -/
def fpNeg : Fp → Fp
  | .nan => .nan
  | .inf a => .inf (!a)
  | .fin a m e => .fin (!a) m e

/-- Product of two data. -/
def fpMul (f : Fmt) : Fp → Fp → Nat
  | .nan, _ => fpNan f
  | _, .nan => fpNan f
  | .inf a, .inf b => fpInf f (a != b)
  | .inf a, .fin b m _ => if m = 0 then fpNan f else fpInf f (a != b)
  | .fin a m _, .inf b => if m = 0 then fpNan f else fpInf f (a != b)
  | .fin a m e, .fin b n k => fpRound f (a != b) (m * n) 1 (e + k)

/-- Quotient of two data; a zero divisor is not asked (R136). -/
def fpDiv (f : Fmt) : Fp → Fp → Nat
  | .nan, _ => fpNan f
  | _, .nan => fpNan f
  | .inf _, .inf _ => fpNan f
  | .inf a, .fin b _ _ => fpInf f (a != b)
  | .fin a _ _, .inf b => fpZero f (a != b)
  | .fin a m e, .fin b n k => if n = 0 then fpNan f else fpRound f (a != b) m n (e - k)

/-- Integer square root, `fuel` bits from the top. -/
def isqrtGo (n : Nat) : Nat → Nat → Nat
  | 0, r => r
  | fuel + 1, r =>
    let c := r + 2 ^ fuel
    if c * c ≤ n then isqrtGo n fuel c else isqrtGo n fuel r

/-- The integer square root of a number below 2^256. -/
def isqrt (n : Nat) : Nat := isqrtGo n 128 0

/-- Square root (R137): NaN below zero, −0 of −0. -/
def fpSqrt (f : Fmt) : Fp → Nat
  | .nan => fpNan f
  | .inf a => if a then fpNan f else fpInf f false
  | .fin a m e =>
    if m = 0 then fpZero f a
    else if a then fpNan f
    else
      let s : Nat := if (e - 130) % 2 = 0 then 130 else 131
      let big := m * 2 ^ s
      let r := isqrt big
      let sticky := if r * r = big then 0 else 1
      fpRound f false (2 * r + sticky) 1 ((e - s) / 2 - 1)

/-- Order of two data that are no NaN: −1, 0 or 1 as an integer difference's sign. -/
def fpCmp : Fp → Fp → Int
  | .nan, _ => 0
  | _, .nan => 0
  | .inf a, .inf b => (if a then -1 else 1) - (if b then -1 else 1)
  | .inf a, _ => if a then -1 else 1
  | _, .inf b => if b then 1 else -1
  | .fin a m e, .fin b n k =>
    let dst := min e k
    fpScaled a m e dst - fpScaled b n k dst

/-- The datum is a NaN. -/
def fpIsNan : Fp → Bool
  | .nan => true
  | _ => false

/-- The integer nearest to ±m × 2^e, ties to even. -/
def fpNearest (neg : Bool) (m : Nat) (e : Int) : Int :=
  let q : Int := (roundQuot m 1 e 0 : Nat)
  if neg then -q else q

/-- The integer part of ±m × 2^e, toward zero. -/
def fpTrunc (neg : Bool) (m : Nat) (e : Int) : Int :=
  let q : Int := (floorQuot m 1 e 0 : Nat)
  if neg then -q else q

/-! ### Registers of REAL type -/

/-- The datum in a register. -/
def fpReg (ty : Ty) (v : DWord) : Fp := fpDecode (fmtOf ty) (v.toNat % 2 ^ tyWidth ty)

/-- A pattern as a register: REAL32 in bits [31:0], the rest zero (R120). -/
def realReg (n : Nat) : DWord := BitVec.ofNat 64 n

/-- The smaller of two REALs (R137): the canonical NaN if either is NaN; −0 below +0. -/
def realMin (ty : Ty) (a b : DWord) : DWord :=
  let x := fpReg ty a
  let y := fpReg ty b
  if fpIsNan x || fpIsNan y then realReg (fpNan (fmtOf ty))
  else
    let c := fpCmp x y
    if c < 0 then a else if 0 < c then b else if (fmtOf ty).signBit a.toNat then a else b

/-- The larger of two REALs (R137). -/
def realMax (ty : Ty) (a b : DWord) : DWord :=
  let x := fpReg ty a
  let y := fpReg ty b
  if fpIsNan x || fpIsNan y then realReg (fpNan (fmtOf ty))
  else
    let c := fpCmp x y
    if 0 < c then a else if c < 0 then b else if (fmtOf ty).signBit a.toNat then b else a

/-- a < b for REAL; FALSE with a NaN (R138). -/
def realLt (ty : Ty) (a b : DWord) : Bool :=
  let x := fpReg ty a
  let y := fpReg ty b
  !fpIsNan x && !fpIsNan y && decide (fpCmp x y < 0)

/-- a = b for REAL; FALSE with a NaN; −0 equals +0 (R138). -/
def realEq (ty : Ty) (a b : DWord) : Bool :=
  let x := fpReg ty a
  let y := fpReg ty b
  !fpIsNan x && !fpIsNan y && decide (fpCmp x y = 0)

/-- An integer as a REAL, to nearest with ties to even (R140). -/
def realOfInt (ty : Ty) (x : Int) : DWord := realReg (fpRound (fmtOf ty) (decide (x < 0)) x.natAbs 1 0)

/-- A REAL as an integer clamped to a type's range, NaN giving 0; `near` rounds to nearest, else toward zero (R140). -/
def intOfReal (src dst : Ty) (near : Bool) (v : DWord) : DWord :=
  match fpReg src v with
  | .nan => 0
  | .inf neg => wrapReg dst (if neg then tyMin dst else tyMax dst)
  | .fin neg m e => satReg dst (if near then fpNearest neg m e else fpTrunc neg m e)

/-- A REAL of one format as a REAL of another (R140); `sat` gives the largest finite value on overflow. -/
def realOfReal (src dst : Ty) (sat : Bool) (v : DWord) : DWord :=
  let d := fmtOf dst
  match fpReg src v with
  | .nan => realReg (fpNan d)
  | .inf neg => realReg (fpInf d neg)
  | .fin neg m e =>
    let r := fpRound d neg m 1 e
    realReg (if sat && r == fpInf d neg then fpMax d neg else r)

/-- A binary32 pattern widened to binary64 with a NaN's sign and fraction kept (R134). -/
def widenPattern (w : Word) : DWord :=
  let n := w.toNat
  if isNan n then
    BitVec.ofNat 64 ((n / 0x80000000) * 0x8000000000000000 + 0x7FF0000000000000 + (n % 0x800000) * 0x20000000)
  else realReg (match fpDecode fmt32 n with
    | .nan => 0
    | .inf neg => fpInf fmt64 neg
    | .fin neg m e => fpRound fmt64 neg m 1 e)
where
  isNan (n : Nat) : Bool := decide (0x7F800000 < n % 0x80000000)

end Sys2Proof.Machine
end

