-- ==== Sys2Proof/Machine/Alu.lean ====
section
/-! DEFINITION. The value of each Stroke operation on registers, by type (R132 to R140): one function for each operation
of the opcode table, over the register representation of R120. -/

namespace Sys2Proof.Machine

/-- Two operands combined as exact integers, or as REALs. -/
def arith (ty : Ty) (fi : Int → Int → Int) (fr : Fmt → Fp → Fp → Nat) (a b : DWord) : DWord :=
  if tyReal ty then realReg (fr (fmtOf ty) (fpReg ty a) (fpReg ty b)) else wrapReg ty (fi (regInt ty a) (regInt ty b))

/-- ADD, SUB, MUL (R132, R137). -/
def aluAdd (ty : Ty) : DWord → DWord → DWord := arith ty (· + ·) fpAdd
def aluSub (ty : Ty) : DWord → DWord → DWord := arith ty (· - ·) (fun f x y => fpAdd f x (fpNeg y))
def aluMul (ty : Ty) : DWord → DWord → DWord := arith ty (· * ·) fpMul

/-- The divisor of DIV or MOD is zero (R136): +0.0 and −0.0 for REAL. -/
def divisorZero (ty : Ty) (b : DWord) : Bool :=
  if tyReal ty then (match fpReg ty b with | .fin _ m _ => m == 0 | _ => false) else regInt ty b == 0

/-- DIV (R135, R136): toward zero; 0 or +0.0 on a zero divisor. -/
def aluDiv (ty : Ty) (a b : DWord) : DWord :=
  if divisorZero ty b then 0
  else arith ty (fun x y => x.tdiv y) fpDiv a b

/-- MOD (R135, R136): a − (a DIV b) × b; 0 on a zero divisor. -/
def aluMod (ty : Ty) (a b : DWord) : DWord :=
  if divisorZero ty b then 0 else wrapReg ty ((regInt ty a).tmod (regInt ty b))

/-- Only the sign bit of a REAL turned or cleared, even of a NaN (R137). -/
def realFlip (ty : Ty) (v : DWord) : DWord := v ^^^ BitVec.ofNat 64 (2 ^ (tyWidth ty - 1))
def realAbs (ty : Ty) (v : DWord) : DWord := v &&& ~~~(BitVec.ofNat 64 (2 ^ (tyWidth ty - 1)))

/-- NEG and ABS (R133, R137). -/
def aluNeg (ty : Ty) (a : DWord) : DWord := if tyReal ty then realFlip ty a else wrapReg ty (-(regInt ty a))
def aluAbs (ty : Ty) (a : DWord) : DWord := if tyReal ty then realAbs ty a else wrapReg ty (regInt ty a).natAbs

/-- ADDS, SUBS, MULS, NEGS, ABSS (R132, R133). -/
def aluAdds (ty : Ty) (a b : DWord) : DWord := satReg ty (regInt ty a + regInt ty b)
def aluSubs (ty : Ty) (a b : DWord) : DWord := satReg ty (regInt ty a - regInt ty b)
def aluMuls (ty : Ty) (a b : DWord) : DWord := satReg ty (regInt ty a * regInt ty b)
def aluNegs (ty : Ty) (a : DWord) : DWord := satReg ty (-(regInt ty a))
def aluAbss (ty : Ty) (a : DWord) : DWord := satReg ty (regInt ty a).natAbs

/-- MIN and MAX (R137). -/
def aluMin (ty : Ty) (a b : DWord) : DWord :=
  if tyReal ty then realMin ty a b else if regInt ty a ≤ regInt ty b then a else b
def aluMax (ty : Ty) (a b : DWord) : DWord :=
  if tyReal ty then realMax ty a b else if regInt ty b ≤ regInt ty a then a else b

/-- ADDI (R132): imm8 sign-extended. -/
def aluAddi (ty : Ty) (a : DWord) (imm : Byte) : DWord := wrapReg ty (regInt ty a + imm.toInt)

/-- SQRT (R137). -/
def aluSqrt (ty : Ty) (a : DWord) : DWord := realReg (fpSqrt (fmtOf ty) (fpReg ty a))

/-- AND, OR, XOR, NOT within w (R131): the register representation is closed under the first three. -/
def aluAnd (a b : DWord) : DWord := a &&& b
def aluOr (a b : DWord) : DWord := a ||| b
def aluXor (a b : DWord) : DWord := a ^^^ b
def aluNot (ty : Ty) (a : DWord) : DWord :=
  if ty == .bool then a ^^^ 1 else wrapReg ty (~~~a).toNat

/-- SHL (R139): a count of w or more gives 0. -/
def aluShl (ty : Ty) (a : DWord) (n : Nat) : DWord :=
  if tyWidth ty ≤ n then 0 else wrapReg ty (a.toNat * 2 ^ n : Nat)

/-- SHR (R139): logical for unsigned, arithmetic for signed types; a count of w or more leaves sign bits or 0. -/
def aluShr (ty : Ty) (a : DWord) (n : Nat) : DWord :=
  wrapReg ty (regInt ty a / (2 ^ min n (tyWidth ty) : Nat))

/-- The w bits of a register. -/
def lowBits (ty : Ty) (a : DWord) : Nat := a.toNat % 2 ^ tyWidth ty

/-- ROL and ROR (R139): the count modulo w. -/
def aluRol (ty : Ty) (a : DWord) (n : Nat) : DWord :=
  let w := tyWidth ty
  let k := n % w
  wrapReg ty (lowBits ty a * 2 ^ k + lowBits ty a / 2 ^ (w - k) : Nat)
def aluRor (ty : Ty) (a : DWord) (n : Nat) : DWord :=
  let w := tyWidth ty
  let k := n % w
  wrapReg ty (lowBits ty a / 2 ^ k + lowBits ty a * 2 ^ (w - k) : Nat)

/-- BITGET (R131). -/
def aluBitget (a : DWord) (n : Nat) : DWord := boolReg (a.getLsbD n)

/-- BSWAP (R131): byte order reversed within w/8 bytes. -/
def aluBswap (ty : Ty) (a : DWord) : DWord := wrapReg ty (leNat (leBytes (tyWidth ty / 8) a.toNat).reverse)

/-- Comparisons (R138): by the type's order; every comparison with a NaN is FALSE, NE included. -/
def cmpLt (ty : Ty) (a b : DWord) : Bool :=
  if tyReal ty then realLt ty a b else decide (regInt ty a < regInt ty b)
def cmpEq (ty : Ty) (a b : DWord) : Bool :=
  if tyReal ty then realEq ty a b else a == b
/-- An operand is a NaN. -/
def anyNan (ty : Ty) (a b : DWord) : Bool := tyReal ty && (fpIsNan (fpReg ty a) || fpIsNan (fpReg ty b))
def cmpNe (ty : Ty) (a b : DWord) : Bool := !anyNan ty a b && !cmpEq ty a b
def cmpLe (ty : Ty) (a b : DWord) : Bool := cmpLt ty a b || cmpEq ty a b
def cmpGt (ty : Ty) (a b : DWord) : Bool := cmpLt ty b a
def cmpGe (ty : Ty) (a b : DWord) : Bool := cmpLt ty b a || cmpEq ty a b

/-- ISNAN (R138). -/
def aluIsnan (ty : Ty) (a : DWord) : DWord := boolReg (tyReal ty && fpIsNan (fpReg ty a))

/-- CONV and CONVS (R140); `sat` chooses the saturating one. A conversion to the source's own type copies. -/
def aluConv (src dst : Ty) (sat : Bool) (a : DWord) : DWord :=
  if src == dst then a
  else if src == .bool then boolReg (a.getLsbD 0)
  else if dst == .bool then boolReg (a != 0)
  else if tyReal src then
    (if tyReal dst then realOfReal src dst sat a else intOfReal src dst true a)
  else if tyReal dst then realOfInt dst (regInt src a)
  else if sat then satReg dst (regInt src a) else wrapReg dst (regInt src a)

/-- TRUNC (R140): toward zero, clamped, NaN gives 0. -/
def aluTrunc (src dst : Ty) (a : DWord) : DWord := intOfReal src dst false a

/-- LDI (R134): imm8 as the type takes it. -/
def aluLdi (ty : Ty) (imm : Byte) : DWord :=
  if tyReal ty then realOfInt ty imm.toInt
  else if ty == .bool then boolReg (imm.getLsbD 0)
  else if tySigned ty then wrapReg ty imm.toInt else wrapReg ty imm.toNat

/-- LDL (R134): the literal as the type takes it. -/
def aluLdl (ty : Ty) (value : Word) : DWord :=
  match ty with
  | .real32 => value.zeroExtend 64
  | .real64 => widenPattern value
  | .bool => boolReg (value.getLsbD 0)
  | ty => if tySigned ty then wrapReg ty value.toInt else wrapReg ty value.toNat

end Sys2Proof.Machine
end

