-- ==== Sys2Proof/Machine/Verify.lean ====
section
/-! DEFINITION. Verification of Stroke code at load (R115 to R130, R144, R145) and the charge of its costliest path
(R527). Log entry 10 names the readings where the rules leave a detail open. -/

namespace Sys2Proof.Machine

/-! ### Instruction words (R115 to R117) -/

/-- The forms of R116. -/
inductive Form where
  | n | d | r2 | r3 | ri | t | c | g | f | v | x | l | b | p | k | kr | kn
  deriving DecidableEq, Repr

/-- The form of an opcode; none where R131 does not list it. -/
def formOf (op : Nat) : Option Form :=
  if op == 0x00 || op == 0x01 || op == 0x07 || op == 0x64 then some .n
  else if op == 0x60 || op == 0x61 then some .d
  else if [0x12, 0x25, 0x26, 0x2A, 0x2B, 0x2F, 0x33, 0x3B, 0x46].contains op then some .r2
  else if op == 0x17 || (0x20 ≤ op && op ≤ 0x24) || (0x27 ≤ op && op ≤ 0x29) || op == 0x2C || op == 0x2D
      || (0x30 ≤ op && op ≤ 0x32) || op == 0x38 || op == 0x39 || (0x40 ≤ op && op ≤ 0x45) then some .r3
  else if op == 0x2E || (0x34 ≤ op && op ≤ 0x37) || op == 0x3A || (0x50 ≤ op && op ≤ 0x52) then some .ri
  else if op == 0x10 then some .t
  else if op == 0x08 then some .c
  else if op == 0x62 then some .g
  else if op == 0x63 then some .f
  else if op == 0x13 || op == 0x14 then some .v
  else if op == 0x15 || op == 0x16 then some .x
  else if op == 0x11 then some .l
  else if (0x02 ≤ op && op ≤ 0x04) || op == 0x06 then some .b
  else if op == 0x05 then some .p
  else if 0x70 ≤ op && op ≤ 0x7C then some .k
  else if op == 0x7D then some .kr
  else if op == 0x7E then some .kn
  else none

/-- A form with a literal word. -/
def formTwo : Form → Bool
  | .v | .x | .l | .b | .p | .k | .kr | .kn => true
  | _ => false

/-- One instruction of a task's code: its word index, opcode, the three fields from the highest bits down, its literal
word, its length, and whether the code ends before its literal word. -/
structure SIns where
  w : Nat
  op : Nat
  x : Nat
  y : Nat
  z : Nat
  lit : Nat
  len : Nat
  cut : Bool
  deriving DecidableEq, Repr

/-- An instruction from its words. -/
def sIns (w word lit len : Nat) (cut : Bool) : SIns :=
  ⟨w, word / 0x1000000 % 256, word / 0x10000 % 256, word / 0x100 % 256, word % 256, lit, len, cut⟩

/-- The opcode of a word has a literal word. -/
def opTwo (word : Nat) : Bool :=
  match formOf (word / 0x1000000 % 256) with
  | some fm => formTwo fm
  | none => false

/-- The instructions of a task's code, word by word from word 0 (R115). -/
def sDecode : Nat → List Nat → List SIns
  | _, [] => []
  | w, [c] => [sIns w c 0 (if opTwo c then 2 else 1) (opTwo c)]
  | w, c :: l :: cs =>
    if opTwo c then sIns w c l 2 false :: sDecode (w + 2) cs else sIns w c 0 1 false :: sDecode (w + 1) (l :: cs)

/-- The instruction at a word index. -/
def sAt (is : List SIns) (w : Nat) : Option SIns := is.find? (·.w == w)

/-- Opcodes that the rules name. -/
def oEnd : Nat := 0x01
def oJmp : Nat := 0x02
def oBrt : Nat := 0x03
def oBrf : Nat := 0x04
def oLoop : Nat := 0x05
def oCall : Nat := 0x06
def oRet : Nat := 0x07
def oFenceOut : Nat := 0x64

/-- JMP, BRT and BRF. -/
def opForward (op : Nat) : Bool := op == oJmp || op == oBrt || op == oBrf

/-- Instructions with a target in their own routine. -/
def opBranch (op : Nat) : Bool := opForward op || op == oLoop

/-- The bound of a LOOP (R127). -/
def SIns.bound (i : SIns) : Nat := i.x * 256 + i.z

/-- The words that control can go to in the same routine (R129: a CALL goes on at the word after it). An instruction whose
literal word lies past the code's end has no target: it runs past the last word. -/
def SIns.succs (i : SIns) : List Nat :=
  if i.cut then [i.w + i.len]
  else if i.op == oEnd || i.op == oRet then []
  else if i.op == oJmp then [i.lit]
  else if i.op == oBrt || i.op == oBrf || i.op == oLoop then [i.w + i.len, i.lit]
  else [i.w + i.len]

/-! ### Routines (R129) -/

/-- The instruction words reached from a frontier without following a CALL. -/
def reachGo (is : List SIns) : Nat → List Nat → List Nat → List Nat
  | 0, _, seen => seen
  | _ + 1, [], seen => seen
  | k + 1, w :: ws, seen =>
    if seen.contains w then reachGo is k ws seen
    else match sAt is w with
      | some i => reachGo is k (i.succs ++ ws) (w :: seen)
      | none => reachGo is k ws seen

/-- Steps that a walk over the code can take. -/
def walkFuel (is : List SIns) : Nat := 3 * is.length + 3

/-- The words of the routine with entry `e`. -/
def routine (is : List SIns) (e : Nat) : List Nat := reachGo is (walkFuel is) [e] []

/-- The targets of the CALLs among the words `ws`. -/
def callTargets (is : List SIns) (ws : List Nat) : List Nat :=
  is.filterMap fun i => if i.op == oCall && !i.cut && ws.contains i.w && (sAt is i.lit).isSome then some i.lit else none

/-- The entries of the routines that are called from `frontier`, directly and indirectly, with those. -/
def entriesGo (is : List SIns) : Nat → List Nat → List Nat → List Nat
  | 0, _, seen => seen
  | _ + 1, [], seen => seen
  | k + 1, e :: es, seen =>
    if seen.contains e then entriesGo is k es seen
    else entriesGo is k (callTargets is (routine is e) ++ es) (seen ++ [e])

/-- The entries called from `e` on, `e` first. -/
def entriesFrom (is : List SIns) (e : Nat) : List Nat := entriesGo is (walkFuel is * (is.length + 1)) [e] []

/-- A routine: its entry and its words. -/
abbrev Routines := List (Nat × List Nat)

/-- The routines of a task's code. -/
def routinesOf (is : List SIns) : Routines := (entriesFrom is 0).map fun e => (e, routine is e)

/-- The entries of the routines that hold word `w`. -/
def ownersOf (rs : Routines) (w : Nat) : List Nat := (rs.filter (·.2.contains w)).map (·.1)

/-! ### The structural rules: codes 0x01 to 0x06 of R144 -/

/-- A breach: rule code and word index. -/
abbrev Breach := Nat × Nat

/-- A field that R116 marks 0 is not zero. JMP and CALL have no condition. -/
def fieldBreach (i : SIns) : Bool :=
  match formOf i.op with
  | none => true
  | some .n => i.x != 0 || i.y != 0 || i.z != 0
  | some .d => i.y != 0 || i.z != 0
  | some .r2 => i.z != 0
  | some .c => i.x != 0 || i.z != 0
  | some .g => i.y != 0
  | some .f => i.x != 0 || i.y != 0
  | some .v => i.y != 0 || i.z != 0
  | some .x => i.z != 0
  | some .l => i.z != 0
  | some .b => i.x != 0 || i.z != 0 || ((i.op == oJmp || i.op == oCall) && i.y != 0)
  | some .k => i.z != 0
  | some .kr => i.y != 0
  | some .kn => i.x != 0 || i.y != 0 || i.z != 0
  | some .r3 | some .ri | some .t | some .p => false

/-- OPCODE. -/
def ruleOpcode (is : List SIns) : List Breach := (is.filter fieldBreach).map fun i => (1, i.w)

/-- TARGET (R125): not the word index of an instruction, or in another routine. -/
def ruleTarget (is : List SIns) (rs : Routines) : List Breach :=
  (is.filter fun i =>
    (opBranch i.op || i.op == oCall) && !i.cut &&
      ((sAt is i.lit).isNone ||
        (opBranch i.op && !(ownersOf rs i.w).isEmpty
          && (ownersOf rs i.lit).any fun e => !(ownersOf rs i.w).contains e))).map fun i => (2, i.w)

/-- BACKWARD (R126, R127). -/
def ruleBackward (is : List SIns) : List Breach :=
  (is.filter fun i => !i.cut && ((opForward i.op && decide (i.lit ≤ i.w)) || (i.op == oLoop && decide (i.w < i.lit)))).map
    fun i => (3, i.w)

/-- The loops: the LOOP and its head. -/
def loopsOf (is : List SIns) : List SIns := is.filter fun i => i.op == oLoop && !i.cut

/-- Two bodies overlap without one containing the other (R128). -/
def loopsCross (a b : SIns) : Bool :=
  decide (a.lit < b.lit) && decide (b.lit ≤ a.w) && decide (a.w < b.w)

/-- A branch from outside a body to a word of it other than its head (R128). -/
def entersBody (l i : SIns) : Bool :=
  opBranch i.op && !i.cut && !(l.lit ≤ i.w && i.w ≤ l.w) && decide (l.lit < i.lit) && decide (i.lit ≤ l.w)

/-- LOOP (R127, R128). A breach that two loops make together is recorded at the later LOOP. See log entry 10 (DESIGN
CHOICE). -/
def ruleLoop (is : List SIns) : List Breach :=
  let ls := loopsOf is
  ((is.filter fun i => i.op == oLoop && i.cut && i.bound == 0).map fun i => (4, i.w))
    ++ ((ls.filter fun l => l.bound == 0 || ls.any (fun m => m.w < l.w && m.lit == l.lit) || ls.any (fun m => loopsCross m l)).map
      fun l => (4, l.w))
    ++ ((is.filter fun i => ls.any fun l => entersBody l i).map fun i => (4, i.w))

/-- The routines reached by exactly `k` nested calls. -/
def callLevel (is : List SIns) : Nat → List Nat
  | 0 => [0]
  | k + 1 => ((callLevel is k).flatMap fun e => callTargets is (routine is e)).eraseDups

/-- CALL (R129). A path of a subroutine that runs past the last word reaches neither RET nor END. Words that two routines
share are each a breach, and calls nested too deep are one at the ninth-level CALL. See log entry 10 (DESIGN CHOICE). -/
def ruleCall (is : List SIns) (rs : Routines) : List Breach :=
  let n := is.foldl (fun m i => max m (i.w + i.len)) 0
  let shared := is.filter fun i => decide (1 < (ownersOf rs i.w).length)
  let retMain := is.filter fun i => i.op == oRet && (ownersOf rs i.w).contains 0
  let falls := is.filter fun i => (ownersOf rs i.w).any (· != 0) && i.succs.any (n ≤ ·) && !(opBranch i.op && n ≤ i.lit)
  let recursive := is.filter fun i => i.op == oCall && !i.cut && (sAt is i.lit).isSome &&
    (ownersOf rs i.w).any fun e => (entriesFrom is i.lit).contains e
  let deep := (callLevel is 8).flatMap fun e =>
    is.filter fun i => i.op == oCall && (routine is e).contains i.w
  (shared ++ retMain ++ falls ++ recursive ++ deep).map fun i => (5, i.w)

/-- PATH (R130): a path of the main routine runs past the last word, or the code ends before a literal word: such an
instruction breaks PATH, and in a subroutine CALL, and no rule about its target. See log entry 10 (DESIGN CHOICE). -/
def rulePath (is : List SIns) (rs : Routines) : List Breach :=
  let n := is.foldl (fun m i => max m (i.w + i.len)) 0
  (is.filter fun i => i.cut || ((ownersOf rs i.w).contains 0 && i.succs.any (n ≤ ·) && !(opBranch i.op && n ≤ i.lit))).map
    fun i => (6, i.w)

/-- The least breach: lowest rule code, then lowest word. -/
def firstBreach (bs : List Breach) : Option Breach :=
  bs.foldl (fun m b => match m with
    | none => some b
    | some c => if b.1 < c.1 || (b.1 == c.1 && b.2 < c.2) then some b else some c) none

/-! ### Register types: codes 0x07 to 0x09 (R119 to R121, R147, R148) -/

/-- What the verifier knows of a register: its one type, types that differ between joining paths, or a value whose
refusal is already recorded. A register not listed is undefined on some path. -/
inductive AVal where
  | ty (t : Ty)
  | mixed
  | any
  deriving DecidableEq, Repr

/-- The registers as the verifier knows them at one instruction. -/
abbrev AState := List (Nat × AVal)

/-- Two paths join at one register. -/
def joinVal (a b : AVal) : AVal :=
  if a == b then a else if a == .any || b == .any then .any else .mixed

/-- Two paths join: a register undefined on either is undefined. See log entry 10 (DEDUCED). -/
def joinState (a b : AState) : AState :=
  a.filterMap fun (r, x) => (assoc b r).map fun y => (r, joinVal x y)

/-- Int, REAL or TIME. -/
def tyNum (t : Ty) : Bool := tyInt t || tyReal t || t == .time

/-- The types that a one- or two-operand instruction permits for a (R131). -/
def operandOk (op : Nat) (t : Ty) : Bool :=
  if op == 0x20 || op == 0x21 || op == 0x25 || op == 0x26 || op == 0x2C || op == 0x2D || (0x42 ≤ op && op ≤ 0x45) then tyNum t
  else if op == 0x22 || op == 0x23 then tyInt t || tyReal t
  else if op == 0x27 || op == 0x28 || op == 0x2A || op == 0x2B then tyInt t || t == .time
  else if op == 0x2F || op == 0x46 then tyReal t
  else if 0x30 ≤ op && op ≤ 0x33 then tyInt t || t == .bool
  else if op == 0x12 || op == 0x40 || op == 0x41 then true
  else tyInt t

/-- The result type (R131). -/
def resultTy (op : Nat) (t : AVal) : AVal :=
  if op == 0x3A || (0x40 ≤ op && op ≤ 0x46) then .ty .bool else t

/-- The pairs of R140. -/
def convOk (op : Nat) (src dst : Ty) : Bool :=
  if op == 0x52 then tyReal src && (tyInt dst || dst == .time)
  else src == dst
    || ((tyInt src || src == .time) && (tyNum dst || dst == .bool))
    || (src == .bool && tyInt dst)
    || (tyReal src && (tyNum dst))

/-- The value of LDI or LDL lies in the range of the type (R134). -/
def literalOk (op : Nat) (t : Ty) (v : Nat) : Bool :=
  match t with
  | .bool => decide (v ≤ 1)
  | .real32 | .real64 | .time | .int64 | .uint64 => true
  | _ =>
    if op == 0x10 then true
    else
      let n : Int := if tySigned t && decide (2 ^ 31 ≤ v) then (v : Int) - 2 ^ 32 else v
      decide (tyMin t ≤ n) && decide (n ≤ tyMax t)

/-- The input types of a block (R148), for the declared type `t`, where it is known. -/
def blockIns (block : Nat) (t : AVal) : List AVal :=
  match block with
  | 1 | 2 | 3 => [.ty .bool, .ty .time]
  | 4 | 5 => [.ty .bool]
  | 6 | 7 => [.ty .bool, .ty .bool, .ty .int64]
  | 8 => [.ty .bool, .ty .bool, .ty .bool, .ty .bool, .ty .int64]
  | 9 | 10 => [.ty .bool, .ty .bool]
  | 11 => [t, t, t]
  | 12 => [t, t, t, .ty .bool]
  | 13 => [t, t, t]
  | _ => []

/-- The output types of a block (R148), for the declared type `t`, where it is known. -/
def blockOuts (block : Nat) (t : AVal) : List AVal :=
  match block with
  | 1 | 2 | 3 => [.ty .bool, .ty .time]
  | 4 | 5 | 9 | 10 | 11 => [.ty .bool]
  | 6 | 7 => [.ty .bool, .ty .int64]
  | 8 => [.ty .bool, .ty .bool, .ty .int64]
  | 12 | 13 => [t]
  | _ => []

/-- The declared type of a record as the verifier reads it. -/
def instTy (i : InstRec) : Ty := (tyOfCode i.dtype).getD .int64

/-- The type of a record field of BLKRD; none where the code does not apply to the block (R153). -/
def fieldTy (i : InstRec) (code : Nat) : Option Ty :=
  let b := i.block
  match code with
  | 0 => if b == 7 || b == 12 || b == 13 then none else some .bool
  | 1 => if b == 7 || b == 8 then some .bool else none
  | 2 => if 1 ≤ b && b ≤ 3 then some .time else none
  | 3 => if 6 ≤ b && b ≤ 8 then some .int64 else none
  | 4 => if b == 12 then some (instTy i) else none
  | 5 => if b == 13 then some .uint8 else none
  | 6 => if b == 13 then some .uint32 else none
  | _ => none

/-- Rule codes. -/
def rUndef : Nat := 7
def rType : Nat := 8
def rRange : Nat := 9
def rVariable : Nat := 10
def rWrite : Nat := 11
def rInstance : Nat := 12
def rFence : Nat := 13

/-- Reading a register: what is known of it, and the rules that the read breaks (R121). -/
def aGet (s : AState) (r : Nat) : AVal × List Nat :=
  match assoc s r with
  | none => (.any, [rUndef])
  | some .mixed => (.any, [rType])
  | some v => (v, [])

/-- A register set to a type. -/
def aSet (s : AState) (r : Nat) (v : AVal) : AState := cellIns s r v

/-- Consecutive registers set. -/
def aSetAll (s : AState) (r : Nat) : List AVal → AState
  | [] => s
  | v :: vs => aSetAll (aSet s r v) (r + 1) vs

/-- TYPE where a known type does not meet `ok`. -/
def aNeed (v : AVal) (ok : Ty → Bool) : List Nat :=
  match v with
  | .ty t => if ok t then [] else [rType]
  | _ => []

/-- Two known types differ. -/
def aSame (a b : AVal) : List Nat :=
  match a, b with
  | .ty t, .ty u => if t == u then [] else [rType]
  | _, _ => []

/-- The known type, or a refused value where some rule was broken. -/
def aKeep (v : AVal) (errs : List Nat) : AVal := if errs.isEmpty then v else .any

/-- The block inputs from register `r` against the types that R148 gives, as far as there are registers. -/
def aInputs (s : AState) (r : Nat) : List AVal → List Nat
  | [] => []
  | t :: ts => if 256 ≤ r then [] else (aGet s r).2 ++ aSame (aGet s r).1 t ++ aInputs s (r + 1) ts


/-- The segments that a task may store to (R122). -/
def segStored (seg : Nat) : Bool := seg == segOut || seg == segTgo || seg == segRet || seg == segWrk

/-- One instruction other than CALL: the registers after it, and the rules of codes 0x07 to 0x0C that it breaks. -/
def aStep (f : Folio) (task : Nat) (i : SIns) (s : AState) : AState × List Nat :=
  match formOf i.op with
  | some .d => (aSet s i.x (.ty .time), [])
  | some .r2 =>
    let (a, e) := aGet s i.y
    let e := e ++ aNeed a (operandOk i.op)
    (aSet s i.x (resultTy i.op (aKeep a e)), e)
  | some .r3 =>
    let (a, e1) := aGet s i.y
    let (b, e2) := aGet s i.z
    if i.op == 0x17 then
      let (d, e0) := aGet s i.x
      let e := e1 ++ aNeed a (· == .bool) ++ e0 ++ e2 ++ aSame d b
      (aSet s i.x (if d == .any then b else d), e)
    else
      let e := e1 ++ aNeed a (operandOk i.op) ++ e2 ++
        (if i.op == 0x38 || i.op == 0x39 then aNeed b tyUnsigned else aSame a b)
      (aSet s i.x (resultTy i.op (aKeep a e)), e)
  | some .ri =>
    let (a, e) := aGet s i.y
    if 0x50 ≤ i.op then
      match tyOfCode i.z with
      | some t => (aSet s i.x (.ty t), e ++ aNeed a (fun u => convOk i.op u t))
      | none => (aSet s i.x .any, e ++ [rType])
    else
      let e := e ++ aNeed a (fun t => operandOk i.op t && (i.op != 0x3A || decide (i.z < tyWidth t)))
      (aSet s i.x (resultTy i.op (aKeep a e)), e)
  | some .t | some .l =>
    match tyOfCode i.y with
    | some t => (aSet s i.x (.ty t), if literalOk i.op t (if i.op == 0x10 then i.z else i.lit) then [] else [rType])
    | none => (aSet s i.x .any, [rType])
  | some .c | some .p =>
    let (a, e) := aGet s i.y
    (s, e ++ aNeed a (· == .bool))
  | some .b =>
    if i.op == oJmp then (s, [])
    else
      let (a, e) := aGet s i.y
      (s, e ++ aNeed a (· == .bool))
  | some .g => (aSet s i.x (.ty .bool), if 3 < i.z then [rType] else [])
  | some .f => (s, if i.z == 0 then [] else [rType])
  | some .v | some .x =>
    let array := i.op == 0x15 || i.op == 0x16
    let store := i.op == 0x14 || i.op == 0x16
    let (ix, e0) := if array then aGet s i.y else (.any, [])
    let e0 := e0 ++ aNeed ix tyInt
    match f.varAt i.lit with
    | none => if store then (s, e0 ++ (aGet s i.x).2 ++ [rVariable]) else (aSet s i.x .any, e0 ++ [rVariable])
    | some v =>
      let e0 := e0 ++ (if v.array == array then [] else [rVariable])
      if store then
        let (a, e1) := aGet s i.x
        (s, e0 ++ e1 ++ aNeed a (· == v.ty) ++ (if segStored v.segment && v.task == task then [] else [rWrite]))
      else
        (aSet s i.x (.ty v.ty), e0 ++ (if v.segment == segCon || v.task == task then [] else [rVariable]))
  | some .k =>
    let block := i.op - 0x6F
    let inst := f.instAt i.lit
    let own := inst.any fun r => r.task == task && r.block == block
    let t : AVal := match inst with
      | some r => if 11 ≤ r.block && r.block ≤ 13 then .ty (instTy r) else .any
      | none => .any
    let ins := blockIns block t
    let outs := blockOuts block t
    let range := decide (256 < i.y + ins.length) || decide (256 < i.x + outs.length)
    (aSetAll s i.x outs, aInputs s i.y ins ++ (if range then [rRange] else []) ++ (if own then [] else [rInstance]))
  | some .kr =>
    match f.instAt i.lit with
    | some r =>
      if r.task != task then (aSet s i.x .any, [rInstance])
      else match fieldTy r i.z with
        | some t => (aSet s i.x (.ty t), [])
        | none => (aSet s i.x .any, [rInstance])
    | none => (aSet s i.x .any, [rInstance])
  | some .kn =>
    match f.instAt i.lit with
    | some r => (s, if r.task == task then [] else [rInstance])
    | none => (s, [rInstance])
  | some .n | none => (s, [])

/-- The states before the instructions of one routine. -/
abbrev Flow := List (Nat × AState)

/-- A path with state `s` reaches word `w`: the joined flow, and whether it changed. -/
def flowJoin (fl : Flow) (w : Nat) (s : AState) : Flow × Bool :=
  match assoc fl w with
  | none => (cellIns fl w s, true)
  | some old =>
    let new := joinState old s
    if new == old then (fl, false) else (cellIns fl w new, true)

/-- Every successor takes the state; those that changed go to the work list. -/
def flowSuccs (s : AState) : List Nat → Flow → List Nat → Flow × List Nat
  | [], fl, work => (fl, work)
  | w :: ws, fl, work =>
    let (fl, ch) := flowJoin fl w s
    flowSuccs s ws fl (if ch then w :: work else work)

/-- The work-list iteration of one routine; `after` gives the state behind an instruction, none where control does not
come back. -/
def flowGo (is : List SIns) (after : SIns → AState → Option AState) : Nat → List Nat → Flow → Flow
  | 0, _, fl => fl
  | _ + 1, [], fl => fl
  | k + 1, w :: work, fl =>
    match sAt is w, assoc fl w with
    | some i, some s =>
      match after i s with
      | some t =>
        let (fl, work) := flowSuccs t i.succs fl work
        flowGo is after k work fl
      | none => flowGo is after k work fl
    | _, _ => flowGo is after k work fl

/-- The joined state at the RETs of a flow; none where no RET is reached. -/
def flowExit (is : List SIns) (fl : Flow) : Option AState :=
  fl.foldl (fun m (w, s) => match sAt is w with
    | some i => if i.op == oRet then some (match m with | none => s | some t => joinState t s) else m
    | none => m) none

/-- Steps of a work list: every register of every word can change three times. -/
def flowFuel (is : List SIns) : Nat := 2000 * (is.length + 1)

/-- The flow of the routine at `e` entered with state `s`; each CALL is analysed for itself, `depth` calls deep (R129). -/
def flowOf (f : Folio) (task : Nat) (is : List SIns) : Nat → Nat → AState → Flow
  | 0, _, _ => []
  | d + 1, e, s =>
    flowGo is (fun i a => if i.op == oCall then flowExit is (flowOf f task is d i.lit a) else some (aStep f task i a).1)
      (flowFuel is) [e] [(e, s)]

/-- The breaches of codes 0x07 to 0x0C along every path from `e`. See log entry 10 (DEDUCED). -/
def flowBreaches (f : Folio) (task : Nat) (is : List SIns) : Nat → Nat → AState → List Breach
  | 0, _, _ => []
  | d + 1, e, s =>
    (flowOf f task is (d + 1) e s).flatMap fun (w, a) =>
      match sAt is w with
      | some i =>
        if i.op == oCall then flowBreaches f task is d i.lit a
        else (aStep f task i a).2.map fun r => (r, w)
      | none => []

/-- The registers where nothing is known of their types and all are defined. -/
def aUnknown : AState := (List.range 256).map fun r => (r, .any)

/-- The breaches of codes 0x08 to 0x0C that a word makes by itself, whether or not control reaches it (R144). -/
def staticBreaches (f : Folio) (task : Nat) (is : List SIns) : List Breach :=
  is.flatMap fun i => (aStep f task i aUnknown).2.map fun r => (r, i.w)

/-! ### FENCE: code 0x0D (R145) -/

/-- A RET is reached from the entry. -/
def returns (is : List SIns) (e : Nat) : Bool :=
  is.any fun i => i.op == oRet && (routine is e).contains i.w

/-- The words after a FENCE_OUT go on: past a CALL that comes back, and from a RET to the word after every CALL of its
routine. -/
def fenceNext (is : List SIns) (rs : Routines) (i : SIns) : List Nat :=
  if i.op == oCall then (if returns is i.lit then i.succs else [])
  else if i.op == oRet then
    is.filterMap fun c => if c.op == oCall && (ownersOf rs i.w).contains c.lit then some (c.w + c.len) else none
  else i.succs

/-- The walk from the words behind the FENCE_OUTs. -/
def fenceGo (is : List SIns) (rs : Routines) : Nat → List Nat → List Nat → List Nat
  | 0, _, seen => seen
  | _ + 1, [], seen => seen
  | k + 1, w :: ws, seen =>
    if seen.contains w then fenceGo is rs k ws seen
    else match sAt is w with
      | some i => fenceGo is rs k (fenceNext is rs i ++ ws) (w :: seen)
      | none => fenceGo is rs k ws seen

/-- The words reachable from a FENCE_OUT, with those of the subroutines called on the way. -/
def fenceReach (is : List SIns) (rs : Routines) : List Nat :=
  let starts := (is.filter (·.op == oFenceOut)).flatMap (·.succs)
  let outer := fenceGo is rs (walkFuel is * (is.length + 1)) starts []
  let called := (callTargets is outer).flatMap fun e => (entriesFrom is e).flatMap (routine is)
  outer ++ called

/-- The task's code contains FENCE_OUT: a fenced task. -/
def codeFenced (is : List SIns) : Bool := is.any (·.op == oFenceOut)

/-- FENCE. -/
def ruleFence (f : Folio) (is : List SIns) (rs : Routines) : List Breach :=
  let ws := fenceReach is rs
  (is.filter fun i => (i.op == 0x14 || i.op == 0x16) && ws.contains i.w &&
    (match f.varAt i.lit with | some v => v.segment == segOut | none => false)).map fun i => (rFence, i.w)

/-! ### The verdict on a task and on a folio (R144) -/

/-- The code of a task. -/
def Folio.codeOf (f : Folio) (r : TaskRec) : List SIns := sDecode 0 ((f.code.drop r.codeOff).take r.codeLen)

/-- The first breach of one task's code: lowest rule code, at its lowest word (R144). See log entry 10 (DEDUCED). -/
def verifyTask (f : Folio) (r : TaskRec) : Option Breach :=
  let is := f.codeOf r
  let rs := routinesOf is
  let structural := ruleOpcode is ++ ruleTarget is rs ++ ruleBackward is ++ ruleLoop is ++ ruleCall is rs ++ rulePath is rs
  match firstBreach structural with
  | some b => some b
  | none => firstBreach (flowBreaches f r.task is 9 0 [] ++ staticBreaches f r.task is ++ ruleFence f is rs)

/-- The refusal of the first task that breaks a rule: task, rule code, word (R144). See log entry 10 (DEDUCED). -/
def verifyFolio (f : Folio) : Option (Nat × Breach) :=
  f.tasks.findSome? fun r => (verifyTask f r).map fun b => (r.task, b)

/-! ### The charge of the costliest path (R527) -/

/-- The charge of an instruction, in ns (R527). -/
def opCharge (op : Nat) : Nat :=
  if (0x13 ≤ op && op ≤ 0x16) || op == 0x22 || op == 0x29 then 4
  else if op == 0x7D || op == 0x7E then 8
  else if op == 0x23 || op == 0x24 || op == 0x2F then 20
  else if 0x70 ≤ op && op ≤ 0x7C then 40
  else 2

/-- The greatest charge that the table lists for the words `ws`; a word outside the region adds nothing. -/
def maxCharge (tab : List (Nat × Nat)) (ws : List Nat) : Nat :=
  ws.foldl (fun m w => max m ((assoc tab w).getD 0)) 0

/-- The charges of the costliest paths from the words `[lo, hi]` of a routine to the region's end: a loop inside the
region is entered at its head, its body is charged bound + 1 times, and control goes on from any of its exits. -/
def regionCharge (is : List SIns) (callCharge : Nat → Nat) : Nat → Nat → Nat → List (Nat × Nat)
  | 0, _, _ => []
  | d + 1, lo, hi =>
    (is.filter fun i => lo ≤ i.w && i.w ≤ hi).reverse.foldl (fun tab i =>
      match (loopsOf is).find? (fun l => l.lit == i.w && l.w ≤ hi && !(i.w == lo && l.w == hi)) with
      | some l =>
        let body := (assoc (regionCharge is callCharge d i.w l.w) i.w).getD 0
        let exits := (is.filter fun j => i.w ≤ j.w && j.w ≤ l.w).flatMap (·.succs)
        (i.w, (l.bound + 1) * body + maxCharge tab (exits.filter (l.w < ·))) :: tab
      | none =>
        let own := opCharge i.op + (if i.op == oCall then callCharge i.lit else 0)
        (i.w, own + maxCharge tab (i.succs.filter (i.w < ·))) :: tab) []

/-- The charge of the costliest path of the routine at `e`, `depth` calls deep. -/
def routineCharge (is : List SIns) : Nat → Nat → Nat
  | 0, _ => 0
  | d + 1, e =>
    let js := is.filter fun i => (routine is e).contains i.w
    let last := js.foldl (fun m i => max m i.w) 0
    (assoc (regionCharge js (routineCharge is d) ((loopsOf js).length + 1) 0 (last + 1)) e).getD 0

/-- X_i: the costliest path from word 0 to END, in ns (R527). See log entry 10 (DEDUCED). -/
def Folio.pathCharge (f : Folio) (r : TaskRec) : Nat := routineCharge (f.codeOf r) 9 0

end Sys2Proof.Machine
end

