-- ==== Sys2Proof/Machine/FolioFormat.lean ====
section
/-! DEFINITION. The folio format (R155 to R170, R528, R530), the staging checks of its content (R172), the admission
arithmetic (R51, R100 to R103, R527), and the carry by identity (R174, R184 to R187). -/

namespace Sys2Proof.Machine

/-! ### Header and section table (R155 to R157) -/

/-- The longest folio, 96 MiB (R155). -/
def folioMax : Nat := 100663296

/-- The signature block (R170). -/
def sigBlockLen : Nat := 3416

/-- One entry of the section table: type, offset, length and CRC (R157). -/
structure SecEntry where
  ty : Nat
  off : Nat
  len : Nat
  crc : Nat
  deriving DecidableEq, Repr

/-- Entry `i` of the section table. -/
def secEntry (bs : List Byte) (i : Nat) : SecEntry :=
  let o := 128 + 16 * i
  ⟨leAt bs o 2, leAt bs (o + 4) 4, leAt bs (o + 8) 4, leAt bs (o + 12) 4⟩

/-- The nine entries. -/
def secTable (bs : List Byte) : List SecEntry := (List.range 9).map (secEntry bs)

/-- Two sections overlap; one of length 0 overlaps another that its offset lies inside (R157).
See log entry 27 (DESIGN CHOICE). -/
def secOverlap (a b : SecEntry) : Bool := decide (a.off < b.off + b.len) && decide (b.off < a.off + a.len)

/-- The number of the first check that does not hold, as the checks name it. -/
def firstFail : List (Bool × Nat) → Option Nat
  | [] => none
  | (ok, n) :: cs => if ok then firstFail cs else some n

/-- The checks of one entry of the section table, with byte offsets (R157). -/
def entryChecks (bs : List Byte) (i : Nat) : List (Bool × Nat) :=
  let o := 128 + 16 * i
  let e := secEntry bs i
  let before := (List.range i).map (secEntry bs)
  [(decide (1 ≤ e.ty) && decide (e.ty ≤ 9) && before.all (·.ty != e.ty), o),
   (leAt bs (o + 2) 2 == 0, o + 2),
   (e.off % 8 == 0 && decide (272 ≤ e.off) && before.all (fun b => !secOverlap b e), o + 4),
   (decide (e.off + e.len ≤ leAt bs 8 4), o + 8)]

/-- The offending byte offset of the header and the section table, in the order of offsets (R155 to R157): the first
byte of the field, and of the run of reserved bytes, that breaks its rule. See log entry 27 (DESIGN CHOICE). -/
def headerBreach (bs : List Byte) : Option Nat :=
  firstFail (
    [(leAt bs 0 4 == 0x4C46594E, 0),
     (leAt bs 4 2 == 1, 4),
     (leAt bs 6 2 == 0x80, 6),
     (leAt bs 8 4 % 8 == 0 && decide (272 ≤ leAt bs 8 4), 8),
     (leAt bs 12 4 == leAt bs 8 4 + sigBlockLen && leAt bs 12 4 == bs.length && decide (bs.length ≤ folioMax), 12),
     (decide (leAt bs 16 4 ≤ 3), 16),
     (decide (50 ≤ byteAt bs 20) && decide (byteAt bs 20 ≤ 85), 20),
     (byteAt bs 21 == 9, 21),
     (decide (byteAt bs 22 ≤ 3), 22),
     (decide (byteAt bs 23 ≤ 63), 23),
     (allZero (slice bs 28 4), 28),
     (allZero (slice bs 56 72), 56)]
    ++ (List.range 9).flatMap (entryChecks bs))

/-- The position, from 1, of the first section whose CRC does not match (R157). -/
def crcBreach (bs : List Byte) : Option Nat :=
  firstFail ((secTable bs).zipIdx.map fun (e, i) => ((crc32c (slice bs e.off e.len)).toNat == e.crc, i + 1))

/-- The position of a section type in the section table, from 1. -/
def secPos (bs : List Byte) (ty : Nat) : Nat := ((secTable bs).findIdx (·.ty == ty)) + 1

/-- The bytes of a section. -/
def secBytes (bs : List Byte) (ty : Nat) : List Byte :=
  match (secTable bs).find? (·.ty == ty) with
  | some e => slice bs e.off e.len
  | none => []

/-- Section types (R157). -/
def secDuctus : Nat := 1
def secCode : Nat := 2
def secLayout : Nat := 3
def secInstances : Nat := 4
def secInit : Nat := 5
def secIomap : Nat := 6
def secTgmap : Nat := 7
def secOutmap : Nat := 8
def secSsmdecl : Nat := 9

/-! ### Records -/

/-- The records of a section that starts with a COUNT: `n` bytes each (R157). -/
def secRecords (n : Nat) (sec : List Byte) : List (List Byte) := chunks n (leAt sec 0 4) (sec.drop 8)

/-- A task record (R158); P or M, φ and D in ns. -/
def parseTask (r : List Byte) : TaskRec :=
  { task := byteAt r 0, event := byteAt r 1 != 0, priority := byteAt r 2, ep := byteAt r 3, limit := byteAt r 4,
    source := byteAt r 5, polarity := byteAt r 6, period := leAt r 8 4 * 1000, phase := leAt r 12 4 * 1000,
    deadline := leAt r 16 4 * 1000, selector := leAt r 20 4, codeOff := leAt r 24 4, codeLen := leAt r 28 4 }

/-- A variable record (R161). -/
def parseVar (r : List Byte) : VarRec :=
  { identity := leAt r 0 4, ty := (tyOfCode (byteAt r 4)).getD .bool, segment := byteAt r 5, task := byteAt r 6,
    array := natBit (byteAt r 7) 0, noCarry := natBit (byteAt r 7) 1, event := natBit (byteAt r 7) 2,
    offset := leAt r 8 4, count := leAt r 12 4, initOff := leAt r 16 4 }

/-- A function-block record (R163). -/
def parseInst (r : List Byte) : InstRec :=
  { identity := leAt r 0 4, block := byteAt r 4, dtype := byteAt r 5, task := byteAt r 6, rebound := natBit (byteAt r 7) 0,
    offset := leAt r 8 4 }

/-- A record of IOMAP (R165). -/
def parseIo (r : List Byte) : IoRec := ⟨leAt r 0 4, byteAt r 4, byteAt r 5⟩

/-- A record of TGMAP (R167). -/
def parseTg (r : List Byte) : TgRec := ⟨leAt r 0 4, leAt r 4 2, byteAt r 6, natBit (byteAt r 7) 0, leAt r 8 2, byteAt r 10⟩

/-- A record of OUTMAP (R168). -/
def parseOut (r : List Byte) : OutRec := ⟨byteAt r 0, byteAt r 1, leAt r 4 4, leAt r 8 4⟩

/-- The 32-bit words of CODE. -/
def parseCode (sec : List Byte) : List Nat := (chunks 4 sec.length sec).map leNat

/-- The folio that the sections declare. -/
def parseFolio (bs : List Byte) : Folio :=
  let layout := secBytes bs secLayout
  { autostart := natBit (byteAt bs 16) 0, narrowRefuse := natBit (byteAt bs 16) 1, loadLimit := byteAt bs 20,
    keySlot := byteAt bs 22, rbIndex := byteAt bs 23, rbValue := leAt bs 24 4, id := slice bs 32 16,
    segSize := (List.range 8).map fun i => leAt layout (8 + 4 * i) 4
    tasks := (secRecords 32 (secBytes bs secDuctus)).map parseTask
    code := parseCode (secBytes bs secCode)
    vars := (chunks 24 (leAt layout 0 4) (layout.drop 48)).map parseVar
    insts := (secRecords 16 (secBytes bs secInstances)).map parseInst
    init := secBytes bs secInit
    io := (secRecords 8 (secBytes bs secIomap)).map parseIo
    tg := (secRecords 16 (secBytes bs secTgmap)).map parseTg
    out := (secRecords 16 (secBytes bs secOutmap)).map parseOut
    ssmDecl := secBytes bs secSsmdecl
    message := bs.take (leAt bs 8 4) }

/-! ### Step 5 of R172: the content of the sections -/

/-- The index of the first record that a check refuses, given the records before it. -/
def firstBad {α : Type} (ok : List α → α → Bool) (before : List α) : List α → Option Nat
  | [] => none
  | r :: rs => if ok before r then firstBad ok (r :: before) rs else some before.length

/-- The range of an instant or span in µs: `lo` to `hi`, a multiple of `m`. -/
def inRange (v lo hi m : Nat) : Bool := decide (lo ≤ v) && decide (v ≤ hi) && v % m == 0

/-- The source and selector of an event task (R87, R158). -/
def sourceOk (r : List Byte) : Bool :=
  let sel := leAt r 20 4
  match byteAt r 5 with
  | 1 => decide (1 ≤ byteAt r 6) && decide (byteAt r 6 ≤ 3) && decide (sel ≤ 255)
  | 2 => byteAt r 6 == 0 && decide (sel ≤ 16383)
  | 3 => byteAt r 6 == 0 && sel == 0
  | 4 => byteAt r 6 == 0
  | 5 => byteAt r 6 == 0
  | _ => false

/-- The region of a task's code overlaps another's (R159). -/
def codeOverlap (a b : List Byte) : Bool :=
  decide (leAt a 24 4 < leAt b 24 4 + leAt b 28 4) && decide (leAt b 24 4 < leAt a 24 4 + leAt a 28 4)

/-- A DUCTUS record meets R71, R87, R158 and R159. -/
def ductusOk (codeWords : Nat) (before : List (List Byte)) (r : List Byte) : Bool :=
  let p := leAt r 8 4
  let phi := leAt r 12 4
  let d := leAt r 16 4
  (match before with | [] => true | b :: _ => decide (byteAt b 0 < byteAt r 0))
    && decide (byteAt r 0 ≤ 63) && byteAt r 1 == bit (decide (32 ≤ byteAt r 0))
    && decide (byteAt r 2 ≤ 31) && decide (byteAt r 3 ≤ 1) && decide (1 ≤ byteAt r 4) && decide (byteAt r 4 ≤ 8)
    && byteAt r 7 == 0
    && (if byteAt r 0 < 32 then
          byteAt r 5 == 0 && byteAt r 6 == 0 && leAt r 20 4 == 0 && inRange p 250 10240000 250
            && decide (phi < p) && phi % 50 == 0
        else sourceOk r && inRange p 50 10240000 50 && phi == 0)
    && inRange d 50 p 50
    && decide (1 ≤ leAt r 28 4) && decide (leAt r 28 4 ≤ 16777216) && decide (leAt r 24 4 + leAt r 28 4 ≤ codeWords)
    && before.all (fun b => !codeOverlap b r)

/-- The values of INIT for a variable lie within INIT, with BOOL as 0x00 or 0x01 (R164). -/
def initOk (init : List Byte) (v : VarRec) : Bool :=
  v.initOff == 0xFFFFFFFF
    || (decide (v.initOff + v.bytes ≤ init.length)
        && (v.ty != .bool || (slice init v.initOff v.bytes).all (fun b => decide (b.toNat ≤ 1))))

/-- Two variables of one segment overlap (R162). -/
def varOverlap (a b : VarRec) : Bool :=
  a.segment == b.segment && decide (a.offset < b.offset + b.bytes) && decide (b.offset < a.offset + a.bytes)

/-- An EVENT variable (R162): a UINT64 array of 2 in IN, owned by an event task, and its only one. -/
def eventVarOk (f : Folio) (before : List VarRec) (v : VarRec) : Bool :=
  v.ty == .uint64 && v.array && v.count == 2 && v.segment == segIn
    && (match f.taskOf v.task with | some r => r.event | none => false)
    && before.all (fun b => !(b.event && b.task == v.task))

/-- A raw variable record meets R161, and the variable it spells R162 and R164. -/
def layoutOk (f : Folio) (before : List (List Byte)) (r : List Byte) : Bool :=
  let v := parseVar r
  (match before with | [] => true | b :: _ => decide (leAt b 0 4 < v.identity))
    && (tyOfCode (byteAt r 4)).isSome && decide (v.segment ≤ 6) && decide (byteAt r 7 ≤ 7) && allZero (slice r 20 4)
    && (if v.segment == segCon then v.task == 0xFF else (f.taskOf v.task).isSome)
    && (v.array || v.count == 1)
    && v.offset % tySize v.ty == 0 && decide (v.offset + v.bytes ≤ f.segBytes v.segment)
    && before.all (fun b => !varOverlap (parseVar b) v)
    && initOk f.init v
    && (!v.event || eventVarOk f (before.map parseVar) v)

/-- The header of LAYOUT (R160). -/
def layoutHeadOk (sec : List Byte) : Bool :=
  allZero (slice sec 4 4) && allZero (slice sec 40 8) && decide (leAt sec 0 4 ≤ 1048576)
    && (List.range 8).all (fun i => leAt sec (8 + 4 * i) 4 % 64 == 0)
    && decide (leAt sec 24 4 ≤ 16777216) && decide (leAt sec 12 4 ≤ 4194304) && decide (leAt sec 16 4 ≤ 4194304)

/-- What R530 reports at a task: an event task without an EVENT variable, a time alarm that names no RET scalar of type
TIME, a watched task that is not declared or is the task itself (R162). -/
def taskLinksOk (f : Folio) (r : TaskRec) : Bool :=
  !r.event ||
    ((f.vars.any fun v => v.event && v.task == r.task)
      && (r.source != 4 || (match f.varOf r.selector with
            | some v => v.segment == segRet && v.ty == .time && !v.array
            | none => false))
      && (r.source != 5 || (r.selector != r.task && (f.taskOf r.selector).isSome)))

/-- The declared type of a record fits its block (R148, R163). -/
def dtypeOk (block dtype : Nat) : Bool :=
  if block == 11 || block == 13 then (match tyOfCode dtype with | some t => tyNum t | none => false)
  else if block == 12 then (match tyOfCode dtype with | some t => tyReal t | none => false)
  else dtype == 0

/-- A record of INSTANCES meets R147 and R163. -/
def instOk (f : Folio) (before : List (List Byte)) (r : List Byte) : Bool :=
  let i := parseInst r
  let z := blockSize i.block
  (match before with | [] => true | b :: _ => decide (leAt b 0 4 < i.identity))
    && decide (1 ≤ i.block) && decide (i.block ≤ 13) && dtypeOk i.block i.dtype && (f.taskOf i.task).isSome
    && decide (byteAt r 7 ≤ 1) && allZero (slice r 12 4)
    && i.offset % 8 == 0 && i.offset / 64 == (i.offset + z - 1) / 64 && decide (i.offset + z ≤ f.segBytes segFbs)
    && before.all (fun b =>
        let j := parseInst b
        !(decide (j.offset < i.offset + z) && decide (i.offset < j.offset + blockSize j.block)))

/-- The variable of a binding kind (R165). -/
def ioVarOk (v : VarRec) (kind : Nat) : Bool :=
  !v.array &&
    (match kind with
     | 1 | 2 | 4 => v.ty == .bool && v.segment == segIn
     | 3 => v.ty == .bool && v.segment == segOut
     | 5 => v.ty == .uint8 && v.segment == segIn
     | _ => false)

/-- A record of IOMAP meets R165. -/
def iomapOk (f : Folio) (before : List (List Byte)) (r : List Byte) : Bool :=
  let x := parseIo r
  (match f.varOf x.var with | some v => ioVarOk v x.kind | none => false)
    && allZero (slice r 6 2)
    && before.all (fun b => (parseIo b).var != x.var && !(x.kind == 3 && (parseIo b).kind == 3 && (parseIo b).channel == x.channel))

/-- Bytes of a dataset that a TGMAP field spans from BYTE_OFF on (R167). -/
def tgSpan (v : VarRec) (bitOff : Nat) : Nat := if v.ty == .bool then (bitOff + v.count + 7) / 8 else v.bytes

/-- A record of TGMAP meets R167. -/
def tgmapOk (f : Folio) (r : List Byte) : Bool :=
  let x := parseTg r
  (match f.varOf x.var with
    | some v =>
      (v.segment == segTgi || v.segment == segTgo)
        && (x.kind == 1 || (x.kind == 2 && v.segment == segTgi && v.ty == .uint8 && !v.array))
        && (if v.ty == .bool && x.kind == 1 then decide (x.bitOff ≤ 7) else x.bitOff == 0)
        && (x.kind == 2 || decide (x.byteOff + tgSpan v x.bitOff ≤ 1432))
    | none => false)
    && decide (x.entry ≤ 16383) && decide (byteAt r 7 ≤ 1) && allZero (slice r 11 5)

/-- A range put into a list sorted by its start. -/
def insertRange (x : Nat × Nat) : List (Nat × Nat) → List (Nat × Nat)
  | [] => [x]
  | y :: ys => if x.1 ≤ y.1 then x :: y :: ys else y :: insertRange x ys

/-- Sorted ranges (start, end) with adjacent ones joined and empty ones dropped. -/
def joinRanges (cur : Option (Nat × Nat)) : List (Nat × Nat) → List (Nat × Nat)
  | [] => cur.toList
  | (a, b) :: rs =>
    if a == b then joinRanges cur rs
    else match cur with
      | none => joinRanges (some (a, b)) rs
      | some (c, d) => if a ≤ d then joinRanges (some (c, max d b)) rs else (c, d) :: joinRanges (some (a, b)) rs

/-- The bytes of the variables that a task owns in a segment, as joined ranges. -/
def Folio.ownRanges (f : Folio) (task seg : Nat) : List (Nat × Nat) :=
  joinRanges none (((f.vars.filter fun v => v.task == task && v.segment == seg).map fun v =>
    (v.offset, v.offset + v.bytes)).foldr insertRange [])

/-- The declared ranges of a task in a segment (R168). -/
def Folio.outRanges (f : Folio) (task seg : Nat) : List (Nat × Nat) :=
  joinRanges none (((f.out.filter fun o => o.task == task && o.seg == seg).map fun o => (o.start, o.start + o.length)).foldr insertRange [])

/-- A record of OUTMAP is in order, does not overlap the one before it, and lies in bytes that its task owns (R168). -/
def outmapOk (f : Folio) (before : List (List Byte)) (r : List Byte) : Bool :=
  let o := parseOut r
  (o.seg == segOut || o.seg == segTgo) && allZero (slice r 2 2) && allZero (slice r 12 4) && (f.taskOf o.task).isSome
    && (match before with
        | [] => true
        | b :: _ =>
          let p := parseOut b
          decide (p.task < o.task) || (p.task == o.task && decide (p.seg < o.seg))
            || (p.task == o.task && p.seg == o.seg && decide (p.start + p.length ≤ o.start) && decide (p.start < o.start)))
    && (f.ownRanges o.task o.seg).any (fun (a, b) => decide (a ≤ o.start) && decide (o.start + o.length ≤ b))

/-- The declared bytes are exactly the owned bytes of every task and segment (R168). -/
def outmapWhole (f : Folio) : Bool :=
  f.tasks.all fun r => f.outRanges r.task segOut == f.ownRanges r.task segOut
    && f.outRanges r.task segTgo == f.ownRanges r.task segTgo

/-- The LENGTH of each section (R528). -/
def lengthOk (ty : Nat) (sec : List Byte) : Bool :=
  let n := leAt sec 0 4
  match ty with
  | 1 => sec.length == 8 + 32 * n
  | 2 => sec.length % 4 == 0
  | 3 => sec.length == 48 + 24 * n
  | 4 => sec.length == 8 + 16 * n
  | 6 => sec.length == 8 + 8 * n
  | 7 => sec.length == 8 + 16 * n
  | 8 => sec.length == 8 + 16 * n
  | 9 => sec.length == 48
  | _ => true

/-- A section that is refused as a whole: its LENGTH (R528) or its head. -/
def headBreach (ty : Nat) (sec : List Byte) (ok : Bool) : Option (Nat × Nat) :=
  if lengthOk ty sec && ok then none else some (ty, 0)

/-- The record of a section that is refused. -/
def recBreach (ty : Nat) (i : Option Nat) : Option (Nat × Nat) := i.map fun k => (ty, k)

/-- The count word and the reserved bytes of a section that starts with a COUNT. -/
def countOk (sec : List Byte) (lo hi : Nat) : Bool := decide (lo ≤ leAt sec 0 4) && decide (leAt sec 0 4 ≤ hi) && allZero (slice sec 4 4)

/-! ### The carry of values (R184 to R187) -/

/-- The classes of R185. -/
inductive CarryClass where
  | same | widening | narrowing | incompatible
  deriving DecidableEq, Repr

/-- Int or TIME. -/
def tyIntTime (t : Ty) : Bool := tyInt t || t == .time

/-- The class of a type pair (R185). -/
def carryClass (src dst : Ty) : CarryClass :=
  if src == dst || (src == .int64 && dst == .time) || (src == .time && dst == .int64) then .same
  else if src == .bool then (if tyIntTime dst then .widening else .incompatible)
  else if tyIntTime src then
    if tyIntTime dst then
      (if tyMin dst ≤ tyMin src && tyMax src ≤ tyMax dst then .widening else .narrowing)
    else if tyReal dst then .widening else .narrowing
  else if tyIntTime dst then .narrowing
  else if src == .real32 && dst == .real64 then .widening
  else if src == .real64 && dst == .real32 then .narrowing
  else .incompatible

/-- The carried value (R185). -/
def carryValue (src dst : Ty) (v : DWord) : DWord :=
  if carryClass src dst == .same then v else aluConv src dst true v

/-- A REAL equals an integer exactly. -/
def fpIsInt (x : Fp) (n : Int) : Bool :=
  match x with
  | .fin neg m e =>
    let a : Int := if neg then -(m : Int) else m
    if 0 ≤ e then decide (a * 2 ^ e.toNat = n) else decide (a = n * 2 ^ (-e).toNat)
  | _ => false

/-- A narrowing conversion changed the value (FOLIO_CARRY_CNT.SATURATED). -/
def carryChanged (src dst : Ty) (v w : DWord) : Bool :=
  if carryClass src dst != .narrowing then false
  else if tyReal src then
    (if tyReal dst then !(fpIsNan (fpReg src v) || realEq src v (aluConv dst src true w)) else !fpIsInt (fpReg src v) (regInt dst w))
  else decide (regInt src v ≠ regInt dst w)

/-- OUT, TGO, RET and WRK: the segments that carry (R184). -/
def segCarried (seg : Nat) : Bool := seg == segOut || seg == segTgo || seg == segRet || seg == segWrk

/-- The variable of the running folio that a variable of the new folio takes its value from (R184, R185). -/
def carrySource (old : Folio) (v : VarRec) : Option VarRec :=
  match old.varOf v.identity with
  | some u =>
    if segCarried v.segment && segCarried u.segment && !v.noCarry && carryClass u.ty v.ty != .incompatible then some u else none
  | none => none

/-- A variable with a narrowing pair under FLAGS.NARROW_REFUSE (R185). -/
def narrowOk (f : Folio) (old : Option Folio) (v : VarRec) : Bool :=
  match f.narrowRefuse, old with
  | true, some o =>
    match carrySource o v with
    | some u => carryClass u.ty v.ty != .narrowing
    | none => true
  | _, _ => true

/-- A safe stop parameter record is valid: every field in its range, the CRC, and TIMEOUT at least twice each sensor's
edge interval at 2 × V_SS (R269, R270). -/
def ssmRecordOk (r : List Byte) : Bool :=
  let within (off n lo hi : Nat) : Bool := decide (lo ≤ leAt r off n) && decide (leAt r off n ≤ hi)
  let slow (off : Nat) : Bool := decide (2000000000 ≤ leAt r 32 2 * (leAt r off 4 * 2 * leAt r 4 4))
  r.length == 48 && leAt r 0 2 == 1 && leAt r 2 2 == 48 && within 4 4 10 5000 && within 8 4 10 10000 && within 12 4 0 20000
    && within 16 4 500 600000 && within 20 4 1000 100000000 && within 24 4 1000 100000000 && within 28 2 10 500
    && within 30 2 0 5000 && within 32 2 10 10000 && within 34 2 5 500 && allZero (slice r 36 8)
    && leAt r 44 4 == (crc32c (r.take 44)).toNat && slow 20 && slow 24

/-- An instance with a narrowing pair under FLAGS.NARROW_REFUSE: the Y of a RAMP (R185, R187). -/
def instNarrowOk (f : Folio) (old : Option Folio) (i : InstRec) : Bool :=
  match f.narrowRefuse, old with
  | true, some o =>
    match o.insts.find? fun j => j.identity == i.identity && j.block == i.block with
    | some j => i.block != 12 || carryClass (instTy j) (instTy i) != .narrowing
    | none => true
  | _, _ => true

/-- Step 5 of R172: the first section, in the order of R158 to R168, and its first record that breaks a rule. Where
only the union of OUTMAP is incomplete the record is 0. See log entry 27 (DEDUCED, DESIGN CHOICE). -/
def contentBreach (bs : List Byte) (old : Option Folio) : Option (Nat × Nat) :=
  let f := parseFolio bs
  let sec := secBytes bs
  let nDuctus := headBreach secDuctus (sec secDuctus) (countOk (sec secDuctus) 1 64)
  let nCode := headBreach secCode (sec secCode) true
  let nLayout := headBreach secLayout (sec secLayout) (layoutHeadOk (sec secLayout))
  let raw := chunks 24 (leAt (sec secLayout) 0 4) ((sec secLayout).drop 48)
  let nInst := headBreach secInstances (sec secInstances) (countOk (sec secInstances) 0 262144)
  let nIo := headBreach secIomap (sec secIomap) (countOk (sec secIomap) 0 0xFFFFFFFF)
  let nTg := headBreach secTgmap (sec secTgmap) (countOk (sec secTgmap) 0 0xFFFFFFFF)
  let nOut := headBreach secOutmap (sec secOutmap) (countOk (sec secOutmap) 0 0xFFFFFFFF)
  nDuctus
    <|> recBreach secDuctus (firstBad (ductusOk f.code.length) [] (secRecords 32 (sec secDuctus)))
    <|> nCode <|> nLayout
    <|> recBreach secLayout (firstBad (layoutOk f) [] raw)
    <|> recBreach secDuctus (firstBad (fun _ r => taskLinksOk f r) [] f.tasks)
    <|> recBreach secLayout (firstBad (fun _ v => narrowOk f old v) [] f.vars)
    <|> nInst <|> recBreach secInstances (firstBad (instOk f) [] (secRecords 16 (sec secInstances)))
    <|> recBreach secInstances (firstBad (fun _ i => instNarrowOk f old i) [] f.insts)
    <|> nIo <|> recBreach secIomap (firstBad (iomapOk f) [] (secRecords 8 (sec secIomap)))
    <|> nTg <|> recBreach secTgmap (firstBad (fun _ r => tgmapOk f r) [] (secRecords 16 (sec secTgmap)))
    <|> nOut <|> recBreach secOutmap (firstBad (outmapOk f) [] (secRecords 16 (sec secOutmap)))
    <|> (if outmapWhole f then none else some (secOutmap, 0))
    <|> headBreach secSsmdecl (sec secSsmdecl) (ssmRecordOk (sec secSsmdecl))

/-! ### Declared lines (R46) and the vote-byte limit (R51) -/

/-- The lines of joined ranges, each once, ascending. `next` is the first line not yet listed. -/
def rangeLines (next : Nat) : List (Nat × Nat) → List Nat
  | [] => []
  | (a, b) :: rs =>
    let lo := max next (a / 64)
    let hi := (b + 63) / 64
    List.range' lo (hi - lo) ++ rangeLines (max next hi) rs

/-- The logical lines of a segment that hold a declared byte of a task (R46). -/
def Folio.declaredLines (f : Folio) (task seg : Nat) : List Nat := rangeLines 0 (f.outRanges task seg)

/-- A byte of a segment is declared by a task (R52). -/
def Folio.declared (f : Folio) (task seg off : Nat) : Bool :=
  f.out.any fun o => o.task == task && o.seg == seg && decide (o.start ≤ off) && decide (off < o.start + o.length)

/-- The declared bytes of a task. -/
def Folio.declaredBytes (f : Folio) (task : Nat) : Nat :=
  ((f.out.filter (·.task == task)).map (·.length)).foldl (· + ·) 0

/-- Two cyclic tasks commit at some common instant: their commit instants agree modulo the gcd of their periods. -/
def commitsMeet (a b : TaskRec) : Bool :=
  let g := Nat.gcd a.period b.period
  (a.phase + a.deadline) % g == (b.phase + b.deadline) % g

/-- The greatest number of declared bytes of cyclic tasks that commit at one instant: tasks that meet pairwise all meet
at one instant (R51). -/
def maxMeet (f : Folio) (chosen : List TaskRec) : List TaskRec → Nat
  | [] => 0
  | t :: ts =>
    let without := maxMeet f chosen ts
    if chosen.all (commitsMeet t) then max without (f.declaredBytes t.task + maxMeet f (t :: chosen) ts) else without

/-- The vote-byte limit of R51: every event task counts at every instant. -/
def voteBytes (f : Folio) : Nat :=
  maxMeet f [] (f.tasks.filter (fun r => !r.event))
    + ((f.tasks.filter (·.event)).map fun r => f.declaredBytes r.task).foldl (· + ·) 0

/-! ### Admission (R100 to R103, R527), in tenths of a nanosecond -/

/-- S_i: bytes of the task's IN and TGI variables (R527). -/
def Folio.snapBytes (f : Folio) (task : Nat) : Nat :=
  ((f.vars.filter fun v => v.task == task && (v.segment == segIn || v.segment == segTgi)).map (·.bytes)).foldl (· + ·) 0

/-- N_i: the OUT and TGO lines of the task (R527). -/
def Folio.outLines (f : Folio) (task : Nat) : Nat :=
  (f.declaredLines task segOut).length + (f.declaredLines task segTgo).length

/-- C_i in tenths of a nanosecond (R527). -/
def Folio.wcet (f : Folio) (r : TaskRec) : Nat :=
  15000 + f.snapBytes r.task + 128000 + 10 * f.pathCharge r + (f.outLines r.task + 1) * 72

/-- T_i in tenths of a nanosecond. -/
def taskT (r : TaskRec) : Nat := r.period * 10

/-- A fraction added to another. -/
def fracAdd (a b : Nat × Nat) : Nat × Nat := (a.1 * b.2 + b.1 * a.2, a.2 * b.2)

/-- C_i ÷ T_i + K_i of one task (R101). -/
def Folio.taskLoad (f : Folio) (r : TaskRec) : Nat × Nat :=
  let c := (f.wcet r, taskT r)
  let k := if r.event then ((f.slices r.task).length * 5000, 1000000000) else (f.slicesPer r * 5000, r.period)
  fracAdd c k

/-- U of an execution pair, as a fraction (R101). -/
def Folio.load (f : Folio) (ep : Nat) : Nat × Nat :=
  (f.tasks.filter (·.ep == ep)).foldl (fun u r => fracAdd u (f.taskLoad r)) (0, 1)

/-- The tasks that can delay task `i` (R102). -/
def Folio.rivals (f : Folio) (i : TaskRec) : List TaskRec :=
  f.tasks.filter fun j => j.task != i.task && j.ep == i.ep && decide (j.priority ≤ i.priority)

/-- The iteration of R102; it stops at a fixed point, or above `limit`. -/
def responseGo (c limit : Nat) (rivals : List (Nat × Nat)) : Nat → Nat → Nat
  | 0, w => w
  | k + 1, w =>
    let w' := rivals.foldl (fun n (cj, tj) => n + ceilDiv w tj * cj) c
    if w' == w || limit < w then w else responseGo c limit rivals k w'

/-- W_i ≤ D_i − 1 µs (R102, R103). -/
def Folio.responseOk (f : Folio) (i : TaskRec) : Bool :=
  let limit := i.deadline * 10 - 10000
  let rs := (f.rivals i).map fun j => (f.wcet j, taskT j)
  decide (responseGo (f.wcet i) limit rs (limit / 100000 + 2) (f.wcet i) ≤ limit)

/-- U in units of 0.1 %, rounded up (LANE_ADMIT). -/
def loadPermille (u : Nat × Nat) : Nat := min (ceilDiv (u.1 * 1000) u.2) 1023

/-- U ≤ L (R103). -/
def loadOk (u : Nat × Nat) (limit : Nat) : Bool := decide (u.1 * 100 ≤ limit * u.2)

/-- The reason of a refused admission (LANE_ADMIT.REASON) with the index of the task's record.
See log entry 27 (DEDUCED). -/
def Folio.admission (f : Folio) : Nat × Nat :=
  if !(loadOk (f.load 0) f.loadLimit && loadOk (f.load 1) f.loadLimit) then (1, 0)
  else match firstBad (fun _ r => f.responseOk r) [] f.tasks with
    | some i => (2, i)
    | none => if 65536 < voteBytes f then (3, 0) else (0, 0)

/-! ### The carry size (R174) -/

/-- k of a segment is the same in two folios (R43, R174). -/
def sameK (f g : Folio) (seg : Nat) : Bool := lineK (f.segBytes seg / 64) == lineK (g.segBytes seg / 64)

/-- A variable is in place (R174). -/
def varInPlace (f : Folio) (old : Option Folio) (v : VarRec) : Bool :=
  match old with
  | none => false
  | some o =>
    match o.varOf v.identity with
    | some u => u.segment == v.segment && u.offset == v.offset && u.ty == v.ty && u.count == v.count && !v.noCarry && sameK f o v.segment
    | none => false

/-- A function-block record is in place (R174). -/
def instInPlace (f : Folio) (old : Option Folio) (i : InstRec) : Bool :=
  match old with
  | none => false
  | some o =>
    match o.insts.find? (·.identity == i.identity) with
    | some j => j.block == i.block && j.dtype == i.dtype && j.offset == i.offset && sameK f o segFbs
    | none => false

/-- B of a folio beside the running one (R174). -/
def carrySize (f : Folio) (old : Option Folio) : Nat :=
  ((f.vars.filter fun v => segCarried v.segment && !varInPlace f old v).map (·.bytes)).foldl (· + ·) 0
    + ((f.insts.filter fun i => !instInPlace f old i).map fun i => blockSize i.block).foldl (· + ·) 0

/-- G_req = max(20 µs, 2 µs + B ÷ 10,000 B/µs), rounded up to 1 ns (R176, R177). -/
def gapReq (b : Nat) : Nat := max 20000 (2000 + xferNs b)

/-! ### Carrying memory at a seam (R184 to R187) -/

/-- One lane's new segment memory in the making: the memory, and the two counts of FOLIO_CARRY_CNT. -/
structure CarryAcc where
  mem : List Host.Cell
  saturated : Nat
  seeded : Nat
  deriving DecidableEq, Repr

/-- Element `i` of a carried variable (R185, R186): converted from the same element of the old one, or initial. -/
def carryElem (l : Lane) (new old : Folio) (oldMem : List Host.Cell) (v u : VarRec) (acc : CarryAcc) (i : Nat) : CarryAcc :=
  if i < u.count then
    let x := rdElem l old oldMem u i
    let y := carryValue u.ty v.ty x
    { acc with
      mem := wrElem l new acc.mem v i y
      saturated := acc.saturated + bit (carryChanged u.ty v.ty x y) }
  else { acc with mem := wrBytes l new acc.mem v.segment (v.offset + i * tySize v.ty) (new.initElem v i) }

/-- One variable of the new folio in lane `l`: carried, or at its initial value (R184). -/
def carryVar (l : Lane) (new : Folio) (old : Option Folio) (oldMem : List Host.Cell) (acc : CarryAcc) (v : VarRec) : CarryAcc :=
  match old with
  | none => { acc with mem := wrVar l new acc.mem v (new.initOf v) }
  | some o =>
    match carrySource o v with
    | none => { acc with mem := wrVar l new acc.mem v (new.initOf v) }
    | some u => (List.range v.count).foldl (carryElem l new o oldMem v u) acc

/-- A record whose DTYPE differs (R187): Q, STATE and CLAMPS are copied for HYST and LIMIT; for RAMP, INIT and LAST, with
Y converted, and an incompatible pair clears INIT. -/
def carryRetyped (i j : InstRec) (r : List Byte) : List Byte :=
  if i.block == 12 then
    let src := instTy j
    let dst := instTy i
    if carryClass src dst == .incompatible then
      splice (splice (newRecord 12) 8 (slice r 8 8)) 1 [r.getD 1 0 &&& 0xFE]
    else
      let y := carryValue src dst (regOfBytes src (slice r 16 (tySize src)))
      splice (splice (splice (newRecord 12) 1 (slice r 1 1)) 8 (slice r 8 8)) 16 (bytesOfReg dst y)
  else r

/-- Carrying the Y of a RAMP changed its value (R185, R187). -/
def rampChanged (old : Option Folio) (l : Lane) (oldMem : List Host.Cell) (i : InstRec) : Bool :=
  match old with
  | some o =>
    match o.insts.find? (fun j => j.identity == i.identity && j.block == i.block) with
    | some j =>
      let y := regOfBytes (instTy j) (slice (rdInst l o oldMem j) 16 (tySize (instTy j)))
      i.block == 12 && carryChanged (instTy j) (instTy i) y (carryValue (instTy j) (instTy i) y)
    | none => false
  | none => false

/-- The blocks that SEED applies to (R150, R187). -/
def seedBlock (block : Nat) : Bool := (3 ≤ block && block ≤ 8)

/-- A record with SEED set (R149). -/
def seedRecord (r : List Byte) : List Byte := splice r 1 [r.getD 1 0 ||| 0x80]

/-- One function-block record of the new folio in lane `l` (R187). -/
def carryInst (l : Lane) (new : Folio) (old : Option Folio) (oldMem : List Host.Cell) (acc : CarryAcc) (i : InstRec) : CarryAcc :=
  let fresh := newRecord i.block
  let r := match old with
    | none => fresh
    | some o =>
      match o.insts.find? (fun j => j.identity == i.identity && j.block == i.block) with
      | some j =>
        let r := rdInst l o oldMem j
        if j.dtype == i.dtype then r else carryRetyped i j r
      | none => fresh
  let seed := old.isSome && i.rebound && seedBlock i.block
  { acc with
    mem := wrInst l new acc.mem i (if seed then seedRecord r else r)
    saturated := acc.saturated + bit (rampChanged old l oldMem i)
    seeded := acc.seeded + bit seed }

/-- The whole segment memory of lane `l` under the new folio (R183, R184 to R187). -/
def carryLane (l : Lane) (new : Folio) (old : Option Folio) (oldMem : List Host.Cell) : CarryAcc :=
  let acc := new.vars.foldl (carryVar l new old oldMem) ⟨[], 0, 0⟩
  new.insts.foldl (carryInst l new old oldMem) acc

end Sys2Proof.Machine
end

