-- ==== Sys2Proof/Machine/Census.lean ====
section
/-! DEFINITION. The census (R56 to R61, R67): slice hashes, rounds and their comparison by the vote, and the two write-1
captures of the vote unit (R70). -/

namespace Sys2Proof.Machine

/-- The round of an event task in a lane. -/
def LaneState.round (x : LaneState) (n : Nat) : Option Round := x.rounds.find? (·.task == n)

/-- Slices of a task in the running folio. -/
def State.sliceCount (s : State) (n : Nat) : Nat :=
  match s.folio.running with
  | some f => (f.slices n).length
  | none => 0

/-- No write to the task's variables can be applied in lane `l` (R57): after an execution finishes and before the next
release, or while IDLE; for an event task while it is not released-but-uncommitted. -/
def State.sliceQuiet (s : State) (l : Lane) (r : TaskRec) : Bool :=
  match s.taskSt l r.task with
  | .idle => true
  | .finished => !r.event
  | _ => false

/-- The census hash record that lane `l` sends for a slice (R59): STAMP is the release instant for a cyclic task and the
second of the round for an event task. -/
def State.censusRecord (s : State) (l : Lane) (f : Folio) (r : TaskRec) (slice : Nat) (abandoned : Bool) : CensusHash :=
  let b := s.book r.task
  let stamp := if r.event then (match (s.lane l).round r.task with | some q => q.stamp | none => 0)
    else b.lastRelease.getD 0
  { lane := l, task := r.task, slice := slice, exec := b.execs % 2 ^ 32, stamp := stamp, abandoned := abandoned,
    round := r.event
    hash := if abandoned then 0 else censusHash l f (s.lane l).mem ((f.slices r.task).getD slice []) }

/-- n_t of a cyclic task of the running folio (R57). -/
def State.slicesPer (s : State) (r : TaskRec) : Nat :=
  match s.folio.running with
  | some f => f.slicesPer r
  | none => 0

/-- Execution pair `ep` of a lane runs no task, so that the census, which runs below every task, can run (R59, R78). -/
def State.pairIdle (s : State) (l : Lane) (ep : Nat) : Bool := (s.readyTasks l ep).isEmpty

/-- Slices of a cyclic task hashed since its last execution (R57). -/
def State.slicesDone (s : State) (l : Lane) (task : Nat) : Nat :=
  match assoc (s.lane l).sliceDone task with
  | some (e, n) => if e == (s.book task).execs then n else 0
  | none => 0

/-- The slice that a lane hashes next for a task: in rotation, n_t slices after each execution of a cyclic task; the
next one of the round of an event task; none when there is nothing left to hash (R57). -/
def State.nextSlice (s : State) (l : Lane) (r : TaskRec) : Option Nat :=
  if r.event then
    match (s.lane l).round r.task with
    | some q => if q.next < s.sliceCount r.task then some q.next else none
    | none => none
  else if (s.book r.task).lastRelease.isSome && decide (s.slicesDone l r.task < s.slicesPer r) then
    some ((assoc (s.lane l).sliceNext r.task).getD 0 % s.sliceCount r.task)
  else none

/-- A slice of a task has been hashed in a lane: the next one follows (R57). -/
def State.passSlice (s : State) (l : Lane) (r : TaskRec) (slice : Nat) : State :=
  let x := s.lane l
  if r.event then
    s.setLane l { x with rounds := x.rounds.map fun q => if q.task == r.task then { q with next := slice + 1 } else q }
  else
    s.setLane l { x with
      sliceNext := cellIns x.sliceNext r.task ((slice + 1) % s.sliceCount r.task)
      sliceDone := cellIns x.sliceDone r.task ((s.book r.task).execs, s.slicesDone l r.task + 1) }

/-- The payload of a CENSUS unit (R59). -/
def censusPayload (h : CensusHash) : List Byte :=
  leBytes 1 h.task ++ leBytes 1 (bit h.abandoned + 2 * bit h.round) ++ leBytes 2 h.slice ++ leBytes 4 h.exec
    ++ leBytes 8 h.hash.toNat ++ leBytes 8 h.stamp

/-- A lane sends the CENSUS unit of a hash, which the vote holds (R59, R60). -/
def State.sendCensus (s : State) (h : CensusHash) : State :=
  (s.sendUnits [.vote] (pdLane h.lane) kindCensus (laneBit h.lane) 0 [censusPayload h]).holdCensus h

/-- CENSUS_SLICE_HASH: a voting lane hashes the slice that is next while no write to the task's variables can be
applied and the task's execution pair runs no task, and sends the CENSUS unit (R57 to R59, R78). Abandoned, at a
release of the task, the slice in progress is sent with hash 0 and stays the next one. See log entry 23 (DESIGN
CHOICE). -/
def execCensusSliceHash (l : Lane) (task slice : Nat) (abandoned : Bool) (t : Nat) (s : State) :
    Host.Outcome State Fault Refusal :=
  let s := s.tick t
  match s.folio.running, s.taskRec task with
  | some f, some r =>
    if !s.isVoting l || s.nextSlice l r != some slice then .next s
    else if abandoned then .next (s.sendCensus (s.censusRecord l f r slice true))
    else if !s.sliceQuiet l r || !s.pairIdle l r.ep then .next s
    else .next ((s.passSlice l r slice).sendCensus (s.censusRecord l f r slice false))
  | _, _ => .next s

/-- The slices that the unfinished round of an event task leaves are counted, and a new round starts (R57). -/
def State.startRound (s : State) (l : Lane) (task t : Nat) : State :=
  let x := s.lane l
  let left := match x.round task with
    | some q => s.sliceCount task - q.next
    | none => 0
  let s := s.fsatAdd (F.LANE_CENSUS_SKIP_SLICES l) left
  s.setLane l { x with rounds := x.rounds.filter (·.task != task) ++ [⟨task, t, 0⟩] }

/-- CENSUS_ROUND_START: at a whole second the event task's round starts in every voting lane; hashes of the round that
ends are no longer awaited (R57, R60). -/
def execCensusRoundStart (task t : Nat) (s : State) : Host.Outcome State Fault Refusal :=
  let s := s.tick t
  match s.taskRec task with
  | some r =>
    if !r.event || t % 1000000000 != 0 then .next s
    else
      let s := s.voters.foldl (fun s l => s.startRound l task t) s
      .next { s with vote := { s.vote with
        census := s.vote.census.filter fun h => !(h.task == task && h.round && h.stamp < t) } }
  | none => .next s

/-- The event counter of CENSUS_LATENT for an odd lane. -/
def latentField : Lane → Field
  | .a => F.CENSUS_LATENT_LANE_A
  | .b => F.CENSUS_LATENT_LANE_B
  | .c => F.CENSUS_LATENT_LANE_C

/-- The first latent divergence after VALID was cleared is captured (R70, CENSUS_CAP). -/
def State.captureCensus (s : State) (odd task slice : Nat) : State :=
  if s.flag F.CENSUS_CAP_VALID then s
  else (((s.fput F.CENSUS_CAP_ODD odd).fput F.CENSUS_CAP_TASK task).fput F.CENSUS_CAP_SLICE slice).fput F.CENSUS_CAP_VALID 1

/-- A latent divergence event for the odd lane: its LATENT flag is set, or with PROBATION set it is excluded at once
with cause TRANSFER (R60, R67). -/
def State.latentEvent (s : State) (l : Lane) (task slice : Nat) : State :=
  let s := (s.fsat (latentField l)).captureCensus (laneBit l) task slice
  if s.flag (F.LANE_STATE_PROBATION l) then s.excludeCheck l .transfer 0
  else s.fput (F.LANE_STATE_LATENT l) 1

/-- A latent divergence event with no majority: no lane is marked (R60). -/
def State.latentNoMajority (s : State) (task slice : Nat) : State :=
  (s.fsat F.CENSUS_LATENT_NO_MAJ).captureCensus 0 task slice

/-- The outcome of a comparison of the voting lanes' hashes (R60). -/
def State.censusOutcome (s : State) (hs : List CensusHash) (task slice : Nat) : State :=
  match hs with
  | [x, y, z] =>
    if x.hash == y.hash && y.hash == z.hash then s
    else if x.hash == y.hash then s.latentEvent z.lane task slice
    else if x.hash == z.hash then s.latentEvent y.lane task slice
    else if y.hash == z.hash then s.latentEvent x.lane task slice
    else s.latentNoMajority task slice
  | [x, y] => if x.hash == y.hash then s else s.latentNoMajority task slice
  | _ => s

/-- Every slice of every task of the running folio is in `seen`. -/
def State.passComplete (s : State) (seen : List (Nat × Nat)) : Bool :=
  match s.folio.running with
  | none => false
  | some f => f.tasks.all fun r => (List.range (f.slices r.task).length).all fun i => seen.contains (r.task, i)

/-- A slice joins the passes in progress: the module's, which counts in CENSUS_PASSES when it is full, and that of each
lane with PROBATION set, which clears PROBATION (R62, CENSUS_PASSES). -/
def State.censusSeen (s : State) (task slice : Nat) : State :=
  let seen := s.vote.censusSeen.filter (· != (task, slice)) ++ [(task, slice)]
  let s := if s.passComplete seen then
      ({ s with vote := { s.vote with censusSeen := [] } }).finc F.CENSUS_PASSES_COUNT
    else { s with vote := { s.vote with censusSeen := seen } }
  s.voters.foldl (fun s l =>
    if !s.flag (F.LANE_STATE_PROBATION l) then s else
    let x := s.lane l
    let mine := x.censusSeen.filter (· != (task, slice)) ++ [(task, slice)]
    if s.passComplete mine then
      (s.setLane l { x with censusSeen := [] }).fput (F.LANE_STATE_PROBATION l) 0
    else s.setLane l { x with censusSeen := mine }) s

/-- The hashes of a task that a commit of its finds are no longer awaited: those of an execution before the one that the
commit ends (R60). See log entry 75 (DEDUCED). -/
def State.dropCensus (s : State) (task : Nat) : State :=
  let now := (s.book task).execs % 2 ^ 32
  { s with vote := { s.vote with census := s.vote.census.filter fun h => h.task != task || h.exec == now } }

/-- CENSUS_COMPARE: the hashes of one slice with the same EXEC and STAMP from all voting lanes are compared; a missing
or abandoned hash makes the comparison ignored (R60). -/
def execCensusCompare (task slice exec stamp t : Nat) (s : State) : Host.Outcome State Fault Refusal :=
  let s := s.tick t
  let mine (h : CensusHash) : Bool := h.task == task && h.slice == slice && h.exec == exec && h.stamp == stamp
  let hs := s.voters.filterMap fun l => s.vote.census.find? fun h => h.lane == l && mine h
  let n := s.voters.length
  let s := { s with vote := { s.vote with census := s.vote.census.filter (fun h => !mine h) } }
  if hs.length != n || n < 2 || hs.any (·.abandoned) then .next s
  else .next ((s.censusOutcome hs task slice).censusSeen task slice)

/-- VOTE_DIS_CAP_CLEAR: a write of 1 to VALID clears the disagreement capture and re-arms it (R70). -/
def execVoteDisCapClear (s : State) : Host.Outcome State Fault Refusal := .next (s.clearField F.VOTE_DIS_CAP_VALID)

/-- CENSUS_CAP_CLEAR: a write of 1 to VALID clears the census capture and re-arms it (R70). -/
def execCensusCapClear (s : State) : Host.Outcome State Fault Refusal := .next (s.clearField F.CENSUS_CAP_VALID)

end Sys2Proof.Machine
end

