-- ==== Sys2Proof/Machine/Datasets.lean ====
section
/-! DEFINITION. Subscribed datasets on their way into the lanes (R305, R306, R314 to R318): the fields of a table record, the
TGI_SET object, and the lanes' staging buffers. -/

namespace Sys2Proof.Machine

/-! ### Records (R305 to R307) -/

def teIndex (r : List Byte) : Nat := leAt r 0 2
def teKind (r : List Byte) : Nat := byteAt r 2
def teFlag (r : List Byte) (i : Nat) : Bool := natBit (byteAt r 3) i
def tePcp (r : List Byte) : Nat := byteAt r 5
def teVid (r : List Byte) : Nat := leAt r 6 2
def teDstIp (r : List Byte) : List Byte := slice r 8 4
def tePort (r : List Byte) : Nat := leAt r 12 2
def teLen (r : List Byte) : Nat := leAt r 14 2
def teOff (r : List Byte) : Nat := leAt r 16 2
def teTimeout (r : List Byte) : Nat := byteAt r 24
def teSource (r : List Byte) : Nat := leAt r 26 2
/-- PERIOD_US and PHASE_US in ns. -/
def tePeriod (r : List Byte) : Nat := leAt r 28 4 * 1000
def tePhase (r : List Byte) : Nat := leAt r 32 4 * 1000
def teDstMac (r : List Byte) : List Byte := slice r 36 6
def teSrcIp (r : List Byte) : List Byte := slice r 44 4
def teKey (r : List Byte) : List Byte := slice r 48 8

/-- Kinds of a record (R303, R307). -/
def tkSub : Nat := 1
def tkPub : Nat := 2
def tkInt : Nat := 3
def tkProfile : Nat := 4
def tkTopology : Nat := 5

/-- The template of a publication, and the substitute or stop dataset (R306). -/
def teTemplate (r : List Byte) : List Byte := if teKind r == tkPub then slice r 64 (teOff r) else []
def teDataset (r : List Byte) : List Byte := slice r (64 + (teTemplate r).length) (teLen r)

/-- Length of the record that its header gives (R306). -/
def teSize (r : List Byte) : Nat := if teKind r == tkPub then 64 + teOff r + teLen r else 64 + teLen r

/-- The entry of an index. -/
def tgeFind (es : List TgeEntry) (i : Nat) : Option TgeEntry := es.find? (·.index == i)

/-! ### The delivery and its object (R314, R315, R317, R318) -/

/-- The status byte of a subscription (R317). -/
def TgeEntry.status (e : TgeEntry) : Nat :=
  (match e.st with
    | 0 => 0x0C
    | 1 => 0x01
    | 2 => 0x02
    | _ => 0x04) + (if e.topoRej then 0x10 else 0)

/-- The dataset that a subscription shows: the substitute in NEVER and SUBSTITUTED, else the last accepted one (R318). -/
def TgeEntry.shown (e : TgeEntry) : List Byte := if e.st == 0 || e.st == 3 then teDataset e.rec_ else e.data

/-- A delivery that starts at `d`, the entry's delivery number `n` (R314, R315): valid from the first grid instant at
or after d + 10 µs; in FRESH without ARRIVAL, and in STALE, it is status only. See log entry 46 (DEDUCED). -/
def TgeEntry.delivery (e : TgeEntry) (d : Nat) (arrival : Bool) (n : Nat) : TgeDelivery :=
  ⟨e.status, arrival || e.st == 0 || e.st == 3, e.shown, n, arrival, gridUp (d + 10000)⟩

/-- Deliveries of an entry index since SYSTEM reset (R315). -/
def TgeState.count (x : TgeState) (entry : Nat) : Nat := (assoc x.counts entry).getD 0

/-- Bytes 0 to 15 of the TGI_SET object of a delivery (R315), which are also the header of a telegram unit (R378). -/
def tgiHead (entry : Nat) (d : TgeDelivery) : List Byte :=
  leBytes 2 entry ++ leBytes 1 d.status ++ leBytes 1 (bit d.hasData + 2 * bit d.arrival) ++ leBytes 4 d.count ++ leBytes 8 d.validFrom

/-- The TGI_SET object of a delivery: its header, the dataset when DATA is set, the CRC-32C over both, and padding
(R315). -/
def tgiObject (entry : Nat) (d : TgeDelivery) : List Byte :=
  let b := tgiHead entry d ++ (if d.hasData then d.data else [])
  pad8 (b ++ leBytes 4 (crc32c b).toNat)

/-! ### The lanes' staging buffers (R314, R316) -/

/-- A delivery into the staging buffers: the newest first, one per valid-from instant, two kept (R316). One without a
dataset leaves the dataset that the lane holds. See log entry 46 (DEDUCED). -/
def stage (bufs : List TgeDelivery) (d : TgeDelivery) : List TgeDelivery :=
  match bufs with
  | [] => [d]
  | x :: xs =>
    let d := if d.hasData then d else { d with data := x.data }
    if x.validFrom == d.validFrom then (d :: xs).take 2 else (d :: x :: xs).take 2

/-- A lane stages a delivery of an entry. -/
def LaneState.stageTgi (x : LaneState) (entry : Nat) (d : TgeDelivery) : LaneState :=
  { x with staged := cellIns x.staged entry (stage ((assoc x.staged entry).getD []) d) }

/-- The delivery that a lane takes at a release at `r`: the most recent one whose VALID_FROM is at or before it (R316). -/
def LaneState.tgiAt (x : LaneState) (entry r : Nat) : Option TgeDelivery :=
  ((assoc x.staged entry).getD []).find? fun d => decide (d.validFrom ≤ r)

/-- The lanes that take deliveries: those in VOTING, READY or TRANSFER (R314). -/
def State.tgiLanes (s : State) : List Lane :=
  allLanes.filter fun l => s.isVoting l || s.laneSt l == .ready || s.laneSt l == .transfer

/-- A lane's own copy of a delivery: a TGI_SET object on the fabric, and the lane's staging buffer (R314 to R316).
See log entry 71 (DESIGN CHOICE). -/
def State.sendTgi (s : State) (entry : Nat) (d : TgeDelivery) (l : Lane) : State :=
  let b := tgiObject entry d
  let s := s.sendUnits [laneBlock l] pdFab kindTgiSet (laneBit l) 0 (chunks 256 (ceilDiv b.length 256) b)
  s.setLane l ((s.lane l).stageTgi entry d)

/-- A lane that enters READY receives the current dataset and status of every subscription at once (R314). -/
def State.tgiReady (s : State) (l : Lane) : State :=
  let s := s.setLane l { s.lane l with staged := [] }
  s.tge.entries.foldl (fun (s : State) e =>
    match e.cur with
    | some d => if teKind e.rec_ == tkPub then s else s.sendTgi e.index { d with hasData := true, arrival := false } l
    | none => s) s

/-- No lane holds a delivery of an entry whose index a change frees or takes (R310). -/
def State.unstage (s : State) (entry : Nat) : State :=
  allLanes.foldl (fun (s : State) l => s.setLane l { s.lane l with staged := cellDel (s.lane l).staged entry }) s

/-- What a lane makes of a TGI_SET object: none where its CRC is wrong (R316); else the delivery, if the table holds the
entry. -/
def State.tgiOf (s : State) (b : List Byte) : Option (Option (Nat × TgeDelivery)) :=
  match tgeFind s.tge.entries (leAt b 0 2) with
  | none => some none
  | some e =>
    let n := if natBit (byteAt b 3) 0 then teLen e.rec_ else 0
    if leAt b (16 + n) 4 != (crc32c (b.take (16 + n))).toNat || b.length < 20 + n then none
    else some (some (e.index, ⟨byteAt b 2, natBit (byteAt b 3) 0, slice b 16 n, leAt b 4 4, natBit (byteAt b 3) 1, leAt b 8 8⟩))

end Sys2Proof.Machine
end

