-- ==== Sys2Proof/Machine/Lockstep.lean ====
section
/-! DEFINITION. Lockstep execution pairs: window signatures (R28 to R31), the comparator and egress gating (R32 to
R37), the comparator proof (R38, R39) and the attribution of faults (R40 to R42). -/

namespace Sys2Proof.Machine

/-- The type word of a store (R30). -/
def typeStore (size : Nat) (attr : Byte) : DWord :=
  BitVec.ofNat 64 (0x01 + (size % 256) * 0x100 + attr.toNat * 0x10000)

/-- The type word of a taken branch (R30). -/
def typeBranch : DWord := 0x02

/-- The type word of a window close (R30). -/
def typeClose (window : Nat) : DWord := BitVec.ofNat 64 (0x03 + (window % 2 ^ 32) * 2 ^ 32)

/-- The words of taken branches, in program order: type word, then target (R29). -/
def branchWords (targets : List DWord) : List DWord := (targets.map fun t => [typeBranch, t]).flatten

/-- The data words of a store: eight for a 64-byte block store; otherwise one, zero-extended from the store's size
(R29). -/
def storeData (size : Nat) (data : List DWord) : List DWord :=
  if size == 64 then (data ++ List.replicate 8 0).take 8
  else [BitVec.ofNat 64 ((data.headD 0).toNat % 2 ^ (8 * min size 8))]

/-- The words of a retired store, in order (R29). -/
def storeWords (addr : DWord) (size : Nat) (attr : Byte) (data : List DWord) : List DWord :=
  addr :: storeData size data ++ [typeStore size attr]

/-- The egress buffer holds 64 entries (R35). -/
def egressMax : Nat := 64

/-- A window takes 32 stores and then closes (R31). -/
def windowStores : Nat := 32

/-- The egress of lane `l` is open: it is on its way to the vote or voting (R62). -/
def State.egressOpen (s : State) (l : Lane) : Bool := s.excludable l

/-- The cores of lane `l` run: its domain is on, and it is not halted in FAILED (R54, R62). -/
def State.coresRun (s : State) (l : Lane) : Bool := s.powered (pdLane l) && s.laneSt l != .failed

/-- Core `x` has retired at least as much as core `y`. -/
def CoreState.caughtUp (x y : CoreState) : Bool :=
  decide (y.window < x.window) || (x.window == y.window && decide (y.stores ≤ x.stores))

/-- A store of core `c` retires now: its window takes another store (R31), the main core finds a free egress entry, and
the checker has not reached the point at which the main core stalls (R35). -/
def Pair.retires (p : Pair) (c : Core) (isOpen : Bool) : Bool :=
  decide ((p.core c).stores < windowStores) &&
    match c with
    | .main => !isOpen || decide (p.egress.length < egressMax)
    | .checker => !(p.stalled && p.checker.caughtUp p.main)

/-- The stall counter of an execution pair. -/
def stallField (l : Lane) : Ep → Field
  | .ep0 => F.LANE_EP0_STALL_CYCLES l
  | .ep1 => F.LANE_EP1_STALL_CYCLES l

/-- The passed-proof counter of an execution pair. -/
def passField (l : Lane) : Ep → Field
  | .ep0 => F.LANE_PROOF_EP0_PASS l
  | .ep1 => F.LANE_PROOF_EP1_PASS l

/-- The missed-proof counter of an execution pair. -/
def missField (l : Lane) : Ep → Field
  | .ep0 => F.LANE_EP0_FAULTS_PROOF_MISS l
  | .ep1 => F.LANE_EP1_FAULTS_PROOF_MISS l

/-- The signature-mismatch counter of an execution pair for a cause. -/
def sigField (l : Lane) (e : Ep) (c : LaneCause) : Field :=
  match e, c with
  | .ep0, .sigMain => F.LANE_EP0_FAULTS_SIG_MAIN l
  | .ep0, .sigChecker => F.LANE_EP0_FAULTS_SIG_CHK l
  | .ep0, _ => F.LANE_EP0_FAULTS_SIG_UNRES l
  | .ep1, .sigMain => F.LANE_EP1_FAULTS_SIG_MAIN l
  | .ep1, .sigChecker => F.LANE_EP1_FAULTS_SIG_CHK l
  | .ep1, _ => F.LANE_EP1_FAULTS_SIG_UNRES l

/-- `s` with execution pair `e` of lane `l` replaced. -/
def State.setPair (s : State) (l : Lane) (e : Ep) (p : Pair) : State := s.setLane l ((s.lane l).setPair e p)

/-- STORE_RETIRE: the core feeds its signature with the words of the branches taken since the last event and of the
store (R29); the main core allocates an egress entry where the lane's egress is open, and with none free it stalls,
which counts one stall cycle and retires nothing; the checker stalls at the same point (R33, R35, R62). The 33rd store
of a window waits for its close (R31). Cores that do not run retire nothing. See log entry 21 (DESIGN CHOICE). -/
def execStoreRetire (l : Lane) (e : Ep) (c : Core) (branches : List DWord) (addr : DWord) (size : Nat) (attr : Byte)
    (data : List DWord) (s : State) : Host.Outcome State Fault Refusal :=
  if !s.coresRun l then .next s else
  let p := (s.lane l).pair e
  if p.retires c (s.egressOpen l) then
    let x := p.core c
    let x := { x with sig := sigFeed x.sig (branchWords branches ++ storeWords addr size attr data), stores := x.stores + 1 }
    let p := p.setCore c x
    let p := if c == .main && s.egressOpen l then { p with egress := p.egress ++ [⟨x.window, addr, storeData size data⟩] } else p
    .next (s.setPair l e p)
  else if c == .main && decide (p.main.stores < windowStores) then
    .next ((s.setPair l e { p with stalled := true }).fsat (stallField l e))
  else .next s

/-- WINDOW_CLOSE: the core feeds the window-close word, its signature waits for the comparator, and the next window
opens (R28, R29, R31). With a proof armed, the first window that the main core closes is the proof's (R38).
See log entry 21 (DESIGN CHOICE). -/
def execWindowClose (l : Lane) (e : Ep) (c : Core) (branches : List DWord) (s : State) : Host.Outcome State Fault Refusal :=
  if !s.coresRun l then .next s else
  let p := (s.lane l).pair e
  let x := p.core c
  let sig := sigFeed x.sig (branchWords branches ++ [typeClose x.window])
  let p := if c == .main && p.armed && p.proofWindow.isNone then { p with proofWindow := some x.window } else p
  let x := { sig := sigInit, window := x.window + 1, stores := 0, closed := x.closed ++ [(x.window, sig)] }
  .next (s.setPair l e (p.setCore c x))

/-- The comparator's two rails for a comparison, with a fault of the comparator that flips rails (R37): 0b01 match,
0b10 mismatch. -/
def rails (same : Bool) (fault : BitVec 2) : BitVec 2 := (if same then 1 else 2) ^^^ fault

/-- The cause of a mismatch from the local indications of the two cores (R40). -/
def mismatchCause (mainLocal checkerLocal : Bool) : LaneCause :=
  match mainLocal, checkerLocal with
  | true, false => .sigMain
  | false, true => .sigChecker
  | _, _ => .sigUnresolved

/-- COMPARATOR_RESULT: the oldest window that both cores have closed is compared. A match releases the egress entries
whose youngest window it or an older one is, in order (R33); a mismatch discards the entries of that window and later
ones and is a lane fault (R36, R40); an invalid code is a lane fault with cause COMPARATOR (R37). The signatures of the
proof's window are kept for the second step of the proof (R38). -/
def execComparatorResult (l : Lane) (e : Ep) (fault : BitVec 2) (mainLocal checkerLocal : Bool) (t : Nat) (s : State) :
    Host.Outcome State Fault Refusal :=
  let s := s.tick t
  let p := (s.lane l).pair e
  match p.main.closed, p.checker.closed with
  | (w, m) :: ms, (_, k) :: ks =>
    let p := { p with
      main := { p.main with closed := ms }, checker := { p.checker with closed := ks }
      proofSigs := if p.proofWindow == some w then some (m, k) else p.proofSigs }
    let r := rails (m == k) fault
    if r == 1 then
      let out := p.egress.takeWhile (fun x => decide (x.window ≤ w))
      let p := { p with egress := p.egress.drop out.length, released := p.released + out.length, stalled := p.stalled && out.isEmpty }
      .next (s.setPair l e p)
    else
      let p := { p with egress := p.egress.filter (fun x => decide (x.window < w)), stalled := false }
      let s := s.setPair l e p
      if r == 2 then
        let c := mismatchCause mainLocal checkerLocal
        .next ((s.fsat (sigField l e c)).laneFault l c)
      else .next (s.laneFault l .comparator)
  | _, _ => .next s

/-- 12,500,000 core cycles, 10 ms (R38). -/
def proofNs : Nat := 10000000

/-- PROOF_DUE: the proof count of an execution pair expires, 10 ms after the last expiry or the start of the cores, and
arms a comparator proof (R38). -/
def execProofDue (l : Lane) (e : Ep) (s : State) : Host.Outcome State Fault Refusal :=
  let p := (s.lane l).pair e
  if s.coresRun l && decide (p.dueAt + proofNs ≤ s.mono) then
    .next (s.setPair l e { p with armed := true, dueAt := p.dueAt + proofNs, proofWindow := none, proofSigs := none })
  else .next s

/-- Proof pattern n (R38). -/
def proofPattern (n : Nat) : DWord :=
  if n < 64 then BitVec.ofNat 64 (2 ^ n) else ~~~(BitVec.ofNat 64 (2 ^ (n - 64)))

/-- COMPARATOR_PROOF: once the true signatures of the proof's window have been compared (COMPARATOR_RESULT), they are
compared again, the checker's XORed with pattern n; the comparator must report mismatch (R38), or the lane has a fault
with cause PROOF (R39). n advances after each proof. -/
def execComparatorProof (l : Lane) (e : Ep) (fault : BitVec 2) (t : Nat) (s : State) : Host.Outcome State Fault Refusal :=
  let s := s.tick t
  let p := (s.lane l).pair e
  match p.armed, p.proofSigs with
  | true, some (m, k) =>
    let r := rails (m == k ^^^ proofPattern p.proofN) fault
    let s := s.setPair l e { p with
      armed := false, proofWindow := none, proofSigs := none, proofN := (p.proofN + 1) % 128, proofAt := s.mono }
    if r == 2 then .next (s.finc (passField l e))
    else .next ((s.fsat (missField l e)).laneFault l .proof)
  | _, _ => .next s

/-- PROOF_TIMEOUT: no proof within 11 ms of the previous one is a lane fault with cause PROOF (R39). -/
def execProofTimeout (l : Lane) (e : Ep) (t : Nat) (s : State) : Host.Outcome State Fault Refusal :=
  let s := s.tick t
  if ((s.lane l).pair e).proofAt + 11000000 ≤ s.mono && s.excludable l then
    .next ((s.fsat (missField l e)).laneFault l .proof)
  else .next s

/-- ECC_ERROR_UNCORRECTABLE: a lane fault with cause ECC (R42). See log entry 19 (DESIGN CHOICE). -/
def execEccErrorUncorrectable (l : Lane) (t : Nat) (s : State) : Host.Outcome State Fault Refusal :=
  .next ((s.tick t).laneFault l .ecc)

/-- LANE_FAULT: a lane signals a fault to the vote, which excludes it at once (R41, R53, R54).
See log entry 69 (DEDUCED). -/
def execLaneFault (l : Lane) (cause : LaneCause) (t : Nat) (s : State) : Host.Outcome State Fault Refusal :=
  .next ((s.tick t).laneFault l cause)

end Sys2Proof.Machine
end

