-- ==== Sys2Proof/Machine/Lanes.lean ====
section
/-! DEFINITION. Lane states and re-integration (R62 to R69): exclusion to power cycle, boot, translation, pre-copy, the
transfer seam, and the 24-hour limit. -/

namespace Sys2Proof.Machine

/-- 24 h of local monotonic time (R68). -/
def dayNs : Nat := 86400000000000

/-- Attempts of lane `l` within the past 24 h (R68). -/
def State.recentAttempts (s : State) (l : Lane) : List Nat :=
  (s.lane l).attempts.filter fun a => decide (s.mono < a + dayNs)

/-- The re-integration limit permits an attempt (R68). -/
def State.reintPermitted (s : State) (l : Lane) : Bool := decide ((s.recentAttempts l).length < 3)

/-- REINT_24H follows the attempts within the past 24 h, saturating at 15. -/
def State.showAttempts (s : State) (l : Lane) : State :=
  s.fputSat (F.LANE_STATE_REINT_24H l) (s.recentAttempts l).length

/-- The lane loses what its domain held: pairs, memory and executions. -/
def laneOffState (x : LaneState) (now : Nat) : LaneState :=
  { x with
    ep0 := pairReset, ep1 := pairReset, mem := [], execs := [], runs := [], sliceNext := [], sliceDone := [], rounds := [], offAt := now
    copying := [], rewritten := [], halted := false, stop := stopReset, barred := false }

/-- A lane's domain is switched off: what it held is lost, and its stop supervisor with its state (R62, R264). -/
def State.laneOff (s : State) (l : Lane) : State :=
  ((s.setLane l (laneOffState (s.lane l) s.mono)).setReg (R.LANE_STOP l) 0).setPower (pdLane l) false

/-- A lane enters POWER_CYCLE: an attempt counts, and its domain is switched off (R62, R68). -/
def State.enterPowerCycle (s : State) (l : Lane) : State :=
  let s := s.laneOff l
  let s := s.setLane l { s.lane l with attempts := (s.lane l).attempts ++ [s.mono] }
  let s := (s.showAttempts l).fsat (F.LANE_REINT_ATTEMPTS l)
  (s.fput (F.LANE_STATE_LIMIT l) 0).setLaneSt l .powerCycle

/-- LANE_EXCLUDED_TIMEOUT: 1 ms after its exclusion a lane enters POWER_CYCLE if the limit permits, otherwise OUT_LIMIT,
its domain off (R62, R68). -/
def execLaneExcludedTimeout (l : Lane) (t : Nat) (s : State) : Host.Outcome State Fault Refusal :=
  let s := s.tick t
  if s.laneSt l != .excluded || s.mono < (s.lane l).exclAt + 1000000 then .next s
  else if s.reintPermitted l then .next (s.enterPowerCycle l)
  else .next (((s.laneOff l).fput (F.LANE_STATE_LIMIT l) 1).setLaneSt l .outLimit)

/-- A millisecond has passed since a domain came on: the reset controller switches on at most one in each (R488). -/
def State.maySwitch (s : State) : Bool := decide (s.power.lastOn + 1000000 ≤ s.mono)

/-- A lane's domain comes on and the lane is BOOTING; its stop supervisor measures from now on (R62, R254, R264). -/
def State.bootLane (s : State) (l : Lane) : State :=
  let s := (s.setPower (pdLane l) true).setLaneSt l .booting
  let s := { s with power := { s.power with lastOn := s.mono } }
  s.setLane l { s.lane l with stop := { stopReset with since := s.mono } }

/-- LANE_POWER_CYCLE_DONE: the domain has been off for 10 ms and is back on, a millisecond after any other (R62, R488). -/
def execLanePowerCycleDone (l : Lane) (t : Nat) (s : State) : Host.Outcome State Fault Refusal :=
  let s := s.tick t
  if s.laneSt l == .powerCycle && decide ((s.lane l).offAt + 10000000 ≤ s.mono) && s.maySwitch then .next (s.bootLane l) else .next s

/-- LANE_BOOT_COMPLETE: the start checks pass and the lane translates, or fail and it is excluded with cause
START_CHECK (R62). The proof interval of its pairs starts (DESIGN CHOICE, log entry 3). See log entry 69 (DEDUCED). -/
def execLaneBootComplete (l : Lane) (ok : Bool) (t : Nat) (s : State) : Host.Outcome State Fault Refusal :=
  let s := s.tick t
  if s.laneSt l != .booting then .next s
  else if ok then
    let x := s.lane l
    let p := { pairReset with proofAt := s.mono, dueAt := s.mono }
    .next (((s.setLane l { x with ep0 := p, ep1 := p }).report (pdLane l)).setLaneSt l .translating)
  else .next (s.excludeCheck l .startCheck 0)

/-- The registers LANE_XLAT_HASH show a hash. See log entry 31 (DEDUCED). -/
def State.showHash (s : State) (l : Lane) (h : DWord) : State :=
  (s.fput (F.LANE_XLAT_HASH_LO_HASH l) (h.toNat % 2 ^ 32)).fput (F.LANE_XLAT_HASH_HI_HASH l) (h.toNat / 2 ^ 32)

/-- The source of a transfer: the first voting lane (R64). -/
def State.xferSource (s : State) : Option Lane := s.voters.head?

/-- The segments that a transfer covers (R64). -/
def xferSegs : List Nat := [segOut, segTgo, segRet, segWrk, segFbs]

/-- The lines that a transfer covers: segment and logical line (R64). -/
def Folio.xferLines (f : Folio) : List (Nat × Nat) :=
  (xferSegs.map fun g => (List.range (f.segBytes g / 64)).map fun n => (g, n)).flatten

/-- The lines that the first pre-copy pass of a READY lane copies: all that the transfer covers, once the vote has a
source for them (R63, R64). -/
def State.firstPass (s : State) : List (Nat × Nat) :=
  match s.folio.running, s.xferSource with
  | some f, some _ => f.xferLines
  | _, _ => []

/-- A lane becomes READY: pre-copy starts, and the 10 s of R65; it receives every subscription (R314). -/
def State.laneReady (s : State) (l : Lane) : State :=
  let x := s.lane l
  let ls := s.firstPass
  ((s.setLane l { x with readyAt := s.now, passes := 0, copying := ls, rewritten := [] }).setLaneSt l .ready).tgiReady l

/-- Lines of a segment copied from lane `src`, in logical form, into the memory of another lane, which stores them in
its own layout (R64). -/
def copyLines (src l : Lane) (f : Folio) (from_ m : List Host.Cell) (xs : List (Nat × Nat)) : List Host.Cell :=
  xs.foldl (fun m x => wrBytes l f m x.1 (64 * x.2) (rdBytes src f from_ x.1 (64 * x.2) 64)) m

/-- The source sends lines to a lane as STATE_XFER units, one line each (R13, R64). See log entry 71 (DESIGN CHOICE). -/
def State.sendXfer (s : State) (src l : Lane) (f : Folio) (xs : List (Nat × Nat)) : State :=
  s.sendUnits [laneBlock l] (pdLane src) kindStateXfer (laneBit src + laneBit l) 0
    (xs.map fun x => rdBytes src f (s.lane src).mem x.1 (64 * x.2) 64)

/-- The version of the lane firmware that lane `l` runs, as measured (R455). -/
def State.laneFirmware (s : State) (l : Lane) : Nat :=
  match s.vellum.measures.find? fun m => m.part == 2 && m.inst == l.idx with
  | some m => m.version
  | none => 0

/-- The hash of lane `l`'s native image of a folio: by the folio, the lane and its firmware alone (R173).
See log entry 11 (DESIGN CHOICE). -/
def State.imageHash (s : State) (f : Folio) (l : Lane) : DWord := Config.imageHash f.message l.idx (s.laneFirmware l)

/-- The memory of a lane after the source has sent it lines (R64). -/
def State.receiveXfer (s : State) (src l : Lane) (f : Folio) (xs : List (Nat × Nat)) : State :=
  let s := s.sendXfer src l f xs
  s.setLane l { s.lane l with mem := copyLines src l f (s.lane src).mem (s.lane l).mem xs }

/-- PRECOPY_PASS_COMPLETE: a pass of the pre-copy has sent its lines, which the lane has written; the next pass copies the
lines that the source has written meanwhile, which are the dirty remainder (R64). -/
def execPrecopyPassComplete (l : Lane) (t : Nat) (s : State) : Host.Outcome State Fault Refusal :=
  let s := s.tick t
  if s.laneSt l != .ready then .next s
  else
    let xs := (s.lane l).copying
    let s := match s.folio.running, s.xferSource with
      | some f, some src => s.receiveXfer src l f xs
      | _, _ => s
    let x := s.lane l
    .next (s.setLane l { x with passes := x.passes + 1, copying := x.rewritten, rewritten := [] })

/-- The lines that a transfer still has to copy: those of the pass under way, and those written since it began (R64). -/
def LaneState.xferLeft (x : LaneState) : List (Nat × Nat) := x.copying ++ x.rewritten.filter (!x.copying.contains ·)

/-- The gap that the final delta of lane `l` needs: the dirty bytes ÷ 10,000 B/µs + 2 µs, at least 20 µs (R65). -/
def State.deltaGap (s : State) (l : Lane) : Nat := max 20000 (xferNs (64 * (s.lane l).xferLeft.length) + 2000)

/-- The first release of the running ductus at or after `t`; none when nothing is released. -/
def State.runningFirst (s : State) (t : Nat) : Option Nat :=
  match s.folio.running with
  | none => none
  | some f => s.firstRelease f t

/-- A switch seam already announced falls before the first release after `t` (R66). -/
def State.switchClaims (s : State) (t : Nat) : Bool :=
  match s.folio.pendingSwitch with
  | some w => match w.announced with
    | some a => decide (t ≤ a) && (match s.runningFirst (t + 1) with | none => true | some r => decide (a < r))
    | none => false
  | none => false

/-- `t` is the instant of RUN entry, which is no seam (R176). -/
def State.atRunEntry (s : State) (t : Nat) : Bool := s.modeNow == .run && s.ductus.runEntry == some t

/-- `t` is a usable seam for the state transfer of lane `l` (R65, R66, R176): on the grid, no task
released-but-uncommitted, not in HOLD, not at RUN entry, the gap wide enough and not claimed by a folio switch. -/
def State.transferSeam (s : State) (l : Lane) (t : Nat) : Bool :=
  t % gridNs == 0 && !s.anyUncommitted && s.modeNow != .hold && !s.atRunEntry t && gapAtLeast t (s.deltaGap l) (s.runningFirst t)
    && !s.switchClaims t

/-- STATE_TRANSFER_SEAM: at a usable seam a READY lane enters TRANSFER, and its source is reported (R62, R64, R65). -/
def execStateTransferSeam (l : Lane) (t : Nat) (s : State) : Host.Outcome State Fault Refusal :=
  let s := s.tick t
  match s.xferSource with
  | some src =>
    if s.laneSt l != .ready || !s.flag F.VOTE_CTRL_EN || !s.transferSeam l t then .next s
    else
      let s := s.setLane l { s.lane l with transferAt := t }
      .next ((s.fput (F.LANE_REINT_SOURCE l) src.idx).setLaneSt l .transfer)
  | none => .next s

/-- REINT_WINDOW_EXPIRE: attempts older than 24 h leave the window (R68). -/
def execReintWindowExpire (l : Lane) (t : Nat) (s : State) : Host.Outcome State Fault Refusal :=
  let s := s.tick t
  .next ((s.setLane l { s.lane l with attempts := s.recentAttempts l }).showAttempts l)

end Sys2Proof.Machine
end

