-- ==== Sys2Proof/Machine/Vars.lean ====
section
/-! DEFINITION. Variables as commands reach them: writes (R104 to R108), forces (R109), reads (R405, R406) and time
alarms (R91). -/

namespace Sys2Proof.Machine

/-- Opcodes (R404). -/
def opVarRead : Nat := 0x0301
def opVarWrite : Nat := 0x0302
def opForceSet : Nat := 0x0303
def opForceClear : Nat := 0x0304
def opTaskTrigger : Nat := 0x0204

/-- 20 µs (R95, R104, R107, R221, R406). -/
def us20 : Nat := 20000

/-- The lines of `n` bytes from a logical offset. -/
def linesOf (off n : Nat) : List Nat :=
  ((List.range (n / 64 + 2)).map fun k => off / 64 + k).filter fun k => decide (k * 64 < off + n)

/-- `n` bytes of a segment change in lane `l`: where it is the source of a transfer, a lane that is READY or in
TRANSFER must copy their lines again (R64). -/
def State.noteRewrite (s : State) (l : Lane) (seg off n : Nat) : State :=
  if s.xferSource != some l || !xferSegs.contains seg then s else
  allLanes.foldl (fun s d =>
    if s.laneSt d == .ready || s.laneSt d == .transfer then
      let y := s.lane d
      let new := ((linesOf off n).map fun k => (seg, k)).filter (!y.rewritten.contains ·)
      s.setLane d { y with rewritten := y.rewritten ++ new }
    else s) s

/-- An element of a variable written in one lane. -/
def State.writeElem (s : State) (f : Folio) (l : Lane) (v : VarRec) (i : Nat) (x : DWord) : State :=
  let y := s.lane l
  (s.setLane l { y with mem := wrElem l f y.mem v i x }).noteRewrite l v.segment (v.offset + i * tySize v.ty) (tySize v.ty)

/-- An execution of `task` wrote `n` bytes from a logical offset: their lines are noted for the next commit's marks
(R424). See log entry 33 (DEDUCED). -/
def State.noteWrite (s : State) (l : Lane) (task seg off n : Nat) : State :=
  let y := s.lane l
  let new := ((linesOf off n).map fun k => (task, (seg, k))).filter (!y.wrote.contains ·)
  s.setLane l { y with wrote := y.wrote ++ new }

/-- An element of a variable written by its owner's execution in one lane. -/
def State.storeElem (s : State) (f : Folio) (l : Lane) (v : VarRec) (i : Nat) (x : DWord) : State :=
  (s.writeElem f l v i x).noteWrite l v.task v.segment (v.offset + i * tySize v.ty) (tySize v.ty)

/-- An element of a variable written in every voting lane. -/
def State.writeAll (s : State) (f : Folio) (v : VarRec) (i : Nat) (x : DWord) : State :=
  s.voters.foldl (fun s l => s.writeElem f l v i x) s

/-! ### Time alarms (R91) -/

/-- The value that an alarm takes: 0 disarms it, the value it already has changes nothing. -/
def alarmTake (al : Alarm) (v : Int) (now : Nat) : Alarm :=
  if v = al.value then al else ⟨v, now, decide (v ≠ 0)⟩

/-- The alarms whose variable has this identity take its value, as lane `l` holds it. -/
def State.takeAlarms (s : State) (f : Folio) (l : Lane) (v : VarRec) : State :=
  f.tasks.foldl (fun s r =>
    if r.event && r.source == 4 && r.selector == v.identity then
      let b := s.book r.task
      s.setBook { b with alarm := alarmTake b.alarm (regInt .time (rdElem l f (s.lane l).mem v 0)) s.now }
    else s) s

/-! ### Command writes (R104 to R108) -/

/-- One record of a VAR_WRITE is applied in every voting lane; an alarm on its variable takes the value (R91, R104). -/
def State.applyWrite (s : State) (f : Folio) (w : PendWrite) : State :=
  match f.varOf w.identity with
  | none => s
  | some v =>
    let s := s.writeAll f v w.element w.value
    match s.voters.head? with
    | some l => s.takeAlarms f l v
    | none => s

/-- The owning task of the record's variable. -/
def writeTask (f : Folio) (w : PendWrite) : Option Nat := (f.varOf w.identity).map (·.task)

/-- Pending writes in the order of R105: by acceptance instant, then queue; the records of one packet keep their
order. -/
def writeBefore (x y : PendWrite) : Bool :=
  decide (x.accepted < y.accepted) || (x.accepted == y.accepted && decide (x.cmd.queue < y.cmd.queue))
    || (x.accepted == y.accepted && x.cmd.queue == y.cmd.queue)

/-- A record put into the order of R105, after every record that does not come after it. -/
def insertWrite (w : PendWrite) : List PendWrite → List PendWrite
  | [] => [w]
  | x :: xs => if writeBefore x w then x :: insertWrite w xs else w :: x :: xs

/-- A VAR_WRITE whose records have all been applied is answered (R104). See log entry 32 (DEDUCED). -/
def State.settleWrites (s : State) (done : List PendWrite) : State :=
  done.foldl (fun s w =>
    if s.ductus.writes.any (·.cmd == w.cmd) || !(s.quill.cmds.any (·.cmd == w.cmd)) then s
    else s.replyOk w.cmd opVarWrite) s

/-- The writes `due` are applied in order, removed, and answered (R104, R105). See log entry 32 (DEDUCED). -/
def State.applyWrites (s : State) (f : Folio) (due : List PendWrite) : State :=
  let s := due.foldl (fun s w => s.applyWrite f w) s
  let s := { s with ductus := { s.ductus with writes := s.ductus.writes.filter (fun w => !due.contains w) } }
  s.settleWrites due

/-- The writes that a task's release at `t` applies: accepted by t − 20 µs, at most 256 (R104, R108). -/
def State.releaseWrites (s : State) (f : Folio) (task t : Nat) : List PendWrite :=
  (s.ductus.writes.filter fun w => writeTask f w == some task && decide (w.accepted + us20 ≤ t)).take 256

/-- In STOP and HOLD the writes due are those accepted by t − 20 µs (R107). -/
def State.stopWrites (s : State) (t : Nat) : List PendWrite :=
  s.ductus.writes.filter fun w => decide (gridUp (w.accepted + us20) ≤ t)

/-! ### Forces (R109) -/

/-- The forces on a task's variables of the segments `segs` take effect in lane `l`. See log entry 32 (DEDUCED). -/
def State.applyForces (s : State) (f : Folio) (l : Lane) (task : Nat) (segs : List Nat) : State :=
  s.ductus.forces.foldl (fun s x =>
    match f.varOf x.identity with
    | some v => if v.task == task && segs.contains v.segment then s.storeElem f l v x.element x.value else s
    | none => s) s

/-! ### Variable reads (R405, R406) -/

/-- The reply bytes of one item (R406), as lane `l` holds the variable. -/
def readItem (s : State) (f : Folio) (l : Lane) (it : Nat × Nat × Nat) : List Byte :=
  let (identity, first, n) := it
  match f.varOf identity with
  | none => leBytes 4 identity ++ leBytes 1 1 ++ zeros 7
  | some v =>
    if v.count < first + n || n == 0 then
      leBytes 4 identity ++ leBytes 1 2 ++ leBytes 1 (tyCode v.ty) ++ zeros 6
    else
      let z := tySize v.ty
      let bs := rdBytes l f (s.lane l).mem v.segment (v.offset + first * z) (n * z)
      leBytes 4 identity ++ leBytes 1 0 ++ leBytes 1 (tyCode v.ty) ++ zeros 2 ++ leBytes 4 bs.length ++ pad8 bs

/-- The reply bytes of an item while no folio runs: every identity is unknown. -/
def readNone (it : Nat × Nat × Nat) : List Byte := leBytes 4 it.1 ++ leBytes 1 1 ++ zeros 7

/-- The reply bytes of an item, now, from the memory of lane `l`. -/
def State.itemNow (s : State) (l : Option Lane) (it : Nat × Nat × Nat) : List Byte :=
  match s.folio.running, l with
  | some f, some l => readItem s f l it
  | _, _ => readNone it

/-- The read with every item that `due` selects and that has not been read, read now in lane `l`. -/
def State.readItems (s : State) (l : Option Lane) (p : PendRead) (due : Nat × Nat × Nat → Bool) : PendRead :=
  let fresh := (p.items.zipIdx).filterMap fun (it, i) =>
    if due it && (assoc p.got i).isNone then some (i, s.itemNow l it) else none
  { p with got := p.got ++ fresh }

/-- A VAR_READ that has all its items replies with them in request order (R406). -/
def State.settleRead (s : State) (p : PendRead) : State :=
  if p.got.length < p.items.length then
    { s with ductus := { s.ductus with reads := s.ductus.reads.map fun q => if q.cmd == p.cmd then p else q } }
  else
    let s := { s with ductus := { s.ductus with reads := s.ductus.reads.filter (·.cmd != p.cmd) } }
    s.reply p.cmd opVarRead stOk (((List.range p.items.length).map fun i => (assoc p.got i).getD []).flatten)

/-- The items of a task's variables are read in lane `l` at the end of its first execution released at or after a + 20 µs
(R406). -/
def State.readsAtEnd (s : State) (f : Folio) (l : Lane) (task release : Nat) : State :=
  s.ductus.reads.foldl (fun s p =>
    if p.accepted + us20 ≤ release then
      s.settleRead (s.readItems (some l) p fun it => match f.varOf it.1 with | some v => v.task == task | none => false)
    else s) s

/-- In STOP and HOLD, and while no folio runs, every item is read at the first grid instant at or after a + 20 µs
(R406). -/
def State.readsAtGrid (s : State) (t : Nat) : State :=
  s.ductus.reads.foldl (fun s p =>
    if gridUp (p.accepted + us20) ≤ t then s.settleRead (s.readItems s.voters.head? p fun _ => true) else s) s

end Sys2Proof.Machine
end

