-- ==== Sys2Proof/Machine/Folios.lean ====
section
/-! DEFINITION. Staging a folio (R171 to R173) and the search for its seam (R175 to R177, R183). -/

namespace Sys2Proof.Machine

/-! ### The staging area -/

def opFolioStage : Nat := 0x0202

/-- FOLIO_STAT.STAGED codes. -/
def stagedCode : Staging → Nat
  | .empty => 0
  | .receiving _ _ _ => 1
  | .checking _ _ => 2
  | .staged _ => 3

/-- Four bytes of a folio identifier as a register word. -/
def idWord (id : List Byte) (i : Nat) : Nat := leAt id (4 * i) 4

/-- FOLIO_STG_ID0 to FOLIO_STG_ID3 show an identifier. -/
def State.showStagedId (s : State) (id : List Byte) : State :=
  (((s.fput F.FOLIO_STG_ID0_ID (idWord id 0)).fput F.FOLIO_STG_ID1_ID (idWord id 1)).fput F.FOLIO_STG_ID2_ID (idWord id 2)).fput
    F.FOLIO_STG_ID3_ID (idWord id 3)

/-- FOLIO_RUN_ID0 to FOLIO_RUN_ID3 show an identifier. -/
def State.showRunId (s : State) (id : List Byte) : State :=
  (((s.fput F.FOLIO_RUN_ID0_ID (idWord id 0)).fput F.FOLIO_RUN_ID1_ID (idWord id 1)).fput F.FOLIO_RUN_ID2_ID (idWord id 2)).fput
    F.FOLIO_RUN_ID3_ID (idWord id 3)

/-- The staging area changes; its registers follow. -/
def State.setStaging (s : State) (g : Staging) : State :=
  let s := { s with folio := { s.folio with staging := g } }
  let s := s.fput F.FOLIO_STAT_STAGED (stagedCode g)
  match g with
  | .staged f => (s.showStagedId f.id).fput F.FOLIO_CARRY_BYTES (carrySize f s.folio.running)
  | _ => (s.showStagedId []).fput F.FOLIO_CARRY_BYTES 0

/-- Bytes of one staging block (R171). -/
def stageBlock : Nat := 65536

/-- The block number, CRC and data of a FOLIO_STAGE packet (R405). -/
def stageNo (c : Cmd) : Nat := leAt c.params 0 4
def stageCrc (c : Cmd) : Nat := leAt c.params 4 4
def stageData (c : Cmd) : List Byte := c.params.drop 16

/-- The parameters fit the block prefix of R405. -/
def stageLenOk (c : Cmd) : Bool := decide (16 ≤ c.params.length) && decide (c.params.length ≤ 16 + stageBlock)

/-- A switch waits for its seam. -/
def State.switchPending (s : State) : Bool := s.folio.pendingSwitch.isSome

/-- The bytes received so far, the next block number and TOTAL_LEN, as block `n` meets them (R171). -/
def State.stageProgress (s : State) (c : Cmd) : Option (Nat × List Byte) :=
  if stageNo c == 0 then some (leAt (stageData c) 12 4, [])
  else match s.folio.staging with
    | .receiving next total bytes => if stageNo c == next then some (total, bytes) else none
    | _ => none

/-- The verdict on one block, in the order of R171; block 0 while a switch waits is BUSY (R189), which is judged after the
length and the CRC. See log entry 27 (DEDUCED, DESIGN CHOICE). -/
def stageOwn (c : Cmd) (s : State) : Verdict :=
  match s.stageProgress c with
  | none => .refuse stBadParam noIndex
  | some (total, _) =>
    let n := stageNo c
    let d := stageData c
    refuseIf (byteAt c.params 8 != 0 || !allZero (slice c.params 9 7)) stBadParam noIndex <|
    refuseIf (n == 0 && (d.length < 16 || folioMax < total)) stBadParam noIndex <|
    refuseIf (total ≤ n * stageBlock || d.length != min stageBlock (total - n * stageBlock)) stBadParam noIndex <|
    refuseIf ((crc32c d).toNat != stageCrc c) stCheckFail noIndex <|
    refuseIf (n == 0 && s.switchPending) stBusy noIndex .accept

/-- The last block of a folio whose checks a new block 0 ends is answered ABORTED (R171, R408). -/
def State.endChecks (s : State) : State :=
  match s.folio.staging with
  | .checking _ c => s.replyErr c opFolioStage stAborted noIndex
  | _ => s

/-- An accepted block is stored; the last one starts the checks of R172 (R171). See log entry 27 (DEDUCED). -/
def stageEffect (c : Cmd) (s : State) (_ : Nat) : State :=
  match s.stageProgress c with
  | none => s.replyErr c opFolioStage stBadParam noIndex
  | some (total, bytes) =>
    let s := if stageNo c == 0 then s.endChecks else s
    let bytes := bytes ++ stageData c
    if total ≤ bytes.length then s.setStaging (.checking bytes c)
    else (s.setStaging (.receiving (stageNo c + 1) total bytes)).replyOk c opFolioStage

/-- FOLIO_STAGE (R171). -/
def execFolioStage (c : Cmd) (t : Nat) (s : State) : Host.Outcome State Fault Refusal :=
  .next (s.runLane c t opFolioStage lvlEngineer (stageLenOk c) (stageOwn c) (stageEffect c))

/-! ### The checks of R172 -/

/-- An owner key slot is enrolled (R440). -/
def State.slotEnrolled (s : State) (n : Nat) : Bool := s.flag (F.SEC_SLOT_ENROLLED n)

/-- An anti-rollback counter (R444). -/
def State.rbCounter (s : State) (n : Nat) : Nat := s.fget (F.SEC_RB_VALUE n)

/-- The head of a signature block: ALG, LENGTH and the reserved bytes (R170). -/
def sigBlockOk (b : List Byte) : Bool :=
  leAt b 0 2 == 1 && allZero (slice b 2 2) && leAt b 4 4 == sigBlockLen && allZero (slice b 3413 3)

/-- What the checks of R172 find: LANE_STAGE's RESULT, SECTION and RECORD, and the reply status. -/
structure StageResult where
  result : Nat
  section_ : Nat
  record : Nat
  status : Nat
  deriving DecidableEq, Repr

/-- The seven steps of R172 up to the first failure, and whether verification and admission were reached.
See log entry 27 (DEDUCED). -/
def State.stageCheck (s : State) (bs : List Byte) (sigOk : Bool) : StageResult :=
  let f := parseFolio bs
  match headerBreach bs with
  | some o => ⟨2, 0, o, stCheckFail⟩
  | none =>
  match crcBreach bs with
  | some p => ⟨3, p, 0, stCheckFail⟩
  | none =>
  if !(s.slotEnrolled f.keySlot && sigBlockOk (bs.drop (leAt bs 8 4)) && sigOk) then ⟨4, 0, 0, stSigFail⟩
  else if f.rbValue < s.rbCounter f.rbIndex then ⟨5, 0, 0, stCheckFail⟩
  else match contentBreach bs s.folio.running with
  | some (ty, i) => ⟨6, secPos bs ty, i, stCheckFail⟩
  | none =>
  match verifyFolio f with
  | some _ => ⟨7, secPos bs secCode, 0, stCheckFail⟩
  | none => if f.admission.1 == 0 then ⟨1, 0, 0, stOk⟩ else ⟨8, secPos bs secDuctus, f.admission.2, stCheckFail⟩

/-- The checks reach the signatures, under an enrolled key, and one does not verify. -/
def State.sigFails (s : State) (bs : List Byte) (sigOk : Bool) : Bool :=
  !sigOk && s.slotEnrolled (parseFolio bs).keySlot && (s.stageCheck bs sigOk).result == 4

/-- LANE_VERIFY_STAT and LANE_VERIFY_WORD of a lane (R144). -/
def State.showVerify (s : State) (f : Folio) (l : Lane) : State :=
  match verifyFolio f with
  | some (task, rule, w) =>
    (((s.fput (F.LANE_VERIFY_STAT_REFUSED l) 1).fput (F.LANE_VERIFY_STAT_TASK l) task).fput (F.LANE_VERIFY_STAT_RULE l) rule).fput
      (F.LANE_VERIFY_WORD_WORD l) w
  | none =>
    (((s.fput (F.LANE_VERIFY_STAT_REFUSED l) 0).fput (F.LANE_VERIFY_STAT_TASK l) 0).fput (F.LANE_VERIFY_STAT_RULE l) 0).fput
      (F.LANE_VERIFY_WORD_WORD l) 0

/-- The ductus number that LANE_ADMIT names: of the first task that failed the response bound. -/
def admitTask (f : Folio) : Nat :=
  if f.admission.1 == 2 then ((f.tasks[f.admission.2]?).map (·.task)).getD 0 else 0

/-- LANE_ADMIT of a lane (R103). -/
def State.showAdmit (s : State) (f : Folio) (l : Lane) : State :=
  ((((s.fput (F.LANE_ADMIT_REFUSED l) (bit (f.admission.1 != 0))).fput (F.LANE_ADMIT_REASON l) f.admission.1).fput
    (F.LANE_ADMIT_TASK l) (admitTask f)).fput (F.LANE_ADMIT_EP0_LOAD l) (loadPermille (f.load 0))).fput
    (F.LANE_ADMIT_EP1_LOAD l) (loadPermille (f.load 1))

/-- LANE_STAGE of a lane, and the registers of the steps that were reached (R172). -/
def State.showStage (s : State) (f : Folio) (r : StageResult) (l : Lane) : State :=
  let s := ((s.fput (F.LANE_STAGE_RESULT l) r.result).fput (F.LANE_STAGE_SECTION l) r.section_).fput (F.LANE_STAGE_RECORD l) r.record
  let s := if r.result == 1 || r.result == 7 || r.result == 8 then s.showVerify f l else s
  if r.result == 1 || r.result == 8 then s.showAdmit f l else s

/-- A lane that votes has translated the staged folio and holds the hash of its image; any other lane holds none
(R173). `bad` is the hash of an image that is not what the translation gives. See log entry 11 (DESIGN CHOICE). -/
def State.setStagedHash (s : State) (f : Folio) (l : Lane) (bad : Option DWord) : State :=
  s.setLane l { s.lane l with stagedHash := if s.isVoting l then some (bad.getD (s.imageHash f l)) else none }

/-- FOLIO_STAGING_COMPLETE: every voting lane has finished the checks of R172, records its outcome, and the last block
is answered. A signature that does not verify is counted (SEC_COUNTS.SIG_FAILS). `sigOk` says whether both signatures
of R170 verify over the message M: ECDSA P-384 over SHA-384(M) and ML-DSA-65 over M with context NYFL, under the key
of KEY_SLOT (DESIGN CHOICE, log entry 8). `badA` to `badC` are the hashes of images that are not what the translation
gives (DESIGN CHOICE, log entry 11). -/
def execFolioStagingComplete (sigOk : Bool) (badA badB badC : Option DWord) (t : Nat) (s : State) : Host.Outcome State Fault Refusal :=
  let s := s.tick t
  match s.folio.staging with
  | .checking bytes c =>
    let f := parseFolio bytes
    let r := s.stageCheck bytes sigOk
    let s := if s.sigFails bytes sigOk then s.fsat F.SEC_COUNTS_SIG_FAILS else s
    let s := s.voters.foldl (fun s l => s.showStage f r l) s
    if r.result == 1 then
      let s := ((s.setStagedHash f .a badA).setStagedHash f .b badB).setStagedHash f .c badC
      .next ((s.setStaging (.staged f)).replyOk c opFolioStage)
    else .next ((s.setStaging .empty).replyErr c opFolioStage r.status noIndex)
  | _ => .next s

/-! ### The search for a seam (R176, R177, R183) -/

/-- The mode that will be in force at `t`, by the mode now and the changes already accepted (R177). -/
def State.modeAt (s : State) (t : Nat) : Mode :=
  s.ductus.modes.foldl (fun m p => if p.instant ≤ t then p.target else m) s.modeNow

/-- The first RUN entry accepted and not yet in effect. -/
def State.nextRun (s : State) : Option Nat := (s.ductus.modes.find? (·.target == .run)).map (·.instant)

/-- The RUN entry that counts for releases at `t`: the one accepted, or the last. -/
def State.entryAt (s : State) (t : Nat) : Nat :=
  match s.nextRun with
  | some x => if x ≤ t && s.modeNow != .run then x else s.ductus.runEntry.getD 0
  | none => s.ductus.runEntry.getD 0

/-- A cyclic task is predicted to be released-but-uncommitted at `t`: its last release at or before `t` has not reached
its commit (R80, R177: every execution finishing by its commit). -/
def cyclicBusy (r : TaskRec) (entry t : Nat) : Bool :=
  if t < r.phase % r.period then false
  else
    let rel := r.phase % r.period + (t - r.phase % r.period) / r.period * r.period
    decide (entry ≤ rel) && decide (t < rel + r.deadline)

/-- An event task is predicted to be released-but-uncommitted at `t`, by its pending release and its commit still due. -/
def State.eventBusy (s : State) (r : TaskRec) (t : Nat) : Bool :=
  let b := s.book r.task
  (match b.pend with | some p => decide (p.instant ≤ t) && decide (t < p.instant + r.deadline) | none => false)
    || (match b.due with | some (x, _) => decide (t < x) | none => false)

/-- Some task of the running folio is predicted to be released-but-uncommitted at `t` (R177). -/
def State.predictedBusy (s : State) (old : Folio) (t : Nat) : Bool :=
  match s.modeAt t with
  | .hold => true
  | .stop => false
  | .run => old.tasks.any fun r => if r.event then s.eventBusy r t else cyclicBusy r (s.entryAt t) t

/-- The event source and selector are the same, so that a pending release is kept (R180). -/
def sameSource (a b : TaskRec) : Bool := a.event && b.event && a.source == b.source && a.selector == b.selector

/-- What lies between an event's instant and its source instant (R87). -/
def sourceDelay : Nat → Nat
  | 1 => 30000 | 2 => 10000 | 3 => us20 | 5 => 50000 | _ => 0

/-- The instant of a pending release that a new ductus keeps: computed again from its source instant, with the new M
(R88, R180). -/
def keptInstant (b : TaskBook) (r : TaskRec) (p : PendRelease) : Nat := eventInstant b r (gridUp (p.stamp + sourceDelay r.source))

/-- A STOP already accepted takes effect by `t`, which discards the pending releases (R93, R95). -/
def State.stopBy (s : State) (t : Nat) : Bool := s.ductus.modes.any fun p => p.target == .stop && decide (p.instant ≤ t)

/-- The first of the instants that `next` gives which lies in RUN, over the stretches of RUN from `t` on that are known
now (R94, R95, R176). -/
def State.firstInRun (s : State) (t : Nat) (next : Nat → Nat) : Option Nat :=
  let starts := t :: (s.ductus.modes.filter (·.target == .run)).map fun p => max t p.instant
  starts.foldl (fun m a => if s.modeAt a == .run && s.modeAt (next a) == .run then minInstant m (some (next a)) else m) none

/-- The first release of a new ductus at or after `t`, as known now; none when it releases nothing (R176). -/
def State.newRelease (s : State) (old : Option Folio) (new : Folio) (t : Nat) : Option Nat :=
  new.tasks.foldl (fun m r =>
    if r.event then
      match old.bind (·.taskOf r.task), (s.book r.task).pend with
      | some o, some p =>
        let x := max t (keptInstant (s.book r.task) r p)
        if sameSource o r && !s.stopBy x then minInstant m (s.firstInRun t (max x)) else m
      | _, _ => m
    else minInstant m (s.firstInRun t (cyclicAtOrAfter r))) none

/-- A transfer seam and the first release after it lie around `t` (R66). -/
def State.transferClaims (s : State) (t : Nat) : Bool :=
  allLanes.any fun l => s.laneSt l == .transfer &&
    (match s.runningFirst ((s.lane l).transferAt + 1) with
     | some r => decide (t < r)
     | none => decide (t ≤ (s.lane l).transferAt))

/-- `t` is the instant of RUN entry (R176). -/
def State.isRunEntry (s : State) (t : Nat) : Bool :=
  s.ductus.runEntry == some t || s.ductus.modes.any fun p => p.target == .run && p.instant == t

/-- `t` meets the conditions of R176 as they are predicted now. -/
def State.seamPredicted (s : State) (old new : Folio) (b t : Nat) : Bool :=
  !s.predictedBusy old t && gapAtLeast t (gapReq b) (s.newRelease (some old) new t) && !s.isRunEntry t
    && !s.transferClaims t

/-- The first candidate on the grid from `t` that meets them, before `stop`. -/
def State.searchGo (s : State) (old new : Folio) (b stop : Nat) : Nat → Nat → Option Nat
  | 0, _ => none
  | k + 1, t =>
    if stop ≤ t then none
    else if s.seamPredicted old new b t then some t
    else s.searchGo old new b stop k (t + gridNs)

/-- 10 s (R175, R177). -/
def searchSpan : Nat := 10000000000

/-- The lead time (R176). -/
def State.leadTime (s : State) : Nat := if s.paired then 5000000 else 500000

/-- The larger B of the two members, where the partner has sent its own (R188). -/
def State.switchBytes (s : State) (w : Switch) : Nat := max (s.fget F.FOLIO_CARRY_BYTES) w.partnerBytes

/-- The instant announced for a waiting switch, searched from `t` on (R177, R183). -/
def State.searchSeam (s : State) (w : Switch) (t : Nat) : Option Nat :=
  match s.folio.staging, s.folio.running with
  | .staged f, some old =>
    s.searchGo old f (s.switchBytes w) (w.accepted + searchSpan) 200001 (gridUp (max t (w.accepted + s.leadTime)))
  | .staged _, none => some (gridUp (max t (w.accepted + us20)))
  | _, _ => none

/-- This module leads a waiting switch towards its partner: it is ACTIVE, or it accepted the command itself.
See log entry 28 (DESIGN CHOICE). -/
def State.leads (s : State) (w : Switch) : Bool := s.copies || (s.paired && w.cmd.isSome)

/-- A waiting switch with a new candidate, which its leader announces to the partner (R177, R188).
See log entry 28 (DESIGN CHOICE). -/
def State.announceFrom (s : State) (w : Switch) (t : Nat) : State :=
  let found := s.searchSeam w t
  let s := { s with folio := { s.folio with pendingSwitch := some { w with announced := found, confirmed := !s.paired } } }
  match found with
  | some a => if s.leads w then s.cbSend [cbSchedule whatSeam phAnnounce 0 (s.switchBytes w) a] else s
  | none => s

/-- 2 ms (R177). -/
def ms2 : Nat := 2000000

/-- When the mode changes, or a change is accepted, the search of a waiting switch goes on from `t` under the new
conditions (R177, R189): the first candidate may lie before the announced one. A seam that the partner has confirmed
stands (R188). See log entry 28 (DESIGN CHOICE). -/
def State.researchSeam (s : State) (t : Nat) : State :=
  match s.folio.pendingSwitch with
  | some w =>
    if s.notActing && w.cmd.isNone then s
    else if s.paired then (if w.confirmed then s else s.announceFrom w (t + ms2))
    else s.announceFrom w t
  | none => s

/-- The safe stop monitor holds parameters that differ from those a folio declares (R175). -/
def State.ssmDiffers (s : State) (f : Folio) : Bool :=
  match s.ssm.record with
  | some r => r != f.ssmDecl
  | none => false

/-- The replies of R175 that the acceptance decides. Whether the partner has staged the same folio is answered by its
SCHEDULE record. -/
def switchOwn (s : State) : Verdict :=
  refuseIf (s.role == roleStandby) stRole noIndex <|
  match s.folio.staging with
  | .staged f =>
    refuseIf (s.modeNow == .hold) stBadParam noIndex <|
    refuseIf s.switchPending stBusy noIndex <|
    refuseIf (s.ssmDiffers f) stCheckFail noIndex <|
    refuseIf (s.paired && !s.flag F.DUP_STAT_SEEN) stCheckFail noIndex .accept
  | _ => .refuse stBadParam noIndex

/-- An accepted FOLIO_SWITCH waits, and the first instant that is predicted to serve is announced (R177).
See log entry 28 (DESIGN CHOICE). -/
def switchEffect (c : Cmd) (s : State) (a : Nat) : State :=
  let s := s.fput F.FOLIO_STAT_PENDING 1
  s.announceFrom { cmd := some c, accepted := a, announced := none, confirmed := false, partnerBytes := 0 } s.now

/-- FOLIO_SWITCH (R175). -/
def execFolioSwitch (c : Cmd) (t : Nat) (s : State) : Host.Outcome State Fault Refusal :=
  .next (s.runLane c t opFolioSwitch lvlEngineer c.params.isEmpty switchOwn (switchEffect c))

/-- A waiting switch ends without a seam: its command replies, and the folio stays staged (R175). -/
def State.endSwitch (s : State) (w : Switch) (status result : Nat) : State :=
  let s := { s with folio := { s.folio with pendingSwitch := none } }
  let s := (s.fput F.FOLIO_STAT_PENDING 0).fput F.FOLIO_STAT_LAST_RESULT result
  match w.cmd with
  | some c => s.replyErr c opFolioSwitch status noIndex
  | none => s

/-- SEAM_SEARCH_TIMEOUT: a + 10 s is reached with no seam (R177). -/
def execSeamSearchTimeout (t : Nat) (s : State) : Host.Outcome State Fault Refusal :=
  let s := s.tick t
  match s.folio.pendingSwitch with
  | some w => if w.accepted + searchSpan ≤ s.now then .next (s.endSwitch w stNoSeam 2) else .next s
  | none => .next s

/-- The announced seam of a waiting switch is void at `t`: at S with a task released-but-uncommitted, in HOLD or with a
lane still in TRANSFER, or from S − 2 ms without the standby's confirmation (R66, R177). -/
def State.seamVoid (s : State) (w : Switch) (t : Nat) : Bool :=
  match w.announced with
  | some a =>
    (decide (a ≤ t) && (s.anyUncommitted || s.modeNow == .hold || allLanes.any fun l => s.laneSt l == .transfer))
      || (!w.confirmed && decide (a ≤ t + ms2))
  | none => false

/-- SEAM_VOID: the search goes on from S + 50 µs (R177). A module that follows its partner drops the seam; the partner
announces another (R188). -/
def execSeamVoid (t : Nat) (s : State) : Host.Outcome State Fault Refusal :=
  let s := s.tick t
  match s.folio.pendingSwitch with
  | some w =>
    if !s.seamVoid w s.now then .next s
    else if s.notActing && w.cmd.isNone then .next (({ s with folio := { s.folio with pendingSwitch := none } }).fput F.FOLIO_STAT_PENDING 0)
    else .next (s.announceFrom w (w.announced.getD s.now + gridNs))
  | none => .next s

/-- FOLIO_IOMIS_CLEAR: a write of 1 to VALID clears the capture and re-arms it (R70, FOLIO_IOMIS). -/
def execFolioIomisClear (s : State) : Host.Outcome State Fault Refusal := .next (s.clearField F.FOLIO_IOMIS_VALID)

end Sys2Proof.Machine
end

