-- ==== Sys2Proof/Machine/Modes.lean ====
section
/-! DEFINITION. Events and pending releases (R87 to R93), finishing and late executions (R79, R80), modes (R94 to R99),
and fences (R110 to R113). -/

namespace Sys2Proof.Machine

/-! ### Registers of tasks in the voting lanes -/

/-- A field of a task's registers set in every voting lane. -/
def State.putTask (s : State) (f : Lane → Nat → Field) (n v : Nat) : State := s.voters.foldl (fun s l => s.fput (f l n) v) s

/-- A saturating counter of a task raised in every voting lane. -/
def State.satTask (s : State) (f : Lane → Nat → Field) (n : Nat) : State := s.voters.foldl (fun s l => s.fsat (f l n)) s

/-! ### Events (R87 to R93) -/

/-- An event of task `r` with event instant `e`: a new pending release, or merged into the one that waits (R88, R89). An
event outside RUN, or before the entry to it, is discarded (R93). -/
def State.event (s : State) (r : TaskRec) (e source detail edges : Nat) : State :=
  if s.modeNow != .run || decide (e < s.ductus.runEntry.getD 0) then s else
  let b := s.book r.task
  match b.pend with
  | none =>
    let s := s.setBook { b with pend := some ⟨eventInstant b r source, 0, edges, detail, e⟩ }
    s.putTask F.TASK_STAT_PENDING r.task 1
  | some p =>
    let s := s.setBook { b with pend := some { p with coalesced := min (p.coalesced + 1) 0xFFFF, edges := p.edges ||| edges } }
    s.satTask F.TASK_OVR_EVT_MERGED r.task

/-- The event tasks bound to a source and selector take an event (R87). -/
def State.eventsFrom (s : State) (source selector e srcInstant detail : Nat) : State :=
  s.tasks.foldl (fun s r =>
    if r.event && r.source == source && r.selector == selector then s.event r e srcInstant detail 0 else s) s

/-- A field edge of channel `ch` stamped `e` (R87): bit 0 rising, bit 1 falling. -/
def State.edgeEvent (s : State) (ch e edge : Nat) : State :=
  s.tasks.foldl (fun s r =>
    if r.event && r.source == 1 && r.selector == ch && (r.polarity &&& edge) != 0 then
      s.event r e (gridUp (e + 30000)) ch edge
    else s) s

/-- The overrun of a watched task at its commit instant `c` (R87). -/
def State.overrunEvent (s : State) (task c : Nat) : State := s.eventsFrom 5 task c (c + gridNs) task

/-- TASK_TRIGGER commands of a task whose pending release is discarded are answered BAD_PARAM (R404). -/
def State.dropTriggers (s : State) (n : Nat) : State :=
  let b := s.book n
  let s := s.setBook { b with triggers := [] }
  b.triggers.foldl (fun s c => s.replyErr c opTaskTrigger stBadParam noIndex) s

/-- A pending release is discarded (R93, R180). -/
def State.dropPending (s : State) (n : Nat) : State :=
  let b := s.book n
  if b.pend.isNone then s else
  let s := (s.setBook { b with pend := none }).putTask F.TASK_STAT_PENDING n 0
  s.dropTriggers n

/-- TIME_ALARM_FIRE: the time scale has reached an armed alarm's value; in RUN its event is taken, otherwise the alarm is
spent (R91). A value taken when it was already past fires at the instant it was taken. -/
def execTimeAlarmFire (task t : Nat) (s : State) : Host.Outcome State Fault Refusal :=
  let s := s.tick t
  match s.taskRec task with
  | some r =>
    let b := s.book task
    if !(r.event && r.source == 4 && b.alarm.armed && decide (b.alarm.value ≤ (s.now : Int))) then .next s
    else
      let e := max b.alarm.value.toNat b.alarm.since
      let s := s.setBook { b with alarm := { b.alarm with armed := false } }
      .next (s.event r e (gridUp e) 0 0)
  | none => .next s

/-- The task that TASK_TRIGGER names is declared with the command source (R404). -/
def triggerOk (s : State) (c : Cmd) : Bool :=
  match s.taskRec (byteAt c.params 0) with
  | some r => r.event && r.source == 3
  | none => false

/-- TASK_TRIGGER's own checks (R404, R417). -/
def triggerOwn (c : Cmd) (s : State) : Verdict :=
  refuseIf (!allZero (slice c.params 1 7) || !triggerOk s c || s.modeNow != .run) stBadParam noIndex <|
  refuseIf s.notActing stRole noIndex .accept

/-- TASK_TRIGGER (R87, R404): its event instant is its acceptance, and it replies at the release that serves it, or at
once when its event is discarded (R93). -/
def execTaskTrigger (c : Cmd) (t : Nat) (s : State) : Host.Outcome State Fault Refusal :=
  .next (s.runLane c t opTaskTrigger lvlOperate (c.params.length == 8)
    (triggerOwn c)
    (fun s a =>
      match s.taskRec (byteAt c.params 0) with
      | some r =>
        let s := s.event r a (gridUp (a + us20)) c.tag 0
        let b := s.book r.task
        if b.pend.isNone then s.replyErr c opTaskTrigger stBadParam noIndex
        else s.setBook { b with triggers := b.triggers ++ [c] }
      | none => s.replyErr c opTaskTrigger stBadParam noIndex))

/-! ### LANE_OUT objects (R46, R79) -/

/-- One stored line of a segment, 64 bytes as lane `l` stores it (R46). -/
def storedLineBytes (l : Lane) (f : Folio) (m : List Host.Cell) (seg line : Nat) : List Byte :=
  cellGetN (laneDefault l) m (64 * (f.segBase l seg + line)) 64

/-- A number put into an ascending list. -/
def insertNat (x : Nat) : List Nat → List Nat
  | [] => [x]
  | y :: ys => if x ≤ y then x :: y :: ys else y :: insertNat x ys

/-- The stored line indices of a task's declared lines, in the order in which the lane sends them (R46). -/
def sentLines (l : Lane) (f : Folio) (task seg : Nat) : List Nat :=
  ((f.declaredLines task seg).map (storedLine l (f.segBytes seg / 64))).foldr insertNat []

/-- The head of a record: LINE, SEG, TASK, COMMIT (R46). -/
def outHead (line seg task commit : Nat) : List Byte := leBytes 2 line ++ leBytes 1 seg ++ leBytes 1 task ++ leBytes 4 commit

/-- The line records of one segment. -/
def lineRecords (l : Lane) (f : Folio) (m : List Host.Cell) (task seg commit : Nat) : List (List Byte) :=
  (sentLines l f task seg).map fun n => outHead n seg task commit ++ storedLineBytes l f m seg n

/-- The LANE_OUT object of a task (R46). See log entry 23 (DESIGN CHOICE). -/
def laneOut (l : Lane) (f : Folio) (m : List Host.Cell) (task commit : Nat) : List Byte :=
  let recs := lineRecords l f m task segOut commit ++ lineRecords l f m task segTgo commit
  recs.flatten ++ outHead 0xFFFF 0xFF task commit ++ leBytes 4 recs.length ++ zeros 60

/-! ### Finishing (R79, R80, R96, R97) -/

/-- Release-to-now in units of 10 ns. -/
def State.respTime (s : State) (e : Exec) : Nat := (s.now - e.release) / 10

/-- TASK_RESP_MAX of an execution that ends now. -/
def State.showRespMax (s : State) (l : Lane) (n : Nat) (e : Exec) : State :=
  s.fputSat (F.TASK_RESP_MAX_TIME l n) (max (s.fget (F.TASK_RESP_MAX_TIME l n)) (s.respTime e))

/-- The commit instant that a task's release still owes. -/
def State.dueAt (s : State) (n : Nat) : Option Nat := (s.book n).due.map (·.1)

/-- An object of `n` bytes of an execution that ended at `e` can leave egress, and has left it by now, at or before C
− 1 µs: the lane sends at 10,000 B/µs (R79). -/
def State.inTime (s : State) (task : Nat) (e : Exec) (n : Nat) : Bool :=
  match s.dueAt task with
  | some c => decide (e.endAt + xferNs n + 1000 ≤ c) && decide (s.now + 1000 ≤ c)
  | none => false

/-- A lane sends its LANE_OUT object, at most three records in one unit, through the egress of the task's pair; the vote
holds it (R33, R46, R47). See log entry 71 (DESIGN CHOICE). -/
def State.sendOut (s : State) (l : Lane) (task : Nat) (bytes : List Byte) : State :=
  let us := chunks 216 (ceilDiv bytes.length 216) bytes
  let s := s.sendUnits [.vote] (pdLane l) kindLaneOut (laneBit l) 0 us
  let x := s.lane l
  let s := match s.taskRec task with
    | some r => s.setLane l (if r.ep == 0 then { x with ep0 := { x.ep0 with released := x.ep0.released + us.length } }
        else { x with ep1 := { x.ep1 with released := x.ep1.released + us.length } })
    | none => s
  s.holdOut { lane := l, task := task, gen := s.fabric.gen, bytes := bytes }

/-- The normalised bytes of a census slice in a lane (R58). -/
def sliceBytes (l : Lane) (f : Folio) (m : List Host.Cell) (vs : List VarRec) : List Byte :=
  (vs.map fun v => normVar v (rdVar l f m v)).flatten

def opDiagSnapshot : Nat := 0x0A02

/-- The bytes that a lane writes for a DIAG_SNAPSHOT SLICE: BYTES, EXEC and at most 65,528 B of the slice (R405). -/
def snapBytes (s : State) (l : Lane) (f : Folio) (task slice : Nat) : List Byte :=
  let bs := sliceBytes l f (s.lane l).mem ((f.slices task).getD slice [])
  leBytes 4 bs.length ++ leBytes 4 (s.book task).execs ++ bs.take 65528

/-- The DIAG_SNAPSHOT SLICE commands of a task take the lane's write after a finished execution; the last lane's write
answers them (R405). -/
def State.takeSnaps (s : State) (l : Lane) (f : Folio) (task : Nat) : State :=
  s.ductus.snaps.foldl (fun s p =>
    if p.task != task || p.done.contains l then s else
    let s := s.mwrite (0x07C00000 + l.idx * 0x10000) (snapBytes s l f task p.slice)
    let p' := { p with done := l :: p.done }
    let rest := s.ductus.snaps.filter (·.cmd != p.cmd)
    if s.voters.all (p'.done.contains ·) then
      ({ s with ductus := { s.ductus with snaps := rest } }).replyOk p.cmd opDiagSnapshot
    else { s with ductus := { s.ductus with snaps := rest ++ [p'] } }) s

/-- TASK_FINISH: an execution that has reached its end has sent its LANE_OUT object, which the vote holds; one that cannot
leave by C − 1 µs is not sent. The task is FINISHED (R79, R80). See log entry 23 (DESIGN CHOICE). -/
def execTaskFinish (l : Lane) (task t : Nat) (s : State) : Host.Outcome State Fault Refusal :=
  let s := s.tick t
  match s.folio.running, s.exec? l task with
  | some f, some e =>
    if !e.ended || e.faulted || e.discarded || s.taskSt l task != .released then .next s
    else
      let s := s.showRespMax l task e
      let bytes := laneOut l f (s.lane l).mem task ((s.book task).commits % 2 ^ 32)
      let s := if s.inTime task e bytes.length then (s.fputSat (F.TASK_RESP_LAST_TIME l task) (s.respTime e)).sendOut l task bytes
        else s
      .next ((s.setTaskSt l task .finished).takeSnaps l f task)
  | _, _ => .next s

/-- LATE_EXECUTION_END: an execution whose outputs are discarded, because its commit has passed or a mode change dropped
them, has reached its end, and the task is IDLE (R80, R82, R96, R97). -/
def execLateExecutionEnd (l : Lane) (task t : Nat) (s : State) : Host.Outcome State Fault Refusal :=
  let s := s.tick t
  match s.exec? l task with
  | some e =>
    if !e.ended || !(s.taskSt l task == .late || e.discarded) then .next s
    else .next (((s.showRespMax l task e).dropExec l task).setTaskSt l task .idle)
  | none => .next s

/-! ### Modes (R94 to R99) -/

def opModeSet : Nat := 0x0201

/-- Causes of STOP entry, MODE_STAT.STOP_CAUSE. -/
def stopCommand : Nat := 1
def stopOverrun : Nat := 2
def stopHoldExit : Nat := 3

/-- The mode is set, counted and logged (MODE_STAT, R413). -/
def State.putMode (s : State) (m : Mode) : State :=
  let s := (s.fput F.VOTE_CTRL_MODE (modeCode m)).fsat F.MODE_STAT_CHANGES
  (s.logReg 0x0012 codeVote R.MODE_STAT).hostEvent evMode

/-- Every pending event release is discarded (R93). -/
def State.dropAllPending (s : State) : State := s.tasks.foldl (fun s r => s.dropPending r.task) s

/-- Where the mode leaves RUN, every COMMIT fence replies TIMEOUT (R113). -/
def State.endCommitFences (s : State) (was : Mode) : State :=
  if was != .run then s else
  s.ductus.fences.foldl (fun s f => match f.kind with
    | .commit _ => s.fenceReply f stTimeout
    | _ => s) s

/-- The commits that are due are met by none (R96, R97). -/
def State.clearDue (s : State) : State :=
  { s with ductus := { s.ductus with tasks := s.ductus.tasks.map fun b => { b with due := none } } }

/-- One execution of a lane at STOP entry: FINISHED becomes IDLE, one in progress runs on with its outputs discarded
(R96). -/
def State.stopExec (s : State) (l : Lane) (n : Nat) : State :=
  match s.taskSt l n with
  | .finished => (s.dropExec l n).setTaskSt l n .idle
  | .released | .late =>
    match s.exec? l n with
    | some e => s.setExec l n { e with discarded := true }
    | none => s.setTaskSt l n .idle
  | _ => s

/-- Every execution of every lane taken through `k`. -/
def State.eachExec (s : State) (k : State → Lane → Nat → State) : State :=
  allLanes.foldl (fun s l => s.tasks.foldl (fun s r => k s l r.task) s) s

/-- Entry to STOP at the instant now, with its cause and, for an overrun limit, the task (R85, R93, R96, R113). -/
def State.enterStop (s : State) (cause task : Nat) : State :=
  let was := s.modeNow
  let s := (s.fput F.MODE_STAT_STOP_CAUSE cause).fput F.MODE_STAT_TASK task
  let s := s.putMode .stop
  let s := { s with ductus := { s.ductus with stopAt := s.now } }
  let s := (s.eachExec State.stopExec).clearDue
  let s := { s with vote := { s.vote with outs := [] } }
  (s.dropAllPending).endCommitFences was

/-- Entry to HOLD (R94, R93, R113): executions freeze, commits that are due are skipped.
See log entry 29 (DEDUCED). -/
def State.enterHold (s : State) : State :=
  let was := s.modeNow
  let s := s.putMode .hold
  let s := { s with ductus := { s.ductus with holdAt := s.now } }
  (s.dropAllPending).endCommitFences was

/-- One execution of a lane when HOLD is left: a frozen one is LATE until it ends, and its outputs are discarded
(R97). -/
def State.thawExec (s : State) (l : Lane) (n : Nat) : State :=
  match s.exec? l n, s.taskSt l n with
  | some e, .released | some e, .late =>
    (s.setExec l n { e with discarded := true, held := true }).setTaskSt l n .late
  | _, _ => s

/-- The 10 s of a READY lane do not run in HOLD (R65). -/
def State.shiftReady (s : State) (l : Lane) : State :=
  let x := s.lane l
  if s.laneSt l == .ready then
    s.setLane l { x with readyAt := x.readyAt + (s.now - max s.ductus.holdAt x.readyAt) }
  else s

/-- A commit instant that falls in HOLD is skipped: a FINISHED execution becomes IDLE, its object is dropped, and no
overrun is counted (R80, R94, R97). See log entry 29 (DEDUCED). -/
def State.skipCommit (s : State) (n : Nat) : State :=
  let s := s.setBook { s.book n with due := none }
  let s := { s with vote := { s.vote with outs := s.vote.outs.filter (·.task != n) } }
  allLanes.foldl (fun s l => if s.taskSt l n == .finished then (s.dropExec l n).setTaskSt l n .idle else s) s

/-- The commits whose instants have passed in HOLD are skipped. -/
def State.skipCommits (s : State) : State :=
  s.tasks.foldl (fun s r => match (s.book r.task).due with
    | some (c, _) => if c ≤ s.now then s.skipCommit r.task else s
    | none => s) s

/-- An execution of a task is frozen in a lane: HOLD was entered before it finished (R97). -/
def State.frozen (s : State) (l : Lane) (n : Nat) : Bool :=
  match s.exec? l n, s.taskSt l n with
  | some _, .released | some _, .late => true
  | _, _ => false

/-- The commits of the tasks whose executions are frozen are met by none and are no overruns (R97). -/
def State.skipFrozen (s : State) : State :=
  s.tasks.foldl (fun s r => if s.voters.any (s.frozen · r.task) then s.skipCommit r.task else s) s

/-- HOLD is left (R65, R97). -/
def State.leaveHold (s : State) : State :=
  (((allLanes.foldl State.shiftReady s).skipCommits).skipFrozen).eachExec State.thawExec

/-- A task's bookkeeping at RUN entry from STOP: no overruns in a row, and its next execution is the first (R81, R141,
R142). -/
def bookRunEntry (b : TaskBook) : TaskBook := { b with consec := 0, firstNext := true, due := none }

/-- Every task's bookkeeping at RUN entry from STOP. -/
def State.booksRunEntry (s : State) : State :=
  s.tasks.foldl (fun (s : State) r =>
    (s.setBook (bookRunEntry (s.book r.task))).putTask F.TASK_STAT_CONSEC r.task 0) s

/-- Entry to RUN at the instant now (R75, R81, R94). -/
def State.enterRun (s : State) (fromStop : Bool) : State :=
  let s := s.fput F.MODE_RUN_ENTRY_SECONDS (secOf s.now)
  let s := { s with ductus := { s.ductus with runEntry := some s.now } }
  let s := if fromStop then s.booksRunEntry else s
  s.putMode .run

/-- A mode change takes effect now: a change that names the mode in force changes nothing (R95). -/
def State.changeMode (s : State) (m : Mode) : State :=
  if s.modeNow == m || s.flag F.VOTE_CTRL_FAILED then s else
  match s.modeNow, m with
  | .stop, .run => s.enterRun true
  | .hold, .run => (s.leaveHold).enterRun false
  | .hold, .stop => (s.leaveHold).enterStop stopHoldExit 0
  | _, .stop => s.enterStop stopCommand 0
  | _, .hold => s.enterHold
  | _, .run => s

/-- One accepted mode change takes effect, and its MODE_SET is answered; a waiting switch without a candidate is
searched again (R95, R177). -/
def State.takeMode (s : State) (p : PendMode) : State :=
  let s := { s with ductus := { s.ductus with modes := s.ductus.modes.filter (· != p) } }
  let s := s.changeMode p.target
  let s := s.researchSeam s.now
  match p.cmd with
  | some c => s.replyOk c opModeSet
  | none => s

/-- 1 ms. -/
def ms1 : Nat := 1000000

/-- The instant of a mode change accepted at `a` (R95). -/
def modeInstant (m : Mode) (a : Nat) : Nat :=
  match m with
  | .run => gridAtOrAfter ms1 (a + 200000)
  | _ => gridUp (a + us20)

/-- A mode change put into the order of instants, after those of the same instant. -/
def insertMode (p : PendMode) : List PendMode → List PendMode
  | [] => [p]
  | q :: qs => if q.instant ≤ p.instant then q :: insertMode p qs else p :: q :: qs

/-- A mode change is accepted at `a` and waits for its instant; the active announces it to its standby (R95, R417).
See log entry 29 (DEDUCED). -/
def State.pendMode (s : State) (m : Mode) (a : Nat) (c : Option Cmd) : State :=
  let s := { s with ductus := { s.ductus with modes := insertMode ⟨m, modeInstant m a, c⟩ s.ductus.modes } }
  let s := if s.copies then s.cbSend [cbSchedule whatMode phAnnounce (modeCode m) 0 (modeInstant m a)] else s
  s.researchSeam s.now

/-- The replies of R99 and R417. -/
def modeOwn (m : Mode) (c : Cmd) (s : State) : Verdict :=
  refuseIf (byteAt c.params 0 != modeCode m || !allZero (slice c.params 1 7)) stBadParam noIndex <|
  refuseIf (m == .run && s.folio.running.isNone) stBadParam noIndex <|
  refuseIf (m == .hold && s.lifecycle != lcBench) stBadParam noIndex <|
  refuseIf s.notActing stRole noIndex .accept

/-- MODE_SET with MODE `m` (R95, R99). -/
def State.modeSet (s : State) (m : Mode) (c : Cmd) (t : Nat) : State :=
  s.runLane c t opModeSet lvlOperate (c.params.length == 8) (modeOwn m c) (fun s a => s.pendMode m a (some c))

/-- MODE_SET_STOP (R95). -/
def execModeSetStop (c : Cmd) (t : Nat) (s : State) : Host.Outcome State Fault Refusal := .next (s.modeSet .stop c t)

/-- MODE_SET_RUN (R95, R99). -/
def execModeSetRun (c : Cmd) (t : Nat) (s : State) : Host.Outcome State Fault Refusal := .next (s.modeSet .run c t)

/-- MODE_SET_HOLD (R95, R99). -/
def execModeSetHold (c : Cmd) (t : Nat) (s : State) : Host.Outcome State Fault Refusal := .next (s.modeSet .hold c t)

/-! ### Fences (R110 to R113) -/

/-- The parameters of a FENCE: KIND, MASK and INSTANT (R405). -/
def fenceMask (c : Cmd) : Nat := leAt c.params 8 8
def fenceInstant (c : Cmd) : Nat := leAt c.params 16 8

/-- KIND and the fields that are 0 for it (R405). -/
def fenceParamsOk (c : Cmd) (kind : Nat) : Bool :=
  byteAt c.params 0 == kind && allZero (slice c.params 1 7) && (kind == 2 || fenceMask c == 0) && (kind == 3 || fenceInstant c == 0)

/-- The task numbers of a mask. -/
def maskTasks (m : Nat) : List Nat := (List.range 64).filter (natBit m)

/-- The tasks that a COMMIT fence waits for: those of its mask, or every declared one (R110). -/
def State.fenceTasks (s : State) (c : Cmd) : List Nat :=
  if fenceMask c == 0 then s.tasks.map (·.task) else maskTasks (fenceMask c)

/-- A mask names only declared tasks, and 0 needs a running folio (R113). -/
def State.fenceMaskOk (s : State) (c : Cmd) : Bool :=
  if fenceMask c == 0 then s.folio.running.isSome else (maskTasks (fenceMask c)).all fun n => (s.taskRec n).isSome

/-- A fence waits in its queue (R110). -/
def State.addFence (s : State) (c : Cmd) (a : Nat) (k : FenceKind) : State :=
  { s with ductus := { s.ductus with fences := s.ductus.fences ++ [⟨c, a, k, s.cmdsAhead c⟩] } }

/-- FENCE's own checks for KIND `k` (R113, R405). -/
def fenceOwn (c : Cmd) (k : Nat) (s : State) : Verdict :=
  refuseIf (!fenceParamsOk c k || (k == 2 && !s.fenceMaskOk c)) stBadParam noIndex .accept

/-- FENCE_QUEUE: completes when every command ahead of it in its queue has replied (R110). -/
def execFenceQueue (c : Cmd) (t : Nat) (s : State) : Host.Outcome State Fault Refusal :=
  .next (s.runLane c t opFence lvlObserve (c.params.length == 24)
    (fenceOwn c 1)
    (fun s a => (s.addFence c a .queue).settleQueueFences))

/-- FENCE_COMMIT: completes when every task of its mask has committed an execution released at or after a + 50 µs (R110,
R113). -/
def execFenceCommit (c : Cmd) (t : Nat) (s : State) : Host.Outcome State Fault Refusal :=
  .next (s.runLane c t opFence lvlObserve (c.params.length == 24)
    (fenceOwn c 2)
    (fun s a => s.addFence c a (.commit (s.fenceTasks c))))

/-- 80 µs (R110). -/
def us80 : Nat := 80000

/-- A TIME fence whose instant the time scale has passed by 80 µs completes; an instant that is negative as TIME has
passed (R110). -/
def State.settleTimeFence (s : State) (f : Fence) : State :=
  match f.kind with
  | .time x => if 2 ^ 63 ≤ x || x + us80 ≤ s.now then s.fenceReply f stOk else s
  | _ => s

/-- FENCE_TIME: completes when the time scale reaches T + 80 µs (R110, R112). -/
def execFenceTime (c : Cmd) (t : Nat) (s : State) : Host.Outcome State Fault Refusal :=
  .next (s.runLane c t opFence lvlObserve (c.params.length == 24)
    (fenceOwn c 3)
    (fun s a =>
      let f : Fence := ⟨c, a, .time (fenceInstant c), s.cmdsAhead c⟩
      (s.addFence c a f.kind).settleTimeFence f))

/-- The fence that a queue and a TAG name. -/
def State.fenceOf (s : State) (queue tag : Nat) : Option Fence :=
  s.ductus.fences.find? fun f => f.cmd.queue == queue && f.cmd.tag == tag

/-- TIME_FENCE_EXPIRE: the time scale reaches T + 80 µs (R110). -/
def execTimeFenceExpire (queue tag t : Nat) (s : State) : Host.Outcome State Fault Refusal :=
  let s := s.tick t
  match s.fenceOf queue tag with
  | some f => .next (s.settleTimeFence f)
  | none => .next s

/-- 20.5 s (R113). -/
def fenceSpan : Nat := 20500000000

/-- FENCE_TIMEOUT: a COMMIT fence is not complete within 20.5 s of its acceptance (R113). -/
def execFenceTimeout (queue tag t : Nat) (s : State) : Host.Outcome State Fault Refusal :=
  let s := s.tick t
  match s.fenceOf queue tag with
  | some f =>
    match f.kind with
    | .commit _ => if f.accepted + fenceSpan ≤ s.now then .next (s.fenceReply f stTimeout) else .next s
    | _ => .next s
  | none => .next s

/-- A COMMIT fence after task `n` has committed an execution released at `r`; with no task left it completes (R110,
R113). -/
def State.fenceCommitted (s : State) (n r : Nat) : State :=
  s.ductus.fences.foldl (fun s f => match f.kind with
    | .commit ts =>
      if ts.contains n && decide (f.accepted + gridNs ≤ r) then
        let ts := ts.filter (· != n)
        if ts.isEmpty then s.fenceReply f stOk
        else { s with ductus := { s.ductus with fences := s.ductus.fences.map fun g => if g == f then { f with kind := .commit ts } else g } }
      else s
    | _ => s) s

end Sys2Proof.Machine
end

