-- ==== Sys2Proof/Machine/Diag.lean ====
section
/-! DEFINITION. Reading and writing variables by command (R104, R405, R406), forces (R109), diagnostics (R405, R406,
R531) and LANE_REINTEGRATE (R69). -/

namespace Sys2Proof.Machine

/-! ### VAR_WRITE, FORCE_SET, FORCE_CLEAR, VAR_READ -/

/-- COUNT of a packet whose records of `z` bytes follow an 8-byte head (R405). -/
def packetCount (c : Cmd) : Nat := leAt c.params 0 2

/-- The length fits COUNT records of `z` bytes. -/
def packetLenOk (c : Cmd) (z : Nat) : Bool := decide (8 ≤ c.params.length) && c.params.length == 8 + z * packetCount c

/-- The records of a packet. -/
def packetRecords (c : Cmd) (z : Nat) : List (List Byte) := chunks z (packetCount c) (c.params.drop 8)

/-- A write record: identity, element and value (R405). -/
def writeRecord (r : List Byte) : Nat × Nat × DWord := (leAt r 0 4, leAt r 4 4, BitVec.ofNat 64 (leAt r 8 8))

/-- A write record names a known variable that is no constant, an element in range and a value inside its type (R106,
R405). -/
def writeRecordOk (f : Option Folio) (r : List Byte) : Bool :=
  let (identity, element, value) := writeRecord r
  match f.bind (·.varOf identity) with
  | some v => v.segment != segCon && decide (element < v.count) && regFits v.ty value
  | none => false

/-- VAR_WRITE's own checks (R405, R417): the first bad record is named. -/
def varWriteOwn (c : Cmd) (s : State) : Verdict :=
  let n := packetCount c
  refuseIf (n < 1 || 64 < n || !allZero (slice c.params 2 6)) stBadParam noIndex <|
  match firstBad (fun _ r => writeRecordOk s.folio.running r) [] (packetRecords c 16) with
  | some i => .refuse stBadParam i
  | none => refuseIf s.notActing stRole noIndex .accept

/-- One record of an accepted VAR_WRITE waits for its release, or in STOP and HOLD for the grid (R104, R107). -/
def pendWrite (f : Folio) (c : Cmd) (a : Nat) (i : Nat) (r : List Byte) : PendWrite :=
  let (identity, element, value) := writeRecord r
  { cmd := c, accepted := a, index := i, identity := identity, element := element,
    ty := match f.varOf identity with | some v => v.ty | none => .bool
    value := value }

/-- The records of an accepted VAR_WRITE in the order of R105. -/
def varWriteEffect (c : Cmd) (s : State) (a : Nat) : State :=
  match s.folio.running with
  | none => s.replyErr c opVarWrite stBadParam noIndex
  | some f =>
    let ws := (packetRecords c 16).zipIdx.map fun (r, i) => pendWrite f c a i r
    { s with ductus := { s.ductus with writes := ws.foldl (fun q w => insertWrite w q) s.ductus.writes } }

/-- VAR_WRITE (R104). -/
def execVarWrite (c : Cmd) (t : Nat) (s : State) : Host.Outcome State Fault Refusal :=
  .next (s.runLane c t opVarWrite lvlOperate (packetLenOk c 16) (varWriteOwn c) (varWriteEffect c))

/-- A force may be set on a variable of IN, TGI, OUT or TGO (R405). -/
def forceRecordOk (f : Option Folio) (r : List Byte) : Bool :=
  writeRecordOk f r &&
    match f.bind (·.varOf (writeRecord r).1) with
    | some v => v.segment == segIn || v.segment == segTgi || v.segment == segOut || v.segment == segTgo
    | none => false

/-- FORCE_SET's own checks (R405, R417). -/
def forceSetOwn (c : Cmd) (s : State) : Verdict :=
  refuseIf (!forceRecordOk s.folio.running c.params) stBadParam 0 <|
  refuseIf (!s.standstill) stMoving noIndex <|
  refuseIf s.notActing stRole noIndex <|
  refuseIf (256 ≤ s.ductus.forces.length) stBusy noIndex .accept

/-- The forces without those that a record names. -/
def State.dropForces (s : State) (p : Force → Bool) : State :=
  { s with ductus := { s.ductus with forces := s.ductus.forces.filter fun x => !p x } }

/-- A force is put in place of an earlier one on the same element (R109). -/
def forceSetEffect (c : Cmd) (s : State) (_ : Nat) : State :=
  let (identity, element, value) := writeRecord c.params
  match s.folio.running.bind (·.varOf identity) with
  | none => s.replyErr c opForceSet stBadParam 0
  | some v =>
    let s := s.dropForces fun x => x.identity == identity && x.element == element
    let s := { s with ductus := { s.ductus with forces := s.ductus.forces ++ [(⟨identity, element, v.ty, value⟩ : Force)] } }
    s.replyOk c opForceSet

/-- FORCE_SET (R109, R405). -/
def execForceSet (c : Cmd) (t : Nat) (s : State) : Host.Outcome State Fault Refusal :=
  .next (s.runLane c t opForceSet lvlEngineer (c.params.length == 16) (forceSetOwn c) (forceSetEffect c))

/-- FORCE_CLEAR's own check (R417). -/
def forceClearOwn (s : State) : Verdict := refuseIf s.notActing stRole noIndex .accept

/-- FORCE_CLEAR (R109, R404): one element, every element, or every force. -/
def execForceClear (c : Cmd) (t : Nat) (s : State) : Host.Outcome State Fault Refusal :=
  .next (s.runLane c t opForceClear lvlEngineer (c.params.length == 8)
    forceClearOwn
    (fun s _ =>
      let identity := leAt c.params 0 4
      let element := leAt c.params 4 4
      (s.dropForces fun x => (identity == 0xFFFFFFFF || x.identity == identity) && (element == 0xFFFFFFFF || x.element == element)).replyOk
        c opForceClear))

/-- The items of a VAR_READ: identity, first element, elements (R405). -/
def readItems (c : Cmd) : List (Nat × Nat × Nat) := (packetRecords c 12).map fun r => (leAt r 0 4, leAt r 4 4, leAt r 8 4)

/-- The reply bytes of one item, by its declared size (R406). -/
def itemBytes (f : Option Folio) (it : Nat × Nat × Nat) : Nat :=
  match f.bind (·.varOf it.1) with
  | some v => if v.count < it.2.1 + it.2.2 then 12 else 12 + (it.2.2 * tySize v.ty + 7) / 8 * 8
  | none => 12

/-- VAR_READ's own checks (R405, R406). -/
def varReadOwn (c : Cmd) (s : State) : Verdict :=
  let n := packetCount c
  refuseIf (n < 1 || 64 < n || !allZero (slice c.params 2 6)
    || 65536 < ((readItems c).map (itemBytes s.folio.running)).foldl (· + ·) 0) stBadParam noIndex .accept

/-- An item is read at acceptance: a CON variable, and in RUN an identity that no task owns (R406). -/
def readAtOnce (s : State) (it : Nat × Nat × Nat) : Bool :=
  match s.folio.running.bind (·.varOf it.1) with
  | some v => v.segment == segCon
  | none => s.modeNow == .run && s.folio.running.isSome

/-- VAR_READ (R406). -/
def execVarRead (c : Cmd) (t : Nat) (s : State) : Host.Outcome State Fault Refusal :=
  .next (s.runLane c t opVarRead lvlObserve (packetLenOk c 12) (varReadOwn c)
    (fun s a =>
      let p : PendRead := { cmd := c, accepted := a, items := readItems c, got := [] }
      let s := { s with ductus := { s.ductus with reads := s.ductus.reads ++ [p] } }
      s.settleRead (s.readItems s.voters.head? p (readAtOnce s))))

/-! ### LANE_REINTEGRATE (R69) -/

def opLaneReintegrate : Nat := 0x0102

/-- The lane of a number. -/
def laneOf : Nat → Option Lane
  | 0 => some .a
  | 1 => some .b
  | 2 => some .c
  | _ => none

/-- LANE_REINTEGRATE's own checks: a lane in OUT_LIMIT (R69). -/
def reintegrateOwn (c : Cmd) (s : State) : Verdict :=
  match laneOf (byteAt c.params 0) with
  | some l => refuseIf (!allZero (slice c.params 1 7) || s.laneSt l != .outLimit) stBadParam noIndex .accept
  | none => .refuse stBadParam noIndex

/-- LANE_REINTEGRATE: a lane in OUT_LIMIT starts an attempt at once; any other state is BAD_PARAM (R69). -/
def execLaneReintegrate (c : Cmd) (t : Nat) (s : State) : Host.Outcome State Fault Refusal :=
  .next (s.runLane c t opLaneReintegrate lvlEngineer (c.params.length == 8)
    (reintegrateOwn c)
    (fun s _ => match laneOf (byteAt c.params 0) with
      | some l => if s.laneSt l == .outLimit then (s.enterPowerCycle l).replyOk c opLaneReintegrate
          else s.replyErr c opLaneReintegrate stBadParam noIndex
      | none => s.replyErr c opLaneReintegrate stBadParam noIndex))

/-! ### MODULE_INFO and LOG_READ (R406, R531) -/

def opModuleInfo : Nat := 0x0101
def opLogRead : Nat := 0x0A01

/-- ROLE as MODULE_INFO reports it: 0 single, 1 active, 2 standby (R406). -/
def roleInfo (r : Nat) : Nat := if r == roleActive then 1 else if r == roleSingle then 0 else 2

/-- The reply parameters of MODULE_INFO (R406). -/
def moduleInfo (s : State) (session : Nat) : List Byte :=
  leBytes 4 (s.reg R.SYS_PART).toNat ++ leBytes 4 sysRev ++ leBytes 8 Config.serial.toNat
    ++ leBytes 1 s.lifecycle ++ leBytes 1 (roleInfo s.role) ++ leBytes 1 (s.fget F.VOTE_CTRL_MODE) ++ leBytes 1 (s.fget F.VOTE_CTRL_KIND)
    ++ (match s.folio.running with | some f => padTo 16 f.id | none => zeros 16)
    ++ leBytes 1 (s.level session) ++ zeros 3 ++ leBytes 8 ((s.mono - s.power.releasedAt) / 1000000000)

/-- MODULE_INFO (R406). -/
def execModuleInfo (c : Cmd) (t : Nat) (s : State) : Host.Outcome State Fault Refusal :=
  .next (s.runScribe c t opModuleInfo lvlObserve c.params.isEmpty noCheck
    (fun s => s.scribeReply c opModuleInfo stOk (moduleInfo s c.session)))

/-- The log record of a log sequence, as the ring holds it (R412). -/
def logRecord (s : State) (n : Nat) : List Byte := s.mreadN (logBase + 32 * (n % logRing)) 32

/-- The number of the first log record that LOG_READ returns, how many, and LOST (R531); records are numbered from 0
since SYSTEM reset, and FROM is a number modulo 2^32. -/
def logSpan (s : State) (from_ max : Nat) : Nat × Nat × Bool :=
  let count := s.quill.logCount
  let head := count % 2 ^ 32
  let d := (head + 2 ^ 32 - from_ % 2 ^ 32) % 2 ^ 32
  let k := min count logRing
  if d == 0 || 2 ^ 31 ≤ d then (count, 0, false)
  else if d ≤ k then (count - d, min d max, false)
  else (count - k, min k max, true)

/-- The reply parameters of LOG_READ (R406, R531). -/
def logReply (s : State) (from_ max : Nat) : List Byte :=
  let (first, n, lost) := logSpan s from_ max
  let next := if n == 0 then from_ else (first + n) % 2 ^ 32
  leBytes 2 n ++ leBytes 1 (bit lost) ++ zeros 1 ++ leBytes 4 next
    ++ ((List.range n).map fun i => logRecord s (first + i)).flatten

/-- LOG_READ (R531). -/
def execLogRead (c : Cmd) (t : Nat) (s : State) : Host.Outcome State Fault Refusal :=
  .next (s.runScribe c t opLogRead lvlObserve (c.params.length == 8)
    (fun _ =>
      let n := leAt c.params 4 2
      refuseIf (n < 1 || 2000 < n || !allZero (slice c.params 6 2)) stBadParam noIndex .accept)
    (fun s => s.scribeReply c opLogRead stOk (logReply s (leAt c.params 0 4) (leAt c.params 4 2))))

/-! ### DIAG_SNAPSHOT (R405) -/

/-- Where a register snapshot starts. See log entry 57 (UNVERIFIED). -/
def snapBase : Nat := 0x07800000

/-- The offsets of one row of the register map. -/
def rowOffsets (r : RegRow) : List Nat := (List.range r.count).map fun i => r.base + i * r.stride

/-- Every register copied as readable to 0x0780_0000 plus its BAR0 offset. -/
def State.snapRegisters (s : State) : State :=
  regRows.foldl (fun s r => (rowOffsets r).foldl (fun s off => s.mwrite (snapBase + off) (leBytes 4 (s.heldWord off).toNat)) s) s

/-- DIAG_SNAPSHOT's own checks for REGISTERS and for SLICE (R405). -/
def diagRegsOwn (c : Cmd) (_ : State) : Verdict :=
  refuseIf (byteAt c.params 0 != 1 || !allZero (slice c.params 1 7)) stBadParam noIndex .accept
def diagSliceOwn (c : Cmd) (s : State) : Verdict :=
  let task := byteAt c.params 1
  refuseIf (byteAt c.params 0 != 2 || !allZero (slice c.params 4 4) || (s.taskRec task).isNone
    || s.sliceCount task ≤ leAt c.params 2 2) stBadParam noIndex .accept

/-- DIAG_SNAPSHOT_REGISTERS (R405). -/
def execDiagSnapshotRegisters (c : Cmd) (t : Nat) (s : State) : Host.Outcome State Fault Refusal :=
  .next (s.runLane c t opDiagSnapshot lvlObserve (c.params.length == 8)
    (diagRegsOwn c)
    (fun s _ => (s.snapRegisters).replyOk c opDiagSnapshot))

/-- DIAG_SNAPSHOT_SLICE: the lanes write the slice after the task's next finished execution (R405). -/
def execDiagSnapshotSlice (c : Cmd) (t : Nat) (s : State) : Host.Outcome State Fault Refusal :=
  .next (s.runLane c t opDiagSnapshot lvlObserve (c.params.length == 8)
    (diagSliceOwn c)
    (fun s _ =>
      let p : PendSnap := { cmd := c, task := byteAt c.params 1, slice := leAt c.params 2 2, done := [] }
      { s with ductus := { s.ductus with snaps := s.ductus.snaps ++ [p] } }))

end Sys2Proof.Machine
end

