-- ==== Sys2Proof/Machine/FieldCtl.lean ====
section
/-! DEFINITION. The field controller: its channels and banks, stage commands (R198, R245), the status byte (R209, R229),
what a change of command or of the claim does to a stage and its test (R234, R238, R240), and the blotter state. -/

namespace Sys2Proof.Machine

/-! ### Access -/

/-- The field controller of a group. -/
def State.fc (s : State) : Grp → FcState
  | .g0 => s.fio.fc0
  | .g1 => s.fio.fc1

/-- The field controller of a group replaced. -/
def State.setFc (s : State) : Grp → FcState → State
  | .g0, x => { s with fio := { s.fio with fc0 := x } }
  | .g1, x => { s with fio := { s.fio with fc1 := x } }

/-- The logic side of a group. -/
def State.fioGrp (s : State) : Grp → FioGroup
  | .g0 => s.fio.g0
  | .g1 => s.fio.g1

/-- The logic side of a group replaced. -/
def State.setFioGrp (s : State) : Grp → FioGroup → State
  | .g0, x => { s with fio := { s.fio with g0 := x } }
  | .g1, x => { s with fio := { s.fio with g1 := x } }

/-- The time of a group's field controller (R215). -/
def State.fcTime (s : State) (g : Grp) : Nat := ((s.now : Int) + (s.fc g).skew).toNat

/-- Both groups. -/
def allGroups : List Grp := [.g0, .g1]

/-- The group's field side is powered (R190). -/
def State.fgUp (s : State) (g : Grp) : Bool := s.powered (pdFg g)

/-- Position `p` of a field controller. -/
def FcState.chan (x : FcState) (p : Nat) : FcChan :=
  match x.chans.find? (·.pos == p) with
  | some c => c
  | none => chanReset p

/-- A channel put into the list of positions, in ascending order. -/
def insChan (c : FcChan) : List FcChan → List FcChan
  | [] => [c]
  | d :: ds => if c.pos < d.pos then c :: d :: ds else if c.pos == d.pos then c :: ds else d :: insChan c ds

/-- A channel of a field controller replaced. -/
def FcState.setChan (x : FcState) (c : FcChan) : FcState := { x with chans := insChan c x.chans }

/-- Bank `b` of a field controller. -/
def FcState.bank (x : FcState) (b : Nat) : FcBank := x.banks.getD b bankReset

/-- A bank of a field controller replaced. -/
def FcState.setBank (x : FcState) (b : Nat) (y : FcBank) : FcState := { x with banks := x.banks.set b y }

/-- The bank of a position (R7). -/
def bankOf (p : Nat) : Nat := p / 16

/-- A channel of a group's field controller replaced. -/
def State.setChan (s : State) (g : Grp) (c : FcChan) : State := s.setFc g ((s.fc g).setChan c)

/-! ### Kinds and ligatures (R193, R200) -/

def kInput : Nat := 1
def kOutput : Nat := 2
def kLig2 : Nat := 3
def kLig4 : Nat := 4
def kMember : Nat := 5

/-- An output kind. -/
def isOut (k : Nat) : Bool := decide (2 ≤ k) && decide (k ≤ 5)

/-- An OUTPUT channel or a leader: the kinds that take commands and are tested. -/
def isLead (k : Nat) : Bool := decide (2 ≤ k) && decide (k ≤ 4)

/-- The size of a ligature by its leader's kind; 1 for any other kind. -/
def ligSize (k : Nat) : Nat := if k == kLig2 then 2 else if k == kLig4 then 4 else 1

/-- FLAGS bits of R194. -/
def flagWetting (c : ChanCfg) : Bool := natBit c.flags 0
def flagDark (c : ChanCfg) : Bool := natBit c.flags 1
def flagProbe (c : ChanCfg) : Bool := natBit c.flags 2
def flagRise (c : ChanCfg) : Bool := natBit c.flags 3
def flagFall (c : ChanCfg) : Bool := natBit c.flags 4

/-- The leader of a position: itself, or for a MEMBER the leader of its ligature. -/
def FcState.leader (x : FcState) (p : Nat) : Nat :=
  if (x.chan p).cfg.kind != kMember then p
  else if (x.chan (p - p % 4)).cfg.kind == kLig4 then p - p % 4 else p - p % 2

/-! ### Stage commands (R198, R242, R245) -/

/-- The command that BLOTTER gives (R245). -/
def blotterCmd (c : ChanCfg) (last : Bool) : Bool := if c.blotter == 1 then last else c.blotter == 2

/-- The stage command of a position: the frame's command of its leader, or the blotter state (R198, R200, R245). -/
def FcState.stageCmd (x : FcState) (p : Nat) : Bool :=
  let q := x.leader p
  let c := x.chan q
  isLead c.cfg.kind && (if x.blotter then blotterCmd c.cfg (natBit x.cmd q) else natBit x.cmd q)

/-- A bank drives its outputs: supplied by its switch, and past the first APPLY instant after a restore (R242). -/
def FcBank.drives (b : FcBank) : Bool := !b.cut && !b.waitApply

/-- The stage of a position is on: commanded, with the claim, not disabled, its bank driving, not latched off, and in no
dark pulse (R198, R232, R236, R240, R242). -/
def FcState.stageOn (x : FcState) (p : Nat) : Bool :=
  let c := x.chan (x.leader p)
  x.stageCmd p && x.claim && !x.disable && (x.bank (bankOf p)).drives && !c.latched
    && !(match c.test with | some t => t.dark | none => false)

/-! ### The status byte (R209, R229) -/

/-- Bank `b` is supplied by configuration. -/
def FcState.used (x : FcState) (b : Nat) : Bool := natBit x.banksUsed b

/-- WARN and CUT of a bank as reported: an unused bank reports neither (R241). -/
def FcState.warn (x : FcState) (b : Nat) : Bool := x.used b && (x.bank b).warn
def FcState.cut (x : FcState) (b : Nat) : Bool := x.used b && (x.bank b).cut

/-- STATE of a position: the filtered state of an input, the readback or raw comparison of any other (R193). -/
def FcChan.state (c : FcChan) : Bool := if c.cfg.kind == kInput then c.filtered else c.raw

/-- VALID (R229, R227, R243). -/
def FcState.valid (x : FcState) (p : Nat) : Bool :=
  let b := bankOf p
  let c := x.chan p
  c.cfg.kind != 0 && !x.warn b && !x.cut b && !(x.used b && (x.bank b).validHold.isSome) && c.hold.isNone

/-- A number from bits, least significant first. -/
def natOfBits : List Bool → Nat
  | [] => 0
  | b :: bs => bit b + 2 * natOfBits bs

/-- The status byte of a position; STATE is the tick sample (R209, R229). -/
def FcState.status (x : FcState) (p : Nat) : Nat :=
  let c := x.chan p
  let o := isOut c.cfg.kind
  natOfBits [natBit x.tick p, x.valid p, x.warn (bankOf p), x.cut (bankOf p), o && x.claim && (x.chan (x.leader p)).overload,
    o && c.openLoad, o && c.extDrive, o && !x.claim]

/-! ### Tests (R230 to R234) -/

/-- 1 s in ns. -/
def sec1 : Nat := 1000000000

/-- The result of a test is recorded: LAST_TEST, and DONE or INCOMPLETE (FIO_TEST, CH_FAULT). -/
def State.testResult (s : State) (g : Grp) (p result : Nat) : State :=
  let s := s.fput (F.CH_FAULT_LAST_TEST g p) result
  if result == 7 then s.fsat (F.FIO_TEST_INCOMPLETE g) else s.finc (F.FIO_TEST_DONE g)

/-- INCOMPLETE (CH_FAULT.LAST_TEST). -/
def testIncomplete : Nat := 7

/-- The channel after its test or repeat has ended INCOMPLETE: a first failure is forgotten (R232, R248). -/
def chanIncomplete (c : FcChan) : FcChan := { c with test := none, firstFail := 0, repeatAt := none }

/-- A test in progress ends at once as INCOMPLETE (R234). -/
def State.abandonTest (s : State) (g : Grp) (p : Nat) : State :=
  let c := (s.fc g).chan p
  if c.test.isNone then s else (s.setChan g (chanIncomplete c)).testResult g p testIncomplete

/-! ### A change of the field controller's state -/

/-- The instants from which tests are due for a channel that becomes an output or whose group gains the claim (R230).
See log entry 37 (DEDUCED). -/
def firstDue (c : ChanCfg) (now : Nat) : Option Nat :=
  if isLead c.kind && (flagDark c || flagProbe c) then some (now + sec1) else none

/-- The overload of a stage ends with its command or the claim; one in thermal shutdown stays off until it has cooled
(R236, R240). -/
def chanUnlatch (c : FcChan) : FcChan := { c with overload := false, latched := c.hot, retrying := none }

/-- One position after a change from `x` to `y`: turning off or on by command (R234, R236, R238), losing or gaining the
claim (R230, R240). -/
def chanChange (x y : FcState) (now : Nat) (c : FcChan) : FcChan :=
  let p := c.pos
  let was := x.stageCmd p
  let is_ := y.stageCmd p
  let c := if was && !is_ then { chanUnlatch c with offAt := now } else c
  let c := if !was && is_ then { c with extDrive := c.extDrive && c.extByDark, overload := c.overload || c.latched } else c
  let c := if x.claim && !y.claim then
      { chanUnlatch c with extDrive := false, extByDark := false, due := none, firstFail := 0, repeatAt := none }
    else c
  if !x.claim && y.claim then { c with due := firstDue c.cfg now } else c

/-- A test in progress that the change ends (R234): a dark pulse whose command turns off, a probe whose command turns on,
and any test when the bank no longer drives, the claim is lost or DISABLE is set. -/
def testEnds (x y : FcState) (p : Nat) : Bool :=
  match (y.chan p).test with
  | none => false
  | some t =>
    (if t.dark then !y.stageCmd p else y.stageCmd p) || !(y.bank (bankOf p)).drives || (x.claim && !y.claim)
      || (!x.disable && y.disable)

/-- The field controller of a group changes from what it is to `y`; every output position follows. -/
def State.fcUpdate (s : State) (g : Grp) (y : FcState) : State :=
  let x := s.fc g
  let outs := y.chans.filter fun c => decide (c.pos < 128) && (isOut c.cfg.kind || isOut (x.chan c.pos).cfg.kind)
  let ended := outs.filter fun c => testEnds x y c.pos
  let started := outs.filter fun c => isLead c.cfg.kind && !x.stageCmd c.pos && y.stageCmd c.pos
  let s := s.setFc g { y with chans := y.chans.map fun c => if isOut c.cfg.kind then chanChange x y s.now c else c }
  let s := ended.foldl (fun s c => s.abandonTest g c.pos) s
  started.foldl (fun s c => s.finc (F.CH_CNT_COUNT g c.pos)) s

/-! ### The blotter state (R244 to R247) -/

/-- Causes, FIO_BLOTTER.CAUSE. -/
def blotSilence : Nat := 1
def blotFrame : Nat := 2
def blotHalt : Nat := 3

/-- The field controller applies the blotter state; while it applies already, nothing changes (R246, R248). -/
def State.enterBlotter (s : State) (g : Grp) (cause : Nat) : State :=
  if (s.fc g).blotter then s else
  let s := s.fcUpdate g { s.fc g with blotter := true }
  let s := (s.fput (F.FIO_BLOTTER_CAUSE g) cause).fsat (F.FIO_BLOTTER_ENTRIES g)
  (s.logReg 0x0020 codeFio (R.FIO_BLOTTER g)).hostEvent (evGroup g)

/-! ### Bank events (R239, R241, R242) -/

/-- Causes of a cut, FIO_BANK_EVT.CUT_CAUSE. -/
def cutUnder : Nat := 1
def cutStage : Nat := 2

/-- Event 0x0021: the module's bank number, then FIO_BANK_EVT (R413). See log entry 38 (DEDUCED). -/
def State.logBank (s : State) (g : Grp) (b : Nat) : State :=
  s.log 0x0021 codeFio (leBytes 1 (8 * g.idx + b) ++ leBytes 4 (s.reg (R.FIO_BANK_EVT g b)).toNat)

/-- A bank is cut: its output supply switch opens (R239, R242). -/
def State.cutBank (s : State) (g : Grp) (b cause : Nat) : State :=
  let x := s.fc g
  let k := x.bank b
  let was := k.cut
  let k := { k with cut := true, waitApply := false, restoreSince := none, latched := k.latched || cause == cutStage }
  let s := s.fcUpdate g (x.setBank b k)
  let s := if was then s else (s.fsat (F.FIO_BANK_EVT_CUTS g b)).hostEvent (evGroup g)
  (s.fput (F.FIO_BANK_EVT_CUT_CAUSE g b) cause).fput (F.FIO_BANK_EVT_LATCHED g b) (bit k.latched)

/-- A stage fault cuts the bank and names the stage (R239). -/
def State.stageFault (s : State) (g : Grp) (p : Nat) : State :=
  let b := bankOf p
  if ((s.fc g).bank b).latched then s else
  let s := (s.cutBank g b cutStage).fput (F.FIO_BANK_EVT_STAGE_POS g b) (p % 16)
  s.logBank g b

end Sys2Proof.Machine
end

