-- ==== Sys2Proof/Machine/Supervision.lean ====
section
/-! DEFINITION. What a field controller does on its own: inputs (R203 to R207, R227), bank supplies (R241 to R243), test
pulses (R230 to R234), faults (R235 to R239), silence and HALT (R244, R246). A group whose field side is off does
nothing. -/

namespace Sys2Proof.Machine

/-! ### Inputs -/

/-- 1 µs, 1 ms and the bounds of R205. -/
def us1 : Nat := 1000
def ns1ms : Nat := 1000000

/-- FILTER of a channel in ns (R194). -/
def filterNs (c : ChanCfg) : Nat := c.filter * 100000

/-- A filtered edge: the filtered state becomes the raw one, stamped with the 1 µs read on the field controller's
time (R206, R207, R215, CH_CNT). -/
def State.filterEdge (s : State) (g : Grp) (p : Nat) : State :=
  let x := s.fc g
  let c := x.chan p
  let e : FcEdge := ⟨p, c.raw, s.fcTime g - s.fcTime g % us1⟩
  let x := x.setChan { c with filtered := c.raw, run := none }
  (s.setFc g { x with edges := x.edges ++ [e] }).finc (F.CH_CNT_COUNT g p)

/-- What the comparator of a pin reads: between 5 V and 11 V the raw state is undefined (R203), a free value.
See log entry 36 (DEDUCED). -/
def pinRaw (s : State) (v : Pin) : Bool :=
  match v with
  | .high => true
  | .low => false
  | .mid => s.freeWord.getLsbD 0

/-- A wetting pulse starts at a raw transition, unless one started within the last 20 ms (R205). -/
def wet (c : FcChan) (now : Nat) : FcChan :=
  let open_ := match c.wetAt with
    | some w => decide (w + 20 * ns1ms ≤ now)
    | none => true
  if c.cfg.kind == kInput && flagWetting c.cfg && open_ then { c with wetAt := some now, wetting := true } else c

/-- A channel after a 1 µs read that finds its pin at level `v`, read as `raw` (R203, R205, R206, R232). -/
def chanRead (c : FcChan) (v : Pin) (raw : Bool) (now : Nat) : FcChan :=
  let moved := raw != c.raw
  let c := { c with pin := v, pinAt := if v == c.pin then c.pinAt else now, raw := raw }
  let c := if moved then wet c now else c
  let c := if c.cfg.kind != kInput || c.hold.isSome then c
    else if raw == c.filtered then { c with run := none }
    else { c with run := some (c.run.getD now) }
  match c.test with
  | some t => if v == .low then { c with test := some { t with sawLow := true } } else c
  | none => c

/-- RAW_TRANSITION: a 1 µs read finds a new level on a pin (R205, R206); with FILTER 0 the filtered state changes at
once. -/
def execRawTransition (g : Grp) (p : Nat) (level : Pin) (t : Nat) (s : State) : Host.Outcome State Fault Refusal :=
  let s := s.tick t
  if !s.fgUp g || 128 ≤ p then .next s else
  let raw := pinRaw s level
  let s := if level == .mid then s.spent else s
  let c := chanRead ((s.fc g).chan p) level raw s.now
  let s := s.setChan g c
  if c.run.isSome && c.cfg.filter == 0 then .next (s.filterEdge g p) else .next s

/-- INPUT_FILTER_EXPIRE: the raw state has differed for the FILTER time (R206). -/
def execInputFilterExpire (g : Grp) (p t : Nat) (s : State) : Host.Outcome State Fault Refusal :=
  let s := s.tick t
  let c := (s.fc g).chan p
  match c.run with
  | some r =>
    if s.fgUp g && c.cfg.kind == kInput && c.hold.isNone && decide (r + filterNs c.cfg ≤ s.now) then .next (s.filterEdge g p)
    else .next s
  | none => .next s

/-- STATE of positions 0 to 127 of a field controller, now. -/
def FcState.stateNow (x : FcState) : Nat := natOfBits ((List.range 128).map fun p => (x.chan p).state)

/-- 10 µs. -/
def us10 : Nat := 10000

/-- The runs of ticks at which a readback reads 11 V or more, and 5 V or less, after a tick at `now` (R238). -/
def chanTick (now : Nat) (c : FcChan) : FcChan :=
  { c with
    highTick := if c.pin == .high then some (c.highTick.getD now) else none
    lowTick := if c.pin == .low then some (c.lowTick.getD now) else none }

/-- The field controller's 10 µs tick: the filtered states and readbacks are latched, and the readbacks evaluated (R206,
R208, R238). -/
def FcState.sample (x : FcState) (now : Nat) : FcState := { x with tick := x.stateNow, chans := x.chans.map (chanTick now) }

/-- INPUT_TICK_SAMPLE: on 10 µs ticks aligned to the grid of its own time each field controller takes its sample (R206,
R208). -/
def execInputTickSample (t : Nat) (s : State) : Host.Outcome State Fault Refusal :=
  let s := s.tick t
  .next (allGroups.foldl (fun s g =>
    if s.fgUp g && s.fcTime g % us10 == 0 then s.setFc g ((s.fc g).sample s.now) else s) s)

/-- WETTING_PULSE_END: 2 ms after its start the sink limit returns to normal (R205). -/
def execWettingPulseEnd (g : Grp) (p t : Nat) (s : State) : Host.Outcome State Fault Refusal :=
  let s := s.tick t
  let c := (s.fc g).chan p
  match c.wetAt with
  | some w => if c.wetting && decide (w + 2 * ns1ms ≤ s.now) then .next (s.setChan g { c with wetting := false }) else .next s
  | none => .next s

/-- VALID_HOLDOFF_EXPIRE: the hold-off after a change of kind ends; the filtered state is set to the raw state with no
edge (R227). -/
def execValidHoldoffExpire (g : Grp) (p t : Nat) (s : State) : Host.Outcome State Fault Refusal :=
  let s := s.tick t
  let c := (s.fc g).chan p
  match c.hold with
  | some h =>
    if h ≤ s.now && s.fgUp g then .next (s.setChan g { c with hold := none, filtered := c.raw, run := none }) else .next s
  | none => .next s

/-! ### Bank supplies (R241 to R243) -/

/-- Thresholds in units of 10 mV. -/
def warnAt : Nat := 1800
def warnOff : Nat := 1830
def cutAt : Nat := 1400
def restoreAt : Nat := 1650

/-- Since when a condition has held at every measurement. -/
def since (holds : Bool) (was : Option Nat) (now : Nat) : Option Nat :=
  if holds then some (was.getD now) else none

/-- The counts of a bank after one measurement. -/
def measured (b : FcBank) (v now : Nat) : FcBank :=
  { b with
    volts := v
    warnRun := if v ≤ warnAt then b.warnRun + 1 else 0
    cutRun := if v ≤ cutAt then b.cutRun + 1 else 0
    clearSince := since (warnOff ≤ v) b.clearSince now
    restoreSince := since (restoreAt ≤ v) b.restoreSince now }

/-- BANK_SUPPLY_MEASURE: a 10 µs measurement of L+b; two in a row at or below a threshold enter WARN or CUT (R241,
R242). A bank that is not used is only measured. See log entry 39 (DESIGN CHOICE). -/
def execBankSupplyMeasure (g : Grp) (b volts t : Nat) (s : State) : Host.Outcome State Fault Refusal :=
  let s := s.tick t
  let x := s.fc g
  if !s.fgUp g || 8 ≤ b then .next s else
  let k := measured (x.bank b) volts s.now
  if !x.used b then .next (s.setFc g (x.setBank b { k with warnRun := 0, cutRun := 0 })) else
  let toWarn := !k.warn && 2 ≤ k.warnRun
  let toCut := !k.cut && 2 ≤ k.cutRun
  let s := s.setFc g (x.setBank b (if toWarn then { k with warn := true, validHold := none } else k))
  let s := if toWarn then s.fsat (F.FIO_BANK_EVT_WARNS g b) else s
  let s := if toCut then s.cutBank g b cutUnder else s
  .next (if toWarn || toCut then s.logBank g b else s)

/-- BANK_WARN_CLEAR: L+b at or above 18.3 V at every measurement for 1 ms (R241). -/
def execBankWarnClear (g : Grp) (b t : Nat) (s : State) : Host.Outcome State Fault Refusal :=
  let s := s.tick t
  let k := (s.fc g).bank b
  match k.clearSince with
  | some r =>
    if k.warn && decide (r + ns1ms ≤ s.now) then .next (s.setFc g ((s.fc g).setBank b { k with warn := false, validHold := some s.now }))
    else .next s
  | none => .next s

/-- BANK_RESTORE: L+b at or above 16.5 V at every measurement for 10 ms ends a cut that is not latched; the outputs wait
for the next APPLY instant, in the blotter state too (R241, R242, R248). -/
def execBankRestore (g : Grp) (b t : Nat) (s : State) : Host.Outcome State Fault Refusal :=
  let s := s.tick t
  let x := s.fc g
  let k := x.bank b
  match k.restoreSince with
  | some r =>
    if k.cut && !k.latched && decide (r + 10 * ns1ms ≤ s.now) then
      .next (s.setFc g (x.setBank b { k with cut := false, cutRun := 0, waitApply := true, restoredAt := s.now }))
    else .next s
  | none => .next s

/-- BANK_VALID_RESUME: 1 ms after WARN cleared VALID returns (R243). -/
def execBankValidResume (g : Grp) (b t : Nat) (s : State) : Host.Outcome State Fault Refusal :=
  let s := s.tick t
  let k := (s.fc g).bank b
  match k.validHold with
  | some r => if r + ns1ms ≤ s.now then .next (s.setFc g ((s.fc g).setBank b { k with validHold := none })) else .next s
  | none => .next s

/-! ### Test pulses (R230 to R234, R248) -/

/-- A test runs in a bank. -/
def FcState.bankBusy (x : FcState) (b : Nat) : Bool := x.chans.any fun c => bankOf c.pos == b && c.test.isSome

/-- An instant that is kept has come. -/
def reached (d : Option Nat) (now : Nat) : Bool :=
  match d with
  | some d => decide (d ≤ now)
  | none => false

/-- A lower position of the bank has a test or a repeat that waits (R231). -/
def FcState.lowerWaits (x : FcState) (p now : Nat) : Bool :=
  x.chans.any fun c => bankOf c.pos == bankOf p && decide (c.pos < p) && (reached c.due now || reached c.repeatAt now)

/-- A test of position `p` may start now: a grid instant of the field controller's time, its bank free, and no lower
position waiting (R231). -/
def State.testMayStart (s : State) (g : Grp) (p : Nat) : Bool :=
  s.fcTime g % gridNs == 0 && !(s.fc g).bankBusy (bankOf p) && !(s.fc g).lowerWaits p s.now

/-- The next test after one that starts, or would, at `t` (R230). See log entry 37 (DEDUCED). -/
def nextDue (c : ChanCfg) (t : Nat) : Option Nat := some (t + c.testS * sec1)

/-- The bank of a position is in WARN or CUT (R248). -/
def FcState.supplyBad (x : FcState) (p : Nat) : Bool := x.warn (bankOf p) || x.cut (bankOf p)

/-- A test that falls due and cannot be run: INCOMPLETE, and the next is due TEST_S later (R248).
See log entry 37 (DEDUCED). -/
def State.testSkipped (s : State) (g : Grp) (p d : Nat) : State :=
  let c := (s.fc g).chan p
  (s.setChan g { c with due := nextDue c.cfg d }).testResult g p testIncomplete

/-- A dark pulse or a probe starts now. -/
def State.startTest (s : State) (g : Grp) (p : Nat) (dark : Bool) : State :=
  let c := (s.fc g).chan p
  s.setChan g { c with test := some ⟨dark, s.now, c.pin == .low⟩ }

/-- TEST_DUE: the channel's test has fallen due (R230). With its bank free it starts at a grid instant, lower positions
first (R231); in WARN or CUT, under DISABLE or latched off it is INCOMPLETE (R234, R248); with the flag of the stage's
state clear, or a probe whose pin reads high at its start instant, none runs (R230, R233). -/
def execTestDue (g : Grp) (p t : Nat) (s : State) : Host.Outcome State Fault Refusal :=
  let s := s.tick t
  let x := s.fc g
  let c := x.chan p
  match c.due with
  | none => .next s
  | some d =>
    if !s.fgUp g || s.now < d || !isLead c.cfg.kind || !x.claim then .next s
    else if x.supplyBad p || x.disable || (c.latched && flagDark c.cfg) then .next (s.testSkipped g p d)
    else
      let dark := x.stageCmd p
      if !(if dark then flagDark c.cfg else flagProbe c.cfg) then .next (s.setChan g { c with due := nextDue c.cfg d })
      else if !s.testMayStart g p then .next s
      else if !dark && c.pin == .high then .next (s.setChan g { c with due := nextDue c.cfg s.now })
      else .next ((s.setChan g { c with due := nextDue c.cfg s.now }).startTest g p dark)

/-- Results, CH_FAULT.LAST_TEST. -/
def darkPass : Nat := 1
def darkFailExt : Nat := 2
def darkFailStage : Nat := 3
def probeLoad : Nat := 4
def probeOpen : Nat := 5
def probeUndecided : Nat := 6

/-- The result of a dark pulse that ends now (R232): `over20` is whether the stage current is above 20 mA. -/
def darkResult (c : FcChan) (k : ChanTest) (over20 : Bool) (now : Nat) : Nat :=
  if k.sawLow then darkPass
  else if c.pin == .high && decide (c.pinAt + 50 * us1 ≤ now) then (if over20 then darkFailStage else darkFailExt)
  else testIncomplete

/-- EXTERNAL_DRIVE sets (CH_FAULT.EXT_DRIVES). -/
def State.setExtDrive (s : State) (g : Grp) (p : Nat) (dark : Bool) : State :=
  let c := (s.fc g).chan p
  let s := s.setChan g { c with extDrive := true, extByDark := c.extByDark || dark }
  if c.extDrive then s else s.fsat (F.CH_FAULT_EXT_DRIVES g p)

/-- The dark pulse of a channel ends with a result: a first failure is repeated 100 ms later, a second of the same kind
sets EXTERNAL_DRIVE or is a stage fault, a pass clears (R232). See log entry 37 (DEDUCED). -/
def State.darkEnd (s : State) (g : Grp) (p result : Nat) : State :=
  let c := (s.fc g).chan p
  let s := s.testResult g p result
  if result == testIncomplete then s.setChan g (chanIncomplete c)
  else if result == darkPass then
    s.setChan g { chanIncomplete c with extDrive := c.extDrive && !c.extByDark, extByDark := false }
  else if c.firstFail == 0 then
    s.setChan g { c with test := none, firstFail := result, repeatAt := some (gridUp (s.now + 100 * ns1ms)) }
  else if c.firstFail == result then
    let s := s.setChan g (chanIncomplete c)
    if result == darkFailExt then s.setExtDrive g p true else s.stageFault g p
  else s.setChan g (chanIncomplete c)

/-- DARK_PULSE_END: DARK_US after its start the pulse ends with its result, and the stage returns to its command
(R232). -/
def execDarkPulseEnd (g : Grp) (p : Nat) (over20 : Bool) (t : Nat) (s : State) : Host.Outcome State Fault Refusal :=
  let s := s.tick t
  let c := (s.fc g).chan p
  match c.test with
  | some k =>
    if k.dark && decide (k.start + c.cfg.darkUs * us1 ≤ s.now) then .next (s.darkEnd g p (darkResult c k over20 s.now))
    else .next s
  | none => .next s

/-- DARK_PULSE_REPEAT: the pulse that failed first is repeated; with its bank in WARN or CUT, or its stage no longer on,
the repeat is INCOMPLETE and the first failure forgotten (R232, R248). -/
def execDarkPulseRepeat (g : Grp) (p t : Nat) (s : State) : Host.Outcome State Fault Refusal :=
  let s := s.tick t
  let x := s.fc g
  let c := x.chan p
  match c.repeatAt with
  | some r =>
    if s.now < r || c.test.isSome then .next s
    else if x.supplyBad p || !x.stageOn p then .next ((s.setChan g (chanIncomplete c)).testResult g p testIncomplete)
    else if !s.testMayStart g p then .next s
    else .next ((s.setChan g { c with repeatAt := none }).startTest g p true)
  | none => .next s

/-- OPEN_LOAD sets, counted when it was clear. -/
def State.setOpenLoad (s : State) (g : Grp) (p : Nat) (byOn : Bool) : State :=
  let c := (s.fc g).chan p
  let s := s.setChan g { c with openLoad := true, openByOn := byOn }
  if c.openLoad then s else s.fsat (F.CH_FAULT_OPEN_LOADS g p)

/-- PROBE_END: 100 µs after its start the readback decides the probe (R233). -/
def execProbeEnd (g : Grp) (p t : Nat) (s : State) : Host.Outcome State Fault Refusal :=
  let s := s.tick t
  let c := (s.fc g).chan p
  match c.test with
  | some k =>
    if k.dark || s.now < k.start + 100 * us1 then .next s
    else
      let s := s.setChan g { c with test := none }
      match c.pin with
      | .low => .next ((s.setChan g { c with test := none, openLoad := false, openByOn := false }).testResult g p probeLoad)
      | .high => .next ((s.setOpenLoad g p false).testResult g p probeOpen)
      | .mid => .next (s.testResult g p probeUndecided)
  | none => .next s

/-! ### Faults (R235 to R239) -/

/-- A stage is latched off for overload: its ligature as one, retried every 1 s, and after a thermal shutdown (`hot`) only
when it has cooled (R236). Without the claim OVERLOAD stays 0 (R240). -/
def State.latchOff (s : State) (g : Grp) (p : Nat) (hot : Bool) : State :=
  let q := (s.fc g).leader p
  let s := s.abandonTest g q
  let c := (s.fc g).chan q
  let s := s.setChan g { c with
    latched := true, hot := c.hot || hot, overload := (s.fc g).claim, retrying := none, retryAt := gridUp (s.now + sec1) }
  s.fsat (F.CH_FAULT_OVERLOADS g q)

/-- OVERLOAD_LATCH: a stage that is on has been in current limit for 10 ms (R236). -/
def execOverloadLatch (g : Grp) (p t : Nat) (s : State) : Host.Outcome State Fault Refusal :=
  let s := s.tick t
  if s.fgUp g && (s.fc g).stageOn p then .next (s.latchOff g p false) else .next s

/-- THERMAL_SHUTDOWN: the junction reaches 150 °C and the stage turns off at once (R236). -/
def execThermalShutdown (g : Grp) (p t : Nat) (s : State) : Host.Outcome State Fault Refusal :=
  let s := s.tick t
  if s.fgUp g && isOut ((s.fc g).chan p).cfg.kind then .next (s.latchOff g p true) else .next s

/-- OVERLOAD_RETRY: while the command stays on, a latched stage is retried at a grid instant every 1 s, after a thermal
shutdown only when cooled; a retry that has run 100 ms without current limit clears OVERLOAD (R236). A retry that a cut
interrupts runs its 100 ms from the APPLY instant that ends it.
See log entry 39 (DESIGN CHOICE). -/
def execOverloadRetry (g : Grp) (p : Nat) (cooled : Bool) (t : Nat) (s : State) : Host.Outcome State Fault Refusal :=
  let s := s.tick t
  let x := s.fc g
  let c := x.chan (x.leader p)
  if !s.fgUp g then .next s
  else if c.latched then
    if !x.stageCmd p || s.now < c.retryAt || gridNs ≤ (s.now - c.retryAt) % sec1 || s.fcTime g % gridNs != 0
        || !(x.bank (bankOf p)).drives || (c.hot && !cooled) then .next s
    else .next (s.setChan g { c with latched := false, hot := false, retrying := some s.now })
  else match c.retrying with
    | some r => if x.stageOn p && r + 100 * ns1ms ≤ s.now then .next (s.setChan g { c with retrying := none, overload := false }) else .next s
    | none => .next s

/-- OPEN_LOAD_DETECT: an on-state or member condition has held for 100 ms (`present`), or has ceased for 100 ms, which
clears what it set (R235, R237). Without the claim OPEN_LOAD keeps its value (R240).
See log entry 39 (DESIGN CHOICE). -/
def execOpenLoadDetect (g : Grp) (p : Nat) (present : Bool) (t : Nat) (s : State) : Host.Outcome State Fault Refusal :=
  let s := s.tick t
  let x := s.fc g
  let c := x.chan p
  if !s.fgUp g || !isOut c.cfg.kind || !x.claim then .next s
  else if present then (if x.stageOn p then .next (s.setOpenLoad g p true) else .next s)
  else if c.openByOn then .next (s.setChan g { c with openLoad := false, openByOn := false })
  else .next s

/-- From when the readback of a position counts for EXTERNAL_DRIVE (R238). -/
def FcState.driveFrom (x : FcState) (p : Nat) : Nat :=
  max (max (x.chan p).offAt x.evalFrom) (x.bank (bankOf p)).restoredAt + 2 * ns1ms

/-- Every tick from `d` on, for 1 ms up to `now`, has found the readback at 11 V or more (R238). -/
def FcChan.highFrom (c : FcChan) (d now : Nat) : Bool :=
  match c.highTick with
  | some h => decide (max h d + ns1ms ≤ now)
  | none => false

/-- EXTERNAL_DRIVE_DETECT: with the claim and the stage off by command, the readback has read high for 1 ms: a current
of 20 mA or less sets EXTERNAL_DRIVE, more is a stage fault (R238, R239). See log entry 39 (DESIGN CHOICE). -/
def execExternalDriveDetect (g : Grp) (p : Nat) (over20 : Bool) (t : Nat) (s : State) : Host.Outcome State Fault Refusal :=
  let s := s.tick t
  let x := s.fc g
  let c := x.chan p
  if s.fgUp g && x.claim && isOut c.cfg.kind && !x.stageCmd p && !x.cut (bankOf p) && c.highFrom (x.driveFrom p) s.now then
    .next (if over20 then s.stageFault g p else s.setExtDrive g p false)
  else .next s

/-- EXTERNAL_DRIVE_CLEAR: 1 ms of readback at 5 V or less clears what R238 set. -/
def execExternalDriveClear (g : Grp) (p t : Nat) (s : State) : Host.Outcome State Fault Refusal :=
  let s := s.tick t
  let c := (s.fc g).chan p
  match c.lowTick with
  | some h => if c.extDrive && !c.extByDark && decide (h + ns1ms ≤ s.now) then .next (s.setChan g { c with extDrive := false }) else .next s
  | none => .next s

/-! ### Silence and HALT (R244, R246) -/

/-- The APPLY instant of a frame's bytes (R216). -/
def frameApply (bs : List Byte) : Nat := leAt bs 8 8

/-- A good frame waits whose APPLY instant is now: it applies before the silence timeout (R244). -/
def FcState.appliesAt (x : FcState) (t : Nat) : Bool :=
  match x.frame with
  | some bs => frameApply bs == t
  | none => false

/-- SILENCE_TIMEOUT: no good frame has applied by g + SILENCE_MS (R244). -/
def execSilenceTimeout (g : Grp) (t : Nat) (s : State) : Host.Outcome State Fault Refusal :=
  let s := s.tick t
  let x := s.fc g
  match x.lastApply with
  | some a =>
    if s.fgUp g && decide (a + x.silenceMs * ns1ms ≤ s.now) && !x.appliesAt (s.fcTime g) then .next (s.enterBlotter g blotSilence)
    else .next s
  | none => .next s

/-- HALT_RECEIVED: four HALT code groups in place of frame data (R246). -/
def execHaltReceived (g : Grp) (t : Nat) (s : State) : Host.Outcome State Fault Refusal :=
  let s := s.tick t
  if s.fgUp g then .next (s.enterBlotter g blotHalt) else .next s

end Sys2Proof.Machine
end

