-- ==== Sys2Proof/Machine/Stroke.lean ====
section
/-! DEFINITION. Executing one Stroke instruction (R115 to R146): the frame, the next word, variables, control flow, task
faults and task flags. Every meaning runs `strokeStep`: it acts only on an execution that is under way. -/

namespace Sys2Proof.Machine

/-! ### The frame and the next word -/

/-- A frame register: its static type and its 64 bits. A register that the execution has not written holds a free value
(R119; the verifier refuses a program that reads one, R121). -/
def Exec.get (e : Exec) (r : Reg) : Ty × DWord :=
  match assoc e.frame r.toNat with
  | some x => x
  | none => (.int64, Config.freeReg e.release r.toNat)

/-- The static type of a frame register. -/
def Exec.ty (e : Exec) (r : Reg) : Ty := (e.get r).1

/-- The 64 bits of a frame register. -/
def Exec.val (e : Exec) (r : Reg) : DWord := (e.get r).2

/-- A BOOL register is TRUE. -/
def Exec.isTrue (e : Exec) (r : Reg) : Bool := (e.val r).getLsbD 0

/-- The frame with register `r` written. -/
def Exec.set (e : Exec) (r : Reg) (ty : Ty) (v : DWord) : Exec := { e with frame := cellIns e.frame r.toNat (ty, v) }

/-- Control reaches word `n`: a loop whose head it is starts its counter at 0 again (R127). -/
def Exec.goto (e : Exec) (n : Nat) : Exec := { e with pc := n, loops := e.loops.filter (·.head != n) }

/-- Control reaches the word after an instruction of `n` words. -/
def Exec.skip (e : Exec) (n : Nat) : Exec := e.goto (e.pc + n)

/-- The execution of a context runs: the lane is powered and not halted, the mode is not HOLD (R94), the execution has not
ended, and its pair runs this task (R78). A preempted execution keeps its own frame, of which no other task sees anything
(R119). See log entry 73 (DEDUCED). -/
def State.running (s : State) (x : Ctx) : Option Exec :=
  match s.exec? x.lane x.task with
  | some e =>
    if e.ended || s.modeNow == .hold || (s.lane x.lane).halted || !s.powered (pdLane x.lane) || !s.runsTask x.lane x.task then none
    else some e
  | none => none

/-- One instruction of an execution under way; without one nothing happens. -/
def strokeStep (x : Ctx) (s : State) (k : Exec → State) : Host.Outcome State Fault Refusal :=
  match s.running x with
  | some e => .next (k e)
  | none => .next s

/-- An instruction that changes only the frame and goes on to the next word. -/
def strokeReg (x : Ctx) (s : State) (words : Nat) (k : Exec → Exec) : Host.Outcome State Fault Refusal :=
  strokeStep x s fun e => s.setExec x.lane x.task ((k e).skip words)

/-- d ← f of a, in the type of a. -/
def strokeUn (x : Ctx) (s : State) (d a : Reg) (f : Ty → DWord → DWord) : Host.Outcome State Fault Refusal :=
  strokeReg x s 1 fun e => e.set d (e.ty a) (f (e.ty a) (e.val a))

/-- d ← f of a and b, in the type of a. -/
def strokeBin (x : Ctx) (s : State) (d a b : Reg) (f : Ty → DWord → DWord → DWord) : Host.Outcome State Fault Refusal :=
  strokeReg x s 1 fun e => e.set d (e.ty a) (f (e.ty a) (e.val a) (e.val b))

/-- d BOOL ← a comparison of a and b. -/
def strokeCmp (x : Ctx) (s : State) (d a b : Reg) (f : Ty → DWord → DWord → Bool) : Host.Outcome State Fault Refusal :=
  strokeReg x s 1 fun e => e.set d .bool (boolReg (f (e.ty a) (e.val a) (e.val b)))

/-- d ← f of a and imm8, in the type of a. -/
def strokeImm (x : Ctx) (s : State) (d a : Reg) (f : Ty → DWord → DWord) : Host.Outcome State Fault Refusal :=
  strokeUn x s d a f

/-! ### The end of an execution and task faults -/

/-- The end of an execution in the first voting lane that reaches it: time alarms take their variables and items of
VAR_READ are read, once for each execution (R91, R406). See log entry 74 (DEDUCED). -/
def State.endReads (s : State) (x : Ctx) (release : Nat) : State :=
  match s.folio.running with
  | none => s
  | some f =>
    if !s.isVoting x.lane || (s.book x.task).endTaken == some release then s else
    let s := s.setBook { s.book x.task with endTaken := some release }
    let s := (f.ownVars x.task).foldl (fun s v => if v.segment == segRet && v.ty == .time then s.takeAlarms f x.lane v else s) s
    s.readsAtEnd f x.lane x.task release

/-- END: the execution ends; forced OUT and TGO variables take their values before the LANE_OUT object is packed
(R109, R130). -/
def State.endExec (s : State) (x : Ctx) (e : Exec) : State :=
  let s := s.closeExec x.lane x.task e
  let s := match s.folio.running with
    | some f => s.applyForces f x.lane x.task [segOut, segTgo]
    | none => s
  s.endReads x e.release

/-- Task fault causes (R143). -/
def faultLoop : Nat := 1
def faultIndex : Nat := 2
def faultAssert : Nat := 3

/-- A task fault at the current word (R84, R143): recorded in TASK_FAULT and TASK_STAT.FAULT; the execution ends without
a LANE_OUT object and, before its commit instant, is FINISHED; one whose outputs STOP has discarded keeps its state until
LATE_EXECUTION_END makes it IDLE (R80, R96). -/
def State.taskFault (s : State) (x : Ctx) (e : Exec) (cause : Nat) : State :=
  let s := (s.fput (F.TASK_FAULT_CAUSE x.lane x.task) cause).fput (F.TASK_FAULT_WORD x.lane x.task) e.pc
  let s := s.fput (F.TASK_STAT_FAULT x.lane x.task) 1
  let s := s.closeExec x.lane x.task { e with faulted := true }
  let s := if s.taskSt x.lane x.task == .released && !e.discarded then s.setTaskSt x.lane x.task .finished else s
  s.endReads x e.release

/-! ### Control flow and miscellany -/

/-- NOP (R131): nothing but the next word. -/
def execOpNop (x : Ctx) (s : State) : Host.Outcome State Fault Refusal := strokeReg x s 1 id

/-- END (R130). See log entry 22 (DESIGN CHOICE). -/
def execOpEnd (x : Ctx) (s : State) : Host.Outcome State Fault Refusal := strokeStep x s fun e => s.endExec x e

/-- JMP (R126). -/
def execOpJmp (x : Ctx) (target : Nat) (s : State) : Host.Outcome State Fault Refusal :=
  strokeStep x s fun e => s.setExec x.lane x.task (e.goto target)

/-- BRT (R126). -/
def execOpBrt (x : Ctx) (a : Reg) (target : Nat) (s : State) : Host.Outcome State Fault Refusal :=
  strokeStep x s fun e => s.setExec x.lane x.task (if e.isTrue a then e.goto target else e.skip 2)

/-- BRF (R126). -/
def execOpBrf (x : Ctx) (a : Reg) (target : Nat) (s : State) : Host.Outcome State Fault Refusal :=
  strokeStep x s fun e => s.setExec x.lane x.task (if e.isTrue a then e.skip 2 else e.goto target)

/-- The counter of the LOOP at word `n` (R127). -/
def loopCount (e : Exec) (n : Nat) : Nat :=
  match e.loops.find? (·.at_ == n) with
  | some c => c.count
  | none => 0

/-- The LOOP's own taken branch: its counter goes up and control goes to its head (R127). -/
def loopTaken (e : Exec) (head : Nat) : Exec :=
  { e with pc := head, loops := e.loops.filter (·.at_ != e.pc) ++ [⟨e.pc, head, loopCount e e.pc + 1⟩] }

/-- LOOP (R127): falls through on FALSE; on TRUE goes to its head while its counter is below the bound, and faults with
LOOP_BOUND at the bound. -/
def execOpLoop (x : Ctx) (bound : BitVec 16) (a : Reg) (target : Nat) (s : State) : Host.Outcome State Fault Refusal :=
  strokeStep x s fun e =>
    if !e.isTrue a then s.setExec x.lane x.task (e.skip 2)
    else if loopCount e e.pc < bound.toNat then s.setExec x.lane x.task (loopTaken e target)
    else s.taskFault x e faultLoop

/-- CALL (R129): the word after it is kept for the RET. -/
def execOpCall (x : Ctx) (target : Nat) (s : State) : Host.Outcome State Fault Refusal :=
  strokeStep x s fun e => s.setExec x.lane x.task ({ e with calls := (e.pc + 2) :: e.calls }.goto target)

/-- RET (R129). A RET with no CALL before it is refused at load; here it ends the execution as END does. -/
def execOpRet (x : Ctx) (s : State) : Host.Outcome State Fault Refusal :=
  strokeStep x s fun e =>
    match e.calls with
    | r :: rs => s.setExec x.lane x.task ({ e with calls := rs }.goto r)
    | [] => s.endExec x e

/-- ASSERT (R143): the task fault ASSERT when the condition is FALSE. -/
def execOpAssert (x : Ctx) (a : Reg) (s : State) : Host.Outcome State Fault Refusal :=
  strokeStep x s fun e => if e.isTrue a then s.setExec x.lane x.task (e.skip 1) else s.taskFault x e faultAssert

/-! ### Loads, moves and variables -/

/-- LDI (R134). -/
def execOpLdi (x : Ctx) (d : Reg) (ty : Ty) (imm : Byte) (s : State) : Host.Outcome State Fault Refusal :=
  strokeReg x s 1 fun e => e.set d ty (aluLdi ty imm)

/-- LDL (R134). -/
def execOpLdl (x : Ctx) (d : Reg) (ty : Ty) (value : Word) (s : State) : Host.Outcome State Fault Refusal :=
  strokeReg x s 2 fun e => e.set d ty (aluLdl ty value)

/-- MOV (R131): the pattern unchanged. -/
def execOpMov (x : Ctx) (d a : Reg) (s : State) : Host.Outcome State Fault Refusal := strokeUn x s d a fun _ v => v

/-- The variable that an index names in the running folio. -/
def State.varAt (s : State) (n : Nat) : Option (Folio × VarRec) :=
  match s.folio.running with
  | some f => (f.varAt n).map fun v => (f, v)
  | none => none

/-- LD (R123). An index that the layout map does not hold is refused at load; here it reads nothing. -/
def execOpLd (x : Ctx) (d : Reg) (var : Nat) (s : State) : Host.Outcome State Fault Refusal :=
  strokeReg x s 2 fun e =>
    match s.varAt var with
    | some (f, v) => e.set d v.ty (rdElem x.lane f (s.lane x.lane).mem v 0)
    | none => e

/-- A store of register `src` into element `i` of a variable, and on to the next word. -/
def strokeStore (x : Ctx) (s : State) (e : Exec) (src : Reg) (f : Folio) (v : VarRec) (i : Nat) : State :=
  (s.storeElem f x.lane v i (e.val src)).setExec x.lane x.task (e.skip 2)

/-- ST (R123). -/
def execOpSt (x : Ctx) (src : Reg) (var : Nat) (s : State) : Host.Outcome State Fault Refusal :=
  strokeStep x s fun e =>
    match s.varAt var with
    | some (f, v) => strokeStore x s e src f v 0
    | none => s.setExec x.lane x.task (e.skip 2)

/-- The element that an index register names; none when it is negative or not less than the element count (R124). -/
def elemIndex (e : Exec) (a : Reg) (v : VarRec) : Option Nat :=
  let i := regInt (e.ty a) (e.val a)
  if 0 ≤ i ∧ i < v.count then some i.toNat else none

/-- LDX (R124): INDEX fault outside the array. -/
def execOpLdx (x : Ctx) (d a : Reg) (var : Nat) (s : State) : Host.Outcome State Fault Refusal :=
  strokeStep x s fun e =>
    match s.varAt var with
    | some (f, v) =>
      match elemIndex e a v with
      | some i => s.setExec x.lane x.task ((e.set d v.ty (rdElem x.lane f (s.lane x.lane).mem v i)).skip 2)
      | none => s.taskFault x e faultIndex
    | none => s.setExec x.lane x.task (e.skip 2)

/-- STX (R124): INDEX fault outside the array, and nothing is written. -/
def execOpStx (x : Ctx) (src a : Reg) (var : Nat) (s : State) : Host.Outcome State Fault Refusal :=
  strokeStep x s fun e =>
    match s.varAt var with
    | some (f, v) =>
      match elemIndex e a v with
      | some i => strokeStore x s e src f v i
      | none => s.taskFault x e faultIndex
    | none => s.setExec x.lane x.task (e.skip 2)

/-- CMOV (R131): d ← b if a is TRUE, otherwise d unchanged. -/
def execOpCmov (x : Ctx) (d a b : Reg) (s : State) : Host.Outcome State Fault Refusal :=
  strokeReg x s 1 fun e => if e.isTrue a then e.set d (e.ty b) (e.val b) else e

/-! ### Arithmetic (R132 to R137) -/

def execOpAdd (x : Ctx) (d a b : Reg) (s : State) : Host.Outcome State Fault Refusal := strokeBin x s d a b aluAdd
def execOpSub (x : Ctx) (d a b : Reg) (s : State) : Host.Outcome State Fault Refusal := strokeBin x s d a b aluSub
def execOpMul (x : Ctx) (d a b : Reg) (s : State) : Host.Outcome State Fault Refusal := strokeBin x s d a b aluMul

/-- The DIVZ flag is set when the divisor is zero (R136). -/
def State.divz (s : State) (x : Ctx) (zero : Bool) : State :=
  if zero then s.fput (F.TASK_STAT_DIVZ x.lane x.task) 1 else s

/-- A division: DIVZ on a zero divisor, and the execution goes on (R136). -/
def strokeDiv (x : Ctx) (s : State) (d a b : Reg) (f : Ty → DWord → DWord → DWord) : Host.Outcome State Fault Refusal :=
  strokeStep x s fun e =>
    (s.divz x (divisorZero (e.ty a) (e.val b))).setExec x.lane x.task
      ((e.set d (e.ty a) (f (e.ty a) (e.val a) (e.val b))).skip 1)

def execOpDiv (x : Ctx) (d a b : Reg) (s : State) : Host.Outcome State Fault Refusal := strokeDiv x s d a b aluDiv
def execOpMod (x : Ctx) (d a b : Reg) (s : State) : Host.Outcome State Fault Refusal := strokeDiv x s d a b aluMod
def execOpNeg (x : Ctx) (d a : Reg) (s : State) : Host.Outcome State Fault Refusal := strokeUn x s d a aluNeg
def execOpAbs (x : Ctx) (d a : Reg) (s : State) : Host.Outcome State Fault Refusal := strokeUn x s d a aluAbs
def execOpAdds (x : Ctx) (d a b : Reg) (s : State) : Host.Outcome State Fault Refusal := strokeBin x s d a b aluAdds
def execOpSubs (x : Ctx) (d a b : Reg) (s : State) : Host.Outcome State Fault Refusal := strokeBin x s d a b aluSubs
def execOpMuls (x : Ctx) (d a b : Reg) (s : State) : Host.Outcome State Fault Refusal := strokeBin x s d a b aluMuls
def execOpNegs (x : Ctx) (d a : Reg) (s : State) : Host.Outcome State Fault Refusal := strokeUn x s d a aluNegs
def execOpAbss (x : Ctx) (d a : Reg) (s : State) : Host.Outcome State Fault Refusal := strokeUn x s d a aluAbss
def execOpMin (x : Ctx) (d a b : Reg) (s : State) : Host.Outcome State Fault Refusal := strokeBin x s d a b aluMin
def execOpMax (x : Ctx) (d a b : Reg) (s : State) : Host.Outcome State Fault Refusal := strokeBin x s d a b aluMax
def execOpAddi (x : Ctx) (d a : Reg) (imm : Byte) (s : State) : Host.Outcome State Fault Refusal :=
  strokeImm x s d a fun ty v => aluAddi ty v imm
def execOpSqrt (x : Ctx) (d a : Reg) (s : State) : Host.Outcome State Fault Refusal := strokeUn x s d a aluSqrt

/-! ### Logic and shifts (R131, R139) -/

def execOpAnd (x : Ctx) (d a b : Reg) (s : State) : Host.Outcome State Fault Refusal :=
  strokeBin x s d a b fun _ => aluAnd
def execOpOr (x : Ctx) (d a b : Reg) (s : State) : Host.Outcome State Fault Refusal :=
  strokeBin x s d a b fun _ => aluOr
def execOpXor (x : Ctx) (d a b : Reg) (s : State) : Host.Outcome State Fault Refusal :=
  strokeBin x s d a b fun _ => aluXor
def execOpNot (x : Ctx) (d a : Reg) (s : State) : Host.Outcome State Fault Refusal := strokeUn x s d a aluNot
def execOpShl (x : Ctx) (d a : Reg) (imm : Byte) (s : State) : Host.Outcome State Fault Refusal :=
  strokeImm x s d a fun ty v => aluShl ty v imm.toNat
def execOpShr (x : Ctx) (d a : Reg) (imm : Byte) (s : State) : Host.Outcome State Fault Refusal :=
  strokeImm x s d a fun ty v => aluShr ty v imm.toNat
def execOpRol (x : Ctx) (d a : Reg) (imm : Byte) (s : State) : Host.Outcome State Fault Refusal :=
  strokeImm x s d a fun ty v => aluRol ty v imm.toNat
def execOpRor (x : Ctx) (d a : Reg) (imm : Byte) (s : State) : Host.Outcome State Fault Refusal :=
  strokeImm x s d a fun ty v => aluRor ty v imm.toNat
def execOpShlv (x : Ctx) (d a b : Reg) (s : State) : Host.Outcome State Fault Refusal :=
  strokeBin x s d a b fun ty v n => aluShl ty v n.toNat
def execOpShrv (x : Ctx) (d a b : Reg) (s : State) : Host.Outcome State Fault Refusal :=
  strokeBin x s d a b fun ty v n => aluShr ty v n.toNat

/-- BITGET (R131): d BOOL ← bit imm8 of a. -/
def execOpBitget (x : Ctx) (d a : Reg) (imm : Byte) (s : State) : Host.Outcome State Fault Refusal :=
  strokeReg x s 1 fun e => e.set d .bool (aluBitget (e.val a) imm.toNat)
def execOpBswap (x : Ctx) (d a : Reg) (s : State) : Host.Outcome State Fault Refusal := strokeUn x s d a aluBswap

/-! ### Comparisons (R138) -/

def execOpEq (x : Ctx) (d a b : Reg) (s : State) : Host.Outcome State Fault Refusal := strokeCmp x s d a b cmpEq
def execOpNe (x : Ctx) (d a b : Reg) (s : State) : Host.Outcome State Fault Refusal := strokeCmp x s d a b cmpNe
def execOpLt (x : Ctx) (d a b : Reg) (s : State) : Host.Outcome State Fault Refusal := strokeCmp x s d a b cmpLt
def execOpLe (x : Ctx) (d a b : Reg) (s : State) : Host.Outcome State Fault Refusal := strokeCmp x s d a b cmpLe
def execOpGt (x : Ctx) (d a b : Reg) (s : State) : Host.Outcome State Fault Refusal := strokeCmp x s d a b cmpGt
def execOpGe (x : Ctx) (d a b : Reg) (s : State) : Host.Outcome State Fault Refusal := strokeCmp x s d a b cmpGe
def execOpIsnan (x : Ctx) (d a : Reg) (s : State) : Host.Outcome State Fault Refusal :=
  strokeReg x s 1 fun e => e.set d .bool (aluIsnan (e.ty a) (e.val a))

/-! ### Conversions (R140) -/

/-- d ← a converted to the type that imm8 names; a reserved type code is refused at load, here d keeps its value. -/
def strokeConv (x : Ctx) (s : State) (d a : Reg) (imm : Byte) (f : Ty → Ty → DWord → DWord) :
    Host.Outcome State Fault Refusal :=
  strokeReg x s 1 fun e =>
    match tyOfCode imm.toNat with
    | some ty => e.set d ty (f (e.ty a) ty (e.val a))
    | none => e

def execOpConv (x : Ctx) (d a : Reg) (imm : Byte) (s : State) : Host.Outcome State Fault Refusal :=
  strokeConv x s d a imm fun src dst => aluConv src dst false
def execOpConvs (x : Ctx) (d a : Reg) (imm : Byte) (s : State) : Host.Outcome State Fault Refusal :=
  strokeConv x s d a imm fun src dst => aluConv src dst true
def execOpTrunc (x : Ctx) (d a : Reg) (imm : Byte) (s : State) : Host.Outcome State Fault Refusal :=
  strokeConv x s d a imm aluTrunc

/-! ### Time and task flags (R141, R142, R145) -/

/-- NOW (R141): the release instant of the execution. -/
def execOpNow (x : Ctx) (d : Reg) (s : State) : Host.Outcome State Fault Refusal :=
  strokeReg x s 1 fun e => e.set d .time (BitVec.ofNat 64 e.release)

/-- DTIME (R141): the time since the release of the task's previous execution. -/
def execOpDtime (x : Ctx) (d : Reg) (s : State) : Host.Outcome State Fault Refusal :=
  strokeReg x s 1 fun e => e.set d .time (BitVec.ofNat 64 (s.book x.task).dtime)

/-- A task flag (R142); a number not in the table is refused at load, here it reads FALSE. -/
def State.taskFlag (s : State) (x : Ctx) (n : Nat) : Bool :=
  let b := s.book x.task
  if n == 0 then s.flag (F.TASK_STAT_DIVZ x.lane x.task)
  else if n == 1 then b.first
  else if n == 2 then b.switched
  else if n == 3 then b.lastOvr
  else false

/-- GETF (R142). -/
def execOpGetf (x : Ctx) (d : Reg) (flag : Byte) (s : State) : Host.Outcome State Fault Refusal :=
  strokeReg x s 1 fun e => e.set d .bool (boolReg (s.taskFlag x flag.toNat))

/-- CLRF (R142): clears DIVZ; it accepts only flag 0. -/
def execOpClrf (x : Ctx) (flag : Byte) (s : State) : Host.Outcome State Fault Refusal :=
  strokeStep x s fun e =>
    (if flag == 0 then s.fput (F.TASK_STAT_DIVZ x.lane x.task) 0 else s).setExec x.lane x.task (e.skip 1)

/-- FENCE_OUT (R145): no effect when it executes. -/
def execOpFenceOut (x : Ctx) (s : State) : Host.Outcome State Fault Refusal := strokeReg x s 1 id

end Sys2Proof.Machine
end

