-- ==== Sys2Proof/Machine/Blocks.lean ====
section
/-! DEFINITION. The built-in blocks (R147 to R154): the evaluation of each block on its state record in FBS, BLKRD and
BLKRST. A record is its bytes in the layout of R149. -/

namespace Sys2Proof.Machine

/-! ### Record fields (R149) -/

/-- FLAGS, byte 1 of a record, as bits. -/
def recFlag (r : List Byte) (i : Nat) : Bool := natBit (byteAt r 1) i

/-- A record with one bit of FLAGS set or cleared. -/
def recSetFlag (r : List Byte) (i : Nat) (b : Bool) : List Byte :=
  let v := byteAt r 1
  let cleared := v - (if natBit v i then 2 ^ i else 0)
  splice r 1 [BitVec.ofNat 8 (cleared + (if b then 2 ^ i else 0))]

/-- The signed 64-bit number at an offset of a record (START, ET, CV, LAST). -/
def recInt (r : List Byte) (off : Nat) : Int := (BitVec.ofNat 64 (leAt r off 8)).toInt

/-- A record with a signed 64-bit number at an offset. -/
def recSetInt (r : List Byte) (off : Nat) (v : Int) : List Byte := splice r off (leBytes 8 (BitVec.ofInt 64 v).toNat)

/-- TIME and INT64 differences wrap to 64 bits (R132). -/
def wrap64 (v : Int) : Int := (BitVec.ofInt 64 v).toInt

/-- SEED (R150): when set, the previous-input bits `prev` take the current inputs and SEED clears. -/
def recSeed (r : List Byte) (prev : List (Nat × Bool)) : List Byte :=
  if recFlag r 7 then prev.foldl (fun r p => recSetFlag r p.1 p.2) (recSetFlag r 7 false) else r

/-! ### Evaluations (R152) -/

/-- What an evaluation reads of one block: record in, inputs, and the record and outputs that it leaves. -/
abbrev Outputs := List (Ty × DWord)

def outBool (b : Bool) : Ty × DWord := (.bool, boolReg b)
def outTime (v : Int) : Ty × DWord := (.time, BitVec.ofInt 64 v)
def outInt (v : Int) : Ty × DWord := (.int64, BitVec.ofInt 64 v)

/-- TON. -/
def evalTon (r : List Byte) (inp : Bool) (pt now : Int) : List Byte × Outputs :=
  let pt := max pt 0
  let r := if inp then
      let r := if recFlag r 2 then r else recSetFlag (recSetInt r 8 now) 2 true
      let e := wrap64 (now - recInt r 8)
      recSetFlag (recSetInt r 16 (min e pt)) 0 (decide (pt ≤ e))
    else recSetFlag (recSetInt (recSetFlag r 0 false) 16 0) 2 false
  (r, [outBool (recFlag r 0), outTime (recInt r 16)])

/-- TOF. -/
def evalTof (r : List Byte) (inp : Bool) (pt now : Int) : List Byte × Outputs :=
  let pt := max pt 0
  let r := if inp then recSetFlag (recSetInt (recSetFlag r 0 true) 16 0) 2 false
    else
      let r := if recFlag r 0 && !recFlag r 2 then recSetFlag (recSetInt r 8 now) 2 true else r
      if recFlag r 2 then
        let e := wrap64 (now - recInt r 8)
        let r := recSetInt r 16 (min e pt)
        if pt ≤ e then recSetFlag (recSetFlag r 0 false) 2 false else r
      else r
  (r, [outBool (recFlag r 0), outTime (recInt r 16)])

/-- TP. -/
def evalTp (r : List Byte) (inp : Bool) (pt now : Int) : List Byte × Outputs :=
  let pt := max pt 0
  let r := recSeed r [(1, inp)]
  let rise := inp && !recFlag r 1
  let r := if !recFlag r 2 && rise then recSetFlag (recSetFlag (recSetInt r 8 now) 2 true) 0 true else r
  let r := if recFlag r 2 then
      let e := wrap64 (now - recInt r 8)
      if pt ≤ e then recSetInt (recSetFlag (recSetFlag r 0 false) 2 false) 16 pt else recSetInt r 16 e
    else r
  let r := if !recFlag r 2 && !inp then recSetInt r 16 0 else r
  let r := recSetFlag r 1 inp
  (r, [outBool (recFlag r 0), outTime (recInt r 16)])

/-- RTRIG. -/
def evalRtrig (r : List Byte) (clk : Bool) : List Byte × Outputs :=
  let r := recSeed r [(1, clk)]
  let q := clk && !recFlag r 1
  (recSetFlag (recSetFlag r 0 q) 1 clk, [outBool q])

/-- FTRIG. -/
def evalFtrig (r : List Byte) (clk : Bool) : List Byte × Outputs :=
  let r := recSeed r [(1, clk)]
  let q := !clk && recFlag r 1
  (recSetFlag (recSetFlag r 0 q) 1 clk, [outBool q])

def int64Max : Int := 2 ^ 63 - 1
def int64Min : Int := -2 ^ 63

/-- CTU. -/
def evalCtu (r : List Byte) (cu reset : Bool) (pv : Int) : List Byte × Outputs :=
  let r := recSeed r [(2, cu)]
  let cv := recInt r 8
  let cv := if reset then 0 else if cu && !recFlag r 2 && cv < int64Max then cv + 1 else cv
  let q := decide (pv ≤ cv)
  (recSetFlag (recSetFlag (recSetInt r 8 cv) 0 q) 2 cu, [outBool q, outInt cv])

/-- CTD. Its Q is bit 1 of FLAGS (R149). -/
def evalCtd (r : List Byte) (cd ld : Bool) (pv : Int) : List Byte × Outputs :=
  let r := recSeed r [(3, cd)]
  let cv := recInt r 8
  let cv := if ld then pv else if cd && !recFlag r 3 && int64Min < cv then cv - 1 else cv
  let q := decide (cv ≤ 0)
  (recSetFlag (recSetFlag (recSetInt r 8 cv) 1 q) 3 cd, [outBool q, outInt cv])

/-- CTUD. -/
def evalCtud (r : List Byte) (cu cd reset ld : Bool) (pv : Int) : List Byte × Outputs :=
  let r := recSeed r [(2, cu), (3, cd)]
  let cv := recInt r 8
  let up := cu && !recFlag r 2
  let dn := cd && !recFlag r 3
  let cv := if reset then 0 else if ld then pv
    else if up && !dn then min (cv + 1) int64Max
    else if dn && !up then max (cv - 1) int64Min else cv
  let qu := decide (pv ≤ cv)
  let qd := decide (cv ≤ 0)
  let r := recSetFlag (recSetFlag (recSetInt r 8 cv) 0 qu) 1 qd
  (recSetFlag (recSetFlag r 2 cu) 3 cd, [outBool qu, outBool qd, outInt cv])

/-- SR. -/
def evalSr (r : List Byte) (s1 reset : Bool) : List Byte × Outputs :=
  let q := s1 || (recFlag r 0 && !reset)
  (recSetFlag r 0 q, [outBool q])

/-- RS. -/
def evalRs (r : List Byte) (set_ r1 : Bool) : List Byte × Outputs :=
  let q := !r1 && (set_ || recFlag r 0)
  (recSetFlag r 0 q, [outBool q])

/-- HYST. -/
def evalHyst (ty : Ty) (r : List Byte) (x low high : DWord) : List Byte × Outputs :=
  let q := if cmpGt ty x high then true else if cmpLt ty x low then false else recFlag r 0
  (recSetFlag r 0 q, [outBool q])

/-- Y of a RAMP record, in the declared type. -/
def rampY (ty : Ty) (r : List Byte) : DWord := regOfBytes ty (slice r 16 8)

/-- A RAMP record with Y; REAL32 in bytes 16 to 19 and bytes 20 to 23 zero (R149). -/
def rampSetY (ty : Ty) (r : List Byte) (y : DWord) : List Byte := splice r 16 (padTo 8 (bytesOfReg ty y))

/-- dt of RAMP: (now − LAST) ÷ 10^9, rounded once into the declared type (R152). -/
def rampDt (ty : Ty) (dt : Int) : DWord := realReg (fpRound (fmtOf ty) (decide (dt < 0)) dt.natAbs 1000000000 0)

/-- A rate with negative and NaN values taken as 0 (R152). -/
def rampRate (ty : Ty) (v : DWord) : DWord := if cmpGe ty v 0 then v else 0

/-- RAMP. -/
def evalRamp (ty : Ty) (r : List Byte) (x up dn : DWord) (reset : Bool) (now : Int) : List Byte × Outputs :=
  let r := if !recFlag r 0 || reset then recSetFlag (rampSetY ty r x) 0 true
    else
      let dt := rampDt ty (wrap64 (now - recInt r 8))
      let y := rampY ty r
      if cmpGt ty x y then rampSetY ty r (aluMin ty x (aluAdd ty y (aluMul ty (rampRate ty up) dt)))
      else if cmpLt ty x y then rampSetY ty r (aluMax ty x (aluSub ty y (aluMul ty (rampRate ty dn) dt)))
      else r
  let r := recSetInt r 8 now
  (r, [(ty, rampY ty r)])

/-- LIMIT: STATE is byte 1, CLAMPS bytes 4 to 7 (R149). -/
def evalLimit (ty : Ty) (r : List Byte) (x mn mx : DWord) : List Byte × Outputs :=
  let st := if tyReal ty && fpIsNan (fpReg ty x) then 3 else if cmpLt ty x mn then 1 else if cmpGt ty x mx then 2 else 0
  let y := if st == 3 || st == 1 then mn else if st == 2 then mx else x
  let clamps := leAt r 4 4
  let r := splice r 1 [BitVec.ofNat 8 st]
  let r := if st == 0 then r else splice r 4 (leBytes 4 (min (clamps + 1) 0xFFFFFFFF))
  (r, [(ty, y)])

/-! ### Instructions over records -/

/-- The function-block record that an index names in the running folio. -/
def State.instAt (s : State) (n : Nat) : Option (Folio × InstRec) :=
  match s.folio.running with
  | some f => (f.instAt n).map fun i => (f, i)
  | none => none

/-- A record of FBS written in one lane. -/
def State.writeInst (s : State) (f : Folio) (l : Lane) (i : InstRec) (r : List Byte) : State :=
  let y := s.lane l
  ((s.setLane l { y with mem := wrInst l f y.mem i r }).noteRewrite l segFbs i.offset (blockSize i.block)).noteWrite l i.task
    segFbs i.offset (blockSize i.block)

/-- Outputs written to consecutive registers from d (R148). -/
def Exec.setOuts (e : Exec) (d : Reg) : Outputs → Exec
  | [] => e
  | (ty, v) :: os => (e.set d ty v).setOuts (d + 1) os

/-- The declared type of a HYST, RAMP or LIMIT record (R147). -/
def InstRec.ty (i : InstRec) : Ty := (tyOfCode i.dtype).getD .int64

/-- One block instruction: the record is read, evaluated with the registers from a, and written back; the outputs go to
the registers from d (R148, R152). An index that names no record is refused at load; here nothing is evaluated. -/
def strokeBlock (x : Ctx) (s : State) (d : Reg) (inst : Nat)
    (eval : InstRec → List Byte → Exec → List Byte × Outputs) : Host.Outcome State Fault Refusal :=
  strokeStep x s fun e =>
    match s.instAt inst with
    | some (f, i) =>
      let (r, outs) := eval i (rdInst x.lane f (s.lane x.lane).mem i) e
      (s.writeInst f x.lane i r).setExec x.lane x.task ((e.setOuts d outs).skip 2)
    | none => s.setExec x.lane x.task (e.skip 2)

/-- NOW as the blocks take it (R151). -/
def Exec.nowInt (e : Exec) : Int := (BitVec.ofNat 64 e.release).toInt

/-- A TIME or INT64 register as a signed number. -/
def Exec.int (e : Exec) (r : Reg) : Int := (e.val r).toInt

def execOpTon (x : Ctx) (d a : Reg) (inst : Nat) (s : State) : Host.Outcome State Fault Refusal :=
  strokeBlock x s d inst fun _ r e => evalTon r (e.isTrue a) (e.int (a + 1)) e.nowInt
def execOpTof (x : Ctx) (d a : Reg) (inst : Nat) (s : State) : Host.Outcome State Fault Refusal :=
  strokeBlock x s d inst fun _ r e => evalTof r (e.isTrue a) (e.int (a + 1)) e.nowInt
def execOpTp (x : Ctx) (d a : Reg) (inst : Nat) (s : State) : Host.Outcome State Fault Refusal :=
  strokeBlock x s d inst fun _ r e => evalTp r (e.isTrue a) (e.int (a + 1)) e.nowInt
def execOpRtrig (x : Ctx) (d a : Reg) (inst : Nat) (s : State) : Host.Outcome State Fault Refusal :=
  strokeBlock x s d inst fun _ r e => evalRtrig r (e.isTrue a)
def execOpFtrig (x : Ctx) (d a : Reg) (inst : Nat) (s : State) : Host.Outcome State Fault Refusal :=
  strokeBlock x s d inst fun _ r e => evalFtrig r (e.isTrue a)
def execOpCtu (x : Ctx) (d a : Reg) (inst : Nat) (s : State) : Host.Outcome State Fault Refusal :=
  strokeBlock x s d inst fun _ r e => evalCtu r (e.isTrue a) (e.isTrue (a + 1)) (e.int (a + 2))
def execOpCtd (x : Ctx) (d a : Reg) (inst : Nat) (s : State) : Host.Outcome State Fault Refusal :=
  strokeBlock x s d inst fun _ r e => evalCtd r (e.isTrue a) (e.isTrue (a + 1)) (e.int (a + 2))
def execOpCtud (x : Ctx) (d a : Reg) (inst : Nat) (s : State) : Host.Outcome State Fault Refusal :=
  strokeBlock x s d inst fun _ r e =>
    evalCtud r (e.isTrue a) (e.isTrue (a + 1)) (e.isTrue (a + 2)) (e.isTrue (a + 3)) (e.int (a + 4))
def execOpSr (x : Ctx) (d a : Reg) (inst : Nat) (s : State) : Host.Outcome State Fault Refusal :=
  strokeBlock x s d inst fun _ r e => evalSr r (e.isTrue a) (e.isTrue (a + 1))
def execOpRs (x : Ctx) (d a : Reg) (inst : Nat) (s : State) : Host.Outcome State Fault Refusal :=
  strokeBlock x s d inst fun _ r e => evalRs r (e.isTrue a) (e.isTrue (a + 1))
def execOpHyst (x : Ctx) (d a : Reg) (inst : Nat) (s : State) : Host.Outcome State Fault Refusal :=
  strokeBlock x s d inst fun i r e => evalHyst i.ty r (e.val a) (e.val (a + 1)) (e.val (a + 2))
def execOpRamp (x : Ctx) (d a : Reg) (inst : Nat) (s : State) : Host.Outcome State Fault Refusal :=
  strokeBlock x s d inst fun i r e =>
    evalRamp i.ty r (e.val a) (e.val (a + 1)) (e.val (a + 2)) (e.isTrue (a + 3)) e.nowInt
def execOpLimit (x : Ctx) (d a : Reg) (inst : Nat) (s : State) : Host.Outcome State Fault Refusal :=
  strokeBlock x s d inst fun i r e => evalLimit i.ty r (e.val a) (e.val (a + 1)) (e.val (a + 2))

/-- A record field in register representation, by field code (R153). -/
def recField (i : InstRec) (r : List Byte) (code : Nat) : Option (Ty × DWord) :=
  if code == 0 then some (outBool (recFlag r 0))
  else if code == 1 then some (outBool (recFlag r 1))
  else if code == 2 then some (outTime (recInt r 16))
  else if code == 3 then some (outInt (recInt r 8))
  else if code == 4 then some (i.ty, rampY i.ty r)
  else if code == 5 then some (.uint8, BitVec.ofNat 64 (byteAt r 1))
  else if code == 6 then some (.uint32, BitVec.ofNat 64 (leAt r 4 4))
  else none

/-- BLKRD (R153). A field code that does not apply is refused at load; here d keeps its value. -/
def execOpBlkrd (x : Ctx) (d : Reg) (field : Byte) (inst : Nat) (s : State) : Host.Outcome State Fault Refusal :=
  strokeReg x s 2 fun e =>
    match s.instAt inst with
    | some (f, i) =>
      match recField i (rdInst x.lane f (s.lane x.lane).mem i) field.toNat with
      | some (ty, v) => e.set d ty v
      | none => e
    | none => e

/-- BLKRST (R150): every byte 0 except TYPE. -/
def execOpBlkrst (x : Ctx) (inst : Nat) (s : State) : Host.Outcome State Fault Refusal :=
  strokeStep x s fun e =>
    match s.instAt inst with
    | some (f, i) => (s.writeInst f x.lane i (newRecord i.block)).setExec x.lane x.task (e.skip 2)
    | none => s.setExec x.lane x.task (e.skip 2)

end Sys2Proof.Machine
end

