-- ==== Sys2Proof/Machine/TimeCtl.lean ====
section
/-! DEFINITION. The time unit's state as other units read and set it (R323 to R335): TIME_STATE, the PTP configuration
and the loss of the master. -/

namespace Sys2Proof.Machine

/-- States of the time unit, TIME_STATE.STATE (R335). -/
def tmFree : Nat := 0
def tmLocked : Nat := 1
def tmFault : Nat := 2
def tmHoldover : Nat := 3

/-- portState codes that the module uses (PTP_PORT_STAT). -/
def psDisabled : Nat := 3
def psListening : Nat := 4
def psMaster : Nat := 6
def psPassive : Nat := 7
def psSlave : Nat := 9

/-- No port: TIME_STATE.SLAVE_PORT 0xF. -/
def noPort : Nat := 0xF

/-- The state of the time unit. -/
def State.tmState (s : State) : Nat := s.fget F.TIME_STATE_STATE

/-- The time unit enters a state, which is logged when it changes (R335, R413). -/
def State.putTime (s : State) (st : Nat) : State :=
  if s.tmState == st then s else
  let s := s.fput F.TIME_STATE_STATE st
  let s := s.fput F.TIME_STATE_TIME_FAULT (bit (st == tmFault))
  let s := if st == tmLocked then s else s.fput F.TIME_STATE_PHASE_OK 0
  let s := { s with time := { s.time with farSince := none, nearSince := none } }
  (s.logReg 0x0040 codeTime R.TIME_STATE).hostEvent evTime

/-- The master is lost: LOCKED and FAULT become HOLDOVER, in FREE the measurements start again (R335, R336). -/
def State.masterLost (s : State) : State :=
  let s := s.fput F.TIME_STATE_SLAVE_PORT noPort
  let s := { s with time := { s.time with offsets := [] } }
  if s.tmState == tmLocked || s.tmState == tmFault then s.putTime tmHoldover else s

/-- The module is grandmaster: it takes part, no port follows a master and some port is MASTER (R335). -/
def State.showGrandmaster (s : State) : State :=
  let gm := s.fget F.TIME_STATE_SLAVE_PORT == noPort
    && (List.range 6).any fun p => s.fget (F.PTP_PORT_STAT_PORT_STATE p) == psMaster
  s.fput F.TIME_STATE_GRANDMASTER (bit gm)

/-- The port that follows the master changes; none loses the master (R335). -/
def State.selectMaster (s : State) (p : Nat) : State :=
  let s := if p == noPort then (if s.fget F.TIME_STATE_SLAVE_PORT == noPort then s else s.masterLost)
    else if s.fget F.TIME_STATE_SLAVE_PORT == p then s
    else { (s.fput F.TIME_STATE_SLAVE_PORT p) with time := { s.time with offsets := [], syncAt := s.mono } }
  s.showGrandmaster

/-- A field of the PTP record in force (R330). -/
def TimeState.field (x : TimeState) (i : Nat) : Nat := byteAt x.record i

/-- External port configuration is in force (R330). -/
def TimeState.extCfg (x : TimeState) : Bool := natBit (x.field 3) 3

/-- PTP at port `p`. -/
def TimeState.port (x : TimeState) (p : Nat) : PtpPort := x.ports.getD p ptpPortReset

/-- PTP at port `p` replaced. -/
def State.setPtp (s : State) (p : Nat) (x : PtpPort) : State := { s with time := { s.time with ports := s.time.ports.set p x } }

/-- portState of a port under the configuration in force: DISABLED without PTP, the external state with EXT_CFG, else
LISTENING when it starts to take part (R326, R330). -/
def State.portStateOf (s : State) (p : Nat) : Nat :=
  let x := s.time.port p
  if s.time.field 1 == 0 || !natBit x.mode 0 then psDisabled
  else if s.time.extCfg then
    (if x.extState == 1 then psMaster else if x.extState == 2 then psSlave else psPassive)
  else
    let old := s.fget (F.PTP_PORT_STAT_PORT_STATE p)
    if old == psDisabled then psListening else old

/-- The ports take the states that the configuration in force gives them, and the master selected follows (R330,
R335). -/
def State.ptpReconfig (s : State) : State :=
  let s := s.fput F.TIME_STATE_ROLE (s.time.field 1)
  let s := (List.range 6).foldl (fun s p =>
    let x := s.time.port p
    let s := s.fput (F.PTP_PORT_STAT_PORT_STATE p) (s.portStateOf p)
    let s := s.fput (F.PTP_PORT_STAT_P2P p) (bit (natBit x.mode 1))
    s.fput (F.PTP_PORT_STAT_TC p) (bit (natBit x.mode 2))) s
  match (List.range 6).find? fun p => s.fget (F.PTP_PORT_STAT_PORT_STATE p) == psSlave with
  | some p => s.selectMaster p
  | none => s.selectMaster noPort

/-- A 32-bit two's complement field set, saturating at ±(2^31 − 1) (TIME_OFFSET). -/
def State.fputInt (s : State) (f : Field) (v : Int) : State :=
  s.fput f (BitVec.ofInt 32 (max (-0x7FFFFFFF) (min 0x7FFFFFFF v))).toNat

/-- Picoseconds in units of 2^−16 ns. -/
def psTo16 (ps : Int) : Int := ps * 65536 / 1000

/-- ING_LAT, EGR_LAT and ASYM of a port in force, in units of 2^−16 ns (R330). -/
def State.ingLat (s : State) (p : Nat) : Int := psTo16 (s.fgetInt (F.PTP_ING_LAT_PS p))
def State.egrLat (s : State) (p : Nat) : Int := psTo16 (s.fgetInt (F.PTP_EGR_LAT_PS p))
def State.asym (s : State) (p : Nat) : Int := psTo16 (s.fgetInt (F.PTP_ASYM_PS p))

/-- A stamp has a resolution of 3.2 ns (R331): an instant in units of 0.1 ns. -/
def stampOf (tenths : Nat) : Nat := tenths / 32 * 32

end Sys2Proof.Machine
end

