-- ==== Sys2Proof/Machine/Net.lean ====
section
/-! DEFINITION. The switch and the inkwell (R279 to R302): frames, the forwarding table, the feed, the egress queues and
gates, and the network configuration in force. -/

namespace Sys2Proof.Machine

/-! ### Frames (R280, R286) -/

/-- Addresses and lengths of the fields of a frame. -/
def frameDst (b : List Byte) : Nat := beAt b 0 6
def frameSrc (b : List Byte) : Nat := beAt b 6 6
def frameType (b : List Byte) : Nat := beAt b 12 2

/-- The frame carries a 0x8100 tag; its PCP and VID (R286). -/
def frameTagged (b : List Byte) : Bool := frameType b == 0x8100
def tagPcp (b : List Byte) : Nat := byteAt b 14 / 32
def tagVid (b : List Byte) : Nat := beAt b 14 2 % 4096

/-- The frame without its FCS. -/
def dropFcs (b : List Byte) : List Byte := b.take (b.length - 4)

/-- The frame without tag and FCS. -/
def frameCore (b : List Byte) : List Byte :=
  let d := dropFcs b
  if frameTagged b then d.take 12 ++ d.drop 16 else d

/-- The FCS matches: CRC-32 of IEEE 802.3, least significant byte first. -/
def fcsOk (b : List Byte) : Bool := (crc32 (dropFcs b)).toNat == leNat (b.drop (b.length - 4))

/-- A PAUSE frame (R280). -/
def isPause (b : List Byte) : Bool := frameType b == 0x8808 && beAt b 14 2 == 1

/-- A multicast or broadcast address. -/
def isGroup (mac : Nat) : Bool := natBit mac 40

/-- The module's MAC address (NET_MAC). -/
def moduleMac : Nat := Config.mac.toNat

/-- Traffic class of a PCP (R286). -/
def classOf (pcp : Nat) : Nat := [1, 0, 2, 3, 4, 5, 6, 7].getD pcp 0

/-- Port configuration beyond PORT_STAT. -/
def NetState.cfg (n : NetState) (p : Nat) : PortCfg := n.ports.getD p ⟨0, false, 0, 0, 0⟩

/-- Port configuration replaced. -/
def State.setPortCfg (s : State) (p : Nat) (x : PortCfg) : State := { s with net := { s.net with ports := s.net.ports.set p x } }

/-- A frame is admitted by ACCEPT of its port: 0 all, 1 tagged only, 2 untagged and priority-tagged only (R284). -/
def acceptOk (a : Nat) (vlanTagged : Bool) : Bool := if a == 1 then vlanTagged else if a == 2 then !vlanTagged else true

/-- The frame carries a tag with a VID. -/
def vlanTagged (b : List Byte) : Bool := frameTagged b && tagVid b != 0

/-- The frame is no format drop at its port (R280, R286, R301). -/
def State.frameOk (s : State) (p : Nat) (b : List Byte) : Bool :=
  decide (64 ≤ b.length) && decide (b.length ≤ 1522) && fcsOk b && !isPause b && !(frameTagged b && tagVid b == 4095)
    && acceptOk (s.net.cfg p).accept (vlanTagged b)

/-- VID and PCP of a frame at port `p` (R286). -/
def State.frameVid (s : State) (p : Nat) (b : List Byte) : Nat :=
  if vlanTagged b then tagVid b else s.fget (F.PORT_STAT_PVID p)
def State.framePcp (s : State) (p : Nat) (b : List Byte) : Nat :=
  if frameTagged b then tagPcp b else s.fget (F.PORT_STAT_PCP p)

/-! ### Ports (R279, R281, R287) -/

/-- Port states (R284). -/
def portDisabled : Nat := 0
def portBlocked : Nat := 1
def portForwarding : Nat := 2

/-- State of a port, and whether its link is up (PORT_STAT). -/
def State.portSt (s : State) (p : Nat) : Nat := s.fget (F.PORT_STAT_STATE p)
def State.linkUp (s : State) (p : Nat) : Bool := s.flag (F.PORT_STAT_LINK p)

/-- Time of one byte at a port, in units of 0.1 ns (R279). -/
def byteTenths (p : Nat) : Nat := if p < 2 then 8 else 80

/-- The instant of the first byte of a frame whose last byte arrives at port `p` now, in units of 0.1 ns. -/
def State.firstByte (s : State) (p length : Nat) : Nat := 10 * s.now - length * byteTenths p

/-- Time of a frame with preamble and inter-frame gap, in units of 0.1 ns (R290, R293). -/
def wireTenths (p length : Nat) : Nat := (length + 20) * byteTenths p

/-! ### The forwarding table (R288) -/

/-- Index of the set of an address and VID. -/
def fdbSet (mac vid : Nat) : Nat := (crc32c (beBytes 6 mac ++ beBytes 2 vid)).toNat % 1024

/-- NET_FDB counts the entries. -/
def State.showFdb (s : State) : State :=
  let n := (s.net.fdb.filter (·.static)).length
  (s.fput F.NET_FDB_STATIC n).fput F.NET_FDB_DYNAMIC (s.net.fdb.length - n)

/-- The table replaced. -/
def State.putFdb (s : State) (t : List FdbEntry) : State := ({ s with net := { s.net with fdb := t } }).showFdb

/-- The entry of an address and VID. -/
def fdbFind (t : List FdbEntry) (mac vid : Nat) : Option FdbEntry := t.find? fun e => e.mac == mac && e.vid == vid

/-- The table without an address and VID. -/
def fdbDrop (t : List FdbEntry) (mac vid : Nat) : List FdbEntry := t.filter fun e => !(e.mac == mac && e.vid == vid)

/-- The oldest dynamic entry of a list. See log entry 43 (DEDUCED). -/
def oldestDynamic (t : List FdbEntry) : Option FdbEntry :=
  t.foldl (fun (m : Option FdbEntry) e => if e.static then m else
    match m with
    | some x => if x.at_ ≤ e.at_ then m else some e
    | none => some e) none

/-- Room for one more entry in the set of `mac`, `vid`: the table as it is, or without the oldest dynamic entry of a
full set; none if all four ways are static. See log entry 43 (DEDUCED). -/
def fdbRoom (t : List FdbEntry) (mac vid : Nat) : Option (List FdbEntry) :=
  let mine := t.filter fun e => fdbSet e.mac e.vid == fdbSet mac vid
  if mine.length < 4 then some t else (oldestDynamic mine).map fun x => fdbDrop t x.mac x.vid

/-- A source address is learned, refreshed or moved; a static entry stands (R288, R302). -/
def State.learn (s : State) (p src vid : Nat) : State :=
  if !(s.net.cfg p).learn || isGroup src || s.portSt p != portForwarding then s else
  match fdbFind s.net.fdb src vid with
  | some e =>
    if e.static then s else s.putFdb (fdbDrop s.net.fdb src vid ++ [⟨src, vid, 2 ^ p, false, s.mono⟩])
  | none =>
    match fdbRoom s.net.fdb src vid with
    | some t => s.putFdb (t ++ [⟨src, vid, 2 ^ p, false, s.mono⟩])
    | none => s.fsat F.NET_FDB_FULL_COUNT

/-- Dynamic entries learned on a port are removed (R281, R302). -/
def State.forgetPort (s : State) (p : Nat) : State :=
  s.putFdb (s.net.fdb.filter fun e => e.static || e.ports != 2 ^ p)

/-! ### The configuration at a frame's first byte (R289, R343) -/

/-- The registers that hold configuration: PORT_STAT, PTP_ING_LAT and PTP_EGR_LAT. -/
def configRegs : List Nat :=
  (List.range 7).map R.PORT_STAT ++ (List.range 6).map R.PTP_ING_LAT ++ (List.range 6).map R.PTP_EGR_LAT

/-- The configuration in force, as a take-over that happens now leaves it behind. -/
def State.configNow (s : State) : NetBefore :=
  ⟨s.now, s.net.ports, configRegs.map fun a => (a, s.reg a), s.net.vlans, s.net.fdb.filter (·.static)⟩

/-- The state with the configuration that was in force at an instant, given in units of 0.1 ns, within the last
take-over: what is decided at ingress is read from it. The dynamic entries are those of now. -/
def State.configAt (s : State) (tenths : Nat) : State :=
  match s.net.before with
  | none => s
  | some b =>
    if 10 * b.until_ ≤ tenths then s else
    let dynamic := s.net.fdb.filter fun e => !e.static && !b.statics.any fun x => x.mac == e.mac && x.vid == e.vid
    b.words.foldl (fun (s : State) w => s.setReg w.1 w.2)
      { s with net := { s.net with ports := b.ports, vlans := b.vlans, fdb := b.statics ++ dynamic } }

/-! ### Destinations (R287, R289) -/

/-- Members of a VLAN, and the ports that send it untagged; a VLAN that does not exist has none. -/
def State.vlan (s : State) (vid : Nat) : Vlan := (s.net.vlans.find? (·.vid == vid)).getD ⟨vid, 0, 0⟩

/-- The port mask that R289's table names, and whether the frame is flooded. -/
def State.rawDest (s : State) (dst vid : Nat) : Nat × Bool :=
  let members := (s.vlan vid).members
  if 0x0180C2000000 ≤ dst && dst ≤ 0x0180C200000F then (0x40, false)
  else if dst == moduleMac then (0x40, false)
  else match fdbFind s.net.fdb dst vid with
    | some e => (e.ports, false)
    | none => if isGroup dst then (members ||| 0x40, true) else (members &&& 0x3F, true)

/-- A frame from port `i` may leave through port `e` in state and VLAN: port 6 always, the others as members that
forward, or for the module's own frames that are not DISABLED; a BLOCKED port sends only to port 6 (R285, R287, R289). -/
def State.mayLeave (s : State) (i e vid : Nat) : Bool :=
  e != i && (e == 6 || (natBit (s.vlan vid).members e
    && (if i == 6 then s.portSt e != portDisabled else s.portSt e == portForwarding && s.portSt i == portForwarding)))

/-- The destinations of a frame, and whether it is flooded (R289). -/
def State.dests (s : State) (i dst vid : Nat) : List Nat × Bool :=
  let (mask, flooded) := s.rawDest dst vid
  ((List.range 7).filter fun e => natBit mask e && s.mayLeave i e vid, flooded)

/-! ### The feed (R295 to R298) -/

/-- Cells of a frame of `length` bytes (R295). -/
def cellsOf (length : Nat) : Nat := ceilDiv (length + 16) 256

/-- Identifiers in the queue of a port and class. -/
def NetState.queue (n : NetState) (p c : Nat) : List Nat := (assoc n.queues (8 * p + c)).getD []

/-- A queue replaced. -/
def State.setQueue (s : State) (p c : Nat) (q : List Nat) : State :=
  { s with net := { s.net with queues := cellSet [] s.net.queues (8 * p + c) q } }

/-- A frame in the inkwell. -/
def NetState.frame (n : NetState) (id : Nat) : Option NetFrame := n.frames.find? (·.id == id)

/-- H(q): shared cells that a queue references. -/
def NetState.held (n : NetState) (p c : Nat) : Nat :=
  ((n.queue p c).map fun id => match n.frame id with
    | some f => if f.shared then f.cells else 0
    | none => 0).foldl (· + ·) 0

/-- ALPHA + 3, from the 4-bit two's complement field. -/
def State.alpha3 (s : State) : Nat :=
  let a := s.fget F.INK_CFG_ALPHA
  if a < 8 then a + 3 else a + 3 - 16

/-- The queue of a port and class is below its threshold: H(q) < α·F (R296). -/
def State.queueOk (s : State) (p c : Nat) : Bool :=
  decide (s.net.held p c * 8 < s.fget F.INK_FREE_SHARED_CELLS * 2 ^ s.alpha3)

/-- RES_MIN_TC of a port (R296). -/
def State.resMinTc (s : State) (i : Nat) : Nat := if i == 6 then 0 else s.fget F.INK_CFG_RES_MIN_TC

/-- The feed's decision on a frame (R296). -/
inductive Admission where
  /-- Admitted from the shared pool to these destinations. -/
  | shared (ports : List Nat)
  | reserve
  | queueLimit
  | noCell
  deriving DecidableEq, Repr

/-- The function of R296 that admits a frame to the cell pools. -/
def State.poolAdmission (s : State) (i c : Nat) (d : List Nat) : Admission :=
  let free := s.fget F.INK_FREE_SHARED_CELLS
  let ok := d.filter fun p => s.queueOk p c
  if 7 ≤ free && !ok.isEmpty then .shared ok
  else if s.resMinTc i ≤ c && 7 ≤ s.fget (F.INK_RES_FREE_CELLS i) then .reserve
  else if 7 ≤ free then .queueLimit
  else .noCell

/-- QUEUE_LIMIT counted at each of these egress ports (R301). -/
def State.countLimit (s : State) (ports : List Nat) : State :=
  ports.foldl (fun s p => s.fsat (F.PORT_DROP_OUT_QUEUE_LIMIT p)) s

/-- The free cells of the pool that a frame of port `i` drew from (R295). -/
def poolField (i : Nat) (shared : Bool) : Field := if shared then F.INK_FREE_SHARED_CELLS else F.INK_RES_FREE_CELLS i

/-- Cells pass from one holder of the books to another (R297, R298). -/
def State.moveCells (s : State) (src dst : Field) (n : Nat) : State :=
  let s := s.fput src (s.fget src - n)
  s.fput dst (s.fget dst + n)

/-- The credits of the largest frame, which a header draws (R296). -/
def headCredits : Nat := 7

/-- The holder of a frame's cells once its last byte has come (R297): the queues while one references it, else the engine;
none where nothing does. -/
def NetFrame.holder (f : NetFrame) : Option Field :=
  if !f.refs.isEmpty then some F.INK_HELD_QUEUES_CELLS else if f.engine then some F.INK_HELD_ENGINE_CELLS else none

/-- A frame in the inkwell changed: its cells pass to the holder that follows, or back to their pool with the frame gone
(R295, R297). -/
def State.putFrame (s : State) (old new : NetFrame) : State :=
  let s := { s with net := { s.net with frames := match new.holder with
    | some _ => s.net.frames.map fun g => if g.id == new.id then new else g
    | none => s.net.frames.filter (·.id != new.id) } }
  let src := old.holder.getD F.INK_HELD_INGRESS_CELLS
  let dst := new.holder.getD (poolField new.port new.shared)
  if src == dst then s else s.moveCells src dst new.cells

/-- The last byte of a frame has come: the unfilled credits return to their pool, and its cells pass from ingress to what
references it (R296, R297). -/
def State.settleFrame (s : State) (id : Nat) : State :=
  match s.net.frame id with
  | none => s
  | some f => (s.moveCells F.INK_HELD_INGRESS_CELLS (poolField f.port f.shared) (headCredits - f.cells)).putFrame
      { f with refs := [], engine := false } f

/-- The telegram engine references a frame until its delivery (R297). -/
def State.engineHolds (s : State) (id : Nat) : State :=
  { s with net := { s.net with frames := s.net.frames.map fun f => if f.id == id then { f with engine := true } else f } }

/-- The engine's reference of a frame ends. -/
def State.engineDone (s : State) (id : Nat) : State :=
  match s.net.frame id with
  | none => s
  | some f => s.putFrame f { f with engine := false }

/-- One reference of a frame ends, at egress port `p` and class `c`; with the last one its cells return (R297). -/
def State.dropRef (s : State) (id p c : Nat) : State :=
  let s := s.setQueue p c ((s.net.queue p c).filter (· != id))
  let s := { s with net := { s.net with quiet := cellIns s.net.quiet p s.now } }
  match s.net.frame id with
  | none => s
  | some f => s.putFrame f { f with refs := f.refs.filter (· != p) }

/-- Everything queued to a port is discarded and counted LINK_DOWN, a transmission cut off (R281, R301, R302). -/
def State.flushPort (s : State) (p : Nat) : State :=
  let s := { s with net := { s.net with tx := s.net.tx.filter (·.port != p) } }
  (List.range 8).foldl (fun (s : State) c =>
    (s.net.queue p c).foldl (fun (s : State) id => (s.dropRef id p c).fsat (F.PORT_DROP_OUT_LINK_DOWN p)) s) s

/-- What became of a frame that the switch took. -/
inductive Switched where
  | forwarded (id : Nat)
  | refused
  | dropped
  deriving DecidableEq, Repr

/-- What is decided of a frame at ingress, under the configuration in force at its first byte (R286, R289). -/
structure SwitchIn where
  port : Nat
  /-- The frame without tag and FCS, and its length with both. -/
  core : List Byte
  length : Nat
  vid : Nat
  pcp : Nat
  /-- Destinations; whether it is flooded, and the FLOOD_LIMIT of its port. -/
  dests : List Nat
  flooded : Bool
  limit : Nat
  /-- Ports that send its VLAN untagged. -/
  untagged : Nat
  /-- Ingress stamp in units of 0.1 ns, and ING_LAT. -/
  stamp : Nat
  lat : Int
  deriving DecidableEq, Repr

/-- A frame that enters at port `p` in VLAN `vid` with priority `pcp`, decided under the configuration of this state
(R286, R289, R331). -/
def State.decideIn (s : State) (p : Nat) (core : List Byte) (length vid pcp stamp : Nat) : SwitchIn :=
  let (d, flooded) := s.dests p (frameDst core) vid
  ⟨p, core, length, vid, pcp, d, flooded, (s.net.cfg p).flood, (s.vlan vid).untagged, stamp, if p ≤ 5 then s.ingLat p else 0⟩

/-- A frame for port 6, as NET_FRAME units of its traffic class to the units behind the port (R13, R286).
See log entry 71 (DESIGN CHOICE). -/
def State.sendNetFrame (s : State) (b : Block) (core : List Byte) (cls : Nat) : State :=
  let bs := pad8 core
  s.sendUnits [b] pdFab kindNetFrame 0 cls (chunks 256 (ceilDiv bs.length 256) bs)

/-- An admitted frame draws its credits, enters the queues of `ports`, and is delivered to port 6 if it is one of them
(R289, R296, R297). -/
def State.enqueue (s : State) (x : SwitchIn) (ports : List Nat) (shared : Bool) : State × Nat :=
  let s := s.moveCells (poolField x.port shared) F.INK_HELD_INGRESS_CELLS headCredits
  let c := classOf x.pcp
  let s := if ports.contains 6 then ({ s with net := { s.net with port6 := x.core } }).sendNetFrame .time x.core c else s
  let qs := ports.filter (· != 6)
  let n := s.net
  let f : NetFrame := ⟨n.nextId, x.port, x.core, x.vid, x.pcp, x.length, shared, cellsOf x.length, qs, x.untagged, x.stamp, x.lat, false⟩
  let s := { s with net := { n with frames := n.frames ++ [f], nextId := n.nextId + 1 } }
  (qs.foldl (fun (s : State) p => s.setQueue p c (s.net.queue p c ++ [f.id])) s, f.id)

/-- The feed takes or refuses the frame for the destinations `d` whose links are up (R296). -/
def State.feed (s : State) (x : SwitchIn) (d : List Nat) : State × Switched :=
  let go (r : State × Nat) : State × Switched := (r.1, .forwarded r.2)
  match s.poolAdmission x.port (classOf x.pcp) d with
  | .shared ok => go ((s.countLimit (d.filter fun p => !ok.contains p)).enqueue x ok true)
  | .reserve => go (s.enqueue x d false)
  | .queueLimit => (s.countLimit d, .refused)
  | .noCell => (s.fsat (F.PORT_DROP_IN_NO_CELL x.port), .refused)

/-- The frame is over its port's FLOOD_LIMIT in this millisecond; else it is counted in (R289). -/
def State.floodCheck (s : State) (p limit : Nat) : State × Bool :=
  let x := s.net.cfg p
  let ms := s.now / 1000000
  let n := if x.floodMs == ms then x.floodCount else 0
  if limit != 0 && limit ≤ n then (s, true)
  else (s.setPortCfg p { x with floodMs := ms, floodCount := n + 1 }, false)

/-- A frame taken through VLAN rules, flood limit and feed (R289, R296, R301); its cells stay under ingress until
`settleFrame`. See log entry 42 (DEDUCED). -/
def State.switch (s : State) (x : SwitchIn) : State × Switched :=
  if x.dests.isEmpty then (s.fsat (F.PORT_DROP_FWD_VLAN x.port), .dropped) else
  let (s, full) := if x.flooded then s.floodCheck x.port x.limit else (s, false)
  if full then (s.fsat (F.PORT_DROP_FWD_FLOOD_LIMIT x.port), .dropped) else
  let s := (x.dests.filter fun p => !s.linkUp p).foldl (fun (s : State) p => s.fsat (F.PORT_DROP_OUT_LINK_DOWN p)) s
  let up := x.dests.filter fun p => s.linkUp p
  if up.isEmpty then (s, .dropped) else s.feed x up

/-- A frame that the module itself hands to port 6 (R288, R295, R301, R320): refused by ACCEPT, or learned and
switched. -/
def State.fromSix (s : State) (x : SwitchIn) (tagged : Bool) : State × Switched :=
  if !acceptOk (s.net.cfg 6).accept tagged then (s.fsat (F.PORT_DROP_IN_FORMAT 6), .dropped) else
  let s := (s.sendNetFrame .ink x.core (classOf x.pcp)).learn 6 (frameSrc x.core) x.vid
  let (s, r) := s.switch x
  match r with
  | .forwarded id => (s.settleFrame id, r)
  | _ => (s, r)

/-! ### Gates (R292 to R294) -/

/-- The gates of a port. -/
def NetState.gate (n : NetState) (p : Nat) : PortGate := n.gates.getD p ⟨none, none, 0xFF⟩

/-- The gates of a port replaced; PORT_STAT.GATED follows. -/
def State.setGate (s : State) (p : Nat) (g : PortGate) : State :=
  ({ s with net := { s.net with gates := s.net.gates.set p g } }).fput (F.PORT_STAT_GATED p) (bit g.list.isSome)

/-- Position in the cycle at an instant. -/
def GateList.pos (g : GateList) (t : Nat) : Nat := (t + g.cycle - g.base) % g.cycle

/-- The entries from a position in the cycle on, the first one cut. -/
def gatesFrom (pos : Nat) : List (Nat × Nat) → List (Nat × Nat)
  | [] => []
  | (m, n) :: es => if pos < n then (m, n - pos) :: es else gatesFrom (pos - n) es

/-- Time for which class `c` stays open from the head of the entries on. -/
def openRun (c : Nat) : List (Nat × Nat) → Nat
  | [] => 0
  | (m, n) :: es => if natBit m c then n + openRun c es else 0

/-- The gates of an instant (R292). -/
def GateList.maskAt (g : GateList) (t : Nat) : Nat := ((gatesFrom (g.pos t) g.entries).head?.map (·.1)).getD 0

/-- Class `c` is open in every entry: it never closes (R293). -/
def GateList.always (g : GateList) (c : Nat) : Bool := g.entries.all fun e => natBit e.1 c

/-- For how long class `c` stays open from instant `t` on; none for ever. -/
def GateList.openFor (g : GateList) (c t : Nat) : Option Nat :=
  if g.always c then none else some (openRun c (gatesFrom (g.pos t) (g.entries ++ g.entries)))

/-- The longest window of class `c`; none for one without end. -/
def GateList.window (g : GateList) (c : Nat) : Option Nat :=
  if g.always c then none
  else some ((List.range g.entries.length).foldl (fun m i => max m (openRun c ((g.entries ++ g.entries).drop i))) 0)

/-- For how long class `c` stays open at a port, the list that waits included (R293, R294); none for ever. -/
def PortGate.openFor (g : PortGate) (c t : Nat) : Option Nat :=
  let cur : Option Nat := match g.list with
    | some l => l.openFor c t
    | none => none
  match g.next with
  | none => cur
  | some (l, u) =>
    let rest := (l.openFor c u).map fun n => u - t + n
    match cur with
    | some n => if t + n < u then some n else rest
    | none => rest

/-- A transmission of `tenths` ends before the gate of class `c` closes (R293). -/
def PortGate.fits (g : PortGate) (c t tenths : Nat) : Bool :=
  natBit g.gates c && (match g.openFor c t with
    | some n => decide (tenths ≤ 10 * n)
    | none => true)

/-- A transmission of `tenths` fits no window of class `c` (R293). -/
def PortGate.oversize (g : PortGate) (c tenths : Nat) : Bool :=
  match g.list.bind (·.window c) with
  | some n => decide (10 * n < tenths)
  | none => false

/-! ### PTP messages that the switch forwards (R333) -/

/-- Offset of the PTP message in a frame without tag, if it holds one; true for UDP, behind an IPv4 header of any
length. -/
def ptpAt (core : List Byte) : Option (Nat × Bool) :=
  let o := 14 + 4 * (byteAt core 14 % 16)
  if frameType core == 0x88F7 then some (14, false)
  else if frameType core == 0x0800 && byteAt core 14 / 16 == 4 && decide (34 ≤ o) && byteAt core 23 == 17
      && beAt core 20 2 % 0x2000 == 0 && (beAt core (o + 2) 2 == 319 || beAt core (o + 2) 2 == 320) then some (o + 8, true)
  else none

/-- correctionField of the message at `o` raised by `v` (in units of 2^−16 ns). -/
def addCorr (core : List Byte) (o : Nat) (v : Int) : List Byte :=
  let old := (BitVec.ofNat 64 (beAt core (o + 8) 8)).toInt
  splice core (o + 8) (beBytes 8 (BitVec.ofInt 64 (old + v)).toNat)

/-- A changed UDP payload, which lies at `o`, has checksum 0 (R329). -/
def clearUdp (core : List Byte) (o : Nat) (udp : Bool) : List Byte := if udp then splice core (o - 2) [0, 0] else core

/-- sourcePortIdentity and sequenceId of the message at `o`. -/
def ptpKey (core : List Byte) (o : Nat) : List Byte := slice core (o + 20) 12

/-- Residence of a frame that leaves port `e` with egress stamp `out`, with link delay and asymmetry of a Sync from a
P2P port (R333), in units of 2^−16 ns. -/
def State.residence (s : State) (f : NetFrame) (e out : Nat) (sync : Bool) : Int :=
  let r : Int := ((out : Int) - (f.stamp : Int)) * 65536 / 10 + s.egrLat e + f.lat
  let x := s.time.port f.port
  if sync && natBit x.mode 1 then r + x.link.getD 0 + s.asym f.port else r

/-- The frame as the transparent clock lets it leave: the sum in the message, or kept for the Follow_Up (R333). -/
def State.correct (s : State) (f : NetFrame) (e out : Nat) : State × List Byte :=
  if f.port == 6 || !natBit (s.time.port f.port).mode 2 then (s, f.core) else
  match ptpAt f.core with
  | none => (s, f.core)
  | some (o, udp) =>
    let ty := byteAt f.core o % 16
    let key := ptpKey f.core o
    if ty == 0 && natBit (byteAt f.core (o + 6)) 1 then
      let w : TcWait := ⟨e, key, s.residence f e out true⟩
      ({ s with net := { s.net with tcWait := s.net.tcWait.filter (fun x => x.port != e || x.key != key) ++ [w] } }, f.core)
    else if ty ≤ 3 then (s, clearUdp (addCorr f.core o (s.residence f e out (ty == 0))) o udp)
    else if ty == 8 then
      match s.net.tcWait.find? fun x => x.port == e && x.key == key with
      | some w =>
        ({ s with net := { s.net with tcWait := s.net.tcWait.filter (· != w) } }, clearUdp (addCorr f.core o w.corr) o udp)
      | none => (s, f.core)
    else (s, f.core)

/-- The bytes that leave port `e`: tagged or untagged, padded to 64 B, with FCS, inverted if stomped (R280, R289,
R290). -/
def egressBytes (f : NetFrame) (core : List Byte) (e : Nat) (stomped : Bool) : List Byte :=
  let b := if natBit f.untagged e then core
    else core.take 12 ++ [0x81, 0x00] ++ beBytes 2 (f.pcp * 8192 + f.vid) ++ core.drop 12
  let b := b ++ zeros (60 - b.length)
  let fcs := crc32 b
  b ++ leBytes 4 (if stomped then ~~~fcs else fcs).toNat

/-- Length of a frame as it leaves port `e`. -/
def egressLength (f : NetFrame) (e : Nat) : Nat := max 64 (f.core.length + (if natBit f.untagged e then 4 else 8))

/-- Transmission of frame `f` at port `e` and class `c` starts at `start`, in units of 0.1 ns. -/
def State.startTx (s : State) (f : NetFrame) (e c start : Nat) (cut stomped : Bool) : State :=
  let (s, core) := s.correct f e (stampOf (start + 8 * byteTenths e))
  { s with net := { s.net with tx := s.net.tx ++ [⟨e, f.id, c, start / 10, egressBytes f core e stomped, cut, stomped⟩] } }

/-- A port transmits (R293). -/
def NetState.busy (n : NetState) (p : Nat) : Bool := n.tx.any (·.port == p)

/-! ### The configuration records (R284, R330) -/

/-- Signed byte and signed 32-bit number of a record. -/
def sByte (r : List Byte) (o : Nat) : Int := (BitVec.ofNat 8 (byteAt r o)).toInt
def sWord (r : List Byte) (o : Nat) : Int := (BitVec.ofNat 32 (leAt r o 4)).toInt

/-- A value between two bounds. -/
def within (lo x hi : Int) : Bool := decide (lo ≤ x) && decide (x ≤ hi)

/-- Entries of a GATE record: mask and interval; and whether their reserved bytes are 0. -/
def gateEntries (r : List Byte) : List (Nat × Nat) :=
  (List.range (byteAt r 2)).map fun i => (byteAt r (24 + 8 * i), leAt r (28 + 8 * i) 4)
def gateReserved (r : List Byte) : Bool :=
  allZero (slice r 3 5) && (List.range (byteAt r 2)).all fun i => allZero (slice r (25 + 8 * i) 3)

/-- The GATE record holds values in range (R284). -/
def gateRecOk (r : List Byte) : Bool :=
  let es := gateEntries r
  decide (byteAt r 1 ≤ 5) && decide (byteAt r 2 ≤ 64) && gateReserved r
    && (byteAt r 2 == 0 || (decide (leAt r 8 8 < leAt r 16 8) && decide (1000 ≤ leAt r 16 8) && decide (leAt r 16 8 ≤ 10240000000)
      && es.all (fun e => decide (100 ≤ e.2)) && (es.map (·.2)).foldl (· + ·) 0 == leAt r 16 8))

/-- A record of NET_CONFIG holds values in range (R284, R330). -/
def netRecOk (r : List Byte) : Bool :=
  match byteAt r 0 with
  | 1 => decide (byteAt r 1 ≤ 6) && decide (byteAt r 2 ≤ 2) && (byteAt r 1 != 6 || byteAt r 2 == 2) && decide (byteAt r 3 ≤ 2)
      && decide (1 ≤ leAt r 4 2) && decide (leAt r 4 2 ≤ 4094) && decide (byteAt r 6 ≤ 7) && decide (byteAt r 7 < 4)
      && (!natBit (byteAt r 7) 1 || decide (byteAt r 1 ≤ 1)) && allZero (slice r 10 6)
  | 2 => byteAt r 1 == 0 && decide (1 ≤ leAt r 2 2) && decide (leAt r 2 2 ≤ 4094) && decide (byteAt r 4 < 128)
      && (byteAt r 5 &&& byteAt r 4) == byteAt r 5 && allZero (slice r 6 10)
  | 3 => byteAt r 1 == 0 && decide (1 ≤ leAt r 8 2) && decide (leAt r 8 2 ≤ 4094) && decide (byteAt r 10 < 128)
      && decide (byteAt r 11 < 2) && allZero (slice r 12 4)
  | 4 => byteAt r 1 == 0 && within (-3) (sByte r 2) 3 && decide (byteAt r 3 ≤ 7)
      && (leAt r 4 4 == 0 || (decide (10 ≤ leAt r 4 4) && decide (leAt r 4 4 ≤ 1000000))) && allZero (slice r 8 8)
  | 5 => gateRecOk r
  | 6 => byteAt r 1 == 0 && decide (8 ≤ byteAt r 2) && decide (byteAt r 2 ≤ 30) && byteAt r 3 == 0 && allZero (slice r 12 4)
  | 7 => decide (byteAt r 1 ≤ 2) && decide (byteAt r 2 ≤ 127) && decide (byteAt r 3 < 16) && decide (1 ≤ byteAt r 7)
      && decide (byteAt r 7 ≤ 200) && within (-7) (sByte r 8) 4 && within (-3) (sByte r 9) 4 && within (-7) (sByte r 10) 5
      && decide (2 ≤ byteAt r 11) && decide (byteAt r 11 ≤ 10) && allZero (slice r 12 4)
  | 8 => decide (byteAt r 1 ≤ 5) && decide (byteAt r 2 < 8) && decide (byteAt r 3 ≤ 3) && within (-10000000) (sWord r 4) 10000000
      && within (-10000000) (sWord r 8) 10000000 && within (-1000000000) (sWord r 12) 1000000000
  | _ => false

/-- Length of the record that starts at the head of these bytes. -/
def netRecLen (b : List Byte) : Nat := if byteAt b 0 == 5 then 24 + 8 * byteAt b 2 else 16

/-- The records of a packet, and the bytes left over; none where a record is cut short. -/
def netParse : Nat → List Byte → Option (List (List Byte) × List Byte)
  | 0, b => some ([], b)
  | n + 1, b =>
    if b.length < netRecLen b then none
    else (netParse n (b.drop (netRecLen b))).map fun x => (b.take (netRecLen b) :: x.1, x.2)

/-! ### Taking a set over (R283, R285, R294, R302) -/

/-- A static entry is set or deleted. It replaces a dynamic entry, and in a full set the oldest dynamic one (R288). -/
def applyFdb (t : List FdbEntry) (r : List Byte) (now : Nat) : List FdbEntry :=
  let mac := beAt r 2 6
  let vid := leAt r 8 2
  if natBit (byteAt r 11) 0 then t.filter fun e => !(e.static && e.mac == mac && e.vid == vid)
  else
    let t := fdbDrop t mac vid
    ((fdbRoom t mac vid).getD t) ++ [⟨mac, vid, byteAt r 10, true, now⟩]

/-- PORT record (R284). -/
def State.applyPort (s : State) (r : List Byte) : State :=
  let p := byteAt r 1
  let st := byteAt r 2
  let was := s.portSt p
  let s := (s.fput (F.PORT_STAT_STATE p) st).fput (F.PORT_STAT_CUT p) (bit (natBit (byteAt r 7) 1))
  let s := (s.fput (F.PORT_STAT_PVID p) (leAt r 4 2)).fput (F.PORT_STAT_PCP p) (byteAt r 6)
  let x := s.net.cfg p
  let s := s.setPortCfg p { x with accept := byteAt r 3, learn := natBit (byteAt r 7) 0, flood := leAt r 8 2 }
  if was == portForwarding && st != portForwarding then (s.flushPort p).forgetPort p else s

/-- GATE record: the new list waits for its first cycle start; without entries the list goes at once (R284, R294). -/
def State.applyGate (s : State) (r : List Byte) : State :=
  let p := byteAt r 1
  let g := s.net.gate p
  if byteAt r 2 == 0 then s.setGate p ⟨none, none, 0xFF⟩
  else
    let l : GateList := ⟨leAt r 8 8, leAt r 16 8, gateEntries r⟩
    let start := if s.now ≤ l.base then l.base else l.base + gridAtOrAfter l.cycle (s.now - l.base)
    s.setGate p { g with next := some (l, start) }

/-- PTP_PORT record (R330). -/
def State.applyPtpPort (s : State) (r : List Byte) : State :=
  let p := byteAt r 1
  let s := s.setPtp p { s.time.port p with mode := byteAt r 2, extState := byteAt r 3 }
  let s := (s.fput (F.PTP_ING_LAT_PS p) (leAt r 4 4)).fput (F.PTP_EGR_LAT_PS p) (leAt r 8 4)
  s.fput (F.PTP_ASYM_PS p) (leAt r 12 4)

/-- One record takes effect (R284, R330). -/
def State.applyNetRec (s : State) (r : List Byte) : State :=
  match byteAt r 0 with
  | 1 => s.applyPort r
  | 2 =>
    let vs := s.net.vlans.filter (·.vid != leAt r 2 2)
    { s with net := { s.net with vlans := if byteAt r 4 == 0 then vs else vs ++ [⟨leAt r 2 2, byteAt r 4, byteAt r 5⟩] } }
  | 3 => s.putFdb (applyFdb s.net.fdb r s.mono)
  | 4 =>
    let s := (s.fput F.INK_CFG_ALPHA (byteAt r 2 % 16)).fput F.INK_CFG_RES_MIN_TC (byteAt r 3)
    { s with net := { s.net with ageS := leAt r 4 4 } }
  | 5 => s.applyGate r
  | 6 => { s with net := { s.net with mpPrefix := byteAt r 2, mpAddr := some (beAt r 4 4), mpGateway := beAt r 8 4 } }
  | 7 => { s with time := { s.time with record := r } }
  | 8 => s.applyPtpPort r
  | _ => s

/-- Codes of NET_CFG. -/
def netNone : Nat := 0
def netOpen : Nat := 1
def netClosed : Nat := 2
def netTaken : Nat := 1
def netBad : Nat := 2
def netDiscarded : Nat := 3
def netTimeout : Nat := 4

/-- NET_CONFIG's opcode (R404). -/
def opNetConfig : Nat := 0x0106

/-- The set replaced; NET_CFG.STATE follows. -/
def State.putNetSet (s : State) (z : Option NetSet) : State :=
  ({ s with net := { s.net with set := z } }).fput F.NET_CFG_STATE
    (match z with
      | none => netNone
      | some z => if z.closedAt.isSome then netClosed else netOpen)

/-- The closed set is due at instant `t` (R283). -/
def State.netDue (s : State) (t : Nat) : Bool :=
  match s.net.set with
  | some z => (match z.closedAt with | some a => decide (a + 20000 ≤ t) | none => false)
  | none => false

/-- The key of a record: a later one for the same port, VID, address or group replaces an earlier one (R284). -/
def netKey (r : List Byte) : List Byte :=
  match byteAt r 0 with
  | 1 | 5 | 8 => r.take 2
  | 2 => r.take 1 ++ slice r 2 2
  | 3 => r.take 1 ++ slice r 2 8
  | _ => r.take 1

/-- A record joins the configuration in force. -/
def keepRec (rs : List (List Byte)) (r : List Byte) : List (List Byte) := rs.filter (netKey · != netKey r) ++ [r]

/-- The set is taken over whole at an output commit, each record that a later one of its key does not replace, and its
LAST packet answered OK; the generation advances (R17, R283, R284). -/
def State.takeNet (s : State) : State :=
  match s.net.set with
  | none => s
  | some z =>
    let recs := z.recs.foldl keepRec []
    let s := { s with net := { s.net with before := some s.configNow } }
    let s := recs.foldl State.applyNetRec s
    let s := { s with net := { s.net with inForce := recs.foldl keepRec s.net.inForce } }
    let s := if recs.any (fun r => byteAt r 0 == 7 || byteAt r 0 == 8) then s.ptpReconfig else s
    let s := (s.putNetSet none).fput F.NET_CFG_LAST_RESULT netTaken
    let s := (s.finc F.NET_CFG_TAKEOVERS).advanceGen
    match z.last with
    | some c => s.replyOk c opNetConfig
    | none => s

/-- The set is dropped with a result; a LAST packet that waits is answered ABORTED (R283). -/
def State.dropNet (s : State) (result : Nat) : State :=
  match s.net.set with
  | none => s
  | some z =>
    let s := (s.putNetSet none).fput F.NET_CFG_LAST_RESULT result
    match z.last with
    | some c => s.replyErr c opNetConfig stAborted noIndex
    | none => s

end Sys2Proof.Machine
end

