-- ==== Sys2Proof/Machine/Bridge.lean ====
section
/-! DEFINITION. The host bridge (R344 to R365): the module address map, windows, inbound and outbound requests, errors,
MSI-X and the resets of R346; and access violations (R458, R459). -/

namespace Sys2Proof.Machine

/-! ### The module address map (R348) -/

/-- A region of module memory. -/
structure Region where
  base : Nat
  size : Nat
  plain : Bool
  hostWrites : Bool
  domain : Nat
  deriving DecidableEq, Repr

/-- The table of R348. -/
def regions : List Region :=
  [⟨0x00000000, 0x1000000, true, false, pdFab⟩, ⟨0x01000000, 0x1000000, true, false, pdFab⟩,
   ⟨0x02000000, 0x1000000, true, false, pdFab⟩, ⟨0x03000000, 0x1000000, true, false, pdFab⟩,
   ⟨0x04000000, 0x4000000, true, false, pdFab⟩, ⟨0x08000000, 0x10000, true, false, pdFab⟩,
   ⟨0x08010000, 0x10000, true, false, pdFab⟩, ⟨0x08100000, 0x100000, true, true, pdMgmt⟩,
   ⟨0x09000000, 0x1000000, true, true, pdHost⟩, ⟨0x0A000000, 0x1000, false, true, pdHost⟩,
   ⟨0x10000000, 0x10000000, true, true, pdFab⟩]

/-- The region that a module address lies in. -/
def regionAt (a : Nat) : Option Region := regions.find? fun r => decide (r.base ≤ a) && decide (a < r.base + r.size)

/-- Mailbox control (R350). -/
def mboxControl : Nat := 0x0A000000

/-! ### Violations (R458, R459) -/

/-- Requester codes (R458). -/
def rqHost : Nat := 0
def rqHostMove : Nat := 1
def rqScribeMove : Nat := 2
def rqScribe : Nat := 3
def rqDebug : Nat := 4

/-- A violation is counted for its requester, and captured when no capture is held (R459). -/
def State.violation (s : State) (r : Nat) (write : Bool) (addr : Nat) : State :=
  let s := s.fsat (F.SYS_VIOL_COUNT_COUNT r)
  if s.flag F.SYS_VIOL_CAP_VALID then s else
  let s := ((s.fput F.SYS_VIOL_CAP_REQUESTER r).fput F.SYS_VIOL_CAP_WRITE (bit write)).fput F.SYS_VIOL_CAP_VALID 1
  (s.fput F.SYS_VIOL_ADDR_LO_ADDR (addr % 2 ^ 32)).fput F.SYS_VIOL_ADDR_HI_ADDR (addr / 2 ^ 32)

/-! ### Windows (R351 to R356) -/

/-- Window `w` in force: size, BAR2 offset, target. -/
def State.winOn (s : State) (w : Nat) : Bool := s.flag (F.WIN_CFG_ENABLE w)
def State.winSize (s : State) (w : Nat) : Nat := 2 ^ s.fget (F.WIN_CFG_SIZE_LOG2 w)
def State.winOff (s : State) (w : Nat) : Nat := s.fget (F.WIN_CFG_BAR_OFF w) * 4096
def State.winTarget (s : State) (w : Nat) : Nat := s.fget (F.WIN_TARGET_TARGET w)

/-- The enabled window that holds BAR2 offset `x` (R354). -/
def State.winAt (s : State) (x : Nat) : Option Nat :=
  (List.range 8).find? fun w => s.winOn w && decide (s.winOff w ≤ x) && decide (x < s.winOff w + s.winSize w)

/-- m of R355: ADDR_INVARIANT, or DATA_INVARIANT with an element of E bytes. -/
def laneMap (lanes n : Nat) : Nat :=
  if lanes == 0 then n
  else
    let e := 2 ^ lanes
    n - n % e + (e - 1 - n % e)

/-- The module address that BAR2 offset `x` reaches, with its window and region; none for a violation (R354). -/
def State.bar2 (s : State) (x : Nat) : Option (Nat × Nat × Region) :=
  match s.winAt x with
  | none => none
  | some w =>
    let a := s.winTarget w + laneMap (s.fget (F.WIN_CFG_LANES w)) (x - s.winOff w)
    (regionAt a).map fun r => (w, a, r)

/-- The BAR2 offsets of a request. -/
def bar2Offsets (off n : Nat) : List Nat := (List.range n).map (off + ·)

/-- Every byte of a request reaches a powered region, or is a violation: no far-side error (R359). -/
def State.farOk (s : State) (off n : Nat) : Bool :=
  (bar2Offsets off n).all fun x => match s.bar2 x with
    | some (_, _, r) => s.powered r.domain
    | none => true

/-! ### Mailbox control (R350) -/

/-- Byte `i` of the mailbox control region as a read returns it: MBOX_M2H, and 0 elsewhere. -/
def State.mboxByte (s : State) (i : Nat) : Byte :=
  if 4 ≤ i && i < 8 then BitVec.ofNat 8 (s.quill.mboxM2h / 2 ^ (8 * (i - 4))) else 0

/-- One byte of module memory as the bridge reads it. -/
def State.busByte (s : State) (a : Nat) : Byte :=
  if mboxControl ≤ a && a < mboxControl + 0x1000 then s.mboxByte (a - mboxControl) else s.mread a

/-- A read of MBOX_M2H clears it (R350). -/
def State.clearM2h (s : State) (as : List Nat) : State :=
  if as.any fun a => decide (mboxControl + 4 ≤ a) && decide (a < mboxControl + 8) then
    { s with quill := { s.quill with mboxM2h := 0 } }
  else s

/-- MBOX_H2M is written: the message is announced, unless a mailbox command is outstanding (R350, R398). -/
def State.announce (s : State) (len : Nat) : State :=
  if s.quill.mailbox.isSome || !s.powered pdHost then s
  else { s with quill := { s.quill with mailbox := some ⟨len, none⟩ } }

/-! ### Inbound requests (R354 to R359) -/

/-- Completion status of PCI Express: successful, Unsupported Request, Completer Abort. -/
def csOk : Nat := 0
def csUr : Nat := 1
def csCa : Nat := 4

/-- The completion of an inbound read. -/
def State.complete (s : State) (status : Nat) (data : List Byte) : State := { s with brg := { s.brg with status := status, data := data } }

/-- A read ends with a Completer Abort (R359). -/
def State.completerAbort (s : State) : State := (s.fsat F.BRG_ERR_CA).complete csCa []

/-- The bridge answers memory requests: PD_HOST is on and the function is in D0 (R346). -/
def State.bridgeUp (s : State) : Bool := s.powered pdHost && s.fget F.BRG_LINK_DSTATE == 0

/-- Lines fetched ahead of a read that ends at `a` in window `w`: up to 512 B beyond it, at most 32 lines (R357).
See log entry 50 (PRESUMED). -/
def State.fetchAhead (s : State) (w a : Nat) : State :=
  let first := gridAtOrAfter 64 a
  let end_ := s.winTarget w + s.winSize w
  let lines := ((List.range 8).map fun i => first + 64 * i).filter fun l => decide (l + 64 ≤ end_)
  let old := s.brg.ahead.filter fun x => !lines.contains x.1
  let all := old ++ lines.map fun l => (l, s.now)
  { s with brg := { s.brg with ahead := all.drop (all.length - 32) } }

/-- One inbound read of BAR2 (R354 to R358). -/
def State.bar2Read (s : State) (off n : Nat) : State :=
  let s := match s.winAt off with
    | some w => s.finc (F.WIN_RD_COUNT w)
    | none => s
  if !s.farOk off n then s.completerAbort else
  let hits := (bar2Offsets off n).map s.bar2
  let data := hits.map fun h => match h with
    | some (_, a, _) => s.busByte a
    | none => (0 : Byte)
  let s := if hits.any (·.isNone) then s.violation rqHost false off else s
  let s := s.clearM2h (hits.filterMap fun h => h.map (·.2.1))
  let s := match s.winAt (off + n - 1) with
    | some w => if s.flag (F.WIN_CFG_PREF_EFF w) then
        s.fetchAhead w (s.winTarget w + (off + n - s.winOff w)) else s
    | none => s
  s.complete csOk data

/-- The word at a BAR0 offset as the host reads it, with its latches filled or used (R25). -/
def State.bar0Word (s : State) (off : Nat) : State × Word :=
  if pairLow off then
    let o := execLowRegisterRead .host off s
    match o with
    | .next s => (s, s.readOut)
    | _ => (s, 0)
  else
    match execHighRegisterRead .host off s with
    | .next s => (s, s.readOut)
    | _ => (s, 0)

/-- One inbound read of BAR0: whole registers (R19, R20). -/
def State.bar0Read (s : State) (off n : Nat) : State :=
  let (s, data) := (List.range (ceilDiv n 4)).foldl (fun (x : State × List Byte) i =>
    let (s, w) := x.1.bar0Word ((off / 4 + i) * 4)
    (s, x.2 ++ leBytes 4 w.toNat)) (s, [])
  s.complete csOk (data.take n)

/-- A read of BAR4: the MSI-X table and the Pending Bit Array (R347). -/
def State.bar4Byte (s : State) (i : Nat) : Byte :=
  if i < 0x400 then BitVec.ofNat 8 ((s.msixWord (i / 4)).toNat / 2 ^ (8 * (i % 4)))
  else if 0x1000 ≤ i && i < 0x1008 then BitVec.ofNat 8 (s.brg.waiting / 2 ^ (8 * (i - 0x1000)))
  else 0

/-- INBOUND_READ: a memory read of `n` bytes (R20, R347, R354). -/
def execInboundRead (bar off n t : Nat) (s : State) : Host.Outcome State Fault Refusal :=
  let s := s.tick t
  if !s.bridgeUp then .next s
  else if bar == 0 then .next (s.bar0Read off n)
  else if bar == 2 then .next (s.bar2Read off n)
  else if bar == 4 then .next (s.complete csOk ((List.range n).map fun i => s.bar4Byte (off + i)))
  else .next s

/-- A posted write is discarded: counted, captured when no capture is held, and announced (R359, R365). -/
def State.postedError (s : State) (cause off : Nat) : State :=
  let s := s.fsat F.BRG_PW_COUNT_COUNT
  let s := if s.flag F.BRG_PW_CAP_VALID then s else
    ((s.fput F.BRG_PW_CAP_CAUSE cause).fput F.BRG_PW_ADDR_OFFSET off).fput F.BRG_PW_CAP_VALID 1
  s.hostEvent evPosted

/-- Causes of BRG_PW_CAP. -/
def pwEcc : Nat := 1
def pwUnreachable : Nat := 2
def pwPoisoned : Nat := 3

/-- The host may write the byte that BAR2 offset `x` reaches (R354). -/
def State.mayWrite (s : State) (x : Nat) : Bool :=
  match s.bar2 x with
  | some (w, _, r) => s.flag (F.WIN_CFG_WRITE w) && r.hostWrites
  | none => false

/-- One byte written through BAR2; mailbox control takes no write here (DEDUCED, log entry 13). -/
def State.bar2Byte (s : State) (x : Nat) (b : Byte) : State :=
  match s.bar2 x with
  | some (_, a, r) => if s.mayWrite x && r.plain then s.mwrite a [b] else s
  | none => s

/-- INBOUND_WRITE: a posted write to BAR2 (R354, R359). See log entry 13 (DEDUCED). -/
def execInboundWrite (off : Nat) (bytes : List Byte) (t : Nat) (s : State) : Host.Outcome State Fault Refusal :=
  let s := s.tick t
  if !s.bridgeUp then .next s else
  let s := match s.winAt off with
    | some w => s.finc (F.WIN_WR_COUNT w)
    | none => s
  if !s.farOk off bytes.length then .next (s.postedError pwUnreachable off) else
  let bad := (bar2Offsets off bytes.length).any fun x => !s.mayWrite x
  let s := if bad then s.violation rqHost true off else s
  .next ((List.range bytes.length).foldl (fun (s : State) i => s.bar2Byte (off + i) (bytes.getD i 0)) s)

/-- INBOUND_READ_TIMEOUT: a read whose target has no answer within 50 µs (R359). -/
def execInboundReadTimeout (t : Nat) (s : State) : Host.Outcome State Fault Refusal :=
  let s := s.tick t
  if s.bridgeUp then .next s.completerAbort else .next s

/-- UNSUPPORTED_REQUEST: an MRdLk or an AtomicOp (R345, R359). See log entry 50 (PRESUMED). -/
def execUnsupportedRequest (t : Nat) (s : State) : Host.Outcome State Fault Refusal :=
  let s := s.tick t
  if s.bridgeUp then .next ((s.fsat F.BRG_ERR_UR).complete csUr []) else .next s

/-- MALFORMED_TLP: AER fatal (R359). See log entry 50 (PRESUMED). -/
def execMalformedTlp (t : Nat) (s : State) : Host.Outcome State Fault Refusal :=
  let s := s.tick t
  if s.powered pdHost then .next { s with brg := { s.brg with aerFatal := true } } else .next s

/-- POSTED_WRITE_ERROR: a posted write with a far-side error or poison is discarded (R359). -/
def execPostedWriteError (cause off t : Nat) (s : State) : Host.Outcome State Fault Refusal :=
  let s := s.tick t
  if !s.bridgeUp then .next s else
  let s := if cause == pwPoisoned then { s with brg := { s.brg with aerNonFatal := true } } else s
  .next (s.postedError (cause % 4) off)

/-- READ_AHEAD_EXPIRE: a line is discarded 10 µs after its fetch (R357). -/
def execReadAheadExpire (line t : Nat) (s : State) : Host.Outcome State Fault Refusal :=
  let s := s.tick t
  .next { s with brg := { s.brg with ahead := s.brg.ahead.filter fun x => !(x.1 == line && decide (x.2 + 10000 ≤ s.now)) } }

/-! ### Outbound requests (R363) -/

/-- BRG_CREDIT follows the outstanding reads. -/
def State.showCredit (s : State) : State :=
  (s.fput F.BRG_CREDIT_TAGS s.brg.reads.length).fput F.BRG_CREDIT_RESERVED_B ((s.brg.reads.map (·.bytes)).foldl (· + ·) 0)

/-- A read of `n` bytes can be reserved: a free tag and room for its whole response (R363).
See log entry 51 (DEDUCED). -/
def State.canRead (s : State) (n : Nat) : Bool :=
  s.bridgeUp && decide (s.brg.reads.length < 32)
    && decide ((s.brg.reads.map (·.bytes)).foldl (· + ·) 0 + n ≤ 32768)

/-- The lowest free tag. -/
def BrgState.freeTag (b : BrgState) : Nat :=
  ((List.range 32).find? fun n => !b.reads.any (·.tag == n)).getD 0

/-- An outbound read is sent with its reservation (R363). -/
def State.sendRead (s : State) (n : Nat) (use : ReadUse) : State :=
  ({ s with brg := { s.brg with reads := s.brg.reads ++ [(⟨s.brg.freeTag, n, use, s.now⟩ : OutRead)] } }).showCredit

/-- An outbound read has ended: its tag and reservation are free (R363). -/
def State.endRead (s : State) (tag : Nat) : State :=
  ({ s with brg := { s.brg with reads := s.brg.reads.filter (·.tag != tag) } }).showCredit

/-- The read of a use. -/
def State.readFor (s : State) (use : ReadUse) : Option OutRead := s.brg.reads.find? (·.use == use)

/-- A posted write to host memory of `n` bytes may leave: the host has given credit for it (R363). -/
def State.canPost (s : State) (n : Nat) : Bool := s.bridgeUp && decide (n ≤ s.brg.credit)

/-- A posted write leaves for host memory (R362, R363). -/
def State.post (s : State) (addr : Nat) (bytes : List Byte) : State :=
  { s with brg := { s.brg with posted := some (addr, bytes), writes := s.brg.writes + 1, credit := s.brg.credit - bytes.length } }

/-- POSTED_CREDIT_RETURN: the host gives credit for more posted data (R363). -/
def execPostedCreditReturn (n t : Nat) (s : State) : Host.Outcome State Fault Refusal :=
  let s := s.tick t
  if s.powered pdHost then .next { s with brg := { s.brg with credit := s.brg.credit + n } } else .next s

/-! ### Link, power and MSI-X (R344, R346, R347, R360, R361) -/

/-- Messages held as pending that may be sent now are sent (R346, R360). -/
def State.releaseVectors (s : State) : State :=
  (List.range 64).foldl (fun (s : State) v => if natBit s.brg.waiting v && s.vectorOpen v then s.hostVector v else s) s

/-- PCIE_LINK_CHANGE: the data link layer comes up at a speed and width with the credit that the host advertises, or
goes down (R344). -/
def execPcieLinkChange (up : Bool) (speed width credit t : Nat) (s : State) : Host.Outcome State Fault Refusal :=
  let s := s.tick t
  if !s.powered pdHost then .next s
  else if up then
    let s := ((s.fput F.BRG_LINK_UP 1).fput F.BRG_LINK_SPEED speed).fput F.BRG_LINK_WIDTH width
    .next { s with brg := { s.brg with credit := credit } }
  else .next (((s.fput F.BRG_LINK_UP 0).fput F.BRG_LINK_SPEED 0).fput F.BRG_LINK_WIDTH 0)

/-- POWER_STATE_CHANGE: the function moves between D0 and D3hot; in D0 again it sends what is pending (R346).
See log entry 50 (PRESUMED). -/
def execPowerStateChange (d3hot : Bool) (t : Nat) (s : State) : Host.Outcome State Fault Refusal :=
  let s := s.tick t
  if !s.powered pdHost then .next s
  else .next ((s.fput F.BRG_LINK_DSTATE (if d3hot then 3 else 0)).releaseVectors)

/-- MSIX_TABLE_WRITE: one 32-bit word of BAR4; outside the table it is ignored (R347). Of a Vector Control word only
the mask bit is named, the others read 0 (R4). See log entry 50 (PRESUMED). -/
def execMsixTableWrite (off : Nat) (value : Word) (t : Nat) (s : State) : Host.Outcome State Fault Refusal :=
  let s := s.tick t
  if !s.bridgeUp || 0x400 ≤ off then .next s else
  let i := off / 4
  let d : Word := if i % 4 == 3 then 1 else 0
  let v := if i % 4 == 3 then value &&& 1 else value
  .next ({ s with brg := { s.brg with msix := cellSet d s.brg.msix i v } }.releaseVectors)

/-- BRG_EVT_CLEAR: a write of 1 to cause bits clears them (R361). -/
def execBrgEvtClear (mask : Nat) (s : State) : Host.Outcome State Fault Refusal :=
  .next (s.clearBits F.BRG_EVT_CAUSE mask)

/-- BRG_PW_CAP_CLEAR: a write of 1 to VALID clears the capture and re-arms it (R70). -/
def execBrgPwCapClear (s : State) : Host.Outcome State Fault Refusal := .next (s.clearField F.BRG_PW_CAP_VALID)

/-! ### WINDOW_SET (R351, R352) -/

def opWindowSet : Nat := 0x0104

/-- A window record's fields. -/
def wrWindow (r : List Byte) : Nat := byteAt r 0
def wrFlag (r : List Byte) (i : Nat) : Bool := natBit (byteAt r 1) i
def wrSize (r : List Byte) : Nat := 2 ^ byteAt r 3
def wrOff (r : List Byte) : Nat := leAt r 4 4
def wrTarget (r : List Byte) : Nat := leAt r 8 4

/-- A window record holds values in range (R351). -/
def windowRecOk (r : List Byte) : Bool :=
  decide (wrWindow r ≤ 7) && decide (byteAt r 1 < 8) && decide (byteAt r 2 ≤ 3) && decide (12 ≤ byteAt r 3) && decide (byteAt r 3 ≤ 28)
    && wrOff r % wrSize r == 0 && decide (wrOff r + wrSize r ≤ 2 ^ 30) && wrTarget r % 4096 == 0
    && decide (wrTarget r + wrSize r ≤ 2 ^ 32) && allZero (slice r 12 4)

/-- The regions that a span of module addresses touches (R352, R356). -/
def regionsOf (target size : Nat) : List Region :=
  regions.filter fun r => decide (target < r.base + r.size) && decide (r.base < target + size)

/-- A window as the set will hold it: (enabled, BAR2 offset, size, target). -/
def State.winAfter (s : State) (recs : List (List Byte)) (w : Nat) : Bool × Nat × Nat × Nat :=
  match (recs.filter fun r => wrWindow r == w).getLast? with
  | some r => (wrFlag r 0, wrOff r, wrSize r, wrTarget r)
  | none => (s.winOn w, s.winOff w, s.winSize w, s.winTarget w)

/-- No two enabled windows overlap, and each touches a region (R352). -/
def State.windowsOk (s : State) (recs : List (List Byte)) : Bool :=
  let ws := ((List.range 8).map (s.winAfter recs)).filter (·.1)
  (ws.all fun x => !(regionsOf x.2.2.2 x.2.2.1).isEmpty)
    && (List.range ws.length).all fun i => (List.range i).all fun j =>
      match ws[i]?, ws[j]? with
      | some x, some y => decide (x.2.1 + x.2.2.1 ≤ y.2.1) || decide (y.2.1 + y.2.2.1 ≤ x.2.1)
      | _, _ => true

/-- One record takes effect (R351, R356). -/
def State.setWindow (s : State) (r : List Byte) : State :=
  let w := wrWindow r
  let eff := wrFlag r 1 && (regionsOf (wrTarget r) (wrSize r)).all (·.plain)
  let s := ((s.fput (F.WIN_CFG_ENABLE w) (bit (wrFlag r 0))).fput (F.WIN_CFG_PREF_REQ w) (bit (wrFlag r 1))).fput
    (F.WIN_CFG_PREF_EFF w) (bit eff)
  let s := ((s.fput (F.WIN_CFG_WRITE w) (bit (wrFlag r 2))).fput (F.WIN_CFG_LANES w) (byteAt r 2)).fput (F.WIN_CFG_SIZE_LOG2 w) (byteAt r 3)
  (s.fput (F.WIN_CFG_BAR_OFF w) (wrOff r / 4096)).fput (F.WIN_TARGET_TARGET w) (wrTarget r)

/-- The records of a packet of 16-byte records. -/
def recs16 (c : Cmd) : List (List Byte) := chunks 16 (leAt c.params 2 2) (c.params.drop 8)

/-- WINDOW_SET's own checks (R351, R352, R405). -/
def windowOwn (c : Cmd) (s : State) : Verdict :=
  refuseIf (byteAt c.params 0 != 0 || byteAt c.params 1 != 0 || !allZero (slice c.params 4 4) || leAt c.params 2 2 == 0 || decide (8 < leAt c.params 2 2))
    stBadParam noIndex <|
  match (recs16 c).findIdx? (fun r => !windowRecOk r) with
  | some i => .refuse stBadParam i
  | none => refuseIf (!s.windowsOk (recs16 c)) stBadParam noIndex .accept

/-- WINDOW_SET: window records replaced between two inbound TLPs; read-ahead is discarded (R352, R357). -/
def execWindowSet (c : Cmd) (t : Nat) (s : State) : Host.Outcome State Fault Refusal :=
  .next (s.runScribe c t opWindowSet lvlOperate
    (decide (8 ≤ c.params.length) && c.params.length == 8 + 16 * leAt c.params 2 2) (windowOwn c) fun s =>
      let s := (recs16 c).foldl State.setWindow s
      let s := { s with brg := { s.brg with ahead := [] } }
      s.scribeReply c opWindowSet stOk [])

/-- The bridge after a reset of R346: counters, captures, reads, read-ahead and pending causes are gone, the window set
stays. -/
def State.bridgeReset (s : State) (flr : Bool) : State :=
  let link := s.reg R.BRG_LINK
  let s := s.resetRegs R.BRG_LINK (R.BRG_CREDIT + 4)
  let s := if flr then s.setReg R.BRG_LINK (link &&& 0x9FFFFFFF) else s
  let s := (List.range 8).foldl (fun (s : State) w => (s.fput (F.WIN_RD_COUNT w) 0).fput (F.WIN_WR_COUNT w) 0) s
  { s with brg := { brgReset with perst := s.brg.perst, credit := if flr then s.brg.credit else 0 } }

end Sys2Proof.Machine
end

