-- ==== Sys2Proof/Machine/Fields.lean ====
section
/-! DEFINITION. The field link and the shadow sets: configuration records (R194 to R197), commands (R198, R181), the two
frames (R213 to R219), the input image and the sequence-of-events buffer (R208 to R212), and CH_CONFIG with the take-over
of its sets (R220 to R228, R247). -/

namespace Sys2Proof.Machine

/-! ### Configuration in force, as the FIO registers show it -/

/-- The group and position of a channel number (R7). -/
def grpOf (ch : Nat) : Grp := if ch < 128 then .g0 else .g1
def posOf (ch : Nat) : Nat := ch % 128

/-- The channel number of a position. -/
def chanNo (g : Grp) (p : Nat) : Nat := 128 * g.idx + p

/-- The configuration in force of a channel. -/
def State.cfgOf (s : State) (ch : Nat) : ChanCfg :=
  let g := grpOf ch
  let p := posOf ch
  { kind := s.fget (F.CH_CFG_KIND g p), flags := s.fget (F.CH_CFG_FLAGS g p), stop := s.fget (F.CH_CFG_STOP g p),
    blotter := s.fget (F.CH_CFG_BLOTTER g p), filter := s.fget (F.CH_CFG_FILTER g p),
    darkUs := s.fget (F.CH_TEST_DARK_US g p), testS := s.fget (F.CH_TEST_TEST_S g p) }

/-- The configuration in force of a channel replaced. -/
def State.putCfg (s : State) (ch : Nat) (c : ChanCfg) : State :=
  let g := grpOf ch
  let p := posOf ch
  let s := ((s.fput (F.CH_CFG_KIND g p) c.kind).fput (F.CH_CFG_FLAGS g p) c.flags).fput (F.CH_CFG_STOP g p) c.stop
  let s := (s.fput (F.CH_CFG_BLOTTER g p) c.blotter).fput (F.CH_CFG_FILTER g p) c.filter
  (s.fput (F.CH_TEST_DARK_US g p) c.darkUs).fput (F.CH_TEST_TEST_S g p) c.testS

/-- The leader of a channel in the configuration in force: itself, or for a MEMBER the leader of its ligature. -/
def State.leadChan (s : State) (ch : Nat) : Nat :=
  if (s.cfgOf ch).kind != kMember then ch
  else if (s.cfgOf (ch - ch % 4)).kind == kLig4 then ch - ch % 4 else ch - ch % 2

/-! ### Records (R194 to R197) -/

/-- KIND of a group record. -/
def kGroup : Nat := 0xF0

/-- The configuration that a channel record gives (R194). -/
def cfgOfRec (r : List Byte) : ChanCfg :=
  ⟨byteAt r 1, byteAt r 2, byteAt r 3, byteAt r 4, byteAt r 5, leAt r 6 2, leAt r 8 2⟩

/-- A channel record of the configuration in force (R194), as a re-arm set carries it. -/
def recOfCfg (ch : Nat) (c : ChanCfg) : List Byte :=
  leBytes 1 ch ++ leBytes 1 c.kind ++ leBytes 1 c.flags ++ leBytes 1 c.stop ++ leBytes 1 c.blotter ++ leBytes 1 c.filter
    ++ leBytes 2 c.darkUs ++ leBytes 2 c.testS ++ zeros 6

/-- A group record of the configuration in force (R195). -/
def recOfGroup (s : State) (g : Grp) : List Byte :=
  leBytes 1 (128 * g.idx) ++ leBytes 1 kGroup ++ leBytes 1 (s.fget (F.FIO_GRPCFG_SILENCE_MS g))
    ++ leBytes 1 (s.fget (F.FIO_GRPCFG_BANKS_USED g)) ++ zeros 12

/-- A channel record is in range and every field that does not apply to its KIND is 0 (R194, R196). -/
def chanRecOk (r : List Byte) : Bool :=
  let c := cfgOfRec r
  let input := c.kind == kInput
  let lead := isLead c.kind
  decide (c.kind ≤ 5) && allZero (slice r 10 6) && decide (c.flags < 32) && decide (c.stop ≤ 2) && decide (c.blotter ≤ 2)
    && (input || (c.flags &&& 0x19 == 0 && c.filter == 0))
    && (lead || (c.flags &&& 0x06 == 0 && c.stop == 0 && c.blotter == 0))
    && (if lead && flagDark c then decide (150 ≤ c.darkUs) && decide (c.darkUs ≤ 500) else c.darkUs == 0)
    && (if lead && (flagDark c || flagProbe c) then decide (1 ≤ c.testS) && decide (c.testS ≤ 3600) else c.testS == 0)

/-- A group record is in range (R195, R196). -/
def groupRecOk (r : List Byte) : Bool :=
  (byteAt r 0 == 0 || byteAt r 0 == 128) && decide (2 ≤ byteAt r 2) && decide (byteAt r 2 ≤ 250) && allZero (slice r 4 12)

/-- The check of R196. -/
def cfgRecOk (r : List Byte) : Bool := if byteAt r 1 == kGroup then groupRecOk r else chanRecOk r

/-- The group that a record concerns. -/
def recGrp (r : List Byte) : Grp := grpOf (byteAt r 0)

/-- The key of a record in the shadows of its group: its position, or 128 for the group record. -/
def recKey (r : List Byte) : Nat := if byteAt r 1 == kGroup then 128 else posOf (byteAt r 0)

/-- The last record of a set for a channel. -/
def chanRec (rs : List (List Byte)) (ch : Nat) : Option (List Byte) :=
  rs.reverse.find? fun r => byteAt r 1 != kGroup && byteAt r 0 == ch

/-- The configuration that a set would produce for a channel (R197). -/
def State.cfgWith (s : State) (rs : List (List Byte)) (ch : Nat) : ChanCfg :=
  match chanRec rs ch with
  | some r => cfgOfRec r
  | none => s.cfgOf ch

/-- BANKS_USED that a set would produce for a group. -/
def State.banksWith (s : State) (rs : List (List Byte)) (g : Grp) : Nat :=
  match rs.reverse.find? (fun r => byteAt r 1 == kGroup && recGrp r == g) with
  | some r => byteAt r 3
  | none => s.fget (F.FIO_GRPCFG_BANKS_USED g)

/-- A channel is covered by a leader in a configuration `f` of channels (R197). -/
def covered (f : Nat → Nat) (ch : Nat) : Bool :=
  (f (ch - ch % 4) == kLig4 && ch % 4 != 0) || (f (ch - ch % 2) == kLig2 && ch % 2 != 0)

/-- The configuration that a set would produce passes R197. -/
def State.setOk (s : State) (rs : List (List Byte)) : Bool :=
  let kinds : List Nat := (List.range 256).map fun ch => (s.cfgWith rs ch).kind
  let f (ch : Nat) : Nat := kinds.getD ch 0
  (List.range 256).all fun ch =>
    ch % ligSize (f ch) == 0
      && (if covered f ch then f ch == kMember else f ch != kMember)
      && (f ch == 0 || natBit (s.banksWith rs (grpOf ch)) (bankOf (posOf ch)))

/-! ### Bindings and commands (R165, R166, R181, R198) -/

/-- Binding kinds (R165). -/
def ioInput : Nat := 1
def ioValid : Nat := 2
def ioCmd : Nat := 3
def ioReadback : Nat := 4
def ioStatus : Nat := 5

/-- A binding of KIND `k` expects this kind of channel (R165). -/
def ioFits (k chanKind : Nat) : Bool :=
  if k == ioInput || k == ioValid then chanKind == kInput
  else if k == ioCmd then isLead chanKind
  else if k == ioReadback then isOut chanKind
  else true

/-- A binding fits the configuration in force (R166). -/
def State.ioOk (s : State) (r : IoRec) : Bool := ioFits r.kind (s.cfgOf r.channel).kind

/-- The OUTPUT_CMD binding of a channel in a folio. -/
def Folio.cmdOf (f : Folio) (ch : Nat) : Option IoRec := f.io.find? fun r => r.kind == ioCmd && r.channel == ch

/-- The task that owns the variable of a binding. -/
def Folio.ioTask (f : Folio) (r : IoRec) : Option Nat := (f.varOf r.var).map (·.task)

/-- The last voted state of a channel; OFF before any (R198). -/
def State.votedChan (s : State) (ch : Nat) : Bool := (assoc s.fio.chan ch).getD false

/-- The command that STOP gives (R198). -/
def State.stopCmd (s : State) (ch : Nat) : Bool :=
  let c := s.cfgOf ch
  if c.stop == 2 then s.votedChan ch else c.stop == 1

/-- A bound channel takes its stop value until its owner's first voted commit, unless a seam lets it hold (R181,
R198). -/
def State.heldAtStop (s : State) (f : Folio) (r : IoRec) : Bool :=
  (assoc s.fio.chan r.channel).isNone
    || (match f.ioTask r with
        | some n => s.folio.unvoted.contains n && !s.folio.oldChannels.contains r.channel
        | none => true)

/-- The command of an OUTPUT channel or a leader in the frame that is sent now (R198). -/
def State.chanCmd (s : State) (ch : Nat) : Bool :=
  if !isLead (s.cfgOf ch).kind then false
  else match s.folio.running with
    | some f =>
      match f.cmdOf ch with
      | some r => if s.modeNow != .run || s.heldAtStop f r then s.stopCmd ch else s.votedChan ch
      | none => s.stopCmd ch
    | none => s.stopCmd ch

/-- The command bit of a channel: a MEMBER carries its leader's (R216). -/
def State.outCmd (s : State) (ch : Nat) : Bool := s.chanCmd (s.leadChan ch)

/-- The command bits of a group: bit p for position p (R216). -/
def State.cmdBits (s : State) (g : Grp) : Nat := natOfBits ((List.range 128).map fun p => s.outCmd (chanNo g p))

/-! ### The logic-to-field frame (R216) -/

/-- FLAGS of the logic-to-field frame. -/
def State.lfFlags (s : State) (g : Grp) : Nat :=
  natOfBits [(s.fioGrp g).taking.isSome, s.flag F.VOTE_CTRL_FAILED, s.lifecycle == lcBench]

/-- The records of the set that the frame of grid instant `k` carries: at most four that are not on their way, in order,
and none while a take-over is sent (R221, R223). -/
def State.frameRecs (s : State) (g : Grp) (k : Nat) : List ShadowRec :=
  if (s.fioGrp g).taking.isSome then [] else
  match s.fio.set with
  | some z => (z.recs.filter fun r => r.grp == g && !r.acked && r.sent.isNone && decide (r.start ≤ k)).take 4
  | none => []

/-- SET of the frame: the set taken over, or the one whose records it carries. -/
def State.frameSet (s : State) (g : Grp) : Nat :=
  match (s.fioGrp g).taking, s.fio.set with
  | some n, _ => n
  | none, some z => z.num
  | none, none => 0

/-- The 104 bytes of the frame that the logic side sends at `t` (R214, R216). -/
def State.lfFrame (s : State) (g : Grp) (t : Nat) : List Byte :=
  let rs := s.frameRecs g (t - us20)
  let body := leBytes 1 0xC1 ++ leBytes 1 (s.lfFlags g) ++ leBytes 2 s.fabric.gen ++ leBytes 4 (s.fioGrp g).txSeq
    ++ leBytes 8 (t + 30000) ++ leBytes 16 (s.cmdBits g) ++ leBytes 1 (s.frameSet g) ++ leBytes 1 rs.length ++ zeros 2
    ++ padTo 64 (rs.map (·.bytes)).flatten
  body ++ leBytes 4 (crc32c body).toNat

/-- The records of the set changed one by one. -/
def State.mapRecs (s : State) (k : ShadowRec → ShadowRec) : State :=
  match s.fio.set with
  | some z => { s with fio := { s.fio with set := some { z with recs := z.recs.map k } } }
  | none => s

/-- Before the frame with `seq` the records whose frame has not been acknowledged by the field-to-logic frame after it are
free to be sent again (R221). -/
def State.freeRecs (s : State) (g : Grp) (seq : Nat) : State :=
  s.mapRecs fun r =>
    if r.grp == g && !r.acked && r.sent.isSome && r.sent != some ((seq + 2 ^ 32 - 1) % 2 ^ 32) then { r with sent := none } else r

/-- The records that a frame carries are marked with its SEQ (R221). -/
def State.markSent (s : State) (rs : List ShadowRec) (seq : Nat) : State :=
  s.mapRecs fun r => if rs.contains r then { r with sent := some seq } else r

/-- The logic side of a group sends its frame at `t`. -/
def State.sendLf (s : State) (g : Grp) (t : Nat) : State :=
  let x := s.fioGrp g
  let s := s.freeRecs g x.txSeq
  let bs := s.lfFrame g t
  let rs := s.frameRecs g (t - us20)
  let s := s.fput (F.FIO_LINK_DISABLED g) (bit (s.lifecycle == lcBench))
  let s := s.setFioGrp g { x with txSeq := (x.txSeq + 1) % 2 ^ 32, sentLf := bs }
  s.markSent rs x.txSeq

/-! ### The field-to-logic frame (R217, R218) -/

/-- The first edge of each position in the interval, and every later one (R218). -/
def splitEdges (es : List FcEdge) : List FcEdge × List FcEdge :=
  es.foldl (fun (a, b) e => if a.any (·.pos == e.pos) then (a, b ++ [e]) else (a ++ [e], b)) ([], [])

/-- The EDGES byte of a position. -/
def edgeByte (es : List FcEdge) (sample p : Nat) : Byte :=
  match es.filter (·.pos == p) with
  | [] => 0
  | e :: rest =>
    let all := e :: rest
    BitVec.ofNat 8 ((sample - e.stamp) / us1 % 64 + 64 * bit (all.any fun x => !x.rising) + 128 * bit (all.any (·.rising)))

/-- An extra-edge record of 8 bytes (R218). -/
def soeBytes (sample : Nat) (e : FcEdge) : List Byte :=
  leBytes 1 e.pos ++ leBytes 1 (if e.rising then 1 else 2) ++ leBytes 2 ((sample - e.stamp) / us1) ++ zeros 4

/-- The SUPPLY word of a bank (R217). -/
def supplyWord (x : FcState) (b : Nat) : Nat :=
  (x.bank b).volts % 4096 + 0x4000 * bit (x.warn b) + 0x8000 * bit (x.cut b)

/-- The 284 bytes of the frame that a field controller sends at `t` (R214, R217). -/
def FcState.flFrame (x : FcState) (t : Nat) : List Byte :=
  let extra := (splitEdges x.edges).2
  let sent := extra.take 8
  let ps := List.range 128
  let body := leBytes 1 0xC2 ++ leBytes 1 (natOfBits [x.claim, x.blotter, decide (8 < extra.length)]) ++ leBytes 2 x.gen
    ++ leBytes 4 x.txSeq ++ leBytes 8 t ++ leBytes 4 (x.rxSeq.getD 0) ++ leBytes 1 x.setTaken ++ leBytes 1 x.statusBank
    ++ leBytes 1 sent.length ++ zeros 1 ++ leBytes 16 x.tick ++ leBytes 16 (natOfBits (ps.map x.valid))
    ++ ps.map (edgeByte x.edges t) ++ ((List.range 16).map fun i => BitVec.ofNat 8 (x.status (16 * x.statusBank + i)))
    ++ ((List.range 8).map fun b => leBytes 2 (supplyWord x b)).flatten ++ padTo 64 (sent.map (soeBytes t)).flatten
  body ++ leBytes 4 (crc32c body).toNat

/-- The field controller latches its tick sample and sends its frame, on its own time; extra edges beyond eight are
dropped (R214, R215, R218). -/
def State.sendFl (s : State) (g : Grp) : State :=
  if !s.fgUp g then s else
  let x := (s.fc g).sample s.now
  let s := s.setFioGrp g { s.fioGrp g with sentFl := x.flFrame (s.fcTime g), dropped := (splitEdges x.edges).2.drop 8 }
  s.setFc g { x with txSeq := (x.txSeq + 1) % 2 ^ 32, statusBank := (x.statusBank + 1) % 8, edges := [] }

/-- Both sides of both links send at `t` (R214). See log entry 35 (DESIGN CHOICE). -/
def State.sendFrames (s : State) (t : Nat) : State := allGroups.foldl (fun s g => (s.sendFl g).sendLf g t) s

/-! ### Receiving (R210, R211, R219, R221) -/

/-- A receiver accepts a SEQ that is not 2^31 or more behind the last accepted one (R219). -/
def seqFresh (last : Option Nat) (seq : Nat) : Bool :=
  match last with
  | none => true
  | some l => decide ((seq + 2 ^ 32 - l) % 2 ^ 32 < 2 ^ 31)

/-- A frame of `n` bytes with this TYPE whose CRC holds and whose SEQ is fresh (R219). -/
def frameGood (bs : List Byte) (n type : Nat) (last : Option Nat) : Bool :=
  bs.length == n && byteAt bs 0 == type && leAt bs (n - 4) 4 == (crc32c (bs.take (n - 4))).toNat && seqFresh last (leAt bs 4 4)

/-- What a field controller's time differs by from the module's once it is set from a frame that arrives at `now`: the
APPLY instant lies 30 µs after the frame was sent (R214, R215). -/
def skewOf (bs : List Byte) (now : Nat) : Int := (frameApply bs : Int) - ((now - now % gridNs + gridNs : Nat) : Int)

/-- LOGIC_TO_FIELD_FRAME: the field controller sets its time from a good frame, takes the frame for its APPLY instant and
writes its records into the shadows of their channels under SET; any other frame it discards, which is counted (R215,
R216, R219, R221). See log entry 35 (DESIGN CHOICE). -/
def execLogicToFieldFrame (g : Grp) (bytes : List Byte) (t : Nat) (s : State) : Host.Outcome State Fault Refusal :=
  let s := s.tick t
  let x := s.fc g
  if !s.fgUp g then .next s
  else if !frameGood bytes 104 0xC1 x.rxSeq then .next (s.fsat (F.FIO_LINK_ERR_LF_BAD g))
  else
  let rs := chunks 16 (min 4 (byteAt bytes 33)) (slice bytes 36 64)
  let n := byteAt bytes 32
  let shadow := rs.foldl (fun m r => cellIns m (recKey r) (n, r)) x.shadow
  .next (s.setFc g { x with rxSeq := some (leAt bytes 4 4), frame := some bytes, shadow := shadow, skew := skewOf bytes s.now })

/-- The polarity of the first edge of a position in a frame: with both polarities, the opposite of the next one reported,
or else of what the image held (R218). -/
def firstRising (b : Nat) (later : Option Bool) (was : Bool) : Bool :=
  if natBit b 7 && natBit b 6 then (match later with | some r => !r | none => !was) else natBit b 7

/-- The edges of a good frame in time-stamp order: position, polarity, stamp (R218). -/
def frameEdges (bs : List Byte) (oldState : Nat) : List FcEdge :=
  let sample := leAt bs 8 8
  let extra : List FcEdge := (chunks 8 (byteAt bs 22) (slice bs 216 64)).map fun r => ⟨byteAt r 0, byteAt r 1 == 1, sample - leAt r 2 2 * us1⟩
  let firsts : List FcEdge := (List.range 128).filterMap fun p =>
    let b := byteAt bs (56 + p)
    if b == 0 then none else
    some ⟨p, firstRising b ((extra.find? (·.pos == p)).map (·.rising)) (natBit oldState p), sample - b % 64 * us1⟩
  let ins (l : List FcEdge) (e : FcEdge) : List FcEdge := l.takeWhile (·.stamp ≤ e.stamp) ++ e :: l.dropWhile (·.stamp ≤ e.stamp)
  (firsts ++ extra).foldl ins []

/-- The buffer of a group holds 4,096 records (R211). -/
def soeMax : Nat := 4096

/-- FILL follows the buffer. -/
def State.showSoe (s : State) (g : Grp) : State := s.fput (F.FIO_SOE_FILL g) (s.fioGrp g).soe.length

/-- The flags that an edge is judged by: those before a take-over under way, for an edge stamped before its APPLY instant
(R227). -/
def State.edgeFlags (s : State) (g : Grp) (e : FcEdge) : Nat :=
  let x := s.fioGrp g
  let early := match x.takenAt with
    | some a => decide (e.stamp < a)
    | none => true
  match assoc x.before e.pos with
  | some k => if early then k else (s.cfgOf (chanNo g e.pos)).flags
  | none => (s.cfgOf (chanNo g e.pos)).flags

/-- The SOE flags of an edge's channel select its polarity (R194, R211). -/
def State.soeSelects (s : State) (g : Grp) (e : FcEdge) : Bool := natBit (s.edgeFlags g e) (if e.rising then 3 else 4)

/-- An edge that is not recorded: counted, and marked in the next record (R212). -/
def State.soeLost (s : State) (g : Grp) : State :=
  let x := s.fioGrp g
  (s.setFioGrp g { x with lostBefore := true, order := (x.order + 1) % 2 ^ 32 }).fsat (F.FIO_SOE_LOST g)

/-- An edge that its flags select is recorded, or lost when the buffer is full (R211, R212). ORDER counts the edges
that the flags select. See log entry 77 (DESIGN CHOICE). -/
def State.soeEdge (s : State) (g : Grp) (e : FcEdge) : State :=
  let x := s.fioGrp g
  if !s.soeSelects g e then s
  else if soeMax ≤ x.soe.length then s.soeLost g
  else
    let order := (x.order + 1) % 2 ^ 32
    let r := leBytes 8 e.stamp ++ leBytes 1 (chanNo g e.pos) ++ leBytes 1 (if e.rising then 1 else 2)
      ++ leBytes 1 (bit x.lostBefore) ++ zeros 1 ++ leBytes 4 order
    let s := s.mwrite (0x08000000 + 0x10000 * g.idx + 16 * (x.soeCount % soeMax)) r
    (s.setFioGrp g { x with soe := x.soe ++ [r], lostBefore := false, order := order, soeCount := x.soeCount + 1 }).showSoe g

/-- The event tasks bound to a channel take the edges of one frame as one event: its instant is the first edge of the
bound polarity, or SAMPLE where that edge's record was lost (R87, R207). -/
def State.frameEvent (s : State) (ch : Nat) (es : List FcEdge) (b sample : Nat) : State :=
  s.tasks.foldl (fun s r =>
    if !(r.event && r.source == 1 && r.selector == ch) then s else
    let mask := (if natBit b 7 then 1 else 0) + (if natBit b 6 then 2 else 0)
    if r.polarity &&& mask == 0 then s else
    let mine := es.find? fun e => natBit r.polarity (if e.rising then 0 else 1)
    let e := match mine with | some e => e.stamp | none => sample
    s.event r e (gridUp (e + 30000)) ch (r.polarity &&& mask)) s

/-- CH_STAT follows a good frame: bits 0 to 3 of every position, bits 4 to 7 of the bank whose status it carries
(R209, R217). -/
def State.showStatus (s : State) (g : Grp) (bs : List Byte) : State :=
  (List.range 128).foldl (fun s p =>
    let sup := leAt bs (200 + 2 * bankOf p) 2
    let low := natOfBits [natBit (leAt bs 24 16) p, natBit (leAt bs 40 16) p, natBit sup 14, natBit sup 15]
    let high := if bankOf p == byteAt bs 21 then byteAt bs (184 + p % 16) / 16 else s.fget (F.CH_STAT_STATUS g p) / 16
    let s := if (high % 8) &&& (7 - s.fget (F.CH_STAT_STATUS g p) / 16 % 8) != 0 then s.hostEvent (evGroup g) else s
    s.fput (F.CH_STAT_STATUS g p) (low + 16 * high)) s

/-- FIO_BANK and FIO_LINK follow a good frame. -/
def State.showLink (s : State) (g : Grp) (bs : List Byte) : State :=
  let s := (List.range 8).foldl (fun s b =>
    let w := leAt bs (200 + 2 * b) 2
    ((s.fput (F.FIO_BANK_VOLTS g b) (w % 4096)).fput (F.FIO_BANK_WARN g b) (bit (natBit w 14))).fput (F.FIO_BANK_CUT g b) (bit (natBit w 15))) s
  let fl := byteAt bs 1
  let s := (s.fput (F.FIO_LINK_UP g) 1).fput (F.FIO_LINK_CLAIM g) (bit (natBit fl 0))
  let s := (s.fput (F.FIO_LINK_BLOTTER g) (bit (natBit fl 1))).fput (F.FIO_BLOTTER_ACTIVE g) (bit (natBit fl 1))
  s.fput (F.FIO_LINK_SET g) (byteAt bs 20)

/-- A field-to-logic frame that is missing or discarded: the image keeps STATE and status, with VALID at 0 (R210,
R219). See log entry 38 (DEDUCED). -/
def State.flBad (s : State) (g : Grp) : State :=
  let s := ((s.fsat (F.FIO_LINK_ERR_FL_BAD g)).fput (F.FIO_LINK_UP g) 0).noReport (pdFg g)
  let s := s.setFioGrp g { s.fioGrp g with validBits := 0 }
  (List.range 128).foldl (fun s p =>
    let w := s.fget (F.CH_STAT_STATUS g p)
    if natBit w 1 then s.fput (F.CH_STAT_STATUS g p) (w - 2) else s) s

/-! ### Shadow sets (R220 to R226, R247) -/

def opChConfig : Nat := 0x0501

/-- FIO_SHADOW.STATE. -/
def shNone : Nat := 0
def shOpen : Nat := 1
def shClosed : Nat := 2
def shComplete : Nat := 3

/-- FIO_SHADOW.LAST_RESULT. -/
def shTaken : Nat := 1
def shBad : Nat := 2
def shDiscarded : Nat := 3
def shTimeout : Nat := 4

/-- The state of a set. -/
def ShadowSet.code (z : ShadowSet) : Nat := if z.complete then shComplete else if z.closedAt.isSome then shClosed else shOpen

/-- FIO_SHADOW follows the set. -/
def State.showSet (s : State) : State :=
  allGroups.foldl (fun s g =>
    match s.fio.set with
    | some z =>
      let n := (z.recs.filter (·.grp == g)).length
      ((s.fput (F.FIO_SHADOW_STATE g) z.code).fput (F.FIO_SHADOW_SET g) z.num).fputSat (F.FIO_SHADOW_RECORDS g) n
    | none => (s.fput (F.FIO_SHADOW_STATE g) shNone).fput (F.FIO_SHADOW_RECORDS g) 0) s

/-- The set replaced. -/
def State.putSet (s : State) (z : Option ShadowSet) : State := ({ s with fio := { s.fio with set := z } }).showSet

/-- A result of a set is recorded. -/
def State.setResult (s : State) (code : Nat) : State :=
  allGroups.foldl (fun s g => s.fput (F.FIO_SHADOW_LAST_RESULT g) code) s

/-- The packets of a set that still owe a reply: the LAST packet, and each other one with a record not acknowledged
(R226). -/
def ShadowSet.owed (z : ShadowSet) : List Cmd :=
  let open_ := ((z.recs.filter fun r => !r.acked).filterMap (·.cmd)).eraseDups
  match z.last with
  | some c => open_.filter (· != c) ++ [c]
  | none => open_

/-- The set is discarded with a result; the replies owed are given with `status` (R226). -/
def State.discardSet (s : State) (status code : Nat) : State :=
  match s.fio.set with
  | none => s
  | some z =>
    let s := (s.putSet none).setResult code
    z.owed.foldl (fun s c => s.replyErr c opChConfig status noIndex) s

/-- The number of the next set (R220): one above what G0 reported first, and one further if that is G1's. -/
def State.setNum (s : State) : Nat :=
  match s.fio.nextSet with
  | some n => n
  | none =>
    let n := (s.fio.g0.firstSet.getD 0 + 1) % 256
    if some n == s.fio.g1.firstSet then (n + 1) % 256 else n

/-- A new set opens (R220). -/
def State.openSet (s : State) (rearm : Option Grp) : State :=
  let n := s.setNum
  let s := { s with fio := { s.fio with nextSet := some ((n + 1) % 256) } }
  s.putSet (some ⟨n, [], none, none, s.now, false, rearm⟩)

/-- A grid instant has come: a closed set whose records are all acknowledged is complete (R222). -/
def State.completeSet (s : State) : State :=
  match s.fio.set with
  | some z => if z.closedAt.isSome && !z.complete && z.recs.all (·.acked) then s.putSet (some { z with complete := true }) else s
  | none => s

/-- One record becomes configuration in force. -/
def State.takeRec (s : State) (r : List Byte) : State :=
  if byteAt r 1 == kGroup then
    let g := recGrp r
    let s := (s.fput (F.FIO_GRPCFG_SILENCE_MS g) (byteAt r 2)).fput (F.FIO_GRPCFG_BANKS_USED g) (byteAt r 3)
    (List.range 8).foldl (fun s b => s.fput (F.FIO_BANK_UNUSED g b) (bit (!natBit (byteAt r 3) b))) s
  else s.putCfg (byteAt r 0) (cfgOfRec r)

/-- The flags in force of the positions of a group that a set's records change, which its edges keep until the APPLY
instant of the take-over (R227); one that an earlier take-over still holds back stays. -/
def State.flagsBefore (s : State) (g : Grp) (rs : List ShadowRec) : List (Nat × Nat) :=
  let old := (s.fioGrp g).before
  old ++ (rs.filter fun r => r.grp == g && recKey r.bytes != 128 && (assoc old (recKey r.bytes)).isNone).map fun r =>
    (recKey r.bytes, (s.cfgOf (byteAt r.bytes 0)).flags)

/-- At an output commit a complete set is taken over: the configuration in force changes, the generation advances, and
the frames of its groups carry TAKE (R222, R223). See log entry 38 (DEDUCED). -/
def State.takeSet (s : State) : State :=
  let s := s.completeSet
  match s.fio.set with
  | some z =>
    if !z.complete || s.flag F.VOTE_CTRL_FAILED then s else
    let gs := allGroups.filter fun g => z.recs.any (·.grp == g)
    let s := gs.foldl (fun s g => s.setFioGrp g { s.fioGrp g with
      taking := some z.num, takenAt := none, before := s.flagsBefore g z.recs }) s
    let s := z.recs.foldl (fun s r => s.takeRec r.bytes) s
    let s := { s with fio := { s.fio with
      takeOvers := s.fio.takeOvers ++ [(⟨z.num, z.last, s.now, gs⟩ : TakeOver)], firstTaken := true } }
    let s := match z.rearm with
      | some g => s.fsat (F.FIO_BLOTTER_REARMS g)
      | none => s
    (((s.putSet none).setResult shTaken)).advanceGen
  | none => s

/-- A re-arm set of a group: 128 channel records and the group record of the configuration in force, closed at once
(R247). -/
def State.rearmSet (s : State) (g : Grp) : State :=
  let s := s.discardSet stAborted shDiscarded
  let s := s.openSet (some g)
  match s.fio.set with
  | some z =>
    let bs := (List.range 128).map (fun p => recOfCfg (chanNo g p) (s.cfgOf (chanNo g p))) ++ [recOfGroup s g]
    s.putSet (some { z with closedAt := some s.now, recs := bs.map fun r => (⟨g, r, none, gridUp (s.now + us20), none, false⟩ : ShadowRec) })
  | none => s

/-- A good frame shows the blotter state: the group is re-armed, unless the module has failed, no set has been taken over
since SYSTEM reset, or a re-arm or take-over is under way (R247). -/
def State.rearmCheck (s : State) (g : Grp) : State :=
  let busy := (s.fioGrp g).taking.isSome || (match s.fio.set with | some z => z.rearm.isSome | none => false)
  if s.flag F.VOTE_CTRL_FAILED || !s.fio.firstTaken || busy then s else s.rearmSet g

/-- The records of a frame that the group acknowledges; a packet without LAST whose records are all acknowledged is
answered (R221). -/
def State.ackRecs (s : State) (g : Grp) (ack : Nat) : State :=
  match s.fio.set with
  | none => s
  | some z =>
    let recs := z.recs.map fun r => if r.grp == g && r.sent == some ack then { r with acked := true } else r
    let before := (z.recs.filter fun r => !r.acked).filterMap (·.cmd)
    let after := (recs.filter fun r => !r.acked).filterMap (·.cmd)
    let done := (before.eraseDups).filter fun c => !after.contains c && z.last != some c
    let s := s.putSet (some { z with recs := recs })
    done.foldl (fun s c => s.replyOk c opChConfig) s

/-- FIELD_TO_LOGIC_FRAME: the logic side takes a good frame: the input image, the mirrors, the acknowledgements, the
edges and their events, and the re-arm (R208, R211, R217, R219, R221, R223, R247).
See log entry 35 (DESIGN CHOICE). -/
def execFieldToLogicFrame (g : Grp) (bytes : List Byte) (t : Nat) (s : State) : Host.Outcome State Fault Refusal :=
  let s := s.tick t
  let x := s.fioGrp g
  if !frameGood bytes 284 0xC2 x.rxSeq then .next (s.flBad g) else
  let sample := leAt bytes 8 8
  let ack := leAt bytes 16 4
  let es := frameEdges bytes x.stateBits
  let s := s.setFioGrp g { x with
    rxSeq := some (leAt bytes 4 4), sample := sample, stateBits := leAt bytes 24 16, validBits := leAt bytes 40 16
    firstSet := some (x.firstSet.getD (byteAt bytes 20))
    taking := if x.taking == some (byteAt bytes 20) then none else x.taking }
  let s := ((s.showLink g bytes).showStatus g bytes).report (pdFg g)
  let s := es.foldl (fun s e => s.soeEdge g e) s
  let s := if natBit (byteAt bytes 1) 2 then (x.dropped.filter (s.soeSelects g)).foldl (fun s _ => s.soeLost g) s else s
  let s := if (s.fioGrp g).taking.isNone then s.setFioGrp g { s.fioGrp g with before := [] } else s
  let s := (List.range 128).foldl (fun s p =>
    let b := byteAt bytes (56 + p)
    if b == 0 then s else s.frameEvent (chanNo g p) (es.filter (·.pos == p)) b sample) s
  let s := s.ackRecs g ack
  .next (if natBit (byteAt bytes 1) 1 then s.rearmCheck g else s)

/-! ### The APPLY instant (R214, R219, R223, R224, R227) -/

/-- A channel at its take-over into configuration `k` (R227); a test in progress has ended. -/
def chanTake (c : FcChan) (k : ChanCfg) (tested : Bool) (now : Nat) : FcChan :=
  let old := c.cfg.kind
  let fresh := { chanReset c.pos with cfg := k, pin := c.pin, pinAt := c.pinAt, raw := c.raw }
  if k.kind == 0 then fresh
  else if k.kind == kInput then
    if old == kInput then { c with cfg := k }
    else { fresh with hold := some (now + max (filterNs k) (if isOut old then ns1ms else us1)) }
  else
    let tests := isLead k.kind && (flagDark k || flagProbe k)
    if isOut old then
      { c with
        cfg := k
        due := if !tests then none else if tested then some (now + k.testS * sec1) else some (c.due.getD (now + sec1))
        firstFail := 0, repeatAt := none }
    else { fresh with due := firstDue k now }

/-- The field controller replaces the configuration of every channel that holds a shadow record of set `n` (R223). -/
def FcState.takeShadow (x : FcState) (n now : Nat) (tested : List Nat) : FcState :=
  x.shadow.foldl (fun y (key, m, r) =>
    if m != n then y
    else if key == 128 then { y with silenceMs := byteAt r 2, banksUsed := byteAt r 3 }
    else y.setChan (chanTake (y.chan key) (cfgOfRec r) (tested.contains key) now)) x

/-- The channels of a set under way in the shadows of a group. -/
def FcState.shadowKeys (x : FcState) (n : Nat) : List Nat := (x.shadow.filter (·.2.1 == n)).map (·.1)

/-- The field controller's part of a take-over: tests of the channels that change end, the blotter state ends (R223,
R227, R247). -/
def State.takeAtFc (s : State) (g : Grp) (bs : List Byte) : State :=
  let n := byteAt bs 32
  let x := s.fc g
  if x.takenAny && x.setTaken == n then s else
  let keys := x.shadowKeys n
  let tested := keys.filter fun p => (x.chan p).test.isSome
  let s := tested.foldl (fun s p => s.abandonTest g p) s
  let y := (s.fc g).takeShadow n s.now tested
  let s := s.setFioGrp g { s.fioGrp g with takenAt := some (s.fcTime g) }
  let s := s.fcUpdate g { y with
    setTaken := n, takenAny := true, blotter := false, evalFrom := s.now, cmd := leAt bs 16 16 }
  let s := { s with fio := { s.fio with takeOvers := s.fio.takeOvers.map fun (k : TakeOver) =>
    if k.num == n then { k with groups := k.groups.filter (· != g) } else k } }
  s.finc (F.FIO_TAKEOVERS_COUNT g)

/-- FIO_SILENCE_MAX after a good frame applies now. -/
def State.showSilence (s : State) (g : Grp) : State :=
  match (s.fc g).lastApply with
  | some a => s.fputSat (F.FIO_SILENCE_MAX_MICROSECONDS g) (max (s.fget (F.FIO_SILENCE_MAX_MICROSECONDS g)) ((s.now - a) / us1))
  | none => s

/-- A good frame applies now: a take-over together with the commands, DISABLE, and the blotter state that it demands
(R214, R223, R246). While the blotter state holds, the commands are those from before it (R245, R500). -/
def State.applyFrame (s : State) (g : Grp) (bs : List Byte) : State :=
  let s := s.showSilence g
  let fl := byteAt bs 1
  let s := if natBit fl 0 then s.takeAtFc g bs else s
  let x := s.fc g
  let s := s.fcUpdate g { x with
    cmd := if x.blotter then x.cmd else leAt bs 16 16, disable := natBit fl 2, gen := leAt bs 2 2, lastApply := some s.now, frame := none }
  if natBit fl 1 then s.enterBlotter g blotFrame else s

/-- The claim that takes effect at this APPLY instant: always held by a module that is not paired, else the result of
the exchange (R416, R421). -/
def State.applyClaim (s : State) (g : Grp) : State :=
  let x := s.fc g
  let hold := if s.paired then x.claimNext.getD x.claim else true
  if hold == x.claim then s.setFc g { x with claimNext := none }
  else s.fcUpdate g { x with claim := hold, claimNext := none, evalFrom := if hold then s.now else x.evalFrom }

/-- The banks restored since the last APPLY instant drive from this one on, with or without a good frame; an overload
retry that the cut interrupted starts anew (R236, R242). -/
def State.applyBanks (s : State) (g : Grp) : State :=
  let x := s.fc g
  if x.banks.all (fun b => !b.waitApply) then s else
  let again (c : FcChan) : FcChan :=
    if (x.bank (bankOf c.pos)).waitApply then { c with retrying := c.retrying.map fun _ => s.now } else c
  s.fcUpdate g { x with banks := x.banks.map fun b => { b with waitApply := false }, chans := x.chans.map again }

/-- The frame that waits for this instant of the field controller's time (R214, R215). -/
def State.frameNow (s : State) (g : Grp) : Option (List Byte) := (s.fc g).frame.filter fun bs => frameApply bs == s.fcTime g

/-- The APPLY instant in one group: the claim, a good frame, and the banks that wait for it. -/
def State.applyGroup (s : State) (g : Grp) : State :=
  if !s.fgUp g then s else
  let s := s.applyClaim g
  let s := match s.frameNow g with
    | some bs => s.applyFrame g bs
    | none => s
  s.applyBanks g

/-- The packets with LAST whose set every group has taken over are answered (R226). -/
def State.settleTakeOvers (s : State) : State :=
  let done := s.fio.takeOvers.filter fun k => k.groups.isEmpty && decide (k.at_ < s.now)
  let s := { s with fio := { s.fio with takeOvers := s.fio.takeOvers.filter fun k => !done.contains k } }
  done.foldl (fun s k => match k.last with
    | some c => s.replyOk c opChConfig
    | none => s) s

/-- APPLY_INSTANT: at a grid instant each field controller applies its good frame, the claim and any take-over; a set all
of whose records are acknowledged is complete (R214, R222, R224). -/
def execApplyInstant (t : Nat) (s : State) : Host.Outcome State Fault Refusal :=
  let s := s.tick t
  if t % gridNs != 0 then .next s
  else .next ((allGroups.foldl State.applyGroup s).settleTakeOvers.completeSet)

/-! ### CH_CONFIG (R196, R197, R221, R226) -/

/-- FLAGS of a record set (R405). -/
def setLast (c : Cmd) : Bool := natBit (byteAt c.params 0) 0
def setDiscard (c : Cmd) : Bool := natBit (byteAt c.params 0) 1

/-- COUNT of a record set. -/
def setCount (c : Cmd) : Nat := leAt c.params 2 2

/-- The length fits COUNT records of `z` bytes (R405). -/
def setLenOk (c : Cmd) (z : Nat) : Bool := decide (8 ≤ c.params.length) && c.params.length == 8 + z * setCount c

/-- The head of a record set: known flags, reserved bytes 0, DISCARD alone and empty (R226, R405). -/
def setHeadOk (c : Cmd) (max : Nat) : Bool :=
  decide (byteAt c.params 0 < 4) && byteAt c.params 1 == 0 && allZero (slice c.params 4 4) && decide (setCount c ≤ max)
    && !(setDiscard c && (setLast c || setCount c != 0))

/-- The records of a set packet. -/
def setRecs (c : Cmd) (z : Nat) : List (List Byte) := chunks z (setCount c) (c.params.drop 8)

/-- CH_CONFIG's own checks: the head, each record, then whether a set is closed (R196, R226, R405). -/
def chConfigOwn (c : Cmd) (s : State) : Verdict :=
  refuseIf (!setHeadOk c 32) stBadParam noIndex <|
  match firstBad (fun _ r => cfgRecOk r) [] (setRecs c 16) with
  | some i => .refuse stBadParam i
  | none => refuseIf (!setDiscard c && (match s.fio.set with | some z => z.closedAt.isSome | none => false)) stBusy noIndex .accept

/-- The records of a set with those of one more packet: a later record for the same channel, or for the same group,
replaces an earlier one (R197). -/
def joinRecs (rs new : List ShadowRec) : List ShadowRec :=
  new.foldl (fun rs r => rs.filter (fun q => !(q.grp == r.grp && recKey q.bytes == recKey r.bytes)) ++ [r]) rs

/-- The packets other than `c` whose last unacknowledged records have been replaced are answered (R197, R221).
See log entry 77 (DEDUCED). -/
def State.answerReplaced (s : State) (old : List ShadowRec) (c : Cmd) : State :=
  let owes (rs : List ShadowRec) : List Cmd := ((rs.filter fun r => !r.acked).filterMap (·.cmd)).eraseDups
  let left := match s.fio.set with
    | some z => owes z.recs
    | none => []
  ((owes old).filter fun k => !left.contains k && k != c).foldl (fun s k => s.replyOk k opChConfig) s

/-- An accepted packet joins the set, and with LAST closes it after the check of R197. -/
def chConfigEffect (c : Cmd) (s : State) (a : Nat) : State :=
  if setDiscard c then (s.discardSet stAborted shDiscarded).replyOk c opChConfig else
  let s := if s.fio.set.isNone then s.openSet none else s
  match s.fio.set with
  | none => s
  | some z =>
    let new := (setRecs c 16).map fun r => (⟨recGrp r, r, some c, gridUp (a + us20), none, false⟩ : ShadowRec)
    let old := z.recs
    let z := { z with recs := joinRecs z.recs new, touchedAt := s.now }
    if !setLast c then
      let s := (s.putSet (some z)).answerReplaced old c
      if new.isEmpty then s.replyOk c opChConfig else s
    else if !s.setOk (z.recs.map (·.bytes)) then
      let s := (s.discardSet stAborted shBad).setResult shBad
      s.replyErr c opChConfig stBadParam noIndex
    else (s.putSet (some { z with last := some c, closedAt := some s.now })).answerReplaced old c

/-- CH_CONFIG (R196). -/
def execChConfig (c : Cmd) (t : Nat) (s : State) : Host.Outcome State Fault Refusal :=
  .next (s.runLane c t opChConfig lvlEngineer (setLenOk c 16) (chConfigOwn c) (chConfigEffect c))

/-- CH_CONFIG_DISCARD: the packet that carries DISCARD (R226). -/
def execChConfigDiscard (c : Cmd) (t : Nat) (s : State) : Host.Outcome State Fault Refusal :=
  .next (s.runLane c t opChConfig lvlEngineer (setLenOk c 16) (chConfigOwn c) (chConfigEffect c))

/-- 10 s. -/
def sec10 : Nat := 10000000000

/-- SHADOW_SET_OPEN_TIMEOUT: an open set that receives no packet for 10 s is discarded (R226). -/
def execShadowSetOpenTimeout (t : Nat) (s : State) : Host.Outcome State Fault Refusal :=
  let s := s.tick t
  match s.fio.set with
  | some z =>
    if z.closedAt.isNone && decide (z.touchedAt + sec10 ≤ s.now) then .next (s.discardSet stAborted shDiscarded) else .next s
  | none => .next s

/-- SHADOW_SET_COMPLETE_TIMEOUT: a closed set not complete within 10 s of its LAST is discarded with TIMEOUT (R226). -/
def execShadowSetCompleteTimeout (t : Nat) (s : State) : Host.Outcome State Fault Refusal :=
  let s := s.tick t
  match s.fio.set with
  | some z =>
    match z.closedAt with
    | some a => if !z.complete && decide (a + sec10 ≤ s.now) then .next (s.discardSet stTimeout shTimeout) else .next s
    | none => .next s
  | none => .next s

end Sys2Proof.Machine
end

