-- ==== Sys2Proof/Machine/Requests.lean ====
section
/-! DEFINITION. The request lines of the queue engine and the units of their sources (R378, R379). -/

namespace Sys2Proof.Machine

/-- QUE_REQ and QUE_REQ_BUSY of a line. -/
def State.asserted (s : State) (l : Nat) : Bool := natBit (s.fget F.QUE_REQ_ASSERTED) l
def State.lineBusy (s : State) (l : Nat) : Bool := natBit (s.fget F.QUE_REQ_BUSY_BUSY) l

/-- One bit of a field set or cleared. -/
def State.putBit (s : State) (f : Field) (i : Nat) (on : Bool) : State :=
  let v := s.fget f
  let low := if natBit v i then v - 2 ^ i else v
  s.fput f (if on then low + 2 ^ i else low)

/-- A line asserted or withdrawn; busy from burst-start to burst-done. -/
def State.setAsserted (s : State) (l : Nat) (on : Bool) : State := s.putBit F.QUE_REQ_ASSERTED l on
def State.setBusy (s : State) (l : Nat) (on : Bool) : State := s.putBit F.QUE_REQ_BUSY_BUSY l on

/-- A unit of four SOE records of group `g`, a short one padded (R378). See log entry 52 (DESIGN CHOICE). -/
def State.soeUnit (s : State) (g : Grp) : List Byte := padTo 64 ((s.fioGrp g).soe.take 4).flatten

/-- An SOE unit is ready: four records, or one that has waited 10 ms (R378). -/
def State.soeReady (s : State) (g : Grp) : Bool :=
  let q := (s.fioGrp g).soe
  decide (4 ≤ q.length) || (match q.head? with
    | some r => decide (leAt r 0 8 + 10000000 ≤ s.now)
    | none => false)

/-- The unit that a line's source holds ready (R378). -/
def State.unit (s : State) (l : Nat) : Option (List Byte) :=
  if l < 16 then assoc s.que.units l
  else if l == 16 then (if s.soeReady .g0 then some (s.soeUnit .g0) else none)
  else if l == 17 then (if s.soeReady .g1 then some (s.soeUnit .g1) else none)
  else if l == 18 then s.time.unit_
  else if l == 19 then s.net.captured
  else none

/-- The telegram unit of a line replaced, or dropped. -/
def State.setUnit (s : State) (l : Nat) (u : Option (List Byte)) : State :=
  { s with que := { s.que with units := match u with
      | some b => cellIns s.que.units l b
      | none => cellDel s.que.units l } }

/-- The first `n` records of an SOE buffer are drained. -/
def State.drainSoe (s : State) (g : Grp) (n : Nat) : State :=
  let x := s.fioGrp g
  (s.setFioGrp g { x with soe := x.soe.drop n }).showSoe g

/-- Records in an SOE unit: those that are not padding. See log entry 38 (DEDUCED). -/
def soeCount (unit : List Byte) : Nat := ((chunks 16 4 unit).filter fun r => !allZero r).length

/-- The source releases the unit `u` that it held, and re-asserts its line for the next one (R379). A time unit of a later
second stays (R378). -/
def State.releaseUnit (s : State) (l : Nat) (u : List Byte) : State :=
  let s := s.setBusy l false
  let s := if l < 16 then
      match assoc s.que.nextUnits l with
      | some b => { s.setUnit l (some b) with que := { (s.setUnit l (some b)).que with nextUnits := cellDel s.que.nextUnits l } }
      | none => s.setUnit l none
    else if l == 16 then s.drainSoe .g0 (soeCount u)
    else if l == 17 then s.drainSoe .g1 (soeCount u)
    else if l == 18 then (if s.time.unit_ == some u then { s with time := { s.time with unit_ := none } } else s)
    else { s with net := { s.net with captured := none } }
  s.setAsserted l (s.unit l).isSome

/-- A held unit is discarded: the SOE buffer counts its records as lost (R384, R386). -/
def State.discardUnit (s : State) (l : Nat) (u : List Byte) : State :=
  let s := s.releaseUnit l u
  if l == 16 then s.fsatAdd (F.FIO_SOE_LOST .g0) (soeCount u)
  else if l == 17 then s.fsatAdd (F.FIO_SOE_LOST .g1) (soeCount u)
  else s

/-- The line bound to a telegram entry. -/
def State.boundTo (s : State) (entry : Nat) : Option Nat :=
  (List.range 16).find? fun l => s.flag (F.QUE_BIND_BOUND l) && s.fget (F.QUE_BIND_ENTRY l) == entry

/-- A delivery with ARRIVAL forms the bound line's unit: it replaces an unmoved one, and waits while one is held
(R378). -/
def State.telegramUnit (s : State) (entry : Nat) (u : List Byte) : State :=
  match s.boundTo entry with
  | none => s
  | some l =>
    let u := padTo (ceilDiv u.length 64 * 64) u
    if s.lineBusy l then
      let s := if (assoc s.que.nextUnits l).isSome then s.fsat (F.QUE_BIND_OVERWRITTEN l) else s
      { s with que := { s.que with nextUnits := cellIns s.que.nextUnits l u } }
    else
      let s := if (assoc s.que.units l).isSome then s.fsat (F.QUE_BIND_OVERWRITTEN l) else s
      (s.setUnit l (some u)).setAsserted l true

/-- A line is withdrawn: its unit goes unless a burst holds it (R379). -/
def State.withdraw (s : State) (l : Nat) : State :=
  let s := s.setAsserted l false
  let s := { s with que := { s.que with nextUnits := cellDel s.que.nextUnits l } }
  if l < 16 && !s.lineBusy l then s.setUnit l none else s

/-- Deleting a bound entry withdraws its line and drops the binding (R379). -/
def State.unbind (s : State) (entry : Nat) : State :=
  match s.boundTo entry with
  | none => s
  | some l => ((s.fput (F.QUE_BIND_BOUND l) 0).fput (F.QUE_BIND_ENTRY l) 0).withdraw l

/-- REQUEST_LINE_ASSERT: a source with a unit ready asserts its line (R379). -/
def execRequestLineAssert (line t : Nat) (s : State) : Host.Outcome State Fault Refusal :=
  let s := s.tick t
  if line < 20 && (s.unit line).isSome then .next (s.setAsserted line true) else .next s

/-- REQUEST_LINE_WITHDRAW: a source withdraws its line; a burst that has started still delivers (R379). -/
def execRequestLineWithdraw (line t : Nat) (s : State) : Host.Outcome State Fault Refusal :=
  let s := s.tick t
  if line < 20 then .next (s.withdraw line) else .next s

end Sys2Proof.Machine
end

