-- ==== Sys2Proof/Machine/Tge.lean ====
section
/-! DEFINITION. The telegram engine (R303 to R322): the table and its changes, matching, delivery to the lanes, freshness
and publications. -/

namespace Sys2Proof.Machine

/-! ### Checks of a record (R305 to R307) -/

/-- The 32-bit fields that FLAGS enables: their offsets (R305). -/
def teFields (r : List Byte) : List Nat :=
  (if teFlag r 3 then [byteAt r 18] else []) ++ (if teFlag r 4 then [byteAt r 19] else [])
    ++ (if teFlag r 0 then [byteAt r 20] else []) ++ (if teFlag r 1 then [byteAt r 21] else [])
    ++ (if teFlag r 5 then [byteAt r 22] else [])

/-- No two fields of 4 bytes overlap. -/
def fieldsApart : List Nat → Bool
  | [] => true
  | x :: xs => (xs.all fun y => decide (x + 4 ≤ y) || decide (y + 4 ≤ x)) && fieldsApart xs

/-- The enabled fields lie before DATA_OFF, within 64 B, apart; disabled ones are 0 (R305, R306). -/
def teFieldsOk (r : List Byte) : Bool :=
  (teFields r).all (fun o => decide (o + 4 ≤ teOff r) && decide (o + 4 ≤ 64)) && fieldsApart (teFields r)
    && (teFlag r 3 || byteAt r 18 == 0) && (teFlag r 4 || byteAt r 19 == 0) && (teFlag r 0 || byteAt r 20 == 0)
    && (teFlag r 1 || byteAt r 21 == 0)
    && (if teFlag r 5 then decide (1 ≤ byteAt r 23) && decide (byteAt r 23 ≤ 4) else byteAt r 22 == 0 && byteAt r 23 == 0)

/-- PERIOD_US: 100 µs to 10,240,000 µs, a multiple of 50 µs. -/
def tePeriodOk (r : List Byte) : Bool :=
  decide (100 ≤ leAt r 28 4) && decide (leAt r 28 4 ≤ 10240000) && leAt r 28 4 % 50 == 0

/-- What SUBSCRIBE and PUBLISH share: flags, VID, lengths and fields. -/
def teTelegramOk (r : List Byte) : Bool :=
  decide (byteAt r 3 < 64) && decide (1 ≤ teVid r) && decide (teVid r ≤ 4094) && decide (teOff r + teLen r ≤ 1472)
    && teFieldsOk r

/-- The header of an entry holds values in range, and 0 where its kind has no field (R305, R306). -/
def teRecordOk (r : List Byte) : Bool :=
  decide (teIndex r < 16384) && decide (teLen r ≤ 1432) && tePeriodOk r && allZero (slice r 56 8) && r.length == teSize r
    && (match teKind r with
      | 1 => teTelegramOk r && decide (byteAt r 4 < 64) && byteAt r 5 == 0 && decide (teOff r ≤ 1472) && decide (1 ≤ teTimeout r)
          && byteAt r 25 == 0 && allZero (slice r 26 2) && allZero (slice r 32 12)
      | 2 => teTelegramOk r && byteAt r 4 == 0 && decide (tePcp r ≤ 7) && decide (teOff r ≤ 64) && byteAt r 24 == 0
          && decide (1 ≤ byteAt r 25) && allZero (slice r 26 2) && decide (tePhase r < tePeriod r) && allZero (slice r 48 8)
      | 3 => byteAt r 3 == 0 && allZero (slice r 4 10) && allZero (slice r 16 8) && decide (1 ≤ teTimeout r) && byteAt r 25 == 0
          && decide (teSource r < 16384) && allZero (slice r 32 24)
      | _ => false)

/-- A PROFILE or TOPOLOGY record holds values in range (R307). -/
def teTableOk (r : List Byte) : Bool :=
  r.length == 64 && byteAt r 3 == 0 && allZero (slice r 12 52)
    && (if teKind r == tkTopology then teIndex r == 0
      else
        let off := leAt r 8 2
        let len := byteAt r 10
        decide (teIndex r < 16) && allZero (slice r 6 2)
          && (leAt r 4 2 == 0 || (decide (off ≤ 1464) && decide (1 ≤ len) && decide (len ≤ 8) && decide (off + len ≤ 1472)
            && byteAt r 11 == 0)))

/-! ### The table (R304, R309, R310, R312) -/

/-- The table as a change sees it: entries, profiles and topology counters. -/
structure TgeTable where
  entries : List TgeEntry
  profiles : List TgeProfile
  topo : Nat × Nat
  deriving DecidableEq, Repr

/-- The bucket of a tuple (R312): VID, destination IP, UDP port and key. -/
def tgeBucket (vid : Nat) (ip : List Byte) (port : Nat) (key : List Byte) : Nat :=
  (crc32c (beBytes 2 vid ++ ip ++ beBytes 2 port ++ padTo 8 key)).toNat % 4096

/-- The bucket of a SUBSCRIBE record. -/
def teBucket (r : List Byte) : Nat := tgeBucket (teVid r) (teDstIp r) (tePort r) (teKey r)

/-- Overflow slots (R312). -/
def tgeOverflow : Nat := 256

/-- The slot that a SUBSCRIBE record takes: a free way of its bucket, else a free overflow slot (R312). -/
def tgeSlotFor (es : List TgeEntry) (r : List Byte) : Option TgeSlot :=
  let b := teBucket r
  if (es.filter (·.slot == .bucket b)).length < 4 then some (.bucket b)
  else if (es.filter (·.slot == .overflow)).length < tgeOverflow then some .overflow
  else none

/-- An entry as its change adds it: NEVER, SEQ count 0 (R310). -/
def tgeNew (r : List Byte) (slot : TgeSlot) (now : Nat) : TgeEntry :=
  { index := teIndex r, rec_ := r, addedAt := now, slot := slot, st := if teKind r == tkPub then 5 else 0, missed := 0, topoRej := false,
    lastSeq := 0, accepted := [], data := teDataset r, cur := none, sends := 0, pubStatus := 0 }

/-- The profile that names a UDP port (R312). -/
def tgeProfile (ps : List TgeProfile) (port : Nat) : Option TgeProfile := if port == 0 then none else ps.find? (·.port == port)

/-- A record added to the table (R307, R310). See log entry 46 (DEDUCED). -/
def TgeTable.add (x : TgeTable) (r : List Byte) (now : Nat) : TgeTable :=
  if teKind r == tkProfile then
    let ps := x.profiles.filter (·.num != teIndex r)
    { x with profiles := if leAt r 4 2 == 0 then ps else ps ++ [⟨teIndex r, leAt r 4 2, leAt r 8 2, byteAt r 10⟩] }
  else if teKind r == tkTopology then { x with topo := (leAt r 4 4, leAt r 8 4) }
  else
    let slot := if teKind r == tkSub then (tgeSlotFor x.entries r).getD .none else .none
    { x with entries := x.entries ++ [tgeNew r slot now] }

/-- One change on the table (R308, R310). -/
def TgeTable.apply (x : TgeTable) (c : TgeChange) (now : Nat) : TgeTable :=
  match c with
  | .del is => { x with entries := x.entries.filter fun e => !is.contains e.index }
  | .add r => x.add r now
  | .table rs => rs.foldl (fun x r => x.add r now) x

/-- The table in force. -/
def State.tgeTable (s : State) : TgeTable :=
  ⟨s.tge.entries, s.tge.profiles, (s.fget F.TGE_TOPO0_COUNTER, s.fget F.TGE_TOPO1_COUNTER)⟩

/-- The table as it will stand after the changes already accepted (R309). -/
def State.tgeAhead (s : State) : TgeTable := s.tge.pending.foldl (fun x p => x.apply p.change s.now) s.tgeTable

/-- The check of an added record against the table ahead (R309): its verdict status, with HASH_FULL apart. -/
inductive TgeCheck where
  | ok
  | bad
  | full
  deriving DecidableEq, Repr

/-- The check of a PROFILE record: ports named once, a profile in use neither deleted nor moved to another port (R307). -/
def profileOk (x : TgeTable) (r : List Byte) : Bool :=
  let port := leAt r 4 2
  (port == 0 || x.profiles.all fun p => p.num == teIndex r || p.port != port)
    && (match x.profiles.find? (·.num == teIndex r) with
      | none => true
      | some p => port == p.port || x.entries.all fun e => !(teKind e.rec_ == tkSub && tePort e.rec_ == p.port))

/-- The check of a change (R309). -/
def tgeCheck (x : TgeTable) : TgeChange → TgeCheck
  | .del is =>
    let found := is.all fun i => (tgeFind x.entries i).isSome
    let once := is.eraseDups.length == is.length
    let orphan := x.entries.any fun e => teKind e.rec_ == tkInt && is.contains (teSource e.rec_) && !is.contains e.index
    if found && once && !orphan then .ok else .bad
  | .table _ => .ok
  | .add r =>
    if teKind r == tkProfile then (if teTableOk r && profileOk x r then .ok else .bad)
    else if teKind r == tkTopology then (if teTableOk r then .ok else .bad)
    else if !teRecordOk r || (tgeFind x.entries (teIndex r)).isSome then .bad
    else if teKind r == tkInt then
      (match tgeFind x.entries (teSource r) with
        | some e => if teKind e.rec_ == tkPub then .ok else .bad
        | none => .bad)
    else if teKind r == tkSub then
      match tgeProfile x.profiles (tePort r) with
      | none => .bad
      | some p =>
        let twin := x.entries.any fun e => teKind e.rec_ == tkSub && teVid e.rec_ == teVid r && teDstIp e.rec_ == teDstIp r
          && tePort e.rec_ == tePort r && teKey e.rec_ == teKey r
        if twin || !allZero ((teKey r).drop p.keyLen) then .bad
        else if (tgeSlotFor x.entries r).isNone then .full else .ok
    else .ok

/-! ### The table's registers -/

/-- TGE_ENT_STAT of one index. -/
def State.putEntStat (s : State) (i kind st : Nat) (topo : Bool) (missed : Nat) : State :=
  let lo := 16 * (i % 2)
  let off := R.TGE_ENT_STAT (i / 2)
  s.fput ⟨off, lo + 15, lo⟩ (kind * 0x4000 + st * 0x800 + bit topo * 0x400 + missed)

/-- TGE_ENT_STAT of an entry. -/
def State.showEntry (s : State) (e : TgeEntry) : State :=
  s.putEntStat e.index (teKind e.rec_) e.st e.topoRej (if teKind e.rec_ == tkPub then 0 else e.missed)

/-- TGE_FRESH counts the subscriptions (TGE_FRESH). -/
def State.showFresh (s : State) : State :=
  let subs := s.tge.entries.filter fun e => teKind e.rec_ != tkPub
  (s.fput F.TGE_FRESH_SUBST (subs.filter fun e => e.st == 0 || e.st == 3).length).fput F.TGE_FRESH_STALE
    (subs.filter fun e => e.st == 2).length

/-- TGE_TABLE and TGE_MATCH count entries and slots (R304). -/
def State.showTable (s : State) : State :=
  let n := s.tge.entries.length
  let s := (s.fput F.TGE_TABLE_USED n).fput F.TGE_TABLE_FREE (16384 - n)
  let ovf := (s.tge.entries.filter fun e => e.slot == .overflow).length
  let subs := (s.tge.entries.filter fun e => teKind e.rec_ == tkSub).length
  ((s.fput F.TGE_MATCH_OVF ovf).fput F.TGE_MATCH_BUCKET (subs - ovf)).showFresh

/-- An entry replaced, with its status register. -/
def State.putEntry (s : State) (e : TgeEntry) : State :=
  ({ s with tge := { s.tge with entries := s.tge.entries.map fun (x : TgeEntry) => if x.index == e.index then e else x } }).showEntry e

/-- TGE_CHG.PENDING follows the changes that wait. -/
def State.showChanges (s : State) : State := s.fputSat F.TGE_CHG_PENDING s.tge.pending.length

/-! ### Deliveries (R314 to R318) -/

/-- An entry delivers at `d` (R314, R315): its count goes up, and each lane that takes deliveries gets its copy.
See log entry 46 (DEDUCED). -/
def State.deliverEntry (s : State) (e : TgeEntry) (d : Nat) (arrival : Bool) : State :=
  let n := (s.tge.count e.index + 1) % 2 ^ 32
  let x := e.delivery d arrival n
  let s := (s.putEntry { e with cur := some x })
  let s := { s with tge := { s.tge with counts := cellSet 0 s.tge.counts e.index n } }
  s.tgiLanes.foldl (fun (s : State) l => s.sendTgi e.index x l) s

/-- Every change of state or of TOPO_REJ delivers at once (R318). -/
def State.putDelivered (s : State) (old new : TgeEntry) : State :=
  let s := if old.st != new.st then s.hostEvent evTelegram else s
  if old.st != new.st || old.topoRej != new.topoRej then s.deliverEntry new s.now false else s.putEntry new

/-! ### Matching (R311 to R313) -/

/-- What the engine reads of a UDP datagram in a frame without tag: source and destination address, port, payload;
none for anything but unfragmented IPv4 without options that carries UDP (R311). -/
structure Udp where
  src : List Byte
  dst : List Byte
  port : Nat
  payload : List Byte
  deriving DecidableEq, Repr

/-- The datagram in a frame, if it has one (R311). -/
def udpOf (core : List Byte) : Option Udp :=
  let total := beAt core 16 2
  let len := beAt core 38 2
  if frameType core == 0x0800 && byteAt core 14 == 0x45 && beAt core 20 2 % 0x4000 == 0 && byteAt core 23 == 17
      && decide (8 ≤ len) && decide (20 + len ≤ total) && decide (14 + total ≤ core.length) then
    some ⟨slice core 26 4, slice core 30 4, beAt core 36 2, slice core 42 (len - 8)⟩
  else none

/-- Causes of a rejection, TGE_REJ_CAP.CAUSE (R313). -/
def rjPort : Nat := 1
def rjLength : Nat := 2
def rjCheck : Nat := 3
def rjTopology : Nat := 4
def rjDuplicate : Nat := 5

/-- The counter of a cause. -/
def rejField : Nat → Field
  | 1 => F.TGE_REJ_C_HIGH
  | 2 => F.TGE_REJ_B_LOW
  | 3 => F.TGE_REJ_B_HIGH
  | 4 => F.TGE_REJ_A_HIGH
  | _ => F.TGE_REJ_A_LOW

/-- The check value of payload bytes 0 to `o` − 1, as CHK_KIND stores it (R305, R306). -/
def chkBytes (kind o : Nat) (payload : List Byte) : List Byte :=
  let b := payload.take o
  match kind with
  | 1 => leBytes 4 (crc32 b).toNat
  | 2 => beBytes 4 (crc32 b).toNat
  | 3 => leBytes 4 (crc32c b).toNat
  | _ => beBytes 4 (crc32c b).toNat

/-- One enabled topology counter passes: equal to the module's, or 0 with TOPO_ZERO_OK (R313). -/
def topoOk (r : List Byte) (on : Bool) (off own : Nat) (payload : List Byte) : Bool :=
  let v := beAt payload off 4
  !on || v == own || (v == 0 && teFlag r 2)

/-- The sequence is new: 1 to 2^31 − 1 ahead of the last accepted one (R313). -/
def seqNew (v last : Nat) : Bool :=
  let d := (v + 2 ^ 32 - last) % 2 ^ 32
  decide (1 ≤ d) && decide (d < 2 ^ 31)

/-- The first check of R313 that a matched datagram fails, under the topology counters in force at its first byte
(R322); 0 for none. -/
def tgeReject (topo : Nat × Nat) (e : TgeEntry) (port : Nat) (u : Udp) : Nat :=
  let r := e.rec_
  if !natBit (byteAt r 4) port || !(allZero (teSrcIp r) || teSrcIp r == u.src) then rjPort
  else if u.payload.length < teOff r + teLen r || (teFlag r 4 && beAt u.payload (byteAt r 19) 4 != teLen r) then rjLength
  else if teFlag r 5 && slice u.payload (byteAt r 22) 4 != chkBytes (byteAt r 23) (byteAt r 22) u.payload then rjCheck
  else if !(topoOk r (teFlag r 0) (byteAt r 20) topo.1 u.payload && topoOk r (teFlag r 1) (byteAt r 21) topo.2 u.payload) then
    rjTopology
  else if teFlag r 3 && e.st == 1 && !seqNew (beAt u.payload (byteAt r 18) 4) e.lastSeq then rjDuplicate
  else 0

/-- The entry is the one that the table holds at its index. -/
def State.tgeLive (s : State) (e : TgeEntry) : Bool := (tgeFind s.tge.entries e.index).any fun x => x.addedAt == e.addedAt

/-- A rejection is counted and, when none is held, captured (R313, TGE_REJ_CAP). -/
def State.countReject (s : State) (e : TgeEntry) (port cause : Nat) : State :=
  let s := s.fsat (rejField cause)
  let s := if s.flag F.TGE_REJ_CAP_VALID then s else
    (((s.fput F.TGE_REJ_CAP_CAUSE cause).fput F.TGE_REJ_CAP_PORT port).fput F.TGE_REJ_CAP_ENTRY e.index).fput F.TGE_REJ_CAP_VALID 1
  if cause == rjTopology && s.tgeLive e then s.putDelivered e { e with topoRej := true } else s

/-- An accepted telegram: FRESH, its dataset due 1 µs after its last byte, until when the engine references its frame
(R297, R314, R318). Of an entry that a change has deleted meanwhile the delivery is discarded (R322). -/
def State.tgeAccept (s : State) (e : TgeEntry) (u : Udp) (frame : Option Nat) : State :=
  if !s.tgeLive e then s.finc F.TGE_RX_ACCEPT_COUNT else
  let r := e.rec_
  let data := slice u.payload (teOff r) (teLen r)
  let fresh := e.st == 1
  let e := { e with
    st := 1, missed := 0, lastSeq := if teFlag r 3 then beAt u.payload (byteAt r 18) 4 else e.lastSeq
    accepted := (s.now :: e.accepted).take 2, data := data }
  let s := if fresh then s else s.hostEvent evTelegram
  let s := (s.finc F.TGE_RX_ACCEPT_COUNT).putEntry e
  let s := { s with tge := { s.tge with due := s.tge.due ++ [(⟨e.index, s.now + 1000, data, frame⟩ : TgeDue)] } }
  (match frame with
    | some id => s.engineHolds id
    | none => s).showFresh

/-- The entries, profiles and topology counters in force at an instant given in units of 0.1 ns, within the last change
(R311, R322). -/
def State.tgeTableAt (s : State) (tenths : Nat) : TgeTable :=
  if 10 * s.tge.changeAt ≤ tenths then s.tgeTable
  else ⟨s.tge.entries.filter (fun e => decide (10 * e.addedAt ≤ tenths)) ++ s.tge.gone, s.tge.oldProfiles, s.tge.oldTopo⟩

/-- The entry that a datagram matches, in its VID with its key (R312). -/
def tgeMatch (es : List TgeEntry) (vid : Nat) (u : Udp) (key : List Byte) : Option TgeEntry :=
  es.find? fun e => teKind e.rec_ == tkSub && teVid e.rec_ == vid && teDstIp e.rec_ == u.dst && tePort e.rec_ == u.port
    && teKey e.rec_ == padTo 8 key

/-- The engine inspects a frame that port `p` receives, under the table in force at its first byte (R311 to R313);
`frame` is the frame in the inkwell, if the feed admitted it. -/
def State.inspect (s : State) (p vid : Nat) (core : List Byte) (first : Nat) (frame : Option Nat) : State :=
  let x := s.tgeTableAt first
  match udpOf core with
  | none => s
  | some u =>
    match tgeProfile x.profiles u.port with
    | none => s
    | some pr =>
      if u.payload.length < pr.keyOff + pr.keyLen then s.fsat F.TGE_REJ_C_LOW else
      match tgeMatch x.entries vid u (slice u.payload pr.keyOff pr.keyLen) with
      | none => s.fsat F.TGE_REJ_C_LOW
      | some e =>
        match tgeReject x.topo e p u with
        | 0 => s.tgeAccept e u frame
        | cause => s.countReject e p cause

/-! ### Applying changes (R308, R310) -/

/-- TGE_CHG.LAST_RESULT. -/
def chApplied : Nat := 1
def chBad : Nat := 2
def chFull : Nat := 3

/-- Opcodes (R404). -/
def opTgeAdd : Nat := 0x0401
def opTgeDel : Nat := 0x0402

/-- Every change that is due at instant `t`. -/
def State.tgeDue (s : State) (t : Nat) : List TgePending := s.tge.pending.filter fun p => decide (p.accepted + 20000 ≤ t)

/-- The reply of a change at the commit that applies it (R308). -/
def State.tgeAnswer (s : State) (p : TgePending) : State :=
  match p.cmd, p.change with
  | none, _ => s
  | some c, .add _ => s.replyOk c opTgeAdd
  | some c, .del _ => s.replyOk c opTgeDel
  | some _, .table _ => s

/-- Indices that a change makes free or takes. -/
def TgeChange.touched : TgeChange → List Nat
  | .del is => is
  | .add r => if teKind r ≤ tkInt then [teIndex r] else []
  | .table rs => (rs.filter fun r => teKind r ≤ tkInt).map teIndex

/-- Indices that a change deletes. -/
def TgeChange.deleted : TgeChange → List Nat
  | .del is => is
  | .add _ => []
  | .table _ => []

/-- What a change leaves at an index: a new subscription delivers its substitute and status at once (R310, R318). -/
def State.tgeEnter (s : State) (i : Nat) : State :=
  let s := s.unstage i
  match tgeFind s.tge.entries i with
  | none => s.putEntStat i 0 0 false 0
  | some e => if teKind e.rec_ == tkPub then s.showEntry e else s.deliverEntry e s.now false

/-- The due changes take effect together in the order of their acceptance, and are answered OK; the generation advances
once (R308, R310, R322). -/
def State.applyTge (s : State) : State :=
  let due := s.tgeDue s.now
  if due.isEmpty then s else
  let old := s.tgeTable
  let x := due.foldl (fun x p => x.apply p.change s.now) old
  let kept := fun (e : TgeEntry) => x.entries.any fun y => y.index == e.index && y.addedAt == e.addedAt
  let stands := fun (d : TgeDue) => old.entries.any fun e => e.index == d.entry && kept e
  let lost := s.tge.due.filter fun d => !stands d
  let s := { s with tge := { s.tge with
      entries := x.entries, profiles := x.profiles, pending := s.tge.pending.filter (fun p => !due.contains p), changeAt := s.now,
      gone := old.entries.filter (fun e => !kept e), oldTopo := old.topo, oldProfiles := old.profiles,
      due := s.tge.due.filter stands } }
  let s := (lost.filterMap (·.frame)).foldl State.engineDone s
  let s := (s.fput F.TGE_TOPO0_COUNTER x.topo.1).fput F.TGE_TOPO1_COUNTER x.topo.2
  let s := (due.map (·.change.deleted)).flatten.foldl State.unbind s
  let s := ((due.map (·.change.touched)).flatten.eraseDups).foldl State.tgeEnter s
  let s := (s.showTable).showChanges
  let s := due.foldl (fun (s : State) _ => s.finc F.TGE_CHG_APPLIED) s
  let s := (s.fput F.TGE_CHG_LAST_RESULT chApplied).advanceGen
  due.foldl State.tgeAnswer s

/-! ### Take-overs while no task commits (R283, R308) -/

/-- The stored configuration of the start-up sequence is still on its way: its network set and table wait for its channel
set, so that all are taken over at one commit (R475, R499 step 8). -/
def State.startingUp (s : State) : Bool :=
  !s.fio.firstTaken && (match s.fio.set with
    | some z => z.last.isNone && z.closedAt.isSome && z.rearm.isNone
    | none => false)

/-- The network set and the table changes that are due at this output commit (R283, R308). -/
def State.takeNetTge (s : State) : State :=
  if s.startingUp then s else (if s.netDue s.now then s.takeNet else s).applyTge

/-- In STOP and HOLD, and while no folio runs, every grid instant serves as an output commit (R283, R308). -/
def State.gridCommits (s : State) : Bool :=
  (s.modeNow != .run || s.folio.running.isNone) && s.flag F.VOTE_CTRL_EN && !s.flag F.VOTE_CTRL_FAILED

/-- Since when it does so: the first entry of STOP or HOLD since RUN was left. -/
def State.idleFrom (s : State) : Nat :=
  match s.folio.running with
  | none => 0
  | some _ => match [s.ductus.stopAt, s.ductus.holdAt].filter (fun a => decide (s.ductus.runEntry.getD 0 ≤ a)) with
    | [] => 0
    | a :: as => as.foldl min a

/-- An instant into a rising list that does not hold it. -/
def insertInstant (g : Nat) : List Nat → List Nat
  | [] => [g]
  | x :: xs => if g < x then g :: x :: xs else if g == x then x :: xs else x :: insertInstant g xs

/-- The grid instants up to `t` at which a waiting network set or table change is due. -/
def State.idleInstants (s : State) (t : Nat) : List Nat :=
  let closed := match s.net.set with
    | some z => z.closedAt.toList
    | none => []
  let gs := (closed ++ s.tge.pending.map (·.accepted)).map fun a => max (gridUp (a + 20000)) (gridUp s.idleFrom)
  (gs.filter fun g => decide (g ≤ t)).foldr insertInstant []

/-- `k` evaluated at the instant `g`, as of which the time is taken. -/
def State.evalAt (s : State) (g : Nat) (k : State → State) : State :=
  let r := k { s with now := g }
  { r with now := s.now }

/-- The time reaches `t`; while every grid instant is an output commit, what was due at one up to `t` has taken effect
at it. See log entry 15 (DESIGN CHOICE). -/
def State.upTo (s : State) (t : Nat) : State :=
  (if s.now ≤ t && s.gridCommits then (s.idleInstants t).foldl (fun (s : State) g => s.evalAt g State.takeNetTge) s else s).tick t

/-! ### Publications (R319 to R321) -/

/-- The dataset bytes that one binding of TGMAP covers, for the variable's bytes: (byte, (mask, value)) (R167, R319). -/
def tgBits (x : TgRec) (v : VarRec) (bytes : List Byte) : List (Nat × (Nat × Nat)) :=
  if v.ty == .bool then
    (List.range v.count).map fun i =>
      let k := x.bitOff + i
      (x.byteOff + k / 8, (2 ^ (k % 8), (byteAt bytes i % 2) * 2 ^ (k % 8)))
  else
    let z := tySize v.ty
    (List.range (v.count * z)).map fun i =>
      let e := i / z
      let j := i % z
      (x.byteOff + i, (0xFF, byteAt bytes (e * z + (if x.bigEndian then z - 1 - j else j))))

/-- One byte's bits laid over what a list of cells holds. -/
def overlay (cells : List (Nat × (Nat × Nat))) (c : Nat × (Nat × Nat)) : List (Nat × (Nat × Nat)) :=
  let (m, v) := (assoc cells c.1).getD (0, 0)
  cellIns cells c.1 (m ||| c.2.1, (v &&& (0xFF - c.2.1)) ||| c.2.2)

/-- The publication bytes of one task's voted TGO bytes, read by `rd` (R319). -/
def Folio.tgoCells (f : Folio) (task : Nat) (rd : VarRec → List Byte) : List (Nat × (Nat × Nat)) :=
  ((f.tg.filter fun x => x.kind == 1).map fun x =>
    match f.varOf x.var with
    | some v => if v.segment == segTgo && v.task == task then (tgBits x v (rd v)).map fun c => (x.entry * 2048 + c.1, c.2) else []
    | none => []).flatten

/-- The publication bytes that have reached the engine by an instant are laid into it (R319). -/
def State.tgoArrive (s : State) (t : Nat) : State :=
  let due := s.tge.arrivals.filter fun a => decide (a.at_ ≤ t)
  let pub := due.foldl (fun p a => a.bytes.foldl overlay p) s.tge.pub
  { s with tge := { s.tge with pub := pub, arrivals := s.tge.arrivals.filter fun a => !decide (a.at_ ≤ t) } }

/-- The mode at the instant `k` of the last microsecond was RUN, and a folio runs (R319, R322). -/
def State.runAt (s : State) (k : Nat) : Bool :=
  let entered := match s.ductus.runEntry with
    | some r => decide (r ≤ k)
    | none => false
  s.folio.running.isSome && entered && (match s.modeNow with
    | .run => true
    | .stop => decide (k < s.ductus.stopAt) && (match s.ductus.runEntry with
        | some r => decide (s.ductus.holdAt ≤ r)
        | none => false)
    | .hold => decide (k < s.ductus.holdAt))

/-- The dataset of a publication at its cut-off (R319). -/
def State.pubDataset (s : State) (e : TgeEntry) (voted : Bool) : List Byte :=
  let stop := teDataset e.rec_
  if !voted then stop
  else (List.range stop.length).map fun i =>
    match assoc s.tge.pub (e.index * 2048 + i) with
    | some (m, v) => BitVec.ofNat 8 ((byteAt stop i &&& (0xFF - m)) ||| v)
    | none => stop.getD i 0

/-- A 16-bit one's complement sum, folded and complemented: the IPv4 header checksum. -/
def ipChecksum (b : List Byte) : Nat :=
  let sum := ((List.range (b.length / 2)).map fun i => beAt b (2 * i) 2).foldl (· + ·) 0
  let a := sum % 65536 + sum / 65536
  let c := a % 65536 + a / 65536
  65535 - c

/-- An IPv4 header of 20 B without options (R320). -/
def ipHeader (tos total ident flags ttl proto : Nat) (src dst : List Byte) : List Byte :=
  let h := [0x45, BitVec.ofNat 8 tos] ++ beBytes 2 total ++ beBytes 2 ident ++ beBytes 2 flags ++ [BitVec.ofNat 8 ttl, BitVec.ofNat 8 proto, 0, 0]
    ++ src ++ dst
  splice h 10 (beBytes 2 (ipChecksum h))

/-- An enabled 32-bit field written into a payload. -/
def putField (on : Bool) (off : Nat) (v : List Byte) (p : List Byte) : List Byte := if on then splice p off v else p

/-- The UDP payload of a publication (R320). -/
def pubPayload (e : TgeEntry) (data : List Byte) (topo : Nat × Nat) : List Byte :=
  let r := e.rec_
  let p := teTemplate r ++ data
  let p := putField (teFlag r 3) (byteAt r 18) (beBytes 4 e.sends) p
  let p := putField (teFlag r 4) (byteAt r 19) (beBytes 4 (teLen r)) p
  let p := putField (teFlag r 0) (byteAt r 20) (beBytes 4 topo.1) p
  let p := putField (teFlag r 1) (byteAt r 21) (beBytes 4 topo.2) p
  putField (teFlag r 5) (byteAt r 22) (chkBytes (byteAt r 23) (byteAt r 22) p) p

/-- The frame of a publication, without tag and FCS (R320). -/
def pubCore (e : TgeEntry) (payload : List Byte) : List Byte :=
  let r := e.rec_
  let n := payload.length
  teDstMac r ++ beBytes 6 moduleMac ++ [0x08, 0x00]
    ++ ipHeader (tePcp r * 32) (28 + n) 0 0x4000 (byteAt r 25) 17 (teSrcIp r) (teDstIp r)
    ++ beBytes 2 (leAt r 42 2) ++ beBytes 2 (tePort r) ++ beBytes 2 (8 + n) ++ [0, 0] ++ payload

/-- A publication is not sent: the module has failed, or is not the acting member of its pair (R321).
See log entry 47 (DEDUCED). -/
def State.pubSilent (s : State) : Bool := s.flag F.VOTE_CTRL_FAILED || s.notActing

/-- One publication at its send instant `snd` (R318, R320, R321). See log entry 46 (DEDUCED).
See log entry 47 (DEDUCED). -/
def State.publish (s : State) (topo : Nat × Nat) (voted : Bool) (snd : Nat) (e : TgeEntry) : State :=
  let data := s.pubDataset e voted
  let live := s.tgeLive e
  let quiet := s.pubSilent
  let send := !quiet && !allZero (teDstMac e.rec_)
  let core := pubCore e (pubPayload e data topo)
  let (s, status) :=
    if !send then (s, 0) else
    let length := max 64 (core.length + 8)
    let (s, r) := s.fromSix (s.decideIn 6 core length (teVid e.rec_) (tePcp e.rec_) (stampOf (10 * s.now))) true
    if r == .refused then (s.finc F.TGE_PUB_DROP_COUNT, 3) else (s.finc F.TGE_PUB_SENT_COUNT, 1)
  let sends := if s.flag F.VOTE_CTRL_FAILED then e.sends else (e.sends + 1) % 2 ^ 32
  let s := if live then s.putEntry { e with sends := sends, pubStatus := status, st := if quiet then 6 else if voted then 4 else 5 } else s
  s.tge.entries.foldl (fun (s : State) x =>
    if teKind x.rec_ == tkInt && teSource x.rec_ == e.index then
      { s with tge := { s.tge with due := s.tge.due ++ [⟨x.index, snd + 1000, padTo (teLen x.rec_) data, none⟩] } }
    else s) s

/-- A send instant of a publication is a multiple of its period plus its phase (R319). -/
def sendDue (e : TgeEntry) (snd : Nat) : Bool :=
  teKind e.rec_ == tkPub && decide (tePhase e.rec_ ≤ snd) && (snd - tePhase e.rec_) % tePeriod e.rec_ == 0

/-- Entries in ascending index order. -/
def insertEntry (e : TgeEntry) : List TgeEntry → List TgeEntry
  | [] => [e]
  | x :: xs => if e.index ≤ x.index then e :: x :: xs else x :: insertEntry e xs

end Sys2Proof.Machine
end

