-- ==== Sys2Proof/Machine/Queues.lean ====
section
/-! DEFINITION. The queue engine (R366 to R386): rings, doorbells, descriptors, bursts, completion, errors and the
queue configuration set. -/

namespace Sys2Proof.Machine

/-! ### Queues and their registers (R366 to R371, R376) -/

/-- Queue states and halt causes, Q_STAT. -/
def qDisabled : Nat := 0
def qRunning : Nat := 1
def qHalted : Nat := 2
def qDraining : Nat := 3
def haltBus : Nat := 1
def haltDoorbell : Nat := 2
def haltOwn : Nat := 3
def haltFormat : Nat := 4

/-- STATUS values of a write-back (R373). -/
def wbOk : Nat := 0
def wbBusError : Nat := 1
def wbAborted : Nat := 2
def wbTruncated : Nat := 3
def wbIdle : Nat := 4
def wbFormat : Nat := 5

/-- Queue types, Q_CFG.TYPE. -/
def qCommand : Nat := 1
def qMove : Nat := 2

/-- Registers of queue `q`. -/
def State.qState (s : State) (q : Nat) : Nat := s.fget (F.Q_STAT_STATE q)
def State.qType (s : State) (q : Nat) : Nat := s.fget (F.Q_CFG_TYPE q)
def State.qTail (s : State) (q : Nat) : Nat := s.fget (F.Q_DB_TAIL q)
def State.qDone (s : State) (q : Nat) : Nat := s.fget (F.Q_STAT_DONE q)
def State.qFetch (s : State) (q : Nat) : Nat := s.fget (F.Q_CFG_FETCH q)
def State.qSize (s : State) (q : Nat) : Nat := 2 ^ s.fget (F.Q_CTRL_SIZE_LOG2 q)
def State.qScribe (s : State) (q : Nat) : Bool := s.flag (F.Q_CFG_PRODUCER q)

/-- Difference of two counters modulo 65,536 (R369). -/
def ctrDiff (a b : Nat) : Nat := (a + 65536 - b % 65536) % 65536

/-- A queue's state replaced. -/
def State.setRun (s : State) (q : Nat) (x : QueueRun) : State := { s with que := { s.que with queues := s.que.queues.set q x } }

/-- The requester may write the registers of queue `q`: the host those of a host-produced queue while PD_HOST is on, the
scribe its own (R368). -/
def State.mayDrive (s : State) (q : Nat) (r : Requester) : Bool :=
  decide (q < 16) && (match r with
    | .host => !s.qScribe q && s.powered pdHost
    | .scribe => s.qScribe q)

/-- The engine serves queue `q`: scribe-produced queues work with PD_HOST off, the others need the bridge (R346, R366). -/
def State.served (s : State) (q : Nat) : Bool := s.qScribe q || s.bridgeUp

/-- Bursts in flight (QUE_ENGINE). -/
def State.inflight (s : State) : Nat := s.fget F.QUE_ENGINE_INFLIGHT

/-! ### Addresses and access (R375) -/

/-- Byte `k` of a span that starts at `a`, within its aligned 2^w region (R373). -/
def wrapAddr (a w k : Nat) : Nat := if w == 0 then a + k else a / 2 ^ w * 2 ^ w + (a + k) % 2 ^ w

/-- Bit 63 marks a module address (R375). -/
def isModule (a : Nat) : Bool := natBit a 63

/-- The module address of a byte; none outside the rules (R375). -/
def moduleAddr (a : Nat) : Option Nat := if 2 ^ 63 ≤ a ∧ a < 2 ^ 63 + 2 ^ 32 then some (a - 2 ^ 63) else none

/-- The requester code of a move of queue `q` (R458). -/
def State.moveRequester (s : State) (q : Nat) : Nat := if s.qScribe q then rqScribeMove else rqHostMove

/-- The scribe's own buffer holds the packet at this address (R375). -/
def State.scribePacket (s : State) (a : Nat) : Option (List Byte) := (assoc s.que.scribeBuf a).map (·.2)

/-- One byte of module memory that a move reads; none for a violation. -/
def State.moveByte (s : State) (a : Nat) : Option Byte :=
  match moduleAddr a with
  | some m => if (regionAt m).isSome then some (s.busByte m) else none
  | none => none

/-- `n` bytes that a move of queue `q` reads from module addresses, as logged (R375, R458); a read of MBOX_M2H clears
it (R5, R350). -/
def State.moveRead (s : State) (q a w k n : Nat) : State × List Byte :=
  match (if s.qScribe q then s.scribePacket a else none) with
  | some p => (s, slice p k n)
  | none =>
    let bs := (List.range n).map fun i => s.moveByte (wrapAddr a w (k + i))
    let s := if bs.any (·.isNone) then s.violation (s.moveRequester q) false (wrapAddr a w k) else s
    (s.clearM2h ((List.range n).filterMap fun i => moduleAddr (wrapAddr a w (k + i))), bs.map (·.getD 0))

/-- The module byte that a move writes; none outside the regions that take writes. -/
def writeAddr (a : Nat) : Option Nat :=
  match moduleAddr a with
  | some m => match regionAt m with
    | some r => if r.hostWrites then some m else none
    | none => none
  | none => none

/-- A byte of mailbox control (R350). -/
def inMailboxControl (m : Nat) : Bool := decide (mboxControl ≤ m) && decide (m < mboxControl + 0x1000)

/-- Bytes that a move of queue `q` writes to module addresses (R375); a write of the whole of MBOX_H2M announces a
message, and the rest of mailbox control takes no write (R350). See log entry 13 (DEDUCED). -/
def State.moveWrite (s : State) (q a w k : Nat) (bs : List Byte) : State :=
  let as := (List.range bs.length).map fun i => writeAddr (wrapAddr a w (k + i))
  let s := if as.any (·.isNone) then s.violation (s.moveRequester q) true (wrapAddr a w k) else s
  let s := (as.zip bs).foldl (fun (s : State) x => match x.1 with
    | some m => if inMailboxControl m then s else s.mwrite m [x.2]
    | none => s) s
  let word := (List.range 4).filterMap fun i => ((as.zip bs).find? (·.1 == some (mboxControl + i))).map (·.2)
  if word.length == 4 then s.announce (leAt word 0 4) else s

/-- Bytes written by queue `q` from byte `k` of an address on: to module memory, or posted to the host. -/
def State.putBytes (s : State) (q a w k : Nat) (bs : List Byte) : State :=
  if isModule a then s.moveWrite q a w k bs else s.post (wrapAddr a w k) bs

/-- The write may leave now: module memory takes it, the host needs credit (R363). -/
def State.canPut (s : State) (a n : Nat) : Bool := isModule a || s.canPost n

/-! ### Descriptors (R372, R373) -/

def dType (d : List Byte) : Nat := byteAt d 0
def dFlag (d : List Byte) (i : Nat) : Bool := natBit (byteAt d 1) i
def dIrq (d : List Byte) : Bool := dFlag d 0
def dLanded (d : List Byte) : Bool := dFlag d 1
def dReq (d : List Byte) : Bool := dFlag d 2
def dLine (d : List Byte) : Nat := byteAt d 2
def dAddrA (d : List Byte) : Nat := leAt d 8 8
def dAddrB (d : List Byte) : Nat := leAt d 16 8
def dLenA (d : List Byte) : Nat := leAt d 24 4
def dLenB (d : List Byte) : Nat := leAt d 28 4
def dBurst (d : List Byte) : Nat := 2 ^ byteAt d 32
def dSrcWrap (d : List Byte) : Nat := byteAt d 33
def dDstWrap (d : List Byte) : Nat := byteAt d 34
def dIdle (d : List Byte) : Nat := leAt d 36 4 * 1000
def dOwn (d : List Byte) : Bool := natBit (byteAt d 63) 0

/-- A wrap of 0, or 12 to 28. -/
def wrapOk (w : Nat) : Bool := w == 0 || (decide (12 ≤ w) && decide (w ≤ 28))

/-- The unit of a line (R378): what LEN_A must be a multiple of. -/
def State.lineUnit (s : State) (l : Nat) : Nat :=
  if l < 16 then
    (if s.flag (F.QUE_BIND_BOUND l) then
      match tgeFind s.tge.entries (s.fget (F.QUE_BIND_ENTRY l)) with
      | some e => ceilDiv (16 + teLen e.rec_) 64 * 64
      | none => 64
    else 64)
  else if l == 19 then 2048 else 64

/-- Packet and reply lengths (R373). -/
def packetLen (n : Nat) : Bool := decide (48 ≤ n) && decide (n ≤ 65600)

/-- The descriptor keeps R373 to R375 in queue `q`. -/
def State.descOk (s : State) (q : Nat) (d : List Byte) : Bool :=
  dType d == s.qType q && byteAt d 3 == 0 && byteAt d 35 == 0 && allZero (slice d 40 8) && byteAt d 63 == 1
    && (if s.qType q == qCommand then
        decide (byteAt d 1 < 4) && byteAt d 2 == 0 && packetLen (dLenA d) && packetLen (dLenB d) && allZero (slice d 32 8)
      else
        decide (byteAt d 1 < 8) && decide (1 ≤ dLenA d) && decide (dLenA d ≤ 268435456) && dLenB d == 0
          && wrapOk (dSrcWrap d) && wrapOk (dDstWrap d)
          && (if dReq d then decide (dLine d < 32) && dLenA d % s.lineUnit (dLine d) == 0
            else byteAt d 2 == 0 && decide (6 ≤ byteAt d 32) && decide (byteAt d 32 ≤ 12) && allZero (slice d 36 4)))

/-- The ring address of the descriptor with counter `c` (R368, R369). -/
def State.descAddr (s : State) (q c : Nat) : Nat :=
  s.fget (F.Q_BASE_HI_BASE q) * 2 ^ 32 + s.fget (F.Q_BASE_LO_BASE q) * 4096 + c % s.qSize q * 64

/-- Q_STAT.HALT_EVT set, with vector 16 + q when it was 0 (R382). -/
def State.haltEvent (s : State) (q : Nat) : State :=
  if s.flag (F.Q_STAT_HALT_EVT q) then s else (s.fput (F.Q_STAT_HALT_EVT q) 1).hostVector (16 + q)

/-- The queue halts at counter `c` with a cause (R376). See log entry 51 (DEDUCED). -/
def State.halt (s : State) (q cause c : Nat) : State :=
  if s.qState q != qRunning then s else
  let s := (s.fput (F.Q_STAT_STATE q) qHalted).fput (F.Q_STAT_CAUSE q) cause
  (s.fput (F.Q_HALT_DESC_COUNTER q) c).haltEvent q

/-! ### Completion (R369, R374, R381, R382) -/

/-- DONE advances over the completed counters from DONE on. -/
def advance : Nat → Nat → List Nat → Nat × List Nat
  | 0, d, cs => (d, cs)
  | n + 1, d, cs => if cs.contains d then advance n ((d + 1) % 65536) (cs.filter (· != d)) else (d, cs)

/-- Q_STAT.IRQ set, with vector q when it was 0 (R382). -/
def State.irq (s : State) (q : Nat) : State :=
  if s.flag (F.Q_STAT_IRQ q) then s else (s.fput (F.Q_STAT_IRQ q) 1).hostVector q

/-- The 16 bytes of a write-back (R373). -/
def writeBackBytes (status spent done : Nat) : List Byte :=
  leBytes 2 status ++ leBytes 1 spent ++ zeros 1 ++ leBytes 4 done ++ zeros 8

/-- A descriptor is written back and DONE advances (R373, R382). -/
def State.writeBack (s : State) (q c status spent done : Nat) (irq : Bool) : State :=
  let s := s.putBytes q (s.descAddr q c) 0 48 (writeBackBytes status spent done)
  let s := s.finc (F.Q_CNT_COMPLETIONS q)
  let x := s.que.queue q
  let (d, cs) := advance 65536 (s.qDone q) (x.completed ++ [c])
  let s := (s.setRun q { x with completed := cs }).fput (F.Q_STAT_DONE q) d
  if irq then s.irq q else s

/-- The counters from `a` up to TAIL. See log entry 51 (DEDUCED). -/
def State.countersFrom (s : State) (q a : Nat) : List Nat :=
  (List.range (ctrDiff (s.qTail q) a)).map fun i => (a + i) % 65536

/-- Q_STAT.OUTSTANDING follows the commands that have not replied. -/
def State.showOutstanding (s : State) (q : Nat) : State := s.fput (F.Q_STAT_OUTSTANDING q) (s.que.queue q).cmds.length

/-- FLAGS.IRQ of a descriptor that the engine has not fetched: read in a module ring; in host memory, which is outside the
model, a free value; of the one that halted the queue, as fetched. See log entry 51 (DESIGN CHOICE). -/
def State.ringIrq (s : State) (q c : Nat) : State × Bool :=
  let x := s.que.queue q
  let a := s.descAddr q c
  if !x.bad.isEmpty && s.fget (F.Q_HALT_DESC_COUNTER q) == c then (s, dIrq x.bad)
  else if isModule a then (s, dIrq (s.mreadN (a - 2 ^ 63) 64))
  else
    let (s, bs) := s.random 1
    (s, natBit (byteAt bs 0) 0)

/-- A descriptor that was never fetched is written back ABORTED. -/
def State.abortUnfetched (s : State) (q c : Nat) : State :=
  let (s, irq) := s.ringIrq q c
  s.writeBack q c wbAborted 0 0 irq

/-- The line unit that the burst of `m` holds is released as discarded (R384, R386). -/
def State.dropHeld (s : State) (m : Move) : State :=
  match m.burst with
  | some b => (match b.line with
    | some l => s.discardUnit l (b.data.getD [])
    | none => s)
  | none => s

/-- A draining queue: once neither a burst nor a flush read is in flight, what has not completed is written back
ABORTED in counter order, and with no command forwarded it is DISABLED (R376, R385). See log entry 51 (DEDUCED). -/
def State.drain (s : State) (q : Nat) : State :=
  if s.qState q != qDraining then s else
  let x := s.que.queue q
  if x.active.any fun m => m.burst.isSome || m.flush.isSome then s else
  let s := match x.active with
    | some m => s.writeBack q m.counter wbAborted m.spent m.done (dIrq m.desc)
    | none => s
  let s := x.fetched.foldl (fun (s : State) d => s.writeBack q d.1 wbAborted 0 0 (dIrq d.2)) s
  let s := (s.countersFrom q (s.qFetch q)).foldl (fun (s : State) c => s.abortUnfetched q c) s
  let s := s.fput (F.Q_CFG_FETCH q) (s.qTail q)
  let s := s.setRun q { s.que.queue q with active := none, fetched := [] }
  if (s.que.queue q).cmds.isEmpty then
    (s.fput (F.Q_STAT_STATE q) qDisabled).fput (F.Q_STAT_DONE q) (s.qTail q)
  else s

/-- The active descriptor of a MOVE queue completes. -/
def State.finishMove (s : State) (q status : Nat) (m : Move) : State :=
  let s := s.setRun q { s.que.queue q with active := none }
  (s.writeBack q m.counter status m.spent m.done (dIrq m.desc)).drain q

/-- The moved data are all written: LANDED in host memory waits for its flush read (R381). -/
def State.landed (s : State) (q status : Nat) (m : Move) : State :=
  if dLanded m.desc && !isModule (dAddrB m.desc) then
    (s.setRun q { s.que.queue q with active := some { m with flush := some status, retries := 0, retryAt := none } }).sendRead 0 (.flush q)
  else s.finishMove q status m

/-! ### Doorbells, rings, enable and disable (R368, R371, R376, R384) -/

/-- DOORBELL: a write of `v` to Q_DB.TAIL (R371). See log entry 13 (DEDUCED). See log entry 51 (DEDUCED). -/
def execDoorbell (q v : Nat) (r : Requester) (t : Nat) (s : State) : Host.Outcome State Fault Refusal :=
  let s := s.tick t
  let v := v % 65536
  if !s.mayDrive q r then .next s
  else if s.qState q == qDisabled then .next (s.fput (F.Q_DB_TAIL q) v)
  else if ctrDiff v (s.qDone q) ≤ s.qSize q && ctrDiff v (s.qTail q) ≤ s.qSize q then .next ((s.fput (F.Q_DB_TAIL q) v).drain q)
  else .next (s.halt q haltDoorbell v)

/-- RING_CONFIG_WRITE: Q_BASE_LO (0), Q_BASE_HI (1) or Q_CTRL.SIZE_LOG2 (2), only while the queue is DISABLED (R368).
See log entry 13 (DEDUCED). -/
def execRingConfigWrite (q which : Nat) (value : Word) (t : Nat) (s : State) : Host.Outcome State Fault Refusal :=
  let s := s.tick t
  if !s.mayDrive q .host || s.qState q != qDisabled then .next s
  else if which == 0 then .next (s.fput (F.Q_BASE_LO_BASE q) (wordBits value 31 12))
  else if which == 1 then .next (s.fput (F.Q_BASE_HI_BASE q) value.toNat)
  else if which == 2 then .next (s.fput (F.Q_CTRL_SIZE_LOG2 q) (wordBits value 3 0))
  else .next s

/-- A closed set changes TYPE or PRODUCER of queue `q`: it cannot be enabled until the take-over (R367). -/
def State.enableHeld (s : State) (q : Nat) : Bool :=
  match s.que.set with
  | some z => z.closedAt.isSome && z.recs.any fun r => byteAt r 0 == 1 && byteAt r 1 == q
      && (byteAt r 2 != s.qType q || byteAt r 5 != s.fget (F.Q_CFG_PRODUCER q))
  | none => false

/-- QUEUE_ENABLE: ENABLE written 1 on a DISABLED queue with SIZE_LOG2 4 to 12 (R371, R376). -/
def execQueueEnable (q : Nat) (r : Requester) (t : Nat) (s : State) : Host.Outcome State Fault Refusal :=
  let s := s.tick t
  let z := s.fget (F.Q_CTRL_SIZE_LOG2 q)
  if !s.mayDrive q r || s.qState q != qDisabled || s.enableHeld q || z < 4 || 12 < z then .next s else
  let s := (s.fput (F.Q_CTRL_ENABLE q) 1).fput (F.Q_STAT_STATE q) qRunning
  let s := (s.fput (F.Q_STAT_DONE q) (s.qTail q)).fput (F.Q_CFG_FETCH q) (s.qTail q)
  .next (s.setRun q queueReset)

/-- A queue that its producer disables repeats no halted burst or flush; a burst with a held line unit still completes
(R385). -/
def State.endHalted (s : State) (q : Nat) : State :=
  let x := s.que.queue q
  if s.qState q != qHalted || s.fget (F.Q_STAT_CAUSE q) != haltBus then s else
  match x.active with
  | some m =>
    if m.burst.any (·.line.isSome) then s
    else s.setRun q { x with active := some { m with burst := none, flush := none, retryAt := none } }
  | none => s

/-- QUEUE_DISABLE: ENABLE written 0 (R376). -/
def execQueueDisable (q : Nat) (r : Requester) (t : Nat) (s : State) : Host.Outcome State Fault Refusal :=
  let s := s.tick t
  if !s.mayDrive q r || s.qState q == qDisabled then .next s
  else .next ((((s.endHalted q).fput (F.Q_CTRL_ENABLE q) 0).fput (F.Q_STAT_STATE q) qDraining).drain q)

/-- A halted queue runs again, its halted burst or flush at once (R384). -/
def State.resume (s : State) (q : Nat) : State :=
  let s := s.fput (F.Q_STAT_STATE q) qRunning
  let x := s.que.queue q
  s.setRun q { x with
    bad := []
    active := x.active.map fun m => if m.retryAt.isSome then { m with retries := 0, retryAt := some s.now } else m }

/-- QUEUE_RESUME (R384). -/
def execQueueResume (q t : Nat) (s : State) : Host.Outcome State Fault Refusal :=
  let s := s.tick t
  if !s.mayDrive q .host || s.qState q != qHalted then .next s else .next (s.resume q)

/-- The halted descriptor is written back and skipped (R384). -/
def State.skip (s : State) (q : Nat) : State :=
  let cause := s.fget (F.Q_STAT_CAUSE q)
  let x := s.que.queue q
  if cause == haltBus then
    match x.active with
    | some m =>
      ((s.setRun q { x with active := none }).dropHeld m).writeBack q m.counter wbBusError m.spent m.done (dIrq m.desc)
    | none => s
  else if cause == haltOwn || cause == haltFormat then
    let c := s.fget (F.Q_HALT_DESC_COUNTER q)
    let s := s.setRun q { x with bad := [], fetched := x.fetched.filter (·.1 != c) }
    let s := if s.qFetch q == c then s.fput (F.Q_CFG_FETCH q) ((c + 1) % 65536) else s
    s.writeBack q c wbFormat 0 0 (dIrq x.bad)
  else s

/-- QUEUE_SKIP; after a doorbell error, which has no descriptor, it acts as RESUME (R384). -/
def execQueueSkip (q t : Nat) (s : State) : Host.Outcome State Fault Refusal :=
  let s := s.tick t
  if !s.mayDrive q .host || s.qState q != qHalted then .next s
  else if s.fget (F.Q_STAT_CAUSE q) == haltDoorbell then .next (s.resume q)
  else .next ((s.skip q).fput (F.Q_STAT_STATE q) qRunning)

/-- Q_STAT_IRQ_CLEAR and Q_STAT_HALT_EVT_CLEAR: a write of 1 clears the bit (R382). -/
def execQStatIrqClear (q : Nat) (s : State) : Host.Outcome State Fault Refusal :=
  if q < 16 then .next (s.clearField (F.Q_STAT_IRQ q)) else .next s

def execQStatHaltEvtClear (q : Nat) (s : State) : Host.Outcome State Fault Refusal :=
  if q < 16 then .next (s.clearField (F.Q_STAT_HALT_EVT q)) else .next s

/-! ### Fetching (R372) -/

/-- The queue halts at a descriptor that it cannot serve (R372). -/
def State.haltDesc (s : State) (q cause c : Nat) (d : List Byte) : State :=
  (s.setRun q { s.que.queue q with bad := d }).halt q cause c

/-- DESCRIPTOR_FETCH: the next module-owned descriptor, at most 4 beyond the active one. A host ring's bytes come with the
command; a module ring's are read from module memory. See log entry 51 (DEDUCED). -/
def execDescriptorFetch (q : Nat) (bytes : List Byte) (t : Nat) (s : State) : Host.Outcome State Fault Refusal :=
  let s := s.tick t
  let x := s.que.queue q
  let room := if x.active.isSome then 4 else 5
  let c := s.qFetch q
  if 16 ≤ q || !s.served q || s.qState q != qRunning || c == s.qTail q || room ≤ x.fetched.length then .next s else
  let a := s.descAddr q c
  let d := if isModule a then s.mreadN (a - 2 ^ 63) 64 else padTo 64 bytes
  if !dOwn d then .next (s.haltDesc q haltOwn c d)
  else if !s.descOk q d then .next (s.haltDesc q haltFormat c d)
  else .next ((s.setRun q { x with fetched := x.fetched ++ [(c, d)] }).fput (F.Q_CFG_FETCH q) ((c + 1) % 65536))

/-! ### Bursts (R377 to R383) -/

/-- A descriptor as its queue starts to serve it. -/
def moveOf (c : Nat) (d : List Byte) : Move :=
  { counter := c, desc := d, done := 0, packet := [], burst := none, retries := 0, spent := 0, limit := 0, retryAt := none,
    lastBurst := none, lastWrite := 0, flush := none }

/-- The descriptor that a queue serves, or starts to serve next; a COMMAND queue takes no packet while 16 are
outstanding (R374). -/
def State.nextMove (s : State) (q : Nat) : Option Move :=
  let x := s.que.queue q
  match x.active with
  | some m => some m
  | none =>
    if s.qType q == qCommand && 16 ≤ x.cmds.length then none
    else x.fetched.head?.map fun d => moveOf d.1 d.2

/-- Length of the next burst (R373, R374, R378). -/
def State.burstLen (s : State) (q : Nat) (m : Move) : Nat :=
  let d := m.desc
  if s.qType q == qCommand then min 4096 (dLenA d - m.done)
  else if dReq d then min ((s.unit (dLine d)).getD []).length (dLenA d - m.done)
  else min (dBurst d - wrapAddr (dAddrB d) (dDstWrap d) m.done % dBurst d) (dLenA d - m.done)

/-- The source of a burst is host memory. -/
def hostSource (d : List Byte) : Bool := !dReq d && !isModule (dAddrA d)

/-- The queue can start a burst of `m` now (R377). -/
def State.ready (s : State) (q : Nat) (m : Move) : Bool :=
  s.served q && s.qState q == qRunning && m.burst.isNone && m.flush.isNone && m.retryAt.isNone && decide (m.done < dLenA m.desc)
    && (if dReq m.desc then s.asserted (dLine m.desc) && !s.lineBusy (dLine m.desc) && (s.unit (dLine m.desc)).isSome else true)
    && (!hostSource m.desc || s.canRead (s.burstLen q m))

/-- The ready queues with their priorities. -/
def State.readyQueues (s : State) : List (Nat × Nat) :=
  (List.range 16).filterMap fun q => match s.nextMove q with
    | some m => if s.ready q m then some (q, s.fget (F.Q_CFG_PRIORITY q)) else none
    | none => none

/-- The choice of R377: the highest PRIORITY, round-robin after the queue served last at it. -/
def State.choose (s : State) : Option Nat :=
  let qs := s.readyQueues
  let top := qs.foldl (fun m x => max m x.2) 0
  let mine := (qs.filter (·.2 == top)).map (·.1)
  match assoc s.que.served top with
  | some l => match mine.find? (l < ·) with
    | some q => some q
    | none => mine.head?
  | none => mine.head?

/-- Another queue's active descriptor names the line of `m` (R379). -/
def State.lineTaken (s : State) (q : Nat) (m : Move) : Bool :=
  dReq m.desc && (List.range 16).any fun p => p != q && (match (s.que.queue p).active with
    | some n => dReq n.desc && dLine n.desc == dLine m.desc
    | none => false)

/-- The burst of `m` starts: its data at once from a line or module memory, else by an outbound read (R363, R379). -/
def State.beginBurst (s : State) (q : Nat) (m : Move) : State :=
  let d := m.desc
  let n := s.burstLen q m
  let put := fun (s : State) (b : Burst) =>
    (s.setRun q { s.que.queue q with active := some { m with burst := some b, retryAt := none } }).finc F.QUE_ENGINE_INFLIGHT
  if dReq d && s.qType q == qMove then
    (put s ⟨n, some (dLine d), s.unit (dLine d)⟩).setBusy (dLine d) true
  else if hostSource d then (put s ⟨n, none, none⟩).sendRead n (.burst q)
  else
    let (s, bs) := s.moveRead q (dAddrA d) (dSrcWrap d) m.done n
    put s ⟨n, none, some bs⟩

/-- The queue takes its next descriptor, unless that names a line already taken: then it halts at it, and fetches it again
once it resumes (R379, R384). The burst has the RETRY of its start (R367). -/
def State.serve (s : State) (q : Nat) (m : Move) : State :=
  let x := s.que.queue q
  let m := { m with limit := s.fget (F.Q_CFG_RETRY q) }
  if x.active.isSome then s.beginBurst q m
  else if s.lineTaken q m then
    ((s.setRun q { x with fetched := [] }).fput (F.Q_CFG_FETCH q) m.counter).haltDesc q haltFormat m.counter m.desc
  else (s.setRun q { x with fetched := x.fetched.drop 1, active := some m }).beginBurst q m

/-- BURST_START: the engine chooses among the ready queues and starts a burst, at most 8 in flight (R377). -/
def execBurstStart (t : Nat) (s : State) : Host.Outcome State Fault Refusal :=
  let s := s.tick t
  if 8 ≤ s.inflight then .next s else
  match s.choose with
  | none => .next s
  | some q =>
    let s := { s with que := { s.que with served := cellIns s.que.served (s.fget (F.Q_CFG_PRIORITY q)) q } }
    match s.nextMove q with
    | some m => .next (s.serve q m)
    | none => .next s

/-- One burst less in flight. -/
def State.burstOver (s : State) : State := s.fput F.QUE_ENGINE_INFLIGHT (s.inflight - 1)

/-- A bus error: the burst, or the flush, is repeated 10 µs later up to RETRY times, then the queue halts; a DRAINING
queue gives the descriptor up (R376, R383). -/
def State.busError (s : State) (q : Nat) (m : Move) : State :=
  let s := if m.burst.isSome then s.burstOver else s
  let keep := m.burst.map fun b => if b.line.isSome then b else { b with data := none }
  if m.retries < m.limit then
    let s := s.fsat (F.Q_CNT_RETRIES q)
    s.setRun q { s.que.queue q with
      active := some { m with burst := keep, retries := m.retries + 1, spent := min (m.spent + 1) 255, retryAt := some (s.now + 10000) } }
  else
    let s := s.setRun q { s.que.queue q with active := some { m with burst := keep, retryAt := some s.now } }
    if s.qState q == qDraining then
      ((s.setRun q { s.que.queue q with active := some { m with burst := none, flush := none } }).dropHeld m).drain q
    else s.halt q haltBus m.counter

/-- A whole packet has been read: it is handed to the scribe (R374). -/
def State.forward (s : State) (q : Nat) (m : Move) : State :=
  let x := s.que.queue q
  let s := s.setRun q { x with active := none, cmds := x.cmds ++ [(⟨m.counter, m.desc, m.packet, none⟩ : Forwarded)] }
  s.showOutstanding q

/-- A burst whose data have come ends: a packet grows, or the data are written (R374, R379, R381). -/
def State.endBurst (s : State) (q : Nat) (m : Move) (b : Burst) (data : List Byte) : State :=
  let s := s.burstOver
  let d := m.desc
  let n := data.length
  let m := { m with done := m.done + b.length, retries := 0, burst := none, lastBurst := some s.now }
  if s.qType q == qCommand then
    let m := { m with packet := m.packet ++ data }
    if dLenA d ≤ m.done then (s.forward q m).drain q
    else (s.setRun q { s.que.queue q with active := some m }).drain q
  else
    let k := m.done - b.length
    let s := s.putBytes q (dAddrB d) (dDstWrap d) k (data.take b.length)
    let m := { m with lastWrite := wrapAddr (dAddrB d) (dDstWrap d) (k + n - 4) }
    let s := match b.line with
      | some l => s.releaseUnit l data
      | none => s
    let s := s.setRun q { s.que.queue q with active := some m }
    if dLenA d ≤ m.done then s.landed q wbOk m else s.drain q

/-- BURST_DONE: the burst of queue `q` ends; it waits while its data or the host's credit have not come. An uncorrectable
ECC error of the module-memory read is a bus error (R363, R379, R383). -/
def execBurstDone (q : Nat) (ecc : Bool) (t : Nat) (s : State) : Host.Outcome State Fault Refusal :=
  let s := s.tick t
  match (s.que.queue q).active with
  | none => .next s
  | some m =>
    match m.burst with
    | none => .next s
    | some b =>
      if m.retryAt.isSome then .next s
      else if ecc && !hostSource m.desc then .next (s.busError q m)
      else match b.data with
        | none => .next s
        | some data =>
          if s.qType q == qMove && !s.canPut (dAddrB m.desc) b.length then .next s
          else .next (s.endBurst q m b data)

/-- OUTBOUND_COMPLETION: the completion of the read with `tag`; its tag and reservation are free, and its data are the
burst's, or it is a bus error (R359, R363). -/
def execOutboundCompletion (tag : Nat) (ok : Bool) (data : List Byte) (t : Nat) (s : State) : Host.Outcome State Fault Refusal :=
  let s := s.tick t
  match s.brg.reads.find? (·.tag == tag) with
  | none => .next s
  | some r =>
    match r.use with
    | .flush _ => .next s
    | .burst q =>
      let s := s.endRead tag
      match (s.que.queue q).active with
      | none => .next s
      | some m =>
        match m.burst with
        | none => .next s
        | some b =>
          if ok then
            .next (s.setRun q { s.que.queue q with active := some { m with burst := some { b with data := some (padTo b.length data) } } })
          else .next (s.busError q m)

/-- OUTBOUND_READ_TIMEOUT: a read not completed within 50 ms is a bus error of its move (R359, R383). -/
def execOutboundReadTimeout (tag t : Nat) (s : State) : Host.Outcome State Fault Refusal :=
  let s := s.tick t
  match s.brg.reads.find? (·.tag == tag) with
  | none => .next s
  | some r =>
    if s.now < r.since + 50000000 then .next s else
    let q := match r.use with
      | .burst q => q
      | .flush q => q
    let s := s.endRead tag
    match (s.que.queue q).active with
    | some m => .next (s.busError q m)
    | none => .next s

/-- FLUSH_READ_RETURN: the descriptor completes, or the flush is a bus error (R381). -/
def execFlushReadReturn (q : Nat) (ok : Bool) (t : Nat) (s : State) : Host.Outcome State Fault Refusal :=
  let s := s.tick t
  match (s.que.queue q).active, s.readFor (.flush q) with
  | some m, some r =>
    match m.flush with
    | some status =>
      let s := s.endRead r.tag
      if ok then .next (s.finishMove q status m) else .next (s.busError q m)
    | none => .next s
  | _, _ => .next s

/-- BURST_RETRY: 10 µs after a bus error the failed burst, or the flush alone, is repeated (R381, R383). -/
def execBurstRetry (q t : Nat) (s : State) : Host.Outcome State Fault Refusal :=
  let s := s.tick t
  match (s.que.queue q).active with
  | none => .next s
  | some m =>
    match m.retryAt with
    | none => .next s
    | some u =>
      if s.now < u || !(s.qState q == qRunning || s.qState q == qDraining) then .next s
      else if m.flush.isSome then
        .next ((s.setRun q { s.que.queue q with active := some { m with retryAt := none } }).sendRead 0 (.flush q))
      else match m.burst with
        | some b =>
          if b.line.isSome then
            .next ((s.setRun q { s.que.queue q with active := some { m with retryAt := none } }).finc F.QUE_ENGINE_INFLIGHT)
          else .next (s.beginBurst q { m with burst := none })
        | none => .next s

/-- REQUEST_IDLE_TIMEOUT: IDLE_US after its last burst a request-driven descriptor completes with STATUS IDLE (R380). -/
def execRequestIdleTimeout (q t : Nat) (s : State) : Host.Outcome State Fault Refusal :=
  let s := s.tick t
  match (s.que.queue q).active with
  | none => .next s
  | some m =>
    match m.lastBurst with
    | some u =>
      if dReq m.desc && m.burst.isNone && m.flush.isNone && dIdle m.desc != 0 && u + dIdle m.desc ≤ s.now && s.qState q == qRunning then
        .next (s.landed q wbIdle m)
      else .next s
    | none => .next s

/-! ### Resets (R346, R386) -/

/-- Host-produced queues go to DISABLED at once, without write-back; held units are discarded; forwarded commands run on
and their replies are discarded (R386). -/
def State.dropQueue (s : State) (q : Nat) : State :=
  if s.qScribe q then s else
  let x := s.que.queue q
  let s := match x.active with
    | some m => (if m.burst.isSome && m.retryAt.isNone then s.burstOver else s).dropHeld m
    | none => s
  let s := s.setRun q queueReset
  let s := ((s.fput (F.Q_CTRL_ENABLE q) 0).fput (F.Q_STAT_STATE q) qDisabled).showOutstanding q
  (s.fput (F.Q_STAT_DONE q) (s.qTail q)).fput (F.Q_CFG_FETCH q) (s.qTail q)

/-- A reset of R346, or PD_HOST switching off: the queue machinery and the bridge. -/
def State.hostReset (s : State) (flr : Bool) : State := ((List.range 16).foldl State.dropQueue s).bridgeReset flr

/-- PCIE_RESET: a fundamental reset, a hot reset or a Function Level Reset (R346, R386). -/
def execPcieReset (flr : Bool) (t : Nat) (s : State) : Host.Outcome State Fault Refusal :=
  let s := s.tick t
  if s.powered pdHost then .next (s.hostReset flr) else .next s

/-! ### The queue configuration set (R367) -/

def opQueueConfig : Nat := 0x0105

/-- A QUEUE or REQ_BIND record holds values in range (R366, R367). -/
def queRecOk (r : List Byte) : Bool :=
  match byteAt r 0 with
  | 1 => decide (byteAt r 1 < 16) && decide (1 ≤ byteAt r 2) && decide (byteAt r 2 ≤ 2) && decide (byteAt r 3 ≤ 7)
      && decide (byteAt r 4 ≤ 7) && decide (byteAt r 5 ≤ 1) && (byteAt r 5 == 0 || decide (14 ≤ byteAt r 1)) && allZero (slice r 6 2)
  | 2 => decide (byteAt r 1 < 16) && (leAt r 2 2 == 0xFFFF || decide (leAt r 2 2 < 16384)) && allZero (slice r 4 4)
  | _ => false

/-- The records of a packet. -/
def queRecs (c : Cmd) : List (List Byte) := chunks 8 (leAt c.params 2 2) (c.params.drop 8)

/-- The head of the packet: at most 64 records, DISCARD alone and empty (R367, R405). -/
def queHeadOk (c : Cmd) : Bool :=
  let f := byteAt c.params 0
  decide (f < 4) && byteAt c.params 1 == 0 && allZero (slice c.params 4 4) && decide (leAt c.params 2 2 ≤ 64)
    && !(natBit f 1 && (natBit f 0 || leAt c.params 2 2 != 0))

/-- QUEUE_CONFIG's own checks, as for NET_CONFIG (R283, R367). -/
def queOwn (c : Cmd) (s : State) : Verdict :=
  refuseIf (!queHeadOk c) stBadParam noIndex <|
  match (queRecs c).findIdx? (fun r => !queRecOk r) with
  | some i => .refuse stBadParam i
  | none => refuseIf (!natBit (byteAt c.params 0) 1 && (match s.que.set with
      | some z => z.closedAt.isSome
      | none => false)) stBusy noIndex .accept

/-- The entry that a line will be bound to after the set; none for unbound. -/
def State.bindAfter (s : State) (recs : List (List Byte)) (l : Nat) : Option Nat :=
  match (recs.filter fun r => byteAt r 0 == 2 && byteAt r 1 == l).getLast? with
  | some r => if leAt r 2 2 == 0xFFFF then none else some (leAt r 2 2)
  | none => if s.flag (F.QUE_BIND_BOUND l) then some (s.fget (F.QUE_BIND_ENTRY l)) else none

/-- The checks of a LAST packet (R367). -/
def State.queSetOk (s : State) (recs : List (List Byte)) : Bool :=
  let changes := recs.all fun r => byteAt r 0 != 1 || s.qState (byteAt r 1) == qDisabled
    || (byteAt r 2 == s.qType (byteAt r 1) && byteAt r 5 == s.fget (F.Q_CFG_PRODUCER (byteAt r 1)))
  let known := recs.all fun r => byteAt r 0 != 2 || leAt r 2 2 == 0xFFFF || (match tgeFind s.tge.entries (leAt r 2 2) with
    | some e => teKind e.rec_ == tkSub || teKind e.rec_ == tkInt
    | none => false)
  let binds := (List.range 16).filterMap (s.bindAfter recs)
  changes && known && binds.eraseDups.length == binds.length

/-- The set is dropped; a LAST packet that waits is answered ABORTED. -/
def State.dropQueSet (s : State) : State :=
  match s.que.set with
  | none => s
  | some z =>
    let s := { s with que := { s.que with set := none } }
    match z.last with
    | some c => s.replyErr c opQueueConfig stAborted noIndex
    | none => s

/-- An accepted packet joins the set, and with LAST closes it. -/
def queEffect (c : Cmd) (s : State) (_ : Nat) : State :=
  let f := byteAt c.params 0
  if natBit f 1 then (s.dropQueSet).replyOk c opQueueConfig else
  let z := s.que.set.getD ⟨[], none, none, s.now⟩
  let z : QueSet := { z with recs := z.recs ++ queRecs c, touchedAt := s.now }
  if !natBit f 0 then ({ s with que := { s.que with set := some z } }).replyOk c opQueueConfig
  else if s.queSetOk z.recs then { s with que := { s.que with set := some { z with last := some c, closedAt := some s.now } } }
  else ({ s with que := { s.que with set := none } }).replyErr c opQueueConfig stBadParam noIndex

/-- QUEUE_CONFIG (R367). -/
def execQueueConfig (c : Cmd) (t : Nat) (s : State) : Host.Outcome State Fault Refusal :=
  .next (s.runLane c t opQueueConfig lvlOperate
    (decide (8 ≤ c.params.length) && c.params.length == 8 + 8 * leAt c.params 2 2) (queOwn c) (queEffect c))

/-- QUEUE_CONFIG_DISCARD: the packet that carries DISCARD (R367). -/
def execQueueConfigDiscard (c : Cmd) (t : Nat) (s : State) : Host.Outcome State Fault Refusal :=
  .next (s.runLane c t opQueueConfig lvlOperate
    (decide (8 ≤ c.params.length) && c.params.length == 8 + 8 * leAt c.params 2 2) (queOwn c) (queEffect c))

/-- QUEUE_CONFIG_SET_TIMEOUT: an open set that receives no packet for 10 s is dropped (R283, R367). -/
def execQueueConfigSetTimeout (t : Nat) (s : State) : Host.Outcome State Fault Refusal :=
  let s := s.tick t
  match s.que.set with
  | some z => if z.closedAt.isNone && z.touchedAt + 10000000000 ≤ s.now then .next s.dropQueSet else .next s
  | none => .next s

/-- One record takes effect: a queue's attributes, or a line's binding, which drops the unit of the old entry (R367,
R385). -/
def State.applyQueRec (s : State) (r : List Byte) : State :=
  let n := byteAt r 1
  if byteAt r 0 == 1 then
    let s := (s.fput (F.Q_CFG_TYPE n) (byteAt r 2)).fput (F.Q_CFG_PRIORITY n) (byteAt r 3)
    (s.fput (F.Q_CFG_RETRY n) (byteAt r 4)).fput (F.Q_CFG_PRODUCER n) (byteAt r 5)
  else
    let s := s.withdraw n
    if leAt r 2 2 == 0xFFFF then (s.fput (F.QUE_BIND_BOUND n) 0).fput (F.QUE_BIND_ENTRY n) 0
    else (s.fput (F.QUE_BIND_BOUND n) 1).fput (F.QUE_BIND_ENTRY n) (leAt r 2 2)

/-- The closed set is due at instant `t`. -/
def State.queDue (s : State) (t : Nat) : Bool :=
  match s.que.set with
  | some z => (match z.closedAt with
    | some a => decide (a + 20000 ≤ t)
    | none => false)
  | none => false

/-- The set is taken over at an output commit, its LAST packet answered OK, the generation advanced (R17, R367). -/
def State.takeQue (s : State) : State :=
  match s.que.set with
  | none => s
  | some z =>
    let s := { s with que := { s.que with set := none } }
    let s := (z.recs.foldl State.applyQueRec s).advanceGen
    match z.last with
    | some c => s.replyOk c opQueueConfig
    | none => s

end Sys2Proof.Machine
end

