-- ==== Sys2Proof/Machine/Time.lean ====
section
/-! DEFINITION. Network time (R323 to R343): measurements, the servo's states, steps, PPS. Times of PTP are in units of
2^−16 ns. -/

namespace Sys2Proof.Machine

/-! ### Measurements (R332, R334 to R336) -/

/-- Nanoseconds of a value in units of 2^−16 ns. -/
def nsOf16 (x : Int) : Int := x / 65536

/-- A time of a message, with 48 bits of seconds, in units of 2^−16 ns: one second, and the end of the range (R328). -/
def second16 : Nat := 1000000000 * 65536

/-- The seconds nearest to `own` whose low 48 bits are `sec` (R328). -/
def nearSeconds (own sec : Nat) : Nat :=
  let b := own / 2 ^ 48 * 2 ^ 48 + sec
  if own + 2 ^ 47 < b ∧ 2 ^ 48 ≤ b then b - 2 ^ 48 else if b + 2 ^ 47 < own then b + 2 ^ 48 else b

/-- A received time on the module's scale: the upper 16 bits of its seconds are those that bring it nearest to the
module's own time (R328). -/
def State.ptpTime (s : State) (t : Nat) : Int :=
  (nearSeconds (secOf s.now) (t / second16 % 2 ^ 48) * second16 + t % second16 : Nat)

/-- Ingress and egress stamps at the medium, from the MAC's stamp in units of 2^−16 ns: with ING_LAT or EGR_LAT as
they were in force then (rx and tx of R332; R343). -/
def State.rx (s : State) (p mac : Nat) : Int := (mac : Int) - (s.configAt (mac * 10 / 65536)).ingLat p
def State.tx (s : State) (p mac : Nat) : Int := (mac : Int) + (s.configAt (mac * 10 / 65536)).egrLat p

/-- The slew limit in ppb (R324, R330). -/
def State.slewPpb (s : State) : Nat := s.time.field 7 * 1000

/-- The servo's new rate correction, from which on the scale advances by the INC it gives: a free value within the
slew limit (R334, DESIGN CHOICE, log entry 4). See log entry 48 (DEDUCED). -/
def State.servo (s : State) : State :=
  let lim := s.slewPpb
  let r : Int := (s.freeWord.toNat % (2 * lim + 1) : Nat) - (lim : Int)
  let s := { s with time := { s.time with rateFrom := s.now, acc := s.accAt s.now } }
  (s.fputInt F.TIME_RATE_PPB r).spent

/-- The last 8 measurements agree: they lie within 10 µs of each other (R336). -/
def agree (os : List Int) : Bool :=
  os.length == 8 && (os.all fun x => os.all fun y => decide (x - y ≤ 10000 * 65536))

/-- Δ of R336: minus the mean of 8 measurements, rounded to 1 ns. See log entry 48 (DEDUCED). -/
def stepDelta (os : List Int) : Int := -((os.foldl (· + ·) 0 + 4 * 65536) / (8 * 65536))

/-- A step is decided (R336, R337). -/
def State.decideStep (s : State) (k : StepKind) (delta : Int) : State :=
  ({ s with time := { s.time with step := some ⟨k, delta, s.now⟩ } }).fput F.TIME_STATE_STEP_PENDING 1

/-- The last 8 measurements decide the first step in FREE, or the step of a TIME_RESTEP (R336, R340). -/
def State.maybeStep (s : State) : State :=
  if s.time.step.isSome || !agree s.time.offsets then s
  else if s.tmState == tmFree then s.decideStep .first (stepDelta s.time.offsets)
  else match s.time.restep with
    | some (c, _) => s.decideStep (.restep c) (stepDelta s.time.offsets)
    | none => s

/-- 1 ms, 100 µs and 1 µs in units of 2^−16 ns. -/
def off1ms : Int := 1000000 * 65536
def off100us : Int := 100000 * 65536
def off1us : Int := 1000 * 65536

/-- The state after a measurement: LOCKED resumed from HOLDOVER, FAULT after 1 s beyond 1 ms, LOCKED after 1 s within
100 µs; PHASE_OK in LOCKED (R335). -/
def State.judge (s : State) (off : Int) : State :=
  let a : Int := off.natAbs
  let s := if s.tmState == tmHoldover then s.putTime tmLocked else s
  let x := s.time
  let far := if decide (off1ms < a) then some (x.farSince.getD s.mono) else none
  let near := if decide (a ≤ off100us) then some (x.nearSince.getD s.mono) else none
  let s := { s with time := { x with farSince := far, nearSince := near } }
  let long := fun (o : Option Nat) => match o with
    | some u => decide (u + 1000000000 ≤ s.mono)
    | none => false
  let s := if s.tmState == tmLocked && long far then s.putTime tmFault
    else if s.tmState == tmFault && long near then s.putTime tmLocked else s
  if s.tmState == tmLocked then s.fput F.TIME_STATE_PHASE_OK (bit (decide (a ≤ off1us))) else s

/-- One offset measurement from a master (R334 to R336, TIME_OFFSET). See log entry 48 (DEDUCED). -/
def State.measure (s : State) (master : Nat) (off : Int) : State :=
  let s := s.fputInt F.TIME_OFFSET_NS (nsOf16 off)
  let old := if s.time.source == master then s.time.offsets else []
  let s := { s with time := { s.time with offsets := (old ++ [off]).drop (old.length - 7), source := master } }
  let s := if s.tmState == tmFree then s else (s.judge off).servo
  s.maybeStep

/-! ### The module's own messages (R295, R326, R328) -/

/-- A time as a PTP message carries it: the low 48 bits of the seconds, then the nanoseconds (R328). -/
def ptpStamp (ns : Nat) : List Byte := beBytes 6 (secOf ns % 2 ^ 48) ++ beBytes 4 (nsOf ns)

/-- The module's clock identity. See log entry 48 (PRESUMED). -/
def clockIdentity : List Byte := beBytes 3 (moduleMac / 2 ^ 24) ++ [0xFF, 0xFE] ++ beBytes 3 (moduleMac % 2 ^ 24)

/-- Length of a message of a kind. See log entry 48 (PRESUMED). -/
def ptpLength (kind : Nat) : Nat := if kind == 11 then 64 else if kind == 2 || kind == 3 || kind == 9 then 54 else 44

/-- controlField and logMessageInterval of a message. See log entry 48 (PRESUMED). -/
def State.ptpTail (s : State) (kind : Nat) : List Byte :=
  let rec_ := s.time.record
  match kind with
  | 0 => [0, rec_.getD 8 0]
  | 1 => [1, 0x7F]
  | 8 => [2, rec_.getD 8 0]
  | 9 => [3, rec_.getD 10 0]
  | 11 => [5, rec_.getD 9 0]
  | _ => [5, 0x7F]

/-- A message that the module sends at port `p`: the header, a time, and of Announce what the PTP record gives; the
bytes behind that this manual does not give are free. See log entry 48 (PRESUMED). -/
def State.ptpMessage (s : State) (p kind seq ns : Nat) : List Byte :=
  let rec_ := s.time.record
  let twoStep := kind == 0 && natBit (s.time.field 3) 1
  let head := [BitVec.ofNat 8 kind, 0x12] ++ beBytes 2 (ptpLength kind) ++ [rec_.getD 2 0, 0, if twoStep then 2 else 0] ++ zeros 13
    ++ clockIdentity ++ beBytes 2 (p + 1) ++ beBytes 2 seq ++ s.ptpTail kind ++ ptpStamp ns
  let b := if kind == 11 then head ++ freeBytes s.fresh 3 ++ [rec_.getD 4 0, rec_.getD 6 0] ++ freeBytes (s.fresh + 3) 3 ++ [rec_.getD 5 0]
    else head
  b ++ freeBytes (s.fresh + 6) (ptpLength kind - b.length)

/-- The frame of a message without tag and FCS, in the mapping in force (R326, R329): peer-delay messages go to the
peer-delay address. See log entry 48 (PRESUMED). -/
def State.ptpFrame (s : State) (kind : Nat) (msg : List Byte) : List Byte :=
  let peer := kind == 2 || kind == 3
  if natBit (s.time.field 3) 2 then
    let ip : List Byte := if peer then [224, 0, 0, 107] else [224, 0, 1, 129]
    let port := if kind < 8 then 319 else 320
    beBytes 6 (if peer then 0x01005E00006B else 0x01005E000181) ++ beBytes 6 moduleMac ++ [0x08, 0x00]
      ++ ipHeader 0 (28 + msg.length) 0 0 1 17 (freeBytes (s.fresh + 32) 4) ip
      ++ beBytes 2 port ++ beBytes 2 port ++ beBytes 2 (8 + msg.length) ++ [0, 0] ++ msg
  else beBytes 6 (if peer then 0x0180C200000E else 0x011B19000000) ++ beBytes 6 moduleMac ++ [0x88, 0xF7] ++ msg

/-- The time unit hands a message for port `p` to port 6, whose reserve its cells may come from (R295, R296).
See log entry 48 (PRESUMED). -/
def State.ptpSend (s : State) (p kind seq ns : Nat) : State :=
  let core := s.ptpFrame kind (s.ptpMessage p kind seq ns)
  let vid := s.fget (F.PORT_STAT_PVID 6)
  let x := s.decideIn 6 core (max 64 (core.length + 4)) vid (s.fget (F.PORT_STAT_PCP 6)) (stampOf (10 * s.now))
  let x := { x with dests := if s.mayLeave 6 p vid then [p] else [], flooded := false }
  let s := { s with fresh := s.fresh + 64 }
  let s := s.setPtp p { s.time.port p with sent := some (kind, seq) }
  (s.fromSix x false).1

/-- The port takes part in PTP (R330). -/
def State.ptpOn (s : State) (p : Nat) : Bool := decide (p ≤ 5) && natBit (s.time.port p).mode 0 && s.time.field 1 != 0

/-- The port follows the selected master. -/
def State.isSlavePort (s : State) (p : Nat) : Bool := s.ptpOn p && s.fget F.TIME_STATE_SLAVE_PORT == p

/-- P2P is in force at the port. -/
def PtpPort.p2p (x : PtpPort) : Bool := natBit x.mode 1

/-- A Sync with its t1 yields an offset on a P2P port whose link delay is known: p2p(…) of R332.
See log entry 48 (DEDUCED). -/
def State.syncMeasure (s : State) (p : Nat) : State :=
  let x := s.time.port p
  match x.syncT1, x.link with
  | some t1, some link => if x.p2p then s.measure x.master (x.syncT2 - t1 - x.syncCorr - link - s.asym p) else s
  | _, _ => s

/-- PTP_SYNC: a Sync from the selected master with its MAC ingress stamp; a two-step one awaits its Follow_Up (R331,
R332). -/
def execPtpSync (p master seq : Nat) (mac t1 : Nat) (corr : Int) (twoStep : Bool) (t : Nat) (s : State) :
    Host.Outcome State Fault Refusal :=
  let s := s.upTo t
  if !s.isSlavePort p then .next s else
  let x := s.time.port p
  let s := { s with time := { s.time with syncAt := s.mono } }
  let s := s.setPtp p { x with
    syncSeq := seq, syncT1 := if twoStep then none else some (s.ptpTime t1), syncT2 := s.rx p mac, syncCorr := corr,
    syncWait := twoStep, master := master }
  .next (if twoStep then s else s.syncMeasure p)

/-- PTP_FOLLOW_UP: t1 of a two-step Sync, and its correction (R332). -/
def execPtpFollowUp (p seq : Nat) (t1 : Nat) (corr : Int) (t : Nat) (s : State) : Host.Outcome State Fault Refusal :=
  let s := s.upTo t
  let x := s.time.port p
  if !s.isSlavePort p || !x.syncWait || x.syncSeq != seq then .next s else
  let s := s.setPtp p { x with syncT1 := some (s.ptpTime t1), syncCorr := x.syncCorr + corr, syncWait := false }
  .next (s.syncMeasure p)

/-- PTP_DELAY_REQ: sent, its egress stamp gives t3; received by a master port, it is answered (R332). -/
def execPtpDelayReq (p seq : Nat) (received : Bool) (mac : Nat) (t : Nat) (s : State) : Host.Outcome State Fault Refusal :=
  let s := s.upTo t
  if !s.ptpOn p then .next s else
  let x := s.time.port p
  if received then
    if s.fget (F.PTP_PORT_STAT_PORT_STATE p) == psMaster then .next (s.ptpSend p 9 seq (s.rx p mac / 65536).toNat) else .next s
  else .next (s.setPtp p { x with reqSeq := seq, reqT3 := some (s.tx p mac), sent := some (1, seq) })

/-- PTP_DELAY_RESP: t4 completes the E2E measurement: mean path delay and offset, e2e(…) of R332. -/
def execPtpDelayResp (p seq : Nat) (t4 : Nat) (corr : Int) (t : Nat) (s : State) : Host.Outcome State Fault Refusal :=
  let s := s.upTo t
  let x := s.time.port p
  if !s.isSlavePort p || x.p2p || x.reqSeq != seq then .next s else
  match x.reqT3, x.syncT1 with
  | some t3, some t1 =>
    let fwd := x.syncT2 - t1 - x.syncCorr
    let mpd := (fwd + (s.ptpTime t4 - t3 - corr)) / 2
    let s := s.fputInt (F.PTP_PATH_DELAY_NS p) (nsOf16 mpd)
    let s := s.setPtp p { x with reqT3 := none }
    .next (s.measure x.master (fwd - mpd - s.asym p))
  | _, _ => .next s

/-- PTP_PDELAY_REQ: sent, its egress stamp gives t1; received, it is answered (R332). -/
def execPtpPdelayReq (p seq : Nat) (received : Bool) (mac : Nat) (t : Nat) (s : State) : Host.Outcome State Fault Refusal :=
  let s := s.upTo t
  if !s.ptpOn p then .next s else
  let x := s.time.port p
  if !x.p2p then .next s
  else if received then .next (s.ptpSend p 3 seq (s.rx p mac / 65536).toNat)
  else .next (s.setPtp p { x with pdSeq := seq, pdT1 := some (s.tx p mac), sent := some (2, seq) })

/-- The link delay of R332 from t1 to t4 at a port. -/
def State.linkDelay (s : State) (p : Nat) (t1 t2 t3 t4 : Int) : State :=
  let d := (t4 - t1 - (t3 - t2)) / 2
  (s.setPtp p { s.time.port p with link := some d, pdT1 := none, pdWait := false }).fputInt (F.PTP_PATH_DELAY_NS p) (nsOf16 d)

/-- PTP_PDELAY_RESP: a response with its MAC ingress stamp and t2, and with t3 unless its Follow_Up brings it (R332). -/
def execPtpPdelayResp (p seq : Nat) (followUp : Bool) (mac t2 : Nat) (t3 : Option Nat) (t : Nat) (s : State) :
    Host.Outcome State Fault Refusal :=
  let s := s.upTo t
  let x := s.time.port p
  if !s.ptpOn p || !x.p2p || x.pdSeq != seq then .next s else
  match x.pdT1, followUp, t3 with
  | some t1, false, some c => .next (s.linkDelay p t1 (s.ptpTime t2) (s.ptpTime c) (s.rx p mac))
  | some _, false, none => .next (s.setPtp p { x with pdT4 := s.rx p mac, pdT2 := s.ptpTime t2, pdWait := true })
  | some t1, true, some c => if x.pdWait then .next (s.linkDelay p t1 x.pdT2 (s.ptpTime c) x.pdT4) else .next s
  | _, _, _ => .next s

/-- PTP_ANNOUNCE: the BMCA gives the participating ports their states; external port configuration keeps them (R326,
DESIGN CHOICE, log entry 12). -/
def execPtpAnnounce (p : Nat) (states : List Nat) (t : Nat) (s : State) : Host.Outcome State Fault Refusal :=
  let s := s.upTo t
  if !s.ptpOn p || s.time.extCfg then .next s else
  let s := (List.range 6).foldl (fun (s : State) q =>
    if s.ptpOn q then s.fput (F.PTP_PORT_STAT_PORT_STATE q) (min 9 (states.getD q psListening)) else s) s
  match (List.range 6).find? fun q => s.fget (F.PTP_PORT_STAT_PORT_STATE q) == psSlave with
  | some q => .next (s.selectMaster q)
  | none => .next (s.selectMaster noPort)

/-- PTP_IGNORED_MESSAGE: a Management or Signaling message is discarded and counted (R327). -/
def execPtpIgnoredMessage (p t : Nat) (s : State) : Host.Outcome State Fault Refusal :=
  let s := s.upTo t
  if 5 < p then .next s else .next (s.fsat (F.PTP_PORT_STAT_IGNORED p))

/-- The port sends a message of this kind: Sync 0 and Announce 11 as master, the Follow_Up 8 of a two-step Sync just sent,
Delay_Req 1 as slave with E2E, Pdelay_Req 2 with P2P (R326). -/
def State.maySend (s : State) (p kind : Nat) : Bool :=
  let st := s.fget (F.PTP_PORT_STAT_PORT_STATE p)
  let p2p := (s.time.port p).p2p
  s.ptpOn p && (if kind == 0 || kind == 11 then st == psMaster && !natBit (s.time.field 3) 0
    else if kind == 8 then st == psMaster && natBit (s.time.field 3) 1 && ((s.time.port p).sent.map (·.1)) == some 0
    else if kind == 1 then st == psSlave && !p2p
    else kind == 2 && p2p)

/-- PTP_MESSAGE_SEND: at its message interval the port sends its own message (R326, R330).
See log entry 48 (DEDUCED). -/
def execPtpMessageSend (p kind t : Nat) (s : State) : Host.Outcome State Fault Refusal :=
  let s := s.upTo t
  if !s.maySend p kind then .next s else
  let n := match (s.time.port p).sent with
    | some (_, n) => if kind == 8 then n else (n + 1) % 65536
    | none => 0
  .next (s.ptpSend p kind n s.now)

/-- 2^log seconds in ns, for a logarithm from −7 to 5. -/
def logNs (v : Int) : Nat := 1000000000 * 2 ^ (v + 7).toNat / 128

/-- PTP_MASTER_LOST: no Sync for ANN_TIMEOUT announce intervals (R335). -/
def execPtpMasterLost (t : Nat) (s : State) : Host.Outcome State Fault Refusal :=
  let s := s.upTo t
  let span := s.time.field 11 * logNs (sByte s.time.record 9)
  if s.fget F.TIME_STATE_SLAVE_PORT == noPort || s.mono < s.time.syncAt + span then .next s
  else
    let p := s.fget F.TIME_STATE_SLAVE_PORT
    let s := if s.time.extCfg then s else s.fput (F.PTP_PORT_STAT_PORT_STATE p) psListening
    .next ((s.masterLost).showGrandmaster)

/-! ### Steps (R336 to R341, R343) -/

/-- An instant moved by Δ. -/
def moved (d : Int) (x : Nat) : Nat := ((x : Int) + d).toNat

/-- An instant that may be absent, moved. -/
def movedOpt (d : Int) (x : Option Nat) : Option Nat := x.map (moved d)

/-- A timer record with START or LAST moved by Δ (R337): TON, TOF and TP, and RAMP. -/
def timerMoved (d : Int) (i : InstRec) (r : List Byte) : List Byte :=
  if i.block == 1 || i.block == 2 || i.block == 3 || i.block == 12 then recSetInt r 8 (recInt r 8 + d) else r

/-- One lane's timer records (R337). -/
def State.moveTimers (s : State) (f : Folio) (d : Int) (l : Lane) : State :=
  let x := s.lane l
  let s := s.setLane l { x with mem := f.insts.foldl (fun m i => wrInst l f m i (timerMoved d i (rdInst l f m i))) x.mem }
  f.insts.foldl (fun s i => s.noteRewrite l segFbs i.offset (blockSize i.block)) s

/-- A channel's intervals do not follow the step (R338): its stored instants move with the scale. -/
def chanMoved (d : Int) (c : FcChan) : FcChan :=
  { c with
    pinAt := moved d c.pinAt, run := movedOpt d c.run, wetAt := movedOpt d c.wetAt, hold := movedOpt d c.hold,
    offAt := moved d c.offAt, highTick := movedOpt d c.highTick, lowTick := movedOpt d c.lowTick, due := movedOpt d c.due, repeatAt := movedOpt d c.repeatAt, retryAt := moved d c.retryAt,
    retrying := movedOpt d c.retrying, test := c.test.map fun x => { x with start := moved d x.start } }

/-- A bank's intervals do not follow the step (R338). -/
def bankMoved (d : Int) (b : FcBank) : FcBank :=
  { b with
    clearSince := movedOpt d b.clearSince, restoreSince := movedOpt d b.restoreSince, restoredAt := moved d b.restoredAt,
    validHold := movedOpt d b.validHold }

/-- A field controller's timeouts do not follow the step (R338), and its time does so only with the next good frame
(R215). See log entry 49 (DEDUCED). -/
def fcMoved (d : Int) (x : FcState) : FcState :=
  { x with
    chans := x.chans.map (chanMoved d), banks := x.banks.map (bankMoved d), lastApply := movedOpt d x.lastApply,
    evalFrom := moved d x.evalFrom, skew := x.skew - d }

/-- A task's bookkeeping at a step: the previous release moves by Δ, so that DTIME is the difference less Δ; a pending
release moves to the first release instant if that is later (R337). See log entry 49 (DEDUCED). -/
def bookMoved (d : Int) (first : Nat) (b : TaskBook) : TaskBook :=
  { b with
    lastRelease := movedOpt d b.lastRelease
    pend := b.pend.map fun p => { p with instant := max first p.instant } }

/-- A folio seam, a take-over or a table change falls, or has fallen, at instant `t` (R343). -/
def State.changeAt (s : State) (t : Nat) : Bool :=
  let grid := s.modeNow != .run || s.folio.running.isNone
  s.fabric.genAt == some t
    || (match s.folio.pendingSwitch with
      | some w => w.announced == some t
      | none => false)
    || (grid && (s.netDue t || s.queDue t || !(s.tgeDue t).isEmpty || (match s.fio.set with
      | some z => z.complete
      | none => false)))

/-- `t` qualifies as the step point of a step decided at `a` (R337, R343). -/
def State.stepPoint (s : State) (a t : Nat) : Bool :=
  t % gridNs == 0 && decide (a + 500000 ≤ t) && !s.changeAt t
    && (match s.modeNow, s.folio.running with
      | .run, some f => !s.anyUncommitted && gapAtLeast t 20000 (s.firstRelease f t)
      | _, _ => true)

/-- TIME opcodes (R404). -/
def opTimeSet : Nat := 0x0601
def opTimeRestep : Nat := 0x0602

/-- The pending step is over. -/
def State.endStep (s : State) : State :=
  ({ s with time := { s.time with step := none, restep := none, offsets := [] } }).fput F.TIME_STATE_STEP_PENDING 0

/-- The telegram table's own instants follow the scale, so that what a change at one of them left behind stays ordered
against frames and send instants (R310, R311). See log entry 49 (DEDUCED). -/
def tgeMoved (d : Int) (x : TgeState) : TgeState :=
  let e := fun (e : TgeEntry) => { e with addedAt := moved d e.addedAt }
  { x with
    changeAt := moved d x.changeAt, entries := x.entries.map e, gone := x.gone.map e
    due := x.due.map fun y => { y with at_ := moved d y.at_ }
    arrivals := x.arrivals.map fun y => { y with at_ := moved d y.at_ } }

/-- The same of the network configuration and the queues (R289, R290). See log entry 49 (DEDUCED). -/
def netMoved (d : Int) (x : NetState) : NetState :=
  { x with
    before := x.before.map fun b => { b with until_ := moved d b.until_ }
    quiet := x.quiet.map fun y => (y.1, moved d y.2) }

/-- The scale changes from P, which is now, to P + Δ (R337). See log entry 49 (DEDUCED). -/
def State.moveScale (s : State) (d : Int) : State :=
  let now := moved d s.now
  let g := gridAtOrAfter gridNs (now + 50000)
  let s := match s.folio.running with
    | some f => (s.voters ++ allLanes.filter fun l => s.laneSt l == LaneSt.transfer).foldl (fun (s : State) l => s.moveTimers f d l) s
    | none => s
  { s with
    now := now
    fio := { s.fio with fc0 := fcMoved d s.fio.fc0, fc1 := fcMoved d s.fio.fc1 }
    ductus := { s.ductus with tasks := s.ductus.tasks.map (bookMoved d (g + 50000)) }
    tge := tgeMoved d s.tge
    net := netMoved d s.net
    time := { s.time with framesFrom := g, releasesFrom := g + 50000, rateFrom := now, acc := s.accAt s.now } }

/-- Seconds of a step, rounded toward zero (TIME_STEP_LAST). -/
def stepSeconds (d : Int) : Int := d.tdiv 1000000000

/-- The step is applied at P (R337), and counted. See log entry 49 (DEDUCED). -/
def State.applyStep (s : State) (d : Int) : State :=
  let s := (s.moveScale d).endStep
  (s.fsat F.TIME_STATE_STEPS).fputInt F.TIME_STEP_LAST_SECONDS (stepSeconds d)

/-- TIME_STEP_APPLY: at a qualifying instant P the pending step is applied; a restep in motion is refused (R337, R339,
R340). -/
def execTimeStepApply (t : Nat) (s : State) : Host.Outcome State Fault Refusal :=
  let s := s.upTo t
  match s.time.step with
  | none => .next s
  | some x =>
    if s.now != t || !s.stepPoint x.decided t then .next s else
    match x.kind with
    | .first =>
      let s := s.applyStep x.delta
      .next (s.putTime (if s.fget F.TIME_STATE_SLAVE_PORT == noPort then tmHoldover else tmLocked))
    | .set c v => .next (((s.applyStep ((v : Int) - t)).putTime tmHoldover).replyOk c opTimeSet)
    | .restep c =>
      if !s.standstill then .next (s.endStep.replyErr c opTimeRestep stMoving noIndex)
      else .next ((s.applyStep x.delta).replyOk c opTimeRestep)

/-- TIME_SET's own checks: FREE with no step decided, and a time in range (R339, R417). See log entry 49 (DEDUCED). -/
def timeSetOwn (c : Cmd) (s : State) : Verdict :=
  refuseIf s.notActing stRole noIndex <|
  refuseIf (s.tmState != tmFree || s.time.step.isSome || decide (1000000000 ≤ leAt c.params 8 4) || !allZero (slice c.params 12 4))
    stBadParam noIndex .accept

/-- TIME_SET: a step to the given time, decided at acceptance (R339). -/
def execTimeSet (c : Cmd) (t : Nat) (s : State) : Host.Outcome State Fault Refusal :=
  .next (s.runLane c t opTimeSet lvlEngineer (c.params.length == 16) (timeSetOwn c) fun s _ =>
    s.decideStep (.set c (leAt c.params 0 8 * 1000000000 + leAt c.params 8 4)) 0)

/-- TIME_RESTEP's own checks (R340, R417). See log entry 49 (DEDUCED). -/
def timeRestepOwn (s : State) : Verdict :=
  refuseIf s.notActing stRole noIndex <|
  refuseIf (!s.standstill) stMoving noIndex <|
  refuseIf (!(s.tmState == tmLocked || s.tmState == tmFault)) stBadParam noIndex <|
  refuseIf s.time.restep.isSome stBusy noIndex .accept

/-- TIME_RESTEP: 8 measurements are taken from acceptance on (R340). -/
def execTimeRestep (c : Cmd) (t : Nat) (s : State) : Host.Outcome State Fault Refusal :=
  .next (s.runLane c t opTimeRestep lvlEngineer (c.params.length == 0) timeRestepOwn fun s a =>
    { s with time := { s.time with restep := some (c, a), offsets := [] } })

/-- TIME_RESTEP_TIMEOUT: no step within 10 s of acceptance (R340). -/
def execTimeRestepTimeout (t : Nat) (s : State) : Host.Outcome State Fault Refusal :=
  let s := s.upTo t
  match s.time.restep with
  | some (c, a) => if a + 10000000000 ≤ s.now then .next (s.endStep.replyErr c opTimeRestep stNoSeam noIndex) else .next s
  | none => .next s

/-! ### Seconds and PPS (R325, R342, R378) -/

/-- AON_SECONDS_LOAD: at a whole second in LOCKED or HOLDOVER the count of PD_AON is loaded (R325). -/
def execAonSecondsLoad (t : Nat) (s : State) : Host.Outcome State Fault Refusal :=
  let s := s.upTo t
  if nsOf s.now == 0 && (s.tmState == tmLocked || s.tmState == tmHoldover) then
    .next (s.loadAon (secOf s.now))
  else .next s

/-- The unit of the time unit at a whole second (R378). -/
def State.timeUnit (s : State) : List Byte :=
  ([R.TIME_STATE, R.TIME_SEC_LO, R.TIME_SEC_HI, R.TIME_NS, R.TIME_OFFSET, R.TIME_RATE].map fun o =>
    leBytes 4 (s.viewWord o).toNat).flatten ++ zeros 40

/-- PPS_OUTPUT: high at each whole second in any state but FREE, with the unit of REQ18; low 100 ms later (R342, R378). -/
def execPpsOutput (t : Nat) (s : State) : Host.Outcome State Fault Refusal :=
  let s := s.upTo t
  if nsOf s.now == 0 && s.tmState != tmFree then
    .next { s with time := { s.time with pps := true, unit_ := some s.timeUnit } }
  else if 100000000 ≤ nsOf s.now then .next { s with time := { s.time with pps := false } }
  else .next s

/-- PPS_INPUT_EDGE: the first edge since VALID was cleared is captured, with the resolution of a stamp (R342). -/
def execPpsInputEdge (t : Nat) (s : State) : Host.Outcome State Fault Refusal :=
  let s := s.upTo t
  if s.flag F.TIME_PPSIN_VALID then .next s
  else .next ((s.fput F.TIME_PPSIN_NS (nsOf (stampOf (10 * s.now) / 10))).fput F.TIME_PPSIN_VALID 1)

/-- TIME_PPSIN_CLEAR: a write of 1 to VALID clears the capture and re-arms it (R342). -/
def execTimePpsinClear (s : State) : Host.Outcome State Fault Refusal := .next (s.clearField F.TIME_PPSIN_VALID)

end Sys2Proof.Machine
end

