-- ==== Sys2Proof/Machine/Reset.lean ====
section
/-! DEFINITION. Reset levels, sources and overlaps (R480 to R486), power domains (R487 to R490), supplies and dips (R491
to R495), clocks (R498) and the temperature (R521). -/

namespace Sys2Proof.Machine

/-! ### What a reset keeps (R480) -/

def levelPor : Nat := 1
def levelSystem : Nat := 2

/-- Bits of a field-group register, by its place in the block, that a SYSTEM reset keeps: the mirror of the field
controller without its counters. -/
def fioKeep (rel : Nat) : Word :=
  if rel < 0x10 then 0
  else if 0x100 ≤ rel && rel < 0x900 then (if rel % 16 == 12 then 0 else 0xFFFFFFFF)
  else if 0x900 ≤ rel then 0xF0000000
  else if 0x60 ≤ rel && rel < 0x80 then 0xFF800000
  else if rel == 0x48 then 0xF0000000
  else if rel == 0x10 || rel == 0x44 || (0x20 ≤ rel && rel < 0x40) then 0xFFFFFFFF
  else 0

/-- Bits of a register that a reset of a level keeps. PD_AON holds MGMT.RPC and the reset and seconds registers; the
vellum's store holds MGMT.SEC but for SIG_FAILS and RNG_FAULT; RUB_STAT.LAST_RESULT, RUB_COUNT and STORE_SRC are loaded
from non-volatile records. -/
def regKeep (level off : Nat) : Word :=
  if 0x40 ≤ off && off < 0x6C then 0xFFFFFFFF
  else if 0x10000 ≤ off && off < 0x20000 then 0xFFFFFFFF
  else if off == 0x20010 then 0x7FFFFFFF
  else if off == 0x20014 then 0x0000FFFF
  else if 0x20000 ≤ off && off < 0x30000 then 0xFFFFFFFF
  else if off == 0x300 then 0x0F000000
  else if off == 0x318 || off == 0x324 then 0xFFFFFFFF
  else if level == levelSystem && 0x380000 ≤ off && off < 0x390000 then 0xFFFFFFFF
  else if level == levelSystem && 0x300000 ≤ off && off < 0x320000 then fioKeep (off % 0x10000)
  else 0

/-- The registers after a reset of a level: kept bits as they are, the others at their reset values. -/
def keptRegs (level : Nat) (regs : List (Nat × Word)) : List (Nat × Word) :=
  regs.filterMap fun x =>
    let m := regKeep level x.1
    let w := (x.2 &&& m) ||| (resetWord x.1 &&& ~~~m)
    if w == resetWord x.1 then none else some (x.1, w)

/-- A lane after a SYSTEM reset or POR: its flash keeps the slot record and the hash of the native image (R173, R182).
See log entry 58 (DESIGN CHOICE). -/
def laneKept (x : LaneState) (same : Bool) : LaneState :=
  { laneReset with slotRecord := x.slotRecord, xlatHash := if same then x.xlatHash else none }

/-- The slots of a kind (R476). -/
def RubState.slots (r : RubState) (k : Nat) : Option StoreRec × Option StoreRec := (assoc r.store k).getD (none, none)

/-- Generation `a` is newer than `b`: 1 to 2^31 − 1 above it, modulo 2^32 (R476). -/
def newerGen (a b : Nat) : Bool :=
  let d := (a + 2 ^ 32 - b % 2 ^ 32) % 2 ^ 32
  decide (1 ≤ d) && decide (d < 2 ^ 31)

/-- The valid record of a slot. -/
def validRec (x : Option StoreRec) : Option StoreRec := x.filter (·.valid)

/-- The second slot holds the newer valid generation (R476). -/
def newerSecond (x : Option StoreRec × Option StoreRec) : Bool :=
  match validRec x.1, validRec x.2 with
  | some a, some b => newerGen b.generation a.generation
  | none, some _ => true
  | _, _ => false

/-- A store writes into the slot that does not hold the newer valid generation (R476). -/
def putSlot (x : Option StoreRec × Option StoreRec) (r : StoreRec) : Option StoreRec × Option StoreRec :=
  if newerSecond x then (some r, x.2) else if (validRec x.1).isSome then (x.1, some r) else (some r, x.2)

/-- A store that a reset interrupts leaves its slot with a failing CRC (R476, R503). -/
def storeBroken (r : RubState) : RubState :=
  match r.storing with
  | some x => match x.kinds with
    | k :: _ => { r with store := cellIns r.store k (putSlot (r.slots k) ⟨0, 1, 0, [], false⟩) }
    | [] => r
  | none => r

/-- What of the rubrics and the store survives: a rubric that is COMMITTED, the activation record, the banks and the
store (R468, R471, R476). -/
def rubKept (r : RubState) (committed : Bool) : RubState :=
  let r := storeBroken r
  { r with
    manifest := if committed then r.manifest else [], parts := if committed then r.parts else []
    folio := if committed || r.record == .armed || r.record == .tried then r.folio else none
    resetAt := none, started := false, left := [], trial := false, storing := none, counted := [] }

/-- The folios after a reset: the one that the slot record names is translated and runs; a staged one is discarded
(R173). -/
def folioKept (f : Option Folio) : FolioState := { folioReset with running := f }

/-- The registers that show the running folio (FOLIO_STAT, FOLIO_RUN_ID). -/
def State.showRunning (s : State) : State :=
  match s.folio.running with
  | none => s
  | some f =>
    let s := (s.fput F.FOLIO_STAT_RUNNING 1).fput F.FOLIO_STAT_SLOT (s.lane .a).slotRecord
    s.showRunId f.id

/-- Codes of RUB_STAT.STATE (R471). -/
def rubNone : Nat := 0
def rubReceiving : Nat := 1
def rubCommitted : Nat := 2
def rubTrial : Nat := 3
def rubRevert : Nat := 4

/-- A field controller whose link has started anew at a SYSTEM reset: it goes on on its own time, and takes the first
frame of the new numbering (R219, R247, R500). See log entry 77 (DEDUCED). -/
def fcRelinked (d : Int) (x : FcState) : FcState := { fcMoved d x with rxSeq := none, frame := none }

/-- The state after a reset of a level (R480): the time scale starts at the seconds count in FREE (R325), the lanes'
domains are off (R62), and what lies behind its own barrier or in a non-volatile store is kept.
See log entry 58 (DESIGN CHOICE). See log entry 60 (DEDUCED). -/
def State.applyReset (s : State) (level : Nat) : State :=
  let soft := level == levelSystem
  let committed := s.fget F.RUB_STAT_STATE == rubCommitted
  let ids := (List.range 4).map fun i => s.reg (R.RUB_ID0 + 4 * i)
  let same := s.rub.recorded == s.folio.running
  let now := s.aonSeconds * 1000000000
  let d : Int := (now : Int) - (s.now : Int)
  let on := s.fget F.RPC_PD_STAT_ON
  let r : State := { State.reset with
    pending := s.pending
    fresh := s.fresh
    now := now
    mono := s.mono
    regs := keptRegs level s.regs
    laneA := laneKept s.laneA same
    laneB := laneKept s.laneB same
    laneC := laneKept s.laneC same
    folio := folioKept s.rub.recorded
    fio := if soft then { fioReset with fc0 := fcRelinked d s.fio.fc0, fc1 := fcRelinked d s.fio.fc1 } else fioReset
    ssm := if soft then { s.ssm with hbAt := if s.flag F.STO1_STAT_HEARTBEAT then s.mono else s.ssm.hbAt, sto1 := false, odd := none, differed := false, loads := [] }
      else { ssmReset with hbAt := s.mono, path := { stopReset with since := s.mono } }
    brg := { brgReset with perst := s.brg.perst }
    vellum := { s.vellum with
      measures := if soft then s.vellum.measures.filter (fun m => m.part == 4) else []
      jtag := if soft then s.vellum.jtag else 0 }
    rub := rubKept s.rub committed
    power := s.power
    time := { timeReset with rateFrom := now } }
  let r := if committed then
      (List.range 4).foldl (fun (r : State) i => r.setReg (R.RUB_ID0 + 4 * i) (ids.getD i 0)) (r.fput F.RUB_STAT_STATE rubCommitted)
    else r
  let r := r.fput F.RPC_PD_STAT_ON (if soft then on - on / 4 % 8 * 4 else 0x083)
  (r.fput F.RPC_START_STEP 0).showRunning

/-! ### Sources and overlaps (R481 to R486) -/

def srcPowerOn : Nat := 0
def srcBrownOut : Nat := 1
def srcResetN : Nat := 2
def srcWdog (l : Lane) : Nat := 3 + l.idx
def srcSoftware : Nat := 6
def srcEcc : Nat := 7
def srcParity : Nat := 8
def srcClock : Nat := 9

/-- Reach of a source (R481). -/
def srcLevel (c : Nat) : Nat := if c ≤ 1 then levelPor else levelSystem

/-- Announced sources (R481). -/
def srcAnnounced (c : Nat) : Bool := c == srcBrownOut || c == srcResetN || c == srcSoftware || c == srcEcc

/-- HALT code groups on both field links: the groups apply the blotter state (R246, R483).
See log entry 38 (DEDUCED). -/
def State.haltGroups (s : State) : State :=
  allGroups.foldl (fun (s : State) g => if s.fgUp g then s.enterBlotter g blotHalt else s) s

/-- A source of SYSTEM or POR reach is asserted (R483, R484): it opens an overlap or joins the one in force, and the
reset of its reach applies unless one as deep already does. A dip's window ends without a log record (R495).
See log entry 58 (DESIGN CHOICE). -/
def State.assertSource (s : State) (c sw : Nat) : State :=
  match s.power.overlap with
  | none =>
    let o : Overlap := ⟨[c], 2 ^ c, c, srcLevel c, srcAnnounced c, sw, s.aonSeconds % 2 ^ 32⟩
    let s := if srcAnnounced c then s.haltGroups else s
    let s := s.applyReset (srcLevel c)
    { s with power := { s.power with overlap := some o, dip := none, trip0 := none, trip1 := none } }
  | some o =>
    let deeper := srcLevel c < o.level
    let o := { o with
      asserted := o.asserted.filter (· != c) ++ [c], sources := o.sources ||| 2 ^ c, level := min o.level (srcLevel c) }
    let s := if deeper then s.applyReset levelPor else s
    { s with power := { s.power with overlap := some o } }

/-- A reset that the module asks of itself, with its SW_CAUSE (R481). -/
def State.softReset (s : State) (sw : Nat) : State := s.assertSource srcSoftware sw

/-- SW_CAUSE codes (RST_CAUSE). -/
def swActivation : Nat := 1
def swStartCheck : Nat := 2
def swRevert : Nat := 3
def swBench : Nat := 4
def swRetired : Nat := 5

/-- The end of an overlap: cause, seconds and count are recorded, and the release sequence starts (R485, R486, R493,
R499 step 1). See log entry 58 (DESIGN CHOICE). -/
def State.endOverlap (s : State) (o : Overlap) : State :=
  let lost := s.power.lost && o.level == levelPor
  let s := if lost then
      (s.resetRegs 0x40 0x6C).resetRegs 0x10000 0x20000
    else s
  let s := if o.level == levelPor then s.fput F.RST_CAUSE_VBAK_LOST (bit lost) else s
  let s := ((s.fput F.RST_CAUSE_FIRST o.first).fput F.RST_CAUSE_LEVEL o.level).fput F.RST_CAUSE_ANNOUNCED (bit o.announced)
  let s := ((s.fput F.RST_CAUSE_SW_CAUSE o.swCause).fput F.RST_CAUSE_SOURCES o.sources).fput F.RST_SEC_SECONDS
    (if lost then 0 else o.seconds)
  let s := if lost then s.fput F.RST_CNT_POR_COUNT 1
    else if o.level == levelPor then s.fsat F.RST_CNT_POR_COUNT else s.fsat F.RST_CNT_SYS_COUNT
  let s := if lost then { s with now := 0, time := { s.time with rateFrom := 0 }, power := { s.power with aonAt := s.mono } } else s
  let s := (s.fput F.RPC_CLK_XTAL_OK 1).fput F.RPC_START_STEP 1
  let s := s.fput F.RPC_START_MS_TO_VOTE 0
  { s with power := { s.power with overlap := none, releasedAt := s.mono, lastOn := s.mono, lost := if o.level == levelPor then false else s.power.lost } }

/-- RESET_RELEASE: a source is released; with the last one the release sequence runs, once (R484). -/
def execResetRelease (source t : Nat) (s : State) : Host.Outcome State Fault Refusal :=
  let s := s.tick t
  match s.power.overlap with
  | none => .next s
  | some o =>
    if !o.asserted.contains source then .next s else
    let o := { o with asserted := o.asserted.filter (· != source) }
    if o.asserted.isEmpty then .next (s.endOverlap o) else .next { s with power := { s.power with overlap := some o } }

/-- POWER_ON: VIN rises (R481). -/
def execPowerOn (t : Nat) (s : State) : Host.Outcome State Fault Refusal := .next ((s.tick t).assertSource srcPowerOn 0)

/-- BROWN_OUT: VIN at or below 10.2 V for 2 µs (R481). -/
def execBrownOut (t : Nat) (s : State) : Host.Outcome State Fault Refusal := .next ((s.tick t).assertSource srcBrownOut 0)

/-- RESET_N: low for 10 µs without a break (R481). -/
def execResetN (t : Nat) (s : State) : Host.Outcome State Fault Refusal := .next ((s.tick t).assertSource srcResetN 0)

/-- ECC_CRITICAL (R481). -/
def execEccCritical (t : Nat) (s : State) : Host.Outcome State Fault Refusal := .next ((s.tick t).assertSource srcEcc 0)

/-- RPC_PARITY (R481). -/
def execRpcParity (t : Nat) (s : State) : Host.Outcome State Fault Refusal := .next ((s.tick t).assertSource srcParity 0)

/-- CLOCK_CHECK: every 10 ms CLK_MGMT is compared with the crystal; a deviation above 1 %, or a loss of lock, asserts
CLOCK (R498). -/
def execClockCheck (deviates locked : Bool) (t : Nat) (s : State) : Host.Outcome State Fault Refusal :=
  let s := s.tick t
  let s := s.fput F.RPC_CLK_PLL_LOCK (bit locked)
  if deviates || !locked then .next ((s.fsat F.RPC_CLK_LOCK_LOSSES).assertSource srcClock 0) else .next s

/-- RST_CNT_CORE of a lane. -/
def coreCount : Lane → Field
  | .a => F.RST_CNT_CORE_A_COUNT
  | .b => F.RST_CNT_CORE_B_COUNT
  | .c => F.RST_CNT_CORE_C_COUNT

/-- A CORE reset of a lane: its execution pairs only (R480). -/
def State.coreReset (s : State) (l : Lane) : State :=
  let p := { pairReset with proofAt := s.mono, dueAt := s.mono }
  s.setLane l { s.lane l with ep0 := p, ep1 := p }

/-- WATCHDOG_EXPIRE: 50 ms after the last service; not for a lane whose domain is off or that a debugger holds. A CORE
reset and a lane fault with cause WATCHDOG; within an overlap of deeper reach it joins that overlap (R482, R484, R503). -/
def execWatchdogExpire (l : Lane) (t : Nat) (s : State) : Host.Outcome State Fault Refusal :=
  let s := s.tick t
  match s.power.overlap with
  | some o => .next { s with power := { s.power with overlap := some { o with sources := o.sources ||| 2 ^ srcWdog l } } }
  | none =>
    if !s.powered (pdLane l) || (s.lane l).halted then .next s
    else .next (((s.coreReset l).fsat (coreCount l)).laneFault l .watchdog)

/-! ### Power domains (R487 to R490) -/

/-- The domain that domain `c` hangs from (R488). -/
def pdParent (c : Nat) : Nat := if c == pdMgmt || c == pdSsm then pdAon else if c == pdFab then pdMgmt else pdFab

/-- Step of R499 in which a domain comes on. -/
def pdStep (c : Nat) : Nat :=
  if c == pdFab then 2 else if c == pdHost then 3 else if c == pdFg .g0 || c == pdFg .g1 then 4 else if c == pdMgmt then 1 else 5

/-- RPC_START.STEP rises to a step. -/
def State.startStep (s : State) (n : Nat) : State := s.fput F.RPC_START_STEP (max (s.fget F.RPC_START_STEP) n)

/-- The group whose field side is domain `c`. -/
def fgOf (c : Nat) : Option Grp := if c == pdFg .g0 then some .g0 else if c == pdFg .g1 then some .g1 else none

/-- The lane whose domain is `c`. -/
def laneOfPd (c : Nat) : Option Lane :=
  if c == pdLane .a then some .a else if c == pdLane .b then some .b else if c == pdLane .c then some .c else none

/-- The field side of a group has lost its power: its controller starts anew, its link and no bank is latched (R219,
R239). -/
def State.dropGroup (s : State) (g : Grp) : State :=
  let s := (s.setFc g fcReset).setFioGrp g { s.fioGrp g with rxSeq := none }
  (List.range 8).foldl (fun s b => s.fput (F.FIO_BANK_EVT_LATCHED g b) 0) s

/-- A field controller starts: every channel INACTIVE, the blotter state with cause SILENCE (R490).
See log entry 36 (DEDUCED). -/
def State.startGroup (s : State) (g : Grp) : State :=
  let s := s.dropGroup g
  (s.fput (F.FIO_BLOTTER_ACTIVE g) 1).fput (F.FIO_BLOTTER_CAUSE g) blotSilence

/-- A domain comes on: its streams start at SEQ 0 (R16, R488, `State.setPower`), and what it holds starts. -/
def State.domainOn (s : State) (c : Nat) : State :=
  let s := (s.setPower c true).startStep (pdStep c)
  let s := { s with power := { s.power with lastOn := s.mono } }
  let s := if c == pdFab then s.fput F.RPC_CLK_PLL_LOCK 1 else s
  let s := match fgOf c with
    | some g => s.startGroup g
    | none => s
  match laneOfPd c with
  | some l => if s.laneSt l == .off then s.bootLane l else s
  | none => s

/-- A domain may come on: it is off, what it hangs from is on, no reset is in force, a millisecond has passed since the
last one, and nothing of its own holds it off (R62, R488 to R490). -/
def State.mayPower (s : State) (c : Nat) : Bool :=
  decide (1 ≤ c) && decide (c ≤ 10) && !s.powered c && s.powered (pdParent c) && s.power.overlap.isNone
    && s.maySwitch
    && !(c == pdHost && s.brg.perst.isSome)
    && !(c == pdFg .g0 && s.power.trip0.isSome) && !(c == pdFg .g1 && s.power.trip1.isSome)
    && (match laneOfPd c with
      | some l => s.laneSt l == .off
      | none => true)

/-- DOMAIN_SWITCH_ON: the reset controller switches on domain `code` (R488, R499). -/
def execDomainSwitchOn (code t : Nat) (s : State) : Host.Outcome State Fault Refusal :=
  let s := s.tick t
  if s.mayPower code then .next (s.domainOn code) else .next s

/-- PERST_HOLD_EXPIRE: PERST_N, asserted since `since`, has been held for 100 ms, and PD_HOST switches off (R386,
R489). See log entry 58 (DESIGN CHOICE). -/
def execPerstHoldExpire (since t : Nat) (s : State) : Host.Outcome State Fault Refusal :=
  let s := s.tick t
  if t < since + 100000000 then .next s else
  let s := { s with brg := { s.brg with perst := some since } }
  if !s.powered pdHost then .next s
  else .next ((s.hostReset false).setPower pdHost false)

/-- PERST_RELEASE: PERST_N is released, and PD_HOST switches on, at once or by a DOMAIN_SWITCH_ON a millisecond after the
domain before it (R488, R489). -/
def execPerstRelease (t : Nat) (s : State) : Host.Outcome State Fault Refusal :=
  let s := s.tick t
  let s := { s with brg := { s.brg with perst := none } }
  if s.powered pdHost || !s.powered pdFab || s.power.overlap.isSome || !s.maySwitch then .next s else .next (s.domainOn pdHost)

/-- The trips of a group set. -/
def State.setTrip (s : State) (g : Grp) (x : Option Nat) : State :=
  match g with
  | .g0 => { s with power := { s.power with trip0 := x } }
  | .g1 => { s with power := { s.power with trip1 := x } }

def State.tripOf (s : State) : Grp → Option Nat
  | .g0 => s.power.trip0
  | .g1 => s.power.trip1

/-- RPC_PD_FAULT of a group. -/
def tripCount : Grp → Field
  | .g0 => F.RPC_PD_FAULT_FG0
  | .g1 => F.RPC_PD_FAULT_FG1

/-- CONVERTER_TRIP: the group's domain switches off and the trip is counted (R490). -/
def execConverterTrip (g : Grp) (t : Nat) (s : State) : Host.Outcome State Fault Refusal :=
  let s := s.tick t
  if !s.fgUp g then .next s
  else .next (((((s.dropGroup g).setPower (pdFg g) false).fsat (tripCount g)).setTrip g (some s.mono)).fput (F.FIO_LINK_UP g) 0)

/-- CONVERTER_RESTART: 1 s after the trip the domain restarts (R488, R490). -/
def execConverterRestart (g : Grp) (t : Nat) (s : State) : Host.Outcome State Fault Refusal :=
  let s := s.tick t
  match s.tripOf g with
  | some a =>
    if decide (a + 1000000000 ≤ s.mono) && s.powered pdFab && s.power.overlap.isNone && s.maySwitch then
      .next ((s.setTrip g none).domainOn (pdFg g))
    else .next s
  | none => .next s

/-! ### Supplies (R491 to R495) -/

/-- WARN is entered: a window opens or goes on (R491, R495). -/
def State.enterWarn (s : State) : State :=
  let s := ((s.fput F.RPC_VIN_WARN 1).fput F.RPC_VIN_IN_WARNING 1).fsat F.RPC_DIP_COUNT
  let d : Dip := match s.power.dip with
    | some d => { d with entries := min 255 (d.entries + 1), vmin := min d.vmin s.power.lowMin }
    | none => ⟨s.power.lowSince.getD s.now, s.now, s.power.lowMin, 1, 0⟩
  { s with power := { s.power with dip := some d } }

/-- A measurement below 11.0 V: the run starts or goes on, and WARN is entered after 20 µs of it. -/
def State.lowVin (s : State) (mv : Nat) : State :=
  let p := s.power
  let p := match p.lowSince with
    | some _ => { p with lowMin := min p.lowMin mv }
    | none => { p with lowSince := some s.now, lowMin := mv }
  let s := { s with power := p }
  if !s.flag F.RPC_VIN_WARN && decide (p.lowSince.getD s.now + 20000 ≤ s.now) then s.enterWarn else s

/-- VIN_MEASURE: the measurement of every 10 µs, in mV (R491). -/
def execVinMeasure (mv t : Nat) (s : State) : Host.Outcome State Fault Refusal :=
  let s := s.tick t
  let s := s.fputSat F.RPC_VIN_MV mv
  let s := if mv < 11000 then s.lowVin mv else { s with power := { s.power with lowSince := none } }
  let s := { s with power := { s.power with dip := s.power.dip.map fun d => { d with vmin := min d.vmin mv } } }
  if s.flag F.RPC_VIN_WARN && decide (11200 < mv) then
    let s := { s with power := { s.power with dip := s.power.dip.map fun (d : Dip) => { d with rise := s.now } } }
    .next (s.fput F.RPC_VIN_WARN 0)
  else .next s

/-- DETAIL of SUPPLY_DIP (R495). -/
def dipDetail (d : Dip) : List Byte :=
  leBytes 4 (min ((d.rise - d.first) / 1000) 0xFFFFFFFF) ++ leBytes 2 d.vmin ++ leBytes 1 d.entries ++ leBytes 1 d.flags

/-- WARNING_WINDOW_END: 100 ms after WARN was last left the window ends, and one SUPPLY_DIP is logged (R491, R495). -/
def execWarningWindowEnd (t : Nat) (s : State) : Host.Outcome State Fault Refusal :=
  let s := s.tick t
  match s.power.dip with
  | some d =>
    if s.flag F.RPC_VIN_WARN || s.now < d.rise + 100000000 then .next s else
    let s := ((s.fput F.RPC_VIN_IN_WARNING 0).fputSat F.RPC_DIP_VMIN d.vmin).fputSat F.RPC_DIP_DUR_MICROSECONDS ((d.rise - d.first) / 1000)
    let s := { s with power := { s.power with dip := none } }
    .next (s.logAt d.first 0x0050 codeRpc (dipDetail d))
  | none => .next s

/-- A flag of the window is set: 0 a store record was not written, 1 a non-volatile write waited (R495). -/
def State.dipFlag (s : State) (i : Nat) : State :=
  { s with power := { s.power with dip := s.power.dip.map fun d => { d with flags := d.flags ||| 2 ^ i } } }

/-- SUPPLY_PIN_CHANGE: a level of STORE_OK (or of BATT_LOW_N) has held for 1 ms and is taken (R492). -/
def execSupplyPinChange (battery asserted : Bool) (t : Nat) (s : State) : Host.Outcome State Fault Refusal :=
  let s := s.tick t
  .next (s.fput (if battery then F.RPC_VIN_BATT_LOW else F.RPC_VIN_STORE_OK) (bit asserted))

/-- VBAK_MEASURE: VBAK in mV; below 2.2 V while VIN is absent the contents of PD_AON are lost, which the next POR finds
(R493). -/
def execVbakMeasure (mv : Nat) (vinAbsent : Bool) (t : Nat) (s : State) : Host.Outcome State Fault Refusal :=
  let s := s.tick t
  let s := (s.fputSat F.RPC_VBAK_MV mv).fput F.RPC_VBAK_LOW (bit (decide (mv < 2700)))
  if vinAbsent && decide (mv < 2200) then .next { s with power := { s.power with lost := true } } else .next s

/-! ### Temperature and flash (R521, R526) -/

/-- A 16-bit two's complement number. -/
def signed16 (v : Nat) : Int := if v < 2 ^ 15 then (v : Int) else (v : Int) - 2 ^ 16

/-- TEMPERATURE_MEASURE: the cold-face temperature in units of 0.1 °C, and the highest one kept (R521). -/
def execTemperatureMeasure (value : BitVec 16) (t : Nat) (s : State) : Host.Outcome State Fault Refusal :=
  let s := s.tick t
  let top := signed16 (s.fget F.RPC_TEMP_MAX)
  let s := if top < value.toInt then s.fput F.RPC_TEMP_MAX value.toNat else s
  .next (s.fput F.RPC_TEMP_NOW value.toNat)

/-- FLASH_REFRESH: a page whose read margin has fallen is rewritten with its own contents (R526): no record changes. -/
def execFlashRefresh (t : Nat) (s : State) : Host.Outcome State Fault Refusal := .next (s.tick t)

end Sys2Proof.Machine
end

