-- ==== Sys2Proof/Machine/Sessions.lean ====
section
/-! DEFINITION. Sessions and their timers (R394 to R397, R446), the token buckets (R392, R411) and the datagrams of the
management port (R411). The cryptographic values of a handshake are no data of the model (DESIGN CHOICE, log entry 8): a signature's
verdict is an operand, and keys, nonces and signatures that the module makes are free bytes. -/

namespace Sys2Proof.Machine

def opSessionOpen : Nat := 0x0801
def opSessionClose : Nat := 0x0802

/-! ### The first phase (R394, R396, R437) -/

/-- The first phase's own checks: LEVEL 1 to 4; a random source that has failed, or 16 sessions, is BUSY. -/
def openOwn (c : Cmd) (s : State) : Verdict :=
  refuseIf (byteAt c.params 0 == 0 || decide (4 < byteAt c.params 0)) stBadParam noIndex <|
  refuseIf (s.flag F.SEC_STATE_RNG_FAULT || decide (16 ≤ s.quill.sessions.length)) stBusy noIndex .accept

/-- The reply of the first phase: the new SESSION, the module's nonce, its uncompressed point, its ciphertext and its
signature block (R394, R439). -/
def State.openReply (s : State) (id : Nat) : State × List Byte :=
  let (s, nonce) := s.random 32
  let (s, point) := s.random 96
  let (s, ct) := s.random 1088
  let (s, sig) := s.random 3405
  (s, leBytes 4 id ++ zeros 4 ++ nonce ++ [4] ++ point ++ zeros 7 ++ ct ++ sigBlock sig)

/-- A pending session of the path on which its first phase arrived (R395, R396). -/
def newSession (id path level now : Nat) : Session :=
  { id := id, path := path, opened := false, level := level, slot := none, blank := false, createdAt := now, lastAt := now,
    laneWindow := ⟨0, []⟩, scribeWindow := ⟨0, []⟩, laneTx := 0, scribeTx := 0 }

/-- The first phase is accepted. A retired vellum can no longer sign, so no session opens and nothing is sent (R451).
See log entry 55 (DEDUCED). -/
def openEffect (c : Cmd) (s : State) : State :=
  if s.lifecycle == lcRetired then { s with quill := { s.quill with cmds := dropCmd s.quill.cmds c } } else
  let id := s.quill.nextSession
  let x := newSession id (s.pathOf c.queue) (byteAt c.params 0) s.mono
  let s := { s with quill := { s.quill with sessions := s.quill.sessions ++ [x], nextSession := id + 1 } }
  let (s, bs) := s.showSessions.openReply id
  s.reply c opSessionOpen stOk bs

/-- SESSION_OPEN: the first phase, in clear (R394). -/
def execSessionOpen (c : Cmd) (t : Nat) (s : State) : Host.Outcome State Fault Refusal :=
  let s := s.tick t
  match s.preAccepted c with
  | some _ => if s.fenced c then .next s else .next (openEffect c (s.startCmd c))
  | none =>
    if s.voters.length < 2 then .next s
    else if s.fenced c then
      .next { s with quill := { s.quill with held := s.quill.held.filter (·.cmd != c) ++ [⟨c, opSessionOpen⟩] } }
    else if c.session != 0 then .next (s.authFailLane c opSessionOpen)
    else match (if c.params.length == 1328 then openOwn c s else .refuse stBadParam noIndex) with
      | .accept => .next (openEffect c (s.acceptCmd c opSessionOpen))
      | .refuse st i => .next (s.refuseCmd c opSessionOpen st i)

/-! ### The second phase (R395, R446) -/

/-- Credential length (R445) and signature block length (R170). -/
def credLen : Nat := 5528

/-- The credential of a second phase. -/
def credOf (c : Cmd) : List Byte := slice c.params 8 credLen

/-- The parameter layout fits: CRED_LEN 5,528, or 0 in BLANK (R395, R445). -/
def credLenOk (s : State) (c : Cmd) : Bool :=
  if s.lifecycle == lcBlank && leAt c.params 0 4 == 0 then c.params.length == 8
  else leAt c.params 0 4 == credLen && c.params.length == 8 + credLen + sigBlockLen

/-- Steps 1 and 3 to 6 of R446; step 2 is SIG and step 7 the holder's signature. -/
def credFormat (s : State) (k : List Byte) : Bool :=
  leAt k 0 2 == 1 && decide (1 ≤ byteAt k 2) && decide (byteAt k 2 ≤ 4) && decide (byteAt k 3 < 4) && s.slotEnrolled (byteAt k 3)

def credHolds (s : State) (k : List Byte) (path : Nat) : Bool :=
  (leAt k 16 8 == 0 || leAt k 16 8 == moduleSerial) && natBit (byteAt k 4) path
    && decide (byteAt k 5 < 64) && decide (s.rbCounter (byteAt k 5) ≤ leAt k 8 4)
    && (s.fget F.TIME_STATE_STATE == 0
      || (decide (leAt k 24 8 ≤ secOf s.now) && (leAt k 32 8 == 0 || decide (secOf s.now < leAt k 32 8))))

/-- The credential passes every step of R446. -/
def credOk (s : State) (k : List Byte) (path : Nat) (sigOk holderOk : Bool) : Bool :=
  credFormat s k && sigOk && credHolds s k path && holderOk

/-- A signature was checked and did not verify (SEC_COUNTS.SIG_FAILS). -/
def credSigFail (s : State) (k : List Byte) (path : Nat) (sigOk holderOk : Bool) : Bool :=
  credFormat s k && (!sigOk || (credHolds s k path && !holderOk))

/-- The level granted: the lowest of the requested, the credential's and the slot's (R446). -/
def grantedLevel (s : State) (x : Session) (k : List Byte) : Nat :=
  min x.level (min (byteAt k 2) (s.fget (F.SEC_SLOT_MAX_LEVEL (byteAt k 3))))

/-- A session becomes open, is counted and logged, and is answered with its level (R395, R413). -/
def State.openSession (s : State) (c : Cmd) (x : Session) : State :=
  let s := s.setSession x
  let s := s.fsat F.QUILL_SESS_OPENED
  let s := s.log 0x0003 codeVote (leBytes 4 x.id ++ leBytes 1 x.level ++ leBytes 1 x.path)
  s.reply c opSessionOpen stOk (leBytes 1 x.level ++ zeros 7)

/-- The session of a second phase that passes: OWNER in BLANK, else the granted level. -/
def grantedSession (s : State) (c : Cmd) (x : Session) : Session :=
  if leAt c.params 0 4 == 0 then { x with opened := true, level := lvlOwner, blank := true }
  else { x with opened := true, level := grantedLevel s x (credOf c), slot := some (byteAt (credOf c) 3) }

/-- The verdict on a second phase (R395, R446). See log entry 55 (DEDUCED). -/
def credVerdict (s : State) (c : Cmd) (x : Session) (sigOk holderOk : Bool) : Verdict :=
  if x.opened || !credLenOk s c then .refuse stBadParam noIndex
  else if leAt c.params 0 4 == 0 || credOk s (credOf c) x.path sigOk holderOk then .accept
  else .refuse stAuthFail noIndex

/-- The second phase once it is authenticated: granted, refused for its layout, or failed and the session destroyed. -/
def State.credential (s : State) (c : Cmd) (x : Session) (sigOk holderOk : Bool) : State :=
  match credVerdict s c x sigOk holderOk with
  | .accept => (s.acceptCmd c opSessionOpen).openSession c (grantedSession s c x)
  | .refuse st i =>
    let s := if st == stAuthFail && credSigFail s (credOf c) x.path sigOk holderOk then s.fsat F.SEC_COUNTS_SIG_FAILS else s
    s.refuseCmd c opSessionOpen st i

/-- SESSION_OPEN_CREDENTIAL: the second phase; `sigOk` and `holderOk` are the verdicts on the credential's SIG and on the
holder's signature over T (R395, R446). See log entry 8 (DESIGN CHOICE). -/
def execSessionOpenCredential (c : Cmd) (sigOk holderOk : Bool) (t : Nat) (s : State) : Host.Outcome State Fault Refusal :=
  let s := s.tick t
  if s.voters.length < 2 then .next s
  else if s.fenced c && (s.preAccepted c).isSome then .next s
  else if s.fenced c then
    .next { s with quill := { s.quill with held := s.quill.held.filter (·.cmd != c) ++ [⟨c, opSessionOpen⟩] } }
  else match s.session c.session with
    | none => .next (s.authFailLane c opSessionOpen)
    | some x =>
      if (s.preAccepted c).isSome then .next ((s.startCmd c).openSession c (grantedSession s c { x with lastAt := s.mono }))
      else if x.path != s.pathOf c.queue then .next (s.authFailLane c opSessionOpen)
      else .next ((s.touch x.id).credential c { x with lastAt := s.mono } sigOk holderOk)

/-! ### The end of a session (R396) -/

/-- SESSION_CLOSE: the session ends after its reply. -/
def execSessionClose (c : Cmd) (t : Nat) (s : State) : Host.Outcome State Fault Refusal :=
  .next (s.runLane c t opSessionClose lvlObserve c.params.isEmpty noCheck fun s _ =>
    (s.replyOk c opSessionClose).endSession c.session 0)

/-- SESSION_PENDING_TIMEOUT: a pending session that is not completed within 10 s is destroyed (R395). -/
def execSessionPendingTimeout (id t : Nat) (s : State) : Host.Outcome State Fault Refusal :=
  let s := s.tick t
  match s.session id with
  | some x => if !x.opened && decide (x.createdAt + 10000000000 ≤ s.mono) then .next (s.endSession id 0) else .next s
  | none => .next s

/-- A command of the session is outstanding (R396). -/
def State.sessionBusy (s : State) (id : Nat) : Bool :=
  s.quill.cmds.any (·.cmd.session == id) || s.quill.held.any (·.cmd.session == id)
    || s.quill.inflight.any (·.cmd.session == id)

/-- SESSION_IDLE_TIMEOUT: 600 s with no authenticated packet and nothing outstanding (R396).
See log entry 55 (DEDUCED). -/
def execSessionIdleTimeout (id t : Nat) (s : State) : Host.Outcome State Fault Refusal :=
  let s := s.tick t
  match s.session id with
  | some x =>
    if x.opened && decide (x.lastAt + 600000000000 ≤ s.mono) && !s.sessionBusy id then .next (s.endSession id 1) else .next s
  | none => .next s

/-! ### Token buckets (R392, R411) -/

/-- A bucket gains a token when its period has passed, up to its size. See log entry 56 (DEDUCED). -/
def Bucket.refill (b : Bucket) (period size now : Nat) : Bucket :=
  if b.since + period ≤ now then ⟨min size (b.tokens + 1), now⟩ else b

/-- TOKEN_BUCKET_REFILL: bucket 0, the plain replies of HOST; 1, those of MANAGEMENT (10 tokens, 10 per second); 2, the
datagrams of MP (100 tokens, 1,000 per second). See log entry 56 (DEDUCED). -/
def execTokenBucketRefill (which t : Nat) (s : State) : Host.Outcome State Fault Refusal :=
  let s := s.tick t
  let q := s.quill
  if which == 0 then .next { s with quill := { q with plainHost := q.plainHost.refill 100000000 10 s.mono } }
  else if which == 1 then .next { s with quill := { q with plainMp := q.plainMp.refill 100000000 10 s.mono } }
  else if which == 2 then .next { s with quill := { q with mpRate := q.mpRate.refill 1000000 100 s.mono } }
  else .next s

/-! ### Datagrams of the management port (R411) -/

/-- The opcodes of the SCRIBE class (R404). -/
def scribeOps : List Nat := [0x0101, 0x0104, 0x0803, 0x0A01, 0x0A03, 0x0A04]

/-- OPCODE, TAG, SEQUENCE, LENGTH and SESSION of a packet's header (R387). -/
def pkOpcode (p : List Byte) : Nat := leAt p 2 2
def pkTag (p : List Byte) : Nat := leAt p 4 4
def pkSequence (p : List Byte) : Nat := leAt p 8 8
def pkLength (p : List Byte) : Nat := leAt p 16 4
def pkSession (p : List Byte) : Nat := leAt p 20 4

/-- Module address of the ring that the scribe produces, Q14 or Q15 (R366). See log entry 52 (DESIGN CHOICE). -/
def scribeRing (q : Nat) : Nat := if q == 14 then 0x08100000 else 0x08140000

/-- The address that names the scribe's buffer of descriptor `c` (R375).
See log entry 52 (DESIGN CHOICE). -/
def scribeAddr (q c : Nat) : Nat := 2 ^ 63 + 2 ^ 48 + q * 2 ^ 32 + c

/-- The scribe's descriptor of a packet of `n` bytes (R373). -/
def scribeDesc (q c n : Nat) : List Byte :=
  [1, 0, 0, 0] ++ zeros 4 ++ leBytes 8 (scribeAddr q c) ++ leBytes 8 (scribeAddr q c) ++ leBytes 4 n ++ leBytes 4 65600
    ++ zeros 31 ++ [1]

/-- The scribe fixes the ring of a queue that it produces and enables it (R368, R376).
See log entry 52 (DESIGN CHOICE). -/
def State.scribeQueue (s : State) (q : Nat) : State :=
  let s := ((s.fput (F.Q_BASE_LO_BASE q) (scribeRing q / 4096)).fput (F.Q_BASE_HI_BASE q) 0x80000000).fput (F.Q_CTRL_SIZE_LOG2 q) 12
  if s.qState q != qDisabled || s.enableHeld q then s else
  let s := (s.fput (F.Q_CTRL_ENABLE q) 1).fput (F.Q_STAT_STATE q) qRunning
  ((s.fput (F.Q_STAT_DONE q) (s.qTail q)).fput (F.Q_CFG_FETCH q) (s.qTail q)).setRun q queueReset

/-- A packet is placed in Q14 or Q15; a full ring drops it (R411). See log entry 52 (DESIGN CHOICE). -/
def State.placePacket (s : State) (source : Nat) (p : List Byte) : State :=
  let q := if scribeOps.contains (pkOpcode p) then 15 else 14
  if !s.qScribe q then s.fsat F.MP_STAT_RATE_DROP else
  let s := s.scribeQueue q
  let c := s.qTail q
  if s.qState q == qDisabled || 4096 ≤ ctrDiff c (s.qDone q) then s.fsat F.MP_STAT_RATE_DROP else
  let s := { s with que := { s.que with scribeBuf := cellIns s.que.scribeBuf (scribeAddr q c) (source, p) } }
  let s := s.mwrite (scribeRing q + c % 4096 * 64) (scribeDesc q c p.length)
  s.fput (F.Q_DB_TAIL q) ((c + 1) % 65536)

/-- A whole datagram: the rate limit, the framing, then its queue (R411). A datagram too short or too long for a packet
is an authentication failure at once. See log entry 56 (DEDUCED). -/
def State.datagram (s : State) (source : Nat) (p : List Byte) : State :=
  let b := s.quill.mpRate
  if b.tokens == 0 then s.fsat F.MP_STAT_RATE_DROP else
  let s := { s with quill := { s.quill with mpRate := { b with tokens := b.tokens - 1 } } }
  let s := s.finc F.MP_STAT_ACCEPTED
  if packetLen p.length then s.placePacket source p
  else s.authFailScribe ⟨15, pkTag p, 0, []⟩ (pkOpcode p)

/-- The bytes of a reassembly, once no gap is left. -/
def Reassembly.whole (r : Reassembly) : Option (List Byte) :=
  match r.total with
  | none => none
  | some n =>
    let reach := r.parts.foldl (fun (m : Nat) x => if x.1 ≤ m then max m (x.1 + x.2.length) else m) 0
    if n ≤ reach then some ((r.parts.foldl (fun (bs : List Byte) x => splice (padTo (max bs.length (x.1 + x.2.length)) bs) x.1 x.2) []).take n)
    else none

/-- The reassemblies without one. -/
def dropReassembly (rs : List Reassembly) (source ident : Nat) : List Reassembly :=
  rs.filter fun r => !(r.source == source && r.ident == ident)

/-- A fragment joins its datagram: at most 4 in reassembly, at most 65,600 B. See log entry 44 (PRESUMED). -/
def State.fragment (s : State) (source ident off : Nat) (more : Bool) (bytes : List Byte) : State :=
  let rs := s.quill.reassembly
  match rs.find? (fun r => r.source == source && r.ident == ident) with
  | none =>
    if 4 ≤ rs.length || 65600 < off + bytes.length then s.fsat F.MP_ERR_REASM_DROP
    else
      let r : Reassembly := ⟨source, ident, s.mono, [(off, bytes)], if more then none else some (off + bytes.length)⟩
      { s with quill := { s.quill with reassembly := rs ++ [r] } }
  | some r =>
    let rest := dropReassembly rs source ident
    if 65600 < off + bytes.length then ({ s with quill := { s.quill with reassembly := rest } }).fsat F.MP_ERR_REASM_DROP
    else
      let r := { r with parts := cellIns r.parts off bytes, total := if more then r.total else some (off + bytes.length) }
      match r.whole with
      | some p => ({ s with quill := { s.quill with reassembly := rest } }).datagram source p
      | none => { s with quill := { s.quill with reassembly := rest ++ [r] } }

/-- MP_DATAGRAM_RECEIVE: a UDP datagram to port 30510 from `source`, or the fragment of one at offset `off`.
See log entry 56 (DEDUCED). -/
def execMpDatagramReceive (source ident off : Nat) (more : Bool) (bytes : List Byte) (t : Nat) (s : State) :
    Host.Outcome State Fault Refusal :=
  let s := s.tick t
  if off == 0 && !more then .next (s.datagram source bytes) else .next (s.fragment source ident off more bytes)

/-- MP_REASSEMBLY_TIMEOUT: a datagram not complete within 100 ms is dropped and counted. -/
def execMpReassemblyTimeout (source ident t : Nat) (s : State) : Host.Outcome State Fault Refusal :=
  let s := s.tick t
  match s.quill.reassembly.find? (fun r => r.source == source && r.ident == ident) with
  | some r =>
    if r.since + 100000000 ≤ s.mono then
      .next (({ s with quill := { s.quill with reassembly := dropReassembly s.quill.reassembly source ident } }).fsat F.MP_ERR_REASM_DROP)
    else .next s
  | none => .next s

end Sys2Proof.Machine
end

