-- ==== Sys2Proof/Machine/Vellum.lean ====
section
/-! DEFINITION. The vellum: owner keys and counters (R440 to R444), the lifecycle (R448 to R451), debugging in BENCH
(R452 to R454), measurements and attestation (R455 to R457), and the violation capture (R459). -/

namespace Sys2Proof.Machine

def opAttest : Nat := 0x0803
def opOwnerEnrol : Nat := 0x0804
def opOwnerLock : Nat := 0x0805
def opLifecycle : Nat := 0x0806

/-! ### Owner key slots and counters (R440 to R444) -/

def enrolOp (c : Cmd) : Nat := byteAt c.params 0
def enrolSlot (c : Cmd) : Nat := byteAt c.params 1
def enrolLevel (c : Cmd) : Nat := byteAt c.params 2
def enrolIndex (c : Cmd) : Nat := byteAt c.params 3
def enrolValue (c : Cmd) : Nat := leAt c.params 4 4

/-- Enrolled slots. -/
def State.slotsUsed (s : State) : List Nat := (List.range 4).filter s.slotEnrolled

/-- The first row of R442: a field out of range for the operation, or an operation that BLANK does not allow. -/
def enrolBad (c : Cmd) (keyOk : Bool) (s : State) : Bool :=
  let blank := s.lifecycle == lcBlank
  if enrolOp c == 1 then
    c.params.length != 5480 || decide (3 < enrolSlot c) || enrolLevel c == 0 || decide (4 < enrolLevel c)
      || s.slotEnrolled (enrolSlot c) || byteAt c.params 8 != 4 || !keyOk || (blank && enrolLevel c != 4)
  else if enrolOp c == 2 then
    c.params.length != 8 || blank || decide (3 < enrolSlot c) || !s.slotEnrolled (enrolSlot c) || s.slotsUsed.length == 1
  else if enrolOp c == 3 then
    c.params.length != 8 || blank || decide (63 < enrolIndex c) || decide (enrolValue c ≤ s.rbCounter (enrolIndex c))
  else true

/-- The change would void a folio (R443): signed by the slot revoked, or below the counter raised. -/
def enrolVoids (c : Cmd) (f : Folio) : Bool :=
  if enrolOp c == 2 then f.keySlot == enrolSlot c
  else enrolOp c == 3 && f.rbIndex == enrolIndex c && decide (f.rbValue < enrolValue c)

/-- The staged folio would be voided by the change. -/
def State.stagedVoid (s : State) (c : Cmd) : Bool :=
  match s.folio.staging with
  | .staged f => enrolVoids c f
  | _ => false

/-- The rows of R442 for operation `op`; `keyOk` is the verdict on the key under R439, `sigOk` on POSSESSION. -/
def enrolOwn (c : Cmd) (op : Nat) (keyOk sigOk : Bool) (s : State) : Verdict :=
  refuseIf (enrolOp c != op || enrolBad c keyOk s) stBadParam noIndex <|
  refuseIf (op == 1 && !sigOk) stSigFail noIndex <|
  refuseIf (!s.supplyGood) stSupply noIndex <|
  refuseIf (s.lifecycle == lcLocked) stLocked noIndex <|
  refuseIf (s.switchPending && s.stagedVoid c) stBusy noIndex .accept

/-- The registers of a slot follow its key (SEC_SLOT, SEC_STATE.SLOTS, SEC_OWNER_FP). -/
def State.showSlot (s : State) (n level : Nat) (key : Option (List Byte)) : State :=
  let s := (s.fput (F.SEC_SLOT_ENROLLED n) (bit key.isSome)).fput (F.SEC_SLOT_MAX_LEVEL n) level
  let s := s.putBit F.SEC_STATE_SLOTS n key.isSome
  let fp := match key with
    | some k => (sha384 k).take 16
    | none => zeros 16
  (List.range 4).foldl (fun (s : State) i => s.fput (F.SEC_OWNER_FP_FP (4 * n + i)) (leAt fp (4 * i) 4)) s

/-- The lifecycle state changes, and every session then ends (R396, R450). -/
def State.setLifecycle (s : State) (n : Nat) : State :=
  let s := (s.fput F.SEC_STATE_LIFECYCLE n).fput F.SEC_STATE_DEBUG_OPEN (bit (n == lcBench))
  let s := if n == lcBench then s.fsat F.SEC_COUNTS_BENCH_ENTRIES
    else { s with vellum := { s.vellum with jtag := min 1 s.vellum.jtag } }
  s.endSessions 3

/-- A staged folio that the change voids is discarded (R443). -/
def State.voidStaged (s : State) (c : Cmd) : State := if s.stagedVoid c then s.setStaging .empty else s

/-- What an accepted OWNER_ENROL does (R442, R443). The reason logged for a session that REVOKE ends is a free value:
the spec gives no code for it. See log entry 59 (DESIGN CHOICE). -/
def enrolEffect (c : Cmd) (s : State) (_ : Nat) : State :=
  let n := enrolSlot c
  if enrolOp c == 1 then
    let key := slice c.params 8 97 ++ slice c.params 112 1952
    let s := { s with vellum := { s.vellum with keys := cellIns s.vellum.keys n key } }
    let s := (s.showSlot n (enrolLevel c) (some key)).replyOk c opOwnerEnrol
    if s.lifecycle == lcBlank then s.setLifecycle lcOwned else s
  else if enrolOp c == 2 then
    let s := s.voidStaged c
    let s := { s with vellum := { s.vellum with keys := cellDel s.vellum.keys n } }
    let s := (s.showSlot n 0 none).replyOk c opOwnerEnrol
    let ids := (s.quill.sessions.filter (·.slot == some n)).map (·.id)
    ids.foldl (fun (s : State) id => s.spent.endSession id (s.freeWord.toNat % 256)) s
  else
    let s := s.voidStaged c
    (s.fput (F.SEC_RB_VALUE (enrolIndex c)) (enrolValue c)).replyOk c opOwnerEnrol

/-- A POSSESSION that does not verify is counted when it is checked (SEC_COUNTS.SIG_FAILS). -/
def State.noteEnrol (s : State) (c : Cmd) (op : Nat) (keyOk sigOk : Bool) : State :=
  s.noteSig c opOwnerEnrol lvlOwner (c.params.length == 8 || c.params.length == 5480)
    (enrolOwn c op keyOk sigOk s == .refuse stSigFail noIndex)

/-- OWNER_ENROL with operation `op`. -/
def State.ownerEnrol (s : State) (c : Cmd) (op : Nat) (keyOk sigOk : Bool) (t : Nat) : State :=
  (s.noteEnrol c op keyOk sigOk).runLane c t opOwnerEnrol lvlOwner
    (c.params.length == 8 || c.params.length == 5480) (enrolOwn c op keyOk sigOk) (enrolEffect c)

/-- OWNER_ENROL: ENROL (R441 to R443). See log entry 8 (DESIGN CHOICE). -/
def execOwnerEnrol (c : Cmd) (keyOk sigOk : Bool) (t : Nat) (s : State) : Host.Outcome State Fault Refusal :=
  .next (s.ownerEnrol c 1 keyOk sigOk t)

/-- OWNER_ENROL: REVOKE (R443). -/
def execOwnerEnrolRevoke (c : Cmd) (t : Nat) (s : State) : Host.Outcome State Fault Refusal := .next (s.ownerEnrol c 2 true true t)

/-- OWNER_ENROL: RAISE (R443, R444). -/
def execOwnerEnrolRaise (c : Cmd) (t : Nat) (s : State) : Host.Outcome State Fault Refusal := .next (s.ownerEnrol c 3 true true t)

/-! ### Lifecycle (R448 to R451) -/

/-- The rows of R449 for OWNER_LOCK with LOCK `k`. -/
def lockOwn (c : Cmd) (k : Nat) (s : State) : Verdict :=
  let bad := byteAt c.params 0 != k || (if k == 1 then s.lifecycle != lcOwned else s.lifecycle != lcLocked)
  refuseIf bad stBadParam noIndex <|
  refuseIf (k == 0 && !s.standstill) stMoving noIndex <|
  refuseIf (!s.supplyGood) stSupply noIndex .accept

/-- OWNER_LOCK: lock (R449, R450). -/
def execOwnerLock (c : Cmd) (t : Nat) (s : State) : Host.Outcome State Fault Refusal :=
  .next (s.runLane c t opOwnerLock lvlOwner (c.params.length == 8) (lockOwn c 1) fun s _ =>
    (s.replyOk c opOwnerLock).setLifecycle lcLocked)

/-- OWNER_LOCK: unlock (R449, R450). -/
def execOwnerUnlock (c : Cmd) (t : Nat) (s : State) : Host.Outcome State Fault Refusal :=
  .next (s.runLane c t opOwnerLock lvlOwner (c.params.length == 8) (lockOwn c 0) fun s _ =>
    (s.replyOk c opOwnerLock).setLifecycle lcOwned)

/-- A transition that LIFECYCLE_SET makes (R448), or BENCH from OWNED_LOCKED, which a later row answers. -/
def lifecycleMove (now dst : Nat) : Bool :=
  (dst == lcBench && (now == lcOwned || now == lcLocked)) || (dst == lcRetired && (now == lcOwned || now == lcLocked || now == lcBench))
    || (dst == lcOwned && now == lcBench)

/-- The rows of R449 for LIFECYCLE_SET. -/
def lifecycleOwn (c : Cmd) (s : State) : Verdict :=
  let dst := byteAt c.params 0
  refuseIf (!lifecycleMove s.lifecycle dst) stBadParam noIndex <|
  refuseIf (!s.standstill) stMoving noIndex <|
  refuseIf (!s.supplyGood) stSupply noIndex <|
  refuseIf (dst == lcBench && s.lifecycle == lcLocked) stLocked noIndex <|
  refuseIf (dst != lcOwned && s.role == roleActive) stRole noIndex .accept

/-- RETIRED: the owner slots, the session keys and both folio slots are erased (R451). -/
def State.retire (s : State) : State :=
  let s := (List.range 4).foldl (fun (s : State) n => s.showSlot n 0 none) s
  { s with vellum := { s.vellum with keys := [] }, rub := { s.rub with recorded := none, folio := none } }

/-- What an accepted LIFECYCLE_SET does at its reply (R450, R451). -/
def lifecycleEffect (c : Cmd) (s : State) (_ : Nat) : State :=
  let dst := byteAt c.params 0
  let s := (s.replyOk c opLifecycle).setLifecycle dst
  if dst == lcRetired then s.retire.softReset swRetired
  else if dst == lcOwned then s.softReset swBench
  else s

/-- LIFECYCLE_SET (R449 to R451). -/
def execLifecycleSet (c : Cmd) (t : Nat) (s : State) : Host.Outcome State Fault Refusal :=
  .next (s.runLane c t opLifecycle lvlOwner (c.params.length == 8) (lifecycleOwn c) (lifecycleEffect c))

/-! ### The random source (R437) -/

/-- RNG_HEALTH_FAIL. -/
def execRngHealthFail (s : State) : Host.Outcome State Fault Refusal := .next (s.fput F.SEC_STATE_RNG_FAULT 1)

/-- RNG_HEALTH_RECOVER. -/
def execRngHealthRecover (s : State) : Host.Outcome State Fault Refusal := .next (s.fput F.SEC_STATE_RNG_FAULT 0)

/-! ### Measurement and attestation (R455 to R457) -/

/-- The parts of a manifest, as PART and INSTANCE (R462). -/
def manifestParts (m : List Byte) : List (Nat × Nat) :=
  (chunks 64 (byteAt m 6) (m.drop 48)).map fun e => (byteAt e 0, byteAt e 1)

/-- The bank that an element runs: the bank in force, or the other one for a part of the rubric in trial (R468).
See log entry 59 (DESIGN CHOICE). -/
def RubState.bank (r : RubState) (part inst : Nat) : Nat :=
  let b := (assoc r.banks (part * 256 + inst)).getD 0
  if r.trial && (manifestParts r.active).any (fun x => x.1 == part && (x.2 == inst || x.2 == 255)) then 1 - b else b

/-- MEASUREMENT_SUBMIT: one measurement per entry per start of the element, at most 24 (R455). -/
def execMeasurementSubmit (part inst version : Nat) (digest : List Byte) (t : Nat) (s : State) :
    Host.Outcome State Fault Refusal :=
  let s := s.tick t
  let ms := s.vellum.measures
  if 24 ≤ ms.length || ms.any (fun m => m.part == part && m.inst == inst) then .next s
  else .next { s with vellum := { s.vellum with measures := ms ++ [⟨part, inst, s.rub.bank part inst, version, padTo 48 digest⟩] } }

/-- One entry of the record (R456). -/
def measureBytes (m : Measure) (running : Bool) : List Byte :=
  leBytes 1 m.part ++ leBytes 1 m.inst ++ leBytes 1 m.bank ++ leBytes 1 (bit running) ++ leBytes 4 m.version
    ++ padTo 48 m.digest ++ zeros 8

/-- A lane that is OFF or POWER_CYCLE contributes no entries. -/
def State.measured (s : State) (m : Measure) : Bool :=
  let off := fun (l : Lane) => s.laneSt l == .off || s.laneSt l == .powerCycle
  !((m.part == 1 || m.part == 2) && ((m.inst == 0 && off .a) || (m.inst == 1 && off .b) || (m.inst == 2 && off .c)))

/-- The entries: the elements' measurements, the running and the staged folio, the safe stop record. VERSION of a folio
and of the record is a free value, one for each. See log entry 59 (DESIGN CHOICE). -/
def State.attestEntries (s : State) : List (List Byte) :=
  let v := fun (k : Nat) => (Config.freeValue (s.fresh + k)).toNat % 2 ^ 32
  (s.vellum.measures.filter s.measured).map (measureBytes · true)
    ++ (match s.folio.running with
      | some f => [measureBytes ⟨7, 0, 255, v 0, sha384 f.message⟩ true]
      | none => [])
    ++ (match s.folio.staging with
      | .staged f => [measureBytes ⟨7, 1, 255, v 1, sha384 f.message⟩ false]
      | _ => [])
    ++ [measureBytes ⟨8, 0, 255, v 2, match s.ssm.record with | some r => sha384 r | none => zeros 48⟩ true]

/-- The attestation record before its signature (R456). -/
def State.attestBody (s : State) (challenge : List Byte) : List Byte :=
  let es := s.attestEntries
  leBytes 2 1 ++ leBytes 2 es.length ++ leBytes 1 s.lifecycle ++ zeros 3 ++ leBytes 8 moduleSerial ++ challenge ++ leBytes 8 s.now
    ++ leBytes 1 (s.fget F.TIME_STATE_STATE) ++ zeros 7
    ++ ((List.range 64).map fun n => leBytes 4 (s.rbCounter n)).flatten
    ++ ((List.range 16).map fun n => leBytes 4 (s.fget (F.SEC_OWNER_FP_FP n))).flatten
    ++ es.flatten

/-- ATTEST: the record latched at acceptance, signed, and the identity record (R456, R457). -/
def execAttest (c : Cmd) (t : Nat) (s : State) : Host.Outcome State Fault Refusal :=
  .next (s.runScribe c t opAttest lvlObserve (c.params.length == 32) noCheck fun s =>
    let body := s.attestBody c.params
    let (s, sig) := s.spent.spent.spent.random 3405
    s.scribeReply c opAttest stOk (body ++ sigBlock sig ++ identityRecord))

/-! ### Violations (R459) -/

/-- SYS_VIOL_CAP_CLEAR. -/
def execSysViolCapClear (s : State) : Host.Outcome State Fault Refusal := .next (s.clearField F.SYS_VIOL_CAP_VALID)

/-! ### Debugging in BENCH (R452 to R454) -/

/-- DEBUG_HALT_REQUEST: `op` 0 halts, 1 steps, 2 resumes the cores of a lane, only while the mode is HOLD; outside
BENCH the port answers nothing. A step retires one machine instruction, which is below this model's grain (DESIGN
CHOICE, log entry 25). -/
def execDebugHaltRequest (l : Lane) (op : Nat) (t : Nat) (s : State) : Host.Outcome State Fault Refusal :=
  let s := s.tick t
  if !s.flag F.SEC_STATE_DEBUG_OPEN || s.modeNow != .hold || !s.powered (pdLane l) then .next s
  else if op == 0 then .next (s.setLane l { s.lane l with halted := true })
  else if op == 2 then .next (s.setLane l { s.lane l with halted := false })
  else .next s

/-- DEBUG_WRITE: a memory write of the debugger is a store of the main core and, 2 cycles later, of the checker: it
feeds both signatures and takes an egress entry. `cells` are the bytes of the lane's segment memory that the address
holds, as stored; while the main core cannot retire the store, they wait with it (R31, R35). An address outside the
pair's reach is a violation (R453, R458). See log entry 26 (PRESUMED). -/
def execDebugWrite (l : Lane) (e : Ep) (outside : Bool) (addr : DWord) (size : Nat) (attr : Byte) (data : List DWord)
    (cells : List (Nat × Byte)) (t : Nat) (s : State) : Host.Outcome State Fault Refusal :=
  let s := s.tick t
  if !s.flag F.SEC_STATE_DEBUG_OPEN || !s.powered (pdLane l) then .next s
  else if outside then .next (s.violation rqDebug true addr.toNat)
  else
    let x := s.lane l
    if s.coresRun l && !(x.pair e).retires .main (s.egressOpen l) then execStoreRetire l e .main [] addr size attr data s
    else
      let s := s.setLane l { x with mem := cells.foldl (fun m k => cellSet (laneDefault l) m k.1 k.2) x.mem }
      match execStoreRetire l e .main [] addr size attr data s with
      | .next s => execStoreRetire l e .checker [] addr size attr data s
      | o => o

/-- IDCODE (R452). -/
def idcode : Nat :=
  sysRev % 16 * 2 ^ 28 + 0x0256 * 2 ^ 12 + Config.manufacturer.toNat * 2 + 1

/-- JTAG_INSTRUCTION: 0 IDCODE, 1 BYPASS; in BENCH also 2 SAMPLE, 3 PRELOAD, 4 EXTEST. What the port does not offer acts
as BYPASS (PRESUMED: IEEE 1149.1). IDCODE can be read out. See log entry 26 (PRESUMED). -/
def execJtagInstruction (code t : Nat) (s : State) : Host.Outcome State Fault Refusal :=
  let s := s.tick t
  let k := if code ≤ 1 then code else if s.flag F.SEC_STATE_DEBUG_OPEN && decide (code ≤ 4) then code else 1
  let s := { s with vellum := { s.vellum with jtag := k } }
  if k == 0 then .next { s with readOut := BitVec.ofNat 32 idcode } else .next s

end Sys2Proof.Machine
end

