-- ==== Sys2Proof/Machine/Rubric.lean ====
section
/-! DEFINITION. Rubrics (R461 to R472): staging, activation, the start from a bank, trial and confirmation. Whether a
signature verifies and whether a bank reads back its DIGEST come with the command (DESIGN CHOICE, log entry 8). -/

namespace Sys2Proof.Machine

def opRubBegin : Nat := 0x0701
def opRubBlock : Nat := 0x0702
def opRubCommit : Nat := 0x0703
def opRubActivate : Nat := 0x0704
def opRubConfirm : Nat := 0x0705

/-! ### The manifest (R461 to R463) -/

def mfParts (m : List Byte) : Nat := byteAt m 6
def mfSlot (m : List Byte) : Nat := byteAt m 7
def mfIndex (m : List Byte) : Nat := byteAt m 8
def mfValue (m : List Byte) : Nat := leAt m 12 4
def mfId (m : List Byte) : List Byte := slice m 16 16

/-- The part entries. -/
def mfEntries (m : List Byte) : List (List Byte) := chunks 64 (mfParts m) (m.drop 48)
def peLen (e : List Byte) : Nat := leAt e 8 4

/-- Instances of a PART and its largest LENGTH (R462); none for a code that is no part. -/
def partKind (p : Nat) : Option (Nat × Nat) :=
  match p with
  | 1 => some (4, 1048576)
  | 2 => some (3, 16777216)
  | 3 => some (1, 16777216)
  | 4 => some (2, 1048576)
  | 5 => some (1, 4194304)
  | 6 => some (1, 65536)
  | 7 => some (1, 100663296)
  | 9 => some (1, 1048576)
  | 10 => some (1, 262144)
  | _ => none

/-- An entry keeps R462. -/
def entryOk (e : List Byte) : Bool :=
  match partKind (byteAt e 0) with
  | none => false
  | some (n, top) =>
    (decide (byteAt e 1 < n) || (byteAt e 1 == 255 && byteAt e 0 != 7))
      && decide ((if byteAt e 0 == 7 then 272 else 1) ≤ peLen e) && decide (peLen e ≤ top)
      && allZero (slice e 2 2) && allZero (slice e 12 4)

/-- The elements that an entry covers, as PART × 256 + INSTANCE. -/
def covers (e : List Byte) : List Nat :=
  let n := match partKind (byteAt e 0) with
    | some (n, _) => n
    | none => 0
  if byteAt e 1 == 255 then (List.range n).map fun i => byteAt e 0 * 256 + i else [byteAt e 0 * 256 + byteAt e 1]

/-- The elements of a manifest. -/
def mfElements (m : List Byte) : List Nat := ((mfEntries m).map covers).flatten

/-- The first row of R464. See log entry 60 (DEDUCED). -/
def beginBad (m : List Byte) : Bool :=
  let rev := sysRev
  leAt m 0 4 != 0x4252594E || leAt m 4 2 != 1 || mfParts m == 0 || decide (16 < mfParts m)
    || m.length != 48 + 64 * mfParts m + sigBlockLen || !(mfEntries m).all entryOk
    || (mfElements m).eraseDups.length != (mfElements m).length
    || !(byteAt m 40 == 255 || byteAt m 40 == rev / 256 % 256) || decide (rev % 256 < byteAt m 41)
    || decide (63 < mfIndex m) || !allZero (slice m 9 3) || !allZero (slice m 42 6)

/-- RUB_STAT.STATE. -/
def State.rubState (s : State) : Nat := s.fget F.RUB_STAT_STATE

/-- The manifest has a folio part. -/
def mfFolio (m : List Byte) : Bool := (mfEntries m).any (byteAt · 0 == 7)

/-- A folio is staged. -/
def State.folioStaged (s : State) : Bool :=
  match s.folio.staging with
  | .staged _ => true
  | _ => false

/-- A trial or its revert is under way. -/
def State.rubBusy (s : State) : Bool := s.rubState == rubTrial || s.rubState == rubRevert

/-- The rows of R464. -/
def beginOwn (c : Cmd) (sigOk : Bool) (s : State) : Verdict :=
  let m := c.params
  refuseIf (beginBad m) stBadParam noIndex <|
  refuseIf (decide (3 < mfSlot m) || !s.slotEnrolled (mfSlot m) || !sigOk) stSigFail noIndex <|
  refuseIf (decide (mfValue m < s.rbCounter (mfIndex m))) stCheckFail noIndex <|
  refuseIf (s.lifecycle == lcLocked) stLocked noIndex <|
  refuseIf (s.rubBusy || (mfFolio m && (s.folioStaged || s.switchPending))) stBusy noIndex .accept

/-- RUB_ID0 to RUB_ID3. -/
def State.showRubId (s : State) (id : List Byte) : State :=
  (List.range 4).foldl (fun (s : State) i => s.setReg (R.RUB_ID0 + 4 * i) (BitVec.ofNat 32 (leAt id (4 * i) 4))) s

/-- The new rubric is RECEIVING; what was staged is discarded (R464). -/
def beginEffect (c : Cmd) (s : State) (_ : Nat) : State :=
  let m := c.params
  let s := { s with rub := { s.rub with manifest := m, parts := List.replicate (mfParts m) ⟨0, []⟩, folio := none } }
  (((s.fput F.RUB_STAT_STATE rubReceiving).fput F.RUB_STAT_PARTS_DONE 0).showRubId (mfId m)).replyOk c opRubBegin

/-- The check finds a manifest's signature not to verify under an enrolled key. -/
def State.noteBegin (s : State) (c : Cmd) (sigOk : Bool) : State :=
  s.noteSig c opRubBegin lvlOwner (decide (48 ≤ c.params.length))
    (s.slotEnrolled (mfSlot c.params) && !sigOk && beginOwn c sigOk s == .refuse stSigFail noIndex)

/-- RUBRIC_BEGIN (R464); `sigOk` is the verdict on the manifest's signature. See log entry 8 (DESIGN CHOICE). -/
def execRubricBegin (c : Cmd) (sigOk : Bool) (t : Nat) (s : State) : Host.Outcome State Fault Refusal :=
  .next ((s.noteBegin c sigOk).runLane c t opRubBegin lvlOwner (decide (48 ≤ c.params.length)) (beginOwn c sigOk) (beginEffect c))

/-! ### Blocks (R465) -/

/-- LENGTH of part `p` of the staged manifest. -/
def State.partLen (s : State) (p : Nat) : Nat := peLen ((mfEntries s.rub.manifest).getD p [])

/-- The checks of R465. See log entry 60 (DEDUCED). -/
def rubBlockOwn (c : Cmd) (s : State) : Verdict :=
  let p := byteAt c.params 8
  let x := s.rub.parts.getD p ⟨0, []⟩
  let want := min stageBlock (s.partLen p - x.next * stageBlock)
  let bad := decide (s.rub.parts.length ≤ p) || stageNo c != x.next || want == 0 || (stageData c).length != want
  refuseIf bad stBadParam noIndex <|
  refuseIf (s.lifecycle == lcLocked) stLocked noIndex <|
  refuseIf ((crc32c (stageData c)).toNat != stageCrc c) stCheckFail noIndex .accept

/-- Part `p` is complete. -/
def State.partDone (s : State) (p : Nat) : Bool := (s.rub.parts.getD p ⟨0, []⟩).bytes.length == s.partLen p

/-- The block is in the inactive bank. -/
def rubBlockEffect (c : Cmd) (s : State) (_ : Nat) : State :=
  let p := byteAt c.params 8
  let x := s.rub.parts.getD p ⟨0, []⟩
  let s := { s with rub := { s.rub with parts := s.rub.parts.set p ⟨x.next + 1, x.bytes ++ stageData c⟩ } }
  let n := ((List.range s.rub.parts.length).filter s.partDone).length
  (s.fput F.RUB_STAT_PARTS_DONE n).replyOk c opRubBlock

/-- RUBRIC_BLOCK (R465). -/
def execRubricBlock (c : Cmd) (t : Nat) (s : State) : Host.Outcome State Fault Refusal :=
  .next (s.runLane c t opRubBlock lvlOwner (stageLenOk c) (rubBlockOwn c) (rubBlockEffect c))

/-! ### Commit (R466) -/

/-- The folio part's image. -/
def State.rubFolio (s : State) : Option (Nat × List Byte) :=
  ((List.range s.rub.parts.length).find? fun p => byteAt ((mfEntries s.rub.manifest).getD p []) 0 == 7).map
    fun p => (p, (s.rub.parts.getD p ⟨0, []⟩).bytes)

/-- The first part that is incomplete, reads back another digest (`bad`), or is a folio that fails. -/
def State.commitBad (s : State) (bad : Option Nat) (folioSig : Bool) : Option Nat :=
  match (List.range s.rub.parts.length).find? fun p => !s.partDone p || bad == some p with
  | some p => some p
  | none => match s.rubFolio with
    | some (p, bs) =>
      if (s.stageCheck bs folioSig).result != 1 || s.ssmDiffers (parseFolio bs) then some p else none
    | none => none

/-- The checks of RUBRIC_COMMIT. -/
def rubCommitOwn (bad : Option Nat) (folioSig : Bool) (s : State) : Verdict :=
  refuseIf (s.rubState != rubReceiving) stBadParam noIndex <|
  refuseIf (s.lifecycle == lcLocked) stLocked noIndex <|
  match s.commitBad bad folioSig with
  | some p => .refuse stCheckFail p
  | none => .accept

/-- The check finds the signature of a folio part, which reads back its digest, not to verify. -/
def State.noteCommit (s : State) (c : Cmd) (bad : Option Nat) (folioSig : Bool) : State :=
  s.noteSig c opRubCommit lvlOwner c.params.isEmpty (match s.rubFolio with
    | some (p, bs) => s.sigFails bs folioSig && s.partDone p && bad != some p && rubCommitOwn bad folioSig s == .refuse stCheckFail p
    | none => false)

/-- RUBRIC_COMMIT: `bad` is the first part whose bank does not read back its DIGEST, `folioSig` the verdict on the
signature of a folio part. See log entry 8 (DESIGN CHOICE). -/
def execRubricCommit (c : Cmd) (bad : Option Nat) (folioSig : Bool) (t : Nat) (s : State) : Host.Outcome State Fault Refusal :=
  .next ((s.noteCommit c bad folioSig).runLane c t opRubCommit lvlOwner c.params.isEmpty (rubCommitOwn bad folioSig) fun s _ =>
    let s := { s with rub := { s.rub with folio := s.rubFolio.map fun (x : Nat × List Byte) => parseFolio x.2 } }
    (s.fput F.RUB_STAT_STATE rubCommitted).replyOk c opRubCommit)

/-! ### Activation (R467 to R469) -/

/-- The rows of R467; `readsBack` says that every element's bank still reads back its DIGEST. -/
def activateOwn (readsBack : Bool) (s : State) : Verdict :=
  refuseIf (s.rubState != rubCommitted) stBadParam noIndex <|
  refuseIf (!s.standstill) stMoving noIndex <|
  refuseIf (s.flag F.RPC_VIN_IN_WARNING || s.flag F.RPC_VBAK_LOW || s.flag F.RPC_VIN_BATT_LOW || !s.flag F.RPC_VIN_STORE_OK) stSupply noIndex <|
  refuseIf (s.lifecycle == lcLocked) stLocked noIndex <|
  refuseIf (s.role == roleActive) stRole noIndex <|
  refuseIf (s.switchPending || s.dup.swap.isSome || s.rub.storing.isSome) stBusy noIndex <|
  refuseIf (!readsBack) stCheckFail noIndex .accept

/-- RUBRIC_ACTIVATE: the record is ARMED, and the SYSTEM reset follows 10 ms after the reply (R467, R468). -/
def execRubricActivate (c : Cmd) (readsBack : Bool) (t : Nat) (s : State) : Host.Outcome State Fault Refusal :=
  .next (s.runLane c t opRubActivate lvlOwner c.params.isEmpty (activateOwn readsBack) fun s _ =>
    let s := { s with rub := { s.rub with record := .armed, active := s.rub.manifest, resetAt := some (s.mono + 10000000) } }
    (s.fsat F.RUB_COUNT_ACTIVATIONS).replyOk c opRubActivate)

/-- ACTIVATION_RESET: 10 ms after the reply (R467). -/
def execActivationReset (t : Nat) (s : State) : Host.Outcome State Fault Refusal :=
  let s := s.tick t
  match s.rub.resetAt with
  | some a => if a ≤ s.mono then .next (s.softReset swActivation) else .next s
  | none => .next s

/-- Codes of RUB_STAT.LAST_RESULT. -/
def rubConfirmed : Nat := 1
def rubStartCheck : Nat := 2
def rubTimeout : Nat := 3
def rubOther : Nat := 4

/-- Why a start finds TRIED: the reset that led to it. -/
def State.revertResult (s : State) : Nat :=
  if s.fget F.RST_CAUSE_SW_CAUSE == swStartCheck then rubStartCheck
  else if s.fget F.RST_CAUSE_SW_CAUSE == swRevert then rubTimeout
  else rubOther

/-- The first start since a reset reads the activation record: ARMED becomes TRIED and every part runs from its new
bank; TRIED becomes REVERTED and every element runs from its bank in force (R468). See log entry 60 (DEDUCED). -/
def State.readRecord (s : State) : State :=
  let s := { s with rub := { s.rub with started := true } }
  match s.rub.record with
  | .armed =>
    let s := { s with rub := { s.rub with
        record := .tried, trial := true, trialAt := s.mono, left := (mfElements s.rub.active).filter fun e => e / 256 != 7 } }
    match s.rub.folio with
    | some f => ({ s with folio := { s.folio with running := some f } }).showRunning
    | none => s
  | .tried =>
    let r := s.revertResult
    let s := { s with rub := { s.rub with record := .reverted, trial := false, manifest := [], parts := [], folio := none } }
    ((s.fput F.RUB_STAT_STATE rubNone).fput F.RUB_STAT_LAST_RESULT r).fsat F.RUB_COUNT_REVERTS
  | _ => s

/-- Every part has passed its first start: the rubric is in TRIAL (R471). -/
def State.trialEntry (s : State) : State :=
  if s.rub.trial && s.rub.left.isEmpty && s.rubState != rubTrial then
    (s.fput F.RUB_STAT_STATE rubTrial).hostEvent evStore
  else s

/-- ELEMENT_START: an element's start stage has read the record and chosen its bank; `ok` says that its start check has
passed. A part of the rubric that fails on the first start performs a further reset at once, after which RUB_FAIL names
it (DEDUCED, log entry 61; R455, R468, R469). In
warning the write of the record waits, and the start with it (R494). -/
def execElementStart (part inst : Nat) (ok : Bool) (t : Nat) (s : State) : Host.Outcome State Fault Refusal :=
  let s := s.tick t
  if !s.rub.started && s.flag F.RPC_VIN_IN_WARNING then .next (s.dipFlag 1) else
  let s := if s.rub.started then s else s.readRecord
  let e := part * 256 + inst
  let s := { s with vellum := { s.vellum with measures := s.vellum.measures.filter fun m => !(m.part == part && m.inst == inst) } }
  if s.rub.trial && s.rub.left.contains e && !ok then
    .next (((s.softReset swStartCheck).fput F.RUB_FAIL_PART part).fput F.RUB_FAIL_INSTANCE inst)
  else .next ({ s with rub := { s.rub with left := s.rub.left.filter (· != e) } }).trialEntry

/-! ### Trial and confirmation (R470) -/

/-- The trial's ten minutes have passed. -/
def State.trialOver (s : State) : Bool := decide (s.rub.trialAt + 600000000000 < s.mono)

/-- The replies of R470; a confirm at the instant at which the trial ends still confirms. -/
def confirmOwn (s : State) : Verdict :=
  refuseIf (s.rubBusy && s.trialOver) stTimeout noIndex <|
  refuseIf (!s.rubBusy) stBadParam noIndex <|
  refuseIf (!s.supplyGood) stSupply noIndex <|
  refuseIf (s.lifecycle == lcLocked) stLocked noIndex .accept

/-- A counter is raised to a value when it is lower (R182, R444, R470). -/
def State.raiseCounter (s : State) (i v : Nat) : State := if s.rbCounter i < v then s.fput (F.SEC_RB_VALUE i) v else s

/-- The new banks become the banks in force, the counters are raised, and a folio part is the folio of the slot record
(R468, R470). -/
def confirmEffect (c : Cmd) (s : State) (_ : Nat) : State :=
  let m := s.rub.active
  let banks := (mfElements m).foldl (fun (bs : List (Nat × Nat)) e => cellIns bs e (1 - (assoc bs e).getD 0)) s.rub.banks
  let s := s.raiseCounter (mfIndex m) (mfValue m)
  let s := match s.rub.folio with
    | some f => ({ s with rub := { s.rub with recorded := some f } }).raiseCounter f.rbIndex f.rbValue
    | none => s
  let s := { s with rub := { s.rub with banks := banks, record := .confirmed, trial := false, manifest := [], parts := [], folio := none } }
  ((s.fput F.RUB_STAT_STATE rubNone).fput F.RUB_STAT_LAST_RESULT rubConfirmed).replyOk c opRubConfirm

/-- RUBRIC_CONFIRM (R470). -/
def execRubricConfirm (c : Cmd) (t : Nat) (s : State) : Host.Outcome State Fault Refusal :=
  .next (s.runLane c t opRubConfirm lvlOwner c.params.isEmpty confirmOwn (confirmEffect c))

/-- TRIAL_EXPIRE: ten minutes after the first start the rubric is REVERT_PENDING (R470, R471). -/
def execTrialExpire (t : Nat) (s : State) : Host.Outcome State Fault Refusal :=
  let s := s.tick t
  if s.rubState == rubTrial && decide (s.rub.trialAt + 600000000000 ≤ s.mono) then
    .next ((s.fput F.RUB_STAT_STATE rubRevert).hostEvent evStore)
  else .next s

/-- REVERT_RESET: at the first standstill in REVERT_PENDING (R470). -/
def execRevertReset (t : Nat) (s : State) : Host.Outcome State Fault Refusal :=
  let s := s.tick t
  if s.rubState == rubRevert && s.standstill then .next (s.softReset swRevert) else .next s

end Sys2Proof.Machine
end

