-- ==== Sys2Proof/Machine/Stop.lean ====
section
/-! DEFINITION. Safe stop: the two paths (R249 to R264), the contacts and the permit vote (R265 to R267), and the
parameter record (R269 to R275). Both paths are timed on the local monotonic time. -/

namespace Sys2Proof.Machine

/-! ### States and causes (SSM_STATE) -/

def stUnloaded : Nat := 0
def stHeld : Nat := 1
def stPermit : Nat := 2
def stStopping : Nat := 3
def stFault : Nat := 4

def cStandstill : Nat := 1
def cTmax : Nat := 2
def cEnvelope : Nat := 3
def cDiscrepancy : Nat := 4
def cSensor : Nat := 5
def cParity : Nat := 6
def cOsc : Nat := 7
def cVote : Nat := 8
def cStuck : Nat := 9
def cMismatch : Nat := 0xA
def cHeartbeat : Nat := 0xB

/-! ### The record (R269) -/

def recVss (r : List Byte) : Nat := leAt r 4 4
def recAmin (r : List Byte) : Nat := leAt r 8 4
def recTol (r : List Byte) : Nat := leAt r 12 4
def recTmax (r : List Byte) : Nat := leAt r 16 4
def recPpm (r : List Byte) (b : Bool) : Nat := leAt r (if b then 24 else 20) 4
def recDisc (r : List Byte) : Nat := leAt r 28 2
def recDiscAbs (r : List Byte) : Nat := leAt r 30 2
def recTimeout (r : List Byte) : Nat := leAt r 32 2
def recReqDisc (r : List Byte) : Nat := leAt r 34 2

/-! ### Speed (R254, R255) -/

/-- The 2 s of silence (R254). -/
def silenceNs : Nat := 2000000000

/-- A counting period as a fraction of ns: 62.5 ns in the SSM, 1.6 ns in the lanes (R255). -/
structure Period where
  num : Nat
  den : Nat

def ssmPeriod : Period := ⟨125, 2⟩
def lanePeriod : Period := ⟨8, 5⟩

/-- An interval in ns as the whole periods that a path counts. See log entry 40 (DEDUCED). -/
def periods (p : Period) (from_ to_ : Nat) : Nat := to_ * p.den / p.num - from_ * p.den / p.num

/-- The sensor has been silent for 2 s: no edge since, counted from the path's start where there was none. -/
def SpeedSensor.silent (x : SpeedSensor) (start now : Nat) : Bool := decide (max (x.last.getD 0) start + silenceNs ≤ now)

/-- The speed of a sensor in µm/s (R254): 10^18 ÷ (PPM × the greater of the last interval and the time since, in ns).
See log entry 40 (DEDUCED). -/
def sensorSpeed (p : Period) (ppm start now : Nat) (x : SpeedSensor) : Nat :=
  match x.last with
  | some l =>
    if x.count < 2 || x.prev < start || x.silent start now then 0
    else
      let n := max (periods p x.prev l) (periods p l now)
      if n == 0 || ppm == 0 then 0 else 10 ^ 18 * p.den / (ppm * n * p.num)
  | none => 0

/-- A rising edge (R254). -/
def SpeedSensor.edge (x : SpeedSensor) (now : Nat) : SpeedSensor :=
  match x.last with
  | some l => if l + silenceNs ≤ now then ⟨1, some now, now⟩ else ⟨x.count + 1, some now, l⟩
  | none => ⟨1, some now, now⟩

/-- SPEED_EDGE: a rising edge on SPD_A or SPD_B, timed by each path (R254). -/
def execSpeedEdge (sensorB : Bool) (t : Nat) (s : State) : Host.Outcome State Fault Refusal :=
  let s := s.tick t
  if sensorB then .next { s with ssm := { s.ssm with speedB := s.ssm.speedB.edge s.mono } }
  else .next { s with ssm := { s.ssm with speedA := s.ssm.speedA.edge s.mono } }

/-! ### Requests (R253, R257 to R259) -/

/-- Request channel `i`. -/
def SsmState.req (x : SsmState) (i : Nat) : ReqChannel := x.reqs.getD i ⟨false, 0⟩

/-- Some channel's OFF run has reached 1 ms (R257). -/
def SsmState.offRun (x : SsmState) (now : Nat) : Bool := x.reqs.any fun r => !r.on && decide (r.since + 1000000 ≤ now)

/-- All four channels have read ON for 100 ms (R259). -/
def SsmState.allOn (x : SsmState) (now : Nat) : Bool := x.reqs.all fun r => r.on && decide (r.since + 100000000 ≤ now)

/-- The two channels of an input have differed for longer than `ms` (R258). -/
def SsmState.reqDiffer (x : SsmState) (i ms now : Nat) : Bool :=
  let a := x.req (2 * i)
  let b := x.req (2 * i + 1)
  a.on != b.on && decide (max a.since b.since + ms * 1000000 < now)

/-- The hold of an input after its channels changed: first both OFF, then both ON (R258). -/
def holdStep (h : Nat) (a b : Bool) : Nat :=
  if h == 1 && !a && !b then 2 else if h == 2 && a && b then 0 else h

/-- Inputs 1 and 2 of a path record a discrepancy that is there now, by the parameters `r` (R258). -/
def StopPath.note (p : StopPath) (x : SsmState) (r : List Byte) (now : Nat) : StopPath :=
  { p with
    hold1 := if x.reqDiffer 0 (recReqDisc r) now then 1 else p.hold1
    hold2 := if x.reqDiffer 1 (recReqDisc r) now then 1 else p.hold2 }

/-- A path whose request channels change from those of `x` to those of `y`: a discrepancy and an OFF run that end now are
kept for the next evaluation, and the holds follow (R257, R258). `r`: the path's parameters, once it has some. -/
def StopPath.inputs (p : StopPath) (x y : SsmState) (r : Option (List Byte)) (now : Nat) : StopPath :=
  let p := match r with
    | some r => p.note x r now
    | none => p
  { p with
    offRan := p.offRan || x.offRun now
    hold1 := holdStep p.hold1 (y.req 0).on (y.req 1).on, hold2 := holdStep p.hold2 (y.req 2).on (y.req 3).on }

/-- The stop supervisors of all lanes. -/
def State.eachStop (s : State) (k : StopPath → StopPath) : State :=
  allLanes.foldl (fun s l => s.setLane l { s.lane l with stop := k (s.lane l).stop }) s

/-- STOP_REQUEST_INPUT: a stop-request channel changes (R257, R258). -/
def execStopRequestInput (i : Nat) (on : Bool) (t : Nat) (s : State) : Host.Outcome State Fault Refusal :=
  let s := s.tick t
  if 4 ≤ i || (s.ssm.req i).on == on then .next s else
  let x := s.ssm
  let y := { x with reqs := x.reqs.set i ⟨on, s.mono⟩ }
  let s := { s with ssm := { y with path := x.path.inputs x y x.record s.mono } }
  let r := s.folio.running.map (·.ssmDecl)
  .next ((s.eachStop fun p => p.inputs x y r s.mono).fput F.SSM_STATE_SREQ
    (((List.range 4).map fun i => bit (y.req i).on * 2 ^ i).foldl (· + ·) 0))

/-! ### One evaluation of a path (R257 to R265) -/

/-- What an evaluation reads and finds: speeds, faults by cause, the request, and the end of a stop. -/
structure StopView where
  now : Nat
  va : Nat
  vb : Nat
  v : Nat
  /-- The first cause of a fault found, if any (R262). -/
  fault : Option Nat
  request : Bool
  /-- Both sensors have been silent for 2 s (R263). -/
  silent : Bool

/-- Since when a condition has held at every evaluation. -/
def heldSince (c : Bool) (was : Option Nat) (now : Nat) : Option Nat := if c then some (was.getD now) else none

/-- A run has reached `ns`. -/
def ranFor (since : Option Nat) (ns now : Nat) : Bool :=
  match since with
  | some a => decide (a + ns ≤ now)
  | none => false

/-- One sensor shows no edge for TIMEOUT while the other's speed is at least 2 × V_SS (R261). -/
def sensorTimeout (r : List Byte) (start now : Nat) (x : SpeedSensor) (other : Nat) : Bool :=
  decide (max (x.last.getD 0) start + recTimeout r * 1000000 ≤ now) && decide (2 * recVss r * 1000 ≤ other)

/-- The path's memory after reading the sensors and contacts at an evaluation (R258, R260, R261, R265). `stuck`: the
other path's contact reads closed while that path reports it open. See log entry 40 (DEDUCED). -/
def StopPath.read (p : StopPath) (x : SsmState) (r : List Byte) (va vb now : Nat) (stuck : Bool) : StopPath :=
  let v := max va vb
  let vss := recVss r * 1000
  let gap := if va ≤ vb then vb - va else va - vb
  let off := vss ≤ v && max (recDisc r * v / 1000) (recDiscAbs r * 1000) < gap
  { p.note x r now with
    below := heldSince (v < vss) p.below now
    differ := heldSince off p.differ now
    stuck := heldSince stuck p.stuck now }

/-- A stop request stands: begun by an OFF run, ended when withdrawn (R257, R259). -/
def StopPath.request (p : StopPath) (x : SsmState) (now : Nat) : Bool :=
  if p.offRan || x.offRun now then true else p.requested && !(x.allOn now && p.hold1 == 0 && p.hold2 == 0)

/-- The sensor faults of a path that has read, in the order of R262. -/
def StopPath.sensorFault (p : StopPath) (x : SsmState) (r : List Byte) (va vb now : Nat) : Option Nat :=
  let fast := recVss r * 1000 ≤ max va vb
  if ranFor p.differ 100000000 now then some cDiscrepancy
  else if fast && (sensorTimeout r p.since now x.speedA vb || sensorTimeout r p.since now x.speedB va) then some cSensor
  else none

/-- The end of a stop under R260, first row first. -/
def StopPath.stopEnd (p : StopPath) (r : List Byte) (v now : Nat) : Option Nat :=
  let limit : Int := (p.v0 : Int) - ((recAmin r * (now - p.ts) / 1000000 : Nat) : Int) + ((recTol r * 1000 : Nat) : Int)
  if limit < (v : Int) then some cEnvelope
  else if ranFor p.below 200000000 now then some cStandstill
  else if recTmax r * 1000000 ≤ now - p.ts then some cTmax
  else none

/-- A cause that clears only at POR (R263). -/
def porOnly (c : Nat) : Bool := c != cDiscrepancy && c != cSensor

/-- State and cause after one evaluation of a loaded path (R260, R262, R263, R264, R277). `leave`: what else leaving HELD
asks for; `lost`: the heartbeat has been absent for 1 ms (the SSM only), or the lane's record does not match, with the
cause that this reports. See log entry 41 (DEDUCED). -/
def stopNext (st cause : Nat) (p : StopPath) (r : List Byte) (w : StopView) (leave : Bool) (lost : Option Nat) : Nat × Nat :=
  match w.fault with
  | some f =>
    if st != stFault then (stFault, f)
    else if !porOnly cause && porOnly f then (stFault, f) else (st, cause)
  | none =>
    if st == stFault then (if !porOnly cause && w.silent && !w.request then (stHeld, cause) else (st, cause))
    else if st == stHeld then (if leave && !w.request then (stPermit, cause) else (st, cause))
    else match lost with
      | some c => (stHeld, c)
      | none =>
        if st == stPermit then (if w.request then (stStopping, cause) else (st, cause))
        else if st == stStopping then
          (match p.stopEnd r w.v w.now with
           | some c => (stHeld, c)
           | none => (st, cause))
        else (st, cause)

/-! ### The SSM (R260 to R263, R275) -/

/-- STO2 is closed in PERMIT and STOPPING (R263). -/
def stoClosed (st : Nat) : Bool := st == stPermit || st == stStopping

/-- The SSM enters a state, with its registers, its contact and the log (R263, R413). -/
def State.putSsm (s : State) (st cause : Nat) : State :=
  let was := s.fget F.SSM_STATE_STATE
  let s := (s.fput F.SSM_STATE_STATE st).fput F.SSM_STATE_CAUSE cause
  let s := { s with ssm := { s.ssm with sto2 := stoClosed st } }
  let s := (s.fput F.SSM_STATE_STO2_CLOSED (bit (stoClosed st))).fput F.STO1_STAT_STO2_CLOSED (bit (stoClosed st))
  if was == st then s else (s.logReg 0x0030 codeSsm R.SSM_STATE).hostEvent evSsm

/-- The counters and records of a change of state: entries into STOPPING and FAULT, and the end of a stop (SSM_COUNTS,
SSM_STOP_LAST, SSM_V0). `stopCause` is the stop's own end cause. -/
def State.ssmCount (s : State) (old new cause stopCause v now : Nat) : State :=
  let s := if new == stFault && old != stFault then s.fsat F.SSM_COUNTS_FAULTS else s
  let s := if new == stStopping && old != stStopping then
      let p := { s.ssm.path with ts := now, v0 := v }
      ({ s with ssm := { s.ssm with path := p } }.fsat F.SSM_COUNTS_STOPS).fputSat F.SSM_V0_V0 (v / 1000)
    else s
  if old == stStopping && new != stStopping then
    let e := if new == stFault then cause else stopCause
    let s := (s.fput F.SSM_STOP_LAST_END e).fputSat F.SSM_STOP_LAST_DURATION ((now - s.ssm.path.ts) / 1000000)
    if e == cEnvelope then s.fsat F.SSM_COUNTS_ENVELOPE else s
  else s

/-- The SSM sees the heartbeat present, and since when it has been so or absent (R251, R263). -/
def State.heartbeat (s : State) : Bool := s.flag F.STO1_STAT_HEARTBEAT
def State.hbFor (s : State) (ns : Nat) : Bool := decide (s.ssm.hbAt + ns ≤ s.mono)

/-- MOTION (R275): 0 UNKNOWN, 1 STANDSTILL, 2 MOVING. -/
def motion (x : SsmState) (st cause now : Nat) : Nat :=
  if x.record.isNone then (if x.speedA.silent x.path.since now && x.speedB.silent x.path.since now then 1 else 0)
  else if st == stFault && !porOnly cause then 0
  else if ranFor x.path.below 1000000000 now then 1 else 2

/-- The faults of the SSM at an evaluation, in the order of R262. -/
def State.ssmFault (s : State) (p : StopPath) (r : List Byte) (va vb : Nat) : Option Nat :=
  if s.vote.failWire then some cVote
  else if s.ssm.parityFault then some cParity
  else if s.ssm.oscFault then some cOsc
  else if ranFor p.stuck 5000000 s.mono then some cStuck
  else p.sensorFault s.ssm r va vb s.mono

/-- An evaluation of a loaded SSM. `sto1` is its readback of STO1. -/
def State.ssmEval (s : State) (r : List Byte) (sto1 : Bool) : State :=
  let now := s.mono
  let x := s.ssm
  let va := sensorSpeed ssmPeriod (recPpm r false) x.path.since now x.speedA
  let vb := sensorSpeed ssmPeriod (recPpm r true) x.path.since now x.speedB
  let p := x.path.read x r va vb now (sto1 && !s.heartbeat)
  let p := { p with requested := p.request x now, offRan := false }
  let w : StopView := ⟨now, va, vb, max va vb, s.ssmFault p r va vb, p.requested,
    x.speedA.silent p.since now && x.speedB.silent p.since now⟩
  let st := s.fget F.SSM_STATE_STATE
  let lost := if !s.heartbeat && s.hbFor 1000000 then some cHeartbeat else none
  let (st', c') := stopNext st (s.fget F.SSM_STATE_CAUSE) p r w (s.heartbeat && s.hbFor 10000000) lost
  let s := { s with ssm := { x with path := p } }
  let stopCause := (p.stopEnd r w.v now).getD c'
  let s := (s.ssmCount st st' c' stopCause w.v now).putSsm st' c'
  let s := (s.fputSat F.SSM_SPEED_A_SPEED (va / 1000)).fputSat F.SSM_SPEED_B_SPEED (vb / 1000)
  s.fput F.SSM_STATE_SREQ_DISC (bit (p.hold1 != 0) + 2 * bit (p.hold2 != 0))

/-- SSM_EVALUATION: every 250 µs of its oscillator the SSM evaluates and drives STO2 (R255, R260 to R263, R275).
`welded`: STO1 conducts though its driver holds it open. See log entry 39 (DESIGN CHOICE). -/
def execSsmEvaluation (welded : Bool) (t : Nat) (s : State) : Host.Outcome State Fault Refusal :=
  let s := s.tick t
  if !s.powered pdSsm then .next s else
  let sto1 := s.ssm.sto1 || welded
  let s := s.report pdSsm
  let s := (s.fput F.SSM_STATE_STO1_CLOSED (bit sto1)).fput F.SSM_STATE_HEARTBEAT (bit s.heartbeat)
  let s := match s.ssm.record with
    | some r => s.ssmEval r sto1
    | none => s
  .next (s.fput F.SSM_STATE_MOTION (motion s.ssm (s.fget F.SSM_STATE_STATE) (s.fget F.SSM_STATE_CAUSE) s.mono))

/-- SSM_OSC_CHECK: every 100 ms the RC oscillator is compared with the crystal; above 5 % is a fault (R256). The
deviation is in units of 0.01 %. -/
def execSsmOscCheck (deviation : Int) (t : Nat) (s : State) : Host.Outcome State Fault Refusal :=
  let s := s.tick t
  let s := s.fput F.SSM_OSC_DEVIATION (BitVec.ofInt 16 deviation).toNat
  if 500 < deviation.natAbs then .next { s with ssm := { s.ssm with oscFault := true } } else .next s

/-- SSM_PARITY_CHECK: every 10 ms the locked record's parity and CRC; an error is a fault with cause PARITY at the
evaluation that takes it, which opens STO2 (R262, R268, R272). See log entry 41 (DEDUCED). -/
def execSsmParityCheck (bad : Bool) (t : Nat) (s : State) : Host.Outcome State Fault Refusal :=
  let s := s.tick t
  if !bad || s.ssm.record.isNone || !s.powered pdSsm then .next s
  else .next { s with ssm := { s.ssm with parityFault := true } }

/-! ### The lane supervisors (R264, R273) -/

/-- Each comparison of R273 in lane `l`: the locked record against the running folio's SSMDECL. -/
def State.compareStop (s : State) (l : Lane) : State :=
  let ok := match s.ssm.record, s.folio.running with
    | some r, some f => r == f.ssmDecl
    | _, _ => false
  s.fput (F.LANE_STOP_MATCH l) (bit ok)

/-- The comparison in every lane whose domain is on (R273). -/
def State.compareStops (s : State) : State := (allLanes.filter fun l => s.powered (pdLane l)).foldl (fun s l => s.compareStop l) s

/-- A lane that enters VOTING compares, and is kept from the permit vote when it does so while another voting lane's
supervisor is in STOPPING (R266, R273). -/
def State.enterPermits (s : State) (l : Lane) : State :=
  let s := s.compareStop l
  s.setLane l { s.lane l with barred := s.voters.any fun m => m != l && s.fget (F.LANE_STOP_STATE m) == stStopping }

/-- A lane's supervisor enters a state. -/
def State.putLaneStop (s : State) (l : Lane) (st cause : Nat) : State :=
  ((s.fput (F.LANE_STOP_STATE l) st).fput (F.LANE_STOP_CAUSE l) cause).fput (F.LANE_STOP_PERMIT l) (bit (stoClosed st))

/-- An evaluation of a lane supervisor with the parameters `r` of the running folio. `sto2` is its readback of STO2. -/
def State.laneEval (s : State) (l : Lane) (r : List Byte) (sto2 : Bool) : State :=
  let now := s.mono
  let x := s.ssm
  let p := (s.lane l).stop
  let va := sensorSpeed lanePeriod (recPpm r false) p.since now x.speedA
  let vb := sensorSpeed lanePeriod (recPpm r true) p.since now x.speedB
  let p := p.read x r va vb now (sto2 && !stoClosed (s.fget F.SSM_STATE_STATE))
  let p := { p with requested := p.request x now, offRan := false }
  let fault := if ranFor p.stuck 5000000 now then some cStuck else p.sensorFault x r va vb now
  let w : StopView := ⟨now, va, vb, max va vb, fault, p.requested, x.speedA.silent p.since now && x.speedB.silent p.since now⟩
  let st := s.fget (F.LANE_STOP_STATE l)
  let ok := s.flag (F.LANE_STOP_MATCH l)
  let (st', c') := stopNext st (s.fget (F.LANE_STOP_CAUSE l)) p r w ok (if ok then none else some cMismatch)
  let c' := if !ok && st' == stHeld then cMismatch else if ok && c' == cMismatch then 0 else c'
  let p := if st' == stStopping && st != stStopping then { p with ts := now, v0 := w.v } else p
  (s.setLane l { s.lane l with stop := p }).putLaneStop l st' c'

/-- 250 µs. -/
def us250 : Nat := 250000

/-- LANE_STOP_EVALUATION: at each instant that is a multiple of 250 µs a powered lane's supervisor evaluates; it leaves
UNLOADED only while its record matches (R255, R264, R273). `welded`: STO2 conducts though the SSM holds it open. -/
def execLaneStopEvaluation (l : Lane) (welded : Bool) (t : Nat) (s : State) : Host.Outcome State Fault Refusal :=
  let s := s.tick t
  if !s.powered (pdLane l) || t % us250 != 0 then .next s else
  let sto2 := s.ssm.sto2 || welded
  let s := s.fput F.STO1_STAT_STO2_CLOSED (bit sto2)
  if s.fget (F.LANE_STOP_STATE l) == stUnloaded then
    if s.flag (F.LANE_STOP_MATCH l) then .next (s.putLaneStop l stHeld 0) else .next (s.putLaneStop l stUnloaded cMismatch)
  else match s.folio.running with
    | some f => .next (s.laneEval l f.ssmDecl sto2)
    | none => .next (s.putLaneStop l stUnloaded cMismatch)

/-! ### The permit vote and STO1 (R266, R267) -/

/-- The other voting lanes' supervisors have not reached their next HELD or PERMIT since lane `l` was kept from the vote
(R266). -/
def State.stillBarred (s : State) (l : Lane) : Bool :=
  (s.lane l).barred && s.voters.any fun m => m != l && !(s.fget (F.LANE_STOP_STATE m) == stHeld || s.fget (F.LANE_STOP_STATE m) == stPermit)

/-- Lane `l` takes part in the permit vote: a voting lane that is not kept from it (R266). -/
def State.taking (s : State) (l : Lane) : Bool := s.isVoting l && !s.stillBarred l

/-- TAKING and PERMIT as the vote shows them. -/
def State.showPermits (s : State) : State :=
  let ts := allLanes.filter s.taking
  let s := ts.foldl (fun (s : State) l => s.setLane l { s.lane l with barred := false }) s
  let s := allLanes.foldl (fun s l => s.fput (F.LANE_STOP_TAKING l) (bit (ts.contains l))) s
  (s.fput F.STO1_STAT_TAKING (laneMask ts)).fput F.STO1_STAT_PERMIT (laneMask (allLanes.filter fun l => s.flag (F.LANE_STOP_PERMIT l)))

/-- The lane of three whose permit differs from both others (R267). -/
def oddPermit : List (Lane × Bool) → Option Lane
  | [(l1, x), (l2, y), (l3, z)] => if x == y && y == z then none else if x == y then some l3 else if x == z then some l2 else some l1
  | _ => none

/-- The permit-difference counter of a lane (STO1_DIS). -/
def disField : Lane → Field
  | .a => F.STO1_DIS_LANE_A
  | .b => F.STO1_DIS_LANE_B
  | .c => F.STO1_DIS_LANE_C

/-- Differences of the permits: an onset counts, and a lane odd at two consecutive evaluations is excluded with cause
DISAGREE (R267). -/
def State.permitDiffs (s : State) (ps : List (Lane × Bool)) : State :=
  let differ := ps.any (·.2) && ps.any (fun p => !p.2)
  let odd := oddPermit ps
  let was := s.ssm.odd
  let s := if differ && !s.ssm.differed then
      (match odd with
       | some l => s.fsat (disField l)
       | none => ps.foldl (fun s p => s.fsat (disField p.1)) s)
    else s
  let s := { s with ssm := { s.ssm with odd := odd, differed := differ } }
  match odd with
  | some l => if was == some l then s.excludeCheck l .disagree 0 else s
  | none => s

/-- The permits give a majority for TRUE: two of three, or both of two (R266). -/
def permitMajority (ps : List (Lane × Bool)) : Bool :=
  decide (2 ≤ ps.length) && decide (2 ≤ (ps.filter (·.2)).length)

/-- PERMIT_VOTE: the STO1 logic votes the permits of the taking lanes and drives the heartbeat while EN is 1, the module
has not failed, the lifecycle state is not BENCH and the majority is TRUE (R266, R267). The contact closes with the
heartbeat. See log entry 41 (DEDUCED). -/
def execPermitVote (t : Nat) (s : State) : Host.Outcome State Fault Refusal :=
  let s := s.tick t
  let s := s.showPermits
  let ps := (allLanes.filter fun l => s.flag (F.LANE_STOP_TAKING l)).map fun l => (l, s.flag (F.LANE_STOP_PERMIT l))
  let bench := s.lifecycle == lcBench
  let on := s.flag F.VOTE_CTRL_EN && !s.flag F.VOTE_CTRL_FAILED && !bench && permitMajority ps
  let s := (s.setHeartbeat on).fput F.STO1_STAT_BENCH_HOLD (bit bench)
  let s := if on then { s with ssm := { s.ssm with sto1 := true } }.fput F.STO1_STAT_STO1_CLOSED 1 else s
  .next (s.permitDiffs ps)

/-- STO1_HEARTBEAT_LOSS: 1 ms after the last heartbeat edge the driver opens the contact (R266).
See log entry 41 (DEDUCED). -/
def execSto1HeartbeatLoss (t : Nat) (s : State) : Host.Outcome State Fault Refusal :=
  let s := s.tick t
  if !s.heartbeat && s.hbFor 1000000 then
    .next ({ s with ssm := { s.ssm with sto1 := false } }.fput F.STO1_STAT_STO1_CLOSED 0)
  else .next s

/-! ### Loading the record (R271, R272, R274) -/

def opSsmParamLoad : Nat := 0x0502

/-- The record that a load carries. -/
def loadRecord (c : Cmd) : List Byte := slice c.params 4 48

/-- The partner is reachable, and its last HELLO gives role ACTIVE (R422, R423). -/
def State.partnerActive (s : State) : Bool := s.flag F.DUP_STAT_SEEN && byteAt s.dup.hello 1 == 1

/-- A load in motion is allowed by R274. -/
def State.loadInMotion (s : State) (r : List Byte) : Bool :=
  (s.role == roleResync || s.role == roleStandby) && s.partnerActive && leAt r 44 4 == leAt s.dup.hello 76 4

/-- The steps of R271, in order. -/
def paramLoadOwn (c : Cmd) (sigOk : Bool) (s : State) : Verdict :=
  let slot := byteAt c.params 0
  refuseIf (!allZero (slice c.params 1 3)) stBadParam noIndex <|
  refuseIf (!ssmRecordOk (loadRecord c)) stCheckFail noIndex <|
  refuseIf (7 < slot || !s.slotEnrolled slot || !sigOk) stSigFail noIndex <|
  refuseIf s.ssm.record.isSome stLocked noIndex <|
  refuseIf (!s.standstill && !s.loadInMotion (loadRecord c)) stMoving noIndex .accept

/-- The check finds a load's signature not to verify under an enrolled key. -/
def State.noteLoad (s : State) (c : Cmd) (sigOk : Bool) : State :=
  s.noteSig c opSsmParamLoad lvlEngineer (c.params.length == 52 + sigBlockLen)
    (s.slotEnrolled (byteAt c.params 0) && !sigOk && paramLoadOwn c sigOk s == .refuse stSigFail noIndex)

/-- A load that was accepted before another locked: OK when it equals the locked record, else REFUSED_LOCKED (R272). -/
def State.lateLoad (s : State) (r : List Byte) (p : ParamLoad) : State :=
  if p.record == r then s.replyOk p.cmd opSsmParamLoad else s.replyErr p.cmd opSsmParamLoad stLocked noIndex

/-- An accepted load waits for its turn, or is answered by the record that has locked since (R272). -/
def State.takeLoad (s : State) (p : ParamLoad) : State :=
  match s.ssm.record with
  | some r => s.lateLoad r p
  | none => { s with ssm := { s.ssm with loads := s.ssm.loads ++ [p] } }

/-- SSM_PARAM_LOAD: an accepted load waits for its turn on the parameter wires (R271, R272). `sigOk`: both signatures
verify under the key of KEY_SLOT (DESIGN CHOICE, log entry 8). -/
def execSsmParamLoad (c : Cmd) (sigOk : Bool) (t : Nat) (s : State) : Host.Outcome State Fault Refusal :=
  .next ((s.noteLoad c sigOk).runLane c t opSsmParamLoad lvlEngineer (c.params.length == 52 + sigBlockLen) (paramLoadOwn c sigOk)
    (fun s _ => s.takeLoad ⟨c, loadRecord c, s.mono⟩))

/-- SSM_PARAM_LOCK: within 10 ms two lanes deliver the first load's record and the SSM locks it: HELD, the readback
answers, later loads are answered, and the lanes compare (R272, R273). -/
def execSsmParamLock (t : Nat) (s : State) : Host.Outcome State Fault Refusal :=
  let s := s.tick t
  match s.ssm.loads with
  | p :: rest =>
    if s.ssm.record.isSome || s.voters.length < 2 || !s.powered pdSsm || p.since + 10000000 < s.mono then .next s else
    let path := { stopReset with since := s.mono, requested := s.ssm.path.requested }
    let s := { s with ssm := { s.ssm with record := some p.record, loads := [], path := path } }
    let s := (s.fput F.SSM_PARAM_CRC_CRC (leAt p.record 44 4)).fput F.SSM_STATE_LOCKED 1
    let s := (s.putSsm stHeld (s.fget F.SSM_STATE_CAUSE)).replyOk p.cmd opSsmParamLoad
    .next ((rest.foldl (fun s q => s.lateLoad p.record q) s).compareStops)
  | [] => .next s

/-- SSM_LOCK_TIMEOUT: no two lanes agree within 10 ms, and the first load is answered TIMEOUT (R272). -/
def execSsmLockTimeout (t : Nat) (s : State) : Host.Outcome State Fault Refusal :=
  let s := s.tick t
  match s.ssm.loads with
  | p :: rest =>
    if s.mono < p.since + 10000000 then .next s else
    let rest := match rest with
      | q :: qs => { q with since := s.mono } :: qs
      | [] => []
    .next ({ s with ssm := { s.ssm with loads := rest } }.replyErr p.cmd opSsmParamLoad stTimeout noIndex)
  | [] => .next s

end Sys2Proof.Machine
end

