-- ==== Sys2Proof/Machine/Joining.lean ====
section
/-! DEFINITION. How a lane joins the vote and leaves it at a seam: the initial memory, the transfer of state (R62 to R66),
and the withdrawal of a lane with a latent divergence (R61). -/

namespace Sys2Proof.Machine

/-! ### Task registers of a lane -/

/-- TASK_STAT of a declared task in a lane, apart from FAULT and DIVZ. See log entry 31 (DEDUCED). -/
def State.showTask (s : State) (r : TaskRec) (st : TaskSt) (l : Lane) : State :=
  let b := s.book r.task
  let n := r.task
  let s := ((s.fput (F.TASK_STAT_LIMIT l n) r.limit).fput (F.TASK_STAT_CONSEC l n) (min b.consec 15)).fput (F.TASK_STAT_EVENT l n) (bit r.event)
  let s := ((s.fput (F.TASK_STAT_EP l n) r.ep).fput (F.TASK_STAT_PRIORITY l n) r.priority).fput (F.TASK_STAT_PENDING l n) (bit b.pend.isSome)
  s.setTaskSt l n st

/-- Every task of a folio is IDLE in a lane. -/
def State.showTasks (s : State) (f : Folio) (l : Lane) : State := f.tasks.foldl (fun s r => s.showTask r .idle l) s

/-! ### Starting a lane's memory (R62, R64, R150, R164) -/

/-- A lane starts the running folio with initial values and new instances. See log entry 31 (DEDUCED). -/
def State.startMemory (s : State) (f : Folio) (l : Lane) : State :=
  let x := s.lane l
  (s.setLane l { x with mem := (carryLane l f none []).mem, execs := [], wrote := [] }).showTasks f l

/-- The memory of lane `l` after a transfer from lane `src`: the covered segments in the destination's own layout, the
others as a start gives them (R64). -/
def State.xferMemory (s : State) (f : Folio) (src l : Lane) : List Host.Cell :=
  copyLines src l f (s.lane src).mem (carryLane l f none []).mem f.xferLines

/-- LANE_TRANSLATION_COMPLETE: the lane has verified the running folio's code and translated it. Before the vote
enables, and whenever the lane holds no hash of the running folio, the hash of the native image is recorded; otherwise
a differing hash excludes the lane (R62, R144, R173). `bad` is the hash of an image that is not what the translation
gives. With no folio running there is no image. See log entry 11 (DESIGN CHOICE). See log entry 69 (DEDUCED). -/
def execLaneTranslationComplete (l : Lane) (bad : Option DWord) (t : Nat) (s : State) : Host.Outcome State Fault Refusal :=
  let s := s.tick t
  if s.laneSt l != .translating then .next s
  else match s.folio.running with
    | none => .next (s.laneReady l)
    | some f =>
      let hash := bad.getD (s.imageHash f l)
      let s := s.showVerify f l
      let kept := if s.flag F.VOTE_CTRL_EN then (s.lane l).xlatHash else none
      if kept.isSome && kept != some hash then .next (s.excludeCheck l .startCheck 0)
      else .next (((s.setLane l { s.lane l with xlatHash := some hash }).showHash l hash).laneReady l)

/-- The final delta has landed in lane `l`: it holds the source's state and bookkeeping (R64). -/
def State.landDelta (s : State) (src l : Lane) : State :=
  let s := match s.folio.running with
    | none => s
    | some f =>
      let s := s.sendXfer src l f (s.lane l).xferLeft
      let x := s.lane l
      let s := s.setLane l { x with mem := s.xferMemory f src l, execs := [], wrote := [], copying := [], rewritten := [] }
      let s := s.showTasks f l
      f.tasks.foldl (fun (s : State) (r : TaskRec) => s.fput (F.TASK_STAT_DIVZ l r.task) (s.fget (F.TASK_STAT_DIVZ src r.task))) s
  s.setLane l { s.lane l with landed := true }

/-- FINAL_DELTA_LANDED: the lane in TRANSFER holds the source's state, and joins at the next release, or the next grid
instant in STOP and while no folio runs. A delta that lands after the gap has ended fails the attempt (R62, R64, R65).
See log entry 33 (DEDUCED). -/
def execFinalDeltaLanded (l : Lane) (t : Nat) (s : State) : Host.Outcome State Fault Refusal :=
  let s := s.tick t
  if s.laneSt l != .transfer || (s.lane l).landed then .next s
  else
    let late := s.anyUncommitted || s.ductus.tasks.any fun b => match b.lastRelease with
      | some r => decide ((s.lane l).transferAt < r)
      | none => false
    if late then .next (s.excludeCheck l .transfer 0)
    else match s.voters.head? with
      | some src => .next (s.landDelta src l)
      | none => .next s

/-- A lane whose delta has landed enters VOTING with PROBATION, and hashes in step with the lane that was its source; a
re-integration reports its duration (R57, R62, R273). See log entry 75 (DEDUCED). -/
def State.joinLane (s : State) (l : Lane) : State :=
  let x := s.lane l
  let y := match s.xferSource with
    | some src => s.lane src
    | none => laneReset
  let s := s.setLane l { x with landed := false, censusSeen := [], rounds := y.rounds, sliceNext := y.sliceNext, sliceDone := y.sliceDone }
  let s := s.fput (F.LANE_STATE_PROBATION l) 1
  let s := if s.fget (F.LANE_STATE_CAUSE l) == 0 then s
    else s.fputSat (F.LANE_REINT_LAST_DUR l) ((s.mono - x.exclAt) / 100000000)
  (s.setLaneSt l .voting).enterPermits l

/-- Every lane whose delta has landed joins now. See log entry 33 (DEDUCED). -/
def State.joinLanded (s : State) : State :=
  allLanes.foldl (fun s l => if s.laneSt l == .transfer && (s.lane l).landed then s.joinLane l else s) s

/-- A cyclic task is neither released-but-uncommitted at `t` nor released before `t + g` (R65, R75, R77). -/
def cyclicFree (r : TaskRec) (t g : Nat) : Bool :=
  let since := (t + r.period - r.phase % r.period) % r.period
  decide (r.deadline ≤ since) && decide (since + g ≤ r.period)

/-- Some gap of the ductus is at least `g`: at a grid instant within the cyclic tasks' common period; while nothing is
released the gap has no end (R65, R176). See log entry 33 (DEDUCED). -/
def State.gapExists (s : State) (g : Nat) : Bool :=
  match s.releasesFrom s.now with
  | none => true
  | some _ =>
    let rs := s.tasks.filter (!·.event)
    let span := rs.foldl (fun n r => Nat.lcm n r.period) gridNs
    (List.range (span / gridNs)).any fun k => rs.all fun r => cyclicFree r (k * gridNs) g

/-- TRANSFER_TIMEOUT: no usable seam within 10 s of READY, or after 16 passes a remainder that fits no gap of the ductus,
fails the attempt with cause TRANSFER (R65). The 10 s do not run in HOLD. -/
def execTransferTimeout (l : Lane) (t : Nat) (s : State) : Host.Outcome State Fault Refusal :=
  let s := s.tick t
  let x := s.lane l
  if s.laneSt l == .ready && s.flag F.VOTE_CTRL_EN && s.modeNow != .hold
      && (decide (x.readyAt + 10000000000 ≤ s.now) || (decide (16 ≤ x.passes) && !s.gapExists (s.deltaGap l))) then
    .next (s.excludeCheck l .transfer 0)
  else .next s

/-! ### Withdrawal of a lane with LATENT (R61, R189) -/

/-- A lane with LATENT set is withdrawn at a seam when both other lanes vote and the limit permits.
See log entry 33 (DEDUCED). -/
def State.withdrawLatent (s : State) : State :=
  allLanes.foldl (fun (s : State) l =>
    if s.isVoting l && s.flag (F.LANE_STATE_LATENT l) && s.voters.length == 3 && s.reintPermitted l then
      s.excludeCheck l .latent 0
    else s) s

end Sys2Proof.Machine
end

