-- ==== Sys2Proof/Machine/Telegrams.lean ====
section
/-! DEFINITION. The commands of the telegram engine (R305 to R322). -/

namespace Sys2Proof.Machine

/-! ### Table changes (R308, R309) -/

/-- A change refused by its check shows in TGE_CHG (R309). -/
def tgeOwn (ch : TgeChange) (s : State) : Verdict :=
  match tgeCheck s.tgeAhead ch with
  | .ok => .accept
  | .bad => .refuse stBadParam noIndex
  | .full => .refuse stCheckFail noIndex

/-- TGE_CHG.LAST_RESULT after a refusal by the change's own check (R309). -/
def State.noteRefusal (s : State) (c : Cmd) (t op lvl : Nat) (lenOk : Bool) (ch : TgeChange) : State :=
  let u := s.tick t
  if u.voters.length < 2 || u.fenced c || !u.sessionOk c || (u.preAccepted c).isSome || u.preCheck c op lvl lenOk != .accept then s
  else match tgeCheck u.tgeAhead ch with
    | .ok => s
    | .bad => s.fput F.TGE_CHG_LAST_RESULT chBad
    | .full => s.fput F.TGE_CHG_LAST_RESULT chFull

/-- An accepted change waits for its commit (R308). -/
def tgeEffect (c : Cmd) (ch : TgeChange) (s : State) (a : Nat) : State :=
  ({ s with tge := { s.tge with pending := s.tge.pending ++ [(⟨some c, a, ch⟩ : TgePending)] } }).showChanges

/-- One change from its check to its acceptance. -/
def State.tgeChange (s : State) (c : Cmd) (t op : Nat) (lenOk : Bool) (ch : TgeChange) : State :=
  (s.noteRefusal c t op lvlOperate lenOk ch).runLane c t op lvlOperate lenOk (tgeOwn ch) (tgeEffect c ch)

/-- TGE_ENTRY_ADD: one record of R305 to R307. -/
def execTgeEntryAdd (c : Cmd) (t : Nat) (s : State) : Host.Outcome State Fault Refusal :=
  .next ((s.upTo t).tgeChange c t opTgeAdd (decide (64 ≤ c.params.length)) (.add c.params))

/-- The length of TGE_ENTRY_DEL's list, padded to a multiple of 8 B (R405). -/
def delLenOk (c : Cmd) : Bool :=
  let n := leAt c.params 0 2
  decide (1 ≤ n) && decide (n ≤ 64) && c.params.length == (4 + 2 * n + 7) / 8 * 8 && allZero (slice c.params 2 2)
    && allZero (c.params.drop (4 + 2 * n))

/-- The indices of TGE_ENTRY_DEL. -/
def delIndices (c : Cmd) : List Nat := (List.range (leAt c.params 0 2)).map fun i => leAt c.params (4 + 2 * i) 2

/-- TGE_ENTRY_DEL: up to 64 indices. -/
def execTgeEntryDel (c : Cmd) (t : Nat) (s : State) : Host.Outcome State Fault Refusal :=
  .next ((s.upTo t).tgeChange c t opTgeDel (delLenOk c) (.del (delIndices c)))

/-! ### Deliveries, periods, publications -/

/-- One delivery that is due: with ARRIVAL, releasing the event tasks of the entry (R87, R314, R315); the engine's
reference of the frame ends (R297). -/
def State.deliverDue (s : State) (d : TgeDue) : State :=
  let s := match d.frame with
    | some id => s.engineDone id
    | none => s
  match tgeFind s.tge.entries d.entry with
  | none => s
  | some e =>
    let s := if e.st == 1 then s else s.hostEvent evTelegram
    let e := { e with st := 1, missed := 0, data := d.data }
    let e := if teKind e.rec_ == tkInt then { e with accepted := ((d.at_ - 1000) :: e.accepted).take 2 } else e
    let s := (s.deliverEntry e d.at_ true).showFresh
    let x := e.delivery d.at_ true (s.tge.count e.index)
    let s := s.telegramUnit e.index (tgiHead e.index x ++ x.data)
    s.eventsFrom 2 d.entry d.at_ (gridUp (d.at_ + 10000)) d.entry

/-- TELEGRAM_DELIVERY: the datasets of an entry that are due start their delivery (R314). -/
def execTelegramDelivery (entry t : Nat) (s : State) : Host.Outcome State Fault Refusal :=
  let s := s.upTo t
  let due := s.tge.due.filter fun d => d.entry == entry && decide (d.at_ ≤ s.now)
  let s := { s with tge := { s.tge with due := s.tge.due.filter fun d => !due.contains d } }
  .next (due.foldl State.deliverDue s)

/-- A telegram was accepted, or sent by the source publication, with its last byte in (b − P, b] (R318). -/
def TgeEntry.arrived (e : TgeEntry) (due : List TgeDue) (b : Nat) : Bool :=
  let inside := fun x => decide (b < x + tePeriod e.rec_) && decide (x ≤ b)
  e.accepted.any inside || due.any fun d => d.entry == e.index && inside (d.at_ - 1000)

/-- An entry at a boundary of its period (R318). -/
def TgeEntry.boundary (e : TgeEntry) (arrived : Bool) : TgeEntry :=
  let e := { e with topoRej := false }
  if arrived then e else
  let m := min (e.missed + 1) 255
  { e with missed := m, st := if e.st == 0 then 0 else if teTimeout e.rec_ ≤ m then 3 else if e.st == 1 then 2 else e.st }

/-- PERIOD_BOUNDARY: every subscription whose period has a boundary now (R318). -/
def execPeriodBoundary (t : Nat) (s : State) : Host.Outcome State Fault Refusal :=
  let s := s.upTo t
  let mine := s.tge.entries.filter fun e => teKind e.rec_ != tkPub && t % tePeriod e.rec_ == 0
  .next ((mine.foldl (fun (s : State) e => s.putDelivered e (e.boundary (e.arrived s.tge.due t))) s).showFresh)

/-- The publications with a send instant at `snd` whose cut-off is `cut`: those in the table then (R310, R319, R322). -/
def State.sends (s : State) (cut snd : Nat) : List TgeEntry :=
  let live := s.tge.entries.filter fun e => sendDue e snd && decide (e.addedAt ≤ cut)
  let gone := if cut < s.tge.changeAt then s.tge.gone.filter fun e => sendDue e snd && decide (e.addedAt ≤ cut) else []
  (live ++ gone).foldr insertEntry []

/-- PUBLICATION_SEND: 4 µs before their send instant the engine builds the frames of the publications that are due and
hands them to port 6, in ascending index order, from the bytes in force at the cut-off 1 µs before (R319, R320). -/
def execPublicationSend (t : Nat) (s : State) : Host.Outcome State Fault Refusal :=
  let s := s.upTo t
  let cut := t - 1000
  let s := s.tgoArrive cut
  let topo := if cut < s.tge.changeAt then s.tge.oldTopo else s.tgeTable.topo
  let voted := s.runAt cut
  .next ((s.sends cut (t + 4000)).foldl (fun (s : State) e => s.publish topo voted (t + 4000) e) s)

/-- TGE_REJ_CAP_CLEAR: a write of 1 to VALID clears the capture and re-arms it (R70). -/
def execTgeRejCapClear (s : State) : Host.Outcome State Fault Refusal := .next (s.clearField F.TGE_REJ_CAP_VALID)

end Sys2Proof.Machine
end

