-- ==== Sys2Proof/Machine/Release.lean ====
section
/-! DEFINITION. Releases (R75, R76, R83, R88 to R92, R104 to R109, R529): the input snapshot, the mirrors of R349, command
writes, forces and the start of an execution in every voting lane. -/

namespace Sys2Proof.Machine

/-! ### The image mirrors (R348, R349) -/

/-- Module address of a segment's mirror; none for a segment without one. -/
def mirrorBase (seg : Nat) : Option Nat :=
  if seg == segIn then some 0 else if seg == segOut then some 0x01000000
  else if seg == segTgi then some 0x02000000 else if seg == segTgo then some 0x03000000 else none

/-- Bytes of a segment that are mirrored: 16 MiB. -/
def mirrorSize : Nat := 0x01000000

/-- Logical bytes of a segment go into its mirror, and read-ahead lines over them are discarded (R349, R357). -/
def State.mirror (s : State) (seg off : Nat) (bs : List Byte) : State :=
  match mirrorBase seg with
  | none => s
  | some base =>
    let bs := bs.take (mirrorSize - off)
    let lo := base + off
    let ahead := s.brg.ahead.filter fun x => !(decide (x.1 < lo + bs.length) && decide (lo < x.1 + 64))
    ({ s with brg := { s.brg with ahead := ahead } }).mwrite lo bs

/-! ### The input snapshot (R76, R92, R208, R210, R529) -/

/-- The value of an input binding at a release at `rel`: the group's frame sampled at R − 30 µs; of a group whose frame
is missing the last states and status bits, with VALID 0; FALSE for a mismatched binding (R166, R208, R210). -/
def State.ioValue (s : State) (rel : Nat) (x : IoRec) : List Byte :=
  let g := grpOf x.channel
  let y := s.fioGrp g
  let p := posOf x.channel
  let fresh := y.sample + 30000 == rel
  let status := s.fget (F.CH_STAT_STATUS g p)
  if x.kind == ioStatus then leBytes 1 (if fresh || !natBit status 1 then status else status - 2)
  else if !s.ioOk x then [0]
  else if x.kind == ioValid then [BitVec.ofNat 8 (bit (fresh && natBit y.validBits p))]
  else [BitVec.ofNat 8 (bit (natBit y.stateBits p))]

/-- The bytes of a variable as a dataset holds them at its binding's place (R167). -/
def tgField (x : TgRec) (v : VarRec) (data : List Byte) : List Byte :=
  if v.ty == .bool then
    (List.range v.count).map fun i =>
      let k := x.bitOff + i
      BitVec.ofNat 8 (bit (natBit (byteAt data (x.byteOff + k / 8)) (k % 8)))
  else
    let bs := padTo v.bytes (slice data x.byteOff v.bytes)
    if x.bigEndian then ((chunks (tySize v.ty) v.count bs).map List.reverse).flatten else bs

/-- The value of a TGI binding at a release at `rel`: the latest delivery staged in lane `l` and valid by then, or its
status; an absent entry gives the initial value, and status 0x00 (R167, R310, R316, R317). See log entry 31 (DEDUCED).
-/
def State.tgiValue (s : State) (l : Lane) (f : Folio) (v : VarRec) (rel : Nat) (x : TgRec) : List Byte :=
  match tgeFind s.tge.entries x.entry with
  | none => if x.kind == 2 then [0] else f.initOf v
  | some e =>
    if x.kind == 2 && teKind e.rec_ == tkPub then [BitVec.ofNat 8 e.pubStatus]
    else match (s.lane l).tgiAt x.entry rel with
      | some d => if x.kind == 2 then [BitVec.ofNat 8 d.status] else tgField x v d.data
      | none => f.initOf v

/-- The event record of a release (R92). -/
def eventRecord (r : TaskRec) (p : PendRelease) : List Byte :=
  leBytes 1 r.source ++ leBytes 1 (p.edges + if p.coalesced == 0 then 0 else 4) ++ leBytes 2 p.coalesced ++ leBytes 4 p.detail
    ++ leBytes 8 p.stamp

/-- The value that the snapshot of a release at `rel` gives an IN or TGI variable in lane `l` (R529).
See log entry 31 (DEDUCED). -/
def State.inputValue (s : State) (l : Lane) (f : Folio) (r : TaskRec) (rel : Nat) (v : VarRec) : List Byte :=
  if v.event then
    match (s.book r.task).pend with
    | some p => eventRecord r p
    | none => f.initOf v
  else if v.segment == segIn then
    match f.io.find? (·.var == v.identity) with
    | some x => s.ioValue rel x
    | none => f.initOf v
  else
    match f.tg.find? (·.var == v.identity) with
    | some x => s.tgiValue l f v rel x
    | none => f.initOf v

/-- The IN and TGI variables of a task. -/
def Folio.inputs (f : Folio) (task : Nat) : List VarRec :=
  f.vars.filter fun v => v.task == task && (v.segment == segIn || v.segment == segTgi)

/-- The snapshot of a release at `rel` in lane `l`: the value of every input (R76, R529). -/
def State.snapshot (s : State) (l : Lane) (f : Folio) (r : TaskRec) (rel : Nat) : List (VarRec × List Byte) :=
  (f.inputs r.task).map fun v => (v, s.inputValue l f r rel v)

/-- A snapshot written into one lane. -/
def State.writeInputs (s : State) (f : Folio) (vs : List (VarRec × List Byte)) (l : Lane) : State :=
  let x := s.lane l
  s.setLane l { x with mem := vs.foldl (fun m v => wrVar l f m v.1 v.2) x.mem }

/-- The lines of an input set that the standby takes in place of its own snapshot (R428). -/
def State.writeLines (s : State) (f : Folio) (ls : List CopyLine) (l : Lane) : State :=
  let x := s.lane l
  s.setLane l { x with mem := ls.foldl (wrOwned l f) x.mem }

/-- The IN and TGI mirrors take the inputs as a lane holds them after the snapshot (R349). -/
def State.mirrorInputs (s : State) (f : Folio) (task : Nat) (l : Lane) : State :=
  (f.inputs task).foldl (fun s v => s.mirror v.segment v.offset (rdVar l f (s.lane l).mem v)) s

/-! ### The release -/

/-- The lines that command writes change (R428): those of the elements they write. -/
def writeLine (f : Folio) (w : PendWrite) : List (Nat × (Nat × Nat)) :=
  match f.varOf w.identity with
  | some v => [(v.task, (v.segment, (v.offset + w.element * tySize v.ty) / 64))]
  | none => []

/-- The active sends the input set of a release (R428). -/
def State.sendInputs (s : State) (f : Folio) (r : TaskRec) (rel : Nat) (due : List PendWrite) : State :=
  if !s.copies || !s.linked then s else
  let own := [segIn, segTgi].map fun g => (f.ownLines r.task g).map fun n => (r.task, (g, n))
  let xs := (own.flatten ++ (due.map (writeLine f)).flatten).eraseDups
  match s.formLines f xs with
  | (s, some ls) =>
    let n := (s.book r.task).releases
    s.cbSend ([cbInputHead r.task n rel ls.length] ++ ls.map cbLine ++ [cbTerm n])
  | (s, none) => s

/-- A new execution of a task in a lane (R80, R119). -/
def State.startExec (s : State) (n rel : Nat) (l : Lane) : State :=
  let e : Exec := { release := rel, pc := 0, frame := [], calls := [], loops := [], ended := false, endAt := 0, faulted := false, discarded := false, held := false }
  (s.addExec l n e).setTaskSt l n .released

/-- A task's bookkeeping at a release that takes place (R64, R141, R142). -/
def bookRelease (r : TaskRec) (rel : Nat) (b : TaskBook) : TaskBook :=
  { b with
    releases := (b.releases + 1) % 2 ^ 32, execs := (b.execs + 1) % 2 ^ 32, lastRelease := some rel
    dtime := if b.firstNext then 0 else (match b.lastRelease with
      | some p => rel - p
      | none => 0)
    first := b.firstNext, firstNext := false, switched := b.switchedNext, switchedNext := false
    due := some (rel + r.deadline, false), pend := none, triggers := [] }

/-- An execution of a task that was frozen in HOLD is still to end (R97). See log entry 29 (DEDUCED). -/
def State.heldExec (s : State) (n : Nat) : Bool :=
  s.voters.any fun l => match s.exec? l n with
    | some e => e.held
    | none => false

/-- A release that finds the task still executing is skipped: its commit instant will be an overrun, unless the execution
was frozen in HOLD; a pending event release moves by M (R83, R90, R97). See log entry 30 (DEDUCED). -/
def State.skipRelease (s : State) (r : TaskRec) (rel : Nat) : State :=
  let b := s.book r.task
  s.setBook { b with
    releases := (b.releases + 1) % 2 ^ 32
    due := if s.heldExec r.task then none else some (rel + r.deadline, true)
    pend := b.pend.map fun p => { p with instant := rel + r.period } }

/-- A release at `rel`: in every voting lane in which the task is IDLE the inputs are taken — a snapshot, or the active's
input set — then command writes due, then forces, and the execution is ready (R76, R83, R104, R109, R428). The release
serves the TASK_TRIGGER commands merged into it (R404). See log entry 30 (DEDUCED). -/
def State.releaseTask (s : State) (f : Folio) (r : TaskRec) (rel : Nat) (set : Option (List CopyLine)) : State :=
  let takers := s.voters.filter fun l => s.taskSt l r.task == .idle
  match takers.head? with
  | none => if s.voters.isEmpty then s else s.skipRelease r rel
  | some l0 =>
    let b := s.book r.task
    let s := match set with
      | some ls => takers.foldl (fun (z : State) l => z.writeLines f ls l) s
      | none => takers.foldl (fun (z : State) l => z.writeInputs f (s.snapshot l f r rel) l) s
    let s := s.mirrorInputs f r.task l0
    let due := s.releaseWrites f r.task rel
    let s := s.applyWrites f due
    let s := s.sendInputs f r rel due
    let s := takers.foldl (fun s l => s.applyForces f l r.task [segIn, segTgi]) s
    let s := (takers.filter s.isVoting).foldl (fun s l => s.startExec r.task rel l) s
    let s := s.setBook (bookRelease r rel (s.book r.task))
    let s := if r.event then s.putTask F.TASK_STAT_PENDING r.task 0 else s
    b.triggers.foldl (fun s c => s.replyOk c opTaskTrigger) s

/-- `t` is a release instant of a task (R75, R88, R94, R337): in RUN, from RUN entry on, with its last commit behind
it. -/
def State.releaseDue (s : State) (r : TaskRec) (t : Nat) : Bool :=
  s.modeNow == .run && s.flag F.VOTE_CTRL_EN && decide (s.ductus.runEntry.getD 0 ≤ t) && decide (s.time.releasesFrom ≤ t)
    && (s.book r.task).due.isNone && t % gridNs == 0
    && (if r.event then (match (s.book r.task).pend with
          | some p => decide (p.instant ≤ t)
          | none => false)
        else cyclicDue r t && (s.book r.task).lastRelease != some t)

/-- TASK_RELEASE (R75, R76). A module in STANDBY or RESYNC releases its tasks 20 µs later (R428, SHADOW_RELEASE). -/
def execTaskRelease (task t : Nat) (s : State) : Host.Outcome State Fault Refusal :=
  let s := s.tick t
  match s.folio.running, s.taskRec task with
  | some f, some r => if s.releaseDue r s.now && !s.notActing then .next (s.joinLanded.releaseTask f r s.now none) else .next s
  | _, _ => .next s

end Sys2Proof.Machine
end

