-- ==== Sys2Proof/Machine/Switch.lean ====
section
/-! DEFINITION. The commands of the switch, of MP and of the inkwell (R279 to R302, R405). -/

namespace Sys2Proof.Machine

/-! ### Ingress (R286 to R290, R301, R311) -/

/-- The frame is sound but for its FCS or its length: what the module knows when cut-through begins (R290). -/
def State.headOk (s : State) (p : Nat) (b : List Byte) : Bool :=
  decide (64 ≤ b.length) && !isPause b && !(frameTagged b && tagVid b == 4095) && acceptOk (s.net.cfg p).accept (vlanTagged b)

/-- A frame from port `p` whose last byte has come now, decided under the configuration of this state (R286, R289,
R331). -/
def State.switchIn (s : State) (p : Nat) (b : List Byte) : SwitchIn :=
  s.decideIn p (frameCore b) b.length (s.frameVid p b) (s.framePcp p b) (stampOf (s.firstByte p b.length))

/-- The gate of class `c` is open at `t` (R292). -/
def PortGate.openAt (g : PortGate) (c t : Nat) : Bool :=
  match g.list with
  | some l => natBit (l.maskAt t) c
  | none => true

/-- A frame from one backbone port to the other alone is sent cut-through: at `head`, when its first 64 B have
arrived, the queue was empty, the port idle and the gate open for long enough (R290). See log entry 42 (DEDUCED). -/
def State.cutThrough (s : State) (x : SwitchIn) (on : Bool) (head : Nat) : Bool :=
  let e := 1 - x.port
  let c := classOf x.pcp
  let g := s.net.gate e
  decide (x.port ≤ 1) && on && x.dests == [e] && s.linkUp e && (s.net.queue e c).isEmpty && !s.net.busy e
    && decide (10 * (assoc s.net.quiet e).getD 0 ≤ head) && g.openAt c (head / 10)
    && (match g.openFor c (head / 10) with
      | some n => decide (wireTenths e 1522 ≤ 10 * n)
      | none => true)

/-- A cut-through frame that turns out oversize, as the module ends it: with no more than 1,522 B at its egress port
(R290). See log entry 42 (DESIGN CHOICE). -/
def SwitchIn.ended (x : SwitchIn) : SwitchIn :=
  { x with core := x.core.take (if natBit x.untagged (1 - x.port) then 1518 else 1514), length := min x.length 1522 }

/-- The frame in the inkwell that the switch forwards. -/
def Switched.frame : Switched → Option Nat
  | .forwarded id => some id
  | _ => none

/-- The last byte of a frame that the switch has taken: its cells pass from ingress to their holder (R297). -/
def State.settle (s : State) (r : Switched) : State :=
  match r with
  | .forwarded id => s.settleFrame id
  | _ => s

/-- The transmission of a cut-through frame, which began at `head` (R290). -/
def State.cutStart (s : State) (x : SwitchIn) (r : Switched) (head : Nat) (stomped : Bool) : State :=
  match r.frame.bind s.net.frame with
  | some f =>
    let s := s.startTx f (1 - x.port) (classOf x.pcp) head true stomped
    if stomped then s.fsat (F.PORT_DROP_GATE_STOMPED (1 - x.port)) else s
  | none => s

/-- A frame copied to the empty capture buffer of its port (R378, R405). See log entry 45 (DEDUCED). -/
def State.captureFrame (s : State) (p : Nat) (b : List Byte) : State :=
  match s.net.capture with
  | none => s
  | some (q, left) =>
    if q != p || s.net.captured.isSome then s else
    let r := padTo 2048 ([BitVec.ofNat 8 p, 0] ++ leBytes 2 b.length ++ zeros 4 ++ leBytes 8 s.now ++ b)
    { s with net := { s.net with captured := some r, capture := if left ≤ 1 then none else some (q, left - 1) } }

/-- FRAME_INGRESS: a frame whose last byte arrives at port `p` now. What is decided of it is decided under the
configuration in force at its first byte (R289, R311); the header draws its credits, and at the last byte the unfilled
ones return (R296). See log entry 42 (DEDUCED). -/
def execFrameIngress (p : Nat) (bytes : List Byte) (t : Nat) (s : State) : Host.Outcome State Fault Refusal :=
  let s := s.upTo t
  if 5 < p || !s.linkUp p || s.portSt p == portDisabled then .next s else
  let s := s.finc (F.PORT_RX_FRAMES p)
  let first := s.firstByte p bytes.length
  let head := first + 64 * byteTenths p
  let u := s.configAt first
  let x := u.switchIn p bytes
  let on := u.flag (F.PORT_STAT_CUT p)
  if u.frameOk p bytes then
    let cut := s.cutThrough x on head
    let (s, r) := ((s.captureFrame p bytes).learn p (frameSrc x.core) x.vid).switch x
    let s := (s.inspect p x.vid x.core first r.frame).settle r
    .next (if cut then s.cutStart x r head false else s)
  else if u.headOk p bytes && s.cutThrough x on head then
    let (s, r) := s.switch x.ended
    .next ((s.settle r).cutStart x r head true)
  else .next (s.fsat (F.PORT_DROP_IN_FORMAT p))

/-! ### Egress (R291 to R293, R297) -/

/-- The head of a queue with its frame. -/
def NetState.headOf (n : NetState) (p c : Nat) : Option NetFrame := (n.queue p c).head?.bind n.frame

/-- Frames at the head of a queue that fit no window of their class are discarded (R293). -/
def State.purge (s : State) (p c : Nat) : State :=
  ((s.net.queue p c).takeWhile fun id => match s.net.frame id with
    | some f => (s.net.gate p).oversize c (wireTenths p (egressLength f p))
    | none => false).foldl (fun (s : State) id => (s.dropRef id p c).fsat (F.PORT_DROP_GATE_GATE_OVERSIZE p)) s

/-- FRAME_TRANSMIT_START: at an idle port the highest class whose gate is open and whose head frame ends before the gate
closes starts to send (R291, R293). See log entry 42 (DEDUCED). -/
def execFrameTransmitStart (p t : Nat) (s : State) : Host.Outcome State Fault Refusal :=
  let s := s.upTo t
  if 5 < p || !s.linkUp p || s.portSt p == portDisabled || s.net.busy p then .next s else
  let s := (List.range 8).foldl (fun (s : State) c => s.purge p c) s
  match [7, 6, 5, 4, 3, 2, 1, 0].find? (fun c => match s.net.headOf p c with
      | some f => (s.net.gate p).fits c s.now (wireTenths p (egressLength f p))
      | none => false) with
  | none => .next s
  | some c =>
    match s.net.headOf p c with
    | some f => .next (s.startTx f p c (10 * s.now) false false)
    | none => .next s

/-- FRAME_TRANSMIT_COMPLETE: the transmission has ended, and the port's reference with it (R297).
See log entry 42 (DEDUCED). -/
def execFrameTransmitComplete (p t : Nat) (s : State) : Host.Outcome State Fault Refusal :=
  let s := s.upTo t
  match s.net.tx.find? (·.port == p) with
  | none => .next s
  | some x =>
    if 10 * s.now < 10 * x.start + wireTenths p x.bytes.length then .next s else
    let s := { s with net := { s.net with tx := s.net.tx.filter (·.port != p), sent := cellSet [] s.net.sent p x.bytes } }
    let s := s.dropRef x.id p x.cls
    .next (if x.stomped then s else s.finc (F.PORT_TX_FRAMES p))

/-- The gates of a port at the instant now (R292, R294). -/
def State.moveGates (s : State) (p : Nat) : State :=
  let g := s.net.gate p
  let g := match g.next with
    | some (l, u) => if u ≤ s.now then ({ g with list := some l, next := none } : PortGate) else g
    | none => g
  s.setGate p { g with gates := match g.list with
    | some l => l.maskAt s.now
    | none => 0xFF }

/-- GATE_ENTRY_CHANGE: the entry of the instant takes effect (R292, R294). -/
def execGateEntryChange (p t : Nat) (s : State) : Host.Outcome State Fault Refusal :=
  let s := s.upTo t
  if 5 < p then .next s else .next (s.moveGates p)

/-! ### Links and ageing (R280, R281, R288) -/

/-- A port's link is down (R281). -/
def State.takeDown (s : State) (p : Nat) : State := ((s.fput (F.PORT_STAT_LINK p) 0).flushPort p).forgetPort p

/-- LINK_DOWN. See log entry 42 (DEDUCED). -/
def execLinkDown (p t : Nat) (s : State) : Host.Outcome State Fault Refusal :=
  let s := s.upTo t
  if 5 < p then .next s else .next (s.takeDown p)

/-- LINK_UP: at the port's only rate and in full duplex the link is up; at any other it counts as down (R280). -/
def execLinkUp (p mbps : Nat) (fullDuplex : Bool) (t : Nat) (s : State) : Host.Outcome State Fault Refusal :=
  let s := s.upTo t
  if 5 < p then .next s
  else if fullDuplex && mbps == (if p < 2 then 10000 else 1000) then .next (s.fput (F.PORT_STAT_LINK p) 1)
  else .next (s.takeDown p)

/-- FDB_AGE_EXPIRE: a dynamic entry not refreshed for AGE_S is removed (R288). See log entry 43 (DEDUCED). -/
def execFdbAgeExpire (mac vid t : Nat) (s : State) : Host.Outcome State Fault Refusal :=
  let s := s.upTo t
  match fdbFind s.net.fdb mac vid with
  | some e =>
    if e.static || s.net.ageS == 0 || s.mono < e.at_ + s.net.ageS * 1000000000 then .next s
    else .next (s.putFdb (fdbDrop s.net.fdb mac vid))
  | none => .next s

/-! ### The configuration set (R283) -/

/-- The packet's records fill its length (R283, R405). -/
def netLenOk (c : Cmd) : Bool :=
  decide (8 ≤ c.params.length) && (match netParse (leAt c.params 2 2) (c.params.drop 8) with
    | some (_, rest) => rest.isEmpty
    | none => false)

/-- The records of a packet. -/
def netRecs (c : Cmd) : List (List Byte) := match netParse (leAt c.params 2 2) (c.params.drop 8) with
  | some (rs, _) => rs
  | none => []

/-- The head of the packet: known flags, reserved bytes 0, DISCARD alone and empty (R283). -/
def netHeadOk (c : Cmd) : Bool :=
  let f := byteAt c.params 0
  decide (f < 4) && byteAt c.params 1 == 0 && allZero (slice c.params 4 4)
    && !(natBit f 1 && (natBit f 0 || leAt c.params 2 2 != 0))

/-- The first record that is out of range. -/
def netBadRec (c : Cmd) : Option Nat := (netRecs c).findIdx? (fun r => !netRecOk r)

/-- NET_CONFIG's own checks (R283). -/
def netOwn (c : Cmd) (s : State) : Verdict :=
  refuseIf (!netHeadOk c) stBadParam noIndex <|
  match netBadRec c with
  | some i => .refuse stBadParam i
  | none => refuseIf (!natBit (byteAt c.params 0) 1 && (match s.net.set with
      | some z => z.closedAt.isSome
      | none => false)) stBusy noIndex .accept

/-- At most four static entries in one set of the table (R284). -/
def fdbSetOk (s : State) (recs : List (List Byte)) : Bool :=
  let t := (recs.filter fun r => byteAt r 0 == 3).foldl (fun (t : List (Nat × Nat)) r =>
    let k := (beAt r 2 6, leAt r 8 2)
    if natBit (byteAt r 11) 0 then t.filter (· != k) else t.filter (· != k) ++ [k])
    ((s.net.fdb.filter (·.static)).map fun e => (e.mac, e.vid))
  t.all fun k => decide ((t.filter fun j => fdbSet j.1 j.2 == fdbSet k.1 k.2).length ≤ 4)

/-- PTP as the set leaves it: at most one port SLAVE with EXT_CFG, external states only with EXT_CFG, and no port in PTP
with ROLE 0 and TC clear (R330). -/
def ptpSetOk (s : State) (recs : List (List Byte)) : Bool :=
  let rec_ := ((recs.filter fun r => byteAt r 0 == 7).getLast?).getD s.time.record
  let ext := natBit (byteAt rec_ 3) 3
  let ports := (List.range 6).map fun p =>
    match (recs.filter fun r => byteAt r 0 == 8 && byteAt r 1 == p).getLast? with
    | some r => (byteAt r 2, byteAt r 3)
    | none => ((s.time.port p).mode, (s.time.port p).extState)
  ports.all (fun x => !(natBit x.1 0 && byteAt rec_ 1 == 0 && !natBit x.1 2) && (ext || x.2 == 0) && (!ext || !natBit x.1 0 || x.2 != 0))
    && (!ext || decide ((ports.filter fun x => x.2 == 2).length ≤ 1))

/-- A packet accepted at `a` joins the set, and with LAST closes it (R283, R284, R330). -/
def netEffect (c : Cmd) (s : State) (a : Nat) : State :=
  let f := byteAt c.params 0
  if natBit f 1 then (s.dropNet netDiscarded).replyOk c opNetConfig else
  let z := s.net.set.getD ⟨[], none, none, a⟩
  let z : NetSet := { z with recs := z.recs ++ netRecs c, touchedAt := a }
  if !natBit f 0 then (s.putNetSet (some z)).replyOk c opNetConfig
  else if fdbSetOk s z.recs && ptpSetOk s z.recs then s.putNetSet (some { z with last := some c, closedAt := some a })
  else ((s.putNetSet none).fput F.NET_CFG_LAST_RESULT netBad).replyErr c opNetConfig stBadParam noIndex

/-- NET_CONFIG: records for the network configuration set (R283). -/
def execNetConfig (c : Cmd) (t : Nat) (s : State) : Host.Outcome State Fault Refusal :=
  .next ((s.upTo t).runLane c t opNetConfig lvlEngineer (netLenOk c) (netOwn c) (netEffect c))

/-- NET_CONFIG_DISCARD: the packet that carries DISCARD (R283). -/
def execNetConfigDiscard (c : Cmd) (t : Nat) (s : State) : Host.Outcome State Fault Refusal :=
  .next ((s.upTo t).runLane c t opNetConfig lvlEngineer (netLenOk c) (netOwn c) (netEffect c))

/-- NET_SET_TIMEOUT: an open set that receives no packet for 10 s is dropped (R283). -/
def execNetSetTimeout (t : Nat) (s : State) : Host.Outcome State Fault Refusal :=
  let s := s.upTo t
  match s.net.set with
  | some z => if z.closedAt.isNone && z.touchedAt + 10000000000 ≤ s.now then .next (s.dropNet netTimeout) else .next s
  | none => .next s

/-! ### The management port's MAC (R282) -/

/-- MP's MAC address: NET_MAC + 1. -/
def mpMac : Nat := (moduleMac + 1) % 2 ^ 48

/-- MP's IPv4 address: configured, or the link-local one of the present try (R282, RFC 3927). -/
def State.mpIp (s : State) : Nat := s.net.mpAddr.getD (0xA9FE0100 + (Config.linkLocal s.net.mpTry).toNat % 65024)

/-- A frame from MP, without FCS. -/
def State.mpSend (s : State) (dst : List Byte) (ty : Nat) (body : List Byte) : State :=
  { s with net := { s.net with mpSent := padTo (max 60 (14 + body.length)) (dst ++ beBytes 6 mpMac ++ beBytes 2 ty ++ body) } }

/-- An ARP packet for IPv4 over Ethernet. -/
def isArp (d : List Byte) : Bool := frameType d == 0x0806 && beAt d 14 6 == 0x000108000604

/-- An ARP packet in which another station claims MP's link-local address (R282, RFC 3927). See log entry 44
(PRESUMED). -/
def State.mpConflict (s : State) (d : List Byte) : Bool :=
  isArp d && s.net.mpAddr.isNone && beAt d 28 4 == s.mpIp && beAt d 22 6 != mpMac

/-- An ARP request for MP's address, and its reply. See log entry 44 (PRESUMED). -/
def State.mpArp (s : State) (d : List Byte) : Bool := isArp d && beAt d 20 2 == 1 && beAt d 38 4 == s.mpIp
def State.mpArpReply (s : State) (d : List Byte) : State :=
  s.mpSend (slice d 6 6) 0x0806 (beBytes 6 0x000108000604 ++ beBytes 2 2 ++ beBytes 6 mpMac ++ beBytes 4 s.mpIp ++ slice d 22 10)

/-- Length of the IPv4 header of a frame, with its options. -/
def ipHeadLen (d : List Byte) : Nat := byteAt d 14 % 16 * 4

/-- An IPv4 packet to MP's address. See log entry 44 (PRESUMED). -/
def State.mpIpv4 (s : State) (d : List Byte) : Bool :=
  frameType d == 0x0800 && byteAt d 14 / 16 == 4 && decide (20 ≤ ipHeadLen d) && beAt d 30 4 == s.mpIp
    && decide (ipHeadLen d ≤ beAt d 16 2) && decide (14 + beAt d 16 2 ≤ d.length)

/-- An unfragmented ICMP echo request, and its reply. See log entry 44 (PRESUMED). -/
def State.mpEcho (s : State) (d : List Byte) : Bool :=
  s.mpIpv4 d && byteAt d 23 == 1 && beAt d 20 2 % 0x4000 == 0 && byteAt d (14 + ipHeadLen d) == 8
def State.mpEchoReply (s : State) (d : List Byte) : State :=
  let n := beAt d 16 2 - ipHeadLen d
  let m := splice (splice (slice d (14 + ipHeadLen d) n) 0 [0]) 2 [0, 0]
  let m := splice m 2 (beBytes 2 (ipChecksum (m ++ zeros (n % 2))))
  s.mpSend (slice d 6 6) 0x0800 (ipHeader 0 (20 + n) 0 0 64 1 (slice d 30 4) (slice d 26 4) ++ m)

/-- A UDP datagram to port 30510, or a later fragment of one (R282, R411). See log entry 44 (PRESUMED). -/
def State.mpUdp (s : State) (d : List Byte) : Bool :=
  s.mpIpv4 d && byteAt d 23 == 17 && (beAt d 20 2 % 0x2000 != 0 || beAt d (14 + ipHeadLen d + 2) 2 == 30510)

/-- MP_FRAME_RECEIVE: ARP and ICMP echo are answered, UDP to port 30510 is left to MP_DATAGRAM_RECEIVE, every other
frame is discarded and counted (R282, MP_ERR); a station that uses MP's link-local address makes it choose another.
See log entry 44 (PRESUMED). -/
def execMpFrameReceive (bytes : List Byte) (t : Nat) (s : State) : Host.Outcome State Fault Refusal :=
  let s := s.upTo t
  let d := dropFcs bytes
  let mine := frameDst d == mpMac || frameDst d == 0xFFFFFFFFFFFF
  if !(mine && decide (64 ≤ bytes.length) && decide (bytes.length ≤ 1518) && fcsOk bytes) then .next (s.fsat F.MP_ERR_OTHER)
  else if s.mpConflict d then .next { s with net := { s.net with mpTry := s.net.mpTry + 1 } }
  else if s.mpArp d then .next (s.mpArpReply d)
  else if s.mpEcho d then .next (s.mpEchoReply d)
  else if s.mpUdp d then .next s
  else .next (s.fsat F.MP_ERR_OTHER)

/-! ### The inkwell's commands (R300, R405) -/

def opInkSnap : Nat := 0x0A03
def opInkCapture : Nat := 0x0A04

/-- Every book counter copied into its snapshot register (R300). -/
def State.snapInk (s : State) : State :=
  let s := (s.fput F.INK_SNAP_FREE_SHARED_CELLS (s.fget F.INK_FREE_SHARED_CELLS)).fput F.INK_SNAP_HELD_INGRESS_CELLS
    (s.fget F.INK_HELD_INGRESS_CELLS)
  let s := (s.fput F.INK_SNAP_HELD_QUEUES_CELLS (s.fget F.INK_HELD_QUEUES_CELLS)).fput F.INK_SNAP_HELD_ENGINE_CELLS
    (s.fget F.INK_HELD_ENGINE_CELLS)
  let s := (List.range 7).foldl (fun (s : State) p => s.fput (F.INK_SNAP_RES_FREE_CELLS p) (s.fget (F.INK_RES_FREE_CELLS p))) s
  s.finc F.INK_SNAP_SEQ_SEQ

/-- INK_SNAP (R300). -/
def execInkSnap (c : Cmd) (t : Nat) (s : State) : Host.Outcome State Fault Refusal :=
  .next ((s.upTo t).runScribe c t opInkSnap lvlObserve (c.params.length == 0) noCheck fun s =>
    let s := s.snapInk
    s.scribeReply c opInkSnap stOk (leBytes 4 (s.fget F.INK_SNAP_SEQ_SEQ) ++ zeros 4))

/-- INK_CAPTURE's own checks (R405). -/
def captureOwn (c : Cmd) (_ : State) : Verdict :=
  let p := byteAt c.params 0
  refuseIf (!(decide (p ≤ 5) || p == 0xFF) || byteAt c.params 1 != 0 || !allZero (slice c.params 4 4)
    || (p != 0xFF && leAt c.params 2 2 == 0)) stBadParam noIndex .accept

/-- Capture armed on a port for COUNT frames, or stopped (R405). -/
def captureEffect (c : Cmd) (s : State) : State :=
  let p := byteAt c.params 0
  let s := { s with net := { s.net with capture := if p == 0xFF then none else some (p, leAt c.params 2 2) } }
  s.scribeReply c opInkCapture stOk []

/-- INK_CAPTURE: frame capture on a port (R405). -/
def execInkCapture (c : Cmd) (t : Nat) (s : State) : Host.Outcome State Fault Refusal :=
  .next ((s.upTo t).runScribe c t opInkCapture lvlEngineer (c.params.length == 8) (captureOwn c) (captureEffect c))

/-- INK_CAPTURE_STOP: PORT 0xFF (R405). -/
def execInkCaptureStop (c : Cmd) (t : Nat) (s : State) : Host.Outcome State Fault Refusal :=
  .next ((s.upTo t).runScribe c t opInkCapture lvlEngineer (c.params.length == 8) (captureOwn c) (captureEffect c))

end Sys2Proof.Machine
end

