-- ==== Sys2Proof/Machine/Store.lean ====
section
/-! DEFINITION. The persistent store (R473 to R478, R494): STORE, its records, and what the start-up sequence delivers
from it (R475, R499 steps 7 and 8). -/

namespace Sys2Proof.Machine

def opStore : Nat := 0x0103

/-- Record kinds (R475). -/
def kindChannels : Nat := 1
def kindNetwork : Nat := 2
def kindTable : Nat := 3
def kindCounters : Nat := 4
def kindPairing : Nat := 5

/-- FORMAT of the records that this firmware writes (R474, R525). -/
def storeFormat : Nat := 1

/-- Codes of STORE_STAT.LAST_RESULT. -/
def storeOkResult : Nat := 1
def storeSupply : Nat := 2
def storeAborted : Nat := 3
def storeDip : Nat := 4
def storeBusy : Nat := 5

/-! ### Bodies (R475) -/

/-- The lifetime sum of a channel: the stored sum and its CH_CNT increase since the previous counters store. -/
def State.lifeCount (s : State) (ch : Nat) : Nat :=
  let stored := match validRec (if newerSecond (s.rub.slots kindCounters) then (s.rub.slots kindCounters).2 else (s.rub.slots kindCounters).1) with
    | some r => leAt r.body (4 * ch) 4
    | none => 0
  let now := s.fget (F.CH_CNT_COUNT (grpOf ch) (posOf ch))
  stored + (now + 2 ^ 32 - s.rub.counted.getD ch 0) % 2 ^ 32

/-- The records of R305 to R307 of every entry, profile and counter in force. -/
def State.tableRecs (s : State) : List (List Byte) :=
  let profile := fun (p : TgeProfile) =>
    padTo 64 (leBytes 2 p.num ++ [4, 0] ++ leBytes 4 p.port ++ leBytes 2 p.keyOff ++ leBytes 1 p.keyLen)
  let topo := padTo 64 (leBytes 2 0 ++ [5, 0] ++ leBytes 4 (s.fget F.TGE_TOPO0_COUNTER) ++ leBytes 4 (s.fget F.TGE_TOPO1_COUNTER))
  s.tge.profiles.map profile ++ s.tge.entries.map (·.rec_) ++ [topo]

/-- The body of a kind, as it stands now. See log entry 62 (DEDUCED). -/
def State.storeBody (s : State) (k : Nat) : List Byte :=
  if k == kindChannels then
    ((List.range 256).map fun ch => recOfCfg ch (s.cfgOf ch)).flatten ++ recOfGroup s .g0 ++ recOfGroup s .g1
  else if k == kindNetwork then s.net.inForce.flatten
  else if k == kindTable then (s.tableRecs.map fun r => leBytes 2 r.length ++ r).flatten
  else if k == kindCounters then ((List.range 256).map fun ch => leBytes 4 (s.lifeCount ch)).flatten
  else []

/-! ### Writing (R476, R477) -/

/-- The newest valid record of a kind, and whether the other slot holds one that failed. -/
def RubState.newest (r : RubState) (k : Nat) : Option StoreRec :=
  validRec (if newerSecond (r.slots k) then (r.slots k).2 else (r.slots k).1)

/-- A record of a kind is written as the next generation (R476). -/
def State.writeRecord (s : State) (k : Nat) (body : List Byte) : State :=
  let g := match s.rub.newest k with
    | some r => (r.generation + 1) % 2 ^ 32
    | none => 1
  let r : StoreRec := ⟨g, storeFormat, secOf s.now, body, true⟩
  { s with rub := { s.rub with store := cellIns s.rub.store k (putSlot (s.rub.slots k) r) } }

/-- The kinds that WHAT names, in order. -/
def storeKinds (what : Nat) : List Nat := ((List.range 4).filter (natBit what)).map (· + 1)

/-- The checks of STORE: WHAT in range; the supply; no rubric in trial and no other store (R404, R477).
See log entry 62 (DEDUCED). -/
def storeOwn (c : Cmd) (s : State) : Verdict :=
  let what := leAt c.params 0 4
  refuseIf (what == 0 || decide (15 < what)) stBadParam noIndex <|
  refuseIf (!s.supplyGood) stSupply noIndex <|
  refuseIf (s.rubBusy || s.rub.storing.isSome) stBusy noIndex .accept

/-- STORE_STAT.LAST_RESULT follows a STORE that is refused. -/
def State.noteStore (s : State) (c : Cmd) : State :=
  if !s.checkedNow c opStore lvlEngineer (c.params.length == 8) then s else
  match storeOwn c s with
  | .refuse st _ =>
    if st == stSupply then s.fput F.STORE_STAT_LAST_RESULT storeSupply
    else if st == stBusy then s.fput F.STORE_STAT_LAST_RESULT storeBusy else s
  | .accept => s

/-- A record begins programming. See log entry 62 (DEDUCED). -/
def State.programRecord (s : State) (c : Cmd) (ks : List Nat) : State :=
  match ks with
  | [] => s
  | k :: _ => ({ s with rub := { s.rub with storing := some ⟨c, ks, s.storeBody k⟩ } }).fput F.STORE_STAT_STATE 1

/-- STORE (R404, R477). -/
def execStore (c : Cmd) (t : Nat) (s : State) : Host.Outcome State Fault Refusal :=
  .next ((s.noteStore c).runLane c t opStore lvlEngineer (c.params.length == 8) (storeOwn c) fun s _ =>
    s.programRecord c (storeKinds (leAt c.params 0 4)))

/-- A store ends with a result, and vector 41 fires (R360). -/
def State.endStore (s : State) (result : Nat) : State :=
  let s := { s with rub := { s.rub with storing := none } }
  ((s.fput F.STORE_STAT_STATE 0).fput F.STORE_STAT_LAST_RESULT result).hostEvent evStore

/-- STORE_RECORD_COMPLETE: the record that programs is complete as the next generation. The next record begins, or, in
warning, is not written and the STORE is answered REFUSED_SUPPLY with its WHAT bit (R476, R494). -/
def execStoreRecordComplete (t : Nat) (s : State) : Host.Outcome State Fault Refusal :=
  let s := s.tick t
  match s.rub.storing with
  | none => .next s
  | some x =>
    match x.kinds with
    | [] => .next s
    | k :: ks =>
      let s := s.writeRecord k x.body
      let s := if k == kindCounters then
          { s with rub := { s.rub with counted := (List.range 256).map fun ch => s.fget (F.CH_CNT_COUNT (grpOf ch) (posOf ch)) } }
        else s
      match ks with
      | [] => .next (((s.endStore storeOkResult).finc F.STORE_STAT_STORES).replyOk x.cmd opStore)
      | n :: _ =>
        if s.flag F.RPC_VIN_IN_WARNING then .next (((s.endStore storeDip).dipFlag 0).replyErr x.cmd opStore stSupply (n - 1))
        else .next (s.programRecord x.cmd ks)

/-! ### Delivery at start (R473, R475, R476, R478) -/

/-- STORE_SRC of a kind: 0 default, 1 the newer generation, 2 the older because the newer failed, 3 migrated.
See log entry 62 (DEDUCED). -/
def RubState.source (r : RubState) (k : Nat) : Nat :=
  match r.newest k with
  | none => 0
  | some x =>
    let failed := (match (r.slots k).1 with | some y => !y.valid | none => false)
      || (match (r.slots k).2 with | some y => !y.valid | none => false)
    if r.trial && decide (x.format < storeFormat) then 3 else if failed then 2 else 1

/-- A record of an older FORMAT is migrated on the first start of a trial: converted and written as the next generation
(R478). The formats that this manual defines are all FORMAT 1, so the body stands as it is. -/
def State.migrate (s : State) (k : Nat) : State :=
  match s.rub.newest k with
  | some x => if s.rub.source k == 3 then s.writeRecord k x.body else s
  | none => s

/-- The records of a stored telegram table. -/
def tableParse : Nat → List Byte → List (List Byte)
  | 0, _ => []
  | n + 1, bs => if bs.length < 2 then [] else bs.drop 2 |>.take (leAt bs 0 2) |> (· :: tableParse n (bs.drop (2 + leAt bs 0 2)))

/-- The default channel configuration: every channel INACTIVE, the group records as R195. -/
def defaultChannels : List Byte :=
  ((List.range 256).map fun ch => recOfCfg ch cfgInactive).flatten
    ++ (leBytes 1 0 ++ leBytes 1 kGroup ++ leBytes 1 20 ++ leBytes 1 0xFF ++ zeros 12)
    ++ (leBytes 1 128 ++ leBytes 1 kGroup ++ leBytes 1 20 ++ leBytes 1 0xFF ++ zeros 12)

/-- The stored body of a kind, or its default. -/
def State.bodyOf (s : State) (k : Nat) (default : List Byte) : List Byte :=
  match s.rub.newest k with
  | some x => x.body
  | none => default

/-- The first shadow set: the stored channel configuration, closed at once (R220, R475). -/
def State.deliverChannels (s : State) : State :=
  let s := s.openSet none
  match s.fio.set with
  | some z =>
    let rs := chunks 16 258 (s.bodyOf kindChannels defaultChannels)
    s.putSet (some { z with closedAt := some s.now, recs := rs.map fun r => (⟨recGrp r, r, none, gridUp (s.now + us20), none, false⟩ : ShadowRec) })
  | none => s

/-- The records of a stored network configuration. -/
def storedNetRecs : Nat → List Byte → List (List Byte)
  | 0, _ => []
  | n + 1, bs => if bs.isEmpty then [] else bs.take (max 1 (netRecLen bs)) :: storedNetRecs n (bs.drop (max 1 (netRecLen bs)))

/-- The first network set (R285, R475). -/
def State.deliverNetwork (s : State) : State :=
  let rs := storedNetRecs 65536 (s.bodyOf kindNetwork [])
  s.putNetSet (some ⟨rs, none, some s.now, s.now⟩)

/-- The first table change: the stored table as one change (R310, R475). -/
def State.deliverTable (s : State) : State :=
  let rs := tableParse 65536 (s.bodyOf kindTable [])
  if rs.isEmpty then s
  else { s with tge := { s.tge with pending := s.tge.pending ++ [(⟨none, s.now, .table rs⟩ : TgePending)] } }

/-- Module address of the copy of the counters record (R475). -/
def countersBase : Nat := 0x07F00000

/-- The stored records are read and delivered (R473, R475; R499 steps 7 and 8). See log entry 62 (DEDUCED). -/
def State.deliverStore (s : State) : State :=
  let s := [1, 2, 3, 4, 5].foldl (fun (s : State) k =>
    let src := s.rub.source k
    let v := s.fget F.STORE_SRC_SOURCE
    let v := v - v / 4 ^ (k - 1) % 4 * 4 ^ (k - 1) + src * 4 ^ (k - 1)
    (s.fput F.STORE_SRC_SOURCE v).migrate k) s
  let s := s.mwrite countersBase (s.bodyOf kindCounters (zeros 1024))
  ((s.deliverChannels).deliverNetwork).deliverTable

end Sys2Proof.Machine
end

