-- ==== Sys2Proof/Machine/Commit.lean ====
section
/-! DEFINITION. Commits (R46 to R55, R70, R77, R80, R81, R85, R86): the vote over the lanes' LANE_OUT objects, overruns,
what a voted commit releases, and the take-overs of an output commit. -/

namespace Sys2Proof.Machine

/-! ### LANE_OUT objects at the vote (R46, R47) -/

/-- The records of an object. -/
def OutObj.recs (o : OutObj) : List (List Byte) := chunks 72 (o.bytes.length / 72) o.bytes

/-- The record of a stored line. -/
def OutObj.line (o : OutObj) (seg n : Nat) : Option (List Byte) :=
  o.recs.find? fun r => leAt r 0 2 == n && byteAt r 2 == seg

/-- The declared lines of a task in the order of the vote: ascending logical index (R48), all of OUT before all of TGO.
See log entry 76 (DESIGN CHOICE). -/
def Folio.voteLines (f : Folio) (task : Nat) : List (Nat × Nat) :=
  (f.declaredLines task segOut).map (fun n => (segOut, n)) ++ (f.declaredLines task segTgo).map (fun n => (segTgo, n))

/-- The folio under which a unit of a generation is processed: that before the last seam for the generation that the seam
ended, else the running one (R18). -/
def State.folioOf (s : State) (f : Folio) (gen : Nat) : Folio :=
  match s.folio.previous with
  | some p => if gen == s.folio.previousGen && gen != s.fabric.gen then p else f
  | none => f

/-- An object is complete: whole records, the terminator last with the count of line records, every record of the commit
being voted (R47), and a record for each declared line. An object that lost a unit to a gap lacks a record or the
terminator. See log entry 30 (DEDUCED). -/
def OutObj.complete (o : OutObj) (f : Folio) (task commit : Nat) : Bool :=
  let rs := o.recs
  o.bytes.length % 72 == 0 && rs.all (fun r => byteAt r 3 == task && leAt r 4 4 == commit)
    && (match rs.getLast? with
      | some r => leAt r 0 2 == 0xFFFF && byteAt r 2 == 0xFF && leAt r 8 4 + 1 == rs.length
      | none => false)
    && (f.voteLines task).all fun x => (o.line x.1 (storedLine o.lane (f.segBytes x.1 / 64) x.2)).isSome

/-- A logical line of an object, decoded, with undeclared bytes 0 (R48, R52). -/
def OutObj.decoded (o : OutObj) (f : Folio) (task : Nat) (x : Nat × Nat) : List Byte :=
  let d := match o.line x.1 (storedLine o.lane (f.segBytes x.1 / 64) x.2) with
    | some r => r.drop 8
    | none => zeros 64
  (List.range 64).map fun i => if f.declared task x.1 (64 * x.2 + i) then encodeByte o.lane (d.getD i 0) else 0

/-! ### The vote (R48 to R50, R70) -/

/-- A vote under way: the state, the lanes still live, and the voted bytes so far. -/
structure VoteRun where
  s : State
  live : List Lane
  out : List (Nat × Byte)
  failed : Bool

/-- VOTE_DIS_CAP, VOTE_DIS_VAL and VOTE_DIS_OFF capture the first disagreement while VALID is 0 (R70). -/
def State.captureByte (s : State) (task seg off odd : Nat) (vs : List (Lane × Byte)) : State :=
  if s.flag F.VOTE_DIS_CAP_VALID then s else
  let val := fun (l : Lane) => match vs.find? (·.1 == l) with
    | some v => v.2.toNat
    | none => 0
  let s := ((s.fput F.VOTE_DIS_CAP_VALID 1).fput F.VOTE_DIS_CAP_ODD odd).fput F.VOTE_DIS_CAP_TASK task
  let s := (s.fput F.VOTE_DIS_CAP_OFFSET (off % 65536)).fput F.VOTE_DIS_OFF_OFFSET off
  let s := s.fput F.VOTE_DIS_OFF_SEG (bit (seg == segTgo))
  ((s.fput F.VOTE_DIS_VAL_LANE_A (val .a)).fput F.VOTE_DIS_VAL_LANE_B (val .b)).fput F.VOTE_DIS_VAL_LANE_C (val .c)

/-- One byte is voted: equal in every live lane; or two of three agree and the third is excluded with DISAGREE from this
byte on; or there is no majority and the module fails (R48, R49, R54). -/
def VoteRun.byte (v : VoteRun) (task seg off : Nat) (vs : List (Lane × Byte)) : VoteRun :=
  if v.failed then v else
  let vs := vs.filter fun x => v.live.contains x.1
  match vs.head? with
  | none => v
  | some (_, r) =>
    if vs.all (·.2 == r) then { v with out := (segKey seg off, r) :: v.out }
    else match oddLane vs with
      | some (l, r) =>
        { v with
          s := (v.s.captureByte task seg off (laneBit l) vs).exclude l .disagree
          live := v.live.filter (· != l), out := (segKey seg off, r) :: v.out }
      | none => { v with s := (v.s.captureByte task seg off 0 vs).failModule failByte task, failed := true }

/-- One line is voted byte by byte. -/
def VoteRun.line (v : VoteRun) (f : Folio) (task : Nat) (objs : List OutObj) (x : Nat × Nat) : VoteRun :=
  let ds := objs.map fun o => (o.lane, o.decoded (v.s.folioOf f o.gen) task x)
  (List.range 64).foldl (fun v i =>
    if f.declared task x.1 (64 * x.2 + i) then
      v.byte task x.1 (64 * x.2 + i) (ds.map fun (d : Lane × List Byte) => (d.1, d.2.getD i 0))
    else v) v

/-- The vote over the live lanes' objects. -/
def State.vote3 (s : State) (f : Folio) (task : Nat) (objs : List OutObj) : VoteRun :=
  (f.voteLines task).foldl (fun v x => v.line f task objs x) ⟨s, objs.map (·.lane), [], false⟩

/-! ### Take-overs at an output commit (R17, R222, R283, R308, R367, R499) -/

/-- Step 8 of R499 is reached when the delivered configuration is in force, and step 9 when the SSM is locked and the
lanes match (R273). -/
def State.startSteps (s : State) : State :=
  let s := if s.fget F.RPC_START_STEP == 7 && !s.startingUp then s.startStep 8 else s
  if s.fget F.RPC_START_STEP == 8 && s.ssm.record.isSome && s.voters.all (fun l => s.flag (F.LANE_STOP_MATCH l)) then s.startStep 9
  else s

/-- Every configuration that is due at this output commit takes effect together: the channel shadow set, the network set,
telegram table changes and the queue configuration; the generation advances once (R17, R228, R322).
See log entry 30 (DEDUCED). -/
def State.takeOvers (s : State) : State :=
  if s.flag F.VOTE_CTRL_FAILED then s else
  let s := s.takeSet
  let s := s.takeNetTge
  let s := if s.queDue s.now then s.takeQue else s
  s.startSteps

/-! ### What a voted commit releases (R50, R77, R181, R198, R319, R349) -/

/-- The last voted bytes of a variable in OUT or TGO (R50). -/
def State.votedVar (s : State) (v : VarRec) : List Byte := cellGetN 0 s.vote.voted (segKey v.segment v.offset) v.bytes

/-- The variables of a task in OUT and TGO. -/
def Folio.outputs (f : Folio) (task : Nat) : List VarRec :=
  f.vars.filter fun v => v.task == task && (v.segment == segOut || v.segment == segTgo)

/-- The voted values of the OUTPUT_CMD bindings that a task owns, kept whatever the channel's kind: a mismatched binding
drives nothing until the configuration fits it (R166, R198). -/
def State.commandChannels (s : State) (f : Folio) (task : Nat) : State :=
  f.io.foldl (fun s x =>
    match f.varOf x.var with
    | some v =>
      if x.kind == ioCmd && v.task == task then
        { s with fio := { s.fio with chan := cellIns s.fio.chan x.channel (natBit (byteAt (s.votedVar v) 0) 0) } }
      else s
    | none => s) s

/-- The task's code contains FENCE_OUT (R145). -/
def Folio.isFenced (f : Folio) (r : TaskRec) : Bool := codeFenced (f.codeOf r)

/-- The voted TGO bytes start for the telegram engine: there at C + 10 µs, or C + 60 µs for a fenced task (R77, R146,
R319). -/
def State.sendTgo (s : State) (f : Folio) (r : TaskRec) (c : Nat) : State :=
  let cells := f.tgoCells r.task s.votedVar
  if cells.isEmpty then s else
  let arrival : TgoArrival := ⟨c + (if f.isFenced r then 60000 else 10000), cells⟩
  { s with tge := { s.tge with arrivals := s.tge.arrivals ++ [arrival] } }

/-- A force on a variable in OUT or TGO of the task entered the commit (R429). See log entry 32 (DEDUCED). -/
def State.forcedOut (s : State) (f : Folio) (task : Nat) : Bool :=
  s.ductus.forces.any fun x => match f.varOf x.identity with
    | some v => v.task == task && (v.segment == segOut || v.segment == segTgo)
    | none => false

/-- The output signature of a commit: the declared OUT bytes, then the declared TGO bytes, in ascending logical offset
(R28, R429). See log entry 66 (DEDUCED). -/
def State.outputSig (s : State) (f : Folio) (task : Nat) : DWord :=
  let bytes := ((f.voteLines task).map fun x =>
    ((List.range 64).filter fun i => f.declared task x.1 (64 * x.2 + i)).map fun i =>
      cellGet 0 s.vote.voted (segKey x.1 (64 * x.2 + i))).flatten
  sigFeed sigInit (words64 bytes.length bytes)

/-- The lines that a task's executions wrote since its last commit, and its bookkeeping line, are marked at a commit, for
the copies and for the standby's copy points (R424, R425). -/
def State.markCommit (s : State) (task : Nat) : State :=
  let mine := match s.voters.head? with
    | some l => (s.lane l).wrote.filter fun x => x.1 == task && x.2.1 != segIn && x.2.1 != segTgi
    | none => []
  let s := allLanes.foldl (fun (s : State) l =>
    let x := s.lane l
    s.setLane l { x with wrote := x.wrote.filter (·.1 != task) }) s
  if !s.paired then s else
  let new := mine ++ [(task, (segBook, task))]
  { s with dup := { s.dup with marks := s.dup.marks ++ new.filter (!s.dup.marks.contains ·) } }

/-- The output signature of a commit is sent by the active at C + 4 µs, and kept by the standby for comparison; one that
is never compared is counted as skipped (R429). -/
def State.signCommit (s : State) (f : Folio) (task commit c : Nat) (overrun : Bool) : State :=
  if s.copies then
    if overrun then s else s.cbSend [cbOutputSig task (s.forcedOut f task) commit (s.outputSig f task) c]
  else if s.role == roleStandby then
    let s := if s.dup.sigs.any (·.task == task) then s.fsat F.DUP_SHADOW_SKIPPED else s
    let own : OwnSig := ⟨task, commit, s.outputSig f task, overrun || s.dup.ownInputs.contains task⟩
    { s with dup := { s.dup with sigs := s.dup.sigs.filter (·.task != task) ++ [own] } }
  else s

/-- The records of a voted commit: every declared line with its voted bytes, and a terminator. See log entry 71 (DESIGN
CHOICE). -/
def votedRecords (f : Folio) (task commit : Nat) (voted : List Host.Cell) : List Byte :=
  let recs := (f.voteLines task).map fun x => outHead x.2 x.1 task commit ++ cellGetN 0 voted (segKey x.1 (64 * x.2)) 64
  recs.flatten ++ outHead 0xFFFF 0xFF task commit ++ leBytes 4 recs.length ++ zeros 60

/-- The voted image goes to the field interfaces and the telegram engine as VOTED_OUT units that name the lanes still live
(R13, R50). -/
def State.sendVoted (s : State) (f : Folio) (task commit : Nat) (live : List Lane) : State :=
  let bytes := votedRecords f task commit s.vote.voted
  s.sendUnits [.fioG0, .fioG1, .tge] pdFab kindVotedOut (laneMask live) 0 (chunks 216 (ceilDiv bytes.length 216) bytes)

/-- A voted commit is released whole: VOTED_OUT, the mirrors, the channels, the publications; a hold of R181 ends, a
task fault's mark clears, and COMMIT fences see the commit (R50, R77, R80, R110, R181, R349). -/
def State.releaseVoted (s : State) (f : Folio) (r : TaskRec) (c commit : Nat) (live : List Lane) (out : List (Nat × Byte)) : State :=
  let voted := out.foldl (fun m x => cellSet 0 m x.1 x.2) s.vote.voted
  let s := ({ s with vote := { s.vote with voted := voted } }).sendVoted f r.task commit live
  let s := s.finc F.VOTE_COMMITS_COUNT
  let s := { s with folio := { s.folio with unvoted := s.folio.unvoted.filter (· != r.task) } }
  let s := s.commandChannels f r.task
  let s := (f.outputs r.task).foldl (fun s v => s.mirror v.segment v.offset (s.votedVar v)) s
  let s := s.sendTgo f r c
  let s := s.putTask F.TASK_STAT_FAULT r.task 0
  s.fenceCommitted r.task (c - r.deadline)

/-! ### The outcome for the task (R80, R81, R85) -/

/-- A task in a voting lane when its commit instant passes: FINISHED becomes IDLE, and an execution still running is LATE
(R80). -/
def State.passCommit (s : State) (n : Nat) (l : Lane) : State :=
  match s.taskSt l n with
  | .finished => (s.dropExec l n).setTaskSt l n .idle
  | .released =>
    match s.exec? l n with
    | some e => if e.ended && !e.discarded then (s.dropExec l n).setTaskSt l n .idle else s.setTaskSt l n .late
    | none => s.setTaskSt l n .idle
  | _ => s

/-- An overrun: nothing is released, the counts go up, tasks that watch this one take their event, and the limit may be
reached (R81, R85, R87). See log entry 30 (DEDUCED). -/
def State.overrun (s : State) (r : TaskRec) (c : Nat) : State :=
  let b := s.book r.task
  let s := s.setBook { b with consec := b.consec + 1, lastOvr := true }
  let s := (s.satTask F.TASK_OVR_OVERRUNS r.task).putTask F.TASK_STAT_CONSEC r.task (min (b.consec + 1) 15)
  let s := s.overrunEvent r.task c
  if r.limit ≤ b.consec + 1 then
    { s with ductus := { s.ductus with limitHit := some (match s.ductus.limitHit with
      | some n => min n r.task
      | none => r.task) } }
  else s

/-- A commit that was voted: LASTOVR is FALSE, and the consecutive-overrun count is 0 when every voting lane delivered
(R81, R142). -/
def State.votedBook (s : State) (n : Nat) (all : Bool) : State :=
  let b := s.book n
  let s := s.setBook { b with lastOvr := false, consec := if all then 0 else b.consec }
  if all then s.putTask F.TASK_STAT_CONSEC n 0 else s

/-- When every commit of an instant has been voted, a limit reached at it enters STOP, naming the lowest task (R85,
R114). See log entry 29 (DEDUCED). -/
def State.limitStop (s : State) : State :=
  let more := s.ductus.tasks.any fun b => match b.due with
    | some (c, _) => decide (c ≤ s.now)
    | none => false
  match s.ductus.limitHit with
  | some n =>
    if more || s.flag F.VOTE_CTRL_FAILED then s else
    let s := { s with ductus := { s.ductus with limitHit := none } }
    let s := if s.copies then s.cbSend [cbSchedule whatMode phAnnounce (modeCode .stop) 0 s.now] else s
    s.enterStop stopOverrun n
  | none => s

/-- The commit of a task at its commit instant `c` (R48, R51, R81, R86). See log entry 30 (DEDUCED). -/
def State.commitTask (s : State) (f : Folio) (r : TaskRec) (c : Nat) (skipped : Bool) : State :=
  let b := s.book r.task
  let voters := s.voters
  let objs := s.vote.outs.filter fun o =>
    o.task == r.task && voters.contains o.lane && !skipped && o.complete (s.folioOf f o.gen) r.task (b.commits % 2 ^ 32)
  let held := s.heldExec r.task
  let s := s.setBook { b with due := none, commits := (b.commits + 1) % 2 ^ 32 }
  let s := { s with vote := { s.vote with outs := s.vote.outs.filter (·.task != r.task), lastCommit := some (s.now, r.task) } }
  let s := (s.markCommit r.task).dropCensus r.task
  let done (s : State) : State := voters.foldl (fun s l => if s.isVoting l then s.passCommit r.task l else s) s
  if objs.isEmpty then
    let s := (done s).takeOvers
    (if held then s else (s.overrun r c).signCommit f r.task b.commits c true).limitStop
  else if objs.length < 2 then s.failModule failMissing r.task
  else
    let missing := voters.filter fun l => !(objs.any (·.lane == l))
    let s := missing.foldl (fun s l => s.exclude l .missing) s
    let v := s.vote3 f r.task objs
    if v.failed then v.s
    else
      let s := (done v.s).takeOvers
      let s := (s.votedBook r.task missing.isEmpty).releaseVoted f r c (b.commits % 2 ^ 32) v.live v.out
      (s.signCommit f r.task b.commits c false).limitStop

/-- The commit of a task whose instant `c` has come: voted, or in HOLD, and for an instant that fell in HOLD, skipped
(R48, R94, R97). -/
def State.meetCommit (s : State) (f : Folio) (r : TaskRec) (c : Nat) (skipped : Bool) : State :=
  if s.modeNow == .hold || decide (c < s.ductus.runEntry.getD 0) then s.skipCommit r.task
  else s.commitTask f r c skipped

/-- VOTE_COMMIT: at a task's commit instant the vote runs, once the commits that go before it have been voted (R48, R51,
R94, R97). -/
def execVoteCommit (task t : Nat) (s : State) : Host.Outcome State Fault Refusal :=
  let s := s.tick t
  match s.folio.running, s.taskRec task, (s.book task).due with
  | some f, some r, some (c, skipped) =>
    if s.now < c || s.flag F.VOTE_CTRL_FAILED || !s.nextCommit r c then .next s
    else .next (s.meetCommit f r c skipped)
  | _, _, _ => .next s

/-- The next commit that is due is met. -/
def State.meetNext (s : State) : State :=
  match s.folio.running, s.dueCommits.find? fun x => s.nextCommit x.2 x.1 with
  | some f, some (c, r) =>
    (match (s.book r.task).due with
    | some (_, skipped) => if s.flag F.VOTE_CTRL_FAILED then s else s.meetCommit f r c skipped
    | none => s)
  | _, _ => s

/-- Every commit that is due is met, in the order of R51. -/
def State.meetCommits (s : State) : State := s.tasks.foldl (fun s _ => s.meetNext) s

/-- MODE_CHANGE_EFFECT: the accepted changes whose instant has come take effect, in the order of their instants (R95); the
commits of that instant are voted first (R114). -/
def execModeChangeEffect (t : Nat) (s : State) : Host.Outcome State Fault Refusal :=
  let s := s.upTo t
  let ps := s.ductus.modes.filter fun p => p.instant ≤ s.now
  if ps.isEmpty then .next s else .next (ps.foldl State.takeMode s.meetCommits)

end Sys2Proof.Machine
end

