-- ==== Sys2Proof/Machine/Seam.lean ====
section
/-! DEFINITION. The seam at which a folio is switched in (R178 to R189): the carry, the new ductus, pending events, writes
and forces, the outputs and publications, and the completion of the carry (R182); and the enabling of the vote (R63). -/

namespace Sys2Proof.Machine

/-! ### Bookkeeping and events (R179, R180) -/

/-- A task of the new ductus continues a task of the old one: the same number and KIND (R179). -/
def continues (old : Option Folio) (r : TaskRec) : Bool :=
  match old.bind (·.taskOf r.task) with
  | some o => o.event == r.event
  | none => false

/-- A pending release is kept (R180). See log entry 34 (DEDUCED). -/
def keepsPending (old : Option Folio) (r : TaskRec) : Bool :=
  match old.bind (·.taskOf r.task) with
  | some o => sameSource o r
  | none => false

/-- The bookkeeping of a task of the new ductus (R179, R180). See log entry 34 (DEDUCED). -/
def State.seamBook (s : State) (old : Option Folio) (r : TaskRec) : TaskBook :=
  if !continues old r then { bookNew r.task with switchedNext := true } else
  let b := s.book r.task
  let keep := keepsPending old r
  { b with
    switchedNext := true, due := none
    alarm := if keep then b.alarm else ⟨0, 0, false⟩
    pend := if keep then b.pend.map fun p => { p with instant := keptInstant b r p } else b.pend }

/-- The pending releases that the new ductus does not keep are discarded and counted (R180). -/
def State.dropAtSeam (s : State) (old : Folio) (new : Folio) : State :=
  old.tasks.foldl (fun s o =>
    let keep := match new.taskOf o.task with
      | some r => sameSource o r
      | none => false
    if keep || (s.book o.task).pend.isNone then s
    else (s.dropPending o.task).fsat F.FOLIO_CARRY_CNT_EVT_DROPPED) s

/-- A task that the new ductus does not declare is ABSENT in lane `l`; one that it declares shows its attributes, and
starts with DIVZ clear unless it continues (R179). -/
def State.seamTask (s : State) (old : Option Folio) (new : Folio) (l : Lane) (n : Nat) : State :=
  match new.taskOf n with
  | some r =>
    let s := if continues old r then s else s.setReg (R.TASK_STAT l n) 0
    s.showTask r .idle l
  | none => s.setReg (R.TASK_STAT l n) 0

/-- A COMMIT fence forgets the tasks that have become ABSENT (R113). -/
def State.fencesAtSeam (s : State) (new : Folio) : State :=
  s.ductus.fences.foldl (fun s f => match f.kind with
    | .commit ts =>
      let left := ts.filter fun n => (new.taskOf n).isSome
      if left.length == ts.length then s
      else if left.isEmpty then s.fenceReply f stOk
      else { s with ductus := { s.ductus with fences := s.ductus.fences.map fun g => if g == f then { f with kind := .commit left } else g } }
    | _ => s) s

/-! ### Writes and forces across the seam (R189) -/

/-- A record of a VAR_WRITE names a variable that exists with the same type, and an element in range. -/
def writeStands (new : Folio) (w : PendWrite) : Bool :=
  match new.varOf w.identity with
  | some v => v.ty == w.ty && decide (w.element < v.count)
  | none => false

/-- A packet with a record that does not stand is answered BAD_PARAM with its INDEX, and none of its records is
applied. -/
def State.writesAtSeam (s : State) (new : Folio) : State :=
  (s.ductus.writes.filter fun w => !writeStands new w).foldl (fun s w =>
    if s.ductus.writes.any (·.cmd == w.cmd) then
      let s := { s with ductus := { s.ductus with writes := s.ductus.writes.filter (·.cmd != w.cmd) } }
      s.replyErr w.cmd opVarWrite stBadParam w.index
    else s) s

/-- A force stays when its variable exists with the same type and has the element; the force of an element past the
variable's new COUNT is cleared (R189). See log entry 34 (DESIGN CHOICE). -/
def forceStands (new : Folio) (x : Force) : Bool :=
  match new.varOf x.identity with
  | some v => v.ty == x.ty && decide (x.element < v.count)
  | none => false

/-! ### Outputs and publications (R181) -/

/-- The publication bits that a folio binds: (key of a dataset byte, (mask, 0)). -/
def Folio.pubMasks (f : Folio) : List (Nat × (Nat × Nat)) :=
  (f.tasks.map fun r => f.tgoCells r.task fun v => zeros v.bytes).flatten.foldl overlay []

/-- Publication bits cut to those that both folios bind. -/
def bothBound (old : Option Folio) (new : Folio) (c : Nat × (Nat × Nat)) : Option (Nat × (Nat × Nat)) :=
  match old with
  | none => none
  | some o =>
    let m := c.2.1 &&& ((assoc o.pubMasks c.1).getD (0, 0)).1 &&& ((assoc new.pubMasks c.1).getD (0, 0)).1
    if m == 0 then none else some (c.1, (m, c.2.2 &&& m))

/-- The voted publication bytes after the seam: those bound in both folios stay. See log entry 34 (DEDUCED). -/
def State.pubAtSeam (s : State) (old : Option Folio) (new : Folio) : State :=
  let cut (a : TgoArrival) : TgoArrival := { a with bytes := a.bytes.filterMap (bothBound old new) }
  { s with tge := { s.tge with pub := s.tge.pub.filterMap (bothBound old new), arrivals := s.tge.arrivals.map cut } }

/-- The channels that hold their last voted state across the seam: bound by the old folio and not still at their stop
values. -/
def State.heldChannels (s : State) (old : Option Folio) : List Nat :=
  match old with
  | none => []
  | some o => (o.io.filter fun x => x.kind == ioCmd && !s.heldAtStop o x).map (·.channel)

/-- Every mirror is rewritten in the layout of folio `f`, as lane `l` holds it (R181, R349). -/
def State.rewriteMirrors (s : State) (f : Folio) (l : Lane) : State :=
  let s := { s with mem := cellDrop s.mem 0 0x04000000, brg := { s.brg with ahead := s.brg.ahead.filter fun x => decide (0x04000000 ≤ x.1) } }
  f.vars.foldl (fun s v => s.mirror v.segment v.offset (rdVar l f (s.lane l).mem v)) s

/-! ### The lanes (R66, R173, R178) -/

/-- A lane at the seam: a voting lane carries its state and its staged hash is that of the running folio; another holds
no hash of it, and a READY one translates it. -/
def State.laneAtSeam (s : State) (old : Option Folio) (new : Folio) (l : Lane) : State :=
  let x := s.lane l
  if s.isVoting l then
    let acc := carryLane l new old x.mem
    let s := s.setLane l { x with
      mem := acc.mem, execs := [], wrote := [], rounds := [], sliceNext := [], censusSeen := [], xlatHash := x.stagedHash, stagedHash := none }
    s.showHash l (x.stagedHash.getD 0)
  else
    let s := (s.setLane l { x with xlatHash := none, stagedHash := none, rounds := [], sliceNext := [] }).showHash l 0
    if s.laneSt l == .ready then s.setLaneSt l .translating else s

/-- FOLIO_CARRY_CNT of the seam, by the first voting lane (R185, R187). -/
def State.countCarry (s : State) (old : Option Folio) (new : Folio) : State :=
  match s.voters.head? with
  | none => s
  | some l =>
    let acc := carryLane l new old (s.lane l).mem
    (s.fputSat F.FOLIO_CARRY_CNT_SATURATED (if old.isSome then acc.saturated else 0)).fputSat F.FOLIO_CARRY_CNT_SEEDED acc.seeded

/-! ### The pair at a seam (R188, R435) -/

/-- Every line of a folio that the copies cover, and the bookkeeping lines (R188, R424). -/
def Folio.copyLines (f : Folio) : List (Nat × (Nat × Nat)) :=
  (f.tasks.map fun r =>
    ([segOut, segTgo, segRet, segWrk, segFbs].map fun g => (f.ownLines r.task g).map fun n => (r.task, (g, n))).flatten
      ++ [(r.task, (segBook, r.task))]).flatten

/-- A standby enters LAGGING (R424). -/
def State.setLagging (s : State) : State :=
  if s.flag F.DUP_STAT_LAGGING then s else (s.fput F.DUP_STAT_LAGGING 1).fsat F.DUP_COPY_LAGS

/-- The lines that a standby has written since its oldest copy point kept are gathered as marks. -/
def State.gatherMarks (s : State) : State :=
  { s with dup := { s.dup with marks := ((s.dup.points.map (·.written)).flatten ++ s.dup.marks).eraseDups, points := [] } }

/-- The module discards what it receives: the epoch in flight goes back DISCARDED, and input sets are dropped (R188,
R427, R430, R432, R433, R435). -/
def State.discardCopies (s : State) : State :=
  let s := match s.dup.rx with
    | some e => s.cbSend [cbToken 2 e.token]
    | none => s
  let s := s.gatherMarks
  { s with dup := { s.dup with rx := none, rxInput := none, inputs := [], sigs := [] } }

/-- The pair at S: the active will copy the whole state, and what is in flight is not copied again; the standby discards
the epoch in flight, and lags (R188, R435). -/
def State.pairAtSeam (s : State) (new : Folio) : State :=
  if !s.paired then s else
  let s := { s with dup := { s.dup with marks := new.copyLines } }
  if s.copies then
    let bare (e : CopyEpoch) : CopyEpoch := { e with lines := [] }
    { s with dup := { s.dup with sync := none, flight := s.dup.flight.map bare } }
  else
    let s := s.discardCopies
    let s := { s with dup := { s.dup with marks := new.copyLines } }
    if s.role == roleStandby then s.setLagging else s

/-! ### SEAM (R177, R178, R183) -/

/-- The announced seam of a waiting switch is now, and stands (R66, R177). -/
def State.seamStands (s : State) (w : Switch) : Bool :=
  w.confirmed && w.announced == some s.now && !s.anyUncommitted && s.modeNow != .hold
    && !s.flag F.VOTE_CTRL_FAILED && allLanes.all fun l => s.laneSt l != .transfer

/-- The registers of a seam. -/
def State.showSeam (s : State) (old : Option Folio) (new : Folio) : State :=
  let slot := if old.isSome then 1 - s.fget F.FOLIO_STAT_SLOT else 0
  let s := ((s.fput F.FOLIO_STAT_PENDING 0).fput F.FOLIO_STAT_RUNNING 1).fput F.FOLIO_STAT_SLOT slot
  let s := (s.fsat F.FOLIO_STAT_SWITCHES).showRunId new.id
  let s := (s.fput F.FOLIO_SEAM_SEC_VALUE (secOf s.now)).fput F.FOLIO_SEAM_NS_VALUE (nsOf s.now)
  ((s.fput F.FOLIO_CARRY_CNT_SATURATED 0).fput F.FOLIO_CARRY_CNT_SEEDED 0).fput F.FOLIO_CARRY_CNT_EVT_DROPPED 0

/-- The staged folio becomes the running folio at the instant now (R178 to R181, R184 to R189). TASK_STAT of a lane
that is not voting reads 0 from then on. See log entry 34 (DEDUCED, DESIGN CHOICE). -/
def State.switchFolio (s : State) (w : Switch) (new : Folio) : State :=
  let old := s.folio.running
  let s := (s.takeOvers).withdrawLatent
  let s := s.showSeam old new
  let s := match old with
    | some o => s.dropAtSeam o new
    | none => s
  let held := s.heldChannels old
  let s := s.countCarry old new
  let s := allLanes.foldl (fun s l => s.laneAtSeam old new l) s
  let s := s.pubAtSeam old new
  let books := new.tasks.map (s.seamBook old)
  let s := { s with ductus := { s.ductus with tasks := books, forces := s.ductus.forces.filter (forceStands new), limitHit := none } }
  let s := { s with vote := { s.vote with outs := [], voted := [], census := [], censusSeen := [] } }
  let s := s.setStaging .empty
  let s := { s with folio := { s.folio with
    running := some new, previous := old, pendingSwitch := none, carry := some w.cmd, unvoted := new.tasks.map (fun (r : TaskRec) => r.task), oldChannels := held
    seamAt := some s.now } }
  let s := allLanes.foldl (fun s l =>
    (List.range 64).foldl (fun s n => if s.isVoting l then s.seamTask old new l n else s.setReg (R.TASK_STAT l n) 0) s) s
  let s := match s.voters.head? with
    | some l => s.rewriteMirrors new l
    | none => s
  let s := ((s.fencesAtSeam new).writesAtSeam new).compareStops
  let s := (s.pairAtSeam new).advanceGen
  { s with folio := { s.folio with previousGen := (s.fabric.gen + 0xFFFF) % 2 ^ 16 } }

/-- SEAM (R178, R183). -/
def execSeam (t : Nat) (s : State) : Host.Outcome State Fault Refusal :=
  let s := s.tick t
  match s.folio.pendingSwitch, s.folio.staging with
  | some w, .staged f => if s.seamStands w then .next (s.switchFolio w f) else .next s
  | _, _ => .next s

/-- CARRY_COMPLETE: the slot is recorded in each lane's flash, the counter raised, the previous folio discarded,
and FOLIO_SWITCH answered OK (R182). While VIN is in warning the slot record waits (R494). -/
def execCarryComplete (t : Nat) (s : State) : Host.Outcome State Fault Refusal :=
  let s := s.tick t
  match s.folio.carry, s.folio.running with
  | some c, some f =>
    if s.flag F.RPC_VIN_IN_WARNING then .next (s.dipFlag 1) else
    let slot := s.fget F.FOLIO_STAT_SLOT
    let s := allLanes.foldl (fun (s : State) l => s.setLane l { s.lane l with slotRecord := slot }) s
    let s := { s with rub := { s.rub with recorded := some f } }
    let s := s.raiseCounter f.rbIndex f.rbValue
    let s := { s with folio := { s.folio with carry := none } }
    let s := s.fput F.FOLIO_STAT_LAST_RESULT 1
    let s := s.log 0x0013 codeVote (f.id.take 16)
    match c with
    | some c => .next (s.replyOk c opFolioSwitch)
    | none => .next s
  | _, _ => .next s

/-! ### VOTE_ENABLE (R63, R98, R499 step 7) -/

/-- The role from the pairing record: RESYNC with cause START, or SINGLE (R416, R434, R499). -/
def State.setRole (s : State) : State :=
  let r := s.bodyOf kindPairing (zeros 16)
  if leAt r 0 8 == 0 then s else
  let s := (s.fput F.DUP_STAT_ROLE roleResync).fput F.DUP_STAT_CAUSE 1
  let s := (s.fput F.DUP_PARTNER_LO_SERIAL (leAt r 0 4)).fput F.DUP_PARTNER_HI_SERIAL (leAt r 4 4)
  s.fput F.DUP_CFG_COPY_MS (byteAt r 8)

/-- Every READY lane joins the vote with the initial state of the running folio (R62, R63). -/
def State.joinReady (s : State) : State :=
  allLanes.foldl (fun s l =>
    if s.laneSt l != .ready then s else
    let s := match s.folio.running with
      | some f => s.startMemory f l
      | none => s
    (s.setLaneSt l .voting).enterPermits l) s

/-- VOTE_ENABLE: at the first grid instant with at least two lanes READY the vote enables, the stored configuration is
delivered, and a folio with AUTOSTART behaves as if MODE_SET RUN were accepted now (R63, R98, R499). -/
def execVoteEnable (t : Nat) (s : State) : Host.Outcome State Fault Refusal :=
  let s := s.tick t
  let ready := allLanes.filter fun l => s.laneSt l == .ready
  if s.flag F.VOTE_CTRL_EN || s.flag F.VOTE_CTRL_FAILED || !s.voters.isEmpty || ready.length < 2 || s.now % gridNs != 0 then .next s
  else
    let s := match s.folio.running with
      | some f => { s with ductus := { s.ductus with tasks := f.tasks.map fun (r : TaskRec) => bookNew r.task } }
      | none => s
    let s := s.fput F.VOTE_CTRL_EN 1
    let s := (s.joinReady).refreshVote
    let s := match s.folio.running, s.voters.head? with
      | some f, some l => s.rewriteMirrors f l
      | _, _ => s
    let s := (s.startStep 7).fputSat F.RPC_START_MS_TO_VOTE ((s.mono - s.power.releasedAt) / 1000000)
    let s := (s.setRole).deliverStore
    let auto := match s.folio.running with
      | some f => f.autostart
      | none => false
    .next (if auto then s.pendMode .run s.now none else s)

end Sys2Proof.Machine
end

