-- ==== Sys2Proof/Machine/Duplex.lean ====
section
/-! DEFINITION. The duplex pair: the claim and its exchange (R418 to R421), the roles (R415 to R417, R430, R432), the
copybook link and its records (R422 to R429), rehearsal (R433), and the coincidences of R435. -/

namespace Sys2Proof.Machine

/-! ### RESYNC causes (DUP_STAT.CAUSE) -/

def causeLink : Nat := 2
def causeFolio : Nat := 3
def causeFull : Nat := 4
def causeDiverged : Nat := 5
def causeLost : Nat := 6

/-! ### The claim (R418) -/

/-- Codes of the claim's ROLE field. -/
def claimActive : Nat := 6
def claimStandby : Nat := 4
def claimResync : Nat := 2

/-- The code of the module's role. -/
def claimRole (r : Nat) : Nat := if r == roleActive then claimActive else if r == roleStandby then claimStandby else claimResync

/-- The partner's serial number, as paired. -/
def State.partner (s : State) : Nat := s.fget F.DUP_PARTNER_LO_SERIAL + 2 ^ 32 * s.fget F.DUP_PARTNER_HI_SERIAL

/-- The tie-breaker. -/
def State.tie (s : State) : Nat :=
  let low := moduleSerial % 16
  if s.partner % 16 == low && s.partner < moduleSerial then low ^^^ 1 else low

/-- A bank of either group is in CUT; one is latched (R239). An unused bank reports no cut. -/
def State.anyCut (s : State) : Bool := allGroups.any fun g => (List.range 8).any fun b => s.flag (F.FIO_BANK_CUT g b)
def State.anyLatched (s : State) : Bool := allGroups.any fun g => (List.range 8).any fun b => s.flag (F.FIO_BANK_EVT_LATCHED g b)

/-- HEALTH. -/
def State.health (s : State) : Nat :=
  let n := s.voters.length
  (if n == 3 then 0xC0 else if n == 2 then 0x80 else 0)
    + natOfBits [false, s.role == roleActive || (s.role == roleStandby && !s.flag F.DUP_STAT_LAGGING),
        s.linked && s.flag F.DUP_STAT_SEEN, s.tmState == tmLocked, !s.anyLatched, !s.anyCut]

/-- The claim that offers `role` with pair epoch `epoch`; 0 from a failure until SYSTEM reset (R419). -/
def State.claimWord (s : State) (role epoch : Nat) : Nat :=
  if s.flag F.VOTE_CTRL_FAILED then 0
  else 2 ^ 31 + 2 ^ 28 * role + 2 ^ 20 * s.health + 16 * (epoch % 2 ^ 16) + s.tie

/-- Fields of a claim. -/
def claimRoleOf (c : Nat) : Nat := c / 2 ^ 28 % 8
def claimEpochOf (c : Nat) : Nat := c / 16 % 2 ^ 16

/-- The pair epoch. -/
def State.epoch (s : State) : Nat := s.fget F.DUP_STAT_EPOCH

/-- A swap that is confirmed and not yet made, whose offers begin at W − 20 µs (R433). -/
def State.swapOffers (s : State) : Bool :=
  match s.dup.swap with
  | some w => w.confirmed && !w.swapped && decide (w.w ≤ s.now + us20)
  | none => false

/-- The claim that the logic side offers now (R419, R433). -/
def State.claimNow (s : State) : Nat :=
  if s.swapOffers && s.role == roleActive then s.claimWord claimStandby s.epoch
  else if s.swapOffers && s.role == roleStandby then s.claimWord claimActive (min (s.epoch + 1) 0xFFFF)
  else s.claimWord (claimRole s.role) s.epoch

/-- CLAIM_OFFER: at g + 30 µs the logic side of a paired module sends each group its offer (R419). The offer arrives
whole; a group that is off takes none. -/
def execClaimOffer (t : Nat) (s : State) : Host.Outcome State Fault Refusal :=
  let s := s.tick t
  if !s.paired || s.now % gridNs != 30000 then .next s else
  let c := s.claimNow
  let s := s.fput F.DUP_OFFER_CLAIM c
  .next (allGroups.foldl (fun (s : State) g => if s.fgUp g then s.setFc g { s.fc g with offer := some c } else s) s)

/-! ### Roles (R416) -/

/-- The role changes, and vector 40 fires (R360). -/
def State.putRole (s : State) (r cause : Nat) : State :=
  ((s.fput F.DUP_STAT_ROLE r).fput F.DUP_STAT_CAUSE cause).hostEvent evDuplex

/-- A rehearsal is abandoned, and answered CHECK_FAIL where the command was received (R433, R435). -/
def State.endSwap (s : State) : State :=
  match s.dup.swap with
  | some w =>
    let s := { s with dup := { s.dup with swap := none } }
    match w.cmd with
    | some c => s.replyErr c 0x0902 stCheckFail noIndex
    | none => s
  | none => s

/-- The module enters RESYNC with a cause: out of step, and without a rehearsal (R416, R425, R432).
See log entry 64 (DEDUCED). -/
def State.enterResync (s : State) (cause : Nat) : State :=
  let s := (s.discardCopies).endSwap
  let s := { s with dup := { s.dup with inStep := false, sync := none, lost0 := 0, lost1 := 0, ownInputs := [] } }
  (s.fput F.DUP_STAT_LAGGING 0).putRole roleResync cause

/-- The module becomes ACTIVE: the pair epoch, the counts, what it received discarded (R418, R430). -/
def State.becomeActive (s : State) : State :=
  let e := min (max s.epoch (claimEpochOf (leAt s.dup.hello 4 4)) + 1) 0xFFFF
  let s := s.fput F.DUP_STAT_EPOCH e
  let s := (s.fsat F.DUP_TAKEOVER_COUNT).fput F.DUP_TAKEOVER_UNSYNCED (bit (s.role == roleResync))
  let s := s.fput F.DUP_TAKEOVER_LAGGING (bit (s.flag F.DUP_STAT_LAGGING))
  let s := (s.fput F.DUP_TAKE_SEC_SECONDS (secOf s.now)).discardCopies
  let s := { s with dup := { s.dup with frozen := s.now, sync := none, inStep := false, lost0 := 0, lost1 := 0, ownInputs := [] } }
  (s.fput F.DUP_STAT_LAGGING 0).putRole roleActive 0

/-- The groups whose field link is up, and whether all of them have reported CLAIM_HELD (R430). -/
def State.claimHeld (s : State) : Bool :=
  let up := allGroups.filter fun g => s.flag (F.FIO_LINK_UP g)
  !up.isEmpty && up.all fun g => s.flag (F.FIO_LINK_CLAIM g)

/-- Promotion at a grid instant (R430, R435). See log entry 63 (DEDUCED). -/
def State.promote (s : State) : State :=
  if s.notActing && s.flag F.VOTE_CTRL_EN && s.claimHeld then (s.endSwap).becomeActive else s

/-! ### The exchange (R419 to R421, R432) -/

/-- The claim that a field controller puts on the line, and its memory of offers (R419). -/
def FcState.ownClaim (x : FcState) : Nat × FcState :=
  let fresh : FcState := match x.offer with
    | some c => { x with offer := none, lastOffer := c, reused := 0 }
    | none => { x with reused := min (x.reused + 1) 3 }
  let c := if fresh.reused ≤ 2 then fresh.lastOffer else 0
  (if x.blotter then 0 else c, fresh)

/-- The exchange: hold, seen, and the peer value. Without the partner's drive, or past 5 µs, the line holds the own
claim and the partner is not seen; of two claims the greater holds; two of 0 both hold, and neither reports (R420).
See log entry 63 (DEDUCED). -/
def exchange (own : Nat) (peer : Option Nat) : Bool × (Bool × Nat) :=
  match peer with
  | none => (true, (false, 0xFFFFFFFF))
  | some p => if own < p then (false, (true, p)) else if p < own then (true, (true, p)) else (true, (false, 0xFFFFFFFF))

/-- DUP_PEER of a group. -/
def peerField : Grp → Field
  | .g0 => F.DUP_PEER_G0_CLAIM
  | .g1 => F.DUP_PEER_G1_CLAIM

/-- The CLAIM_LINE fault of a group. -/
def lineField : Grp → Field
  | .g0 => F.DUP_STAT_CLM_G0
  | .g1 => F.DUP_STAT_CLM_G1

/-- Exchanges lost in a row while ACTIVE was offered. -/
def DupState.lost (d : DupState) : Grp → Nat
  | .g0 => d.lost0
  | .g1 => d.lost1

/-- The count replaced. -/
def DupState.setLost (d : DupState) : Grp → Nat → DupState
  | .g0, n => { d with lost0 := n }
  | .g1, n => { d with lost1 := n }

/-- The CLAIM_LINE fault follows 20 exchanges in a row (R421). -/
def lineFault (x : FcState) (seen : Bool) : FcState :=
  let u := if seen then 0 else min (x.unseen + 1) 20
  let n := if seen then min (x.seenRun + 1) 20 else 0
  { x with unseen := u, seenRun := n, claimFault := if u == 20 then true else if n == 20 then false else x.claimFault }

/-- A loss while the module offered ACTIVE is counted; two in a row demote it (R432). See log entry 63 (DEDUCED). -/
def State.countLost (s : State) (g : Grp) (hold : Bool) : State :=
  if s.role != roleActive then s else
  let n := if !hold && claimRoleOf (s.fget F.DUP_OFFER_CLAIM) == claimActive then s.dup.lost g + 1 else 0
  let s := { s with dup := s.dup.setLost g n }
  if 2 ≤ n then s.enterResync causeLost else s

/-- CLAIM_EXCHANGE: at g + 35 µs the field controller of a paired group exchanges claims; the hold takes effect at its
next APPLY instant. `peer`: what the counterpart drives, none where it drives nothing in time (R420, R421).
See log entry 63 (DEDUCED). -/
def execClaimExchange (g : Grp) (peer : Option Word) (t : Nat) (s : State) : Host.Outcome State Fault Refusal :=
  let s := s.tick t
  if !s.paired || !s.fgUp g then .next s else
  let (own, x) := (s.fc g).ownClaim
  let (hold, seen, value) := exchange own (peer.map (·.toNat))
  let was := x.claimNext.getD x.claim
  let y := lineFault { x with claimNext := some hold } seen
  let s := s.setFc g y
  let s := (s.fput (peerField g) value).fput (lineField g) (bit y.claimFault)
  let s := if seen then s else s.fsat F.DUP_CLAIM_CNT_NOT_SEEN
  let s := if hold == was then s else (s.fsat F.DUP_CLAIM_CNT_CHANGES).hostEvent evDuplex
  let s := if seen && value != 0 && s.role != roleActive then s.fput F.DUP_STAT_EPOCH (claimEpochOf value) else s
  .next (s.countLost g hold)

/-! ### The copybook link (R422) -/

/-- CBL_LINK_UP. -/
def execCblLinkUp (t : Nat) (s : State) : Host.Outcome State Fault Refusal :=
  .next ((s.tick t).fput F.DUP_STAT_LINK 1)

/-- The lines of an epoch whose copy was not applied are marked again. -/
def State.remark (s : State) (e : CopyEpoch) : State :=
  let xs : List (Nat × (Nat × Nat)) := e.lines.map fun x => (x.task, (x.seg, x.line))
  { s with dup := { s.dup with marks := s.dup.marks ++ xs.filter (!s.dup.marks.contains ·) } }

/-- A token is counted as returned (R427). See log entry 65 (DEDUCED). -/
def State.tokenBack (s : State) (e : CopyEpoch) (applied : Bool) : State :=
  let s := { s with dup := { s.dup with flight := s.dup.flight.filter (·.token != e.token) } }
  let s := s.finc (if applied then F.DUP_TOK_APPLIED_COUNT else F.DUP_TOK_DISCARDED_COUNT)
  let s := if applied then s else s.remark e
  if applied && e.final then
    ({ s with dup := { s.dup with sync := none, syncedAt := s.now } }).fsat F.DUP_COPY_FULL
  else if !applied && e.full then { s with dup := { s.dup with sync := none } }
  else s

/-- The partner is not reachable: a standby loses a condition of its role (R416). -/
def State.losePartner (s : State) : State :=
  let s := s.fput F.DUP_STAT_SEEN 0
  if s.role == roleStandby then s.enterResync causeLink else s

/-- CBL_LINK_DOWN: both ends count every token in flight as DISCARDED; what is being received is dropped (R422, R427,
R435). -/
def execCblLinkDown (t : Nat) (s : State) : Host.Outcome State Fault Refusal :=
  let s := s.tick t
  if !s.linked then .next s else
  let s := (s.fput F.DUP_STAT_LINK 0).fsat F.DUP_LINK_ERR_DOWNS
  let s := s.dup.flight.foldl (fun (s : State) e => s.tokenBack e false) s
  let s := { s with dup := { s.dup with rx := none, rxInput := none, sync := none } }
  let s := s.losePartner
  .next (if s.role == roleResync then (s.fput F.DUP_STAT_CAUSE causeLink) else s)

/-- PARTNER_UNREACHABLE: 1 ms without a HELLO (R422). -/
def execPartnerUnreachable (t : Nat) (s : State) : Host.Outcome State Fault Refusal :=
  let s := s.tick t
  .next (if s.flag F.DUP_STAT_SEEN && decide (s.dup.helloAt + ms1 ≤ s.now) then s.losePartner else s)

/-! ### HELLO (R423) -/

/-- SHA-384(M) of the running folio; zeros while none runs. See log entry 20 (DESIGN CHOICE). -/
def State.folioHash (s : State) : List Byte :=
  match s.folio.running with
  | some f => sha384 f.message
  | none => zeros 48

/-- CFG_HASH: CRC-32C of the channel configuration in force, as its records. See log entry 67 (DEDUCED). -/
def State.cfgHash (s : State) : Nat := (crc32c (s.storeBody kindChannels)).toNat

/-- The CRC field of the locked safe stop record, or 0. -/
def State.ssmCrc (s : State) : Nat :=
  match s.ssm.record with
  | some r => leAt r 44 4
  | none => 0

/-- The HELLO record of now. -/
def State.helloRecord (s : State) : List Byte :=
  leBytes 1 1 ++ leBytes 1 (roleInfo s.role) ++ leBytes 1 (modeCode s.modeNow)
    ++ leBytes 1 (natOfBits [s.role == roleResync, s.standstill, s.flag F.DUP_STAT_LAGGING])
    ++ leBytes 4 s.claimNow ++ leBytes 8 moduleSerial ++ padTo 48 s.folioHash ++ leBytes 8 s.now ++ leBytes 4 s.cfgHash
    ++ leBytes 4 s.ssmCrc

/-- HELLO_SEND. -/
def execHelloSend (t : Nat) (s : State) : Host.Outcome State Fault Refusal :=
  let s := s.tick t
  .next (if s.paired then s.cbSend [s.helloRecord] else s)

/-- Fields of a HELLO record. -/
def helloRole (r : List Byte) : Nat := byteAt r 1
def helloMode (r : List Byte) : Nat := byteAt r 2
def helloResync (r : List Byte) : Bool := natBit (byteAt r 3) 0
def helloStandstill (r : List Byte) : Bool := natBit (byteAt r 3) 1
def helloLagging (r : List Byte) : Bool := natBit (byteAt r 3) 2
def helloOffer (r : List Byte) : Nat := leAt r 4 4
def helloSerial (r : List Byte) : Nat := leAt r 8 8
def helloFolio (r : List Byte) : List Byte := slice r 16 48
def helloTime (r : List Byte) : Nat := leAt r 64 8
def helloCfg (r : List Byte) : Nat := leAt r 72 4

/-- The partner's last HELLO: a STANDBY partner. -/
def State.partnerStandby (s : State) : Bool :=
  s.flag F.DUP_STAT_SEEN && helloRole s.dup.hello == 2 && !helloResync s.dup.hello

/-- The partner runs the same folio, by its last HELLO; one sent before the last seam says nothing.
See log entry 20 (DESIGN CHOICE). -/
def State.sameFolio (s : State) : Bool :=
  helloTime s.dup.hello < s.folio.seamAt.getD 0 || helloFolio s.dup.hello == padTo 48 s.folioHash

/-- The conditions of STANDBY that are not met: 0 when all are (R416). -/
def State.standbyCause (s : State) : Nat :=
  if !s.linked || !s.flag F.DUP_STAT_SEEN then causeLink
  else if !s.sameFolio then causeFolio
  else if helloRole s.dup.hello != 1 || !s.dup.inStep then causeFull
  else 0

/-- The role follows the conditions of STANDBY (R416). While a rehearsal is under way the partner's role is changing. -/
def State.checkStandby (s : State) : State :=
  if s.role == roleResync && s.standbyCause == 0 then s.putRole roleStandby 0
  else if s.role == roleStandby && s.dup.swap.isNone && s.standbyCause != 0 then s.enterResync s.standbyCause
  else s

/-- A module in RESYNC takes its partner's mode from a HELLO later than its own last change (R417).
See log entry 64 (DEDUCED). -/
def State.followMode (s : State) (r : List Byte) : State :=
  let last := max (max s.ductus.stopAt s.ductus.holdAt) (s.ductus.runEntry.getD 0)
  if s.role != roleResync || helloRole r != 1 || !s.ductus.modes.isEmpty || helloTime r ≤ last then s else
  let m : Mode := if helloMode r == 1 then .run else if helloMode r == 2 then .hold else .stop
  if m == s.modeNow || (m == .run && s.folio.running.isNone) then s
  else { s with ductus := { s.ductus with modes := insertMode ⟨m, gridUp s.now, none⟩ s.ductus.modes } }

/-- A record whose link frame fails its CRC is discarded and counted, and leaves a gap in what it belonged to (R422). -/
def State.cbBad (s : State) : State :=
  let breakE (e : CopyEpoch) : CopyEpoch := { e with broken := true }
  let breakI (e : InputSet) : InputSet := { e with broken := true }
  let s := s.fsat F.DUP_LINK_ERR_BAD
  { s with dup := { s.dup with rx := s.dup.rx.map breakE, rxInput := s.dup.rxInput.map breakI } }

/-- One record arrives over the link: nothing while the link is down or the module is not paired. -/
def State.cbReceive (s : State) (ok : Bool) (t : Nat) (k : State → State) : State :=
  let s := s.tick t
  if !s.linked || !s.paired then s else if !ok then s.cbBad else k s

/-- A HELLO of the partner: its record, reachability, epoch, configuration and what follows for the role (R414, R416,
R418, R422). One of another serial number is not the partner's. See log entry 67 (DEDUCED). -/
def State.takeHello (s : State) (r : List Byte) : State :=
  if helloSerial r != s.partner then s else
  let s := { s with dup := { s.dup with hello := r, helloAt := s.now } }
  let s := (s.fput F.DUP_STAT_SEEN 1).fput F.DUP_STAT_CFG_DIFF (bit (helloCfg r != s.cfgHash))
  let s := if s.role != roleActive && helloOffer r != 0 then s.fput F.DUP_STAT_EPOCH (claimEpochOf (helloOffer r)) else s
  (s.followMode r).checkStandby

/-- HELLO. -/
def execHello (ok : Bool) (r : List Byte) (t : Nat) (s : State) : Host.Outcome State Fault Refusal :=
  .next (s.cbReceive ok t fun s => s.takeHello r)

/-! ### Epochs at the active (R424, R426, R427) -/

/-- The copy epoch interval in ns. -/
def State.copyNs (s : State) : Nat := s.fget F.DUP_CFG_COPY_MS * ms1

/-- The last copy boundary at or before `t`. -/
def State.lastBoundary (s : State) (t : Nat) : Nat := if s.copyNs == 0 then 0 else t / s.copyNs * s.copyNs

/-- Bytes of the records of an epoch of `n` lines. -/
def epochBytes (n : Nat) : Nat := 24 + 72 * n + 8

/-- When the last byte of an epoch frozen now leaves: at 1,250 B/µs within the budget of the interval, and over further
intervals beyond it (R422, R424). See log entry 65 (DEDUCED). -/
def State.leavesAt (s : State) (bytes : Nat) : Nat :=
  let budget := 1048576 * s.fget F.DUP_CFG_COPY_MS
  if bytes ≤ budget || budget == 0 then s.now + ceilDiv (4 * bytes) 5
  else
    let k := (bytes - 1) / budget
    s.lastBoundary s.now + k * s.copyNs + ceilDiv (4 * (bytes - k * budget)) 5

/-- An epoch is frozen now from the lines `xs`, and sent; a difference between lanes that leaves no line discards it
whole (R423, R424). See log entry 65 (DEDUCED). -/
def State.freeze (s : State) (f : Folio) (xs : List (Nat × (Nat × Nat))) (full final : Bool) : State :=
  let xs := xs.filter fun x => (f.taskOf x.1).isSome
  match s.formLines f xs with
  | (s, some ls) =>
    let k := s.dup.token
    let e : CopyEpoch := { token := k, point := s.now, full := full, final := final, expected := ls.length, lines := ls, broken := false }
    let s := s.cbSend ([cbEpochHead full final k s.now ls.length] ++ ls.map cbLine ++ [cbTerm k])
    let s := s.finc F.DUP_TOK_ISSUED_COUNT
    { s with dup := { s.dup with
        marks := [], token := (k + 1) % 2 ^ 32, flight := s.dup.flight ++ [e], frozen := s.now
        sentUntil := s.leavesAt (epochBytes ls.length) } }
  | (s, none) => { s with dup := { s.dup with frozen := s.now } }

/-- The partner asks for full synchronisation: it is in RESYNC with the same folio, by a HELLO later than the last
synchronisation. See log entry 65 (DEDUCED). -/
def State.wantsFull (s : State) : Bool :=
  let h := s.dup.hello
  s.flag F.DUP_STAT_SEEN && helloResync h && decide (s.dup.syncedAt ≤ helloTime h) && s.sameFolio

/-- The gap that a FINAL epoch of `bytes` needs: 20 µs, and its transfer at 1,048 B/µs with 10 µs (R426). -/
def finalGap (bytes : Nat) : Nat := max us20 (ceilDiv (1000 * bytes) 1048 + 10000)

/-- A seam of the running ductus is usable now for the FINAL epoch, unless a folio switch takes it (R66, R426). -/
def State.finalFits (s : State) (f : Folio) : Bool :=
  gapAtLeast s.now (finalGap (epochBytes s.dup.marks.length)) (s.firstRelease f s.now)
    && s.folio.pendingSwitch.all (fun w => w.announced != some s.now)

/-- What the active does at a copy point: nothing while an epoch is being sent or two tokens are in flight; the next
step of a full synchronisation; or the marked lines, once after each boundary (R424, R426, R427). -/
def State.activePoint (s : State) (f : Folio) : State :=
  if !s.linked || s.now < s.dup.sentUntil || 2 ≤ s.dup.flight.length then s else
  let bound := decide (s.dup.frozen < s.lastBoundary s.now)
  match s.dup.sync with
  | some (n, a) =>
    if !s.wantsFull then { s with dup := { s.dup with sync := none } }
    else if s.dup.flight.any (·.final) then s
    else if s.finalFits f then
      (s.freeze f s.dup.marks true true)
    else if bound then
      let s := s.freeze f s.dup.marks true false
      { s with dup := { s.dup with sync := some (n + 1, a) } }
    else s
  | none =>
    if s.wantsFull then
      if !bound then s else
      let s := s.freeze f f.copyLines true false
      { s with dup := { s.dup with sync := some (1, s.now) } }
    else if bound then s.freeze f s.dup.marks false false
    else s

/-- A standby keeps its own state at each copy point (R425). -/
def State.keepPoint (s : State) (f : Folio) : State :=
  match s.voters.head? with
  | none => s
  | some l =>
    let p : CopyPoint := { point := s.now, lane := l, mem := (s.lane l).mem, books := f.tasks.map fun (r : TaskRec) => (r.task, s.bookLine r.task), written := s.dup.marks }
    { s with dup := { s.dup with points := s.dup.points.filter (·.point != s.now) ++ [p], marks := [] } }

/-- Now is a copy point: a grid instant with no task released-but-uncommitted, and not a folio seam (R424, R435). -/
def State.copyPoint (s : State) : Bool :=
  s.now % gridNs == 0 && !s.anyUncommitted && s.folio.seamAt != some s.now
    && !(s.folio.pendingSwitch.any fun w => w.confirmed && w.announced == some s.now)

/-- EPOCH_FREEZE: a copy point, after its commits and before its releases (R424, R425). See log entry 65 (DEDUCED). -/
def execEpochFreeze (t : Nat) (s : State) : Host.Outcome State Fault Refusal :=
  let s := s.tick t
  match s.folio.running with
  | some f =>
    if !s.paired || !s.copyPoint || s.copyNs == 0 then .next s
    else if s.copies then .next (s.activePoint f)
    else if s.role == roleStandby then .next (s.keepPoint f)
    else .next s
  | none => .next s

/-- FULL_SYNC_TIMEOUT: 10 s without a usable seam, or a FINAL epoch whose gap has ended: a new first pass (R426). -/
def execFullSyncTimeout (t : Nat) (s : State) : Host.Outcome State Fault Refusal :=
  let s := s.tick t
  match s.dup.sync with
  | some (_, a) =>
    let late := s.dup.flight.any fun e => e.final && (s.ductus.tasks.any fun b => match b.lastRelease with
      | some r => decide (e.point ≤ r)
      | none => false)
    if a + searchSpan ≤ s.now || late then .next { s with dup := { s.dup with sync := none } } else .next s
  | none => .next s

/-- TOKEN: a token comes back, once (R427). -/
def execToken (ok : Bool) (r : List Byte) (t : Nat) (s : State) : Host.Outcome State Fault Refusal :=
  .next (s.cbReceive ok t fun s =>
    match s.dup.flight.find? (·.token == leAt r 4 4) with
    | some e => s.tokenBack e (byteAt r 1 == 1)
    | none => s)

/-! ### Epochs at the standby (R425, R426) -/

/-- EPOCH_HEAD: a copy epoch opens; one still open goes back DISCARDED. -/
def execEpochHead (ok : Bool) (r : List Byte) (t : Nat) (s : State) : Host.Outcome State Fault Refusal :=
  .next (s.cbReceive ok t fun s =>
    let s := match s.dup.rx with
      | some e => s.cbSend [cbToken 2 e.token]
      | none => s
    let fl := byteAt r 1
    let e : CopyEpoch := { token := leAt r 4 4, point := leAt r 8 8, full := natBit fl 0, final := natBit fl 1, expected := leAt r 16 4, lines := [], broken := false }
    { s with dup := { s.dup with rx := some e } })

/-- INPUT_HEAD: the input set of a release opens. -/
def execInputHead (ok : Bool) (r : List Byte) (t : Nat) (s : State) : Host.Outcome State Fault Refusal :=
  .next (s.cbReceive ok t fun s =>
    let i : InputSet := { task := byteAt r 1, release := leAt r 4 4, instant := leAt r 8 8, expected := leAt r 16 4, lines := [], broken := false }
    { s with dup := { s.dup with rxInput := some i } })

/-- The line of a LINE record (R423). -/
def parseLine (r : List Byte) : CopyLine := ⟨byteAt r 1, byteAt r 2, leAt r 4 4, slice r 8 64⟩

/-- LINE: of the input set that is open, which goes ahead, else of the epoch (R422, R423). The lanes take it when its
TERM lands. -/
def execLine (ok : Bool) (r : List Byte) (t : Nat) (s : State) : Host.Outcome State Fault Refusal :=
  .next (s.cbReceive ok t fun s =>
    match s.dup.rxInput with
    | some i => { s with dup := { s.dup with rxInput := some { i with lines := i.lines ++ [parseLine r] } } }
    | none =>
      match s.dup.rx with
      | some e => { s with dup := { s.dup with rx := some { e with lines := e.lines ++ [parseLine r] } } }
      | none => s)

/-- A line written into every voting lane, over the bytes that its task owns (R423, R425). -/
def State.putLine (s : State) (f : Folio) (x : CopyLine) : State :=
  if x.seg == segBook then s.putBookLine x.task x.data
  else s.voters.foldl (fun (s : State) l =>
    let y := s.lane l
    (s.setLane l { y with mem := wrOwned l f y.mem x }).noteRewrite l x.seg (64 * x.line) 64) s

/-- A landed line equals the standby's own state at the copy point, over the bytes that the line's task owns (R425). -/
def sameAtPoint (f : Folio) (p : CopyPoint) (x : CopyLine) : Bool :=
  if x.seg == segBook then ((assoc p.books x.task).getD (zeros 64)) == x.data
  else
    let own := logicalLine p.lane f p.mem x.seg x.line
    (List.range 64).all fun i => !f.owns x.task x.seg (64 * x.line + i) || byteAt own i == byteAt x.data i

/-- The first divergence after a clear is captured (DUP_DIV_CAP, R70). -/
def State.divCap (s : State) (kind task seg : Nat) : State :=
  if s.flag F.DUP_DIV_CAP_VALID then s else
  let s := (s.fput F.DUP_DIV_CAP_VALID 1).fput F.DUP_DIV_CAP_KIND kind
  (s.fput F.DUP_DIV_CAP_TASK task).fput F.DUP_DIV_CAP_SEG seg

/-- A state difference of a line is counted (R425). -/
def State.divState (s : State) (task seg : Nat) : State := (s.fsat F.DUP_DIVERGE_STATE).divCap 2 task seg

/-- The lines that the standby wrote up to a copy point since the last landed one, and those written since it. -/
def State.writtenTo (s : State) (p : Nat) : List (Nat × (Nat × Nat)) :=
  ((s.dup.points.filter fun x => x.point ≤ p).map (·.written)).flatten
def State.writtenAfter (s : State) (p : Nat) : List (Nat × (Nat × Nat)) :=
  ((s.dup.points.filter fun x => p < x.point).map (·.written)).flatten ++ s.dup.marks

/-- One landed line is compared; true with a divergence that the standby cannot take over (R425).
See log entry 66 (DEDUCED). -/
def State.compareLine (s : State) (f : Folio) (p : CopyPoint) (since : List (Nat × (Nat × Nat))) (x : CopyLine) :
    State × Bool :=
  if sameAtPoint f p x then (s, false)
  else
    let s := s.divState x.task x.seg
    if since.contains (x.task, (x.seg, x.line)) then (s, true) else (s.putLine f x, false)

/-- LAGGING clears when an epoch lands before the boundary that follows its copy point (R424).
See log entry 66 (DEDUCED). -/
def State.clearLag (s : State) (point : Nat) : State :=
  if s.copyNs != 0 && s.now < s.lastBoundary point + s.copyNs then s.fput F.DUP_STAT_LAGGING 0 else s

/-- A landed epoch is compared with the state at its copy point; a line in one set and absent from the other's counts as
different and written since (R425). See log entry 66 (DEDUCED). -/
def State.landEpoch (s : State) (f : Folio) (e : CopyEpoch) : State :=
  let p : CopyPoint := match s.dup.points.find? (·.point == e.point), s.voters.head? with
    | some p, _ => p
    | none, some l => { point := e.point, lane := l, mem := (s.lane l).mem, books := f.tasks.map fun (r : TaskRec) => (r.task, s.bookLine r.task), written := [] }
    | none, none => { point := e.point, lane := .a, mem := [], books := [], written := [] }
  let mine := s.writtenTo e.point
  let since := s.writtenAfter e.point
  let (s, bad) := e.lines.foldl (fun (q : State × Bool) x =>
    let (s, b) := q.1.compareLine f p since x
    (s, q.2 || b)) (s, false)
  let theirs : List (Nat × (Nat × Nat)) := e.lines.map fun x => (x.task, (x.seg, x.line))
  let apart := mine.eraseDups.filter (!theirs.contains ·) ++ theirs.filter (!mine.contains ·)
  let s := apart.foldl (fun (s : State) x => s.divState x.1 x.2.1) s
  let s := { s with dup := { s.dup with points := s.dup.points.filter fun x => decide (e.point < x.point), landed := e.point } }
  let s := (s.cbSend [cbToken 1 e.token]).clearLag e.point
  if bad || !apart.isEmpty then s.enterResync causeDiverged else s

/-- A FULL epoch is written without comparison; the FINAL one, if it lands in its gap, puts the module in step (R426).
See log entry 66 (DEDUCED). -/
def State.landFull (s : State) (f : Folio) (e : CopyEpoch) : State :=
  let late := s.anyUncommitted || s.ductus.tasks.any fun b => match b.lastRelease with
    | some r => decide (e.point ≤ r)
    | none => false
  if e.final && late then s.cbSend [cbToken 2 e.token] else
  let s := e.lines.foldl (fun (s : State) x => s.putLine f x) s
  let s := s.cbSend [cbToken 1 e.token]
  if !e.final then s else
  let s := { s with dup := { s.dup with inStep := true, landed := e.point, points := [], marks := [] } }
  s.checkStandby

/-- TERM of an epoch: landed with every line and no gap; an ACTIVE module applies none (R425, R432). -/
def State.endEpoch (s : State) (e : CopyEpoch) : State :=
  let s := { s with dup := { s.dup with rx := none } }
  match s.folio.running with
  | some f =>
    if s.role == roleActive || e.broken || e.lines.length != e.expected then s.cbSend [cbToken 2 e.token]
    else if e.full then s.landFull f e
    else if s.role == roleStandby then s.landEpoch f e
    else s.cbSend [cbToken 2 e.token]
  | none => s.cbSend [cbToken 2 e.token]

/-- TERM of an input set: landed with every line and no gap (R428). -/
def State.endInput (s : State) (i : InputSet) (release : Nat) : State :=
  let s := { s with dup := { s.dup with rxInput := none } }
  if i.broken || i.lines.length != i.expected || i.release != release || s.role == roleActive then s
  else { s with dup := { s.dup with inputs := s.dup.inputs.filter (·.task != i.task) ++ [i] } }

/-- TERM. See log entry 65 (DEDUCED). -/
def execTerm (ok : Bool) (r : List Byte) (t : Nat) (s : State) : Host.Outcome State Fault Refusal :=
  .next (s.cbReceive ok t fun s =>
    match s.dup.rxInput with
    | some i => s.endInput i (leAt r 4 4)
    | none =>
      match s.dup.rx with
      | some e => if e.token == leAt r 4 4 then s.endEpoch e else s
      | none => s)

/-- COPY_BOUNDARY: a standby lags when the epoch frozen after the previous boundary has not landed (R424). -/
def execCopyBoundary (t : Nat) (s : State) : Host.Outcome State Fault Refusal :=
  let s := s.tick t
  if s.role == roleStandby && s.copyNs != 0 && s.now % s.copyNs == 0 && s.dup.landed + s.copyNs < s.now then .next s.setLagging
  else .next s

/-! ### Shadow computation (R428, R429) -/

/-- SHADOW_RELEASE: at R + 20 µs a module that is not ACTIVE releases the task on the input set of the same release count
if it has landed, else on its own snapshot of R (R428). -/
def execShadowRelease (task t : Nat) (s : State) : Host.Outcome State Fault Refusal :=
  let s := s.tick t
  let rel := s.now - us20
  match s.folio.running, s.taskRec task with
  | some f, some r =>
    if !s.notActing || s.now < us20 || !s.releaseDue r rel then .next s else
    let n := (s.book task).releases
    let s := s.joinLanded
    match s.dup.inputs.find? fun i => i.task == task && i.release == n with
    | some i =>
      let s := { s with dup := { s.dup with inputs := s.dup.inputs.filter (·.task != task), ownInputs := s.dup.ownInputs.filter (· != task) } }
      .next (s.releaseTask f r rel (some i.lines))
    | none =>
      let s := { s with dup := { s.dup with ownInputs := s.dup.ownInputs.filter (· != task) ++ [task] } }
      .next ((s.fsat F.DUP_SHADOW_OWN_INPUT).releaseTask f r rel none)
  | _, _ => .next s

/-- OUTPUT_SIG: compared with the signature of the same commit of this module (R429). -/
def execOutputSig (ok : Bool) (r : List Byte) (t : Nat) (s : State) : Host.Outcome State Fault Refusal :=
  .next (s.cbReceive ok t fun s =>
    let task := byteAt r 1
    match s.dup.sigs.find? fun x => x.task == task && x.commit == leAt r 4 4 with
    | some x =>
      let s := { s with dup := { s.dup with sigs := s.dup.sigs.filter (· != x) } }
      if natBit (byteAt r 2) 0 || x.skip then s.fsat F.DUP_SHADOW_SKIPPED
      else if x.sig.toNat == leAt r 8 8 then s
      else (s.fsat F.DUP_DIVERGE_OUTPUT).divCap 1 task 0
    | none => s)

/-- DUP_DIV_CAP_CLEAR: a write of 1 to VALID clears the capture and re-arms it (R70, R429). -/
def execDupDivCapClear (s : State) : Host.Outcome State Fault Refusal := .next (s.clearField F.DUP_DIV_CAP_VALID)

/-! ### SCHEDULE (R177, R188, R417, R423, R433) -/

/-- A seam announced to this module: it confirms, with its own B, if its staged folio is the same, and waits for S unless
it is ACTIVE; otherwise it refuses (R175, R188). A FOLIO_SWITCH of its own that waits completes at S.
See log entry 28 (DESIGN CHOICE). -/
def State.seamAnnounced (s : State) (b instant : Nat) (same : Bool) : State :=
  match s.folio.staging with
  | .staged _ =>
    if !same then s.cbSend [cbSchedule whatSeam phRefuse 0 0 instant]
    else
      let own := s.folio.pendingSwitch.getD { cmd := none, accepted := s.now, announced := none, confirmed := true, partnerBytes := b }
      let w : Switch := { own with announced := some instant, confirmed := true, partnerBytes := b }
      let s := if s.notActing then ({ s with folio := { s.folio with pendingSwitch := some w } }).fput F.FOLIO_STAT_PENDING 1 else s
      s.cbSend [cbSchedule whatSeam phConfirm 0 (s.fget F.FOLIO_CARRY_BYTES) instant]
  | _ => s.cbSend [cbSchedule whatSeam phRefuse 0 0 instant]

/-- The partner confirms a seam by S − 2 ms: with a greater B the search starts again from it, else S stands (R177, R188).
See log entry 28 (DESIGN CHOICE). -/
def State.seamConfirmed (s : State) (b instant : Nat) : State :=
  match s.folio.pendingSwitch with
  | some w =>
    if !s.leads w || w.announced != some instant || decide (instant < s.now + ms2) then s
    else if s.switchBytes w < b then s.announceFrom { w with partnerBytes := b } instant
    else { s with folio := { s.folio with pendingSwitch := some { w with confirmed := true, partnerBytes := max b w.partnerBytes } } }
  | none => s

/-- The partner has not staged the same folio: CHECK_FAIL (R175). See log entry 28 (DESIGN CHOICE). -/
def State.seamRefused (s : State) (instant : Nat) : State :=
  match s.folio.pendingSwitch with
  | some w => if s.leads w && w.announced == some instant && !w.confirmed then s.endSwitch w stCheckFail 3 else s
  | none => s

/-- A swap announced to this module: a standby confirms it and waits for W (R433). -/
def State.swapAnnounced (s : State) (instant : Nat) : State :=
  if s.role == roleStandby && s.dup.swap.isNone && decide (s.now < instant) then
    ({ s with dup := { s.dup with swap := some ⟨instant, none, true, false⟩ } }).cbSend [cbSchedule whatSwap phConfirm 0 0 instant]
  else s.cbSend [cbSchedule whatSwap phRefuse 0 0 instant]

/-- 2 ms before W the swap must be confirmed (R433). -/
def State.swapConfirmed (s : State) (instant : Nat) : State :=
  match s.dup.swap with
  | some w =>
    if s.role == roleActive && w.w == instant && decide (s.now + ms2 ≤ instant) then
      { s with dup := { s.dup with swap := some { w with confirmed := true } } }
    else s
  | none => s

/-- The mode of a code. -/
def modeOf : Nat → Mode
  | 1 => .run | 2 => .hold | _ => .stop

/-- A mode change of the active, at its instant, or at the first grid instant after a late announcement (R417). -/
def State.modeAnnounced (s : State) (arg instant : Nat) : State :=
  if !s.notActing then s
  else { s with ductus := { s.ductus with modes := insertMode ⟨modeOf arg, if s.now ≤ instant then instant else gridUp s.now, none⟩ s.ductus.modes } }

/-- SCHEDULE. `same`: the folio that this module has staged has the SHA-384(M) of the one that the active switches in
(R188). See log entry 28 (DESIGN CHOICE). -/
def execSchedule (ok : Bool) (r : List Byte) (same : Bool) (t : Nat) (s : State) : Host.Outcome State Fault Refusal :=
  let what := byteAt r 1
  let ph := byteAt r 2
  let instant := leAt r 8 8
  .next (s.cbReceive ok t fun s =>
    if what == whatSeam then
      if ph == phAnnounce then s.seamAnnounced (leAt r 4 4) instant same
      else if ph == phConfirm then s.seamConfirmed (leAt r 4 4) instant
      else if ph == phRefuse then s.seamRefused instant else s
    else if what == whatSwap then
      if ph == phAnnounce then s.swapAnnounced instant
      else if ph == phConfirm then s.swapConfirmed instant else s
    else if what == whatMode && ph == phAnnounce then s.modeAnnounced (byteAt r 3) instant
    else s)

/-! ### DUPLEX_PAIR (R415) -/

def opDuplexPair : Nat := 0x0901
def opDuplexRehearse : Nat := 0x0902

/-- PARTNER and COPY_MS. -/
def pairSerial (c : Cmd) : Nat := leAt c.params 0 8
def pairCopyMs (c : Cmd) : Nat := byteAt c.params 8

/-- The table of R415. -/
def duplexPairOwn (c : Cmd) (s : State) : Verdict :=
  refuseIf (pairSerial c == moduleSerial || pairCopyMs c == 0 || decide (100 < pairCopyMs c)) stBadParam noIndex <|
  refuseIf (pairSerial c == 0 && !s.standstill) stMoving noIndex <|
  refuseIf (!s.supplyGood) stSupply noIndex <|
  refuseIf (s.role == roleActive && s.partnerStandby) stRole noIndex <|
  refuseIf s.rubBusy stBusy noIndex .accept

/-- The pairing record is written, and the module enters RESYNC, or SINGLE for a PARTNER of 0 (R415, R416).
See log entry 67 (DEDUCED). -/
def State.pair (s : State) (c : Cmd) : State :=
  let s := s.writeRecord kindPairing c.params
  let p := pairSerial c
  let s := s.dup.flight.foldl (fun (s : State) e => s.tokenBack e false) s
  let s := s.enterResync causeFull
  let s := { s with dup := { s.dup with marks := [], hello := [], lost0 := 0, lost1 := 0 } }
  let s := (s.fput F.DUP_STAT_SEEN 0).fput F.DUP_STAT_CFG_DIFF 0
  let s := (s.fput F.DUP_PARTNER_LO_SERIAL (p % 2 ^ 32)).fput F.DUP_PARTNER_HI_SERIAL (p / 2 ^ 32)
  let s := s.fput F.DUP_CFG_COPY_MS (if p == 0 then 0 else pairCopyMs c)
  let s := if p == 0 then s.putRole roleSingle 0 else s.fput F.DUP_STAT_CAUSE causeLink
  s.replyOk c opDuplexPair

/-- DUPLEX_PAIR. -/
def execDuplexPair (c : Cmd) (t : Nat) (s : State) : Host.Outcome State Fault Refusal :=
  .next (s.runLane c t opDuplexPair lvlEngineer (c.params.length == 16) (duplexPairOwn c) fun s _ => s.pair c)

/-- DUPLEX_UNPAIR: the same opcode with a PARTNER of 0. -/
def execDuplexUnpair (c : Cmd) (t : Nat) (s : State) : Host.Outcome State Fault Refusal :=
  .next (s.runLane c t opDuplexPair lvlEngineer (c.params.length == 16) (duplexPairOwn c) fun s _ => s.pair c)

/-! ### DUPLEX_REHEARSE (R433) -/

/-- The rows of R433 that the acceptance decides. -/
def rehearseOwn (s : State) : Verdict :=
  refuseIf (s.role == roleSingle) stNotPaired noIndex <|
  refuseIf (s.role != roleActive) stRole noIndex <|
  refuseIf (!s.standstill || !helloStandstill s.dup.hello) stMoving noIndex <|
  refuseIf (!s.partnerStandby || helloLagging s.dup.hello || s.switchPending || s.dup.swap.isSome) stBusy noIndex .accept

/-- W is chosen and announced. -/
def State.rehearse (s : State) (c : Cmd) (a : Nat) : State :=
  let w := gridUp (a + 5 * ms1)
  let s := { s with dup := { s.dup with swap := some ⟨w, some c, false, false⟩ } }
  s.cbSend [cbSchedule whatSwap phAnnounce 0 0 w]

/-- DUPLEX_REHEARSE. -/
def execDuplexRehearse (c : Cmd) (t : Nat) (s : State) : Host.Outcome State Fault Refusal :=
  .next (s.runLane c t opDuplexRehearse lvlEngineer c.params.isEmpty rehearseOwn fun s a => s.rehearse c a)

/-- The active member becomes the standby at W: what it has not copied stays marked (R433). -/
def State.swapToStandby (s : State) : State :=
  let s := s.dup.flight.foldl (fun (s : State) e => s.remark e) s
  let s := { s with dup := { s.dup with landed := s.now, inStep := true, sync := none, points := [], lost0 := 0, lost1 := 0 } }
  s.putRole roleStandby 0

/-- Both roles change. See log entry 64 (DEDUCED). -/
def State.swapRoles (s : State) : State :=
  if s.role == roleActive then s.swapToStandby else if s.role == roleStandby then s.becomeActive else s

/-- REHEARSAL_SWAP: at W both roles change; from W − 2 ms an unconfirmed rehearsal is answered CHECK_FAIL (R433).
See log entry 64 (DEDUCED). -/
def execRehearsalSwap (t : Nat) (s : State) : Host.Outcome State Fault Refusal :=
  let s := s.tick t
  match s.dup.swap with
  | some w =>
    if w.swapped then .next s
    else if !w.confirmed then .next (if w.w ≤ s.now + ms2 then s.endSwap else s)
    else if s.now < w.w then .next s
    else
      let s := s.swapRoles
      .next { s with dup := { s.dup with swap := some { w with swapped := true } } }
  | none => .next s

/-- The frames of W + 20 µs show the swapped claim in both groups of this module. -/
def State.swapShown (s : State) : Bool := allGroups.all fun g => (s.fc g).claim == (s.role == roleActive)

/-- REHEARSAL_CHECK: at W + 20 µs; `partnerOk` says that the partner's frames show the swapped claim as well (R433).
See log entry 64 (DEDUCED). -/
def execRehearsalCheck (partnerOk : Bool) (t : Nat) (s : State) : Host.Outcome State Fault Refusal :=
  let s := s.tick t
  match s.dup.swap with
  | some w =>
    if !w.swapped || s.now < w.w + us20 then .next s
    else if s.swapShown && partnerOk then
      let s := { s with dup := { s.dup with swap := none } }
      match w.cmd with
      | some c => .next (s.replyOk c opDuplexRehearse)
      | none => .next s
    else .next ((s.swapRoles).endSwap)
  | none => .next s

end Sys2Proof.Machine
end

