-- ==== Sys2Proof/Machine/Grid.lean ====
section
/-! DEFINITION. The grid instant (R8) and the frames that follow it at g + 20 µs (R214): what falls due on the grid without
a command of its own is evaluated here (R61, R62, R107, R166, R222, R322, R406, R430; DESIGN CHOICE, log entry 15). -/

namespace Sys2Proof.Machine

/-- In STOP and HOLD, and while no folio runs, every grid instant is an output commit, command writes are applied and
reads are taken, and a lane whose delta has landed joins (R17, R62, R107, R406). -/
def State.idleGrid (s : State) : State :=
  let s := s.takeOvers
  let s := match s.folio.running with
    | some f => s.applyWrites f (s.stopWrites s.now)
    | none => s
  let s := s.readsAtGrid s.now
  if s.modeNow == .hold && s.folio.running.isSome then s else s.joinLanded

/-- A seam of the running ductus, at which a lane with LATENT set is withdrawn (R61, R176). -/
def State.seamNow (s : State) : Bool :=
  !s.anyUncommitted && (s.modeNow != .hold || s.folio.running.isNone) && !s.atRunEntry s.now

/-- The bindings that the configuration in force does not fit, and FOLIO_IOMIS (R166). -/
def State.showIoMis (s : State) : State :=
  let bad := match s.folio.running with
    | some f => f.io.filter fun x => !s.ioOk x
    | none => []
  let s := s.fputSat F.FOLIO_IOMIS_BINDINGS bad.length
  match bad.head? with
  | some x =>
    if s.flag F.FOLIO_IOMIS_VALID then s
    else (s.fput F.FOLIO_IOMIS_VALID 1).fput F.FOLIO_IOMIS_CHANNEL x.channel
  | none => s

/-- What falls due at a grid instant. See log entry 15 (DESIGN CHOICE). -/
def State.gridInstant (s : State) : State :=
  let s := if s.flag F.VOTE_CTRL_EN && !s.flag F.VOTE_CTRL_FAILED then
      let s := if s.modeNow != .run || s.folio.running.isNone then s.idleGrid else s
      if s.seamNow then s.withdrawLatent else s
    else s
  ((s.completeSet).showIoMis).promote

/-- FIELD_LINK_FRAME_TIME: at g + 20 µs the field controllers latch their tick samples and both sides send their frames;
what fell due at g comes first (R214). After a step of the time scale no frame goes before the first grid instant that
qualifies (R337). See log entry 15 (DESIGN CHOICE). -/
def execFieldLinkFrameTime (t : Nat) (s : State) : Host.Outcome State Fault Refusal :=
  let s := s.upTo t
  if s.now % gridNs != us20 then .next s else
  let s := s.evalAt (s.now - us20) State.gridInstant
  .next (if s.time.framesFrom ≤ s.now then s.sendFrames s.now else s)

end Sys2Proof.Machine
end

