-- ==== Sys2Proof/Machine/Abort.lean ====
section
/-! DEFINITION. ABORT (R404, R408 to R410): its target, the points of no return, and the effect on each target. -/

namespace Sys2Proof.Machine

def opAbort : Nat := 0x0B02

/-! ### The opcode table (R404) -/

/-- The LANE-class opcodes with the level that each needs; ABORT takes that of its target. -/
def laneLevels : List (Nat × Nat) :=
  [(0x0102, 3), (0x0103, 3), (0x0105, 2), (0x0106, 3), (0x0201, 2), (0x0202, 3), (0x0203, 3), (0x0204, 2), (0x0301, 1),
   (0x0302, 2), (0x0303, 3), (0x0304, 3), (0x0401, 2), (0x0402, 2), (0x0501, 3), (0x0502, 3), (0x0601, 3), (0x0602, 3)]
  ++ [(0x0701, 4), (0x0702, 4), (0x0703, 4), (0x0704, 4), (0x0705, 4), (0x0801, 0), (0x0802, 1), (0x0804, 4), (0x0805, 4),
   (0x0806, 4), (0x0901, 3), (0x0902, 3), (0x0A02, 1), (0x0B01, 1), (0x0B02, 1)]

/-- The opcodes whose commands have a point of no return. -/
def abortable : List Nat :=
  [0x0103, 0x0105, 0x0106, 0x0201, 0x0202, 0x0203, 0x0204, 0x0302, 0x0401, 0x0402, 0x0501, 0x0601, 0x0602, 0x0902, 0x0B01]

/-! ### The target (R408) -/

/-- QUEUE and TAG of an ABORT. -/
def abortQueue (c : Cmd) : Nat := byteAt c.params 0
def abortTag (c : Cmd) : Nat := leAt c.params 4 4

/-- The oldest command with the named TAG in the named queue, apart from the ABORT itself: outstanding, then held
unstarted, then forwarded to the lanes. See log entry 68 (DEDUCED). -/
def State.abortTarget (s : State) (c : Cmd) : Option (Cmd × Nat) :=
  let all : List (Cmd × Nat) := s.quill.cmds.map (fun x => (x.cmd, x.opcode)) ++ s.quill.held.map (fun x => (x.cmd, x.opcode))
    ++ (s.quill.inflight.filter (·.decided.isNone)).map (fun x => (x.cmd, x.opcode))
  all.find? fun x => x.1 != c && x.1.queue == abortQueue c && x.1.tag == abortTag c

/-- The level that an ABORT needs: its target's. -/
def State.abortLevel (s : State) (c : Cmd) : Nat :=
  match s.abortTarget c with
  | some (_, op) => (assoc laneLevels op).getD lvlObserve
  | none => lvlObserve

/-- The cases of R410 that the acceptance decides. -/
def abortOwn (c : Cmd) (s : State) : Verdict :=
  refuseIf (decide (16 < abortQueue c) || !allZero (slice c.params 1 3)) stBadParam noIndex <|
  match s.abortTarget c with
  | none => .accept
  | some (x, op) =>
    refuseIf (!abortable.contains op) stBadParam noIndex <|
    refuseIf (x.session != c.session && s.level c.session < lvlOwner) stPrivilege noIndex .accept

/-! ### The effect on each target (R408, R409) -/

/-- The target replies ABORTED, and a STORE shows it in STORE_STAT.LAST_RESULT. -/
def State.aborted (s : State) (x : Cmd) (op : Nat) : State :=
  let s := if op == opStore then s.fput F.STORE_STAT_LAST_RESULT storeAborted else s
  s.replyErr x op stAborted noIndex

/-- FENCE: commands behind it start. -/
def State.abortFence (s : State) (x : Cmd) : Option State :=
  match s.ductus.fences.find? (·.cmd == x) with
  | some f =>
    let past := match f.kind with
      | .time i => decide (i + us80 ≤ s.now)
      | _ => false
    if past then none else some ((s.fenceReply f stAborted).settleQueueFences)
  | none => none

/-- MODE_SET: the mode does not change. -/
def State.abortMode (s : State) (x : Cmd) : Option State :=
  match s.ductus.modes.find? (·.cmd == some x) with
  | some p =>
    if p.instant ≤ s.now then none
    else some (({ s with ductus := { s.ductus with modes := s.ductus.modes.filter (· != p) } }).aborted x opModeSet)
  | none => none

/-- The last block of FOLIO_STAGE: the staged folio is discarded. -/
def State.abortStage (s : State) (x : Cmd) : Option State :=
  match s.folio.staging with
  | .checking _ y => if y == x then some ((s.setStaging .empty).aborted x opFolioStage) else none
  | _ => none

/-- FOLIO_SWITCH: the switch is abandoned, before S is confirmed, or announced in a single module. -/
def State.abortSwitch (s : State) (x : Cmd) : Option State :=
  match s.folio.pendingSwitch with
  | some w =>
    if w.cmd != some x || (if s.paired then w.confirmed else w.announced.isSome) then none
    else some (s.endSwitch w stAborted 4)
  | none => none

/-- TASK_TRIGGER: no release results from this command; one that also serves other commands stays.
See log entry 68 (DEDUCED). -/
def State.abortTrigger (s : State) (x : Cmd) : Option State :=
  match s.ductus.tasks.find? (·.triggers.contains x) with
  | some b =>
    let due := match s.taskRec b.task with
      | some r => s.releaseDue r s.now
      | none => false
    if due then none else
    let left := b.triggers.filter (· != x)
    let s := s.setBook { b with triggers := left, pend := if left.isEmpty then none else b.pend }
    let s := if left.isEmpty then s.putTask F.TASK_STAT_PENDING b.task 0 else s
    some (s.aborted x opTaskTrigger)
  | none => none

/-- VAR_WRITE: no record is applied, before the first one is. -/
def State.abortWrite (s : State) (x : Cmd) : Option State :=
  if (s.ductus.writes.filter (·.cmd == x)).length < leAt x.params 0 2 then none
  else some (({ s with ductus := { s.ductus with writes := s.ductus.writes.filter (·.cmd != x) } }).aborted x opVarWrite)

/-- TGE_ENTRY_ADD and TGE_ENTRY_DEL: the table is unchanged. -/
def State.abortTge (s : State) (x : Cmd) (op : Nat) : Option State :=
  if s.tge.pending.any (·.cmd == some x) then
    some ((({ s with tge := { s.tge with pending := s.tge.pending.filter (·.cmd != some x) } }).showChanges).aborted x op)
  else none

/-- The LAST packet of a record set: the set is discarded, as by DISCARD, and the packet replies ABORTED (R226, R283). -/
def State.abortSet (s : State) (x : Cmd) (op : Nat) : Option State :=
  if op == opChConfig then
    if s.fio.set.any (·.last == some x) then some (s.discardSet stAborted shDiscarded) else none
  else if op == opNetConfig then
    if s.net.set.any (·.last == some x) then some (s.dropNet netDiscarded) else none
  else if s.que.set.any (·.last == some x) then some s.dropQueSet else none

/-- TIME_SET and TIME_RESTEP: no step is made. See log entry 68 (DEDUCED). -/
def State.abortStep (s : State) (x : Cmd) (op : Nat) : Option State :=
  let mine := (match s.time.step with
      | some p => match p.kind with
        | .set y _ => y == x
        | .restep y => y == x
        | .first => false
      | none => false) || s.time.restep.any (·.1 == x)
  if mine then some (s.endStep.aborted x op) else none

/-- DUPLEX_REHEARSE: the roles do not swap. -/
def State.abortSwap (s : State) (x : Cmd) : Option State :=
  match s.dup.swap with
  | some w =>
    if w.cmd != some x || w.swapped || w.w ≤ s.now then none
    else some (({ s with dup := { s.dup with swap := none } }).aborted x opDuplexRehearse)
  | none => none

/-- The abort of a command that is under way; none at or past its point of no return. A STORE programs its first record
from its acceptance on. -/
def State.abortRunning (s : State) (x : Cmd) (op : Nat) : Option State :=
  if op == opFence then s.abortFence x
  else if op == opModeSet then s.abortMode x
  else if op == opFolioStage then s.abortStage x
  else if op == opFolioSwitch then s.abortSwitch x
  else if op == opTaskTrigger then s.abortTrigger x
  else if op == opVarWrite then s.abortWrite x
  else if op == opTgeAdd || op == opTgeDel then s.abortTge x op
  else if op == opChConfig || op == opNetConfig || op == opQueueConfig then s.abortSet x op
  else if op == opTimeSet || op == opTimeRestep then s.abortStep x op
  else if op == opDuplexRehearse then s.abortSwap x
  else none

/-- The abort of a target: one that has not started never starts (R408). See log entry 68 (DEDUCED). -/
def State.abortOne (s : State) (x : Cmd) (op : Nat) : Option State :=
  if s.quill.held.any (·.cmd == x) then
    some (({ s with quill := { s.quill with held := s.quill.held.filter (·.cmd != x) } }).aborted x op)
  else if s.quill.inflight.any (fun y => y.cmd == x && y.decided.isNone) then
    some (({ s with quill := { s.quill with inflight := s.quill.inflight.filter (·.cmd != x) } }).aborted x op)
  else if (s.preAccepted x).isSome then some (s.aborted x op)
  else s.abortRunning x op

/-- The accepted ABORT: exactly one of it and its target carries a stop (R409). -/
def State.abortEffect (s : State) (c : Cmd) : State :=
  match s.abortTarget c with
  | some (x, op) => match s.abortOne x op with
    | some s => s.replyOk c opAbort
    | none => s.replyErr c opAbort stNothing noIndex
  | none => s.replyErr c opAbort stNothing noIndex

/-- ABORT: never held behind a fence (R403). See log entry 68 (DEDUCED). -/
def execAbort (c : Cmd) (t : Nat) (s : State) : Host.Outcome State Fault Refusal :=
  let s := s.tick t
  match s.preAccepted c with
  | some _ => .next ((s.startCmd c).abortEffect c)
  | none =>
    if s.voters.length < 2 then .next s
    else if !s.sessionOk c then .next (s.authFailLane c opAbort)
    else
      let s := s.touch c.session
      match s.verdict c opAbort (s.abortLevel c) (c.params.length == 8) (abortOwn c) with
      | .accept => .next ((s.acceptCmd c opAbort).abortEffect c)
      | .refuse st i => .next (s.refuseCmd c opAbort st i)

end Sys2Proof.Machine
end

