-- ==== Sys2Proof/Machine/Packets.lean ====
section
/-! DEFINITION. The route of a Quill packet (R387 to R403): from the mailbox or a queue to the scribe, from the scribe to
the lanes, their verdicts and replies at the vote, and the reply's way back (R350, R374). -/

namespace Sys2Proof.Machine

/-! ### The mailbox (R350, R398) -/

/-- Module addresses of a mailbox packet and of its reply. -/
def mailIn : Nat := 0x09000000
def mailOut : Nat := 0x09800000

/-- Queue number of the mailbox. -/
def mailQueue : Nat := 16

/-- MAILBOX_SUBMIT: the host writes a packet's length to MBOX_H2M; ignored while a mailbox command is outstanding.
See log entry 13 (DEDUCED). -/
def execMailboxSubmit (len t : Nat) (s : State) : Host.Outcome State Fault Refusal :=
  .next ((s.tick t).announce len)

/-- MBOX_M2H_READ: the read returns the reply's length, and clears it. -/
def execMboxM2hRead (t : Nat) (s : State) : Host.Outcome State Fault Refusal :=
  let s := s.tick t
  .next { s with readOut := BitVec.ofNat 32 s.quill.mboxM2h, quill := { s.quill with mboxM2h := 0 } }

/-! ### Sequence windows (R391) -/

/-- A SEQUENCE is new: above the highest, or within the 1,024 below it and not seen. -/
def SeqWindow.isNew (w : SeqWindow) (n : Nat) : Bool :=
  decide (w.high < n) || (decide (n < w.high) && decide (w.high ≤ n + 1024) && !w.seen.contains n)

/-- A SEQUENCE is accepted. See log entry 53 (DEDUCED). -/
def SeqWindow.accept (w : SeqWindow) (n : Nat) : SeqWindow :=
  if w.high < n then ⟨n, ((if w.high == 0 then [] else [w.high]) ++ w.seen).filter fun x => decide (n ≤ x + 1024)⟩
  else { w with seen := w.seen ++ [n] }

/-! ### The scribe (R387, R392, R399) -/

/-- The header keeps R387. See log entry 53 (DEDUCED). -/
def headerOk (p : List Byte) : Bool :=
  packetLen p.length && byteAt p 0 == 1 && byteAt p 1 == 0 && decide (1 ≤ pkSequence p) && decide (pkSequence p < 2 ^ 48)
    && pkLength p == p.length && leAt p 24 2 == 0 && allZero (slice p 26 6)

/-- The packet that is next to be received of queue `q`, or in the mailbox, which is served after every COMMAND queue
(R398). -/
def State.nextPacket (s : State) (q : Nat) : Option (List Byte) :=
  if q == mailQueue then
    match s.quill.mailbox with
    | some m => if m.cmd.isNone && (List.range 16).all (fun p => (s.que.queue p).cmds.all (·.cmd.isSome)) then some (s.mreadN mailIn m.length) else none
    | none => none
  else ((s.que.queue q).cmds.find? (·.cmd.isNone)).map (·.packet)

/-- The first forwarded packet without a command takes its own. -/
def nameFirst (c : Cmd) : List Forwarded → List Forwarded
  | [] => []
  | f :: fs => if f.cmd.isNone then { f with cmd := some c } :: fs else f :: nameFirst c fs

/-- The packet of queue `q` is received as command `c`. -/
def State.nameCmd (s : State) (q : Nat) (c : Cmd) : State :=
  if q == mailQueue then
    match s.quill.mailbox with
    | some m => { s with quill := { s.quill with mailbox := some { m with cmd := some c } } }
    | none => s
  else
    let x := s.que.queue q
    s.setRun q { x with cmds := nameFirst c x.cmds }

/-- The state of an outcome that goes on. -/
def stateOf (s : State) : Host.Outcome State Fault Refusal → State
  | .next u => u
  | _ => s

/-- The scribe carries out a packet of its class (R399, R404). -/
def State.scribeRun (s : State) (c : Cmd) (op t : Nat) : State :=
  if op == opModuleInfo then stateOf s (execModuleInfo c t s)
  else if op == opWindowSet then stateOf s (execWindowSet c t s)
  else if op == opAttest then stateOf s (execAttest c t s)
  else if op == opLogRead then stateOf s (execLogRead c t s)
  else if op == opInkSnap then stateOf s (execInkSnap c t s)
  else if byteAt c.params 0 == 0xFF then stateOf s (execInkCaptureStop c t s)
  else stateOf s (execInkCapture c t s)

/-- A SCRIBE-class packet: its header, session, trailer and SEQUENCE, then the command (R391, R392). -/
def State.scribePath (s : State) (c : Cmd) (p : List Byte) (authentic : Bool) (t : Nat) : State :=
  let op := pkOpcode p
  match s.session c.session with
  | some x =>
    if !headerOk p || !s.sessionOk c || !authentic || !x.scribeWindow.isNew (pkSequence p) then s.authFailScribe c op
    else (s.setSession { x with scribeWindow := x.scribeWindow.accept (pkSequence p) }).scribeRun c op t
  | none => s.authFailScribe c op

/-- A packet passes step 1 of R400 in the lanes: a session of its path, open, or pending for the second phase of
SESSION_OPEN; its trailer; its SEQUENCE. Session 0 is only for the first phase (R387, R392). -/
def State.laneAuth (s : State) (c : Cmd) (p : List Byte) (authentic : Bool) : Bool :=
  headerOk p && authentic &&
    (if c.session == 0 then pkOpcode p == opSessionOpen
     else match s.session c.session with
      | some x => x.path == s.pathOf c.queue && (x.opened || pkOpcode p == opSessionOpen) && x.laneWindow.isNew (pkSequence p)
      | none => false)

/-- A LANE-class packet goes to the voting lanes; the windows of the lanes, which are alike, advance with it.
See log entry 53 (DEDUCED). -/
def State.lanePath (s : State) (c : Cmd) (p : List Byte) (authentic : Bool) : State :=
  let ok := s.laneAuth c p authentic
  let s := match s.session c.session with
    | some x => if ok then s.setSession { x with laneWindow := x.laneWindow.accept (pkSequence p) } else s
    | none => s
  let i : Inflight := { cmd := c, opcode := pkOpcode p, sequence := pkSequence p, authentic := ok, formed := [], verdicts := [], decided := none }
  { s with quill := { s.quill with inflight := s.quill.inflight ++ [i] } }

/-- QUILL_PACKET_RECEIVE: the next packet of queue `q`, or of the mailbox. `params` are its parameters in clear, and
`authentic` the verdict on its trailer (DESIGN CHOICE, log entry 8). -/
def execQuillPacketReceive (q : Nat) (params : List Byte) (authentic : Bool) (t : Nat) (s : State) :
    Host.Outcome State Fault Refusal :=
  let s := s.tick t
  match s.nextPacket q with
  | some p =>
    let clear := pkSession p == 0
    let c : Cmd := ⟨q, pkTag p, pkSession p, if clear then slice p 32 (p.length - 48) else padTo (p.length - 48) params⟩
    let s := s.nameCmd q c
    if scribeOps.contains (pkOpcode p) then .next (s.scribePath c p (authentic && !clear) t)
    else .next (s.lanePath c p (if clear then allZero (p.drop (p.length - 16)) else authentic))
  | none => .next s

/-! ### The lanes' verdicts (R400) -/

/-- What a lane has delivered. -/
def laneVal {α : Type} (vs : List (Lane × α)) (l : Lane) : Option α := (vs.find? (·.1 == l)).map (·.2)

/-- Length, level and own checks of a LANE-class opcode apart from the sessions' own; none for an unknown opcode. -/
def State.laneCheck (s : State) (c : Cmd) (op : Nat) (x : CheckInput) : Option (Nat × Bool × (State → Verdict)) :=
  let n := c.params.length
  let b := byteAt c.params 0
  let bad (_ : State) : Verdict := .refuse stBadParam noIndex
  if op == opLaneReintegrate then some (lvlEngineer, n == 8, reintegrateOwn c)
  else if op == opStore then some (lvlEngineer, n == 8, storeOwn c)
  else if op == opQueueConfig then some (lvlOperate, decide (8 ≤ n) && n == 8 + 8 * leAt c.params 2 2, queOwn c)
  else if op == opNetConfig then some (lvlEngineer, netLenOk c, netOwn c)
  else if op == opModeSet then some (lvlOperate, n == 8, modeOwn (modeOf b) c)
  else if op == opFolioStage then some (lvlEngineer, stageLenOk c, stageOwn c)
  else if op == opFolioSwitch then some (lvlEngineer, n == 0, switchOwn)
  else if op == opTaskTrigger then some (lvlOperate, n == 8, triggerOwn c)
  else if op == opVarRead then some (lvlObserve, packetLenOk c 12, varReadOwn c)
  else if op == opVarWrite then some (lvlOperate, packetLenOk c 16, varWriteOwn c)
  else if op == opForceSet then some (lvlEngineer, n == 16, forceSetOwn c)
  else if op == opForceClear then some (lvlEngineer, n == 8, forceClearOwn)
  else if op == opTgeAdd then some (lvlOperate, decide (64 ≤ n), tgeOwn (.add c.params))
  else if op == opTgeDel then some (lvlOperate, delLenOk c, tgeOwn (.del (delIndices c)))
  else if op == opChConfig then some (lvlEngineer, setLenOk c 16, chConfigOwn c)
  else if op == opSsmParamLoad then some (lvlEngineer, n == 52 + sigBlockLen, paramLoadOwn c x.sigOk)
  else if op == opTimeSet then some (lvlEngineer, n == 16, timeSetOwn c)
  else if op == opTimeRestep then some (lvlEngineer, n == 0, timeRestepOwn)
  else if op == opRubBegin then some (lvlOwner, decide (48 ≤ n), beginOwn c x.sigOk)
  else if op == opRubBlock then some (lvlOwner, stageLenOk c, rubBlockOwn c)
  else if op == opRubCommit then some (lvlOwner, n == 0, rubCommitOwn x.bad x.sigOk)
  else if op == opRubActivate then some (lvlOwner, n == 0, activateOwn x.sigOk)
  else if op == opRubConfirm then some (lvlOwner, n == 0, confirmOwn)
  else if op == opSessionClose then some (lvlObserve, n == 0, noCheck)
  else if op == opOwnerEnrol then some (lvlOwner, n == 8 || n == 5480, if 1 ≤ b && b ≤ 3 then enrolOwn c b x.keyOk x.sigOk else bad)
  else if op == opOwnerLock then some (lvlOwner, n == 8, if b ≤ 1 then lockOwn c b else bad)
  else if op == opLifecycle then some (lvlOwner, n == 8, lifecycleOwn c)
  else if op == opDuplexPair then some (lvlEngineer, n == 16, duplexPairOwn c)
  else if op == opDuplexRehearse then some (lvlEngineer, n == 0, rehearseOwn)
  else if op == opDiagSnapshot then some (lvlObserve, n == 8, if b == 2 then diagSliceOwn c else diagRegsOwn c)
  else if op == opFence then some (lvlObserve, n == 24, if 1 ≤ b && b ≤ 3 then fenceOwn c b else bad)
  else if op == opAbort then some (s.abortLevel c, n == 8, abortOwn c)
  else none

/-- The verdict of a lane on an authenticated packet (R400); SESSION_OPEN goes by its phase (R394, R395). -/
def State.laneVerdict (s : State) (c : Cmd) (op : Nat) (x : CheckInput) : Verdict :=
  if op == opSessionOpen then
    if c.session == 0 then (if c.params.length == 1328 then openOwn c s else .refuse stBadParam noIndex)
    else match s.session c.session with
      | some y => credVerdict s c y x.sigOk x.keyOk
      | none => .refuse stAuthFail noIndex
  else match s.laneCheck c op x with
    | some (lvl, lenOk, own) => s.verdict c op lvl lenOk own
    | none => .refuse stBadParam noIndex

/-- What the first lane's check shows in registers: TGE_CHG, STORE_STAT and SEC_COUNTS (R309, R477).
See log entry 54 (DEDUCED). -/
def State.noteCheck (s : State) (c : Cmd) (op : Nat) (x : CheckInput) : State :=
  if op == opTgeAdd then s.noteRefusal c s.now op lvlOperate (decide (64 ≤ c.params.length)) (.add c.params)
  else if op == opTgeDel then s.noteRefusal c s.now op lvlOperate (delLenOk c) (.del (delIndices c))
  else if op == opStore then s.noteStore c
  else if op == opOwnerEnrol then s.noteEnrol c (byteAt c.params 0) x.keyOk x.sigOk
  else if op == opSsmParamLoad then s.noteLoad c x.sigOk
  else if op == opRubBegin then s.noteBegin c x.sigOk
  else if op == opRubCommit then s.noteCommit c x.bad x.sigOk
  else if op == opSessionOpen && c.session != 0 then
    match s.session c.session with
    | some y =>
      if credVerdict s c y x.sigOk x.keyOk == .refuse stAuthFail noIndex && credSigFail s (credOf c) y.path x.sigOk x.keyOk then
        s.fsat F.SEC_COUNTS_SIG_FAILS
      else s
    | none => s
  else s

/-- A forwarded packet replaced, or taken away. -/
def State.putInflight (s : State) (i : Inflight) : State :=
  { s with quill := { s.quill with inflight := s.quill.inflight.map fun y => if y.cmd == i.cmd then i else y } }
def State.dropInflight (s : State) (i : Inflight) : State :=
  { s with quill := { s.quill with inflight := s.quill.inflight.filter (·.cmd != i.cmd) } }

/-- A packet fails authentication in the lanes: no effect, and a plain reply (R392, QUILL_AUTH). -/
def State.failInflight (s : State) (i : Inflight) : State :=
  let s := s.dropInflight i
  if i.cmd.session == 0 then s.authFailScribe i.cmd i.opcode else s.authFailLane i.cmd i.opcode

/-- LANE_PACKET_CHECK: lane `l` checks the forwarded packet with TAG `tag` of queue `q` and forms its verdict. A
packet behind a fence of its queue that is not complete is held unstarted, ABORT apart (R403). See log entry 8 (DESIGN
CHOICE). -/
def execLanePacketCheck (l : Lane) (q tag : Nat) (x : CheckInput) (t : Nat) (s : State) : Host.Outcome State Fault Refusal :=
  let s := s.tick t
  match s.quill.inflight.find? fun i => i.cmd.queue == q && i.cmd.tag == tag && (laneVal i.formed l).isNone with
  | some i =>
    if !s.isVoting l || s.voters.length < 2 then .next s
    else if !i.authentic then .next (s.failInflight i)
    else if s.fenced i.cmd && i.opcode != opAbort then .next s
    else
      let s := if i.formed.isEmpty then s.noteCheck i.cmd i.opcode x else s
      let s := s.touch i.cmd.session
      .next (s.putInflight { i with formed := i.formed ++ [(l, s.laneVerdict i.cmd i.opcode x)] })
  | none => .next s

/-! ### The vote on verdicts (R401) -/

/-- What the lanes that still vote have delivered (R410). -/
def State.fromVoters {α : Type} (s : State) (vs : List (Lane × α)) : List (Lane × α) := vs.filter fun v => s.isVoting v.1

/-- QUILL_DIS of a lane. -/
def disagreeField : Lane → Field
  | .a => F.QUILL_DIS_LANE_A
  | .b => F.QUILL_DIS_LANE_B
  | .c => F.QUILL_DIS_LANE_C

/-- A lane is excluded for a differing or missing verdict or reply (R401, R402). -/
def State.quillExclude (s : State) (l : Lane) (cause : LaneCause) : State :=
  if s.isVoting l then (s.fsat (disagreeField l)).excludeCheck l cause 0 else s

/-- A value that two lanes have delivered. -/
def agreed {α : Type} [DecidableEq α] (vs : List (Lane × (α × Nat))) : Option α :=
  (vs.find? fun v => 2 ≤ (vs.filter fun w => w.2.1 == v.2.1).length).map (·.2.1)

/-- The command is accepted: it waits for its own step (R401). -/
def State.acceptPacket (s : State) (i : Inflight) : State :=
  let s := s.acceptCmd i.cmd i.opcode
  { s with quill := { s.quill with cmds := s.quill.cmds.map fun r => if r.cmd == i.cmd then { r with started := false } else r } }

/-- No two verdicts agree: refused with CHECK_FAIL, counted in NO_MAJ (R401). See log entry 54 (DEDUCED). -/
def State.noMajority (s : State) (i : Inflight) : State :=
  let s := (s.fsat F.QUILL_DIS_NO_MAJ).dropInflight i
  let s := if i.opcode == opFolioSwitch then s.fput F.FOLIO_STAT_LAST_RESULT 3 else s
  let s := s.log 0x0001 codeVote (cmdDetail s i.cmd i.opcode stCheckFail)
  s.replyErr i.cmd i.opcode stCheckFail noIndex

/-- Every voting lane's verdict has come. -/
def State.allIn (s : State) (i : Inflight) : Bool := s.voters.all fun l => i.verdicts.any (·.1 == l)

/-- Two identical verdicts have just come: the vote acts on them, and excludes a lane that differs (R401). -/
def State.actOn (s : State) (i : Inflight) (v : Verdict) : State :=
  let i := { i with decided := some (v, s.now) }
  let s := if s.allIn i then s.dropInflight i else s.putInflight i
  let s := match v with
    | .accept => s.acceptPacket i
    | .refuse st ix => s.refuseCmd i.cmd i.opcode st ix
  i.verdicts.foldl (fun (s : State) w => if w.2.1 == v then s else s.quillExclude w.1 .disagree) s

/-- VERDICT_RECEIVE: the verdict of lane `l` arrives at the vote; `sent` is what arrives where it is not the verdict that
the lane formed (R401). -/
def execVerdictReceive (l : Lane) (q tag : Nat) (sent : Option Verdict) (t : Nat) (s : State) :
    Host.Outcome State Fault Refusal :=
  let s := s.tick t
  match s.quill.inflight.find? fun i => i.cmd.queue == q && i.cmd.tag == tag && !(i.verdicts.any (·.1 == l)) && (laneVal i.formed l).isSome with
  | some i =>
    if !s.isVoting l then .next s else
    let v := match sent with
      | some v => v
      | none => (laneVal i.formed l).getD .accept
    let i := { i with verdicts := i.verdicts ++ [(l, (v, s.now))] }
    match i.decided with
    | some (w, _) =>
      let s := if s.allIn i then s.dropInflight i else s.putInflight i
      .next (if v == w then s else s.quillExclude l .disagree)
    | none =>
      match agreed (s.fromVoters i.verdicts) with
      | some w => .next (s.actOn i w)
      | none => if s.allIn i then .next (s.noMajority i) else .next (s.putInflight i)
  | none => .next s

/-! ### Replies at the vote (R402) -/

/-- A reply replaced. -/
def State.putReply (s : State) (r u : Reply) : State :=
  { s with quill := { s.quill with replies := s.quill.replies.map fun x => if x == r then u else x } }

/-- A reply that needs nothing more goes: written, and with no copy awaited. -/
def State.settleReply (s : State) (r : Reply) : State :=
  if r.written && s.voters.all (fun l => r.copies.any (·.1 == l)) then
    { s with quill := { s.quill with replies := s.quill.replies.filter (· != r) } }
  else s

/-- LANE_REPLY_RECEIVE (a QUEUE fence that waited for the reply completes, R110): lane `l` delivers its reply to the
command with TAG `tag` of queue `q`; `sent` are its parameters where they are not those that the lane built. Two
identical copies release it; a lane that differs is excluded; with no two alike nothing is sent (R402). See log entry
54 (DEDUCED). -/
def execLaneReplyReceive (l : Lane) (q tag : Nat) (sent : Option (List Byte)) (t : Nat) (s : State) :
    Host.Outcome State Fault Refusal :=
  let s := s.tick t
  match s.quill.replies.find? fun r => r.cmd.queue == q && r.cmd.tag == tag && (!r.released || !r.copies.isEmpty) && !r.dropped
      && !(r.copies.any (·.1 == l)) with
  | some r =>
    if !s.isVoting l then .next s else
    let bytes := sent.getD r.params
    let u := { r with copies := r.copies ++ [(l, (bytes, s.now))] }
    match (if r.released then some r.params else agreed (s.fromVoters u.copies)) with
    | some w =>
      let u := if r.released then u else { u with released := true, params := w }
      let s := s.putReply r u
      let s := u.copies.foldl (fun (s : State) x => if x.2.1 == w then s else s.quillExclude x.1 .disagree) s
      .next (s.settleReply u).settleQueueFences
    | none =>
      if s.voters.all (fun l => u.copies.any (·.1 == l)) then
        .next ((s.putReply r { u with dropped := true }).fsat F.QUILL_DIS_NO_MAJ).settleQueueFences
      else .next (s.putReply r u)
  | none => .next s

/-! ### What does not arrive (R401, R402) -/

/-- 2 ms have passed since the second of the values that agree, or since the first where none do. -/
def overdue {α : Type} (vs : List (Lane × (α × Nat))) (decided : Bool) (now : Nat) : Bool :=
  let at_ := (vs.map (·.2.2)).getD (if decided then 1 else vs.length - 1) 0
  !vs.isEmpty && decide (at_ + ms2 ≤ now)

/-- The lanes that have not delivered. -/
def State.absent {α : Type} (s : State) (vs : List (Lane × α)) : List Lane := s.voters.filter fun l => !(vs.any (·.1 == l))

/-- VERDICT_TIMEOUT for a verdict: after a decision a missing lane is excluded; two verdicts that differ are refused; with
one alone nothing is accepted and nothing answered (R401). -/
def State.lateVerdict (s : State) (i : Inflight) : State :=
  let vs := if i.decided.isSome then i.verdicts else s.fromVoters i.verdicts
  if !overdue vs i.decided.isSome s.now then s
  else if i.decided.isSome then (s.absent i.verdicts).foldl (fun (s : State) l => s.quillExclude l .missing) (s.dropInflight i)
  else if 2 ≤ vs.length then s.noMajority i
  else (s.fsat F.QUILL_DIS_NO_MAJ).dropInflight i

/-- VERDICT_TIMEOUT for a reply: after its release a missing lane is excluded; with no two alike nothing is sent
(R402). -/
def State.lateReply (s : State) (r : Reply) : State :=
  if !overdue (if r.released then r.copies else s.fromVoters r.copies) r.released s.now then s
  else if r.released then
    let s := (s.absent r.copies).foldl (fun (s : State) l => s.quillExclude l .missing) s
    s.settleReply r
  else (s.putReply r { r with dropped := true }).fsat F.QUILL_DIS_NO_MAJ

/-- VERDICT_TIMEOUT. See log entry 54 (DEDUCED). -/
def execVerdictTimeout (q tag t : Nat) (s : State) : Host.Outcome State Fault Refusal :=
  let s := s.tick t
  let s := match s.quill.inflight.find? fun i => i.cmd.queue == q && i.cmd.tag == tag && !i.verdicts.isEmpty with
    | some i => (s.lateVerdict i).settleQueueFences
    | none => s
  match s.quill.replies.find? fun r => r.cmd.queue == q && r.cmd.tag == tag && !r.copies.isEmpty && !r.dropped with
  | some r => .next (s.lateReply r).settleQueueFences
  | none => .next s

/-! ### The reply's way back (R374, R398, R411) -/

/-- The header of a reply (R387). -/
def replyHeader (r : Reply) (n : Nat) : List Byte :=
  [1, 1] ++ leBytes 2 r.opcode ++ leBytes 4 r.cmd.tag ++ leBytes 8 r.sequence ++ leBytes 4 n ++ leBytes 4 r.cmd.session
    ++ leBytes 2 r.status ++ zeros 6

/-- The reply's packet: under protection its parameters and trailer are free bytes (R388; DESIGN CHOICE, log entry 8). -/
def State.replyBytes (s : State) (r : Reply) : State × List Byte :=
  let n := r.params.length
  let h := replyHeader r (48 + n)
  if r.cmd.session == 0 then (s, h ++ r.params ++ zeros 16)
  else
    let (s, bs) := s.random (n + 16)
    (s, h ++ bs)

/-- The reply answers this command. -/
def answers (r : Reply) (c : Cmd) : Bool := r.cmd.queue == c.queue && r.cmd.tag == c.tag && r.cmd.params == c.params

/-- The reply has left, or is discarded. -/
def State.replyGone (s : State) (r : Reply) : State :=
  if r.copies.isEmpty || r.dropped then { s with quill := { s.quill with replies := s.quill.replies.filter (· != r) } }
  else
    let u := { r with written := true }
    (s.putReply r u).settleReply u

/-- A forwarded packet's slot is free again, and a draining queue may end (R374, R376). See log entry 53 (DEDUCED). -/
def State.freeSlot (s : State) (q : Nat) (f : Forwarded) : State :=
  let x := s.que.queue q
  let s := s.setRun q { x with cmds := x.cmds.filter (· != f) }
  (s.showOutstanding q).drain q

/-- What the fragments of a reply carry for an MTU of 1,500 B: 1,472 B behind the IPv4 and UDP headers, then 1,480 B each
behind the IPv4 header (R411). -/
def mpFragments (bs : List Byte) : List (List Byte) :=
  bs.take 1472 :: chunks 1480 (ceilDiv (bs.length - 1472) 1480) (bs.drop 1472)

/-- The bytes of a reply to descriptor `f` are written, cut to LEN_B, and the descriptor completes (R374). A reply to the
scribe's own buffer leaves by MP (R411). -/
def State.writeReply (s : State) (q : Nat) (f : Forwarded) (bs : List Byte) : State :=
  let a := dAddrB f.desc
  let cut := bs.take (dLenB f.desc)
  let s := match assoc s.que.scribeBuf a with
    | some (dest, _) =>
      { s with que := { s.que with mpReply := (dest, mpFragments cut), scribeBuf := cellDel s.que.scribeBuf a } }
    | none => s.putBytes q a 0 0 cut
  let st := if dLenB f.desc < bs.length then wbTruncated else wbOk
  s.writeBack q f.counter st 0 cut.length (dIrq f.desc)

/-- The mailbox's reply: written, then MBOX_M2H set, and vector 42 fires (R360, R398). -/
def State.mailReply (s : State) (bs : List Byte) : State :=
  let s := s.mwrite mailOut bs
  let was := s.quill.mboxM2h
  let s := { s with quill := { s.quill with mailbox := none, mboxM2h := bs.length } }
  if was == 0 then s.hostEvent evMailbox else s

/-- COMMAND_REPLY_WRITE: the oldest released reply of queue `q` goes back to its producer, unless the queue is HALTED
(R377). A reply that is dropped frees its packet's slot and nothing is written; one whose queue has been reset is
discarded (R374, R386, R396, R402).
See log entry 54 (DEDUCED). -/
def execCommandReplyWrite (q t : Nat) (s : State) : Host.Outcome State Fault Refusal :=
  let s := s.tick t
  match s.quill.replies.find? fun r => r.cmd.queue == q && (r.released || r.dropped) && !r.written with
  | some r =>
    if q == mailQueue then
      let mine := s.quill.mailbox.any fun m => m.cmd.any (answers r)
      if r.dropped then
        .next ((if mine then { s with quill := { s.quill with mailbox := none } } else s).replyGone r)
      else
        let (s, bs) := s.replyBytes r
        .next ((if mine then s.mailReply bs else s).replyGone r)
    else
      match (s.que.queue q).cmds.find? fun f => f.cmd.any (answers r) with
      | some f =>
        if r.dropped then .next ((s.freeSlot q f).replyGone r)
        else if s.qState q == qHalted then .next s
        else if (assoc s.que.scribeBuf (dAddrB f.desc)).isNone && !s.canPut (dAddrB f.desc) (48 + r.params.length) then .next s
        else
          let (s, bs) := s.replyBytes r
          .next (((s.writeReply q f bs).freeSlot q f).replyGone r)
      | none => .next (s.replyGone r)
  | none => .next s

end Sys2Proof.Machine
end

