-- ==== Sys2Proof/Machine/Units.lean ====
section
/-! DEFINITION. A fabric unit from outside at a receiving block (R11 to R18): its stream, its object, and what the block does
with a complete object. -/

namespace Sys2Proof.Machine

/-- The counters of a block changed (R13, R15, R18). -/
def Fabric.counted (f : Fabric) (b : Block) (k : FabricCount → FabricCount) : Fabric := f.setCount (k (f.count b))

/-- The stream after a unit that it accepts: `cut` when units before this one are missing, so that the object in
progress is discarded and this unit starts the next one (R15). -/
def Stream.accept (x : Stream) (seq : Nat) (payload : List Byte) (last cut : Bool) : Stream :=
  { x with
    expected := some ((seq + 1) % 2 ^ 32)
    obj := if last then [] else if cut then payload else x.obj ++ payload
    broken := !last && (cut || x.broken) }

/-- The object that a unit completes (R11, R15). -/
def Stream.whole (x : Stream) (payload : List Byte) (cut : Bool) : List Byte := if cut then payload else x.obj ++ payload

/-- Bytes as a block keeps them: a lane keeps the payloads of IN_IMAGE and TGI_SET in its own encoding (R45). -/
def keptBytes (b : Block) (kind : Nat) (bytes : List Byte) : List Byte :=
  match blockLane b with
  | some l => if kind == kindInImage || kind == kindTgiSet then bytes.map (encodeByte l) else bytes
  | none => bytes

/-- Lane `l` takes a TGI_SET object into its staging buffers; a CRC error excludes it with cause MISSING (R316). -/
def State.takeTgi (s : State) (l : Lane) (bytes : List Byte) : State :=
  match s.tgiOf bytes with
  | none => s.laneFault l .missing
  | some none => s
  | some (some (i, d)) => s.setLane l ((s.lane l).stageTgi i d)

/-- A lane that counts a gap in the TGI_SET stream is excluded at once with cause MISSING (R316). -/
def State.tgiGap (s : State) (b : Block) (kind : Nat) : State :=
  match blockLane b with
  | some l => if kind == kindTgiSet then s.laneFault l .missing else s
  | none => s

/-- A block takes a complete object: the vote the LANE_OUT object or the CENSUS hash of the lane that LANE_MASK names
(R46, R59); any other block keeps it; a lane stages a TGI_SET object (R316), and a STATUS object is a report of its
sender (R26). See log entry 7 (DESIGN CHOICE). -/
def State.deliver (s : State) (b : Block) (tag : DWord) (bytes : List Byte) (gapped : Bool) : State :=
  let kind := tagKind tag
  if b == .vote && (kind == kindLaneOut || kind == kindCensus) then
    match maskLane (tagMask tag) with
    | none => s
    | some l =>
      if kind == kindLaneOut then
        s.holdOut { lane := l, task := byteAt (bytes.drop (bytes.length - 72)) 3, gen := tagGen tag, bytes := bytes }
      else s.holdCensus (censusOfPayload l bytes)
  else
    let d : Delivered := ⟨b, kind, tagMask tag, tagGen tag, keptBytes b kind bytes, gapped⟩
    let s := { s with fabric := s.fabric.keep d }
    match blockLane b with
    | some l => if kind == kindTgiSet then s.takeTgi l bytes else s
    | none => if kind == kindStatus then s.report (tagSrc tag) else s

/-- FABRIC_UNIT_RECEIVE: a reserved KIND is a tag error (R13); a repeated unit a duplicate; a unit of another
generation than the current one and the one before is stale (R15, R18). What the spec does not say of a stale unit,
the model chooses: the SEQ expected next goes on behind it, and the object in progress is lost. A unit behind a gap
starts the next object. `last` says that the unit ends its object. See log entry 7 (DESIGN CHOICE). See log entry 70
(DESIGN CHOICE). -/
def execFabricUnitReceive (b : Block) (tag : DWord) (payload : List Byte) (last : Bool) (t : Nat) (s : State) :
    Host.Outcome State Fault Refusal :=
  let s := s.tick t
  let f := s.fabric
  let kind := tagKind tag
  if !kindKnown kind then
    .next { s with fabric := f.counted b fun c => { c with tagErrors := c.tagErrors + 1 } }
  else
    let x := f.stream b (tagSrc tag) kind (streamRecv kind (tagMask tag))
    let case := seqCase x.expected (tagSeq tag)
    if case == .duplicate then
      .next { s with fabric := f.counted b fun c => { c with duplicates := c.duplicates + 1 } }
    else
      let cut := case == .gap
      let s := if cut then s.tgiGap b kind else s
      let f := if cut then s.fabric.counted b fun c => { c with gaps := c.gaps + 1 } else s.fabric
      if !genAccepted f.gen (tagGen tag) then
        let f := f.counted b fun c => { c with stales := c.stales + 1 }
        .next { s with fabric := f.setStream { x with expected := some ((tagSeq tag + 1) % 2 ^ 32), obj := [], broken := true } }
      else
        let s := { s with fabric := f.setStream (x.accept (tagSeq tag) payload last cut) }
        if last then .next (s.deliver b tag (x.whole payload cut) (cut || x.broken)) else .next s

end Sys2Proof.Machine
end

