-- ==== Sys2Proof/Machine/Dispatch.lean ====
section
/-! DEFINITION. The meaning of each command: one arm for each constructor of `Instr`, in the order of the opcode table. -/

namespace Sys2Proof.Machine

/-- The effect of one command on everything but the queue of waiting commands. See log entry 17 (DEDUCED).
See log entry 18 (DEDUCED). -/
def exec (i : Instr) (s : State) : Host.Outcome State Fault Refusal :=
  match i with
  | .fabricUnitReceive b tag payload last t => Sys2Proof.Machine.execFabricUnitReceive b tag payload last t s
  | .ignoredWrite off => Sys2Proof.Machine.execIgnoredWrite off s
  | .sysIgnAddrClear => Sys2Proof.Machine.execSysIgnAddrClear s
  | .lowRegisterRead r off => Sys2Proof.Machine.execLowRegisterRead r off s
  | .highRegisterRead r off => Sys2Proof.Machine.execHighRegisterRead r off s
  | .storeRetire l e c branches addr size attr data => Sys2Proof.Machine.execStoreRetire l e c branches addr size attr data s
  | .windowClose l e c branches => Sys2Proof.Machine.execWindowClose l e c branches s
  | .comparatorResult l e fault mainLocal checkerLocal t => Sys2Proof.Machine.execComparatorResult l e fault mainLocal checkerLocal t s
  | .proofDue l e => Sys2Proof.Machine.execProofDue l e s
  | .comparatorProof l e fault t => Sys2Proof.Machine.execComparatorProof l e fault t s
  | .proofTimeout l e t => Sys2Proof.Machine.execProofTimeout l e t s
  | .eccErrorUncorrectable l t => Sys2Proof.Machine.execEccErrorUncorrectable l t s
  | .laneFault l cause t => Sys2Proof.Machine.execLaneFault l cause t s
  | .watchdogExpire l t => Sys2Proof.Machine.execWatchdogExpire l t s
  | .voteCommit task t => Sys2Proof.Machine.execVoteCommit task t s
  | .censusSliceHash l task slice abandoned t => Sys2Proof.Machine.execCensusSliceHash l task slice abandoned t s
  | .censusRoundStart task t => Sys2Proof.Machine.execCensusRoundStart task t s
  | .censusCompare task slice exec stamp t => Sys2Proof.Machine.execCensusCompare task slice exec stamp t s
  | .laneExcludedTimeout l t => Sys2Proof.Machine.execLaneExcludedTimeout l t s
  | .lanePowerCycleDone l t => Sys2Proof.Machine.execLanePowerCycleDone l t s
  | .laneBootComplete l ok t => Sys2Proof.Machine.execLaneBootComplete l ok t s
  | .laneTranslationComplete l bad t => Sys2Proof.Machine.execLaneTranslationComplete l bad t s
  | .voteEnable t => Sys2Proof.Machine.execVoteEnable t s
  | .precopyPassComplete l t => Sys2Proof.Machine.execPrecopyPassComplete l t s
  | .stateTransferSeam l t => Sys2Proof.Machine.execStateTransferSeam l t s
  | .finalDeltaLanded l t => Sys2Proof.Machine.execFinalDeltaLanded l t s
  | .transferTimeout l t => Sys2Proof.Machine.execTransferTimeout l t s
  | .voteDisCapClear => Sys2Proof.Machine.execVoteDisCapClear s
  | .censusCapClear => Sys2Proof.Machine.execCensusCapClear s
  | .taskRelease task t => Sys2Proof.Machine.execTaskRelease task t s
  | .taskFinish l task t => Sys2Proof.Machine.execTaskFinish l task t s
  | .lateExecutionEnd l task t => Sys2Proof.Machine.execLateExecutionEnd l task t s
  | .timeAlarmFire task t => Sys2Proof.Machine.execTimeAlarmFire task t s
  | .modeChangeEffect t => Sys2Proof.Machine.execModeChangeEffect t s
  | .timeFenceExpire queue tag t => Sys2Proof.Machine.execTimeFenceExpire queue tag t s
  | .fenceTimeout queue tag t => Sys2Proof.Machine.execFenceTimeout queue tag t s
  | .opNop x => Sys2Proof.Machine.execOpNop x s
  | .opEnd x => Sys2Proof.Machine.execOpEnd x s
  | .opJmp x target => Sys2Proof.Machine.execOpJmp x target s
  | .opBrt x a target => Sys2Proof.Machine.execOpBrt x a target s
  | .opBrf x a target => Sys2Proof.Machine.execOpBrf x a target s
  | .opLoop x bound a target => Sys2Proof.Machine.execOpLoop x bound a target s
  | .opCall x target => Sys2Proof.Machine.execOpCall x target s
  | .opRet x => Sys2Proof.Machine.execOpRet x s
  | .opAssert x a => Sys2Proof.Machine.execOpAssert x a s
  | .opLdi x d ty imm => Sys2Proof.Machine.execOpLdi x d ty imm s
  | .opLdl x d ty value => Sys2Proof.Machine.execOpLdl x d ty value s
  | .opMov x d a => Sys2Proof.Machine.execOpMov x d a s
  | .opLd x d var => Sys2Proof.Machine.execOpLd x d var s
  | .opSt x src var => Sys2Proof.Machine.execOpSt x src var s
  | .opLdx x d a var => Sys2Proof.Machine.execOpLdx x d a var s
  | .opStx x src a var => Sys2Proof.Machine.execOpStx x src a var s
  | .opCmov x d a b => Sys2Proof.Machine.execOpCmov x d a b s
  | .opAdd x d a b => Sys2Proof.Machine.execOpAdd x d a b s
  | .opSub x d a b => Sys2Proof.Machine.execOpSub x d a b s
  | .opMul x d a b => Sys2Proof.Machine.execOpMul x d a b s
  | .opDiv x d a b => Sys2Proof.Machine.execOpDiv x d a b s
  | .opMod x d a b => Sys2Proof.Machine.execOpMod x d a b s
  | .opNeg x d a => Sys2Proof.Machine.execOpNeg x d a s
  | .opAbs x d a => Sys2Proof.Machine.execOpAbs x d a s
  | .opAdds x d a b => Sys2Proof.Machine.execOpAdds x d a b s
  | .opSubs x d a b => Sys2Proof.Machine.execOpSubs x d a b s
  | .opMuls x d a b => Sys2Proof.Machine.execOpMuls x d a b s
  | .opNegs x d a => Sys2Proof.Machine.execOpNegs x d a s
  | .opAbss x d a => Sys2Proof.Machine.execOpAbss x d a s
  | .opMin x d a b => Sys2Proof.Machine.execOpMin x d a b s
  | .opMax x d a b => Sys2Proof.Machine.execOpMax x d a b s
  | .opAddi x d a imm => Sys2Proof.Machine.execOpAddi x d a imm s
  | .opSqrt x d a => Sys2Proof.Machine.execOpSqrt x d a s
  | .opAnd x d a b => Sys2Proof.Machine.execOpAnd x d a b s
  | .opOr x d a b => Sys2Proof.Machine.execOpOr x d a b s
  | .opXor x d a b => Sys2Proof.Machine.execOpXor x d a b s
  | .opNot x d a => Sys2Proof.Machine.execOpNot x d a s
  | .opShl x d a imm => Sys2Proof.Machine.execOpShl x d a imm s
  | .opShr x d a imm => Sys2Proof.Machine.execOpShr x d a imm s
  | .opRol x d a imm => Sys2Proof.Machine.execOpRol x d a imm s
  | .opRor x d a imm => Sys2Proof.Machine.execOpRor x d a imm s
  | .opShlv x d a b => Sys2Proof.Machine.execOpShlv x d a b s
  | .opShrv x d a b => Sys2Proof.Machine.execOpShrv x d a b s
  | .opBitget x d a imm => Sys2Proof.Machine.execOpBitget x d a imm s
  | .opBswap x d a => Sys2Proof.Machine.execOpBswap x d a s
  | .opEq x d a b => Sys2Proof.Machine.execOpEq x d a b s
  | .opNe x d a b => Sys2Proof.Machine.execOpNe x d a b s
  | .opLt x d a b => Sys2Proof.Machine.execOpLt x d a b s
  | .opLe x d a b => Sys2Proof.Machine.execOpLe x d a b s
  | .opGt x d a b => Sys2Proof.Machine.execOpGt x d a b s
  | .opGe x d a b => Sys2Proof.Machine.execOpGe x d a b s
  | .opIsnan x d a => Sys2Proof.Machine.execOpIsnan x d a s
  | .opConv x d a imm => Sys2Proof.Machine.execOpConv x d a imm s
  | .opConvs x d a imm => Sys2Proof.Machine.execOpConvs x d a imm s
  | .opTrunc x d a imm => Sys2Proof.Machine.execOpTrunc x d a imm s
  | .opNow x d => Sys2Proof.Machine.execOpNow x d s
  | .opDtime x d => Sys2Proof.Machine.execOpDtime x d s
  | .opGetf x d flag => Sys2Proof.Machine.execOpGetf x d flag s
  | .opClrf x flag => Sys2Proof.Machine.execOpClrf x flag s
  | .opFenceOut x => Sys2Proof.Machine.execOpFenceOut x s
  | .opTon x d a inst => Sys2Proof.Machine.execOpTon x d a inst s
  | .opTof x d a inst => Sys2Proof.Machine.execOpTof x d a inst s
  | .opTp x d a inst => Sys2Proof.Machine.execOpTp x d a inst s
  | .opRtrig x d a inst => Sys2Proof.Machine.execOpRtrig x d a inst s
  | .opFtrig x d a inst => Sys2Proof.Machine.execOpFtrig x d a inst s
  | .opCtu x d a inst => Sys2Proof.Machine.execOpCtu x d a inst s
  | .opCtd x d a inst => Sys2Proof.Machine.execOpCtd x d a inst s
  | .opCtud x d a inst => Sys2Proof.Machine.execOpCtud x d a inst s
  | .opSr x d a inst => Sys2Proof.Machine.execOpSr x d a inst s
  | .opRs x d a inst => Sys2Proof.Machine.execOpRs x d a inst s
  | .opHyst x d a inst => Sys2Proof.Machine.execOpHyst x d a inst s
  | .opRamp x d a inst => Sys2Proof.Machine.execOpRamp x d a inst s
  | .opLimit x d a inst => Sys2Proof.Machine.execOpLimit x d a inst s
  | .opBlkrd x d field inst => Sys2Proof.Machine.execOpBlkrd x d field inst s
  | .opBlkrst x inst => Sys2Proof.Machine.execOpBlkrst x inst s
  | .folioStagingComplete sigOk badA badB badC t => Sys2Proof.Machine.execFolioStagingComplete sigOk badA badB badC t s
  | .seam t => Sys2Proof.Machine.execSeam t s
  | .carryComplete t => Sys2Proof.Machine.execCarryComplete t s
  | .seamSearchTimeout t => Sys2Proof.Machine.execSeamSearchTimeout t s
  | .seamVoid t => Sys2Proof.Machine.execSeamVoid t s
  | .fieldLinkFrameTime t => Sys2Proof.Machine.execFieldLinkFrameTime t s
  | .logicToFieldFrame g bytes t => Sys2Proof.Machine.execLogicToFieldFrame g bytes t s
  | .fieldToLogicFrame g bytes t => Sys2Proof.Machine.execFieldToLogicFrame g bytes t s
  | .applyInstant t => Sys2Proof.Machine.execApplyInstant t s
  | .shadowSetOpenTimeout t => Sys2Proof.Machine.execShadowSetOpenTimeout t s
  | .shadowSetCompleteTimeout t => Sys2Proof.Machine.execShadowSetCompleteTimeout t s
  | .inputFilterExpire g p t => Sys2Proof.Machine.execInputFilterExpire g p t s
  | .inputTickSample t => Sys2Proof.Machine.execInputTickSample t s
  | .wettingPulseEnd g p t => Sys2Proof.Machine.execWettingPulseEnd g p t s
  | .validHoldoffExpire g p t => Sys2Proof.Machine.execValidHoldoffExpire g p t s
  | .bankSupplyMeasure g b volts t => Sys2Proof.Machine.execBankSupplyMeasure g b volts t s
  | .bankWarnClear g b t => Sys2Proof.Machine.execBankWarnClear g b t s
  | .bankRestore g b t => Sys2Proof.Machine.execBankRestore g b t s
  | .bankValidResume g b t => Sys2Proof.Machine.execBankValidResume g b t s
  | .testDue g p t => Sys2Proof.Machine.execTestDue g p t s
  | .darkPulseEnd g p over20 t => Sys2Proof.Machine.execDarkPulseEnd g p over20 t s
  | .darkPulseRepeat g p t => Sys2Proof.Machine.execDarkPulseRepeat g p t s
  | .probeEnd g p t => Sys2Proof.Machine.execProbeEnd g p t s
  | .overloadLatch g p t => Sys2Proof.Machine.execOverloadLatch g p t s
  | .overloadRetry g p cooled t => Sys2Proof.Machine.execOverloadRetry g p cooled t s
  | .thermalShutdown g p t => Sys2Proof.Machine.execThermalShutdown g p t s
  | .openLoadDetect g p present t => Sys2Proof.Machine.execOpenLoadDetect g p present t s
  | .externalDriveDetect g p over20 t => Sys2Proof.Machine.execExternalDriveDetect g p over20 t s
  | .silenceTimeout g t => Sys2Proof.Machine.execSilenceTimeout g t s
  | .haltReceived g t => Sys2Proof.Machine.execHaltReceived g t s
  | .speedEdge sensorB t => Sys2Proof.Machine.execSpeedEdge sensorB t s
  | .stopRequestInput ch on t => Sys2Proof.Machine.execStopRequestInput ch on t s
  | .ssmEvaluation welded t => Sys2Proof.Machine.execSsmEvaluation welded t s
  | .laneStopEvaluation l welded t => Sys2Proof.Machine.execLaneStopEvaluation l welded t s
  | .permitVote t => Sys2Proof.Machine.execPermitVote t s
  | .sto1HeartbeatLoss t => Sys2Proof.Machine.execSto1HeartbeatLoss t s
  | .ssmOscCheck deviation t => Sys2Proof.Machine.execSsmOscCheck deviation t s
  | .ssmParityCheck bad t => Sys2Proof.Machine.execSsmParityCheck bad t s
  | .ssmParamLock t => Sys2Proof.Machine.execSsmParamLock t s
  | .ssmLockTimeout t => Sys2Proof.Machine.execSsmLockTimeout t s
  | .frameIngress p bytes t => Sys2Proof.Machine.execFrameIngress p bytes t s
  | .frameTransmitStart p t => Sys2Proof.Machine.execFrameTransmitStart p t s
  | .frameTransmitComplete p t => Sys2Proof.Machine.execFrameTransmitComplete p t s
  | .linkDown p t => Sys2Proof.Machine.execLinkDown p t s
  | .linkUp p mbps fullDuplex t => Sys2Proof.Machine.execLinkUp p mbps fullDuplex t s
  | .fdbAgeExpire mac vid t => Sys2Proof.Machine.execFdbAgeExpire mac vid t s
  | .gateEntryChange p t => Sys2Proof.Machine.execGateEntryChange p t s
  | .netSetTimeout t => Sys2Proof.Machine.execNetSetTimeout t s
  | .mpFrameReceive bytes t => Sys2Proof.Machine.execMpFrameReceive bytes t s
  | .telegramDelivery entry t => Sys2Proof.Machine.execTelegramDelivery entry t s
  | .periodBoundary t => Sys2Proof.Machine.execPeriodBoundary t s
  | .publicationSend t => Sys2Proof.Machine.execPublicationSend t s
  | .tgeRejCapClear => Sys2Proof.Machine.execTgeRejCapClear s
  | .folioIomisClear => Sys2Proof.Machine.execFolioIomisClear s
  | .ptpSync p master seq mac t1 corr twoStep t => Sys2Proof.Machine.execPtpSync p master seq mac t1 corr twoStep t s
  | .ptpFollowUp p seq t1 corr t => Sys2Proof.Machine.execPtpFollowUp p seq t1 corr t s
  | .ptpDelayReq p seq received mac t => Sys2Proof.Machine.execPtpDelayReq p seq received mac t s
  | .ptpDelayResp p seq t4 corr t => Sys2Proof.Machine.execPtpDelayResp p seq t4 corr t s
  | .ptpPdelayReq p seq received mac t => Sys2Proof.Machine.execPtpPdelayReq p seq received mac t s
  | .ptpPdelayResp p seq followUp mac t2 t3 t => Sys2Proof.Machine.execPtpPdelayResp p seq followUp mac t2 t3 t s
  | .ptpAnnounce p states t => Sys2Proof.Machine.execPtpAnnounce p states t s
  | .ptpIgnoredMessage p t => Sys2Proof.Machine.execPtpIgnoredMessage p t s
  | .ptpMessageSend p kind t => Sys2Proof.Machine.execPtpMessageSend p kind t s
  | .ptpMasterLost t => Sys2Proof.Machine.execPtpMasterLost t s
  | .timeStepApply t => Sys2Proof.Machine.execTimeStepApply t s
  | .timeRestepTimeout t => Sys2Proof.Machine.execTimeRestepTimeout t s
  | .aonSecondsLoad t => Sys2Proof.Machine.execAonSecondsLoad t s
  | .ppsOutput t => Sys2Proof.Machine.execPpsOutput t s
  | .ppsInputEdge t => Sys2Proof.Machine.execPpsInputEdge t s
  | .timePpsinClear => Sys2Proof.Machine.execTimePpsinClear s
  | .inboundRead bar off n t => Sys2Proof.Machine.execInboundRead bar off n t s
  | .inboundWrite off bytes t => Sys2Proof.Machine.execInboundWrite off bytes t s
  | .inboundReadTimeout t => Sys2Proof.Machine.execInboundReadTimeout t s
  | .unsupportedRequest t => Sys2Proof.Machine.execUnsupportedRequest t s
  | .malformedTlp t => Sys2Proof.Machine.execMalformedTlp t s
  | .postedWriteError cause off t => Sys2Proof.Machine.execPostedWriteError cause off t s
  | .readAheadExpire line t => Sys2Proof.Machine.execReadAheadExpire line t s
  | .outboundReadTimeout tag t => Sys2Proof.Machine.execOutboundReadTimeout tag t s
  | .outboundCompletion tag ok data t => Sys2Proof.Machine.execOutboundCompletion tag ok data t s
  | .pcieReset flr t => Sys2Proof.Machine.execPcieReset flr t s
  | .powerStateChange d3hot t => Sys2Proof.Machine.execPowerStateChange d3hot t s
  | .msixTableWrite off value t => Sys2Proof.Machine.execMsixTableWrite off value t s
  | .brgEvtClear mask => Sys2Proof.Machine.execBrgEvtClear mask s
  | .brgPwCapClear => Sys2Proof.Machine.execBrgPwCapClear s
  | .mailboxSubmit len t => Sys2Proof.Machine.execMailboxSubmit len t s
  | .mboxM2hRead t => Sys2Proof.Machine.execMboxM2hRead t s
  | .doorbell q v r t => Sys2Proof.Machine.execDoorbell q v r t s
  | .ringConfigWrite q which value t => Sys2Proof.Machine.execRingConfigWrite q which value t s
  | .queueEnable q r t => Sys2Proof.Machine.execQueueEnable q r t s
  | .queueDisable q r t => Sys2Proof.Machine.execQueueDisable q r t s
  | .queueResume q t => Sys2Proof.Machine.execQueueResume q t s
  | .queueSkip q t => Sys2Proof.Machine.execQueueSkip q t s
  | .qStatIrqClear q => Sys2Proof.Machine.execQStatIrqClear q s
  | .qStatHaltEvtClear q => Sys2Proof.Machine.execQStatHaltEvtClear q s
  | .descriptorFetch q bytes t => Sys2Proof.Machine.execDescriptorFetch q bytes t s
  | .burstStart t => Sys2Proof.Machine.execBurstStart t s
  | .burstDone q ecc t => Sys2Proof.Machine.execBurstDone q ecc t s
  | .flushReadReturn q ok t => Sys2Proof.Machine.execFlushReadReturn q ok t s
  | .burstRetry q t => Sys2Proof.Machine.execBurstRetry q t s
  | .requestLineAssert line t => Sys2Proof.Machine.execRequestLineAssert line t s
  | .requestLineWithdraw line t => Sys2Proof.Machine.execRequestLineWithdraw line t s
  | .requestIdleTimeout q t => Sys2Proof.Machine.execRequestIdleTimeout q t s
  | .commandReplyWrite q t => Sys2Proof.Machine.execCommandReplyWrite q t s
  | .quillPacketReceive q params authentic t => Sys2Proof.Machine.execQuillPacketReceive q params authentic t s
  | .lanePacketCheck l q tag x t => Sys2Proof.Machine.execLanePacketCheck l q tag x t s
  | .verdictReceive l q tag sent t => Sys2Proof.Machine.execVerdictReceive l q tag sent t s
  | .verdictTimeout q tag t => Sys2Proof.Machine.execVerdictTimeout q tag t s
  | .laneReplyReceive l q tag sent t => Sys2Proof.Machine.execLaneReplyReceive l q tag sent t s
  | .sessionPendingTimeout id t => Sys2Proof.Machine.execSessionPendingTimeout id t s
  | .sessionIdleTimeout id t => Sys2Proof.Machine.execSessionIdleTimeout id t s
  | .tokenBucketRefill which t => Sys2Proof.Machine.execTokenBucketRefill which t s
  | .mpDatagramReceive source ident off more bytes t => Sys2Proof.Machine.execMpDatagramReceive source ident off more bytes t s
  | .mpReassemblyTimeout source ident t => Sys2Proof.Machine.execMpReassemblyTimeout source ident t s
  | .moduleInfo c t => Sys2Proof.Machine.execModuleInfo c t s
  | .laneReintegrate c t => Sys2Proof.Machine.execLaneReintegrate c t s
  | .store c t => Sys2Proof.Machine.execStore c t s
  | .storeRecordComplete t => Sys2Proof.Machine.execStoreRecordComplete t s
  | .windowSet c t => Sys2Proof.Machine.execWindowSet c t s
  | .queueConfig c t => Sys2Proof.Machine.execQueueConfig c t s
  | .queueConfigDiscard c t => Sys2Proof.Machine.execQueueConfigDiscard c t s
  | .netConfig c t => Sys2Proof.Machine.execNetConfig c t s
  | .netConfigDiscard c t => Sys2Proof.Machine.execNetConfigDiscard c t s
  | .modeSetStop c t => Sys2Proof.Machine.execModeSetStop c t s
  | .modeSetRun c t => Sys2Proof.Machine.execModeSetRun c t s
  | .modeSetHold c t => Sys2Proof.Machine.execModeSetHold c t s
  | .folioStage c t => Sys2Proof.Machine.execFolioStage c t s
  | .folioSwitch c t => Sys2Proof.Machine.execFolioSwitch c t s
  | .taskTrigger c t => Sys2Proof.Machine.execTaskTrigger c t s
  | .varRead c t => Sys2Proof.Machine.execVarRead c t s
  | .varWrite c t => Sys2Proof.Machine.execVarWrite c t s
  | .forceSet c t => Sys2Proof.Machine.execForceSet c t s
  | .forceClear c t => Sys2Proof.Machine.execForceClear c t s
  | .tgeEntryAdd c t => Sys2Proof.Machine.execTgeEntryAdd c t s
  | .tgeEntryDel c t => Sys2Proof.Machine.execTgeEntryDel c t s
  | .chConfig c t => Sys2Proof.Machine.execChConfig c t s
  | .chConfigDiscard c t => Sys2Proof.Machine.execChConfigDiscard c t s
  | .ssmParamLoad c sigOk t => Sys2Proof.Machine.execSsmParamLoad c sigOk t s
  | .timeSet c t => Sys2Proof.Machine.execTimeSet c t s
  | .timeRestep c t => Sys2Proof.Machine.execTimeRestep c t s
  | .rubricBegin c sigOk t => Sys2Proof.Machine.execRubricBegin c sigOk t s
  | .rubricBlock c t => Sys2Proof.Machine.execRubricBlock c t s
  | .rubricCommit c bad folioSig t => Sys2Proof.Machine.execRubricCommit c bad folioSig t s
  | .rubricActivate c readsBack t => Sys2Proof.Machine.execRubricActivate c readsBack t s
  | .rubricConfirm c t => Sys2Proof.Machine.execRubricConfirm c t s
  | .sessionOpen c t => Sys2Proof.Machine.execSessionOpen c t s
  | .sessionOpenCredential c sigOk holderOk t => Sys2Proof.Machine.execSessionOpenCredential c sigOk holderOk t s
  | .sessionClose c t => Sys2Proof.Machine.execSessionClose c t s
  | .attest c t => Sys2Proof.Machine.execAttest c t s
  | .ownerEnrol c keyOk sigOk t => Sys2Proof.Machine.execOwnerEnrol c keyOk sigOk t s
  | .ownerEnrolRevoke c t => Sys2Proof.Machine.execOwnerEnrolRevoke c t s
  | .ownerEnrolRaise c t => Sys2Proof.Machine.execOwnerEnrolRaise c t s
  | .ownerLock c t => Sys2Proof.Machine.execOwnerLock c t s
  | .ownerUnlock c t => Sys2Proof.Machine.execOwnerUnlock c t s
  | .lifecycleSet c t => Sys2Proof.Machine.execLifecycleSet c t s
  | .duplexPair c t => Sys2Proof.Machine.execDuplexPair c t s
  | .duplexUnpair c t => Sys2Proof.Machine.execDuplexUnpair c t s
  | .duplexRehearse c t => Sys2Proof.Machine.execDuplexRehearse c t s
  | .logRead c t => Sys2Proof.Machine.execLogRead c t s
  | .diagSnapshotRegisters c t => Sys2Proof.Machine.execDiagSnapshotRegisters c t s
  | .diagSnapshotSlice c t => Sys2Proof.Machine.execDiagSnapshotSlice c t s
  | .inkSnap c t => Sys2Proof.Machine.execInkSnap c t s
  | .inkCapture c t => Sys2Proof.Machine.execInkCapture c t s
  | .inkCaptureStop c t => Sys2Proof.Machine.execInkCaptureStop c t s
  | .fenceQueue c t => Sys2Proof.Machine.execFenceQueue c t s
  | .fenceCommit c t => Sys2Proof.Machine.execFenceCommit c t s
  | .fenceTime c t => Sys2Proof.Machine.execFenceTime c t s
  | .abort c t => Sys2Proof.Machine.execAbort c t s
  | .claimOffer t => Sys2Proof.Machine.execClaimOffer t s
  | .claimExchange g peer t => Sys2Proof.Machine.execClaimExchange g peer t s
  | .cblLinkUp t => Sys2Proof.Machine.execCblLinkUp t s
  | .cblLinkDown t => Sys2Proof.Machine.execCblLinkDown t s
  | .partnerUnreachable t => Sys2Proof.Machine.execPartnerUnreachable t s
  | .helloSend t => Sys2Proof.Machine.execHelloSend t s
  | .hello ok r t => Sys2Proof.Machine.execHello ok r t s
  | .token ok r t => Sys2Proof.Machine.execToken ok r t s
  | .epochHead ok r t => Sys2Proof.Machine.execEpochHead ok r t s
  | .line ok r t => Sys2Proof.Machine.execLine ok r t s
  | .term ok r t => Sys2Proof.Machine.execTerm ok r t s
  | .inputHead ok r t => Sys2Proof.Machine.execInputHead ok r t s
  | .outputSig ok r t => Sys2Proof.Machine.execOutputSig ok r t s
  | .schedule ok r same t => Sys2Proof.Machine.execSchedule ok r same t s
  | .epochFreeze t => Sys2Proof.Machine.execEpochFreeze t s
  | .copyBoundary t => Sys2Proof.Machine.execCopyBoundary t s
  | .shadowRelease task t => Sys2Proof.Machine.execShadowRelease task t s
  | .fullSyncTimeout t => Sys2Proof.Machine.execFullSyncTimeout t s
  | .rehearsalSwap t => Sys2Proof.Machine.execRehearsalSwap t s
  | .rehearsalCheck partnerOk t => Sys2Proof.Machine.execRehearsalCheck partnerOk t s
  | .dupDivCapClear => Sys2Proof.Machine.execDupDivCapClear s
  | .rngHealthFail => Sys2Proof.Machine.execRngHealthFail s
  | .measurementSubmit part inst version digest t => Sys2Proof.Machine.execMeasurementSubmit part inst version digest t s
  | .sysViolCapClear => Sys2Proof.Machine.execSysViolCapClear s
  | .debugHaltRequest l op t => Sys2Proof.Machine.execDebugHaltRequest l op t s
  | .debugWrite l e outside addr size attr data cells t => Sys2Proof.Machine.execDebugWrite l e outside addr size attr data cells t s
  | .jtagInstruction code t => Sys2Proof.Machine.execJtagInstruction code t s
  | .activationReset t => Sys2Proof.Machine.execActivationReset t s
  | .elementStart part inst ok t => Sys2Proof.Machine.execElementStart part inst ok t s
  | .trialExpire t => Sys2Proof.Machine.execTrialExpire t s
  | .revertReset t => Sys2Proof.Machine.execRevertReset t s
  | .powerOn t => Sys2Proof.Machine.execPowerOn t s
  | .brownOut t => Sys2Proof.Machine.execBrownOut t s
  | .resetN t => Sys2Proof.Machine.execResetN t s
  | .eccCritical t => Sys2Proof.Machine.execEccCritical t s
  | .rpcParity t => Sys2Proof.Machine.execRpcParity t s
  | .clockCheck deviates locked t => Sys2Proof.Machine.execClockCheck deviates locked t s
  | .resetRelease source t => Sys2Proof.Machine.execResetRelease source t s
  | .domainSwitchOn code t => Sys2Proof.Machine.execDomainSwitchOn code t s
  | .perstHoldExpire since t => Sys2Proof.Machine.execPerstHoldExpire since t s
  | .perstRelease t => Sys2Proof.Machine.execPerstRelease t s
  | .converterTrip g t => Sys2Proof.Machine.execConverterTrip g t s
  | .converterRestart g t => Sys2Proof.Machine.execConverterRestart g t s
  | .vinMeasure mv t => Sys2Proof.Machine.execVinMeasure mv t s
  | .warningWindowEnd t => Sys2Proof.Machine.execWarningWindowEnd t s
  | .supplyPinChange battery asserted t => Sys2Proof.Machine.execSupplyPinChange battery asserted t s
  | .vbakMeasure mv vinAbsent t => Sys2Proof.Machine.execVbakMeasure mv vinAbsent t s
  | .temperatureMeasure value t => Sys2Proof.Machine.execTemperatureMeasure value t s
  | .flashRefresh t => Sys2Proof.Machine.execFlashRefresh t s
  | .rawTransition g p level t => Sys2Proof.Machine.execRawTransition g p level t s
  | .externalDriveClear g p t => Sys2Proof.Machine.execExternalDriveClear g p t s
  | .reintWindowExpire l t => Sys2Proof.Machine.execReintWindowExpire l t s
  | .queueConfigSetTimeout t => Sys2Proof.Machine.execQueueConfigSetTimeout t s
  | .postedCreditReturn n t => Sys2Proof.Machine.execPostedCreditReturn n t s
  | .pcieLinkChange up speed width credit t => Sys2Proof.Machine.execPcieLinkChange up speed width credit t s
  | .rngHealthRecover => Sys2Proof.Machine.execRngHealthRecover s

end Sys2Proof.Machine
end

