-- ==== Sys2Proof/WellFormed.lean ====
section
/-! DEFINITION. Well-formed commands: operands within the ranges that the spec gives what they name. A command that is not
well-formed names nothing of the hardware; `exec` gives it a meaning all the same, and claims may ask for a well-formed one. -/

namespace Sys2Proof

/-- A Quill command: a queue, or the mailbox (16), words of 32 bits, and parameters that fit a packet (R387, R398). -/
def Cmd.wf (c : Cmd) : Bool :=
  decide (c.queue < 17) && decide (c.tag < 2 ^ 32) && decide (c.session < 2 ^ 32) && decide (c.params.length ≤ 65552)

/-- The execution of a task number (R71). -/
def Ctx.wf (x : Ctx) : Bool := decide (x.task < 64)

/-- A register's BAR0 offset: a word of the 4 MiB (R4, R22). -/
def registerOffset (off : Nat) : Bool := decide (off < 0x400000) && off % 4 == 0

/-- The end of a received PTP time, 48 bits of seconds, and of a stamp on the time scale, 64 bits, in units of 2^−16
ns (R323, R328). -/
def ptpTimeEnd : Nat := 2 ^ 48 * 1000000000 * 65536
def stampEnd : Nat := 2 ^ 64 * 1000000000 * 65536

/-- Every operand is in range. -/
def Instr.wf : Instr → Bool
  | .fabricUnitReceive _ _ payload _ _ => decide (8 ≤ payload.length) && decide (payload.length ≤ 256) && payload.length % 8 == 0
  | .ignoredWrite off => registerOffset off
  | .sysIgnAddrClear => true
  | .lowRegisterRead _ off => registerOffset off
  | .highRegisterRead _ off => registerOffset off
  | .storeRetire _ _ _ _ _ size _ _ => [1, 2, 4, 8, 64].contains size
  | .windowClose _ _ _ _ => true
  | .comparatorResult _ _ _ _ _ _ => true
  | .proofDue _ _ => true
  | .comparatorProof _ _ _ _ => true
  | .proofTimeout _ _ _ => true
  | .eccErrorUncorrectable _ _ => true
  | .laneFault _ _ _ => true
  | .watchdogExpire _ _ => true
  | .voteCommit task _ => decide (task < 64)
  | .censusSliceHash _ task slice _ _ => decide (task < 64) && decide (slice < 65536)
  | .censusRoundStart task _ => decide (task < 64)
  | .censusCompare task slice _ _ _ => decide (task < 64) && decide (slice < 65536)
  | .laneExcludedTimeout _ _ => true
  | .lanePowerCycleDone _ _ => true
  | .laneBootComplete _ _ _ => true
  | .laneTranslationComplete _ _ _ => true
  | .voteEnable _ => true
  | .precopyPassComplete _ _ => true
  | .stateTransferSeam _ _ => true
  | .finalDeltaLanded _ _ => true
  | .transferTimeout _ _ => true
  | .voteDisCapClear => true
  | .censusCapClear => true
  | .taskRelease task _ => decide (task < 64)
  | .taskFinish _ task _ => decide (task < 64)
  | .lateExecutionEnd _ task _ => decide (task < 64)
  | .timeAlarmFire task _ => decide (task < 64)
  | .modeChangeEffect _ => true
  | .timeFenceExpire queue tag _ => decide (queue < 17) && decide (tag < 2 ^ 32)
  | .fenceTimeout queue tag _ => decide (queue < 17) && decide (tag < 2 ^ 32)
  | .opNop x => x.wf
  | .opEnd x => x.wf
  | .opJmp x _ => x.wf
  | .opBrt x _ _ => x.wf
  | .opBrf x _ _ => x.wf
  | .opLoop x _ _ _ => x.wf
  | .opCall x _ => x.wf
  | .opRet x => x.wf
  | .opAssert x _ => x.wf
  | .opLdi x _ _ _ => x.wf
  | .opLdl x _ _ _ => x.wf
  | .opMov x _ _ => x.wf
  | .opLd x _ _ => x.wf
  | .opSt x _ _ => x.wf
  | .opLdx x _ _ _ => x.wf
  | .opStx x _ _ _ => x.wf
  | .opCmov x _ _ _ => x.wf
  | .opAdd x _ _ _ => x.wf
  | .opSub x _ _ _ => x.wf
  | .opMul x _ _ _ => x.wf
  | .opDiv x _ _ _ => x.wf
  | .opMod x _ _ _ => x.wf
  | .opNeg x _ _ => x.wf
  | .opAbs x _ _ => x.wf
  | .opAdds x _ _ _ => x.wf
  | .opSubs x _ _ _ => x.wf
  | .opMuls x _ _ _ => x.wf
  | .opNegs x _ _ => x.wf
  | .opAbss x _ _ => x.wf
  | .opMin x _ _ _ => x.wf
  | .opMax x _ _ _ => x.wf
  | .opAddi x _ _ _ => x.wf
  | .opSqrt x _ _ => x.wf
  | .opAnd x _ _ _ => x.wf
  | .opOr x _ _ _ => x.wf
  | .opXor x _ _ _ => x.wf
  | .opNot x _ _ => x.wf
  | .opShl x _ _ _ => x.wf
  | .opShr x _ _ _ => x.wf
  | .opRol x _ _ _ => x.wf
  | .opRor x _ _ _ => x.wf
  | .opShlv x _ _ _ => x.wf
  | .opShrv x _ _ _ => x.wf
  | .opBitget x _ _ _ => x.wf
  | .opBswap x _ _ => x.wf
  | .opEq x _ _ _ => x.wf
  | .opNe x _ _ _ => x.wf
  | .opLt x _ _ _ => x.wf
  | .opLe x _ _ _ => x.wf
  | .opGt x _ _ _ => x.wf
  | .opGe x _ _ _ => x.wf
  | .opIsnan x _ _ => x.wf
  | .opConv x _ _ _ => x.wf
  | .opConvs x _ _ _ => x.wf
  | .opTrunc x _ _ _ => x.wf
  | .opNow x _ => x.wf
  | .opDtime x _ => x.wf
  | .opGetf x _ _ => x.wf
  | .opClrf x _ => x.wf
  | .opFenceOut x => x.wf
  | .opTon x _ _ _ => x.wf
  | .opTof x _ _ _ => x.wf
  | .opTp x _ _ _ => x.wf
  | .opRtrig x _ _ _ => x.wf
  | .opFtrig x _ _ _ => x.wf
  | .opCtu x _ _ _ => x.wf
  | .opCtd x _ _ _ => x.wf
  | .opCtud x _ _ _ => x.wf
  | .opSr x _ _ _ => x.wf
  | .opRs x _ _ _ => x.wf
  | .opHyst x _ _ _ => x.wf
  | .opRamp x _ _ _ => x.wf
  | .opLimit x _ _ _ => x.wf
  | .opBlkrd x _ _ _ => x.wf
  | .opBlkrst x _ => x.wf
  | .folioStagingComplete _ _ _ _ _ => true
  | .seam _ => true
  | .carryComplete _ => true
  | .seamSearchTimeout _ => true
  | .seamVoid _ => true
  | .fieldLinkFrameTime _ => true
  | .logicToFieldFrame _ _ _ => true
  | .fieldToLogicFrame _ _ _ => true
  | .applyInstant _ => true
  | .shadowSetOpenTimeout _ => true
  | .shadowSetCompleteTimeout _ => true
  | .inputFilterExpire _ p _ => decide (p < 128)
  | .inputTickSample _ => true
  | .wettingPulseEnd _ p _ => decide (p < 128)
  | .validHoldoffExpire _ p _ => decide (p < 128)
  | .bankSupplyMeasure _ b volts _ => decide (b < 8) && decide (volts < 4096)
  | .bankWarnClear _ b _ => decide (b < 8)
  | .bankRestore _ b _ => decide (b < 8)
  | .bankValidResume _ b _ => decide (b < 8)
  | .testDue _ p _ => decide (p < 128)
  | .darkPulseEnd _ p _ _ => decide (p < 128)
  | .darkPulseRepeat _ p _ => decide (p < 128)
  | .probeEnd _ p _ => decide (p < 128)
  | .overloadLatch _ p _ => decide (p < 128)
  | .overloadRetry _ p _ _ => decide (p < 128)
  | .thermalShutdown _ p _ => decide (p < 128)
  | .openLoadDetect _ p _ _ => decide (p < 128)
  | .externalDriveDetect _ p _ _ => decide (p < 128)
  | .silenceTimeout _ _ => true
  | .haltReceived _ _ => true
  | .speedEdge _ _ => true
  | .stopRequestInput ch _ _ => decide (ch < 4)
  | .ssmEvaluation _ _ => true
  | .laneStopEvaluation _ _ _ => true
  | .permitVote _ => true
  | .sto1HeartbeatLoss _ => true
  | .ssmOscCheck _ _ => true
  | .ssmParityCheck _ _ => true
  | .ssmParamLock _ => true
  | .ssmLockTimeout _ => true
  | .frameIngress p _ _ => decide (p < 7)
  | .frameTransmitStart p _ => decide (p < 7)
  | .frameTransmitComplete p _ => decide (p < 7)
  | .linkDown p _ => decide (p < 7)
  | .linkUp p _ _ _ => decide (p < 7)
  | .fdbAgeExpire mac vid _ => decide (mac < 2 ^ 48) && decide (vid < 4096)
  | .gateEntryChange p _ => decide (p < 7)
  | .netSetTimeout _ => true
  | .mpFrameReceive _ _ => true
  | .telegramDelivery entry _ => decide (entry < 16384)
  | .periodBoundary _ => true
  | .publicationSend _ => true
  | .tgeRejCapClear => true
  | .folioIomisClear => true
  | .ptpSync p _ _ mac t1 _ _ _ => decide (p < 6) && decide (mac < stampEnd) && decide (t1 < ptpTimeEnd)
  | .ptpFollowUp p _ t1 _ _ => decide (p < 6) && decide (t1 < ptpTimeEnd)
  | .ptpDelayReq p _ _ mac _ => decide (p < 6) && decide (mac < stampEnd)
  | .ptpDelayResp p _ t4 _ _ => decide (p < 6) && decide (t4 < ptpTimeEnd)
  | .ptpPdelayReq p _ _ mac _ => decide (p < 6) && decide (mac < stampEnd)
  | .ptpPdelayResp p _ _ mac t2 t3 _ =>
    decide (p < 6) && decide (mac < stampEnd) && decide (t2 < ptpTimeEnd) && t3.all fun x => decide (x < ptpTimeEnd)
  | .ptpAnnounce p states _ => decide (p < 6) && states.length == 6
  | .ptpIgnoredMessage p _ => decide (p < 6)
  | .ptpMessageSend p _ _ => decide (p < 6)
  | .ptpMasterLost _ => true
  | .timeStepApply _ => true
  | .timeRestepTimeout _ => true
  | .aonSecondsLoad _ => true
  | .ppsOutput _ => true
  | .ppsInputEdge _ => true
  | .timePpsinClear => true
  | .inboundRead bar _ n _ => (bar == 0 || bar == 2 || bar == 4) && decide (1 ≤ n) && decide (n ≤ 4096)
  | .inboundWrite _ bytes _ => decide (1 ≤ bytes.length)
  | .inboundReadTimeout _ => true
  | .unsupportedRequest _ => true
  | .malformedTlp _ => true
  | .postedWriteError _ _ _ => true
  | .readAheadExpire _ _ => true
  | .outboundReadTimeout _ _ => true
  | .outboundCompletion _ _ _ _ => true
  | .pcieReset _ _ => true
  | .powerStateChange _ _ => true
  | .msixTableWrite off _ _ => decide (off < 1024) && off % 4 == 0
  | .brgEvtClear mask => decide (mask < 2 ^ 11)
  | .brgPwCapClear => true
  | .mailboxSubmit len _ => decide (len < 2 ^ 32)
  | .mboxM2hRead _ => true
  | .doorbell q _ _ _ => decide (q < 16)
  | .ringConfigWrite q which _ _ => decide (q < 16) && decide (which < 3)
  | .queueEnable q _ _ => decide (q < 16)
  | .queueDisable q _ _ => decide (q < 16)
  | .queueResume q _ => decide (q < 16)
  | .queueSkip q _ => decide (q < 16)
  | .qStatIrqClear q => decide (q < 16)
  | .qStatHaltEvtClear q => decide (q < 16)
  | .descriptorFetch q bytes _ => decide (q < 16) && bytes.length == 64
  | .burstStart _ => true
  | .burstDone q _ _ => decide (q < 16)
  | .flushReadReturn q _ _ => decide (q < 16)
  | .burstRetry q _ => decide (q < 16)
  | .requestLineAssert ln _ => decide (ln < 32)
  | .requestLineWithdraw ln _ => decide (ln < 32)
  | .requestIdleTimeout q _ => decide (q < 16)
  | .commandReplyWrite q _ => decide (q < 17)
  | .quillPacketReceive q _ _ _ => decide (q < 17)
  | .lanePacketCheck _ q tag _ _ => decide (q < 17) && decide (tag < 2 ^ 32)
  | .verdictReceive _ q tag _ _ => decide (q < 17) && decide (tag < 2 ^ 32)
  | .verdictTimeout q tag _ => decide (q < 17) && decide (tag < 2 ^ 32)
  | .laneReplyReceive _ q tag _ _ => decide (q < 17) && decide (tag < 2 ^ 32)
  | .sessionPendingTimeout _ _ => true
  | .sessionIdleTimeout _ _ => true
  | .tokenBucketRefill which _ => decide (which < 3)
  | .mpDatagramReceive _ _ _ _ bytes _ => decide (bytes.length ≤ 65535)
  | .mpReassemblyTimeout _ _ _ => true
  | .moduleInfo c _ => c.wf
  | .laneReintegrate c _ => c.wf
  | .store c _ => c.wf
  | .storeRecordComplete _ => true
  | .windowSet c _ => c.wf
  | .queueConfig c _ => c.wf
  | .queueConfigDiscard c _ => c.wf
  | .netConfig c _ => c.wf
  | .netConfigDiscard c _ => c.wf
  | .modeSetStop c _ => c.wf
  | .modeSetRun c _ => c.wf
  | .modeSetHold c _ => c.wf
  | .folioStage c _ => c.wf
  | .folioSwitch c _ => c.wf
  | .taskTrigger c _ => c.wf
  | .varRead c _ => c.wf
  | .varWrite c _ => c.wf
  | .forceSet c _ => c.wf
  | .forceClear c _ => c.wf
  | .tgeEntryAdd c _ => c.wf
  | .tgeEntryDel c _ => c.wf
  | .chConfig c _ => c.wf
  | .chConfigDiscard c _ => c.wf
  | .ssmParamLoad c _ _ => c.wf
  | .timeSet c _ => c.wf
  | .timeRestep c _ => c.wf
  | .rubricBegin c _ _ => c.wf
  | .rubricBlock c _ => c.wf
  | .rubricCommit c _ _ _ => c.wf
  | .rubricActivate c _ _ => c.wf
  | .rubricConfirm c _ => c.wf
  | .sessionOpen c _ => c.wf
  | .sessionOpenCredential c _ _ _ => c.wf
  | .sessionClose c _ => c.wf
  | .attest c _ => c.wf
  | .ownerEnrol c _ _ _ => c.wf
  | .ownerEnrolRevoke c _ => c.wf
  | .ownerEnrolRaise c _ => c.wf
  | .ownerLock c _ => c.wf
  | .ownerUnlock c _ => c.wf
  | .lifecycleSet c _ => c.wf
  | .duplexPair c _ => c.wf
  | .duplexUnpair c _ => c.wf
  | .duplexRehearse c _ => c.wf
  | .logRead c _ => c.wf
  | .diagSnapshotRegisters c _ => c.wf
  | .diagSnapshotSlice c _ => c.wf
  | .inkSnap c _ => c.wf
  | .inkCapture c _ => c.wf
  | .inkCaptureStop c _ => c.wf
  | .fenceQueue c _ => c.wf
  | .fenceCommit c _ => c.wf
  | .fenceTime c _ => c.wf
  | .abort c _ => c.wf
  | .claimOffer _ => true
  | .claimExchange _ _ _ => true
  | .cblLinkUp _ => true
  | .cblLinkDown _ => true
  | .partnerUnreachable _ => true
  | .helloSend _ => true
  | .hello ok r _ => (!ok || r.length == 80)
  | .token ok r _ => (!ok || r.length == 8)
  | .epochHead ok r _ => (!ok || r.length == 24)
  | .line ok r _ => (!ok || r.length == 72)
  | .term ok r _ => (!ok || r.length == 8)
  | .inputHead ok r _ => (!ok || r.length == 24)
  | .outputSig ok r _ => (!ok || r.length == 24)
  | .schedule ok r _ _ => (!ok || r.length == 24)
  | .epochFreeze _ => true
  | .copyBoundary _ => true
  | .shadowRelease task _ => decide (task < 64)
  | .fullSyncTimeout _ => true
  | .rehearsalSwap _ => true
  | .rehearsalCheck _ _ => true
  | .dupDivCapClear => true
  | .rngHealthFail => true
  | .measurementSubmit _ _ _ digest _ => digest.length == 48
  | .sysViolCapClear => true
  | .debugHaltRequest _ _ _ => true
  | .debugWrite _ _ _ _ size _ _ _ _ => decide (1 ≤ size)
  | .jtagInstruction _ _ => true
  | .activationReset _ => true
  | .elementStart _ _ _ _ => true
  | .trialExpire _ => true
  | .revertReset _ => true
  | .powerOn _ => true
  | .brownOut _ => true
  | .resetN _ => true
  | .eccCritical _ => true
  | .rpcParity _ => true
  | .clockCheck _ _ _ => true
  | .resetRelease _ _ => true
  | .domainSwitchOn code _ => decide (1 ≤ code) && decide (code ≤ 10)
  | .perstHoldExpire _ _ => true
  | .perstRelease _ => true
  | .converterTrip _ _ => true
  | .converterRestart _ _ => true
  | .vinMeasure _ _ => true
  | .warningWindowEnd _ => true
  | .supplyPinChange _ _ _ => true
  | .vbakMeasure _ _ _ => true
  | .temperatureMeasure _ _ => true
  | .flashRefresh _ => true
  | .rawTransition _ p _ _ => decide (p < 128)
  | .externalDriveClear _ p _ => decide (p < 128)
  | .reintWindowExpire _ _ => true
  | .queueConfigSetTimeout _ => true
  | .postedCreditReturn _ _ => true
  | .pcieLinkChange _ _ _ _ _ => true
  | .rngHealthRecover => true

end Sys2Proof
end

