-- ==== Sys2Proof/Safety.lean ====
section
/-! DEFINITION. What claims say of states: completion, the canonical form of the two sparse lists, and what a command
leaves unchanged. -/

namespace Sys2Proof.Machine

/-- The execution of `c` on `s` answers a next state, of which `P` holds. -/
def Completes (c : Instr) (s : State) (P : State → Prop) : Prop := ∃ v, exec c s = .next v ∧ P v

/-- The registers and module memory are in canonical form: addresses strictly rising, and no entry equal to what an
unlisted address reads as. -/
def State.Canon (s : State) : Prop := cellWf resetWord s.regs = true ∧ Memory.wf s.mem = true

/-- `t` differs from `s` in registers alone, and only in the registers at the offsets `offs`; every byte of memory and
every other part of the state is as in `s`. -/
def State.RegsOnly (offs : List Nat) (s t : State) : Prop :=
  t = { s with regs := t.regs } ∧ ∀ a, a ∉ offs → t.reg a = s.reg a

/-- Every register outside `offs` reads the same in `s` and in `t`. -/
def State.RegsKept (offs : List Nat) (s t : State) : Prop := ∀ a, a ∉ offs → t.reg a = s.reg a

/-- Every byte of module memory outside the log ring reads the same in `s` and in `t`. -/
def State.MemKept (s t : State) : Prop := ∀ a, (a < logBase ∨ logBase + 32 * logRing ≤ a) → t.mread a = s.mread a

/-- Every byte of module memory outside the next log record reads the same in `s` and in `t`. -/
def State.MemKeptButRecord (s t : State) : Prop :=
  ∀ a, (a < logBase + 32 * (s.quill.logCount % logRing) ∨ logBase + 32 * (s.quill.logCount % logRing) + 32 ≤ a) →
    t.mread a = s.mread a

/-- The word latched for a requester for the pair whose low register is at `off` (R25). -/
def State.latched (s : State) (r : Requester) (off : Nat) : Option Word :=
  (s.latches.find? fun x => x.requester == r && x.off == off).map (·.value)

/-- The stream that a unit with this tag belongs to, as block `b` keeps it (R15). -/
def streamOfTag (f : Fabric) (b : Block) (tag : DWord) : Stream :=
  f.stream b (tagSrc tag) (tagKind tag) (streamRecv (tagKind tag) (tagMask tag))

/-- (SEQ − expected) mod 2^32 (R15). -/
def seqAhead (expected seq : Nat) : Nat := (seq + 2 ^ 32 - expected) % 2 ^ 32

/-- The registers in which a change of lane `l`'s state is reported: LANE_STATE, VOTE_CTRL, LOG_HEAD and BRG_EVT. -/
def stateRegs (l : Lane) : List Nat := [R.LANE_STATE l, R.VOTE_CTRL, R.LOG_HEAD, R.BRG_EVT]

/-- `t` differs from `s` by a change of lane `l`'s state: that lane, what the vote unit holds, one log record, the
message to the host, the registers that report the change, those at `offs`, and what a change of power takes with it
in the fabric and in the read latches. -/
def State.LaneStep (l : Lane) (offs : List Nat) (s t : State) : Prop :=
  t = { s with
    regs := t.regs, mem := t.mem, brg := t.brg, quill := t.quill, vote := t.vote, fabric := t.fabric, latches := t.latches
    laneA := t.laneA, laneB := t.laneB, laneC := t.laneC } ∧
  (∀ k, k ≠ l → t.lane k = s.lane k) ∧ State.RegsKept (stateRegs l ++ offs) s t ∧ State.MemKeptButRecord s t

/-- The register in which a command clears write-1-to-clear fields (R19, R23). -/
def w1cRow : Instr → Option Nat
  | .voteDisCapClear => some R.VOTE_DIS_CAP
  | .censusCapClear => some R.CENSUS_CAP
  | .sysIgnAddrClear => some R.SYS_IGN_ADDR
  | .folioIomisClear => some R.FOLIO_IOMIS
  | .tgeRejCapClear => some R.TGE_REJ_CAP
  | .timePpsinClear => some R.TIME_PPSIN
  | .brgPwCapClear => some R.BRG_PW_CAP
  | .brgEvtClear _ => some R.BRG_EVT
  | .dupDivCapClear => some R.DUP_DIV_CAP
  | .sysViolCapClear => some R.SYS_VIOL_CAP
  | .qStatIrqClear q => some (R.Q_STAT q)
  | .qStatHaltEvtClear q => some (R.Q_STAT q)
  | _ => none

/-- The census hash that the vote holds of a lane for one comparison (R60). -/
def State.censusOf (s : State) (l : Lane) (task slice exec stamp : Nat) : Option CensusHash :=
  s.vote.census.find? fun h => h.lane == l && (h.task == task && h.slice == slice && h.exec == exec && h.stamp == stamp)

/-- The ductus numbers of a folio's tasks are those of R158, 0 to 63. -/
def Folio.tasksOk (f : Folio) : Prop := ∀ r ∈ f.tasks, r.task < 64

/-- A LANE-class command is checked now, for itself: at least two lanes vote, no fence waits in its queue, no verdicts
have accepted it before, and its session is open on its path, was not opened in BLANK and has at least level `lvl`
(R396, R397, R400, R401, R403). -/
def State.admits (u : State) (c : Cmd) (lvl : Nat) : Bool :=
  (u.preAccepted c).isNone && decide (2 ≤ u.voters.length) && !u.fenced c
    && match u.session c.session with
      | some x => x.opened && x.path == u.pathOf c.queue && !x.blank && decide (lvl ≤ x.level)
      | none => false

/-- The same for ABORT, which no fence holds (R403). -/
def State.admitsUnfenced (u : State) (c : Cmd) (lvl : Nat) : Bool :=
  (u.preAccepted c).isNone && decide (2 ≤ u.voters.length)
    && match u.session c.session with
      | some x => x.opened && x.path == u.pathOf c.queue && !x.blank && decide (lvl ≤ x.level)
      | none => false

/-- The same for a SCRIBE-class command. -/
def State.admitsScribe (u : State) (c : Cmd) (lvl : Nat) : Bool :=
  !u.fenced c
    && match u.session c.session with
      | some x => x.opened && x.path == u.pathOf c.queue && !x.blank && decide (lvl ≤ x.level)
      | none => false

/-- The state in which an admitted LANE-class command takes its effect: the session touched, the command counted, logged
and waiting for its reply (R396, R401). -/
def State.taken (u : State) (c : Cmd) (op : Nat) : State := (u.touch c.session).acceptCmd c op

/-- A reply to `c` with `status` is queued. -/
def State.repliedWith (v : State) (c : Cmd) (op status : Nat) : Prop :=
  ∃ r ∈ v.quill.replies, r.cmd = c ∧ r.opcode = op ∧ r.status = status

/-- The parameters of FOLIO_STAGE for block `n` with data `d` (R171, R405). -/
def stagePacket (n : Nat) (d : List Byte) : List Byte := leBytes 4 n ++ (leBytes 4 (crc32c d).toNat ++ (zeros 8 ++ d))

/-- `v` differs from `s` in channel `c.pos` of group `g`, which is `c`, and in the registers at `offs`. -/
def State.ChanPut (g : Grp) (c : FcChan) (offs : List Nat) (s v : State) : Prop :=
  v = { s with regs := v.regs, fio := v.fio } ∧ (v.fc g).chan c.pos = c ∧
  (∀ q, q ≠ c.pos → (v.fc g).chan q = (s.fc g).chan q) ∧ (∀ k, k ≠ g → v.fc k = s.fc k) ∧ State.RegsKept offs s v

/-- `v` differs from `s` in bank `b` of group `g` alone, which is `k`. -/
def State.BankPut (g : Grp) (b : Nat) (k : FcBank) (s v : State) : Prop :=
  v = { s with fio := v.fio } ∧ (v.fc g).bank b = k ∧ (∀ j, j ≠ b → (v.fc g).bank j = (s.fc g).bank j) ∧
  (v.fc g).chans = (s.fc g).chans ∧ ∀ h, h ≠ g → v.fc h = s.fc h

/-- A stage of position `p` has failed: its bank is cut and latched, and FIO_BANK_EVT names the stage (R239). -/
def State.stageFaulted (g : Grp) (p : Nat) (v : State) : Prop :=
  ((v.fc g).bank (bankOf p)).cut ∧ ((v.fc g).bank (bankOf p)).latched ∧ v.fget (F.FIO_BANK_EVT_CUT_CAUSE g (bankOf p)) = 2 ∧
  v.fget (F.FIO_BANK_EVT_STAGE_POS g (bankOf p)) = p % 16 ∧ v.fget (F.FIO_BANK_EVT_LATCHED g (bankOf p)) = 1 ∧
  ∀ q, bankOf q = bankOf p → ¬ (v.fc g).stageOn q

/-- A path's memory once an evaluation with the parameters `r` at speeds `va` and `vb` has read (R257 to R265). -/
def StopPath.readAll (p : StopPath) (x : SsmState) (r : List Byte) (va vb now : Nat) (stuck : Bool) : StopPath :=
  let p := p.read x r va vb now stuck
  { p with requested := p.request x now, offRan := false }

/-- What the SSM finds at an evaluation now, with `sto1` as its readback of STO1. -/
def State.ssmSees (s : State) (r : List Byte) (sto1 : Bool) : StopPath × StopView :=
  let va := sensorSpeed ssmPeriod (recPpm r false) s.ssm.path.since s.mono s.ssm.speedA
  let vb := sensorSpeed ssmPeriod (recPpm r true) s.ssm.path.since s.mono s.ssm.speedB
  let p := s.ssm.path.readAll s.ssm r va vb s.mono (sto1 && !s.heartbeat)
  (p, ⟨s.mono, va, vb, max va vb, s.ssmFault p r va vb, p.requested,
    s.ssm.speedA.silent p.since s.mono && s.ssm.speedB.silent p.since s.mono⟩)

/-- The descriptor with counter `c` of queue `q` has been written back with `status`: counted; in a host ring its 16 bytes
are posted; and DONE has passed it when it stood there and none beyond it had completed (R369, R373). -/
def State.WroteBack (q c status spent done : Nat) (s v : State) : Prop :=
  v.fget (F.Q_CNT_COMPLETIONS q) = (s.fget (F.Q_CNT_COMPLETIONS q) + 1) % 2 ^ 16 ∧
  (¬ isModule (s.descAddr q c) → v.brg.posted = some (s.descAddr q c + 48, writeBackBytes status spent done)) ∧
  ((s.que.queue q).completed = [] → s.qDone q = c → v.qDone q = (c + 1) % 65536 ∧ (v.que.queue q).completed = [])

/-- A reply OK to `c` with these parameters is queued; one whose series of numbers is used up is dropped (R396). -/
def State.repliedParams (v : State) (c : Cmd) (op : Nat) (params : List Byte) : Prop :=
  ∃ r ∈ v.quill.replies, r.cmd = c ∧ r.opcode = op ∧ r.status = 0 ∧ (r.dropped ∨ r.params = params)

/-- The command that packet `p` of queue `q` carries, with its parameters in clear `params` where it is protected
(R387). -/
def packetCmd (q : Nat) (p params : List Byte) : Cmd :=
  ⟨q, pkTag p, pkSession p, if pkSession p = 0 then slice p 32 (p.length - 48) else padTo (p.length - 48) params⟩

/-- The opcodes whose check counts or shows something of its own (R309, R395, R477). -/
def notedOps : List Nat := [0x0401, 0x0402, 0x0103, 0x0804, 0x0801, 0x0502, 0x0701, 0x0703]

/-- The reset sources of SYSTEM or POR reach that are commands of their own: instant and code (R481). -/
def resetRow : Instr → Option (Nat × Nat)
  | .powerOn t => some (t, srcPowerOn)
  | .brownOut t => some (t, srcBrownOut)
  | .resetN t => some (t, srcResetN)
  | .eccCritical t => some (t, srcEcc)
  | .rpcParity t => some (t, srcParity)
  | .clockCheck true _ t => some (t, srcClock)
  | _ => none

/-- The module has been reset by a source of its own, with no overlap in force before: it asserts software with `sw`, the
vote is off, no lane runs, no session is left and memory is empty (R480, R481, R484). -/
def State.softResetBy (v : State) (sw : Nat) : Prop :=
  (v.power.overlap.any fun o => o.asserted == [srcSoftware] && (o.swCause == sw && o.level == levelSystem)) ∧
  v.fget F.VOTE_CTRL_EN = 0 ∧ v.quill.sessions = [] ∧ v.mem = [] ∧ ∀ l, v.laneSt l = .off

/-- Command, instant, and the opcode and level of R404's table, of a LANE-class command. -/
def laneRow : Instr → Option (Cmd × (Nat × (Nat × Nat)))
  | .varRead c t => some (c, (t, (0x0301, 1)))
  | .varWrite c t => some (c, (t, (0x0302, 2)))
  | .forceSet c t => some (c, (t, (0x0303, 3)))
  | .forceClear c t => some (c, (t, (0x0304, 3)))
  | .laneReintegrate c t => some (c, (t, (0x0102, 3)))
  | .diagSnapshotRegisters c t => some (c, (t, (0x0A02, 1)))
  | .diagSnapshotSlice c t => some (c, (t, (0x0A02, 1)))
  | .duplexPair c t => some (c, (t, (0x0901, 3)))
  | .duplexUnpair c t => some (c, (t, (0x0901, 3)))
  | .duplexRehearse c t => some (c, (t, (0x0902, 3)))
  | .chConfig c t => some (c, (t, (0x0501, 3)))
  | .chConfigDiscard c t => some (c, (t, (0x0501, 3)))
  | .folioStage c t => some (c, (t, (0x0202, 3)))
  | .folioSwitch c t => some (c, (t, (0x0203, 3)))
  | .taskTrigger c t => some (c, (t, (0x0204, 2)))
  | .modeSetStop c t => some (c, (t, (0x0201, 2)))
  | .modeSetRun c t => some (c, (t, (0x0201, 2)))
  | .modeSetHold c t => some (c, (t, (0x0201, 2)))
  | .fenceQueue c t => some (c, (t, (0x0B01, 1)))
  | .fenceCommit c t => some (c, (t, (0x0B01, 1)))
  | .fenceTime c t => some (c, (t, (0x0B01, 1)))
  | .queueConfig c t => some (c, (t, (0x0105, 2)))
  | .queueConfigDiscard c t => some (c, (t, (0x0105, 2)))
  | .rubricBegin c _ t => some (c, (t, (0x0701, 4)))
  | .rubricBlock c t => some (c, (t, (0x0702, 4)))
  | .rubricCommit c _ _ t => some (c, (t, (0x0703, 4)))
  | .rubricActivate c _ t => some (c, (t, (0x0704, 4)))
  | .rubricConfirm c t => some (c, (t, (0x0705, 4)))
  | .sessionClose c t => some (c, (t, (0x0802, 1)))
  | .ssmParamLoad c _ t => some (c, (t, (0x0502, 3)))
  | .netConfig c t => some (c, (t, (0x0106, 3)))
  | .netConfigDiscard c t => some (c, (t, (0x0106, 3)))
  | .timeSet c t => some (c, (t, (0x0601, 3)))
  | .timeRestep c t => some (c, (t, (0x0602, 3)))
  | .ownerLock c t => some (c, (t, (0x0805, 4)))
  | .ownerUnlock c t => some (c, (t, (0x0805, 4)))
  | .lifecycleSet c t => some (c, (t, (0x0806, 4)))
  | _ => none

/-- Instruction `i` of the execution `e` of `x` writes `v` of type `ty` to frame register `d`, goes on to the word after
its `words` words, and changes nothing else. -/
def Sets (i : Instr) (x : Ctx) (s : State) (e : Exec) (words : Nat) (d : Reg) (ty : Ty) (v : DWord) : Prop :=
  exec i s = .next (s.setExec x.lane x.task ((e.set d ty v).skip words))

/-- Instruction `i` leaves the execution of `x` as `e'` and changes nothing else. -/
def GoesOn (i : Instr) (x : Ctx) (s : State) (e' : Exec) : Prop := exec i s = .next (s.setExec x.lane x.task e')

/-- Control at word `n`: the counter of a loop whose head it is starts again (R126, R127). -/
def Exec.at_ (e : Exec) (n : Nat) : Exec := { e with pc := n, loops := e.loops.filter (·.head != n) }

/-- The execution that a Stroke instruction belongs to. -/
def strokeCtx : Instr → Option Ctx
  | .opNop x => some x | .opEnd x => some x | .opJmp x _ => some x | .opBrt x _ _ => some x | .opBrf x _ _ => some x
  | .opLoop x _ _ _ => some x | .opCall x _ => some x | .opRet x => some x | .opAssert x _ => some x
  | .opLdi x _ _ _ => some x | .opLdl x _ _ _ => some x | .opMov x _ _ => some x | .opLd x _ _ => some x
  | .opSt x _ _ => some x | .opLdx x _ _ _ => some x | .opStx x _ _ _ => some x | .opCmov x _ _ _ => some x
  | .opAdd x _ _ _ => some x | .opSub x _ _ _ => some x | .opMul x _ _ _ => some x | .opDiv x _ _ _ => some x
  | .opMod x _ _ _ => some x | .opNeg x _ _ => some x | .opAbs x _ _ => some x | .opAdds x _ _ _ => some x
  | .opSubs x _ _ _ => some x | .opMuls x _ _ _ => some x | .opNegs x _ _ => some x | .opAbss x _ _ => some x
  | .opMin x _ _ _ => some x | .opMax x _ _ _ => some x | .opAddi x _ _ _ => some x | .opSqrt x _ _ => some x
  | .opAnd x _ _ _ => some x | .opOr x _ _ _ => some x | .opXor x _ _ _ => some x | .opNot x _ _ => some x
  | .opShl x _ _ _ => some x | .opShr x _ _ _ => some x | .opRol x _ _ _ => some x | .opRor x _ _ _ => some x
  | .opShlv x _ _ _ => some x | .opShrv x _ _ _ => some x | .opBitget x _ _ _ => some x | .opBswap x _ _ => some x
  | .opEq x _ _ _ => some x | .opNe x _ _ _ => some x | .opLt x _ _ _ => some x | .opLe x _ _ _ => some x
  | .opGt x _ _ _ => some x | .opGe x _ _ _ => some x | .opIsnan x _ _ => some x | .opConv x _ _ _ => some x
  | .opConvs x _ _ _ => some x | .opTrunc x _ _ _ => some x | .opNow x _ => some x | .opDtime x _ => some x
  | .opGetf x _ _ => some x | .opClrf x _ => some x | .opFenceOut x => some x | .opTon x _ _ _ => some x
  | .opTof x _ _ _ => some x | .opTp x _ _ _ => some x | .opRtrig x _ _ _ => some x | .opFtrig x _ _ _ => some x
  | .opCtu x _ _ _ => some x | .opCtd x _ _ _ => some x | .opCtud x _ _ _ => some x | .opSr x _ _ _ => some x
  | .opRs x _ _ _ => some x | .opHyst x _ _ _ => some x | .opRamp x _ _ _ => some x | .opLimit x _ _ _ => some x
  | .opBlkrd x _ _ _ => some x | .opBlkrst x _ => some x
  | _ => none

/-- Block instruction `i` evaluates the record of `inst` with outcome `o`: the record is written back, the outputs go to
the registers from `d`, and control goes on two words (R148). -/
def Evaluates (i : Instr) (x : Ctx) (s : State) (e : Exec) (f : Folio) (b : InstRec) (d : Reg)
    (o : List Byte × Outputs) : Prop :=
  exec i s = .next ((s.writeInst f x.lane b o.1).setExec x.lane x.task ((e.setOuts d o.2).skip 2))

end Sys2Proof.Machine
end

