-- ==== Sys2Proof/Certificates/Slice0/Obligations.lean ====
section
/-! DEFINITION. The statements for the provers. -/

open Sys2Proof Sys2Proof.Machine

/-- For every state whose queue begins with command c, a step is the execution of c on the state with the rest of
the queue; on an empty queue the step answers the same state (log entry 1: the block idles). -/
def Obligations.StepRunsTheFirstCommand : Prop :=
  (∀ (s : State) (c : Instr) (q : List Instr), s.pending = c :: q → step s = exec c { s with pending := q }) ∧
  (∀ s : State, s.pending = [] → step s = .next s)

/-- For a fabric unit at block b, with d = (SEQ - expected) mod 2^32 and the stream of R15. A reserved KIND is
counted as a tag error and changes nothing else. d from 2^31 is a duplicate: counted and discarded. d from 1 below
2^31 is a gap: counted, the object in progress is discarded and a unit with a processed GEN starts the next one; a
lane that counts one in a TGI_SET stream is excluded with cause MISSING. d = 0, or a stream of which nothing has been
received, with a processed GEN: the payload joins the object. A GEN that is neither the current one nor the one
before is counted as stale and its payload joins nothing; that SEQ goes on behind it and that the object in progress
is lost is the model's choice (log entry 70). The unit that ends an object hands it over: a block other than the vote
keeps it (the model's choice, log entry 7), a lane stages a TGI_SET object or is excluded with MISSING at a CRC error,
and the vote holds a voting lane's LANE_OUT object or CENSUS hash and discards any other. Outside the fabric state,
what the vote holds and the lanes nothing changes, apart from the clocks, which the command advances to t. -/
def Obligations.FabricUnitsAreSequenced : Prop :=
  (∀ (s : State) (b : Block) (tag : DWord) (payload : List Byte) (last : Bool) (t : Nat), ¬ kindKnown (tagKind tag) →
    Completes (.fabricUnitReceive b tag payload last t) s fun v =>
      let u := s.tick t
      v = { u with fabric := v.fabric } ∧ v.fabric.streams = u.fabric.streams ∧ v.fabric.delivered = u.fabric.delivered ∧
      v.fabric.gen = u.fabric.gen ∧
      v.fabric.count b = { u.fabric.count b with tagErrors := (u.fabric.count b).tagErrors + 1 }) ∧
  (∀ (s : State) (b : Block) (tag : DWord) (payload : List Byte) (last : Bool) (t e : Nat), kindKnown (tagKind tag) →
    (streamOfTag s.fabric b tag).expected = some e → 2 ^ 31 ≤ seqAhead e (tagSeq tag) →
    Completes (.fabricUnitReceive b tag payload last t) s fun v =>
      let u := s.tick t
      v = { u with fabric := v.fabric } ∧ v.fabric.streams = u.fabric.streams ∧ v.fabric.delivered = u.fabric.delivered ∧
      v.fabric.count b = { u.fabric.count b with duplicates := (u.fabric.count b).duplicates + 1 }) ∧
  (∀ (s : State) (b : Block) (tag : DWord) (payload : List Byte) (t e : Nat), kindKnown (tagKind tag) →
    (streamOfTag s.fabric b tag).expected = some e → 0 < seqAhead e (tagSeq tag) → seqAhead e (tagSeq tag) < 2 ^ 31 →
    genAccepted s.fabric.gen (tagGen tag) → (tagKind tag ≠ kindTgiSet ∨ blockLane b = none) →
    Completes (.fabricUnitReceive b tag payload false t) s fun v =>
      let u := s.tick t
      v = { u with fabric := v.fabric } ∧ v.fabric.delivered = u.fabric.delivered ∧
      v.fabric.count b = { u.fabric.count b with gaps := (u.fabric.count b).gaps + 1 } ∧
      (streamOfTag v.fabric b tag).obj = payload ∧ (streamOfTag v.fabric b tag).broken ∧
      (streamOfTag v.fabric b tag).expected = some ((tagSeq tag + 1) % 2 ^ 32)) ∧
  (∀ (s : State) (b : Block) (l : Lane) (tag : DWord) (payload : List Byte) (t e : Nat), tagKind tag = kindTgiSet →
    blockLane b = some l → s.excludable l → (streamOfTag s.fabric b tag).expected = some e →
    0 < seqAhead e (tagSeq tag) → seqAhead e (tagSeq tag) < 2 ^ 31 →
    Completes (.fabricUnitReceive b tag payload false t) s fun v =>
      (v.laneSt l = .excluded ∨ v.laneSt l = .failed) ∧ v.fget (F.LANE_STATE_CAUSE l) = laneCauseCode .missing ∧
      (v.fabric.count b).gaps = (s.fabric.count b).gaps + 1) ∧
  (∀ (s : State) (b : Block) (tag : DWord) (payload : List Byte) (t : Nat), kindKnown (tagKind tag) →
    (∀ e, (streamOfTag s.fabric b tag).expected = some e → seqAhead e (tagSeq tag) = 0) →
    genAccepted s.fabric.gen (tagGen tag) →
    Completes (.fabricUnitReceive b tag payload false t) s fun v =>
      let u := s.tick t
      v = { u with fabric := v.fabric } ∧ v.fabric.delivered = u.fabric.delivered ∧ v.fabric.count b = u.fabric.count b ∧
      (streamOfTag v.fabric b tag).obj = (streamOfTag s.fabric b tag).obj ++ payload ∧
      (streamOfTag v.fabric b tag).expected = some ((tagSeq tag + 1) % 2 ^ 32)) ∧
  (∀ (s : State) (b : Block) (tag : DWord) (payload : List Byte) (last : Bool) (t : Nat), kindKnown (tagKind tag) →
    (∀ e, (streamOfTag s.fabric b tag).expected = some e → seqAhead e (tagSeq tag) = 0) →
    ¬ genAccepted s.fabric.gen (tagGen tag) →
    Completes (.fabricUnitReceive b tag payload last t) s fun v =>
      let u := s.tick t
      v = { u with fabric := v.fabric } ∧ v.fabric.delivered = u.fabric.delivered ∧
      v.fabric.count b = { u.fabric.count b with stales := (u.fabric.count b).stales + 1 } ∧
      (streamOfTag v.fabric b tag).obj = [] ∧ (streamOfTag v.fabric b tag).broken ∧
      (streamOfTag v.fabric b tag).expected = some ((tagSeq tag + 1) % 2 ^ 32)) ∧
  (∀ (s : State) (b : Block) (tag : DWord) (payload : List Byte) (t : Nat), kindKnown (tagKind tag) →
    (∀ e, (streamOfTag s.fabric b tag).expected = some e → seqAhead e (tagSeq tag) = 0) →
    genAccepted s.fabric.gen (tagGen tag) → b ≠ .vote → (tagKind tag ≠ kindTgiSet ∨ blockLane b = none) →
    Completes (.fabricUnitReceive b tag payload true t) s fun v =>
      let u := s.tick t
      v = { u with fabric := v.fabric } ∧ (streamOfTag v.fabric b tag).obj = [] ∧
      (⟨b, tagKind tag, tagMask tag, tagGen tag, keptBytes b (tagKind tag) ((streamOfTag s.fabric b tag).obj ++ payload),
        (streamOfTag s.fabric b tag).broken⟩ : Delivered) ∈ v.fabric.delivered) ∧
  (∀ (s : State) (b : Block) (l : Lane) (tag : DWord) (payload : List Byte) (t : Nat), tagKind tag = kindTgiSet →
    blockLane b = some l →
    (∀ e, (streamOfTag s.fabric b tag).expected = some e → seqAhead e (tagSeq tag) = 0) →
    genAccepted s.fabric.gen (tagGen tag) →
    (∀ i d, (s.tick t).tgiOf ((streamOfTag s.fabric b tag).obj ++ payload) = some (some (i, d)) →
      Completes (.fabricUnitReceive b tag payload true t) s fun v =>
        v.lane l = (s.lane l).stageTgi i d ∧ (∀ k, k ≠ l → v.lane k = s.lane k) ∧ v.regs = s.regs ∧ v.vote = s.vote) ∧
    ((s.tick t).tgiOf ((streamOfTag s.fabric b tag).obj ++ payload) = none → s.excludable l →
      Completes (.fabricUnitReceive b tag payload true t) s fun v =>
        (v.laneSt l = .excluded ∨ v.laneSt l = .failed) ∧ v.fget (F.LANE_STATE_CAUSE l) = laneCauseCode .missing)) ∧
  (∀ (s : State) (l : Lane) (tag : DWord) (payload : List Byte) (t : Nat),
    (tagKind tag = kindLaneOut ∨ tagKind tag = kindCensus) → maskLane (tagMask tag) = some l →
    (∀ e, (streamOfTag s.fabric .vote tag).expected = some e → seqAhead e (tagSeq tag) = 0) →
    genAccepted s.fabric.gen (tagGen tag) →
    (¬ s.isVoting l → Completes (.fabricUnitReceive .vote tag payload true t) s fun v =>
      let u := s.tick t
      v = { u with fabric := v.fabric } ∧ (streamOfTag v.fabric .vote tag).obj = []) ∧
    (s.isVoting l → tagKind tag = kindLaneOut → Completes (.fabricUnitReceive .vote tag payload true t) s fun v =>
      let u := s.tick t
      let o := (streamOfTag s.fabric .vote tag).obj ++ payload
      let n := byteAt (o.drop (o.length - 72)) 3
      v = { u with fabric := v.fabric, vote := { u.vote with
        outs := u.vote.outs.filter (fun x => !(x.lane == l && x.task == n)) ++ [⟨l, n, tagGen tag, o⟩] } }) ∧
    (s.isVoting l → tagKind tag = kindCensus → Completes (.fabricUnitReceive .vote tag payload true t) s fun v =>
      let u := s.tick t
      let h := censusOfPayload l ((streamOfTag s.fabric .vote tag).obj ++ payload)
      v = { u with fabric := v.fabric, vote := { u.vote with census := v.vote.census } } ∧
      (u.roundOver h ∨ u.censusLate h → v.vote.census = u.vote.census) ∧
      (¬ u.roundOver h → ¬ u.censusLate h → h ∈ v.vote.census)))

/-- A write to a BAR0 offset that has no field of the classes of R19, or whose block cannot be reached, raises
SYS_IGN_COUNT by 1 (saturating at 0xFFFF_FFFF); with SYS_IGN_ADDR.VALID 0 it also stores the offset in SYS_IGN_ADDR
and sets VALID, and with VALID 1 it leaves SYS_IGN_ADDR. No other register, no memory byte and no other state
changes. A write to a register with such a field changes nothing by this command. A write of 1 to VALID, in a block
that can be reached, clears VALID, and an ignored write after it is captured; in a block that cannot be reached it is
itself an ignored write, as is every other command that clears a write-1-to-clear field (w1cRow names the register). -/
def Obligations.IgnoredWritesAreCountedAndCaptured : Prop :=
  (∀ (s : State) (off : Nat), off < 2 ^ 22 → ¬ (writable off ∧ s.reachable off) → ¬ s.flag F.SYS_IGN_ADDR_VALID →
    Completes (.ignoredWrite off) s fun v =>
      State.RegsOnly [R.SYS_IGN_COUNT, R.SYS_IGN_ADDR] s v ∧
      v.fget F.SYS_IGN_COUNT_COUNT = min (s.fget F.SYS_IGN_COUNT_COUNT + 1) 0xFFFFFFFF ∧
      v.fget F.SYS_IGN_ADDR_OFFSET = off ∧ v.flag F.SYS_IGN_ADDR_VALID) ∧
  (∀ (s : State) (off : Nat), ¬ (writable off ∧ s.reachable off) → s.flag F.SYS_IGN_ADDR_VALID →
    Completes (.ignoredWrite off) s fun v =>
      State.RegsOnly [R.SYS_IGN_COUNT] s v ∧
      v.fget F.SYS_IGN_COUNT_COUNT = min (s.fget F.SYS_IGN_COUNT_COUNT + 1) 0xFFFFFFFF) ∧
  (∀ (s : State) (off : Nat), writable off → s.reachable off → exec (.ignoredWrite off) s = .next s) ∧
  (∀ s : State, ¬ s.reachable R.SYS_IGN_ADDR → exec .sysIgnAddrClear s = exec (.ignoredWrite R.SYS_IGN_ADDR) s) ∧
  (∀ s : State, s.reachable R.SYS_IGN_ADDR → Completes .sysIgnAddrClear s fun v =>
      State.RegsOnly [R.SYS_IGN_ADDR] s v ∧ ¬ v.flag F.SYS_IGN_ADDR_VALID ∧
      v.fget F.SYS_IGN_ADDR_OFFSET = s.fget F.SYS_IGN_ADDR_OFFSET ∧
      ∀ off, off < 2 ^ 22 → ¬ (writable off ∧ s.reachable off) → Completes (.ignoredWrite off) v fun w =>
        w.flag F.SYS_IGN_ADDR_VALID ∧ w.fget F.SYS_IGN_ADDR_OFFSET = off) ∧
  (∀ (i : Instr) (s : State) (off : Nat), w1cRow i = some off → i.wf → ¬ s.reachable off →
    exec i s = exec (.ignoredWrite off) s)

/-- A read of the low register of a 64-bit pair returns it and fills the requester's latch of that pair with the
current high register; the latches of other requesters and of other pairs stay (a read of TIME_SEC_LO fills the
latch of TIME_NS too). A read of a register that is no low register of a pair leaves every latch. The next read of
the high register by that requester returns the latched value and empties the latch; with an empty latch it returns
the current value. A high register that cannot be reached reads 0 and keeps the latch. No register, no memory byte and
no other state changes. -/
def Obligations.SixtyFourBitPairsReadConsistently : Prop :=
  (∀ (s : State) (r : Requester) (off : Nat), pairLow off → Completes (.lowRegisterRead r off) s fun v =>
      v = { s with readOut := s.readWord off, latches := v.latches } ∧ v.latched r off = some (s.readWord (off + 4)) ∧
      ∀ r' o', (r', o') ≠ (r, off) → ¬ (off = R.TIME_SEC_LO ∧ r' = r ∧ o' = off + 4) → v.latched r' o' = s.latched r' o') ∧
  (∀ (s : State) (r : Requester) (off : Nat), ¬ pairLow off →
    exec (.lowRegisterRead r off) s = .next { s with readOut := s.readWord off }) ∧
  (∀ (s : State) (r : Requester) (off : Nat) (w : Word), s.latched r off = some w → s.reachable (off + 4) →
    Completes (.highRegisterRead r (off + 4)) s fun v =>
      v = { s with readOut := w, latches := v.latches } ∧ v.latched r off = none ∧
      ∀ r' o', (r', o') ≠ (r, off) → v.latched r' o' = s.latched r' o') ∧
  (∀ (s : State) (r : Requester) (off : Nat), s.latched r off = none →
    exec (.highRegisterRead r (off + 4)) s = .next { s with readOut := s.readWord (off + 4) }) ∧
  (∀ (s : State) (r : Requester) (off : Nat), ¬ s.reachable off →
    exec (.highRegisterRead r off) s = .next { s with readOut := 0 })

/-- For every register value S and input word w the update is ((S << 1) mod 2^64) XOR (0x1B if bit 63 of S is 1,
else 0) XOR w; and a window close in a lane whose cores run leaves the core's register, at the opening of the next
window, at 0xFFFF_FFFF_FFFF_FFFF. -/
def Obligations.SignatureRegisterFollowsThePolynomial : Prop :=
  (∀ S w : DWord, (sigStep S w).toNat =
    Nat.xor (Nat.xor (S.toNat * 2 % 2 ^ 64) (if S.toNat / 2 ^ 63 = 1 then 0x1B else 0)) w.toNat) ∧
  (∀ (s : State) (l : Lane) (e : Ep) (c : Core) (branches : List DWord), s.coresRun l →
    Completes (.windowClose l e c branches) s fun v =>
      (((v.lane l).pair e).core c).sig = BitVec.ofNat 64 0xFFFFFFFFFFFFFFFF)

/-- In a lane whose cores run, with fewer than 32 stores in the window. A retired store of a core that is not held up
feeds the type word and target of each taken branch since the last event, then the address, the data words (eight for
a 64-byte store, else one, zero-extended from the size) and the type word 0x01 with SIZE and ATTR; the main core's
store is appended to the egress buffer with its window where the lane's egress is open, the checker's is not. With 64
entries held, the main core stalls: the pair's stall counter rises by 1, saturating, and nothing retires; nor does the
checker's store at the same point. A 33rd store waits for the window's close. A window close feeds the close word with
the window number's low 32 bits; the signature waits for the comparator, the stores count from 0 and the window number
advances. With a proof armed, the first window that the main core closes is the proof's. In a lane whose cores do not
run nothing retires and nothing closes. The other core, the other pair and the other lanes stay; no other register and
no memory byte changes. -/
def Obligations.RetiredEventsFeedTheSignature : Prop :=
  (∀ (s : State) (l : Lane) (e : Ep) (c : Core) (branches : List DWord) (addr : DWord) (size : Nat) (attr : Byte)
      (data : List DWord), s.coresRun l → (((s.lane l).pair e).core c).stores < 32 →
      (c = .main → s.egressOpen l → ((s.lane l).pair e).egress.length < 64) →
      (c = .checker → ¬ (((s.lane l).pair e).stalled ∧ ((s.lane l).pair e).checker.caughtUp ((s.lane l).pair e).main)) →
    Completes (.storeRetire l e c branches addr size attr data) s fun v =>
      let p := (s.lane l).pair e
      let q := (v.lane l).pair e
      v = s.setLane l ((s.lane l).setPair e q) ∧
      (q.core c).sig = sigFeed (p.core c).sig ((branches.map fun b => [(0x02 : DWord), b]).flatten ++
        addr :: (storeData size data ++ [BitVec.ofNat 64 (1 + size % 256 * 256 + attr.toNat * 65536)])) ∧
      (q.core c).window = (p.core c).window ∧ (q.core c).closed = (p.core c).closed ∧
      (q.core c).stores = (p.core c).stores + 1 ∧
      q.core (if c = .main then .checker else .main) = p.core (if c = .main then .checker else .main) ∧
      q.egress = p.egress ++ (if c = .main ∧ s.egressOpen l then [⟨(p.core c).window, addr, storeData size data⟩] else [])) ∧
  (∀ (size : Nat) (d : DWord), size ≤ 8 → storeData size [d] = [BitVec.ofNat 64 (d.toNat % 2 ^ (8 * size))]) ∧
  (∀ (s : State) (l : Lane) (e : Ep) (branches : List DWord) (addr : DWord) (size : Nat) (attr : Byte)
      (data : List DWord), s.coresRun l → s.egressOpen l → ((s.lane l).pair e).main.stores < 32 →
      64 ≤ ((s.lane l).pair e).egress.length →
    Completes (.storeRetire l e .main branches addr size attr data) s fun v =>
      v = { s.setLane l ((s.lane l).setPair e { (s.lane l).pair e with stalled := true }) with regs := v.regs } ∧
      State.RegsKept [(stallField l e).off] s v ∧
      v.fget (stallField l e) = min (s.fget (stallField l e) + 1) 0xFFFFFFFF) ∧
  (∀ (s : State) (l : Lane) (e : Ep) (c : Core) (branches : List DWord) (addr : DWord) (size : Nat) (attr : Byte)
      (data : List DWord), ¬ s.coresRun l ∨ 32 ≤ (((s.lane l).pair e).core c).stores ∨
      (c = .checker ∧ ((s.lane l).pair e).stalled ∧ ((s.lane l).pair e).checker.caughtUp ((s.lane l).pair e).main) →
    exec (.storeRetire l e c branches addr size attr data) s = .next s) ∧
  (∀ (s : State) (l : Lane) (e : Ep) (c : Core) (branches : List DWord), s.coresRun l →
    Completes (.windowClose l e c branches) s fun v =>
      let p := (s.lane l).pair e
      let q := (v.lane l).pair e
      v = s.setLane l ((s.lane l).setPair e q) ∧ q.egress = p.egress ∧
      (q.core c).window = (p.core c).window + 1 ∧ (q.core c).stores = 0 ∧
      (q.core c).closed = (p.core c).closed ++ [((p.core c).window, sigFeed (p.core c).sig
        ((branches.map fun b => [(0x02 : DWord), b]).flatten ++ [BitVec.ofNat 64 (3 + (p.core c).window % 2 ^ 32 * 2 ^ 32)]))] ∧
      q.proofWindow = (if c = .main ∧ p.armed ∧ p.proofWindow = none then some p.main.window else p.proofWindow) ∧
      q.core (if c = .main then .checker else .main) = p.core (if c = .main then .checker else .main)) ∧
  (∀ (s : State) (l : Lane) (e : Ep) (c : Core) (branches : List DWord), ¬ s.coresRun l →
    exec (.windowClose l e c branches) s = .next s)

/-- With a window closed by both cores (numbers w and the oldest signatures m and k), and a comparator fault that
flips rails. Rails 0b01: the leading entries of windows up to w are released in order and the others stay; no
register and no memory byte changes. Rails 0b10 or an invalid code, for a lane that can be excluded: no entry of
window w or later stays in the pair, no further entry is released, the lane is excluded or, with the module failing,
FAILED, and CAUSE is SIG_MAIN, SIG_CHECKER or SIG_UNRESOLVED by the local indications for a mismatch, COMPARATOR for
an invalid code. -/
def Obligations.ComparatorGatesTheEgressBuffer : Prop :=
  (∀ (s : State) (l : Lane) (e : Ep) (fault : BitVec 2) (ml cl : Bool) (t w k' : Nat) (m k : DWord)
      (ms ks : List (Nat × DWord)),
    ((s.lane l).pair e).main.closed = (w, m) :: ms → ((s.lane l).pair e).checker.closed = (k', k) :: ks →
    rails (m == k) fault = 0b01 →
    Completes (.comparatorResult l e fault ml cl t) s fun v =>
      let p := (s.lane l).pair e
      let q := (v.lane l).pair e
      v = (s.tick t).setLane l ((s.lane l).setPair e q) ∧ q.main.closed = ms ∧ q.checker.closed = ks ∧
      q.egress = p.egress.dropWhile (fun x => decide (x.window ≤ w)) ∧
      q.released = p.released + (p.egress.takeWhile fun x => decide (x.window ≤ w)).length) ∧
  (∀ (s : State) (l : Lane) (e : Ep) (fault : BitVec 2) (ml cl : Bool) (t w k' : Nat) (m k : DWord)
      (ms ks : List (Nat × DWord)),
    ((s.lane l).pair e).main.closed = (w, m) :: ms → ((s.lane l).pair e).checker.closed = (k', k) :: ks →
    rails (m == k) fault ≠ 0b01 → s.excludable l →
    Completes (.comparatorResult l e fault ml cl t) s fun v =>
      (∀ x ∈ ((v.lane l).pair e).egress, x.window < w) ∧ ((v.lane l).pair e).released = ((s.lane l).pair e).released ∧
      (v.laneSt l = .excluded ∨ v.laneSt l = .failed) ∧
      v.fget (F.LANE_STATE_CAUSE l) =
        (if rails (m == k) fault ≠ 0b10 then 5 else if ml ∧ ¬ cl then 1 else if cl ∧ ¬ ml then 2 else 3)) ∧
  (∀ (same : Bool) (fault : BitVec 2), rails same fault = (if same then 0b01 else 0b10) ^^^ fault)

/-- PROOF_DUE in a lane whose cores run, 10 ms after the last one, arms the proof of a pair and changes nothing else;
sooner, or in a lane whose cores do not run, it changes nothing. With a proof armed and the true signatures of its
window compared: n advances by 1 modulo 128 and the proof is disarmed; when the comparator reports mismatch for the
checker signature XORed with pattern n (1 << n below 64, the complement of 1 << (n - 64) from 64), the pair's
passed-proof counter rises by 1 modulo 2^16 and nothing else in the registers changes; otherwise the lane, if it can be
excluded, has CAUSE PROOF and is EXCLUDED or FAILED. No proof within 11 ms of the last one has the same outcome. -/
def Obligations.ComparatorProofsRunAndAreMissed : Prop :=
  (∀ (s : State) (l : Lane) (e : Ep), s.coresRun l → ((s.lane l).pair e).dueAt + 10000000 ≤ s.mono →
    Completes (.proofDue l e) s fun v =>
      v = s.setLane l ((s.lane l).setPair e { (s.lane l).pair e with
        armed := true, dueAt := ((s.lane l).pair e).dueAt + 10000000, proofWindow := none, proofSigs := none })) ∧
  (∀ (s : State) (l : Lane) (e : Ep), ¬ s.coresRun l ∨ s.mono < ((s.lane l).pair e).dueAt + 10000000 →
    exec (.proofDue l e) s = .next s) ∧
  (∀ (s : State) (l : Lane) (e : Ep) (fault : BitVec 2) (t : Nat) (m k : DWord), ((s.lane l).pair e).armed →
    ((s.lane l).pair e).proofSigs = some (m, k) →
    rails (m == k ^^^ proofPattern ((s.lane l).pair e).proofN) fault = 0b10 →
    Completes (.comparatorProof l e fault t) s fun v =>
      let q := (v.lane l).pair e
      v = { (s.tick t).setLane l ((s.lane l).setPair e q) with regs := v.regs } ∧
      q = { (s.lane l).pair e with
        armed := false, proofN := (((s.lane l).pair e).proofN + 1) % 128, proofAt := v.mono, proofWindow := none, proofSigs := none } ∧
      State.RegsKept [(passField l e).off] s v ∧ v.fget (passField l e) = (s.fget (passField l e) + 1) % 2 ^ 16) ∧
  (∀ (s : State) (l : Lane) (e : Ep) (fault : BitVec 2) (t : Nat) (m k : DWord), ((s.lane l).pair e).armed →
    ((s.lane l).pair e).proofSigs = some (m, k) →
    rails (m == k ^^^ proofPattern ((s.lane l).pair e).proofN) fault ≠ 0b10 → s.excludable l →
    Completes (.comparatorProof l e fault t) s fun v =>
      (v.laneSt l = .excluded ∨ v.laneSt l = .failed) ∧ v.fget (F.LANE_STATE_CAUSE l) = 4 ∧
      ((v.lane l).pair e).proofN = (((s.lane l).pair e).proofN + 1) % 128) ∧
  (∀ (s : State) (l : Lane) (e : Ep) (t : Nat), s.excludable l →
    ((s.lane l).pair e).proofAt + 11000000 ≤ (s.tick t).mono →
    Completes (.proofTimeout l e t) s fun v =>
      (v.laneSt l = .excluded ∨ v.laneSt l = .failed) ∧ v.fget (F.LANE_STATE_CAUSE l) = 4) ∧
  (∀ n : Nat, n < 64 → proofPattern n = BitVec.ofNat 64 (2 ^ n)) ∧
  (∀ n : Nat, 64 ≤ n → n < 128 → proofPattern n = ~~~ BitVec.ofNat 64 (2 ^ (n - 64)))

/-- A lane fault signalled by a lane, an uncorrectable ECC error and a watchdog expiry of a voting lane. With three
lanes voting and the module not failed: the lane is EXCLUDED with its cause, LATENT and PROBATION 0, the vote holds
no object and no census hash of it, VOTING names the other two, KIND is 2oo2 while the vote is enabled, and the
module has not failed; for the first two no register but those of the lane's state, of VOTE_EXCL and of the event to
the host changes, and of memory only the log record. With two lanes voting and the vote enabled: EN is 0, FAILED is
1, VOTE_FAIL is FEWER_THAN_TWO with task 0 outside a commit, the failure wire is asserted, the heartbeat stops, and
every lane is FAILED; at a commit that is due it names that commit's task (which commit that is, log entry 72). -/
def Obligations.ALaneFaultLeavesTwoLanesOrFailsTheModule : Prop :=
  (∀ (s : State) (l : Lane) (cause : LaneCause) (t : Nat), s.isVoting l → s.voters.length = 3 →
      ¬ s.flag F.VOTE_CTRL_FAILED →
    Completes (.laneFault l cause t) s fun v => let u := s.tick t
      v.laneSt l = .excluded ∧ v.fget (F.LANE_STATE_CAUSE l) = laneCauseCode cause ∧ ¬ v.flag (F.LANE_STATE_LATENT l) ∧
      ¬ v.flag (F.LANE_STATE_PROBATION l) ∧ (∀ o ∈ v.vote.outs, o.lane ≠ l) ∧ (∀ h ∈ v.vote.census, h.lane ≠ l) ∧
      v.voters = allLanes.filter (· != l) ∧ v.fget F.VOTE_CTRL_VOTING = 7 - laneBit l ∧ ¬ v.flag F.VOTE_CTRL_FAILED ∧
      (s.flag F.VOTE_CTRL_EN → v.fget F.VOTE_CTRL_KIND = 1) ∧
      State.LaneStep l [(exclField l 7 0).off] u v) ∧
  (∀ (s : State) (l : Lane) (t : Nat), s.isVoting l → s.voters.length = 3 → ¬ s.flag F.VOTE_CTRL_FAILED →
    Completes (.eccErrorUncorrectable l t) s fun v => let u := s.tick t
      v.laneSt l = .excluded ∧ v.fget (F.LANE_STATE_CAUSE l) = 0xA ∧ v.voters = allLanes.filter (· != l) ∧
      ¬ v.flag F.VOTE_CTRL_FAILED ∧ v.fget (exclField l 23 16) = min (s.fget (exclField l 23 16) + 1) 255 ∧
      State.LaneStep l [(exclField l 7 0).off] u v) ∧
  (∀ (s : State) (l : Lane) (t : Nat), s.isVoting l → s.voters.length = 3 → ¬ s.flag F.VOTE_CTRL_FAILED →
      s.power.overlap = none → s.powered (pdLane l) → ¬ (s.lane l).halted →
    Completes (.watchdogExpire l t) s fun v =>
      v.laneSt l = .excluded ∧ v.fget (F.LANE_STATE_CAUSE l) = 9 ∧ v.voters = allLanes.filter (· != l) ∧
      ¬ v.flag F.VOTE_CTRL_FAILED ∧ ((v.lane l).ep0.main, (v.lane l).ep1.main) = (coreReset, coreReset)) ∧
  (∀ (s : State) (l : Lane) (cause : LaneCause) (t : Nat), s.isVoting l → s.voters.length = 2 →
      s.flag F.VOTE_CTRL_EN → ¬ s.flag F.VOTE_CTRL_FAILED → (s.tick t).votingTask < 64 →
    Completes (.laneFault l cause t) s fun v =>
      ¬ v.flag F.VOTE_CTRL_EN ∧ v.flag F.VOTE_CTRL_FAILED ∧ v.fget F.VOTE_FAIL_CAUSE = 3 ∧
      v.fget F.VOTE_FAIL_TASK = (s.tick t).votingTask ∧
      v.vote.failWire ∧ ¬ v.flag F.STO1_STAT_HEARTBEAT ∧ v.voters = [] ∧ ∀ k, v.laneSt k = .failed) ∧
  (∀ (s : State), s.dueCommits = [] → s.vote.lastCommit = none → s.votingTask = 0) ∧
  (∀ (s : State) (c : Nat) (r : TaskRec), s.dueCommits = [(c, r)] → s.votingTask = r.task)

/-- The vote of one commit over three lanes' objects (in any order) of which all but those of lane x hold the same
declared bytes, each decoded under the folio of its generation: the vote does not fail; every declared byte is voted
with the value of the agreeing lanes, and nothing else is voted; the live lanes at the end are all three, or all but x.
Over the objects of two lanes that differ in a declared byte, the vote fails. VOTE_COMMIT at or after a due commit
instant that is the next to be voted, in a module that has not failed, not in HOLD and not before the RUN entry, runs
this vote for the commit; in HOLD the commit is skipped: the task's due instant and its objects at the vote are
dropped. A commit that is not the next one waits. -/
def Obligations.TheVoteMasksOneFaultyLane : Prop :=
  (∀ (s : State) (f : Folio) (task : Nat) (objs : List OutObj) (x : Lane),
    (objs.map (·.lane)).Perm [.a, .b, .c] →
    (∀ o ∈ objs, ∀ o' ∈ objs, o.lane ≠ x → o'.lane ≠ x → ∀ y ∈ f.voteLines task, ∀ i < 64, f.declared task y.1 (64 * y.2 + i) →
      (o.decoded (s.folioOf f o.gen) task y).getD i 0 = (o'.decoded (s.folioOf f o'.gen) task y).getD i 0) →
    let v := s.vote3 f task objs
    v.failed = false ∧ (v.live.Perm [.a, .b, .c] ∨ v.live.Perm ([.a, .b, .c].filter (· != x))) ∧
    (∀ o ∈ objs, o.lane ≠ x → ∀ y ∈ f.voteLines task, ∀ i < 64, f.declared task y.1 (64 * y.2 + i) →
      (segKey y.1 (64 * y.2 + i), (o.decoded (s.folioOf f o.gen) task y).getD i 0) ∈ v.out) ∧
    (∀ z ∈ v.out, ∀ o ∈ objs, o.lane ≠ x → ∃ y ∈ f.voteLines task, ∃ i < 64, f.declared task y.1 (64 * y.2 + i) ∧
      z = (segKey y.1 (64 * y.2 + i), (o.decoded (s.folioOf f o.gen) task y).getD i 0))) ∧
  (∀ (s : State) (f : Folio) (task : Nat) (o o' : OutObj) (y : Nat × Nat) (i : Nat), o.lane ≠ o'.lane →
    y ∈ f.voteLines task → i < 64 → f.declared task y.1 (64 * y.2 + i) →
    (o.decoded (s.folioOf f o.gen) task y).getD i 0 ≠ (o'.decoded (s.folioOf f o'.gen) task y).getD i 0 →
    (s.vote3 f task [o, o']).failed = true) ∧
  (∀ (s : State) (f : Folio) (r : TaskRec) (task t c : Nat) (skipped : Bool), s.folio.running = some f →
    s.taskRec task = some r → (s.book task).due = some (c, skipped) → c ≤ (s.tick t).now → ¬ s.flag F.VOTE_CTRL_FAILED →
    s.modeNow ≠ .hold → s.ductus.runEntry.getD 0 ≤ c → (s.tick t).nextCommit r c →
    exec (.voteCommit task t) s = .next ((s.tick t).commitTask f r c skipped)) ∧
  (∀ (s : State) (f : Folio) (r : TaskRec) (task t c : Nat) (skipped : Bool), s.folio.running = some f →
    s.taskRec task = some r → (s.book task).due = some (c, skipped) → c ≤ (s.tick t).now → ¬ s.flag F.VOTE_CTRL_FAILED →
    s.modeNow = .hold → (s.tick t).nextCommit r c → Completes (.voteCommit task t) s fun v =>
      (v.book task).due = none ∧ ∀ o ∈ v.vote.outs, o.task ≠ task) ∧
  (∀ (s : State) (r : TaskRec) (task t c : Nat) (skipped : Bool), s.taskRec task = some r → (s.book task).due = some (c, skipped) →
    ¬ (s.tick t).nextCommit r c → exec (.voteCommit task t) s = .next (s.tick t))

/-- CENSUS_SLICE_HASH of a voting lane for the slice that is next of a task of the running folio (log entries 23 and 75
say which slice that is and when it may run). For a cyclic task in a quiet state whose execution pair runs no task the
vote holds a hash with the execution count, the last release as STAMP and the signature of R58 over the slice's
variables, the slice after it is next, and the lane's memory stays; for an event task in its round STAMP is the second
of the round; abandoned, the vote holds hash 0 and the lane stays. Outside the fabric, the hashes held and that lane
nothing changes. A lane that does not vote, another slice than the next one, or a task that is not quiet sends nothing.
CENSUS_ROUND_START of an event task at a whole second: every voting lane's round starts at slice 0 with that second, and
hashes of earlier rounds of the task are dropped; at another instant, or of a cyclic task, nothing changes but the
clocks. CENSUS_COMPARE with complete hashes of three voting lanes: all equal, CENSUS_LATENT stays; one odd lane without
PROBATION, its counter rises by 1 (saturating), its LATENT is 1, no other lane's LATENT changes and no lane leaves the
vote; an odd lane with PROBATION is EXCLUDED with cause TRANSFER; all different, or a difference between two voting
lanes, NO_MAJ rises by 1 and no LATENT changes. -/
def Obligations.CensusHashesAreSentAndCompared : Prop :=
  (∀ (s : State) (f : Folio) (r : TaskRec) (l : Lane) (task slice t : Nat), s.folio.running = some f →
      s.taskRec task = some r → ¬ r.event → s.isVoting l → s.nextSlice l r = some slice → s.sliceQuiet l r → s.pairIdle l r.ep →
    Completes (.censusSliceHash l task slice false t) s fun v =>
      let u := s.tick t
      v = { u.setLane l (v.lane l) with fabric := v.fabric, vote := { u.vote with census := v.vote.census } } ∧
      (∃ h ∈ v.vote.census, h.lane = l ∧ h.task = r.task ∧ h.slice = slice ∧ ¬ h.abandoned ∧ ¬ h.round ∧
        h.exec = (s.book r.task).execs % 2 ^ 32 ∧ h.stamp = (s.book r.task).lastRelease.getD 0 ∧
        h.hash = censusHash l f (s.lane l).mem ((f.slices r.task).getD slice [])) ∧
      v.lane l = { s.lane l with sliceNext := (v.lane l).sliceNext, sliceDone := (v.lane l).sliceDone } ∧
      assoc (v.lane l).sliceNext r.task = some ((slice + 1) % s.sliceCount r.task) ∧
      v.slicesDone l r.task = s.slicesDone l r.task + 1) ∧
  (∀ (s : State) (f : Folio) (r : TaskRec) (q : Round) (l : Lane) (task slice t : Nat), s.folio.running = some f →
      s.taskRec task = some r → r.event → s.isVoting l → (s.lane l).round r.task = some q → s.nextSlice l r = some slice →
      s.sliceQuiet l r → s.pairIdle l r.ep → (s.tick t).now < q.stamp + 1000000000 →
    Completes (.censusSliceHash l task slice false t) s fun v =>
      let u := s.tick t
      v = { u.setLane l (v.lane l) with fabric := v.fabric, vote := { u.vote with census := v.vote.census } } ∧
      (∃ h ∈ v.vote.census, h.lane = l ∧ h.task = r.task ∧ h.slice = slice ∧ ¬ h.abandoned ∧ h.round ∧
        h.exec = (s.book r.task).execs % 2 ^ 32 ∧ h.stamp = q.stamp ∧
        h.hash = censusHash l f (s.lane l).mem ((f.slices r.task).getD slice [])) ∧
      v.lane l = { s.lane l with rounds := (v.lane l).rounds } ∧
      (v.lane l).round r.task = some { q with next := slice + 1 }) ∧
  (∀ (s : State) (f : Folio) (r : TaskRec) (l : Lane) (task slice t : Nat), s.folio.running = some f →
      s.taskRec task = some r → ¬ r.event → s.isVoting l → s.nextSlice l r = some slice →
    Completes (.censusSliceHash l task slice true t) s fun v =>
      let u := s.tick t
      v = { u with fabric := v.fabric, vote := { u.vote with census := v.vote.census } } ∧
      (∃ h ∈ v.vote.census, h.lane = l ∧ h.task = r.task ∧ h.slice = slice ∧ h.abandoned ∧ h.hash = 0)) ∧
  (∀ (s : State) (l : Lane) (task slice t : Nat) (abandoned : Bool),
      (∀ r, s.taskRec task = some r → ¬ s.isVoting l ∨ s.nextSlice l r ≠ some slice ∨
        (¬ abandoned ∧ (¬ s.sliceQuiet l r ∨ ¬ s.pairIdle l r.ep))) →
    exec (.censusSliceHash l task slice abandoned t) s = .next (s.tick t)) ∧
  (∀ (s : State) (r : TaskRec) (task t : Nat), s.taskRec task = some r → r.event → t % 1000000000 = 0 →
    Completes (.censusRoundStart task t) s fun v =>
      (∀ l, s.isVoting l → (v.lane l).round task = some ⟨task, t, 0⟩) ∧ (∀ l, ¬ s.isVoting l → v.lane l = s.lane l) ∧
      (∀ h ∈ v.vote.census, ¬ (h.task = task ∧ h.round ∧ h.stamp < t)) ∧
      State.RegsKept (allLanes.map R.LANE_CENSUS_SKIP) s v ∧ v.mem = s.mem) ∧
  (∀ (s : State) (task t : Nat), (∀ r, s.taskRec task = some r → ¬ r.event ∨ t % 1000000000 ≠ 0) →
    exec (.censusRoundStart task t) s = .next (s.tick t)) ∧
  (∀ (s : State) (h : Lane → CensusHash) (task slice exec stamp t : Nat), s.voters = allLanes →
      (∀ l, s.censusOf l task slice exec stamp = some (h l) ∧ ¬ (h l).abandoned) → (∀ l, (h l).hash = (h .a).hash) →
    Completes (.censusCompare task slice exec stamp t) s fun v =>
      v.reg R.CENSUS_LATENT = s.reg R.CENSUS_LATENT ∧ v.voters = allLanes ∧
      ∀ l, v.flag (F.LANE_STATE_LATENT l) = s.flag (F.LANE_STATE_LATENT l)) ∧
  (∀ (s : State) (h : Lane → CensusHash) (o : Lane) (m : DWord) (task slice exec stamp t : Nat), s.voters = allLanes →
      (∀ l, s.censusOf l task slice exec stamp = some (h l) ∧ ¬ (h l).abandoned) → (∀ l, l ≠ o → (h l).hash = m) →
      (h o).hash ≠ m → ¬ s.flag (F.LANE_STATE_PROBATION o) →
    Completes (.censusCompare task slice exec stamp t) s fun v =>
      v.fget (latentField o) = min (s.fget (latentField o) + 1) 255 ∧ v.flag (F.LANE_STATE_LATENT o) ∧ v.voters = allLanes ∧
      ∀ l, l ≠ o → v.flag (F.LANE_STATE_LATENT l) = s.flag (F.LANE_STATE_LATENT l)) ∧
  (∀ (s : State) (h : Lane → CensusHash) (o : Lane) (m : DWord) (task slice exec stamp t : Nat), s.voters = allLanes →
      (∀ l, s.censusOf l task slice exec stamp = some (h l) ∧ ¬ (h l).abandoned) → (∀ l, l ≠ o → (h l).hash = m) →
      (h o).hash ≠ m → s.flag (F.LANE_STATE_PROBATION o) →
    Completes (.censusCompare task slice exec stamp t) s fun v =>
      v.laneSt o = .excluded ∧ v.fget (F.LANE_STATE_CAUSE o) = 0xC) ∧
  (∀ (s : State) (h : Lane → CensusHash) (task slice exec stamp t : Nat), s.voters = allLanes →
      (∀ l, s.censusOf l task slice exec stamp = some (h l) ∧ ¬ (h l).abandoned) →
      (∀ k l, k ≠ l → (h k).hash ≠ (h l).hash) →
    Completes (.censusCompare task slice exec stamp t) s fun v =>
      v.fget F.CENSUS_LATENT_NO_MAJ = min (s.fget F.CENSUS_LATENT_NO_MAJ + 1) 255 ∧ v.voters = allLanes ∧
      ∀ l, v.flag (F.LANE_STATE_LATENT l) = s.flag (F.LANE_STATE_LATENT l)) ∧
  (∀ (s : State) (k l : Lane) (x y : CensusHash) (task slice exec stamp t : Nat), s.voters = [k, l] →
      s.censusOf k task slice exec stamp = some x → s.censusOf l task slice exec stamp = some y →
      ¬ x.abandoned → ¬ y.abandoned → x.hash ≠ y.hash →
    Completes (.censusCompare task slice exec stamp t) s fun v =>
      v.fget F.CENSUS_LATENT_NO_MAJ = min (s.fget F.CENSUS_LATENT_NO_MAJ + 1) 255 ∧ v.voters = [k, l] ∧
      ∀ j, v.flag (F.LANE_STATE_LATENT j) = s.flag (F.LANE_STATE_LATENT j))

/-- VOTE_DIS_CAP_CLEAR and CENSUS_CAP_CLEAR, with the vote unit's registers reachable, clear VALID of their register
and leave its other fields and everything else. A disagreement captured with VALID 0 stores the offset, the task, the
odd lane and each live lane's byte (0 for a lane not live) and sets VALID; with VALID 1 it changes nothing. -/
def Obligations.CapturesOfTheVoteAreReArmed : Prop :=
  (∀ s : State, s.reachable R.VOTE_DIS_CAP → Completes .voteDisCapClear s fun v => State.RegsOnly [R.VOTE_DIS_CAP] s v ∧ ¬ v.flag F.VOTE_DIS_CAP_VALID ∧
      v.fget F.VOTE_DIS_CAP_OFFSET = s.fget F.VOTE_DIS_CAP_OFFSET ∧ v.fget F.VOTE_DIS_CAP_ODD = s.fget F.VOTE_DIS_CAP_ODD ∧
      v.fget F.VOTE_DIS_CAP_TASK = s.fget F.VOTE_DIS_CAP_TASK) ∧
  (∀ s : State, s.reachable R.CENSUS_CAP → Completes .censusCapClear s fun v => State.RegsOnly [R.CENSUS_CAP] s v ∧ ¬ v.flag F.CENSUS_CAP_VALID ∧
      v.fget F.CENSUS_CAP_ODD = s.fget F.CENSUS_CAP_ODD ∧ v.fget F.CENSUS_CAP_TASK = s.fget F.CENSUS_CAP_TASK ∧
      v.fget F.CENSUS_CAP_SLICE = s.fget F.CENSUS_CAP_SLICE) ∧
  (∀ (s : State) (task seg off odd : Nat) (vs : List (Lane × Byte)), s.flag F.VOTE_DIS_CAP_VALID →
    s.captureByte task seg off odd vs = s) ∧
  (∀ (s : State) (task seg off odd : Nat) (vs : List (Lane × Byte)), ¬ s.flag F.VOTE_DIS_CAP_VALID → task < 64 →
      off < 2 ^ 22 → odd < 8 →
    let v := s.captureByte task seg off odd vs
    v.flag F.VOTE_DIS_CAP_VALID ∧ v.fget F.VOTE_DIS_CAP_TASK = task ∧ v.fget F.VOTE_DIS_CAP_ODD = odd ∧
    v.fget F.VOTE_DIS_CAP_OFFSET = off % 65536 ∧ v.fget F.VOTE_DIS_OFF_OFFSET = off ∧
    (v.flag F.VOTE_DIS_OFF_SEG ↔ seg = segTgo) ∧
    v.fget F.VOTE_DIS_VAL_LANE_A = ((vs.find? (·.1 == .a)).map (·.2.toNat)).getD 0 ∧
    v.fget F.VOTE_DIS_VAL_LANE_B = ((vs.find? (·.1 == .b)).map (·.2.toNat)).getD 0 ∧
    v.fget F.VOTE_DIS_VAL_LANE_C = ((vs.find? (·.1 == .c)).map (·.2.toNat)).getD 0 ∧
    State.RegsOnly [R.VOTE_DIS_CAP, R.VOTE_DIS_VAL, R.VOTE_DIS_OFF] s v)

/-- 1 ms after exclusion a lane enters POWER_CYCLE, its domain off, with one more attempt, when fewer than three
attempts lie within 24 h, otherwise OUT_LIMIT with LIMIT 1; LANE_STOP reads 0. With the domain off for 10 ms it is
BOOTING and on, if a millisecond has passed since a domain came on. Passed start checks lead to TRANSLATING and start
the proof interval of its pairs (log entry 3), a failed one to EXCLUDED with cause START_CHECK. A completed
translation, whose image has the hash that folio, lane and firmware give unless another one is found (log entry 11),
leads to READY and records the hash while the vote is off, when none is recorded, or when it equals the recorded one,
and to EXCLUDED with cause START_CHECK when it differs; with no folio running it leads to READY. A pre-copy pass of a
READY lane writes the lines that it copies, counts, and leaves those that the source has written since for the next
one. At a usable seam a READY lane enters TRANSFER and SOURCE names the first voting lane. A final delta that lands in
the gap leaves the lane with the source's state. 10 s without a seam, or 16 passes with a delta that no gap of the
ductus takes, outside HOLD, exclude with cause TRANSFER. Attempts older than 24 h leave the window. With no vote
enabled, at a grid instant with two lanes READY, every READY lane is VOTING and EN is 1. -/
def Obligations.LanesReturnToTheVoteByTheirStates : Prop :=
  (∀ (s : State) (l : Lane) (t : Nat), s.laneSt l = .excluded → (s.lane l).exclAt + 1000000 ≤ (s.tick t).mono →
      (s.tick t).reintPermitted l →
    Completes (.laneExcludedTimeout l t) s fun v => let u := s.tick t
      v.laneSt l = .powerCycle ∧ ¬ v.powered (pdLane l) ∧ (v.lane l).attempts = (s.lane l).attempts ++ [u.mono] ∧
      v.fget (F.LANE_REINT_ATTEMPTS l) = min (s.fget (F.LANE_REINT_ATTEMPTS l) + 1) 0x3FFF ∧ v.reg (R.LANE_STOP l) = 0 ∧
      State.LaneStep l [R.LANE_REINT l, R.RPC_PD_STAT, R.LANE_STOP l] u v) ∧
  (∀ (s : State) (l : Lane) (t : Nat), s.laneSt l = .excluded → (s.lane l).exclAt + 1000000 ≤ (s.tick t).mono →
      ¬ (s.tick t).reintPermitted l →
    Completes (.laneExcludedTimeout l t) s fun v =>
      v.laneSt l = .outLimit ∧ ¬ v.powered (pdLane l) ∧ v.flag (F.LANE_STATE_LIMIT l) ∧ v.reg (R.LANE_STOP l) = 0 ∧
      State.LaneStep l [R.RPC_PD_STAT, R.LANE_STOP l] (s.tick t) v) ∧
  (∀ (s : State) (l : Lane) (t : Nat), s.laneSt l = .powerCycle → (s.lane l).offAt + 10000000 ≤ (s.tick t).mono →
    ((s.tick t).maySwitch → Completes (.lanePowerCycleDone l t) s fun v =>
      v.laneSt l = .booting ∧ v.powered (pdLane l) ∧ v.power = { s.power with lastOn := (s.tick t).mono } ∧
      State.LaneStep l [R.RPC_PD_STAT] { s.tick t with power := v.power } v) ∧
    (¬ (s.tick t).maySwitch → exec (.lanePowerCycleDone l t) s = .next (s.tick t))) ∧
  (∀ (s : State) (l : Lane) (t : Nat), s.laneSt l = .booting →
    Completes (.laneBootComplete l true t) s fun v =>
      v.laneSt l = .translating ∧ (v.lane l).ep0.dueAt = (s.tick t).mono ∧ (v.lane l).ep1.dueAt = (s.tick t).mono ∧
      State.LaneStep l [] (s.tick t) v) ∧
  (∀ (s : State) (l : Lane) (t : Nat), s.laneSt l = .booting →
    Completes (.laneBootComplete l false t) s fun v => v.laneSt l = .excluded ∧ v.fget (F.LANE_STATE_CAUSE l) = 0xB) ∧
  (∀ (s : State) (l : Lane) (f : Folio) (bad : Option DWord) (t : Nat), s.laneSt l = .translating → s.folio.running = some f →
      (¬ s.flag F.VOTE_CTRL_EN ∨ (s.lane l).xlatHash = none ∨ (s.lane l).xlatHash = some (bad.getD (s.imageHash f l))) →
    Completes (.laneTranslationComplete l bad t) s fun v => let hash := bad.getD (s.imageHash f l)
      v.laneSt l = .ready ∧ (v.lane l).xlatHash = some hash ∧ (v.lane l).passes = 0 ∧
      v.fget (F.LANE_XLAT_HASH_LO_HASH l) + 2 ^ 32 * v.fget (F.LANE_XLAT_HASH_HI_HASH l) = hash.toNat ∧
      (v.flag (F.LANE_VERIFY_STAT_REFUSED l) ↔ (verifyFolio f).isSome) ∧
      State.LaneStep l [R.LANE_XLAT_HASH_LO l, R.LANE_XLAT_HASH_HI l, R.LANE_VERIFY_STAT l, R.LANE_VERIFY_WORD l] (s.tick t) v) ∧
  (∀ (s : State) (l : Lane) (f : Folio) (bad : Option DWord) (h : DWord) (t : Nat), s.laneSt l = .translating →
      s.folio.running = some f → s.flag F.VOTE_CTRL_EN → (s.lane l).xlatHash = some h → h ≠ bad.getD (s.imageHash f l) →
    Completes (.laneTranslationComplete l bad t) s fun v =>
      v.laneSt l = .excluded ∧ v.fget (F.LANE_STATE_CAUSE l) = 0xB ∧ (v.lane l).xlatHash = some h) ∧
  (∀ (s : State) (l : Lane) (bad : Option DWord) (t : Nat), s.laneSt l = .translating → s.folio.running = none →
    Completes (.laneTranslationComplete l bad t) s fun v => v.laneSt l = .ready ∧ State.LaneStep l [] (s.tick t) v) ∧
  (∀ (s : State) (l src : Lane) (f : Folio) (t : Nat), s.laneSt l = .ready → s.folio.running = some f → s.voters.head? = some src →
    Completes (.precopyPassComplete l t) s fun v =>
      v = { (s.tick t).setLane l { s.lane l with
        mem := copyLines src l f (s.lane src).mem (s.lane l).mem (s.lane l).copying
        passes := (s.lane l).passes + 1, copying := (s.lane l).rewritten, rewritten := [] } with fabric := v.fabric } ∧
      v.fabric = { s.fabric with tx := v.fabric.tx, served := v.fabric.served, servedAt := v.fabric.servedAt }) ∧
  (∀ (s : State) (l : Lane) (t : Nat), s.laneSt l = .ready → (s.folio.running = none ∨ s.voters = []) →
    exec (.precopyPassComplete l t) s = .next ((s.tick t).setLane l { s.lane l with
      passes := (s.lane l).passes + 1, copying := (s.lane l).rewritten, rewritten := [] })) ∧
  (∀ (s : State) (l : Lane) (t : Nat), s.laneSt l ≠ .ready → exec (.precopyPassComplete l t) s = .next (s.tick t)) ∧
  (∀ (s : State) (l src : Lane) (t : Nat), s.laneSt l = .ready → s.flag F.VOTE_CTRL_EN → s.voters.head? = some src →
      (s.tick t).transferSeam l t →
    Completes (.stateTransferSeam l t) s fun v =>
      v.laneSt l = .transfer ∧ v.fget (F.LANE_REINT_SOURCE l) = src.idx ∧ (v.lane l).transferAt = t ∧
      State.LaneStep l [R.LANE_REINT l] (s.tick t) v) ∧
  (∀ (s : State) (l src : Lane) (f : Folio) (t : Nat), s.laneSt l = .transfer → ¬ (s.lane l).landed → ¬ s.anyUncommitted →
      (∀ b ∈ s.ductus.tasks, ∀ r, b.lastRelease = some r → r ≤ (s.lane l).transferAt) → s.voters.head? = some src →
      s.folio.running = some f → f.tasksOk →
    Completes (.finalDeltaLanded l t) s fun v =>
      (v.lane l).landed ∧ (v.lane l).mem = s.xferMemory f src l ∧ v.laneSt l = .transfer ∧
      (∀ k, k ≠ l → v.lane k = s.lane k) ∧ v.mem = s.mem) ∧
  (∀ (s : State) (l : Lane) (t : Nat), s.laneSt l = .ready → s.flag F.VOTE_CTRL_EN → s.modeNow ≠ .hold →
      ((s.lane l).readyAt + 10000000000 ≤ (s.tick t).now ∨
        (16 ≤ (s.lane l).passes ∧ ¬ (s.tick t).gapExists (s.deltaGap l))) →
    Completes (.transferTimeout l t) s fun v => v.laneSt l = .excluded ∧ v.fget (F.LANE_STATE_CAUSE l) = 0xC) ∧
  (∀ (s : State) (l : Lane) (t : Nat), Completes (.reintWindowExpire l t) s fun v => let u := s.tick t
      (v.lane l).attempts = (s.lane l).attempts.filter (fun a => decide (u.mono < a + 86400000000000)) ∧
      v.fget (F.LANE_STATE_REINT_24H l) = min (v.lane l).attempts.length 15 ∧
      State.RegsKept [R.LANE_STATE l] u v ∧ v.mem = u.mem ∧ (∀ k, k ≠ l → v.lane k = u.lane k)) ∧
  (∀ (s : State) (t : Nat), ¬ s.flag F.VOTE_CTRL_EN → ¬ s.flag F.VOTE_CTRL_FAILED → s.voters = [] →
      2 ≤ (allLanes.filter fun l => s.laneSt l == .ready).length → (s.tick t).now % 50000 = 0 →
      (∀ f, s.folio.running = some f → f.tasksOk) →
    Completes (.voteEnable t) s fun v =>
      v.flag F.VOTE_CTRL_EN ∧ (∀ l, s.laneSt l = .ready → v.laneSt l = .voting) ∧
      (∀ l, s.laneSt l ≠ .ready → v.laneSt l = s.laneSt l))

/-- For every LANE-class command of the table whose check has no register of its own (laneRow gives its opcode and
level), at an instant t at which no verdicts have accepted it before. With fewer than two voting lanes nothing changes
but the clocks. Behind a fence of its queue that is not complete (log entry 24) it is held unstarted and nothing else
changes. Without an open session of its path it is an authentication failure: QUILL_AUTH.LANE rises, saturating, and
no other register and no memory byte changes. In a session of a lower level it is refused: it is not accepted, no
folio, mode, channel, network, telegram or time state changes, and its reply is BAD_PARAM or REFUSED_PRIVILEGE. -/
def Obligations.LaneCommandsNeedLanesSessionAndLevel : Prop :=
  (∀ (i : Instr) (s : State) (c : Cmd) (t op lvl : Nat), laneRow i = some (c, (t, (op, lvl))) → s.preAccepted c = none →
    s.voters.length < 2 → exec i s = .next (s.tick t)) ∧
  (∀ (i : Instr) (s : State) (c : Cmd) (t op lvl : Nat), laneRow i = some (c, (t, (op, lvl))) → s.preAccepted c = none →
    2 ≤ s.voters.length → s.fenced c → Completes i s fun v =>
      (∃ h ∈ v.quill.held, h.cmd = c) ∧ v = { s.tick t with quill := { s.quill with held := v.quill.held } }) ∧
  (∀ (i : Instr) (s : State) (c : Cmd) (t op lvl : Nat), laneRow i = some (c, (t, (op, lvl))) → s.preAccepted c = none →
    2 ≤ s.voters.length → ¬ s.fenced c → ¬ s.sessionOk c → Completes i s fun v =>
      v.fget F.QUILL_AUTH_LANE = min (s.fget F.QUILL_AUTH_LANE + 1) 0xFFFF ∧
      v = { s.tick t with regs := v.regs, quill := { s.quill with
        replies := v.quill.replies, plainHost := v.quill.plainHost, plainMp := v.quill.plainMp } } ∧
      State.RegsKept [R.QUILL_AUTH] s v) ∧
  (∀ (i : Instr) (s : State) (c : Cmd) (x : Session) (t op lvl : Nat), laneRow i = some (c, (t, (op, lvl))) →
    s.preAccepted c = none → 2 ≤ s.voters.length → ¬ s.fenced c → s.session c.session = some x → s.sessionOk c →
    x.level < lvl → Completes i s fun v =>
      (v.repliedWith c op 0x0010 ∨ v.repliedWith c op 0x0024) ∧ (∀ r ∈ v.quill.cmds, r.cmd ≠ c) ∧
      v.fget F.QUILL_ACCEPT_COUNT = s.fget F.QUILL_ACCEPT_COUNT ∧
      v.fget F.QUILL_REFUSE_COUNT = min (s.fget F.QUILL_REFUSE_COUNT + 1) 0xFFFFFFFF ∧
      v.folio = s.folio ∧ v.modeNow = s.modeNow ∧ v.fio = s.fio ∧ v.ssm = s.ssm ∧ v.net = s.net ∧ v.tge = s.tge ∧
      v.time = s.time ∧ v.que = s.que ∧ v.vellum = s.vellum ∧ v.rub = s.rub ∧ v.power = s.power)

/-- TASK_RELEASE at a release instant of a task of the running folio, in a module that acts: where some voting lane
has the task IDLE (after lanes whose delta landed have joined), the commit falls due at the release plus the
deadline, the release is counted modulo 2^32 and recorded, a pending event release is taken, and in every lane that
still votes and had the task IDLE the task is RELEASED with an execution at word 0 of that release. Where voting
lanes exist and none has the task IDLE, the release is skipped: it is counted, and its commit will be an overrun
unless an execution frozen in HOLD is still to end. In RUN only are tasks released. -/
def Obligations.ReleasesStartExecutions : Prop :=
  (∀ (s : State) (f : Folio) (r : TaskRec) (task t : Nat), s.folio.running = some f → f.tasksOk → s.taskRec task = some r →
      (s.tick t).releaseDue r (s.tick t).now → ¬ s.notActing →
      (∃ l, (s.tick t).joinLanded.isVoting l ∧ (s.tick t).joinLanded.taskSt l r.task = .idle) →
    Completes (.taskRelease task t) s fun v => let w := (s.tick t).joinLanded
      (v.book r.task).due = some (w.now + r.deadline, false) ∧ (v.book r.task).lastRelease = some w.now ∧
      (v.book r.task).releases = ((w.book r.task).releases + 1) % 2 ^ 32 ∧ (v.book r.task).pend = none ∧
      ∀ l, v.isVoting l → w.taskSt l r.task = .idle → v.taskSt l r.task = .released ∧
        v.exec? l r.task = some ⟨w.now, 0, [], [], [], false, 0, false, false, false⟩) ∧
  (∀ (s : State) (f : Folio) (r : TaskRec) (task t : Nat), s.folio.running = some f → f.tasksOk → s.taskRec task = some r →
      (s.tick t).releaseDue r (s.tick t).now → ¬ s.notActing → (s.tick t).joinLanded.voters ≠ [] →
      (∀ l, (s.tick t).joinLanded.isVoting l → (s.tick t).joinLanded.taskSt l r.task ≠ .idle) →
    Completes (.taskRelease task t) s fun v => let w := (s.tick t).joinLanded
      v = { w with ductus := v.ductus } ∧ (v.book r.task).releases = ((w.book r.task).releases + 1) % 2 ^ 32 ∧
      (v.book r.task).due = (if w.heldExec r.task then none else some (w.now + r.deadline, true)) ∧
      (v.book r.task).lastRelease = (w.book r.task).lastRelease) ∧
  (∀ (s : State) (task t : Nat), s.modeNow ≠ .run → exec (.taskRelease task t) s = .next (s.tick t))

/-- TASK_FINISH of an execution that has ended, not faulted and not discarded, in the RELEASED state: the task is
FINISHED in that lane. Where the lane votes and its object (the declared lines as stored, then the terminator with the
record count), sent from the end of the execution at 10,000 B/us, has left by 1 us before the commit instant, and that
instant has not passed, the vote holds the object; otherwise it sends nothing and the objects at the vote stay.
LATE_EXECUTION_END of an ended execution that is LATE or discarded: the task is IDLE with no execution, and the vote's
objects stay. -/
def Obligations.ExecutionsFinishOrEndLate : Prop :=
  (∀ (s : State) (f : Folio) (e : Exec) (l : Lane) (task t c : Nat) (k : Bool), s.folio.running = some f → task < 64 →
      s.exec? l task = some e → e.ended → ¬ e.faulted → ¬ e.discarded → s.taskSt l task = .released → s.isVoting l →
      (s.book task).due = some (c, k) →
      e.endAt + xferNs (laneOut l f (s.lane l).mem task ((s.book task).commits % 2 ^ 32)).length + 1000 ≤ c →
      (s.tick t).now + 1000 ≤ c →
    Completes (.taskFinish l task t) s fun v =>
      v.taskSt l task = .finished ∧
      (⟨l, task, s.fabric.gen, laneOut l f (s.lane l).mem task ((s.book task).commits % 2 ^ 32)⟩ : OutObj) ∈ v.vote.outs ∧
      (∀ j, j ≠ l → v.taskSt j task = s.taskSt j task ∧ v.lane j = s.lane j) ∧
      v.lane l = { s.lane l with ep0 := (v.lane l).ep0, ep1 := (v.lane l).ep1 }) ∧
  (∀ (s : State) (f : Folio) (e : Exec) (l : Lane) (task t c : Nat) (k : Bool), s.folio.running = some f → task < 64 →
      s.exec? l task = some e → e.ended → ¬ e.faulted → ¬ e.discarded → s.taskSt l task = .released →
      (s.book task).due = some (c, k) →
      (c < e.endAt + xferNs (laneOut l f (s.lane l).mem task ((s.book task).commits % 2 ^ 32)).length + 1000 ∨
        c < (s.tick t).now + 1000) →
    Completes (.taskFinish l task t) s fun v => v.taskSt l task = .finished ∧ v.vote = s.vote ∧ ∀ j, v.lane j = s.lane j) ∧
  (∀ (s : State) (e : Exec) (l : Lane) (task t : Nat), task < 64 → s.exec? l task = some e → e.ended →
      (s.taskSt l task = .late ∨ e.discarded) →
    Completes (.lateExecutionEnd l task t) s fun v =>
      v.taskSt l task = .idle ∧ v.exec? l task = none ∧ v.vote = s.vote ∧ v.mem = s.mem ∧
      State.RegsKept [R.TASK_STAT l task, R.TASK_RESP_MAX l task] s v ∧ ∀ j, j ≠ l → v.lane j = s.lane j)

/-- TIME_ALARM_FIRE of an event task with source 4 whose armed alarm has been reached: the alarm is disarmed; in RUN,
for an event instant not before the RUN entry, with no release pending, a release is pending at the later of the event's
instant on the 50 us grid and the previous release plus M, on the grid, with COALESCED 0; with one pending the event is
merged into it and COALESCED rises by 1, saturating. Outside RUN, or before the RUN entry, the event is discarded. Of a
task or alarm that is not so, nothing changes but the clocks. An admitted TASK_TRIGGER for an event task with source 3,
in RUN and acting, with no release pending: a release with DETAIL the command's TAG is pending at the grid instant from
20 us after acceptance, or M after the previous release, and the command waits for that release; with one pending it is
merged into that one and waits for it. -/
def Obligations.AlarmsAndTriggersReleaseEventTasks : Prop :=
  (∀ (s : State) (r : TaskRec) (task t : Nat), s.taskRec task = some r → r.event → r.source = 4 → r.task < 64 →
      (s.book task).alarm.armed → (s.book task).alarm.value ≤ ((s.tick t).now : Int) → s.modeNow = .run →
      s.ductus.runEntry.getD 0 ≤ max (s.book task).alarm.value.toNat (s.book task).alarm.since → (s.book task).pend = none →
    Completes (.timeAlarmFire task t) s fun v =>
      let e := max (s.book task).alarm.value.toNat (s.book task).alarm.since
      ¬ (v.book task).alarm.armed ∧
      ∃ p, (v.book task).pend = some p ∧
        p.stamp = e ∧ p.coalesced = 0 ∧ p.instant % 50000 = 0 ∧ e ≤ p.instant ∧
        (∀ q, (s.book task).lastRelease = some q → q + r.period ≤ p.instant) ∧
        p.instant < max (e + 50000) (((s.book task).lastRelease.getD 0) + r.period) + 50000) ∧
  (∀ (s : State) (r : TaskRec) (p : PendRelease) (task t : Nat), s.taskRec task = some r → r.event → r.source = 4 → r.task < 64 →
      (s.book task).alarm.armed → (s.book task).alarm.value ≤ ((s.tick t).now : Int) → s.modeNow = .run →
      s.ductus.runEntry.getD 0 ≤ max (s.book task).alarm.value.toNat (s.book task).alarm.since → (s.book task).pend = some p →
    Completes (.timeAlarmFire task t) s fun v =>
      ¬ (v.book task).alarm.armed ∧ (v.book task).pend = some { p with coalesced := min (p.coalesced + 1) 0xFFFF }) ∧
  (∀ (s : State) (r : TaskRec) (task t : Nat), s.taskRec task = some r → r.event → r.source = 4 →
      (s.book task).alarm.armed → (s.book task).alarm.value ≤ ((s.tick t).now : Int) →
      (s.modeNow ≠ .run ∨ max (s.book task).alarm.value.toNat (s.book task).alarm.since < s.ductus.runEntry.getD 0) →
    Completes (.timeAlarmFire task t) s fun v =>
      v = { s.tick t with ductus := v.ductus } ∧ ¬ (v.book task).alarm.armed ∧ (v.book task).pend = (s.book task).pend) ∧
  (∀ (s : State) (task t : Nat),
      (∀ r, s.taskRec task = some r → ¬ r.event ∨ r.source ≠ 4 ∨ ¬ (s.book task).alarm.armed ∨
        ((s.tick t).now : Int) < (s.book task).alarm.value) →
    exec (.timeAlarmFire task t) s = .next (s.tick t)) ∧
  (∀ (s : State) (c : Cmd) (r : TaskRec) (b : Byte) (t : Nat), (s.tick t).admits c 2 → c.params = b :: zeros 7 →
      s.taskRec b.toNat = some r → r.event → r.source = 3 → r.task < 64 → s.modeNow = .run → ¬ s.notActing →
      s.ductus.runEntry.getD 0 ≤ (s.tick t).now → (s.book b.toNat).pend = none →
    Completes (.taskTrigger c t) s fun v =>
      c ∈ (v.book b.toNat).triggers ∧
      ∃ p, (v.book b.toNat).pend = some p ∧ p.detail = c.tag ∧ p.coalesced = 0 ∧ p.stamp = (s.tick t).now ∧
        p.instant % 50000 = 0 ∧ (s.tick t).now + 20000 ≤ p.instant ∧
        (∀ q, (s.book b.toNat).lastRelease = some q → q + r.period ≤ p.instant)) ∧
  (∀ (s : State) (c : Cmd) (r : TaskRec) (p : PendRelease) (b : Byte) (t : Nat), (s.tick t).admits c 2 → c.params = b :: zeros 7 →
      s.taskRec b.toNat = some r → r.event → r.source = 3 → r.task < 64 → s.modeNow = .run → ¬ s.notActing →
      s.ductus.runEntry.getD 0 ≤ (s.tick t).now → (s.book b.toNat).pend = some p →
    Completes (.taskTrigger c t) s fun v =>
      c ∈ (v.book b.toNat).triggers ∧ (v.book b.toNat).pend = some { p with coalesced := min (p.coalesced + 1) 0xFFFF })

/-- An admitted MODE_SET with parameters of its form: RUN (with a folio running) waits for the first multiple of 1
ms at or after acceptance + 200 us, STOP and HOLD (HOLD in BENCH only) for the first multiple of 50 us at or after
acceptance + 20 us, in a module that acts; the mode in force stays. At the instant of the only change due, with every
commit that is due voted, in a module not failed: RUN from STOP sets the mode, the RUN entry instant and each declared
task's overruns in a row to 0; STOP from RUN sets the mode and STOP_CAUSE 1, and no commit is due and no object is at
the vote; HOLD from RUN sets the mode; a change that names the mode in force leaves it. A command that asked for it is
answered OK. What an idle ductus owes to the grid instants before takes effect first (log entry 15). -/
def Obligations.ModeChangesTakeEffectAtTheirInstants : Prop :=
  (∀ (s : State) (c : Cmd) (t : Nat), (s.tick t).admits c 2 → c.params = 1 :: zeros 7 → s.folio.running.isSome →
      ¬ s.notActing →
    Completes (.modeSetRun c t) s fun v => v.modeNow = s.modeNow ∧ ∃ p ∈ v.ductus.modes, p.target = .run ∧ p.cmd = some c ∧
      p.instant % 1000000 = 0 ∧ (s.tick t).now + 200000 ≤ p.instant ∧ p.instant < (s.tick t).now + 1200000) ∧
  (∀ (s : State) (c : Cmd) (t : Nat), (s.tick t).admits c 2 → c.params = zeros 8 → ¬ s.notActing →
    Completes (.modeSetStop c t) s fun v => v.modeNow = s.modeNow ∧ ∃ p ∈ v.ductus.modes, p.target = .stop ∧ p.cmd = some c ∧
      p.instant % 50000 = 0 ∧ (s.tick t).now + 20000 ≤ p.instant ∧ p.instant < (s.tick t).now + 70000) ∧
  (∀ (s : State) (c : Cmd) (t : Nat), (s.tick t).admits c 2 → c.params = 2 :: zeros 7 → ¬ s.notActing →
      s.fget F.SEC_STATE_LIFECYCLE = 3 →
    Completes (.modeSetHold c t) s fun v => v.modeNow = s.modeNow ∧ ∃ p ∈ v.ductus.modes, p.target = .hold ∧ p.cmd = some c ∧
      p.instant % 50000 = 0 ∧ (s.tick t).now + 20000 ≤ p.instant ∧ p.instant < (s.tick t).now + 70000) ∧
  (∀ (s : State) (c : Cmd) (t : Nat), (s.tick t).admits c 2 → c.params = 2 :: zeros 7 → s.fget F.SEC_STATE_LIFECYCLE ≠ 3 →
    Completes (.modeSetHold c t) s fun v => v.repliedWith c 0x0201 0x0010 ∧ v.modeNow = s.modeNow ∧
      v.ductus.modes = s.ductus.modes) ∧
  (∀ (s : State) (p : PendMode) (t : Nat), (s.upTo t).ductus.modes.filter (fun x => x.instant ≤ (s.upTo t).now) = [p] →
      (s.upTo t).dueCommits = [] → p.target = .run → (s.upTo t).modeNow = .stop → ¬ (s.upTo t).flag F.VOTE_CTRL_FAILED →
      (∀ f, (s.upTo t).folio.running = some f → f.tasksOk) →
    Completes (.modeChangeEffect t) s fun v => let u := s.upTo t
      v.modeNow = .run ∧ v.ductus.runEntry = some u.now ∧ p ∉ v.ductus.modes ∧
      (∀ r ∈ u.tasks, (v.book r.task).consec = 0 ∧ (v.book r.task).firstNext ∧ (v.book r.task).due = none) ∧
      (∀ c, p.cmd = some c → v.repliedWith c 0x0201 0)) ∧
  (∀ (s : State) (p : PendMode) (t : Nat), (s.upTo t).ductus.modes.filter (fun x => x.instant ≤ (s.upTo t).now) = [p] →
      (s.upTo t).dueCommits = [] → p.target = .stop → (s.upTo t).modeNow = .run → ¬ (s.upTo t).flag F.VOTE_CTRL_FAILED →
      (∀ f, (s.upTo t).folio.running = some f → f.tasksOk) →
    Completes (.modeChangeEffect t) s fun v =>
      v.modeNow = .stop ∧ v.fget F.MODE_STAT_STOP_CAUSE = 1 ∧ v.vote.outs = [] ∧ (∀ b ∈ v.ductus.tasks, b.due = none) ∧
      (∀ c, p.cmd = some c → v.repliedWith c 0x0201 0)) ∧
  (∀ (s : State) (p : PendMode) (t : Nat), (s.upTo t).ductus.modes.filter (fun x => x.instant ≤ (s.upTo t).now) = [p] →
      (s.upTo t).dueCommits = [] → p.target = .hold → (s.upTo t).modeNow = .run → ¬ (s.upTo t).flag F.VOTE_CTRL_FAILED →
      (∀ f, (s.upTo t).folio.running = some f → f.tasksOk) →
    Completes (.modeChangeEffect t) s fun v => v.modeNow = .hold ∧ (∀ l, v.lane l = (s.upTo t).lane l) ∧
      (∀ c, p.cmd = some c → v.repliedWith c 0x0201 0)) ∧
  (∀ (s : State) (p : PendMode) (t : Nat), (s.upTo t).ductus.modes.filter (fun x => x.instant ≤ (s.upTo t).now) = [p] →
      (s.upTo t).dueCommits = [] → p.target = (s.upTo t).modeNow →
    Completes (.modeChangeEffect t) s fun v => v.modeNow = (s.upTo t).modeNow ∧ v.ductus.runEntry = (s.upTo t).ductus.runEntry ∧
      (∀ c, p.cmd = some c → v.repliedWith c 0x0201 0))

/-- An admitted FENCE with parameters of its form. QUEUE: with no command of its queue ahead of it that has not
replied it is answered OK, otherwise it waits. COMMIT: it waits for the tasks of its mask, which must be declared,
or for every declared task with mask 0 and a folio running. TIME with an instant T not passed by 80 us: it waits. At
T + 80 us a TIME fence is removed and answered OK. A COMMIT fence 20.5 s after its acceptance is removed and
answered TIMEOUT. Which commands stand ahead of a fence, log entry 24 says. -/
def Obligations.FencesCompleteOrTimeOut : Prop :=
  (∀ (s : State) (c : Cmd) (t : Nat), (s.tick t).admits c 1 → c.params = 1 :: zeros 23 →
      ((s.tick t).taken c 0x0B01).cmdsAhead c = [] → (∀ f ∈ s.ductus.fences, f.cmd ≠ c) →
    Completes (.fenceQueue c t) s fun v => v.repliedWith c 0x0B01 0 ∧ ∀ f ∈ v.ductus.fences, f.cmd ≠ c) ∧
  (∀ (s : State) (c : Cmd) (t : Nat), (s.tick t).admits c 1 → c.params = 1 :: zeros 23 →
      ((s.tick t).taken c 0x0B01).cmdsAhead c ≠ [] → (∀ f ∈ s.ductus.fences, f.kind ≠ .queue) →
    Completes (.fenceQueue c t) s fun v =>
      (⟨c, (s.tick t).now, .queue, ((s.tick t).taken c 0x0B01).cmdsAhead c⟩ : Fence) ∈ v.ductus.fences) ∧
  (∀ (s : State) (c : Cmd) (m t : Nat), (s.tick t).admits c 1 → m < 2 ^ 64 →
      c.params = 2 :: zeros 7 ++ leBytes 8 m ++ zeros 8 →
      (if m = 0 then s.folio.running.isSome else ∀ n < 64, natBit m n → (s.taskRec n).isSome) →
    Completes (.fenceCommit c t) s fun v =>
      (⟨c, (s.tick t).now, .commit (if m = 0 then s.tasks.map (·.task) else (List.range 64).filter (natBit m)),
        ((s.tick t).taken c 0x0B01).cmdsAhead c⟩ : Fence) ∈ v.ductus.fences) ∧
  (∀ (s : State) (c : Cmd) (x t : Nat), (s.tick t).admits c 1 → x < 2 ^ 63 →
      c.params = 3 :: zeros 15 ++ leBytes 8 x → (s.tick t).now < x + 80000 →
    Completes (.fenceTime c t) s fun v =>
      (⟨c, (s.tick t).now, .time x, ((s.tick t).taken c 0x0B01).cmdsAhead c⟩ : Fence) ∈ v.ductus.fences) ∧
  (∀ (s : State) (f : Fence) (queue tag x t : Nat), s.fenceOf queue tag = some f → f.kind = .time x →
      x + 80000 ≤ (s.tick t).now →
    Completes (.timeFenceExpire queue tag t) s fun v =>
      v.repliedWith f.cmd 0x0B01 0 ∧ v.ductus.fences = s.ductus.fences.filter (· != f)) ∧
  (∀ (s : State) (f : Fence) (ts : List Nat) (queue tag t : Nat), s.fenceOf queue tag = some f → f.kind = .commit ts →
      f.accepted + 20500000000 ≤ (s.tick t).now →
    Completes (.fenceTimeout queue tag t) s fun v =>
      v.repliedWith f.cmd 0x0B01 0x0012 ∧ v.ductus.fences = s.ductus.fences.filter (· != f))

/-- For every integer type and TIME and every exact result x: the register value of the wrapped result lies in the
type's range and differs from x by a multiple of 2^w, and the value of the saturated result is x clamped to the
range; both are register representations of the type. -/
def Obligations.WrappingAndSaturatingResults : Prop :=
  ∀ (ty : Ty) (x : Int), ty ≠ .bool → ¬ tyReal ty →
    (tyMin ty ≤ regInt ty (wrapReg ty x) ∧ regInt ty (wrapReg ty x) ≤ tyMax ty ∧
      (regInt ty (wrapReg ty x) - x) % (2 ^ tyWidth ty : Int) = 0) ∧
    regInt ty (satReg ty x) = (if x < tyMin ty then tyMin ty else if tyMax ty < x then tyMax ty else x) ∧
    regFits ty (wrapReg ty x) ∧ regFits ty (satReg ty x)

/-- For an execution under way and operands of an integer type or TIME: ADD, SUB, MUL, NEG, ABS and ADDI (imm8 sign-
extended) write the exact result wrapped to the type of a; ADDS, SUBS, MULS, NEGS and ABSS write it saturated; MIN
and MAX write the smaller and the larger operand; DIV and MOD with a nonzero divisor write the quotient toward zero
and the remainder with the sign of a. Each goes on to the next word and changes nothing else. DIV and MOD with a
zero divisor write 0, set DIVZ and go on. -/
def Obligations.StrokeArithmeticOnIntegers : Prop :=
  ∀ (s : State) (x : Ctx) (e : Exec) (d a b : Reg) (imm : Byte), s.running x = some e → ¬ tyReal (e.ty a) →
    let ty := e.ty a
    let p := regInt ty (e.val a)
    let q := regInt ty (e.val b)
    Sets (.opAdd x d a b) x s e 1 d ty (wrapReg ty (p + q)) ∧ Sets (.opSub x d a b) x s e 1 d ty (wrapReg ty (p - q)) ∧
    Sets (.opMul x d a b) x s e 1 d ty (wrapReg ty (p * q)) ∧ Sets (.opNeg x d a) x s e 1 d ty (wrapReg ty (-p)) ∧
    Sets (.opAbs x d a) x s e 1 d ty (wrapReg ty |p|) ∧
    Sets (.opAddi x d a imm) x s e 1 d ty (wrapReg ty (p + imm.toInt)) ∧
    Sets (.opAdds x d a b) x s e 1 d ty (satReg ty (p + q)) ∧ Sets (.opSubs x d a b) x s e 1 d ty (satReg ty (p - q)) ∧
    Sets (.opMuls x d a b) x s e 1 d ty (satReg ty (p * q)) ∧ Sets (.opNegs x d a) x s e 1 d ty (satReg ty (-p)) ∧
    Sets (.opAbss x d a) x s e 1 d ty (satReg ty |p|) ∧
    Sets (.opMin x d a b) x s e 1 d ty (if p ≤ q then e.val a else e.val b) ∧
    Sets (.opMax x d a b) x s e 1 d ty (if q ≤ p then e.val a else e.val b) ∧
    (q ≠ 0 → Sets (.opDiv x d a b) x s e 1 d ty (wrapReg ty (p.tdiv q)) ∧
      Sets (.opMod x d a b) x s e 1 d ty (wrapReg ty (p.tmod q))) ∧
    (q = 0 → exec (.opDiv x d a b) s =
        .next ((s.fput (F.TASK_STAT_DIVZ x.lane x.task) 1).setExec x.lane x.task ((e.set d ty 0).skip 1)) ∧
      exec (.opMod x d a b) s =
        .next ((s.fput (F.TASK_STAT_DIVZ x.lane x.task) 1).setExec x.lane x.task ((e.set d ty 0).skip 1)))

/-- For an execution under way and operands of a REAL type: ADD, SUB, MUL and SQRT write the rounded result in the
type's format; NEG inverts and ABS clears the sign bit, also of a NaN; DIV with a nonzero divisor writes the rounded
quotient and with +0.0 or -0.0 writes +0.0, sets DIVZ and goes on; MIN of operands of which one is less writes that
one, MAX the other. On binary32: 2.5 + 1.0 = 3.5, 2.5 * 2.5 = 6.25, 1.0 / 3.0 rounds to 0x3EAAAAAB, the square root
of 2.0 rounds to 0x3FB504F3, and the largest finite number doubled is an infinity. -/
def Obligations.StrokeArithmeticOnReals : Prop :=
  (∀ (s : State) (x : Ctx) (e : Exec) (d a b : Reg), s.running x = some e → tyReal (e.ty a) →
    let ty := e.ty a
    let p := fpReg ty (e.val a)
    let q := fpReg ty (e.val b)
    Sets (.opAdd x d a b) x s e 1 d ty (realReg (fpAdd (fmtOf ty) p q)) ∧
    Sets (.opSub x d a b) x s e 1 d ty (realReg (fpAdd (fmtOf ty) p (fpNeg q))) ∧
    Sets (.opMul x d a b) x s e 1 d ty (realReg (fpMul (fmtOf ty) p q)) ∧
    Sets (.opSqrt x d a) x s e 1 d ty (realReg (fpSqrt (fmtOf ty) p)) ∧
    Sets (.opNeg x d a) x s e 1 d ty (e.val a ^^^ BitVec.ofNat 64 (2 ^ (tyWidth ty - 1))) ∧
    Sets (.opAbs x d a) x s e 1 d ty (e.val a &&& ~~~ BitVec.ofNat 64 (2 ^ (tyWidth ty - 1))) ∧
    ((∀ n k, q ≠ .fin n 0 k) → Sets (.opDiv x d a b) x s e 1 d ty (realReg (fpDiv (fmtOf ty) p q))) ∧
    (∀ n k, q = .fin n 0 k → exec (.opDiv x d a b) s =
      .next ((s.fput (F.TASK_STAT_DIVZ x.lane x.task) 1).setExec x.lane x.task ((e.set d ty 0).skip 1))) ∧
    (realLt ty (e.val a) (e.val b) → Sets (.opMin x d a b) x s e 1 d ty (e.val a) ∧
      Sets (.opMax x d a b) x s e 1 d ty (e.val b)) ∧
    (realLt ty (e.val b) (e.val a) → Sets (.opMin x d a b) x s e 1 d ty (e.val b) ∧
      Sets (.opMax x d a b) x s e 1 d ty (e.val a))) ∧
  aluAdd .real32 0x40200000 0x3F800000 = 0x40600000 ∧ aluMul .real32 0x40200000 0x40200000 = 0x40C80000 ∧
  aluDiv .real32 0x3F800000 0x40400000 = 0x3EAAAAAB ∧ aluSqrt .real32 0x40000000 = 0x3FB504F3 ∧
  aluAdd .real32 0x7F7FFFFF 0x7F7FFFFF = 0x7F800000

/-- For an execution under way: AND, OR and XOR combine the register patterns; NOT complements within w, or negates
a BOOL; SHL and SHLV by n give 0 for n of w or more and else the value times 2^n wrapped; SHR and SHRV divide the
value by 2^n rounding down (n above w counts as w); ROL and ROR rotate the w bits by n modulo w; BITGET writes bit
imm8 as BOOL; BSWAP reverses the w/8 bytes. EQ, NE, LT, LE, GT and GE write BOOL: for a type that is no REAL by
pattern equality and the type's order, and FALSE, NE included, for a REAL comparison with a NaN. ISNAN writes TRUE
for a NaN only. Each goes on to the next word and changes nothing else. -/
def Obligations.StrokeLogicShiftsAndComparisons : Prop :=
  ∀ (s : State) (x : Ctx) (e : Exec) (d a b : Reg) (imm : Byte), s.running x = some e →
    let ty := e.ty a
    let va := e.val a
    let vb := e.val b
    let w := tyWidth ty
    let n := imm.toNat
    Sets (.opAnd x d a b) x s e 1 d ty (va &&& vb) ∧ Sets (.opOr x d a b) x s e 1 d ty (va ||| vb) ∧
    Sets (.opXor x d a b) x s e 1 d ty (va ^^^ vb) ∧
    Sets (.opNot x d a) x s e 1 d ty (if ty = .bool then va ^^^ 1 else wrapReg ty (~~~va).toNat) ∧
    Sets (.opShl x d a imm) x s e 1 d ty (if w ≤ n then 0 else wrapReg ty (va.toNat * 2 ^ n : Nat)) ∧
    Sets (.opShlv x d a b) x s e 1 d ty (if w ≤ vb.toNat then 0 else wrapReg ty (va.toNat * 2 ^ vb.toNat : Nat)) ∧
    Sets (.opShr x d a imm) x s e 1 d ty (wrapReg ty (regInt ty va / (2 ^ min n w : Nat))) ∧
    Sets (.opShrv x d a b) x s e 1 d ty (wrapReg ty (regInt ty va / (2 ^ min vb.toNat w : Nat))) ∧
    Sets (.opRol x d a imm) x s e 1 d ty (wrapReg ty
      (va.toNat % 2 ^ w * 2 ^ (n % w) + va.toNat % 2 ^ w / 2 ^ (w - n % w) : Nat)) ∧
    Sets (.opRor x d a imm) x s e 1 d ty (wrapReg ty
      (va.toNat % 2 ^ w / 2 ^ (n % w) + va.toNat % 2 ^ w * 2 ^ (w - n % w) : Nat)) ∧
    Sets (.opBitget x d a imm) x s e 1 d .bool (if va.getLsbD n then 1 else 0) ∧
    Sets (.opBswap x d a) x s e 1 d ty (wrapReg ty (leNat (leBytes (w / 8) va.toNat).reverse)) ∧
    (¬ tyReal ty →
      Sets (.opEq x d a b) x s e 1 d .bool (boolReg (va == vb)) ∧ Sets (.opNe x d a b) x s e 1 d .bool (boolReg (va != vb)) ∧
      Sets (.opLt x d a b) x s e 1 d .bool (boolReg (decide (regInt ty va < regInt ty vb))) ∧
      Sets (.opLe x d a b) x s e 1 d .bool (boolReg (decide (regInt ty va < regInt ty vb) || va == vb)) ∧
      Sets (.opGt x d a b) x s e 1 d .bool (boolReg (decide (regInt ty vb < regInt ty va))) ∧
      Sets (.opGe x d a b) x s e 1 d .bool (boolReg (decide (regInt ty vb < regInt ty va) || va == vb))) ∧
    (tyReal ty → (fpIsNan (fpReg ty va) ∨ fpIsNan (fpReg ty vb)) →
      Sets (.opEq x d a b) x s e 1 d .bool 0 ∧ Sets (.opNe x d a b) x s e 1 d .bool 0 ∧ Sets (.opLt x d a b) x s e 1 d .bool 0 ∧
      Sets (.opLe x d a b) x s e 1 d .bool 0 ∧ Sets (.opGt x d a b) x s e 1 d .bool 0 ∧ Sets (.opGe x d a b) x s e 1 d .bool 0) ∧
    (tyReal ty → ¬ fpIsNan (fpReg ty va) → ¬ fpIsNan (fpReg ty vb) →
      Sets (.opEq x d a b) x s e 1 d .bool (boolReg (realEq ty va vb)) ∧
      Sets (.opNe x d a b) x s e 1 d .bool (boolReg (!realEq ty va vb)) ∧
      Sets (.opLt x d a b) x s e 1 d .bool (boolReg (realLt ty va vb)) ∧
      Sets (.opGt x d a b) x s e 1 d .bool (boolReg (realLt ty vb va)) ∧
      Sets (.opLe x d a b) x s e 1 d .bool (boolReg (realLt ty va vb || realEq ty va vb)) ∧
      Sets (.opGe x d a b) x s e 1 d .bool (boolReg (realLt ty vb va || realEq ty va vb))) ∧
    Sets (.opIsnan x d a) x s e 1 d .bool (boolReg (tyReal ty && fpIsNan (fpReg ty va)))

/-- For an execution under way: MOV copies a with its type; CMOV copies b when a is TRUE and else leaves d; LDI
takes imm8 as the type takes it (sign-extended for signed types, zero-extended for unsigned, bit 0 for BOOL, the
exact value for REAL) and LDL its 32-bit literal, going on two words; CONV and CONVS to the type named by imm8 copy
between equal types, and between integer types and TIME wrap or saturate; TRUNC of a REAL goes toward zero; NOW
writes the release instant and DTIME the time since the previous release, as TIME; GETF writes DIVZ, FIRST, SWITCHED
or LASTOVR for flags 0 to 3; CLRF 0 clears DIVZ; NOP and FENCE_OUT change nothing. Each goes on and changes nothing
else. On samples: CONV of -1.5 to INT16 rounds to -2, TRUNC of it gives -1. -/
def Obligations.StrokeMovesConversionsTimeAndFlags : Prop :=
  (∀ (s : State) (x : Ctx) (e : Exec) (d a b : Reg) (ty : Ty) (imm : Byte) (value : Word), s.running x = some e →
    GoesOn (.opNop x) x s (e.at_ (e.pc + 1)) ∧ GoesOn (.opFenceOut x) x s (e.at_ (e.pc + 1)) ∧
    Sets (.opMov x d a) x s e 1 d (e.ty a) (e.val a) ∧
    (e.isTrue a → Sets (.opCmov x d a b) x s e 1 d (e.ty b) (e.val b)) ∧
    (¬ e.isTrue a → GoesOn (.opCmov x d a b) x s (e.at_ (e.pc + 1))) ∧
    (tySigned ty → Sets (.opLdi x d ty imm) x s e 1 d ty (wrapReg ty imm.toInt) ∧
      Sets (.opLdl x d ty value) x s e 2 d ty (wrapReg ty value.toInt)) ∧
    (tyUnsigned ty → Sets (.opLdi x d ty imm) x s e 1 d ty (wrapReg ty imm.toNat) ∧
      Sets (.opLdl x d ty value) x s e 2 d ty (wrapReg ty value.toNat)) ∧
    Sets (.opLdi x d .bool imm) x s e 1 d .bool (boolReg (imm.getLsbD 0)) ∧
    Sets (.opLdl x d .bool value) x s e 2 d .bool (boolReg (value.getLsbD 0)) ∧
    Sets (.opLdl x d .real32 value) x s e 2 d .real32 (value.zeroExtend 64) ∧
    (tyReal ty → Sets (.opLdi x d ty imm) x s e 1 d ty (realOfInt ty imm.toInt)) ∧
    (tyOfCode imm.toNat = some ty → e.ty a = ty →
      Sets (.opConv x d a imm) x s e 1 d ty (e.val a) ∧ Sets (.opConvs x d a imm) x s e 1 d ty (e.val a)) ∧
    (tyOfCode imm.toNat = some ty → e.ty a ≠ ty → (tyInt ty ∨ ty = .time) → (tyInt (e.ty a) ∨ e.ty a = .time) →
      Sets (.opConv x d a imm) x s e 1 d ty (wrapReg ty (regInt (e.ty a) (e.val a))) ∧
      Sets (.opConvs x d a imm) x s e 1 d ty (satReg ty (regInt (e.ty a) (e.val a)))) ∧
    (tyOfCode imm.toNat = some ty → tyReal (e.ty a) → (tyInt ty ∨ ty = .time) →
      Sets (.opTrunc x d a imm) x s e 1 d ty (aluTrunc (e.ty a) ty (e.val a))) ∧
    Sets (.opNow x d) x s e 1 d .time (BitVec.ofNat 64 e.release) ∧
    Sets (.opDtime x d) x s e 1 d .time (BitVec.ofNat 64 (s.book x.task).dtime) ∧
    Sets (.opGetf x d 0) x s e 1 d .bool (boolReg (s.flag (F.TASK_STAT_DIVZ x.lane x.task))) ∧
    Sets (.opGetf x d 1) x s e 1 d .bool (boolReg (s.book x.task).first) ∧
    Sets (.opGetf x d 2) x s e 1 d .bool (boolReg (s.book x.task).switched) ∧
    Sets (.opGetf x d 3) x s e 1 d .bool (boolReg (s.book x.task).lastOvr) ∧
    exec (.opClrf x 0) s =
      .next ((s.fput (F.TASK_STAT_DIVZ x.lane x.task) 0).setExec x.lane x.task (e.at_ (e.pc + 1)))) ∧
  aluConv .real32 .int16 false 0xBFC00000 = BitVec.ofInt 64 (-2) ∧ aluTrunc .real32 .int16 0xBFC00000 = BitVec.ofInt 64 (-1)

/-- For an execution under way of a task 0 to 63: JMP goes to its target; BRT goes there on TRUE and BRF on FALSE,
else on two words; LOOP on FALSE goes on two words, on TRUE with its counter below the bound counts and goes to its
head, and at the bound is the task fault LOOP_BOUND; CALL keeps the word after it and goes to its target, RET
returns to the innermost kept word; ASSERT on TRUE goes on and on FALSE is the task fault ASSERT; END ends the
execution. An end is noted with its instant. A RET with no word kept, which the verifier refuses, ends the execution as
END does: the model's choice (log entry 22). A task fault ends the execution as faulted, with its cause and word in
TASK_FAULT, TASK_STAT.FAULT 1, and a RELEASED task FINISHED unless STOP has discarded its outputs. Control that reaches a
loop's head other than by its own branch starts its counter again. -/
def Obligations.StrokeControlFlowAndTaskFaults : Prop :=
  ∀ (s : State) (x : Ctx) (e : Exec) (a : Reg) (bound : BitVec 16) (target : Nat), s.running x = some e → x.task < 64 →
    GoesOn (.opJmp x target) x s (e.at_ target) ∧
    GoesOn (.opBrt x a target) x s (e.at_ (if e.isTrue a then target else e.pc + 2)) ∧
    GoesOn (.opBrf x a target) x s (e.at_ (if e.isTrue a then e.pc + 2 else target)) ∧
    (¬ e.isTrue a → GoesOn (.opLoop x bound a target) x s (e.at_ (e.pc + 2))) ∧
    (e.isTrue a → loopCount e e.pc < bound.toNat → GoesOn (.opLoop x bound a target) x s
      { e with pc := target, loops := e.loops.filter (·.at_ != e.pc) ++ [⟨e.pc, target, loopCount e e.pc + 1⟩] }) ∧
    (e.isTrue a → bound.toNat ≤ loopCount e e.pc → Completes (.opLoop x bound a target) s fun v =>
      v.exec? x.lane x.task = some { e with ended := true, endAt := s.now, faulted := true } ∧
      v.fget (F.TASK_FAULT_CAUSE x.lane x.task) = 1 ∧ v.fget (F.TASK_FAULT_WORD x.lane x.task) = e.pc % 2 ^ 24 ∧
      v.flag (F.TASK_STAT_FAULT x.lane x.task) ∧
      (s.taskSt x.lane x.task = .released → v.taskSt x.lane x.task = if e.discarded then .released else .finished)) ∧
    GoesOn (.opCall x target) x s ({ e with calls := (e.pc + 2) :: e.calls }.at_ target) ∧
    (∀ r rs, e.calls = r :: rs → GoesOn (.opRet x) x s ({ e with calls := rs }.at_ r)) ∧
    (e.calls = [] → exec (.opRet x) s = exec (.opEnd x) s) ∧
    (e.isTrue a → GoesOn (.opAssert x a) x s (e.at_ (e.pc + 1))) ∧
    (¬ e.isTrue a → Completes (.opAssert x a) s fun v =>
      v.exec? x.lane x.task = some { e with ended := true, endAt := s.now, faulted := true } ∧
      v.fget (F.TASK_FAULT_CAUSE x.lane x.task) = 3 ∧ v.fget (F.TASK_FAULT_WORD x.lane x.task) = e.pc % 2 ^ 24 ∧
      v.flag (F.TASK_STAT_FAULT x.lane x.task) ∧
      (s.taskSt x.lane x.task = .released → v.taskSt x.lane x.task = if e.discarded then .released else .finished)) ∧
    Completes (.opEnd x) s fun v => v.exec? x.lane x.task = some { e with ended := true, endAt := s.now } ∧
      v.taskSt x.lane x.task = s.taskSt x.lane x.task

/-- For an execution under way and a variable of the running folio: LD writes element 0 and LDX the indexed element,
in the variable's type, to d. ST and STX leave the element, at an offset that its size divides, with the register's
value whatever the lane's encoding, for a value that fits the type; module memory and the registers stay, and of the
other lanes only the lines that a transfer must copy again change. LDX and STX with a negative index or one of COUNT
or more are the task fault INDEX and write no variable. -/
def Obligations.StrokeVariablesAreStoredInTheLanesEncoding : Prop :=
  (∀ (s : State) (x : Ctx) (e : Exec) (f : Folio) (v : VarRec) (d a : Reg) (var : Nat), s.running x = some e →
      s.varAt var = some (f, v) →
    Sets (.opLd x d var) x s e 2 d v.ty (rdElem x.lane f (s.lane x.lane).mem v 0) ∧
    (∀ i : Nat, regInt (e.ty a) (e.val a) = i → i < v.count →
      Sets (.opLdx x d a var) x s e 2 d v.ty (rdElem x.lane f (s.lane x.lane).mem v i))) ∧
  (∀ (s : State) (x : Ctx) (e : Exec) (f : Folio) (v : VarRec) (src : Reg) (var : Nat), s.running x = some e →
      s.varAt var = some (f, v) → v.offset % tySize v.ty = 0 → regFits v.ty (e.val src) →
    Completes (.opSt x src var) s fun w =>
      rdElem x.lane f (w.lane x.lane).mem v 0 = e.val src ∧ w.regs = s.regs ∧ w.mem = s.mem ∧
      w.exec? x.lane x.task = some (e.at_ (e.pc + 2)) ∧ ∀ k, k ≠ x.lane → w.lane k = { s.lane k with rewritten := (w.lane k).rewritten }) ∧
  (∀ (s : State) (x : Ctx) (e : Exec) (f : Folio) (v : VarRec) (src a : Reg) (var i : Nat), s.running x = some e →
      s.varAt var = some (f, v) → v.offset % tySize v.ty = 0 → regFits v.ty (e.val src) →
      regInt (e.ty a) (e.val a) = i → i < v.count →
    Completes (.opStx x src a var) s fun w =>
      rdElem x.lane f (w.lane x.lane).mem v i = e.val src ∧ w.regs = s.regs ∧ w.mem = s.mem ∧
      w.exec? x.lane x.task = some (e.at_ (e.pc + 2)) ∧ ∀ k, k ≠ x.lane → w.lane k = { s.lane k with rewritten := (w.lane k).rewritten }) ∧
  (∀ (s : State) (x : Ctx) (e : Exec) (f : Folio) (v : VarRec) (d src a : Reg) (var : Nat), s.running x = some e →
      x.task < 64 → s.varAt var = some (f, v) →
      (regInt (e.ty a) (e.val a) < 0 ∨ (v.count : Int) ≤ regInt (e.ty a) (e.val a)) →
    (Completes (.opLdx x d a var) s fun w => w.exec? x.lane x.task = some { e with ended := true, endAt := s.now, faulted := true } ∧
      w.fget (F.TASK_FAULT_CAUSE x.lane x.task) = 2 ∧ (w.lane x.lane).mem = (s.lane x.lane).mem) ∧
    Completes (.opStx x src a var) s fun w => w.exec? x.lane x.task = some { e with ended := true, endAt := s.now, faulted := true } ∧
      w.fget (F.TASK_FAULT_CAUSE x.lane x.task) = 2 ∧ (w.lane x.lane).mem = (s.lane x.lane).mem)

/-- For an execution under way and a record of the running folio: every block instruction evaluates the record's
bytes with the registers from a (and NOW for timers and RAMP), writes the record back in the lane and puts its
outputs in the registers from d; BLKRD writes a field of the record that it names; BLKRST leaves the record new. On
records of any content: RTRIG gives TRUE exactly on a rising input and FTRIG on a falling one, with SEED 0; SR with
S1 TRUE gives TRUE and RS with R1 TRUE gives FALSE, else the state holds, sets or resets; CTU counts rising edges up
to the greatest INT64 and CTD down to the least, with the reset and load inputs first; TON with input FALSE gives
FALSE and elapsed time 0. -/
def Obligations.BlockInstructionsEvaluateTheirRecords : Prop :=
  (∀ (s : State) (x : Ctx) (e : Exec) (f : Folio) (i : InstRec) (d a : Reg) (inst : Nat), s.running x = some e →
      s.instAt inst = some (f, i) →
    let r := rdInst x.lane f (s.lane x.lane).mem i
    let b := fun (k : Nat) => e.isTrue (a + BitVec.ofNat 8 k)
    let n := fun (k : Nat) => (e.val (a + BitVec.ofNat 8 k)).toInt
    let v := fun (k : Nat) => e.val (a + BitVec.ofNat 8 k)
    let now := (BitVec.ofNat 64 e.release).toInt
    Evaluates (.opTon x d a inst) x s e f i d (evalTon r (b 0) (n 1) now) ∧
    Evaluates (.opTof x d a inst) x s e f i d (evalTof r (b 0) (n 1) now) ∧
    Evaluates (.opTp x d a inst) x s e f i d (evalTp r (b 0) (n 1) now) ∧
    Evaluates (.opRtrig x d a inst) x s e f i d (evalRtrig r (b 0)) ∧
    Evaluates (.opFtrig x d a inst) x s e f i d (evalFtrig r (b 0)) ∧
    Evaluates (.opCtu x d a inst) x s e f i d (evalCtu r (b 0) (b 1) (n 2)) ∧
    Evaluates (.opCtd x d a inst) x s e f i d (evalCtd r (b 0) (b 1) (n 2)) ∧
    Evaluates (.opCtud x d a inst) x s e f i d (evalCtud r (b 0) (b 1) (b 2) (b 3) (n 4)) ∧
    Evaluates (.opSr x d a inst) x s e f i d (evalSr r (b 0) (b 1)) ∧
    Evaluates (.opRs x d a inst) x s e f i d (evalRs r (b 0) (b 1)) ∧
    Evaluates (.opHyst x d a inst) x s e f i d (evalHyst i.ty r (v 0) (v 1) (v 2)) ∧
    Evaluates (.opRamp x d a inst) x s e f i d (evalRamp i.ty r (v 0) (v 1) (v 2) (b 3) now) ∧
    Evaluates (.opLimit x d a inst) x s e f i d (evalLimit i.ty r (v 0) (v 1) (v 2)) ∧
    exec (.opBlkrst x inst) s = .next ((s.writeInst f x.lane i (BitVec.ofNat 8 i.block :: zeros (blockSize i.block - 1))).setExec
      x.lane x.task (e.at_ (e.pc + 2))) ∧
    ∀ (code : Byte) (ty : Ty) (w : DWord), recField i r code.toNat = some (ty, w) → Sets (.opBlkrd x d code inst) x s e 2 d ty w) ∧
  (∀ (r : List Byte) (clk : Bool), 8 ≤ r.length → ¬ recFlag r 7 →
    (evalRtrig r clk).2 = [outBool (clk && !recFlag r 1)] ∧ recFlag (evalRtrig r clk).1 1 = clk ∧
    (evalFtrig r clk).2 = [outBool (!clk && recFlag r 1)] ∧ recFlag (evalFtrig r clk).1 1 = clk) ∧
  (∀ (r : List Byte) (p q : Bool), (evalSr r p q).2 = [outBool (p || (recFlag r 0 && !q))] ∧
    (evalRs r p q).2 = [outBool (!q && (p || recFlag r 0))]) ∧
  (∀ (r : List Byte) (c z : Bool) (pv : Int), 16 ≤ r.length → ¬ recFlag r 7 →
    let up := if z then 0 else if c ∧ ¬ recFlag r 2 ∧ recInt r 8 < 2 ^ 63 - 1 then recInt r 8 + 1 else recInt r 8
    let dn := if z then pv else if c ∧ ¬ recFlag r 3 ∧ -2 ^ 63 < recInt r 8 then recInt r 8 - 1 else recInt r 8
    (evalCtu r c z pv).2 = [outBool (decide (pv ≤ up)), outInt up] ∧
    (evalCtd r c z pv).2 = [outBool (decide (dn ≤ 0)), outInt dn]) ∧
  (∀ (r : List Byte) (pt now : Int), 24 ≤ r.length → (evalTon r false pt now).2 = [outBool false, outTime 0])

/-- For every Stroke instruction, and every context without an execution, with an ended one, in HOLD, in a lane
whose domain is off or whose cores a debugger holds, or of a task that its execution pair does not run now: the state is
unchanged. -/
def Obligations.StrokeRunsOnlyExecutionsUnderWay : Prop :=
  ∀ (i : Instr) (x : Ctx) (s : State), strokeCtx i = some x →
    (s.exec? x.lane x.task = none ∨ (∃ e, s.exec? x.lane x.task = some e ∧ e.ended) ∨ s.modeNow = .hold ∨
      (s.lane x.lane).halted ∨ ¬ s.powered (pdLane x.lane) ∨ ¬ s.runsTask x.lane x.task) →
    exec i s = .next s

/-- An admitted FOLIO_STAGE. Block n other than 0 that is the next expected, with the data length of R171 and the
CRC of its data: the bytes are appended, and the command is answered OK, or, where the block reaches TOTAL_LEN, the
checks begin and the command waits. Block 0 with no checks under way and no switch waiting starts a new folio in the
same way. A CRC that does not match is CHECK_FAIL, and a number that is not expected BAD_PARAM; both are refused,
counted in QUILL_REFUSE, and what was staged stays. The running folio stays throughout. -/
def Obligations.FolioBlocksAreReceivedInOrder : Prop :=
  (∀ (s : State) (c : Cmd) (n total t : Nat) (bytes d : List Byte), (s.tick t).admits c 3 → c.params = stagePacket n d →
      n ≠ 0 → n < 2 ^ 32 → s.folio.staging = .receiving n total bytes → n * 65536 < total →
      d.length = min 65536 (total - n * 65536) →
    Completes (.folioStage c t) s fun v => v.folio.running = s.folio.running ∧
      (total ≤ (bytes ++ d).length → v.folio.staging = .checking (bytes ++ d) c ∧ ∀ r ∈ v.quill.replies, r.cmd = c → r ∈ s.quill.replies) ∧
      ((bytes ++ d).length < total → v.folio.staging = .receiving (n + 1) total (bytes ++ d) ∧ v.repliedWith c 0x0202 0)) ∧
  (∀ (s : State) (c : Cmd) (t : Nat) (d : List Byte), (s.tick t).admits c 3 → c.params = stagePacket 0 d →
      (∀ bs k, s.folio.staging ≠ .checking bs k) → s.folio.pendingSwitch = none → 16 ≤ d.length → 0 < leAt d 12 4 →
      leAt d 12 4 ≤ 100663296 → d.length = min 65536 (leAt d 12 4) →
    Completes (.folioStage c t) s fun v => v.folio.running = s.folio.running ∧
      (leAt d 12 4 ≤ d.length → v.folio.staging = .checking d c) ∧
      (d.length < leAt d 12 4 → v.folio.staging = .receiving 1 (leAt d 12 4) d ∧ v.repliedWith c 0x0202 0)) ∧
  (∀ (s : State) (c : Cmd) (n k total t : Nat) (bytes d : List Byte), (s.tick t).admits c 3 →
      c.params = leBytes 4 n ++ (leBytes 4 k ++ (zeros 8 ++ d)) → n ≠ 0 → n < 2 ^ 32 → k < 2 ^ 32 → k ≠ (crc32c d).toNat →
      s.folio.staging = .receiving n total bytes → n * 65536 < total → d.length = min 65536 (total - n * 65536) →
    Completes (.folioStage c t) s fun v => v.repliedWith c 0x0202 stCheckFail ∧ v.folio = s.folio ∧
      v.fget F.QUILL_REFUSE_COUNT = min (s.fget F.QUILL_REFUSE_COUNT + 1) 0xFFFFFFFF) ∧
  (∀ (s : State) (c : Cmd) (n t : Nat) (d : List Byte), (s.tick t).admits c 3 → c.params = stagePacket n d →
      n ≠ 0 → n < 2 ^ 32 → d.length ≤ 65536 → (∀ total bytes, s.folio.staging ≠ .receiving n total bytes) →
    Completes (.folioStage c t) s fun v => v.repliedWith c 0x0202 stBadParam ∧ v.folio = s.folio ∧
      v.fget F.QUILL_REFUSE_COUNT = min (s.fget F.QUILL_REFUSE_COUNT + 1) 0xFFFFFFFF)

/-- FOLIO_STAGING_COMPLETE with the checks of R172 under way on bytes received with FOLIO_STAGE c (whether the
signatures verify comes with the command, log entry 8): each voting lane's LANE_STAGE.RESULT is the outcome of the
steps. With outcome 1 the folio that the bytes spell is staged, each voting lane keeps its native-image hash, which
folio, lane and firmware give unless another is found (log entry 11), any other lane none, and c is answered OK; with
another outcome nothing is staged and c is answered with the status of the step that failed. A signature that does not
verify is counted, and its folio never staged. The running folio stays. With no checks under way nothing happens. -/
def Obligations.StagedFoliosPassOrFailTheChecks : Prop :=
  (∀ (s : State) (sigOk : Bool) (bad : Lane → Option DWord) (t : Nat) (bytes : List Byte) (c : Cmd),
      s.folio.staging = .checking bytes c → ((s.tick t).stageCheck bytes sigOk).result = 1 →
    Completes (.folioStagingComplete sigOk (bad .a) (bad .b) (bad .c) t) s fun v =>
      sigOk = true ∧ v.folio.staging = .staged (parseFolio bytes) ∧ v.folio.running = s.folio.running ∧ v.repliedWith c 0x0202 0 ∧
      (∀ l, s.isVoting l → v.fget (F.LANE_STAGE_RESULT l) = 1 ∧
        (v.lane l).stagedHash = some ((bad l).getD (s.imageHash (parseFolio bytes) l))) ∧
      ∀ l, ¬ s.isVoting l → (v.lane l).stagedHash = none) ∧
  (∀ (s : State) (sigOk : Bool) (bad : Lane → Option DWord) (t : Nat) (bytes : List Byte) (c : Cmd),
      s.folio.staging = .checking bytes c → ((s.tick t).stageCheck bytes sigOk).result ≠ 1 →
    Completes (.folioStagingComplete sigOk (bad .a) (bad .b) (bad .c) t) s fun v =>
      v.folio.staging = .empty ∧ v.folio.running = s.folio.running ∧
      v.repliedWith c 0x0202 ((s.tick t).stageCheck bytes sigOk).status ∧
      (s.sigFails bytes sigOk → v.fget F.SEC_COUNTS_SIG_FAILS = min (s.fget F.SEC_COUNTS_SIG_FAILS + 1) 0xFFFF) ∧
      ∀ l, s.isVoting l → v.fget (F.LANE_STAGE_RESULT l) = ((s.tick t).stageCheck bytes sigOk).result) ∧
  (∀ (s : State) (sigOk : Bool) (badA badB badC : Option DWord) (t : Nat), (∀ bytes c, s.folio.staging ≠ .checking bytes c) →
    exec (.folioStagingComplete sigOk badA badB badC t) s = .next (s.tick t))

/-- An admitted FOLIO_SWITCH of a staged folio, in a module that is not paired, not in HOLD and holds no other
parameters at its safe stop monitor than the folio declares: the switch waits and PENDING is set. With a folio
running the instant announced is the first grid instant at or after acceptance + 500 us (and before + 10 s) that
meets the conditions predicted; with none it is the first at or after acceptance + 20 us. SEAM_SEARCH_TIMEOUT 10 s
after acceptance ends the switch with NO_SEAM, the folio stays staged; earlier it does nothing. SEAM_VOID at an
announced instant with a task released but uncommitted announces a later instant, or none, and the switch still
waits. FOLIO_IOMIS_CLEAR, with the register reachable, clears VALID alone. -/
def Obligations.SwitchesWaitForTheFirstSeamPredicted : Prop :=
  (∀ (s : State) (c : Cmd) (t : Nat) (f : Folio), (s.tick t).admits c 3 → c.params = [] → ¬ s.paired →
      s.role ≠ roleStandby → s.folio.staging = .staged f → s.modeNow ≠ .hold → s.folio.pendingSwitch = none → ¬ s.ssmDiffers f →
    Completes (.folioSwitch c t) s fun v =>
      let u := ((s.tick t).taken c 0x0203).fput F.FOLIO_STAT_PENDING 1
      v.fget F.FOLIO_STAT_PENDING = 1 ∧ v.folio.staging = s.folio.staging ∧ v.folio.running = s.folio.running ∧
      ∃ w, v.folio.pendingSwitch = some w ∧ w.cmd = some c ∧ w.accepted = (s.tick t).now ∧ w.confirmed ∧
        (s.folio.running = none → ∃ a, w.announced = some a ∧ a % 50000 = 0 ∧ (s.tick t).now + 20000 ≤ a ∧ a < (s.tick t).now + 70000) ∧
        (∀ old, s.folio.running = some old →
          (∀ a, w.announced = some a → a % 50000 = 0 ∧ (s.tick t).now + 500000 ≤ a ∧ a < (s.tick t).now + 10000000000 ∧
            u.seamPredicted old f (u.fget F.FOLIO_CARRY_BYTES) a) ∧
          (∀ b, b % 50000 = 0 → (s.tick t).now + 500000 ≤ b → b < (s.tick t).now + 10000000000 →
            (∀ a, w.announced = some a → b < a) → ¬ u.seamPredicted old f (u.fget F.FOLIO_CARRY_BYTES) b))) ∧
  (∀ (s : State) (w : Switch) (c : Cmd) (t : Nat), s.folio.pendingSwitch = some w → w.cmd = some c →
      w.accepted + 10000000000 ≤ (s.tick t).now →
    Completes (.seamSearchTimeout t) s fun v =>
      v.folio = { s.folio with pendingSwitch := none } ∧ v.fget F.FOLIO_STAT_PENDING = 0 ∧ v.fget F.FOLIO_STAT_LAST_RESULT = 2 ∧
      v.repliedWith c 0x0203 stNoSeam) ∧
  (∀ (s : State) (w : Switch) (t : Nat), s.folio.pendingSwitch = some w → (s.tick t).now < w.accepted + 10000000000 →
    exec (.seamSearchTimeout t) s = .next (s.tick t)) ∧
  (∀ (s : State) (w : Switch) (a t : Nat), s.folio.pendingSwitch = some w → w.announced = some a → a ≤ (s.tick t).now →
      (s.tick t).anyUncommitted → ¬ s.notActing → ¬ s.paired →
    Completes (.seamVoid t) s fun v => ∃ b, v.folio.pendingSwitch = some { w with announced := b, confirmed := true } ∧
      (∀ x, b = some x → a + 50000 ≤ x) ∧ v = { s.tick t with folio := v.folio } ∧
      v.folio = { s.folio with pendingSwitch := v.folio.pendingSwitch }) ∧
  (∀ s : State, s.reachable R.FOLIO_IOMIS → Completes .folioIomisClear s fun v => v.fget F.FOLIO_IOMIS_VALID = 0 ∧ State.RegsOnly [R.FOLIO_IOMIS] s v)

/-- SEAM at the announced instant, which stands: the staged folio is the running folio, the old one is kept as the
previous folio with the generation that the seam ends, nothing is staged and no switch waits; each voting lane's
memory is what the carry makes of it; the generation of the fabrics is one higher, unless an output commit of this
instant raised it; no commit is due. Where the announced instant is not now or does not stand nothing happens.
CARRY_COMPLETE, with VIN not in warning: each lane's flash records the slot, counter RB_INDEX is at least RB_VALUE,
LAST_RESULT reads 1, and FOLIO_SWITCH is answered OK; with VIN in warning the carry stays pending. -/
def Obligations.TheSeamSwitchesTheFolioIn : Prop :=
  (∀ (s : State) (w : Switch) (f : Folio) (t : Nat), s.folio.pendingSwitch = some w → s.folio.staging = .staged f →
      (s.tick t).seamStands w →
    Completes (.seam t) s fun v =>
      let u := ((s.tick t).takeOvers).withdrawLatent
      v.folio.running = some f ∧ v.folio.previous = s.folio.running ∧ v.folio.staging = .empty ∧ v.folio.pendingSwitch = none ∧
      v.folio.carry = some w.cmd ∧ v.folio.seamAt = some (s.tick t).now ∧
      v.folio.previousGen = (v.fabric.gen + 0xFFFF) % 2 ^ 16 ∧
      (∀ l, u.isVoting l → (v.lane l).mem = (carryLane l f s.folio.running (u.lane l).mem).mem) ∧
      v.fabric.gen = (if u.fabric.genAt = some (s.tick t).now then u.fabric.gen else (u.fabric.gen + 1) % 2 ^ 16) ∧
      v.ductus.tasks.map (·.task) = f.tasks.map (·.task)) ∧
  (∀ (s : State) (w : Switch) (t : Nat), s.folio.pendingSwitch = some w → ¬ (s.tick t).seamStands w →
    exec (.seam t) s = .next (s.tick t)) ∧
  (∀ (s : State) (c : Cmd) (f : Folio) (t : Nat), s.folio.carry = some (some c) → s.folio.running = some f → f.rbIndex < 64 →
      f.rbValue < 2 ^ 32 → ¬ s.flag F.RPC_VIN_IN_WARNING →
    Completes (.carryComplete t) s fun v =>
      (∀ l, (v.lane l).slotRecord = s.fget F.FOLIO_STAT_SLOT) ∧ v.rub.recorded = some f ∧
      v.folio = { s.folio with carry := none } ∧ v.fget F.FOLIO_STAT_LAST_RESULT = 1 ∧
      v.rbCounter f.rbIndex = max (s.rbCounter f.rbIndex) f.rbValue ∧ v.repliedWith c 0x0203 0) ∧
  (∀ (s : State) (c : Option Cmd) (f : Folio) (t : Nat), s.folio.carry = some c → s.folio.running = some f →
      s.flag F.RPC_VIN_IN_WARNING →
    Completes (.carryComplete t) s fun v => v.folio = s.folio ∧ v.regs = s.regs ∧ v.quill = s.quill)

/-- FIELD_LINK_FRAME_TIME acts only 20 us after a grid instant: after what fell due at that instant each side of each
link sends its frame, unless frames wait for a step of the time scale (that one command does both, log entry 15). A
logic-to-field frame starts with 0xC1, carries the APPLY instant t + 30 us and one command bit per position, a
member's being its leader's; outside RUN a channel that takes commands is sent its stop value. The field controller
samples before it sends, on its own time. A good LOGIC_TO_FIELD_FRAME sets that time and waits for its APPLY instant
(one record goes into the shadow of its position); any other is discarded and counted. At APPLY_INSTANT its commands
(outside the blotter state), DISABLE and GEN apply (where it asks for no take-over and no blotter state), and with or
without a frame the restored banks drive again; nothing off the grid. A good FIELD_TO_LOGIC_FRAME replaces the image,
LINK.UP is 1 and CH_STAT shows STATE and VALID; a bad one counts FL_BAD, LINK.UP and every VALID are 0 and STATE
stays. -/
def Obligations.FieldFramesCarryCommandsAndTheImage : Prop :=
  (∀ (s : State) (t : Nat), (s.upTo t).now % 50000 ≠ 20000 → exec (.fieldLinkFrameTime t) s = .next (s.upTo t)) ∧
  (∀ (s : State) (t : Nat), (s.upTo t).now % 50000 = 20000 →
    let u := (s.upTo t).evalAt ((s.upTo t).now - 20000) State.gridInstant
    (u.now < u.time.framesFrom → exec (.fieldLinkFrameTime t) s = .next u) ∧
    (u.time.framesFrom ≤ u.now → Completes (.fieldLinkFrameTime t) s fun v => ∀ g,
      (v.fioGrp g).sentLf = (u.freeRecs g (u.fioGrp g).txSeq).lfFrame g u.now ∧
      (v.fioGrp g).txSeq = ((u.fioGrp g).txSeq + 1) % 2 ^ 32 ∧
      (u.fgUp g → (v.fioGrp g).sentFl = ((u.fc g).sample u.now).flFrame (u.fcTime g) ∧
        v.fc g = { (u.fc g).sample u.now with
          txSeq := ((u.fc g).txSeq + 1) % 2 ^ 32, statusBank := ((u.fc g).statusBank + 1) % 8, edges := [] }) ∧
      (¬ u.fgUp g → (v.fioGrp g).sentFl = (u.fioGrp g).sentFl ∧ v.fc g = u.fc g))) ∧
  (∀ (s : State) (g : Grp) (n : Nat), n + 30000 < 2 ^ 64 →
    byteAt (s.lfFrame g n) 0 = 0xC1 ∧ leAt (s.lfFrame g n) 8 8 = n + 30000 ∧
    ∀ p, p < 128 → natBit (leAt (s.lfFrame g n) 16 16) p = s.outCmd (chanNo g p)) ∧
  (∀ (s : State) (ch : Nat), s.modeNow ≠ .run → isLead (s.cfgOf ch).kind → s.outCmd ch = s.stopCmd ch) ∧
  (∀ (s : State) (ch : Nat), (s.cfgOf ch).kind = kMember → (s.cfgOf (s.leadChan ch)).kind ≠ kMember →
    s.outCmd ch = s.outCmd (s.leadChan ch)) ∧
  (∀ (s : State) (g : Grp) (bs : List Byte) (t : Nat), s.fgUp g → frameGood bs 104 0xC1 (s.fc g).rxSeq →
    Completes (.logicToFieldFrame g bs t) s fun v =>
      v = { s.tick t with fio := v.fio } ∧ (v.fc g).frame = some bs ∧ (v.fc g).rxSeq = some (leAt bs 4 4) ∧
      (v.fc g).skew = skewOf bs (s.tick t).now ∧ (v.fc g).cmd = (s.fc g).cmd ∧ (∀ k, k ≠ g → v.fc k = s.fc k) ∧ (byteAt bs 33 = 0 → (v.fc g).shadow = (s.fc g).shadow) ∧
      (byteAt bs 33 = 1 → assoc (v.fc g).shadow (recKey (slice bs 36 16)) = some (byteAt bs 32, slice bs 36 16))) ∧
  (∀ (s : State) (g : Grp) (bs : List Byte) (t : Nat), ¬ s.fgUp g → exec (.logicToFieldFrame g bs t) s = .next (s.tick t)) ∧
  (∀ (s : State) (g : Grp) (bs : List Byte) (t : Nat), s.fgUp g → ¬ frameGood bs 104 0xC1 (s.fc g).rxSeq →
    Completes (.logicToFieldFrame g bs t) s fun v => State.RegsOnly [R.FIO_LINK_ERR g] (s.tick t) v ∧
      v.fget (F.FIO_LINK_ERR_LF_BAD g) = min (s.fget (F.FIO_LINK_ERR_LF_BAD g) + 1) 0xFFFF) ∧
  (∀ (s : State) (g : Grp) (bs : List Byte) (t : Nat), frameGood bs 284 0xC2 (s.fioGrp g).rxSeq →
    Completes (.fieldToLogicFrame g bs t) s fun v =>
      (v.fioGrp g).rxSeq = some (leAt bs 4 4) ∧ (v.fioGrp g).sample = leAt bs 8 8 ∧ (v.fioGrp g).stateBits = leAt bs 24 16 ∧
      (v.fioGrp g).validBits = leAt bs 40 16 ∧ v.fget (F.FIO_LINK_UP g) = 1 ∧ v.fget (F.FIO_LINK_SET g) = byteAt bs 20 ∧
      ∀ p, p < 128 → v.fget (F.CH_STAT_STATUS g p) % 4 = bit (natBit (leAt bs 24 16) p) + 2 * bit (natBit (leAt bs 40 16) p)) ∧
  (∀ (s : State) (g : Grp) (bs : List Byte) (t : Nat), ¬ frameGood bs 284 0xC2 (s.fioGrp g).rxSeq →
    Completes (.fieldToLogicFrame g bs t) s fun v =>
      v = { s.tick t with regs := v.regs, fio := v.fio, fabric := v.fabric } ∧ (∀ k, v.fc k = s.fc k) ∧
      v.fioGrp g = { s.fioGrp g with validBits := 0 } ∧
      v.fget (F.FIO_LINK_ERR_FL_BAD g) = min (s.fget (F.FIO_LINK_ERR_FL_BAD g) + 1) 0xFFFF ∧ v.fget (F.FIO_LINK_UP g) = 0 ∧
      (∀ p, p < 128 → ¬ natBit (v.fget (F.CH_STAT_STATUS g p)) 1 ∧
        v.fget (F.CH_STAT_STATUS g p) % 2 = s.fget (F.CH_STAT_STATUS g p) % 2) ∧
      ∀ a, a ≠ R.FIO_LINK_ERR g → a ≠ R.FIO_LINK g → (∀ p, p < 128 → a ≠ R.CH_STAT g p) → v.reg a = s.reg a) ∧
  (∀ (s : State) (g : Grp) (bs : List Byte) (t : Nat), t % 50000 = 0 → s.fgUp g → (s.fc g).frame = some bs →
      leAt bs 8 8 = (s.tick t).fcTime g → ¬ natBit (byteAt bs 1) 0 → ¬ natBit (byteAt bs 1) 1 →
    Completes (.applyInstant t) s fun v =>
      (v.fc g).cmd = (if (s.fc g).blotter then (s.fc g).cmd else leAt bs 16 16) ∧ (v.fc g).disable = natBit (byteAt bs 1) 2 ∧ (v.fc g).gen = leAt bs 2 2 ∧
      (v.fc g).lastApply = some (s.tick t).now ∧ (v.fc g).frame = none ∧ (v.fc g).blotter = (s.fc g).blotter ∧
      (v.fc g).setTaken = (s.fc g).setTaken) ∧
  (∀ (s : State) (g : Grp) (t : Nat), t % 50000 = 0 → s.fgUp g → Completes (.applyInstant t) s fun v =>
    (∀ k ∈ (v.fc g).banks, ¬ k.waitApply) ∧
    ((s.tick t).frameNow g = none → (v.fc g).cmd = (s.fc g).cmd ∧ (v.fc g).lastApply = (s.fc g).lastApply)) ∧
  (∀ (s : State) (t : Nat), t % 50000 ≠ 0 → exec (.applyInstant t) s = .next (s.tick t))

/-- An admitted CH_CONFIG whose record is in range joins the open set (a new one if there is none) without a reply,
in place of an earlier record for the same channel or group;
a record out of range is refused with its index and changes no set; while a set is closed CH_CONFIG is BUSY. LAST
with no records closes a set whose result passes the check of ligatures and banks; where it does not pass, the set
is discarded with result 2 and the command is answered BAD_PARAM. CH_CONFIG_DISCARD discards the set with result 3
and is answered OK. SHADOW_SET_OPEN_TIMEOUT after 10 s without a packet discards an open set with result 3,
SHADOW_SET_COMPLETE_TIMEOUT a closed incomplete one with result 4; each packet that is owed a reply gets it. None of
these changes a channel's configuration; the take-over of a complete set does. -/
def Obligations.ChannelSetsAreGatheredAndTakenOver : Prop :=
  (∀ (s : State) (c : Cmd) (r : List Byte) (t : Nat), (s.tick t).admits c 3 →
      c.params = zeros 2 ++ (leBytes 2 1 ++ (zeros 4 ++ r)) → r.length = 16 → cfgRecOk r → s.fio.set.all (fun z => z.closedAt.isNone) →
      (∀ f ∈ s.ductus.fences, f.cmd ≠ c) →
    Completes (.chConfig c t) s fun v => ∃ z, v.fio.set = some z ∧ z.closedAt = none ∧
      z.recs = (match s.fio.set with
          | some y => y.recs.filter fun q => !(q.grp == recGrp r && recKey q.bytes == recKey r)
          | none => []) ++ [(⟨recGrp r, r, some c, gridUp ((s.tick t).now + 20000), none, false⟩ : ShadowRec)] ∧
      (∀ ch, v.cfgOf ch = s.cfgOf ch) ∧ ∀ x ∈ v.quill.replies, x.cmd = c → x ∈ s.quill.replies) ∧
  (∀ (s : State) (c : Cmd) (r : List Byte) (t : Nat), (s.tick t).admits c 3 →
      c.params = zeros 2 ++ (leBytes 2 1 ++ (zeros 4 ++ r)) → r.length = 16 → ¬ cfgRecOk r →
    Completes (.chConfig c t) s fun v => v.repliedWith c 0x0501 stBadParam ∧ v.fio = s.fio) ∧
  (∀ (s : State) (c : Cmd) (z : ShadowSet) (t : Nat), (s.tick t).admits c 3 → c.params = 1 :: zeros 7 →
      s.fio.set = some z → z.closedAt.isSome →
    Completes (.chConfig c t) s fun v => v.repliedWith c 0x0501 stBusy ∧ v.fio = s.fio) ∧
  (∀ (s : State) (c : Cmd) (z : ShadowSet) (t : Nat), (s.tick t).admits c 3 → c.params = 1 :: zeros 7 →
      s.fio.set = some z → z.closedAt = none → s.setOk (z.recs.map (·.bytes)) →
    Completes (.chConfig c t) s fun v =>
      v.fio.set = some { z with touchedAt := (s.tick t).now, last := some c, closedAt := some (s.tick t).now } ∧
      ∀ ch, v.cfgOf ch = s.cfgOf ch) ∧
  (∀ (s : State) (c : Cmd) (z : ShadowSet) (t : Nat), (s.tick t).admits c 3 → c.params = 1 :: zeros 7 →
      s.fio.set = some z → z.closedAt = none → ¬ s.setOk (z.recs.map (·.bytes)) →
    Completes (.chConfig c t) s fun v => v.fio = { s.fio with set := none } ∧
      (∀ g, v.fget (F.FIO_SHADOW_LAST_RESULT g) = 2) ∧ v.repliedWith c 0x0501 stBadParam ∧ ∀ ch, v.cfgOf ch = s.cfgOf ch) ∧
  (∀ (s : State) (c : Cmd) (z : ShadowSet) (t : Nat), (s.tick t).admits c 3 → c.params = 2 :: zeros 7 → s.fio.set = some z →
    Completes (.chConfigDiscard c t) s fun v => v.fio = { s.fio with set := none } ∧
      (∀ g, v.fget (F.FIO_SHADOW_LAST_RESULT g) = 3) ∧ v.repliedWith c 0x0501 0 ∧ ∀ ch, v.cfgOf ch = s.cfgOf ch) ∧
  (∀ (s : State) (z : ShadowSet) (t : Nat), s.fio.set = some z → z.closedAt = none → z.touchedAt + 10000000000 ≤ (s.tick t).now →
    Completes (.shadowSetOpenTimeout t) s fun v => v.fio = { s.fio with set := none } ∧
      (∀ g, v.fget (F.FIO_SHADOW_LAST_RESULT g) = 3) ∧ (∀ c ∈ z.owed, v.repliedWith c 0x0501 stAborted) ∧
      ∀ ch, v.cfgOf ch = s.cfgOf ch) ∧
  (∀ (s : State) (z : ShadowSet) (a t : Nat), s.fio.set = some z → z.closedAt = some a → ¬ z.complete →
      a + 10000000000 ≤ (s.tick t).now →
    Completes (.shadowSetCompleteTimeout t) s fun v => v.fio = { s.fio with set := none } ∧
      (∀ g, v.fget (F.FIO_SHADOW_LAST_RESULT g) = 4) ∧ (∀ c ∈ z.owed, v.repliedWith c 0x0501 stTimeout) ∧
      ∀ ch, v.cfgOf ch = s.cfgOf ch) ∧
  (∀ (s : State) (t : Nat), s.fio.set.all (fun z => decide ((s.tick t).now < z.touchedAt + 10000000000)) →
    exec (.shadowSetOpenTimeout t) s = .next (s.tick t)) ∧
  (∀ (s : State) (t : Nat), s.fio.set.all (fun z => z.complete) → exec (.shadowSetCompleteTimeout t) s = .next (s.tick t)) ∧
  (∀ (s : State) (z : ShadowSet) (x : ShadowRec), s.fio.set = some z → z.complete → z.recs = [x] → ¬ s.flag F.VOTE_CTRL_FAILED →
      cfgRecOk x.bytes → byteAt x.bytes 1 ≠ 0xF0 →
    s.takeSet.cfgOf (byteAt x.bytes 0) = cfgOfRec x.bytes ∧ s.takeSet.fio.set = none)

/-- In a powered group. RAW_TRANSITION takes the level of a pin into its channel, whose raw state is free between 5 V
and 11 V: an input whose raw state differs from the filtered one starts a run, or, with FILTER 0, follows at once with
an edge stamped to 1 us of the field controller's time and counted; INPUT_FILTER_EXPIRE does so after the FILTER time.
A wetting pulse starts at a transition not within 20 ms of the last and WETTING_PULSE_END ends it. INPUT_TICK_SAMPLE
latches every state on the 10 us ticks of that time. VALID_HOLDOFF_EXPIRE takes the raw state. BANK_SUPPLY_MEASURE:
the second measurement in a row at or below 18 V warns, at or below 14 V cuts the bank, whose stages are then off.
BANK_WARN_CLEAR, BANK_RESTORE and BANK_VALID_RESUME after 1, 10 and 1 ms. SILENCE_TIMEOUT and HALT_RECEIVED enter the
blotter state, count and cause it. -/
def Obligations.InputsBanksAndSilenceAreSupervised : Prop :=
  (∀ (s : State) (g : Grp) (p t : Nat) (lv : Pin), s.fgUp g → p < 128 → lv ≠ .mid → ((s.fc g).chan p).cfg.filter ≠ 0 →
    Completes (.rawTransition g p lv t) s fun v =>
      State.ChanPut g (chanRead ((s.fc g).chan p) lv (lv == .high) (s.tick t).now) [] (s.tick t) v) ∧
  (∀ (s : State) (g : Grp) (p t : Nat), s.fgUp g → p < 128 → ((s.fc g).chan p).cfg.filter ≠ 0 →
    Completes (.rawTransition g p .mid t) s fun v => v.fresh = (s.tick t).fresh + 1 ∧
      ((v.fc g).chan p).raw = (s.tick t).freeWord.getLsbD 0 ∧ v.regs = s.regs) ∧
  (∀ (s : State) (g : Grp) (p t : Nat) (lv : Pin), s.fgUp g → p < 128 → lv ≠ .mid → ((s.fc g).chan p).cfg.filter = 0 →
      ((s.fc g).chan p).cfg.kind = 1 → ((s.fc g).chan p).hold = none → ((s.fc g).chan p).filtered ≠ (lv == .high) →
    Completes (.rawTransition g p lv t) s fun v => ((v.fc g).chan p).filtered = (lv == .high) ∧ ((v.fc g).chan p).run = none ∧
      (v.fc g).edges = (s.fc g).edges ++ [⟨p, lv == .high, (s.tick t).fcTime g - (s.tick t).fcTime g % 1000⟩] ∧
      v.fget (F.CH_CNT_COUNT g p) = (s.fget (F.CH_CNT_COUNT g p) + 1) % 2 ^ 32 ∧ State.RegsKept [R.CH_CNT g p] s v) ∧
  (∀ (c : FcChan) (lv : Pin) (raw : Bool) (n : Nat), (chanRead c lv raw n).pin = lv ∧ (chanRead c lv raw n).raw = raw ∧
    (chanRead c lv raw n).filtered = c.filtered ∧
    (c.cfg.kind = 1 → c.hold = none → (chanRead c lv raw n).run = if raw = c.filtered then none else some (c.run.getD n)) ∧
    (c.cfg.kind = 1 → flagWetting c.cfg → raw ≠ c.raw → (∀ w, c.wetAt = some w → w + 20000000 ≤ n) →
      (chanRead c lv raw n).wetting ∧ (chanRead c lv raw n).wetAt = some n)) ∧
  (∀ (s : State) (g : Grp) (p r t : Nat), s.fgUp g → p < 128 → ((s.fc g).chan p).cfg.kind = 1 → ((s.fc g).chan p).hold = none →
      ((s.fc g).chan p).run = some r → r + 100000 * ((s.fc g).chan p).cfg.filter ≤ (s.tick t).now →
    Completes (.inputFilterExpire g p t) s fun v =>
      State.ChanPut g { (s.fc g).chan p with filtered := ((s.fc g).chan p).raw, run := none } [R.CH_CNT g p] (s.tick t) v ∧
      (v.fc g).edges = (s.fc g).edges ++ [⟨p, ((s.fc g).chan p).raw, (s.tick t).fcTime g - (s.tick t).fcTime g % 1000⟩] ∧
      v.fget (F.CH_CNT_COUNT g p) = (s.fget (F.CH_CNT_COUNT g p) + 1) % 2 ^ 32) ∧
  (∀ (s : State) (t : Nat), Completes (.inputTickSample t) s fun v => v = { s.tick t with fio := v.fio } ∧
    ∀ g, v.fc g = if s.fgUp g ∧ (s.tick t).fcTime g % 10000 = 0 then
      { s.fc g with tick := (s.fc g).stateNow, chans := (s.fc g).chans.map (chanTick (s.tick t).now) } else s.fc g) ∧
  (∀ (s : State) (g : Grp) (p w t : Nat), ((s.fc g).chan p).wetAt = some w → ((s.fc g).chan p).wetting →
      w + 2000000 ≤ (s.tick t).now →
    Completes (.wettingPulseEnd g p t) s (State.ChanPut g { (s.fc g).chan p with wetting := false } [] (s.tick t))) ∧
  (∀ (s : State) (g : Grp) (p h t : Nat), s.fgUp g → ((s.fc g).chan p).hold = some h → h ≤ (s.tick t).now →
    Completes (.validHoldoffExpire g p t) s
      (State.ChanPut g { (s.fc g).chan p with hold := none, filtered := ((s.fc g).chan p).raw, run := none } [] (s.tick t))) ∧
  (∀ (s : State) (g : Grp) (b volts t : Nat), s.fgUp g → b < 8 → b < (s.fc g).banks.length → (s.fc g).used b →
      ¬ ((s.fc g).bank b).warn → 1 ≤ ((s.fc g).bank b).warnRun → 1400 < volts → volts ≤ 1800 →
    Completes (.bankSupplyMeasure g b volts t) s fun v => ((v.fc g).bank b).warn ∧ ((v.fc g).bank b).volts = volts ∧
      ((v.fc g).bank b).cut = ((s.fc g).bank b).cut ∧ (∀ j, j ≠ b → (v.fc g).bank j = (s.fc g).bank j) ∧
      v.fget (F.FIO_BANK_EVT_WARNS g b) = min (s.fget (F.FIO_BANK_EVT_WARNS g b) + 1) 255) ∧
  (∀ (s : State) (g : Grp) (b volts t : Nat), s.fgUp g → b < 8 → b < (s.fc g).banks.length → (s.fc g).used b →
      ¬ ((s.fc g).bank b).cut → 1 ≤ ((s.fc g).bank b).cutRun → volts ≤ 1400 →
    Completes (.bankSupplyMeasure g b volts t) s fun v => ((v.fc g).bank b).cut ∧ v.fget (F.FIO_BANK_EVT_CUT_CAUSE g b) = 1 ∧
      v.fget (F.FIO_BANK_EVT_CUTS g b) = min (s.fget (F.FIO_BANK_EVT_CUTS g b) + 1) 255 ∧
      ∀ p, bankOf p = b → ¬ (v.fc g).stageOn p) ∧
  (∀ (s : State) (g : Grp) (b r t : Nat), b < (s.fc g).banks.length → ((s.fc g).bank b).clearSince = some r →
      ((s.fc g).bank b).warn → r + 1000000 ≤ (s.tick t).now →
    Completes (.bankWarnClear g b t) s
      (State.BankPut g b { (s.fc g).bank b with warn := false, validHold := some (s.tick t).now } (s.tick t))) ∧
  (∀ (s : State) (g : Grp) (b r t : Nat), b < (s.fc g).banks.length → ((s.fc g).bank b).restoreSince = some r →
      ((s.fc g).bank b).cut → ¬ ((s.fc g).bank b).latched → r + 10000000 ≤ (s.tick t).now →
    Completes (.bankRestore g b t) s (State.BankPut g b { (s.fc g).bank b with
      cut := false, cutRun := 0, waitApply := true, restoredAt := (s.tick t).now } (s.tick t))) ∧
  (∀ (s : State) (g : Grp) (b r t : Nat), b < (s.fc g).banks.length → ((s.fc g).bank b).validHold = some r →
      r + 1000000 ≤ (s.tick t).now →
    Completes (.bankValidResume g b t) s (State.BankPut g b { (s.fc g).bank b with validHold := none } (s.tick t))) ∧
  (∀ (s : State) (g : Grp) (a t : Nat), s.fgUp g → ¬ (s.fc g).blotter → (s.fc g).lastApply = some a →
      a + (s.fc g).silenceMs * 1000000 ≤ (s.tick t).now → ¬ (s.fc g).appliesAt ((s.tick t).fcTime g) →
    Completes (.silenceTimeout g t) s fun v => (v.fc g).blotter ∧ v.fget (F.FIO_BLOTTER_CAUSE g) = 1 ∧
      v.fget (F.FIO_BLOTTER_ENTRIES g) = min (s.fget (F.FIO_BLOTTER_ENTRIES g) + 1) 255 ∧ (v.fc g).cmd = (s.fc g).cmd) ∧
  (∀ (s : State) (g : Grp) (t : Nat), s.fgUp g → ¬ (s.fc g).blotter →
    Completes (.haltReceived g t) s fun v => (v.fc g).blotter ∧ v.fget (F.FIO_BLOTTER_CAUSE g) = 3 ∧
      v.fget (F.FIO_BLOTTER_ENTRIES g) = min (s.fget (F.FIO_BLOTTER_ENTRIES g) + 1) 255 ∧ (v.fc g).cmd = (s.fc g).cmd)

/-- In a powered group, for position p below 128 with channel c. TEST_DUE starts the dark pulse that has fallen due at
a grid instant of its own time; in a bank with bad supply it is INCOMPLETE and due again TEST_S later. DARK_PULSE_END
with the pin seen low passes; a first failure is repeated at the first grid instant from 100 ms later; a second of the
same kind sets EXTERNAL_DRIVE, or is a stage fault. DARK_PULSE_REPEAT starts the pulse again, or is INCOMPLETE.
PROBE_END records load, open load or undecided by the pin. OVERLOAD_LATCH and THERMAL_SHUTDOWN latch the leader off;
OVERLOAD_RETRY drives it again at the grid instant 1 s later, or a whole number of seconds after that, unless a
thermal shutdown has not cooled, and clears OVERLOAD after 100 ms with the stage on. OPEN_LOAD_DETECT,
EXTERNAL_DRIVE_DETECT and EXTERNAL_DRIVE_CLEAR set and clear their flags; more than 20 mA of external drive is a stage
fault. -/
def Obligations.StagesAreTestedAndTheirFaultsHandled : Prop :=
  (∀ (s : State) (g : Grp) (p d t : Nat), s.fgUp g → ((s.fc g).chan p).due = some d → d ≤ (s.tick t).now →
      isLead ((s.fc g).chan p).cfg.kind → (s.fc g).claim → ¬ (s.fc g).supplyBad p → ¬ (s.fc g).disable →
      ¬ ((s.fc g).chan p).latched → (s.fc g).stageCmd p → flagDark ((s.fc g).chan p).cfg → (s.tick t).fcTime g % 50000 = 0 →
      ¬ (s.fc g).bankBusy (bankOf p) → ¬ (s.fc g).lowerWaits p (s.tick t).now →
    Completes (.testDue g p t) s (State.ChanPut g { (s.fc g).chan p with
      due := some ((s.tick t).now + ((s.fc g).chan p).cfg.testS * 1000000000)
      test := some ⟨true, (s.tick t).now, ((s.fc g).chan p).pin == .low⟩ } [] (s.tick t))) ∧
  (∀ (s : State) (g : Grp) (p d t : Nat), p < 128 → s.fgUp g → ((s.fc g).chan p).due = some d → d ≤ (s.tick t).now →
      isLead ((s.fc g).chan p).cfg.kind → (s.fc g).claim → (s.fc g).supplyBad p →
    Completes (.testDue g p t) s fun v => v.fget (F.CH_FAULT_LAST_TEST g p) = 7 ∧
      v.fget (F.FIO_TEST_INCOMPLETE g) = min (s.fget (F.FIO_TEST_INCOMPLETE g) + 1) 0xFFFF ∧
      State.ChanPut g { (s.fc g).chan p with due := some (d + ((s.fc g).chan p).cfg.testS * 1000000000) }
        [R.CH_FAULT g p, R.FIO_TEST g] (s.tick t) v) ∧
  (∀ (s : State) (g : Grp) (p t : Nat), (∀ d, ((s.fc g).chan p).due = some d → (s.tick t).now < d) →
    exec (.testDue g p t) s = .next (s.tick t)) ∧
  (∀ (s : State) (g : Grp) (p t : Nat) (k : ChanTest) (hot : Bool), p < 128 → ((s.fc g).chan p).test = some k → k.dark → k.sawLow →
      k.start + ((s.fc g).chan p).cfg.darkUs * 1000 ≤ (s.tick t).now →
    Completes (.darkPulseEnd g p hot t) s fun v => v.fget (F.CH_FAULT_LAST_TEST g p) = 1 ∧
      v.fget (F.FIO_TEST_DONE g) = (s.fget (F.FIO_TEST_DONE g) + 1) % 2 ^ 16 ∧
      State.ChanPut g { (s.fc g).chan p with test := none, firstFail := 0, repeatAt := none, extByDark := false
                                             extDrive := ((s.fc g).chan p).extDrive && !((s.fc g).chan p).extByDark }
        [R.CH_FAULT g p, R.FIO_TEST g] (s.tick t) v) ∧
  (∀ (s : State) (g : Grp) (p t : Nat) (k : ChanTest) (hot : Bool), p < 128 → ((s.fc g).chan p).test = some k → k.dark → ¬ k.sawLow →
      k.start + ((s.fc g).chan p).cfg.darkUs * 1000 ≤ (s.tick t).now → ((s.fc g).chan p).pin = .high →
      ((s.fc g).chan p).pinAt + 50000 ≤ (s.tick t).now → ((s.fc g).chan p).firstFail = 0 →
    Completes (.darkPulseEnd g p hot t) s fun v => v.fget (F.CH_FAULT_LAST_TEST g p) = (if hot then 3 else 2) ∧
      State.ChanPut g { (s.fc g).chan p with
          test := none, firstFail := if hot then 3 else 2, repeatAt := some (gridUp ((s.tick t).now + 100000000)) }
        [R.CH_FAULT g p, R.FIO_TEST g] (s.tick t) v) ∧
  (∀ (s : State) (g : Grp) (p t : Nat) (k : ChanTest), p < 128 → ((s.fc g).chan p).test = some k → k.dark → ¬ k.sawLow →
      k.start + ((s.fc g).chan p).cfg.darkUs * 1000 ≤ (s.tick t).now → ((s.fc g).chan p).pin = .high →
      ((s.fc g).chan p).pinAt + 50000 ≤ (s.tick t).now →
    (((s.fc g).chan p).firstFail = 2 → Completes (.darkPulseEnd g p false t) s fun v =>
      State.ChanPut g { (s.fc g).chan p with test := none, firstFail := 0, repeatAt := none, extDrive := true, extByDark := true }
        [R.CH_FAULT g p, R.FIO_TEST g] (s.tick t) v) ∧
    (((s.fc g).chan p).firstFail = 3 → bankOf p < (s.fc g).banks.length → ¬ ((s.fc g).bank (bankOf p)).latched →
      Completes (.darkPulseEnd g p true t) s fun v => v.stageFaulted g p)) ∧
  (∀ (s : State) (g : Grp) (p r t : Nat), ((s.fc g).chan p).repeatAt = some r → r ≤ (s.tick t).now →
      ((s.fc g).chan p).test = none → ¬ (s.fc g).supplyBad p → (s.fc g).stageOn p → (s.tick t).fcTime g % 50000 = 0 →
      ¬ (s.fc g).bankBusy (bankOf p) → ¬ (s.fc g).lowerWaits p (s.tick t).now →
    Completes (.darkPulseRepeat g p t) s (State.ChanPut g { (s.fc g).chan p with
      repeatAt := none, test := some ⟨true, (s.tick t).now, ((s.fc g).chan p).pin == .low⟩ } [] (s.tick t))) ∧
  (∀ (s : State) (g : Grp) (p r t : Nat), ((s.fc g).chan p).repeatAt = some r → r ≤ (s.tick t).now →
      ((s.fc g).chan p).test = none → ¬ (s.fc g).stageOn p →
    Completes (.darkPulseRepeat g p t) s (State.ChanPut g { (s.fc g).chan p with firstFail := 0, repeatAt := none }
      [R.CH_FAULT g p, R.FIO_TEST g] (s.tick t))) ∧
  (∀ (s : State) (g : Grp) (p t : Nat) (k : ChanTest), p < 128 → ((s.fc g).chan p).test = some k → ¬ k.dark →
      k.start + 100000 ≤ (s.tick t).now →
    Completes (.probeEnd g p t) s fun v =>
      (((s.fc g).chan p).pin = .low → v.fget (F.CH_FAULT_LAST_TEST g p) = 4 ∧
        (v.fc g).chan p = { (s.fc g).chan p with test := none, openLoad := false, openByOn := false }) ∧
      (((s.fc g).chan p).pin = .high → v.fget (F.CH_FAULT_LAST_TEST g p) = 5 ∧
        (v.fc g).chan p = { (s.fc g).chan p with test := none, openLoad := true, openByOn := false }) ∧
      (((s.fc g).chan p).pin = .mid → v.fget (F.CH_FAULT_LAST_TEST g p) = 6 ∧
        (v.fc g).chan p = { (s.fc g).chan p with test := none })) ∧
  (∀ (s : State) (g : Grp) (p t : Nat), p < 128 → s.fgUp g → (s.fc g).stageOn p →
    Completes (.overloadLatch g p t) s fun v => ((v.fc g).chan ((s.fc g).leader p)).latched ∧
      ((v.fc g).chan ((s.fc g).leader p)).overload ∧ ¬ (v.fc g).stageOn p ∧
      ((v.fc g).chan ((s.fc g).leader p)).retryAt = gridUp ((s.tick t).now + 1000000000) ∧
      v.fget (F.CH_FAULT_OVERLOADS g ((s.fc g).leader p)) = min (s.fget (F.CH_FAULT_OVERLOADS g ((s.fc g).leader p)) + 1) 255) ∧
  (∀ (s : State) (g : Grp) (p t : Nat), p < 128 → s.fgUp g → isOut ((s.fc g).chan p).cfg.kind →
    Completes (.thermalShutdown g p t) s fun v => ((v.fc g).chan ((s.fc g).leader p)).latched ∧
      ((v.fc g).chan ((s.fc g).leader p)).overload = (s.fc g).claim ∧ ((v.fc g).chan ((s.fc g).leader p)).hot ∧
      ¬ (v.fc g).stageOn p) ∧
  (∀ (s : State) (g : Grp) (p t : Nat) (cool : Bool), s.fgUp g → ((s.fc g).chan ((s.fc g).leader p)).latched →
      (s.fc g).stageCmd p → ((s.fc g).chan ((s.fc g).leader p)).retryAt ≤ (s.tick t).now →
      ((s.tick t).now - ((s.fc g).chan ((s.fc g).leader p)).retryAt) % 1000000000 < 50000 → (s.tick t).fcTime g % 50000 = 0 →
      ((s.fc g).bank (bankOf p)).drives →
    (cool ∨ ¬ ((s.fc g).chan ((s.fc g).leader p)).hot → Completes (.overloadRetry g p cool t) s
      (State.ChanPut g { (s.fc g).chan ((s.fc g).leader p) with
        latched := false, hot := false, retrying := some (s.tick t).now } [] (s.tick t))) ∧
    (¬ cool → ((s.fc g).chan ((s.fc g).leader p)).hot → exec (.overloadRetry g p cool t) s = .next (s.tick t))) ∧
  (∀ (s : State) (g : Grp) (p r t : Nat) (cool : Bool), s.fgUp g → ¬ ((s.fc g).chan ((s.fc g).leader p)).latched →
      ((s.fc g).chan ((s.fc g).leader p)).retrying = some r → (s.fc g).stageOn p → r + 100000000 ≤ (s.tick t).now →
    Completes (.overloadRetry g p cool t) s (State.ChanPut g { (s.fc g).chan ((s.fc g).leader p) with
      retrying := none, overload := false } [] (s.tick t))) ∧
  (∀ (s : State) (g : Grp) (p t : Nat), s.fgUp g → isOut ((s.fc g).chan p).cfg.kind → (s.fc g).claim →
    ((s.fc g).stageOn p → Completes (.openLoadDetect g p true t) s
      (State.ChanPut g { (s.fc g).chan p with openLoad := true, openByOn := true } [R.CH_FAULT g p] (s.tick t))) ∧
    (((s.fc g).chan p).openByOn → Completes (.openLoadDetect g p false t) s
      (State.ChanPut g { (s.fc g).chan p with openLoad := false, openByOn := false } [] (s.tick t)))) ∧
  (∀ (s : State) (g : Grp) (p h t : Nat), p < 128 → s.fgUp g → (s.fc g).claim → isOut ((s.fc g).chan p).cfg.kind →
      ¬ (s.fc g).stageCmd p → ¬ (s.fc g).cut (bankOf p) → ((s.fc g).chan p).highTick = some h →
      max h ((s.fc g).driveFrom p) + 1000000 ≤ (s.tick t).now →
    Completes (.externalDriveDetect g p false t) s
      (State.ChanPut g { (s.fc g).chan p with extDrive := true } [R.CH_FAULT g p] (s.tick t)) ∧
    (bankOf p < (s.fc g).banks.length → ¬ ((s.fc g).bank (bankOf p)).latched →
      Completes (.externalDriveDetect g p true t) s fun v => v.stageFaulted g p)) ∧
  (∀ (s : State) (g : Grp) (p h t : Nat), ((s.fc g).chan p).extDrive → ¬ ((s.fc g).chan p).extByDark →
      ((s.fc g).chan p).lowTick = some h → h + 1000000 ≤ (s.tick t).now →
    Completes (.externalDriveClear g p t) s (State.ChanPut g { (s.fc g).chan p with extDrive := false } [] (s.tick t)))

/-- SSM_EVALUATION of a powered, loaded SSM takes its state and cause from the table of states applied to what its
sensors, requests, contacts and the heartbeat show, and STO2 follows the state. The table: a fault found opens from
any state; HELD leaves for PERMIT only with the heartbeat and no request; a request in PERMIT starts a stop; the
heartbeat lost holds; the end of a stop holds with its cause; a cause that clears only at POR is not left.
LANE_STOP_EVALUATION on a multiple of 250 us: a lane whose record matches leaves UNLOADED for HELD, and without a
match a lane gives no permit. An oscillator deviation above 5 % and a bad parity check are faults of the next
evaluation, which opens STO2 with PARITY unless the module has failed. SPEED_EDGE and STOP_REQUEST_INPUT record edges
and levels; an OFF run of 1 ms that ends between two evaluations is kept for each path. -/
def Obligations.TheStopPathsEvaluate : Prop :=
  (∀ (s : State) (r : List Byte) (welded : Bool) (t : Nat), s.powered pdSsm → s.ssm.record = some r →
    Completes (.ssmEvaluation welded t) s fun v =>
      let u := s.tick t
      let x := u.ssmSees r (s.ssm.sto1 || welded)
      let n := stopNext (s.fget F.SSM_STATE_STATE) (s.fget F.SSM_STATE_CAUSE) x.1 r x.2
        (s.flag F.STO1_STAT_HEARTBEAT && decide (s.ssm.hbAt + 10000000 ≤ u.mono))
        (if ¬ s.flag F.STO1_STAT_HEARTBEAT ∧ s.ssm.hbAt + 1000000 ≤ u.mono then some 0xB else none)
      v.fget F.SSM_STATE_STATE = n.1 ∧ v.fget F.SSM_STATE_CAUSE = n.2 ∧ v.ssm.sto2 = (n.1 == 2 || n.1 == 3) ∧
      v.fget F.SSM_STATE_STO2_CLOSED = bit (n.1 == 2 || n.1 == 3) ∧ v.fget F.STO1_STAT_STO2_CLOSED = bit (n.1 == 2 || n.1 == 3) ∧
      v.fget F.SSM_STATE_STO1_CLOSED = bit (s.ssm.sto1 || welded) ∧ v.ssm.record = some r ∧
      (n.1 = 3 → s.fget F.SSM_STATE_STATE ≠ 3 → v.ssm.path.ts = u.mono ∧ v.ssm.path.v0 = x.2.v)) ∧
  (∀ (s : State) (welded : Bool) (t : Nat), ¬ s.powered pdSsm → exec (.ssmEvaluation welded t) s = .next (s.tick t)) ∧
  (∀ (st c k f : Nat) (p : StopPath) (r : List Byte) (w : StopView) (leave : Bool) (lost : Option Nat),
    (st ≠ 4 → w.fault = some f → stopNext st c p r w leave lost = (4, f)) ∧
    (w.fault = none → stopNext 1 c p r w leave lost = (if leave ∧ ¬ w.request then 2 else 1, c)) ∧
    (w.fault = none → w.request → stopNext 2 c p r w leave none = (3, c)) ∧
    (w.fault = none → lost = some k → stopNext 2 c p r w leave lost = (1, k) ∧ stopNext 3 c p r w leave lost = (1, k)) ∧
    (w.fault = none → p.stopEnd r w.v w.now = some k → stopNext 3 c p r w leave none = (1, k)) ∧
    (porOnly c → stopNext 4 c p r w leave lost = (4, c)) ∧
    ((p.v0 : Int) - ((recAmin r * (w.now - p.ts) / 1000000 : Nat) : Int) + ((recTol r * 1000 : Nat) : Int) < (w.v : Int) →
      p.stopEnd r w.v w.now = some 3)) ∧
  (∀ (s : State) (l : Lane) (welded : Bool) (t : Nat), s.powered (pdLane l) → t % 250000 = 0 →
    (s.fget (F.LANE_STOP_STATE l) = 0 → s.flag (F.LANE_STOP_MATCH l) → Completes (.laneStopEvaluation l welded t) s fun v =>
      v.fget (F.LANE_STOP_STATE l) = 1 ∧ v.fget (F.LANE_STOP_PERMIT l) = 0 ∧
      State.RegsKept [R.LANE_STOP l, R.STO1_STAT] s v) ∧
    (¬ s.flag (F.LANE_STOP_MATCH l) → Completes (.laneStopEvaluation l welded t) s fun v =>
      v.fget (F.LANE_STOP_PERMIT l) = 0 ∧ (s.fget (F.LANE_STOP_STATE l) = 0 → v.fget (F.LANE_STOP_CAUSE l) = 0xA) ∧
      State.RegsKept [R.LANE_STOP l, R.STO1_STAT] s v ∧ ∀ k, k ≠ l → v.lane k = s.lane k)) ∧
  (∀ (s : State) (l : Lane) (welded : Bool) (t : Nat), ¬ (s.powered (pdLane l) ∧ t % 250000 = 0) →
    exec (.laneStopEvaluation l welded t) s = .next (s.tick t)) ∧
  (∀ (s : State) (dev : Int) (t : Nat), Completes (.ssmOscCheck dev t) s fun v =>
    v.ssm = { s.ssm with oscFault := s.ssm.oscFault || decide (500 < dev.natAbs) } ∧
    v.fget F.SSM_OSC_DEVIATION = (BitVec.ofInt 16 dev).toNat ∧ State.RegsKept [R.SSM_OSC] s v) ∧
  (∀ (s : State) (t : Nat), s.ssm.record.isSome → s.powered pdSsm →
    exec (.ssmParityCheck true t) s = .next { s.tick t with ssm := { s.ssm with parityFault := true } }) ∧
  (∀ (s : State) (bad : Bool) (t : Nat), ¬ bad ∨ s.ssm.record = none ∨ ¬ s.powered pdSsm →
    exec (.ssmParityCheck bad t) s = .next (s.tick t)) ∧
  (∀ (s : State) (r : List Byte) (welded : Bool) (t : Nat), s.powered pdSsm → s.ssm.record = some r → s.ssm.parityFault →
      ¬ s.vote.failWire → s.fget F.SSM_STATE_STATE ≠ 4 →
    Completes (.ssmEvaluation welded t) s fun v => v.fget F.SSM_STATE_STATE = 4 ∧ v.fget F.SSM_STATE_CAUSE = 6 ∧
      ¬ v.ssm.sto2 ∧ v.fget F.SSM_STATE_STO2_CLOSED = 0 ∧
      v.fget F.SSM_COUNTS_FAULTS = min (s.fget F.SSM_COUNTS_FAULTS + 1) 255) ∧
  (∀ (s : State) (b : Bool) (t : Nat), Completes (.speedEdge b t) s fun v =>
    v = { s.tick t with ssm := v.ssm } ∧
    v.ssm = (if b then { s.ssm with speedB := v.ssm.speedB } else { s.ssm with speedA := v.ssm.speedA }) ∧
    (if b then v.ssm.speedB.last else v.ssm.speedA.last) = some (s.tick t).mono ∧
    (∀ l, (if b then s.ssm.speedB.last else s.ssm.speedA.last) = some l → (s.tick t).mono < l + 2000000000 →
      (if b then v.ssm.speedB.prev else v.ssm.speedA.prev) = l)) ∧
  (∀ (s : State) (i : Nat) (on : Bool) (t : Nat), i < 4 → s.ssm.reqs.length = 4 → (s.ssm.req i).on ≠ on →
    Completes (.stopRequestInput i on t) s fun v => v.ssm.req i = ⟨on, (s.tick t).mono⟩ ∧
      (∀ j, j ≠ i → v.ssm.req j = s.ssm.req j) ∧ (∀ j, j < 4 → natBit (v.fget F.SSM_STATE_SREQ) j = (v.ssm.req j).on) ∧
      (s.ssm.offRun (s.tick t).mono → v.ssm.path.offRan ∧ ∀ l, (v.lane l).stop.offRan) ∧
      State.RegsKept [R.SSM_STATE] s v) ∧
  (∀ (s : State) (i : Nat) (t : Nat), exec (.stopRequestInput i (s.ssm.req i).on t) s = .next (s.tick t))

/-- PERMIT_VOTE: the heartbeat runs exactly while the vote is enabled, the module has not failed, the lifecycle state
is not BENCH and two of the lanes that take part permit; with it STO1 closes. A lane of three that differs from both
others at two evaluations in a row is excluded. STO1_HEARTBEAT_LOSS 1 ms after the heartbeat stopped opens STO1. An
admitted SSM_PARAM_LOAD of a valid signed record, with nothing locked and at standstill, waits for its turn; without
valid signatures it is refused SIG_FAIL, with a record locked REFUSED_LOCKED, and locks nothing. SSM_PARAM_LOCK locks
the first load's record with two voting lanes within its 10 ms: HELD, STO2 open, LOCKED and the CRC read back, OK; a
later load of the same record is answered OK, of another REFUSED_LOCKED. SSM_LOCK_TIMEOUT answers the first load
TIMEOUT. -/
def Obligations.PermitsAreVotedAndParametersLocked : Prop :=
  (∀ (s : State) (t : Nat), Completes (.permitVote t) s fun v =>
      let u := (s.tick t).showPermits
      let ps := (allLanes.filter fun l => u.flag (F.LANE_STOP_TAKING l)).map fun l => (l, u.flag (F.LANE_STOP_PERMIT l))
      let on := decide (s.flag F.VOTE_CTRL_EN ∧ ¬ s.flag F.VOTE_CTRL_FAILED ∧ s.lifecycle ≠ lcBench ∧ 2 ≤ (ps.filter (·.2)).length)
      v.flag F.STO1_STAT_HEARTBEAT = on ∧ v.ssm.sto1 = (on || s.ssm.sto1) ∧ (on → v.fget F.STO1_STAT_STO1_CLOSED = 1) ∧
      v.fget F.STO1_STAT_BENCH_HOLD = bit (s.lifecycle == lcBench) ∧ v.ssm.odd = oddPermit ps ∧
      (∀ l, u.flag (F.LANE_STOP_TAKING l) → s.isVoting l) ∧
      (∀ l, oddPermit ps = some l → s.ssm.odd = some l → v.laneSt l = .excluded) ∧
      (∀ k, s.ssm.odd ≠ some k → v.laneSt k = s.laneSt k)) ∧
  (∀ (s : State) (t : Nat), ¬ s.flag F.STO1_STAT_HEARTBEAT → s.ssm.hbAt + 1000000 ≤ (s.tick t).mono →
    Completes (.sto1HeartbeatLoss t) s fun v => v.ssm = { s.ssm with sto1 := false } ∧ v.fget F.STO1_STAT_STO1_CLOSED = 0 ∧
      v = { s.tick t with regs := v.regs, ssm := v.ssm } ∧ State.RegsKept [R.STO1_STAT] s v) ∧
  (∀ (s : State) (t : Nat), s.flag F.STO1_STAT_HEARTBEAT → exec (.sto1HeartbeatLoss t) s = .next (s.tick t)) ∧
  (∀ (s : State) (c : Cmd) (r b : List Byte) (n : Byte) (t : Nat), (s.tick t).admits c 3 → c.params = n :: zeros 3 ++ (r ++ b) →
      r.length = 48 → b.length = 3416 → ssmRecordOk r → n.toNat < 8 → s.slotEnrolled n.toNat →
    (s.ssm.record = none → s.standstill → Completes (.ssmParamLoad c true t) s fun v =>
      v.ssm = { s.ssm with loads := s.ssm.loads ++ [⟨c, r, (s.tick t).mono⟩] } ∧
      v.fget F.SSM_STATE_LOCKED = s.fget F.SSM_STATE_LOCKED) ∧
    (s.ssm.record = none → ¬ s.standstill → ¬ s.paired → Completes (.ssmParamLoad c true t) s fun v =>
      v.ssm = s.ssm ∧ v.repliedWith c 0x0502 stMoving) ∧
    (s.ssm.record.isSome → Completes (.ssmParamLoad c true t) s fun v => v.ssm = s.ssm ∧ v.repliedWith c 0x0502 stLocked) ∧
    Completes (.ssmParamLoad c false t) s fun v => v.ssm = s.ssm ∧ v.repliedWith c 0x0502 stSigFail ∧
      v.fget F.SEC_COUNTS_SIG_FAILS = min (s.fget F.SEC_COUNTS_SIG_FAILS + 1) 0xFFFF) ∧
  (∀ (s : State) (p : ParamLoad) (rest : List ParamLoad) (t : Nat), s.ssm.loads = p :: rest → s.ssm.record = none →
      2 ≤ s.voters.length → s.powered pdSsm → (s.tick t).mono ≤ p.since + 10000000 →
    Completes (.ssmParamLock t) s fun v => v.ssm.record = some p.record ∧ v.ssm.loads = [] ∧ ¬ v.ssm.sto2 ∧
      v.fget F.SSM_STATE_STATE = 1 ∧ v.fget F.SSM_STATE_LOCKED = 1 ∧ v.fget F.SSM_PARAM_CRC_CRC = leAt p.record 44 4 ∧
      v.repliedWith p.cmd 0x0502 0 ∧
      (∀ q ∈ rest, v.repliedWith q.cmd 0x0502 (if q.record = p.record then 0 else stLocked)) ∧
      ∀ l, s.powered (pdLane l) → v.flag (F.LANE_STOP_MATCH l) = (match s.folio.running with | some f => p.record == f.ssmDecl | none => false)) ∧
  (∀ (s : State) (p : ParamLoad) (rest : List ParamLoad) (t : Nat), s.ssm.loads = p :: rest → p.since + 10000000 < (s.tick t).mono →
    exec (.ssmParamLock t) s = .next (s.tick t)) ∧
  (∀ (s : State) (p : ParamLoad) (rest : List ParamLoad) (t : Nat), s.ssm.loads = p :: rest →
      p.since + 10000000 ≤ (s.tick t).mono →
    Completes (.ssmLockTimeout t) s fun v => v.repliedWith p.cmd 0x0502 stTimeout ∧ v.ssm.record = s.ssm.record ∧
      v.ssm.loads.map (·.cmd) = rest.map (·.cmd))

/-- At a port from 0 to 5, once the time has reached t. FRAME_INGRESS, decided under the configuration in force at the
frame's first byte: nothing while the link is down or the port disabled; a frame of bad format is counted and dropped;
a sound one is counted, learned, switched and inspected by the telegram engine, and without a destination dropped and
counted; a frame that R290 sends cut-through starts when its first 64 B have arrived, and one that turns out bad is
ended and counted STOMPED (what such a frame draws and sends is the model's choice, log entry 42). The feed draws 7
credits from the shared pool while that has 7 free and a queue is below its threshold and queues the frame at each
destination; at the last byte the unfilled credits return, and the books of the pool and the queues have moved by the
frame's cells; the last reference returns them, or leaves them to the engine. FRAME_TRANSMIT_START at an idle port sends
the head frame of the highest class that fits its gate, FRAME_TRANSMIT_COMPLETE ends it. GATE_ENTRY_CHANGE brings in the
list that waits. LINK_DOWN, and LINK_UP at a wrong rate, empty the port and forget what it learned; LINK_UP at its rate
sets LINK. FDB_AGE_EXPIRE removes an aged dynamic entry. That the time reaches t first is the model's (log entries 2
and 15). -/
def Obligations.PortsSwitchFramesAndKeepTheBooks : Prop :=
  (∀ (s : State) (p t : Nat) (b : List Byte), 5 < p ∨ ¬ (s.upTo t).linkUp p ∨ (s.upTo t).portSt p = 0 →
    exec (.frameIngress p b t) s = .next (s.upTo t)) ∧
  (∀ (s : State) (p t : Nat) (b : List Byte), p ≤ 5 → (s.upTo t).linkUp p → (s.upTo t).portSt p ≠ 0 →
    let u := (s.upTo t).finc (F.PORT_RX_FRAMES p)
    let w := u.configAt (u.firstByte p b.length)
    ¬ w.frameOk p b → ¬ w.headOk p b →
    Completes (.frameIngress p b t) s fun v => v = { s.upTo t with regs := v.regs } ∧
      v.fget (F.PORT_DROP_IN_FORMAT p) = min ((s.upTo t).fget (F.PORT_DROP_IN_FORMAT p) + 1) 0xFFFF ∧
      v.fget (F.PORT_RX_FRAMES p) = ((s.upTo t).fget (F.PORT_RX_FRAMES p) + 1) % 2 ^ 32 ∧
      State.RegsKept [R.PORT_DROP_IN p, R.PORT_RX p] (s.upTo t) v) ∧
  (∀ (s : State) (p t : Nat) (b : List Byte), p ≤ 5 → (s.upTo t).linkUp p → (s.upTo t).portSt p ≠ 0 →
    let u := (s.upTo t).finc (F.PORT_RX_FRAMES p)
    let first := u.firstByte p b.length
    let head := first + 64 * byteTenths p
    let w := u.configAt first
    let x := w.switchIn p b
    let r := ((u.captureFrame p b).learn p (frameSrc x.core) x.vid).switch x
    let done := (r.1.inspect p x.vid x.core first r.2.frame).settle r.2
    x.dests = (w.dests p (frameDst (frameCore b)) (w.frameVid p b)).1 ∧
    (w.frameOk p b → ¬ u.cutThrough x (w.flag (F.PORT_STAT_CUT p)) head → exec (.frameIngress p b t) s = .next done) ∧
    (w.frameOk p b → u.cutThrough x (w.flag (F.PORT_STAT_CUT p)) head →
      exec (.frameIngress p b t) s = .next (done.cutStart x r.2 head false)) ∧
    (¬ w.frameOk p b → w.headOk p b → u.cutThrough x (w.flag (F.PORT_STAT_CUT p)) head → exec (.frameIngress p b t) s =
      .next (((u.switch x.ended).1.settle (u.switch x.ended).2).cutStart x (u.switch x.ended).2 head true)) ∧
    (¬ w.frameOk p b → ¬ u.cutThrough x (w.flag (F.PORT_STAT_CUT p)) head →
      exec (.frameIngress p b t) s = .next (u.fsat (F.PORT_DROP_IN_FORMAT p)))) ∧
  (∀ (s : State) (x : SwitchIn), x.dests = [] → s.switch x = (s.fsat (F.PORT_DROP_FWD_VLAN x.port), .dropped)) ∧
  (∀ (s : State) (x : SwitchIn) (d ok : List Nat), s.poolAdmission x.port (classOf x.pcp) d = .shared ok → x.length ≤ 1522 →
      ok.Nodup → (∀ p ∈ d, p < 7) → (∃ p ∈ ok, p ≠ 6) → (∀ f ∈ s.net.frames, f.id ≠ s.net.nextId) →
      s.fget F.INK_HELD_INGRESS_CELLS + 7 < 2 ^ 16 → s.fget F.INK_HELD_QUEUES_CELLS + cellsOf x.length < 2 ^ 16 →
    let v := (s.feed x d).1.settle (s.feed x d).2
    7 ≤ s.fget F.INK_FREE_SHARED_CELLS ∧ ok = d.filter (fun p => s.queueOk p (classOf x.pcp)) ∧
    (s.feed x d).2 = .forwarded s.net.nextId ∧
    (s.feed x d).1.fget F.INK_FREE_SHARED_CELLS = s.fget F.INK_FREE_SHARED_CELLS - 7 ∧
    (s.feed x d).1.fget F.INK_HELD_INGRESS_CELLS = s.fget F.INK_HELD_INGRESS_CELLS + 7 ∧
    v.fget F.INK_FREE_SHARED_CELLS = s.fget F.INK_FREE_SHARED_CELLS - cellsOf x.length ∧ cellsOf x.length ≤ 7 ∧
    v.fget F.INK_HELD_INGRESS_CELLS = s.fget F.INK_HELD_INGRESS_CELLS ∧
    v.fget F.INK_HELD_QUEUES_CELLS = s.fget F.INK_HELD_QUEUES_CELLS + cellsOf x.length ∧
    (∀ p ∈ ok, p ≠ 6 → v.net.queue p (classOf x.pcp) = s.net.queue p (classOf x.pcp) ++ [s.net.nextId]) ∧
    (∀ p c, c < 8 → (p ∉ ok ∨ c ≠ classOf x.pcp) → v.net.queue p c = s.net.queue p c)) ∧
  (∀ (s : State) (f : NetFrame) (p c : Nat), s.net.frame f.id = some f → f.refs = [p] → f.shared →
    let v := s.dropRef f.id p c
    (¬ f.engine → s.fget F.INK_FREE_SHARED_CELLS + f.cells < 2 ^ 16 →
      v.fget F.INK_FREE_SHARED_CELLS = s.fget F.INK_FREE_SHARED_CELLS + f.cells ∧
      v.fget F.INK_HELD_QUEUES_CELLS = s.fget F.INK_HELD_QUEUES_CELLS - f.cells ∧ v.net.frame f.id = none) ∧
    (f.engine → s.fget F.INK_HELD_ENGINE_CELLS + f.cells < 2 ^ 16 →
      v.fget F.INK_HELD_ENGINE_CELLS = s.fget F.INK_HELD_ENGINE_CELLS + f.cells ∧
      v.fget F.INK_HELD_QUEUES_CELLS = s.fget F.INK_HELD_QUEUES_CELLS - f.cells ∧
      v.fget F.INK_FREE_SHARED_CELLS = s.fget F.INK_FREE_SHARED_CELLS)) ∧
  (∀ (s : State) (f : NetFrame) (p c t : Nat),
    let u := s.upTo t
    p ≤ 5 → u.linkUp p → u.portSt p ≠ 0 → ¬ u.net.busy p → c < 8 →
      (∀ k h, u.net.headOf p k = some h → ¬ (u.net.gate p).oversize k (wireTenths p (egressLength h p))) →
      u.net.headOf p c = some f → (u.net.gate p).fits c u.now (wireTenths p (egressLength f p)) →
      (∀ k h, c < k → k < 8 → u.net.headOf p k = some h →
        ¬ (u.net.gate p).fits k u.now (wireTenths p (egressLength h p))) →
    Completes (.frameTransmitStart p t) s fun v => v.regs = u.regs ∧
      v.net.tx = u.net.tx ++ [⟨p, f.id, c, u.now,
        egressBytes f (u.correct f p (stampOf (10 * u.now + 8 * byteTenths p))).2 p false, false, false⟩]) ∧
  (∀ (s : State) (p t : Nat), 5 < p ∨ ¬ (s.upTo t).linkUp p ∨ (s.upTo t).net.busy p →
    exec (.frameTransmitStart p t) s = .next (s.upTo t)) ∧
  (∀ (s : State) (x : TxRun) (p t : Nat),
    let u := s.upTo t
    p ≤ 5 → u.net.tx.find? (fun y => y.port == p) = some x → x.bytes ≠ [] → ¬ x.stomped →
      10 * x.start + wireTenths p x.bytes.length ≤ 10 * u.now → (∀ f ∈ u.net.frames, f.port ≤ 6) →
    Completes (.frameTransmitComplete p t) s fun v => ¬ v.net.busy p ∧ assoc v.net.sent p = some x.bytes ∧
      v.net.queue p x.cls = (u.net.queue p x.cls).filter (· != x.id) ∧
      v.fget (F.PORT_TX_FRAMES p) = (u.fget (F.PORT_TX_FRAMES p) + 1) % 2 ^ 32) ∧
  (∀ (s : State) (g : GateList) (p k t : Nat),
    let u := s.upTo t
    p ≤ 5 → p < u.net.gates.length → (u.net.gate p).next = some (g, k) → k ≤ u.now →
    Completes (.gateEntryChange p t) s fun v => v.net.gate p = ⟨some g, none, g.maskAt u.now⟩ ∧
      v.fget (F.PORT_STAT_GATED p) = 1 ∧ State.RegsKept [R.PORT_STAT p] u v) ∧
  (∀ (s : State) (p t : Nat), p ≤ 5 → (∀ f ∈ (s.upTo t).net.frames, f.port ≤ 6) →
    Completes (.linkDown p t) s fun v => v.fget (F.PORT_STAT_LINK p) = 0 ∧ ¬ v.net.busy p ∧ (∀ c, c < 8 → v.net.queue p c = []) ∧
      (∀ e ∈ v.net.fdb, e.static ∨ e.ports ≠ 2 ^ p)) ∧
  (∀ (s : State) (p t : Nat), p ≤ 5 → Completes (.linkUp p (if p < 2 then 10000 else 1000) true t) s fun v =>
    v.fget (F.PORT_STAT_LINK p) = 1 ∧ State.RegsOnly [R.PORT_STAT p] (s.upTo t) v) ∧
  (∀ (s : State) (p mbps t : Nat) (fd : Bool), p ≤ 5 → ¬ (fd ∧ mbps = if p < 2 then 10000 else 1000) →
      (∀ f ∈ (s.upTo t).net.frames, f.port ≤ 6) →
    Completes (.linkUp p mbps fd t) s fun v => v.fget (F.PORT_STAT_LINK p) = 0) ∧
  (∀ (s : State) (e : FdbEntry) (mac vid t : Nat),
    let u := s.upTo t
    fdbFind u.net.fdb mac vid = some e → ¬ e.static → u.net.ageS ≠ 0 → e.at_ + u.net.ageS * 1000000000 ≤ u.mono →
    Completes (.fdbAgeExpire mac vid t) s fun v => v.net = { u.net with fdb := fdbDrop u.net.fdb mac vid } ∧
      fdbFind v.net.fdb mac vid = none ∧ State.RegsKept [R.NET_FDB] u v) ∧
  (∀ (s : State) (mac vid t : Nat), (∀ e, fdbFind (s.upTo t).net.fdb mac vid = some e → e.static) →
    exec (.fdbAgeExpire mac vid t) s = .next (s.upTo t)) ∧
  (∀ (s : State) (x : SwitchIn) (tagged : Bool), ¬ acceptOk (s.net.cfg 6).accept tagged →
    s.fromSix x tagged = (s.fsat (F.PORT_DROP_IN_FORMAT 6), .dropped))

/-- Once the time has reached t (log entries 2 and 15): an admitted NET_CONFIG with a record in range joins the open set
and is answered OK; with LAST it closes a set that passes the table and PTP checks, and one that does not is dropped
with result 2 and BAD_PARAM; while a set is closed it is BUSY. NET_CONFIG_DISCARD drops the set with result 3.
NET_SET_TIMEOUT after 10 s without a packet drops an open set with result 4. None of them changes what is in force. At
an output commit a closed set is taken over whole, its LAST packet answered OK. MP_FRAME_RECEIVE answers an ARP request
for MP's address to its sender and an ICMP echo request, leaves UDP to port 30510 to MP_DATAGRAM_RECEIVE, gives up a
link-local address that another station uses, and counts any other frame; the formats of ARP, IPv4 and ICMP and that
conflict are taken from outside the spec (log entry 44). An admitted INK_SNAP copies every book counter into its
snapshot register and raises SEQ. INK_CAPTURE arms capture on a port, INK_CAPTURE_STOP ends it. -/
def Obligations.NetworkSetsTheInkwellAndMp : Prop :=
  (∀ (s : State) (c : Cmd) (r : List Byte) (t : Nat), (s.upTo t).admits c 3 →
      c.params = zeros 2 ++ (leBytes 2 1 ++ (zeros 4 ++ r)) → r.length = netRecLen r → netRecOk r →
      (s.upTo t).net.set.all (fun z => z.closedAt.isNone) →
    Completes (.netConfig c t) s fun v => v.repliedWith c 0x0106 0 ∧ ∃ z, v.net = { (s.upTo t).net with set := some z } ∧
      z.closedAt = none ∧ z.recs = (match (s.upTo t).net.set with | some y => y.recs | none => []) ++ [r]) ∧
  (∀ (s : State) (c : Cmd) (z : NetSet) (t : Nat),
    let u := s.upTo t
    u.admits c 3 → c.params = 1 :: zeros 7 → u.net.set = some z →
    (z.closedAt.isSome → Completes (.netConfig c t) s fun v => v.net = u.net ∧ v.repliedWith c 0x0106 stBusy) ∧
    (z.closedAt = none → fdbSetOk u z.recs → ptpSetOk u z.recs → Completes (.netConfig c t) s fun v =>
      v.net = { u.net with set := some { z with touchedAt := u.now, last := some c, closedAt := some u.now } } ∧
      v.fget F.NET_CFG_STATE = 2) ∧
    (z.closedAt = none → ¬ (fdbSetOk u z.recs ∧ ptpSetOk u z.recs) → Completes (.netConfig c t) s fun v =>
      v.net = { u.net with set := none } ∧ v.fget F.NET_CFG_STATE = 0 ∧ v.fget F.NET_CFG_LAST_RESULT = 2 ∧
      v.repliedWith c 0x0106 stBadParam)) ∧
  (∀ (s : State) (c : Cmd) (z : NetSet) (t : Nat),
    let u := s.upTo t
    u.admits c 3 → c.params = 2 :: zeros 7 → u.net.set = some z →
    Completes (.netConfigDiscard c t) s fun v => v.net = { u.net with set := none } ∧ v.fget F.NET_CFG_LAST_RESULT = 3 ∧
      v.repliedWith c 0x0106 0) ∧
  (∀ (s : State) (z : NetSet) (t : Nat),
    let u := s.upTo t
    u.net.set = some z → z.closedAt = none → z.touchedAt + 10000000000 ≤ u.now →
    Completes (.netSetTimeout t) s fun v => v.net = { u.net with set := none } ∧ v.fget F.NET_CFG_LAST_RESULT = 4) ∧
  (∀ (s : State) (t : Nat), (s.upTo t).net.set.all (fun z => z.closedAt.isSome) → exec (.netSetTimeout t) s = .next (s.upTo t)) ∧
  (∀ (s : State) (z : NetSet) (c : Cmd), s.net.set = some z → z.last = some c →
    s.takeNet.net.set = none ∧ s.takeNet.fget F.NET_CFG_LAST_RESULT = 1 ∧ s.takeNet.repliedWith c 0x0106 0 ∧
    s.takeNet.net.before = some s.configNow) ∧
  (∀ (s : State) (b : List Byte) (t : Nat), (frameDst (dropFcs b) ≠ mpMac ∧ frameDst (dropFcs b) ≠ 0xFFFFFFFFFFFF) ∨ ¬ fcsOk b →
    Completes (.mpFrameReceive b t) s fun v => v.fget F.MP_ERR_OTHER = min ((s.upTo t).fget F.MP_ERR_OTHER + 1) 0xFFFF ∧
      State.RegsOnly [R.MP_ERR] (s.upTo t) v) ∧
  (∀ (s : State) (b : List Byte) (t : Nat),
    let u := s.upTo t
    frameDst (dropFcs b) = mpMac ∨ frameDst (dropFcs b) = 0xFFFFFFFFFFFF → fcsOk b → 64 ≤ b.length → b.length ≤ 1518 →
    (u.mpConflict (dropFcs b) →
      exec (.mpFrameReceive b t) s = .next { u with net := { u.net with mpTry := u.net.mpTry + 1 } }) ∧
    (¬ u.mpConflict (dropFcs b) → u.mpArp (dropFcs b) → Completes (.mpFrameReceive b t) s fun v =>
      v = { u with net := { u.net with mpSent := v.net.mpSent } } ∧
      v.net.mpSent.take 6 = slice (dropFcs b) 6 6 ∧ frameSrc v.net.mpSent = mpMac ∧ frameType v.net.mpSent = 0x0806 ∧
      beAt v.net.mpSent 20 2 = 2 ∧ beAt v.net.mpSent 28 4 = u.mpIp % 2 ^ 32 ∧ slice v.net.mpSent 32 10 = slice (dropFcs b) 22 10) ∧
    (u.mpEcho (dropFcs b) → Completes (.mpFrameReceive b t) s fun v =>
      v = { u with net := { u.net with mpSent := v.net.mpSent } } ∧
      v.net.mpSent.take 6 = slice (dropFcs b) 6 6 ∧ frameSrc v.net.mpSent = mpMac ∧ frameType v.net.mpSent = 0x0800) ∧
    (u.mpUdp (dropFcs b) → exec (.mpFrameReceive b t) s = .next u) ∧
    (¬ u.mpConflict (dropFcs b) → ¬ u.mpArp (dropFcs b) → ¬ u.mpEcho (dropFcs b) → ¬ u.mpUdp (dropFcs b) →
      exec (.mpFrameReceive b t) s = .next (u.fsat F.MP_ERR_OTHER))) ∧
  (∀ (s : State) (c : Cmd) (t : Nat),
    let u := s.upTo t
    u.admitsScribe c 1 → c.params = [] →
    Completes (.inkSnap c t) s fun v =>
      v.fget F.INK_SNAP_FREE_SHARED_CELLS = u.fget F.INK_FREE_SHARED_CELLS ∧
      v.fget F.INK_SNAP_HELD_INGRESS_CELLS = u.fget F.INK_HELD_INGRESS_CELLS ∧
      v.fget F.INK_SNAP_HELD_QUEUES_CELLS = u.fget F.INK_HELD_QUEUES_CELLS ∧
      v.fget F.INK_SNAP_HELD_ENGINE_CELLS = u.fget F.INK_HELD_ENGINE_CELLS ∧
      (∀ p, p < 7 → v.fget (F.INK_SNAP_RES_FREE_CELLS p) = u.fget (F.INK_RES_FREE_CELLS p)) ∧
      v.fget F.INK_SNAP_SEQ_SEQ = (u.fget F.INK_SNAP_SEQ_SEQ + 1) % 2 ^ 32 ∧ v.net = u.net ∧ v.repliedWith c 0x0A03 0) ∧
  (∀ (s : State) (c : Cmd) (p n t : Nat), (s.upTo t).admitsScribe c 3 → p ≤ 5 → 0 < n → n < 65536 →
      c.params = BitVec.ofNat 8 p :: 0 :: (leBytes 2 n ++ zeros 4) →
    Completes (.inkCapture c t) s fun v => v.net = { (s.upTo t).net with capture := some (p, n) } ∧ v.repliedWith c 0x0A04 0) ∧
  (∀ (s : State) (c : Cmd) (t : Nat), (s.upTo t).admitsScribe c 3 → c.params = 0xFF :: zeros 7 →
    Completes (.inkCaptureStop c t) s fun v => v.net = { (s.upTo t).net with capture := none } ∧ v.repliedWith c 0x0A04 0)

/-- Once the time has reached t (log entries 2 and 15): an admitted TGE_ENTRY_ADD or TGE_ENTRY_DEL that passes its check
against the table ahead waits for its commit, and the table stays; one that fails it is refused, LAST_RESULT says why
and nothing waits. A waiting change that is due is applied at the commit and answered OK: a deletion empties its
entries, an added subscription enters NEVER. TELEGRAM_DELIVERY of a dataset that is due: the subscription is FRESH with
that dataset, delivered with ARRIVAL to every lane in VOTING, READY or TRANSFER, valid from the first grid instant at or
after its delivery + 10 us. PERIOD_BOUNDARY without an arrival counts a missed period: STALE, and SUBSTITUTED at the
entry's TIMEOUT; with one, it clears TOPO_REJ alone. PUBLICATION_SEND of the one publication due: SEQ rises, its state
shows whether voted bytes or the stop dataset went out, or, in a silent member, that none did, and its internal
subscriptions get their datasets; that SEQ rises in a member that does not act is the model's choice (log entry 47), as
is what an entry keeps of a delivery (log entry 46). TGE_REJ_CAP_CLEAR clears VALID alone. -/
def Obligations.TelegramsAreTabledDeliveredAndPublished : Prop :=
  (∀ (s : State) (c : Cmd) (t : Nat),
    let u := s.upTo t
    u.admits c 2 → 64 ≤ c.params.length →
    (tgeCheck u.tgeAhead (.add c.params) = .ok → Completes (.tgeEntryAdd c t) s fun v =>
      v.tge = { u.tge with pending := u.tge.pending ++ [⟨some c, u.now, .add c.params⟩] } ∧
      v.fget F.TGE_CHG_PENDING = min (u.tge.pending.length + 1) (fieldMax F.TGE_CHG_PENDING)) ∧
    (tgeCheck u.tgeAhead (.add c.params) = .bad → Completes (.tgeEntryAdd c t) s fun v =>
      v.tge = u.tge ∧ v.fget F.TGE_CHG_LAST_RESULT = 2 ∧ v.repliedWith c 0x0401 stBadParam) ∧
    (tgeCheck u.tgeAhead (.add c.params) = .full → Completes (.tgeEntryAdd c t) s fun v =>
      v.tge = u.tge ∧ v.fget F.TGE_CHG_LAST_RESULT = 3 ∧ v.repliedWith c 0x0401 stCheckFail)) ∧
  (∀ (s : State) (c : Cmd) (t : Nat),
    let u := s.upTo t
    u.admits c 2 → delLenOk c →
    (tgeCheck u.tgeAhead (.del (delIndices c)) = .ok → Completes (.tgeEntryDel c t) s fun v =>
      v.tge = { u.tge with pending := u.tge.pending ++ [⟨some c, u.now, .del (delIndices c)⟩] }) ∧
    (tgeCheck u.tgeAhead (.del (delIndices c)) = .bad → Completes (.tgeEntryDel c t) s fun v =>
      v.tge = u.tge ∧ v.fget F.TGE_CHG_LAST_RESULT = 2 ∧ v.repliedWith c 0x0402 stBadParam)) ∧
  (∀ (s : State) (c : Cmd) (a : Nat) (is : List Nat), s.tge.pending = [⟨some c, a, .del is⟩] → a + 20000 ≤ s.now →
    s.applyTge.tge.pending = [] ∧ (∀ i ∈ is, tgeFind s.applyTge.tge.entries i = none) ∧ s.applyTge.repliedWith c 0x0402 0 ∧
    s.applyTge.fget F.TGE_CHG_LAST_RESULT = 1) ∧
  (∀ (s : State) (c : Cmd) (a : Nat) (r : List Byte), s.tge.pending = [⟨some c, a, .add r⟩] → a + 20000 ≤ s.now →
      teKind r = 1 → tgeFind s.tge.entries (teIndex r) = none →
    s.applyTge.tge.pending = [] ∧ s.applyTge.repliedWith c 0x0401 0 ∧
    ∃ x, tgeFind s.applyTge.tge.entries (teIndex r) = some x ∧ x.rec_ = r ∧ x.st = 0 ∧ x.status = 0x0C ∧ x.shown = teDataset r) ∧
  (∀ (s : State) (e : TgeEntry) (d : TgeDue) (i t : Nat),
    let u := s.upTo t
    tgeFind u.tge.entries i = some e → teKind e.rec_ = 1 →
      u.tge.due.filter (fun x => x.entry == i && decide (x.at_ ≤ u.now)) = [d] →
    Completes (.telegramDelivery i t) s fun v =>
      let y : TgeDelivery := ⟨0x01 + (if e.topoRej then 0x10 else 0), true, d.data, (u.tge.count i + 1) % 2 ^ 32, true, gridUp (d.at_ + 10000)⟩
      (∃ x, tgeFind v.tge.entries i = some x ∧ x.st = 1 ∧ x.missed = 0 ∧ x.data = d.data ∧ x.cur = some y) ∧
      (∀ l ∈ u.tgiLanes, (v.lane l).tgiAt i (gridUp (d.at_ + 10000)) = some y) ∧
      (∀ z ∈ v.tge.due, ¬ (z.entry = i ∧ z.at_ ≤ u.now)) ∧
      ∀ j, j ≠ i → tgeFind v.tge.entries j = tgeFind u.tge.entries j) ∧
  (∀ (s : State) (e : TgeEntry) (i t : Nat),
    let u := s.upTo t
    (u.tge.entries.map (·.index)).Nodup → tgeFind u.tge.entries i = some e → teKind e.rec_ ≠ 2 → t % tePeriod e.rec_ = 0 →
    (¬ e.arrived u.tge.due t → Completes (.periodBoundary t) s fun v => ∃ x, tgeFind v.tge.entries i = some x ∧
      x.missed = min (e.missed + 1) 255 ∧
      x.st = (if e.st = 0 then 0 else if teTimeout e.rec_ ≤ min (e.missed + 1) 255 then 3 else if e.st = 1 then 2 else e.st) ∧
      x.data = e.data ∧ x.rec_ = e.rec_ ∧ ¬ x.topoRej) ∧
    (e.arrived u.tge.due t → Completes (.periodBoundary t) s fun v => ∃ x, tgeFind v.tge.entries i = some x ∧
      x.missed = e.missed ∧ x.st = e.st ∧ x.data = e.data ∧ x.rec_ = e.rec_ ∧ ¬ x.topoRej)) ∧
  (∀ (s : State) (e : TgeEntry) (i t : Nat),
    let u := s.upTo t
    (u.tge.entries.map (·.index)).Nodup → tgeFind u.tge.entries i = some e → (teKind e.rec_ = 2 ∨ t % tePeriod e.rec_ ≠ 0) →
    Completes (.periodBoundary t) s fun v => tgeFind v.tge.entries i = some e ∧ v.quill = u.quill) ∧
  (∀ (s : State) (e : TgeEntry) (t : Nat),
    let u := s.upTo t
    (u.tge.entries.map (·.index)).Nodup → tgeFind u.tge.entries e.index = some e →
      (u.tgoArrive (t - 1000)).sends (t - 1000) (t + 4000) = [e] →
    (¬ u.pubSilent → ¬ allZero (teDstMac e.rec_) → Completes (.publicationSend t) s fun v =>
      ∃ x, tgeFind v.tge.entries e.index = some x ∧ x.sends = (e.sends + 1) % 2 ^ 32 ∧ (x.pubStatus = 1 ∨ x.pubStatus = 3) ∧
        x.st = (if u.runAt (t - 1000) then 4 else 5)) ∧
    (u.pubSilent → Completes (.publicationSend t) s fun v =>
      ∃ x, tgeFind v.tge.entries e.index = some x ∧
        x.sends = (if u.flag F.VOTE_CTRL_FAILED then e.sends else (e.sends + 1) % 2 ^ 32) ∧ x.pubStatus = 0 ∧ x.st = 6 ∧
        v.fget F.TGE_PUB_SENT_COUNT = u.fget F.TGE_PUB_SENT_COUNT ∧ v.net = u.net) ∧
    Completes (.publicationSend t) s fun v => ∀ k ∈ u.tge.entries, teKind k.rec_ = 3 → teSource k.rec_ = e.index →
      ∃ d ∈ v.tge.due, d.entry = k.index ∧ d.at_ = t + 5000) ∧
  (∀ (s : State) (e : TgeEntry), s.pubDataset e false = teDataset e.rec_) ∧
  (∀ s : State, s.reachable R.TGE_REJ_CAP →
    Completes .tgeRejCapClear s fun v => v.fget F.TGE_REJ_CAP_VALID = 0 ∧ State.RegsOnly [R.TGE_REJ_CAP] s v)

/-- Once the time has reached t (log entries 2 and 15); times are in units of 2^-16 ns, t1, t2, t3 and t4 of messages
taken nearest to the module's own time; offsets show in TIME_OFFSET in ns, within +-(2^31 - 1). On the slave port:
PTP_SYNC in one step on a P2P port whose link delay is known gives t2 - t1 - corr - link - asym; in two steps it waits
for PTP_FOLLOW_UP of its sequence, which gives t1 and adds its correction. PTP_DELAY_REQ records t3, or is answered by
a master port; PTP_DELAY_RESP gives half the sum of both ways as path delay and the rest as offset. PTP_PDELAY_REQ and
PTP_PDELAY_RESP, with its Follow_Up or without, give the link delay ((t4 - t1) - (t3 - t2)) / 2. Other ports do
nothing on a Sync. PTP_ANNOUNCE sets the states of the participating ports, which are its operand (log entry 12), and
selects the first slave port. PTP_IGNORED_MESSAGE is counted. PTP_MESSAGE_SEND sends what the port's state allows; the
bytes of a message are taken from outside the spec (log entry 48). PTP_MASTER_LOST after ANN_TIMEOUT intervals selects
no port, and LOCKED becomes HOLDOVER. -/
def Obligations.PtpMeasuresOffsetsAndDelays : Prop :=
  (∀ (s : State) (p k q mac t1 t : Nat) (corr d : Int),
    let u := s.upTo t
    p < u.time.ports.length → u.isSlavePort p → (u.time.port p).p2p → (u.time.port p).link = some d →
    Completes (.ptpSync p k q mac t1 corr false t) s fun v =>
      let off := u.rx p mac - u.ptpTime t1 - corr - d - u.asym p
      off ∈ v.time.offsets ∧ v.fgetInt F.TIME_OFFSET_NS = max (-0x7FFFFFFF) (min 0x7FFFFFFF (off / 65536))) ∧
  (∀ (s : State) (p k q mac t1 t : Nat) (corr : Int),
    let u := s.upTo t
    p < u.time.ports.length → u.isSlavePort p →
    Completes (.ptpSync p k q mac t1 corr true t) s fun v => v.regs = u.regs ∧ v.time.offsets = u.time.offsets ∧
      v.time.syncAt = u.mono ∧ v.time.port p = { u.time.port p with
        syncSeq := q, syncT1 := none, syncT2 := u.rx p mac, syncCorr := corr, syncWait := true, master := k }) ∧
  (∀ (s : State) (p k q mac t1 t : Nat) (corr : Int) (two : Bool), ¬ (s.upTo t).isSlavePort p →
    exec (.ptpSync p k q mac t1 corr two t) s = .next (s.upTo t)) ∧
  (∀ (s : State) (p q t1 t : Nat) (corr d : Int),
    let u := s.upTo t
    p < u.time.ports.length → u.isSlavePort p → (u.time.port p).p2p →
      (u.time.port p).link = some d → (u.time.port p).syncWait → (u.time.port p).syncSeq = q →
    Completes (.ptpFollowUp p q t1 corr t) s fun v =>
      let off := (u.time.port p).syncT2 - u.ptpTime t1 - ((u.time.port p).syncCorr + corr) - d - u.asym p
      off ∈ v.time.offsets ∧ v.fgetInt F.TIME_OFFSET_NS = max (-0x7FFFFFFF) (min 0x7FFFFFFF (off / 65536))) ∧
  (∀ (s : State) (p q mac t : Nat),
    let u := s.upTo t
    p < u.time.ports.length → u.ptpOn p →
    (Completes (.ptpDelayReq p q false mac t) s fun v => v.regs = u.regs ∧ v.time.port p =
      { u.time.port p with reqSeq := q, reqT3 := some (u.tx p mac), sent := some (1, q) }) ∧
    (u.fget (F.PTP_PORT_STAT_PORT_STATE p) = 6 →
      exec (.ptpDelayReq p q true mac t) s = .next (u.ptpSend p 9 q (u.rx p mac / 65536).toNat)) ∧
    (u.fget (F.PTP_PORT_STAT_PORT_STATE p) ≠ 6 → exec (.ptpDelayReq p q true mac t) s = .next u)) ∧
  (∀ (s : State) (p q t4 t : Nat) (corr t1 t3 : Int),
    let u := s.upTo t
    p < u.time.ports.length → u.isSlavePort p → ¬ (u.time.port p).p2p →
      (u.time.port p).reqSeq = q → (u.time.port p).reqT3 = some t3 → (u.time.port p).syncT1 = some t1 →
    Completes (.ptpDelayResp p q t4 corr t) s fun v =>
      let fwd := (u.time.port p).syncT2 - t1 - (u.time.port p).syncCorr
      let mpd := (fwd + (u.ptpTime t4 - t3 - corr)) / 2
      v.fgetInt (F.PTP_PATH_DELAY_NS p) = max (-0x7FFFFFFF) (min 0x7FFFFFFF (mpd / 65536)) ∧
      fwd - mpd - u.asym p ∈ v.time.offsets ∧
      v.fgetInt F.TIME_OFFSET_NS = max (-0x7FFFFFFF) (min 0x7FFFFFFF ((fwd - mpd - u.asym p) / 65536))) ∧
  (∀ (s : State) (p q mac t : Nat),
    let u := s.upTo t
    p < u.time.ports.length → u.ptpOn p → (u.time.port p).p2p →
    (Completes (.ptpPdelayReq p q false mac t) s fun v => v.regs = u.regs ∧ v.time.port p =
      { u.time.port p with pdSeq := q, pdT1 := some (u.tx p mac), sent := some (2, q) }) ∧
    exec (.ptpPdelayReq p q true mac t) s = .next (u.ptpSend p 3 q (u.rx p mac / 65536).toNat)) ∧
  (∀ (s : State) (p q mac t2 t3 t : Nat) (t1 : Int),
    let u := s.upTo t
    p < u.time.ports.length → u.ptpOn p → (u.time.port p).p2p → (u.time.port p).pdSeq = q → (u.time.port p).pdT1 = some t1 →
    (Completes (.ptpPdelayResp p q false mac t2 (some t3) t) s fun v =>
      let d := (u.rx p mac - t1 - (u.ptpTime t3 - u.ptpTime t2)) / 2
      (v.time.port p).link = some d ∧ (v.time.port p).pdT1 = none ∧
      v.fgetInt (F.PTP_PATH_DELAY_NS p) = max (-0x7FFFFFFF) (min 0x7FFFFFFF (d / 65536))) ∧
    (Completes (.ptpPdelayResp p q false mac t2 none t) s fun v => v.regs = u.regs ∧ v.time.port p =
      { u.time.port p with pdT4 := u.rx p mac, pdT2 := u.ptpTime t2, pdWait := true }) ∧
    ((u.time.port p).pdWait → Completes (.ptpPdelayResp p q true mac t2 (some t3) t) s fun v =>
      let d := ((u.time.port p).pdT4 - t1 - (u.ptpTime t3 - (u.time.port p).pdT2)) / 2
      (v.time.port p).link = some d ∧ (v.time.port p).pdT1 = none ∧
      v.fgetInt (F.PTP_PATH_DELAY_NS p) = max (-0x7FFFFFFF) (min 0x7FFFFFFF (d / 65536)))) ∧
  (∀ (s : State) (p t : Nat) (states : List Nat),
    let u := s.upTo t
    u.ptpOn p → ¬ u.time.extCfg →
    Completes (.ptpAnnounce p states t) s fun v =>
      (∀ q, u.ptpOn q → v.fget (F.PTP_PORT_STAT_PORT_STATE q) = min 9 (states.getD q 4)) ∧
      v.fget F.TIME_STATE_SLAVE_PORT =
        ((List.range 6).find? fun q => v.fget (F.PTP_PORT_STAT_PORT_STATE q) == 9).getD 0xF) ∧
  (∀ (s : State) (p t : Nat) (states : List Nat), (s.upTo t).time.extCfg →
    exec (.ptpAnnounce p states t) s = .next (s.upTo t)) ∧
  (∀ (s : State) (p t : Nat), p ≤ 5 → Completes (.ptpIgnoredMessage p t) s fun v =>
    v.fget (F.PTP_PORT_STAT_IGNORED p) = min ((s.upTo t).fget (F.PTP_PORT_STAT_IGNORED p) + 1) 0xFFFF ∧
    State.RegsOnly [R.PTP_PORT_STAT p] (s.upTo t) v) ∧
  (∀ (s : State) (p k t : Nat),
    let u := s.upTo t
    u.maySend p k → exec (.ptpMessageSend p k t) s = .next (u.ptpSend p k (match (u.time.port p).sent with
      | some (_, n) => if k == 8 then n else (n + 1) % 65536
      | none => 0) u.now)) ∧
  (∀ (s : State) (p k n ns : Nat), p < s.time.ports.length →
    (s.ptpSend p k n ns).time.port p = { s.time.port p with sent := some (k, n) } ∧
    ∀ q, q ≠ p → (s.ptpSend p k n ns).time.port q = s.time.port q) ∧
  (∀ (s : State) (p k t : Nat), ¬ (s.upTo t).maySend p k → exec (.ptpMessageSend p k t) s = .next (s.upTo t)) ∧
  (∀ (s : State) (t : Nat),
    let u := s.upTo t
    u.fget F.TIME_STATE_SLAVE_PORT ≠ 0xF → u.time.syncAt + u.time.field 11 * logNs (sByte u.time.record 9) ≤ u.mono →
    Completes (.ptpMasterLost t) s fun v => v.fget F.TIME_STATE_SLAVE_PORT = 0xF ∧ v.time.offsets = [] ∧
      v.tmState = (if u.tmState = 1 ∨ u.tmState = 2 then 3 else u.tmState)) ∧
  (∀ (s : State) (t : Nat), (s.upTo t).fget F.TIME_STATE_SLAVE_PORT = 0xF → exec (.ptpMasterLost t) s = .next (s.upTo t))

/-- An admitted TIME_SET in FREE with no step pending, in an acting module, waits for its step point with
STEP_PENDING set; in another state it is BAD_PARAM. An admitted TIME_RESTEP in LOCKED at standstill measures anew;
in motion it is REFUSED_MOVING. TIME_STEP_APPLY at the instant that qualifies: the scale reads the time that
TIME_SET gave and the state is HOLDOVER, or it moves by the step decided and the state is LOCKED or, without a
master, HOLDOVER; STEPS counts, the local monotonic count goes on, and frames wait for a grid instant 50 us on. A
restep in motion is refused and nothing moves; at an instant that does not qualify nothing happens (that the time
reaches t first is the model's, log entries 2 and 15; what else moves with the scale is in log entry 49).
TIME_RESTEP_TIMEOUT after 10 s answers NO_SEAM. AON_SECONDS_LOAD, PPS_OUTPUT and PPS_INPUT_EDGE at their instants;
TIME_PPSIN_CLEAR re-arms. -/
def Obligations.StepsMoveTheScaleAndPpsMarksIt : Prop :=
  (∀ (s : State) (c : Cmd) (a b t : Nat), (s.tick t).admits c 3 → c.params = leBytes 8 a ++ (leBytes 4 b ++ zeros 4) → a < 2 ^ 64 →
      b < 1000000000 → ¬ s.notActing →
    (s.tmState = 0 → s.time.step = none → Completes (.timeSet c t) s fun v =>
      v.time = { s.time with step := some ⟨.set c (a * 1000000000 + b), 0, (s.tick t).now⟩ } ∧
      v.fget F.TIME_STATE_STEP_PENDING = 1) ∧
    (s.tmState ≠ 0 → Completes (.timeSet c t) s fun v => v.time = s.time ∧ v.repliedWith c 0x0601 stBadParam)) ∧
  (∀ (s : State) (c : Cmd) (t : Nat), (s.tick t).admits c 3 → c.params = [] → ¬ s.notActing →
    (s.standstill → s.tmState = 1 → s.time.restep = none → Completes (.timeRestep c t) s fun v =>
      v.time = { s.time with restep := some (c, (s.tick t).now), offsets := [] }) ∧
    (¬ s.standstill → Completes (.timeRestep c t) s fun v => v.time = s.time ∧ v.repliedWith c 0x0602 stMoving)) ∧
  (∀ (s : State) (x : PendStep) (c : Cmd) (n t : Nat),
    let u := s.upTo t
    u.time.step = some x → s.now ≤ t → u.stepPoint x.decided t →
    (x.kind = .set c n → Completes (.timeStepApply t) s fun v => v.now = n ∧ v.mono = u.mono ∧ v.tmState = 3 ∧
      v.time.step = none ∧ v.fget F.TIME_STATE_STEP_PENDING = 0 ∧ v.fget F.TIME_STATE_STEPS = min (u.fget F.TIME_STATE_STEPS + 1) 0xFFFF ∧
      v.time.framesFrom % 50000 = 0 ∧ n + 50000 ≤ v.time.framesFrom ∧ v.repliedWith c 0x0601 0) ∧
    (x.kind = .first → Completes (.timeStepApply t) s fun v => v.now = ((t : Int) + x.delta).toNat ∧ v.mono = u.mono ∧
      v.tmState = (if u.fget F.TIME_STATE_SLAVE_PORT = 0xF then 3 else 1) ∧ v.time.step = none) ∧
    (x.kind = .restep c → u.standstill → Completes (.timeStepApply t) s fun v => v.now = ((t : Int) + x.delta).toNat ∧
      v.time.step = none ∧ v.time.restep = none ∧ v.repliedWith c 0x0602 0) ∧
    (x.kind = .restep c → ¬ u.standstill → Completes (.timeStepApply t) s fun v => v.now = t ∧ v.time.step = none ∧
      v.fget F.TIME_STATE_STEPS = u.fget F.TIME_STATE_STEPS ∧ v.repliedWith c 0x0602 stMoving)) ∧
  (∀ (s : State) (t : Nat), (∀ x, (s.upTo t).time.step = some x → ¬ (s.upTo t).stepPoint x.decided t) →
    exec (.timeStepApply t) s = .next (s.upTo t)) ∧
  (∀ (s : State) (c : Cmd) (a t : Nat), (s.upTo t).time.restep = some (c, a) → a + 10000000000 ≤ (s.upTo t).now →
    Completes (.timeRestepTimeout t) s fun v => v.time.restep = none ∧ v.time.step = none ∧ v.repliedWith c 0x0602 stNoSeam) ∧
  (∀ (s : State) (t : Nat),
    let u := s.upTo t
    (nsOf u.now = 0 → u.tmState = 1 ∨ u.tmState = 3 → secOf u.now < 2 ^ 64 → Completes (.aonSecondsLoad t) s fun v =>
      v = { u with regs := v.regs, power := { u.power with aonAt := u.mono } } ∧
      v.fget F.AON_SEC_LO_SECONDS + 2 ^ 32 * v.fget F.AON_SEC_HI_SECONDS = secOf u.now ∧ v.aonSeconds = secOf u.now ∧
      State.RegsKept [R.AON_SEC_LO, R.AON_SEC_HI] u v) ∧
    (nsOf u.now ≠ 0 ∨ u.tmState = 0 ∨ u.tmState = 2 → exec (.aonSecondsLoad t) s = .next u) ∧
    (nsOf u.now = 0 → u.tmState ≠ 0 → exec (.ppsOutput t) s =
      .next { u with time := { u.time with pps := true, unit_ := some u.timeUnit } }) ∧
    (100000000 ≤ nsOf u.now → exec (.ppsOutput t) s = .next { u with time := { u.time with pps := false } }) ∧
    (¬ u.flag F.TIME_PPSIN_VALID → Completes (.ppsInputEdge t) s fun v => v.fget F.TIME_PPSIN_VALID = 1 ∧
      v.fget F.TIME_PPSIN_NS = nsOf (stampOf (10 * u.now) / 10) ∧ State.RegsOnly [R.TIME_PPSIN] u v) ∧
    (u.flag F.TIME_PPSIN_VALID → exec (.ppsInputEdge t) s = .next u)) ∧
  (∀ s : State, s.reachable R.TIME_PPSIN → Completes .timePpsinClear s fun v => v.fget F.TIME_PPSIN_VALID = 0 ∧ State.RegsOnly [R.TIME_PPSIN] s v)

/-- While the bridge answers: a read of BAR2 returns the mapped bytes, 0 for a byte outside every window or region,
counts in the window and as a violation; one whose holding domain is off is a Completer Abort with BRG_ERR.CA. A
read of BAR0 is the register read, of BAR4 the MSI-X table or the Pending Bit Array. A write within one
ADDR_INVARIANT window onto plain writable memory lands there; one through a window without WRITE changes no byte and
is a violation; one whose domain is off is discarded, captured and counted. INBOUND_READ_TIMEOUT,
UNSUPPORTED_REQUEST, MALFORMED_TLP and POSTED_WRITE_ERROR report their errors; READ_AHEAD_EXPIRE drops a line 10 us
old. WINDOW_SET replaces windows that keep R352, or is BAD_PARAM and changes none. MAILBOX_SUBMIT takes one message
at a time; MBOX_M2H_READ returns and clears; the capture re-arms. While the bridge is not up, requests change
nothing. What a read fetches ahead, the AER bits and that mailbox control takes no write through BAR2 are the model's
(log entries 13 and 50). -/
def Obligations.WindowsMapInboundRequests : Prop :=
  (∀ (s : State) (off n t : Nat), s.bridgeUp → 1 ≤ n → s.farOk off n →
    Completes (.inboundRead 2 off n t) s fun v => v.brg.status = csOk ∧
      v.brg.data = (bar2Offsets off n).map (fun x => match s.bar2 x with | some (_, a, _) => s.busByte a | none => 0) ∧
      (∀ w, s.winAt off = some w → v.fget (F.WIN_RD_COUNT w) = (s.fget (F.WIN_RD_COUNT w) + 1) % 2 ^ 32) ∧
      ((∃ x ∈ bar2Offsets off n, s.bar2 x = none) →
        v.fget (F.SYS_VIOL_COUNT_COUNT rqHost) = min (s.fget (F.SYS_VIOL_COUNT_COUNT rqHost) + 1) (2 ^ 32 - 1) ∧
        (¬ s.flag F.SYS_VIOL_CAP_VALID → v.fget F.SYS_VIOL_CAP_VALID = 1 ∧ v.fget F.SYS_VIOL_CAP_REQUESTER = rqHost ∧
          v.fget F.SYS_VIOL_CAP_WRITE = 0 ∧ v.fget F.SYS_VIOL_ADDR_LO_ADDR = off % 2 ^ 32)) ∧
      v = { s.tick t with regs := v.regs, brg := v.brg, quill := { s.quill with mboxM2h := v.quill.mboxM2h } } ∧
      State.RegsKept ((List.range 8).map R.WIN_RD ++ [R.SYS_VIOL_COUNT rqHost, R.SYS_VIOL_CAP, R.SYS_VIOL_ADDR_LO, R.SYS_VIOL_ADDR_HI]) s v) ∧
  (∀ (s : State) (off n t : Nat), s.bridgeUp → ¬ s.farOk off n →
    Completes (.inboundRead 2 off n t) s fun v => v.brg = { s.brg with status := csCa, data := [] } ∧
      v.fget F.BRG_ERR_CA = min (s.fget F.BRG_ERR_CA + 1) 0xFFFF ∧ v = { s.tick t with regs := v.regs, brg := v.brg } ∧
      State.RegsKept ((List.range 8).map R.WIN_RD ++ [R.BRG_ERR]) s v) ∧
  (∀ (s w : State) (off t : Nat), s.bridgeUp → off % 4 = 0 →
      exec (if pairLow off then .lowRegisterRead .host off else .highRegisterRead .host off) (s.tick t) = .next w →
    exec (.inboundRead 0 off 4 t) s = .next (w.complete csOk (leBytes 4 w.readOut.toNat))) ∧
  (∀ (s : State) (i t : Nat), s.bridgeUp → i < 256 →
    exec (.inboundRead 4 (4 * i) 4 t) s = .next ((s.tick t).complete csOk (leBytes 4 (s.msixWord i).toNat))) ∧
  (∀ (s : State) (t : Nat), s.bridgeUp →
    exec (.inboundRead 4 0x1000 8 t) s = .next ((s.tick t).complete csOk (leBytes 8 s.brg.waiting))) ∧
  (∀ (s : State) (off w t : Nat) (b : List Byte), s.bridgeUp → b ≠ [] →
      (∀ x ∈ bar2Offsets off b.length, s.winAt x = some w ∧ (regionAt (s.winTarget w + (x - s.winOff w))).any fun r =>
        r.plain && (r.hostWrites && s.powered r.domain)) →
      s.fget (F.WIN_CFG_LANES w) = 0 → s.flag (F.WIN_CFG_WRITE w) →
    Completes (.inboundWrite off b t) s fun v =>
      (∀ a, v.mread a = if s.winTarget w + (off - s.winOff w) ≤ a ∧ a < s.winTarget w + (off - s.winOff w) + b.length
        then b.getD (a - (s.winTarget w + (off - s.winOff w))) 0 else s.mread a) ∧
      v.fget (F.WIN_WR_COUNT w) = (s.fget (F.WIN_WR_COUNT w) + 1) % 2 ^ 32 ∧
      v = { s.tick t with regs := v.regs, mem := v.mem, brg := { s.brg with ahead := v.brg.ahead } } ∧
      State.RegsKept [R.WIN_WR w] s v) ∧
  (∀ (s : State) (off t : Nat) (b : List Byte), s.bridgeUp → b ≠ [] → s.farOk off b.length →
      (∀ x ∈ bar2Offsets off b.length, ¬ s.mayWrite x) →
    Completes (.inboundWrite off b t) s fun v => v = { s.tick t with regs := v.regs } ∧
      v.fget (F.SYS_VIOL_COUNT_COUNT rqHost) = min (s.fget (F.SYS_VIOL_COUNT_COUNT rqHost) + 1) (2 ^ 32 - 1) ∧
      (¬ s.flag F.SYS_VIOL_CAP_VALID → v.fget F.SYS_VIOL_CAP_WRITE = 1)) ∧
  (∀ (s : State) (off t : Nat) (b : List Byte), s.bridgeUp → ¬ s.farOk off b.length →
    Completes (.inboundWrite off b t) s fun v => v.mem = s.mem ∧
      v.fget F.BRG_PW_COUNT_COUNT = min (s.fget F.BRG_PW_COUNT_COUNT + 1) (2 ^ 32 - 1) ∧ v.fget F.BRG_PW_CAP_VALID = 1 ∧
      (¬ s.flag F.BRG_PW_CAP_VALID → v.fget F.BRG_PW_CAP_CAUSE = pwUnreachable ∧ v.fget F.BRG_PW_ADDR_OFFSET = off % 2 ^ 30) ∧
      (v.fget F.BRG_EVT_CAUSE).testBit evPosted) ∧
  (∀ (s : State) (t : Nat), s.bridgeUp → Completes (.inboundReadTimeout t) s fun v =>
    v.brg = { s.brg with status := csCa, data := [] } ∧ v.fget F.BRG_ERR_CA = min (s.fget F.BRG_ERR_CA + 1) 0xFFFF ∧
    v = { s.tick t with regs := v.regs, brg := v.brg } ∧ State.RegsKept [R.BRG_ERR] s v) ∧
  (∀ (s : State) (t : Nat), s.bridgeUp → Completes (.unsupportedRequest t) s fun v =>
    v.brg = { s.brg with status := csUr, data := [] } ∧ v.fget F.BRG_ERR_UR = min (s.fget F.BRG_ERR_UR + 1) 0xFFFF ∧
    v = { s.tick t with regs := v.regs, brg := v.brg } ∧ State.RegsKept [R.BRG_ERR] s v) ∧
  (∀ (s : State) (t : Nat), s.powered pdHost →
    exec (.malformedTlp t) s = .next { s.tick t with brg := { s.brg with aerFatal := true } }) ∧
  (∀ (s : State) (k off t : Nat), s.bridgeUp → 1 ≤ k → k ≤ 3 → Completes (.postedWriteError k off t) s fun v =>
    v.mem = s.mem ∧ v.brg.aerNonFatal = (s.brg.aerNonFatal || k == pwPoisoned) ∧
    v.fget F.BRG_PW_COUNT_COUNT = min (s.fget F.BRG_PW_COUNT_COUNT + 1) (2 ^ 32 - 1) ∧
    (¬ s.flag F.BRG_PW_CAP_VALID → v.fget F.BRG_PW_CAP_VALID = 1 ∧ v.fget F.BRG_PW_CAP_CAUSE = k ∧
      v.fget F.BRG_PW_ADDR_OFFSET = off % 2 ^ 30) ∧
    (s.flag F.BRG_PW_CAP_VALID → v.reg R.BRG_PW_CAP = s.reg R.BRG_PW_CAP ∧ v.reg R.BRG_PW_ADDR = s.reg R.BRG_PW_ADDR) ∧
    (v.fget F.BRG_EVT_CAUSE).testBit evPosted ∧ v = { s.tick t with regs := v.regs, brg := v.brg } ∧
    State.RegsKept [R.BRG_PW_COUNT, R.BRG_PW_CAP, R.BRG_PW_ADDR, R.BRG_EVT] s v) ∧
  (∀ (s : State) (l t : Nat), Completes (.readAheadExpire l t) s fun v => v = { s.tick t with brg := { s.brg with ahead := v.brg.ahead } } ∧
    ∀ x, x ∈ v.brg.ahead ↔ x ∈ s.brg.ahead ∧ ¬ (x.1 = l ∧ x.2 + 10000 ≤ (s.tick t).now)) ∧
  (∀ (s : State) (c : Cmd) (r : List Byte) (t : Nat), (s.tick t).admitsScribe c 2 → c.params = [0, 0, 1, 0] ++ (zeros 4 ++ r) →
      r.length = 16 →
    (windowRecOk r → s.windowsOk [r] → Completes (.windowSet c t) s fun v => v.brg = { s.brg with ahead := [] } ∧
      v.winOn (wrWindow r) = wrFlag r 0 ∧ v.flag (F.WIN_CFG_PREF_REQ (wrWindow r)) = wrFlag r 1 ∧
      (v.flag (F.WIN_CFG_PREF_EFF (wrWindow r)) ↔ wrFlag r 1 ∧ ∀ x ∈ regionsOf (wrTarget r) (wrSize r), x.plain) ∧
      v.flag (F.WIN_CFG_WRITE (wrWindow r)) = wrFlag r 2 ∧ v.fget (F.WIN_CFG_LANES (wrWindow r)) = byteAt r 2 ∧
      v.winSize (wrWindow r) = wrSize r ∧ v.winOff (wrWindow r) = wrOff r ∧ v.winTarget (wrWindow r) = wrTarget r ∧
      (∀ k, k < 8 → k ≠ wrWindow r → v.reg (R.WIN_CFG k) = s.reg (R.WIN_CFG k) ∧ v.reg (R.WIN_TARGET k) = s.reg (R.WIN_TARGET k)) ∧
      v.repliedWith c 0x0104 0) ∧
    (¬ windowRecOk r ∨ ¬ s.windowsOk [r] → Completes (.windowSet c t) s fun v => v.brg = { s.brg with ahead := v.brg.ahead } ∧ v.repliedWith c 0x0104 stBadParam ∧
      ∀ k, k < 8 → v.reg (R.WIN_CFG k) = s.reg (R.WIN_CFG k) ∧ v.reg (R.WIN_TARGET k) = s.reg (R.WIN_TARGET k))) ∧
  (∀ (s : State) (n t : Nat), s.quill.mailbox = none → s.powered pdHost →
    exec (.mailboxSubmit n t) s = .next { s.tick t with quill := { s.quill with mailbox := some ⟨n, none⟩ } }) ∧
  (∀ (s : State) (n t : Nat), s.quill.mailbox ≠ none → exec (.mailboxSubmit n t) s = .next (s.tick t)) ∧
  (∀ (s : State) (t : Nat), Completes (.mboxM2hRead t) s fun v => v.readOut.toNat = s.quill.mboxM2h % 2 ^ 32 ∧
    v = { s.tick t with readOut := v.readOut, quill := { s.quill with mboxM2h := 0 } }) ∧
  (∀ s : State, s.reachable R.BRG_PW_CAP → Completes .brgPwCapClear s fun v => v.fget F.BRG_PW_CAP_VALID = 0 ∧ State.RegsOnly [R.BRG_PW_CAP] s v) ∧
  (∀ (s : State) (bar off n t : Nat) (b : List Byte), ¬ s.bridgeUp →
    exec (.inboundRead bar off n t) s = .next (s.tick t) ∧ exec (.inboundWrite off b t) s = .next (s.tick t))

/-- OUTBOUND_COMPLETION of the read of a burst gives its data to the burst and frees tag and reservation; BRG_CREDIT
follows. Answered with an error, or timed out after 50 ms, it is a bus error of its move, repeated 10 us later while
retries are left. POSTED_CREDIT_RETURN adds credit. PCIE_LINK_CHANGE shows speed and width with the advertised credit,
or a link that is down. In D3hot a pending vector waits; back in D0, and at an MSIX_TABLE_WRITE that unmasks it, it is
sent. Of a Vector Control word the mask bit alone is stored. A table word outside the 64 entries changes nothing.
BRG_EVT_CLEAR clears the causes written with 1. PCIE_RESET drops read-ahead, reads and pending causes, disables every
host-produced queue, clears counters, and keeps the window set, the scribe's queues, the lanes, the mode and all of
memory. The layout of the MSI-X table is taken from outside the spec (log entry 50), and so is how a read is reserved
(log entry 51). -/
def Obligations.HostLinkCreditsAndResets : Prop :=
  (∀ (s : State) (r : OutRead) (q t : Nat) (m : Move) (b : Burst) (d : List Byte), q < s.que.queues.length →
      s.brg.reads.find? (fun x => x.tag == r.tag) = some r → r.use = .burst q → (s.que.queue q).active = some m → m.burst = some b →
    Completes (.outboundCompletion r.tag true d t) s fun v =>
      v.brg = { s.brg with reads := s.brg.reads.filter (·.tag != r.tag) } ∧
      v.fget F.BRG_CREDIT_TAGS = v.brg.reads.length % 64 ∧
      v.fget F.BRG_CREDIT_RESERVED_B = ((v.brg.reads.map (·.bytes)).foldl (· + ·) 0) % 65536 ∧
      (v.que.queue q) = { s.que.queue q with active := some { m with burst := some { b with data := some (padTo b.length d) } } } ∧
      (∀ k, k ≠ q → v.que.queue k = s.que.queue k) ∧ v = { s.tick t with regs := v.regs, brg := v.brg, que := v.que } ∧
      State.RegsKept [R.BRG_CREDIT] s v) ∧
  (∀ (s : State) (r : OutRead) (q t : Nat) (m : Move) (b : Burst) (d : List Byte), q < 16 → s.que.queues.length = 16 →
      s.brg.reads.find? (fun x => x.tag == r.tag) = some r → r.use = .burst q → (s.que.queue q).active = some m → m.burst = some b →
      b.line = none → m.retries < m.limit →
    (Completes (.outboundCompletion r.tag false d t) s fun v => v.brg.reads = s.brg.reads.filter (·.tag != r.tag) ∧
      v.fget (F.Q_CNT_RETRIES q) = min (s.fget (F.Q_CNT_RETRIES q) + 1) (fieldMax (F.Q_CNT_RETRIES q)) ∧
      v.inflight = s.inflight - 1) ∧
    (r.since + 50000000 ≤ (s.tick t).now → Completes (.outboundReadTimeout r.tag t) s fun v =>
      v.brg.reads = s.brg.reads.filter (·.tag != r.tag) ∧
      (v.que.queue q).active = some { m with burst := some { b with data := none }, retries := m.retries + 1
                                             spent := min (m.spent + 1) 255, retryAt := some ((s.tick t).now + 10000) } ∧
      v.qState q = s.qState q ∧ v.mem = s.mem)) ∧
  (∀ (s : State) (r : OutRead) (t : Nat), s.brg.reads.find? (fun x => x.tag == r.tag) = some r → (s.tick t).now < r.since + 50000000 →
    exec (.outboundReadTimeout r.tag t) s = .next (s.tick t)) ∧
  (∀ (s : State) (n t : Nat), s.powered pdHost →
    exec (.postedCreditReturn n t) s = .next { s.tick t with brg := { s.brg with credit := s.brg.credit + n } }) ∧
  (∀ (s : State) (sp w n t : Nat), s.powered pdHost → sp < 16 → w < 256 → Completes (.pcieLinkChange true sp w n t) s fun v =>
    v.fget F.BRG_LINK_UP = 1 ∧ v.fget F.BRG_LINK_SPEED = sp ∧ v.fget F.BRG_LINK_WIDTH = w ∧
    v.fget F.BRG_LINK_DSTATE = s.fget F.BRG_LINK_DSTATE ∧
    v = { s.tick t with regs := v.regs, brg := { s.brg with credit := n } } ∧ State.RegsKept [R.BRG_LINK] s v) ∧
  (∀ (s : State) (sp w n t : Nat), s.powered pdHost → Completes (.pcieLinkChange false sp w n t) s fun v =>
    v.fget F.BRG_LINK_UP = 0 ∧ v.fget F.BRG_LINK_SPEED = 0 ∧ v.fget F.BRG_LINK_WIDTH = 0 ∧ State.RegsOnly [R.BRG_LINK] (s.tick t) v) ∧
  (∀ (s : State) (t : Nat), s.powered pdHost → Completes (.powerStateChange true t) s fun v => v.fget F.BRG_LINK_DSTATE = 3 ∧
    ¬ v.bridgeUp ∧ State.RegsOnly [R.BRG_LINK] (s.tick t) v) ∧
  (∀ (s : State) (w t : Nat), s.powered pdHost → w < 64 → s.brg.waiting = 2 ^ w → s.msixWord (4 * w + 3) &&& 1 = 0 →
    Completes (.powerStateChange false t) s fun v => v.fget F.BRG_LINK_DSTATE = 0 ∧ v.brg.waiting = 0 ∧
      v.brg.messages = s.brg.messages + 1 ∧ v.brg.message = some (w, ((s.msixWord (4 * w + 1)).toNat * 2 ^ 32 + (s.msixWord (4 * w)).toNat,
        (s.msixWord (4 * w + 2)).toNat)) ∧ State.RegsKept [R.BRG_LINK] s v ∧ v = { s.tick t with regs := v.regs, brg := v.brg }) ∧
  (∀ (s : State) (off t : Nat) (x : Word), s.bridgeUp → off < 0x400 → s.brg.waiting = 0 →
    Completes (.msixTableWrite off x t) s fun v => v.msixWord (off / 4) = (if off / 4 % 4 = 3 then x &&& 1 else x) ∧ (∀ k, k ≠ off / 4 → v.msixWord k = s.msixWord k) ∧
      v = { s.tick t with brg := { s.brg with msix := v.brg.msix } }) ∧
  (∀ (s : State) (w t : Nat), s.bridgeUp → w < 64 → s.brg.waiting = 2 ^ w → Completes (.msixTableWrite (16 * w + 12) 0 t) s fun v =>
    v.brg.waiting = 0 ∧ v.brg.messages = s.brg.messages + 1 ∧ v.regs = s.regs) ∧
  (∀ (s : State) (off t : Nat) (x : Word), ¬ s.bridgeUp ∨ 0x400 ≤ off → exec (.msixTableWrite off x t) s = .next (s.tick t)) ∧
  (∀ (s : State) (n : Nat), s.reachable R.BRG_EVT → Completes (.brgEvtClear n) s fun v =>
    (∀ i, i < 11 → ((v.fget F.BRG_EVT_CAUSE).testBit i ↔ (s.fget F.BRG_EVT_CAUSE).testBit i ∧ ¬ n.testBit i)) ∧
    State.RegsOnly [R.BRG_EVT] s v) ∧
  (∀ (s : State) (flr : Bool) (t : Nat), s.powered pdHost → s.que.queues.length = 16 → Completes (.pcieReset flr t) s fun v =>
    v.brg.ahead = [] ∧ v.brg.reads = [] ∧ v.brg.waiting = 0 ∧ v.fget F.BRG_EVT_CAUSE = 0 ∧ v.fget F.BRG_ERR_CA = 0 ∧
    v.fget F.BRG_CREDIT_TAGS = 0 ∧ v.fget F.BRG_PW_COUNT_COUNT = 0 ∧
    (∀ w, w < 8 → v.reg (R.WIN_CFG w) = s.reg (R.WIN_CFG w) ∧ v.reg (R.WIN_TARGET w) = s.reg (R.WIN_TARGET w) ∧
      v.fget (F.WIN_RD_COUNT w) = 0 ∧ v.fget (F.WIN_WR_COUNT w) = 0) ∧
    (∀ q, q < 16 → ¬ s.qScribe q → v.que.queue q = queueReset ∧ v.qState q = qDisabled ∧ v.fget (F.Q_CTRL_ENABLE q) = 0 ∧
      v.qDone q = v.qTail q ∧ v.qTail q = s.qTail q) ∧
    (∀ q, q < 16 → s.qScribe q → v.que.queue q = s.que.queue q ∧ v.qState q = s.qState q) ∧
    v.mem = s.mem ∧ v.laneA = s.laneA ∧ v.laneB = s.laneB ∧ v.laneC = s.laneC ∧ v.vote = s.vote ∧ v.folio = s.folio ∧
    v.ductus = s.ductus ∧ v.ssm = s.ssm ∧ v.dup = s.dup ∧ v.quill = s.quill ∧ v.fget F.VOTE_CTRL_MODE = s.fget F.VOTE_CTRL_MODE)

/-- For queue q below 16, written by its producer. A doorbell on a DISABLED queue is stored unchecked; on a RUNNING
one TAIL follows when both differences stay within the ring, else TAIL stays and the queue halts with cause DOORBELL.
Ring fields change while DISABLED only. ENABLE with a size of 4 to 12 runs the queue with DONE and FETCH at TAIL;
ENABLE 0 on a queue without a burst writes back what has not completed and disables it. ENABLE 0 on a queue that a bus
error halted gives its move up with ABORTED. RESUME runs a HALTED queue, its failed burst at once; SKIP writes back
the halted descriptor with BUS_ERROR, or passes one of bad ownership or format, with its IRQ; after a doorbell error
SKIP is RESUME. IRQ and HALT_EVT clear. DESCRIPTOR_FETCH takes an owned, well-formed descriptor and halts at another.
QUEUE_CONFIG gathers a set, closes it when it is LAST and sound, else answers BAD_PARAM and drops it; DISCARD and 10 s
drop it; at the take-over a QUEUE record sets the queue's attributes. Where a write is ignored, which counter a halt
names and how many descriptors are fetched ahead the model settles (log entries 13 and 51). -/
def Obligations.RingsDoorbellsAndQueueStates : Prop :=
  (∀ (s : State) (q n t : Nat) (r : Requester), q < 16 → s.mayDrive q r →
    (s.qState q = qDisabled → Completes (.doorbell q n r t) s fun v => v.qTail q = n % 65536 ∧ State.RegsOnly [R.Q_DB q] (s.tick t) v) ∧
    (s.qState q = qRunning → ctrDiff (n % 65536) (s.qDone q) ≤ s.qSize q ∧ ctrDiff (n % 65536) (s.qTail q) ≤ s.qSize q →
      Completes (.doorbell q n r t) s fun v => v.qTail q = n % 65536 ∧ State.RegsOnly [R.Q_DB q] (s.tick t) v) ∧
    (s.qState q = qRunning → ¬ (ctrDiff (n % 65536) (s.qDone q) ≤ s.qSize q ∧ ctrDiff (n % 65536) (s.qTail q) ≤ s.qSize q) →
      Completes (.doorbell q n r t) s fun v => v.qTail q = s.qTail q ∧ v.qState q = qHalted ∧ v.fget (F.Q_STAT_CAUSE q) = haltDoorbell ∧
        v.fget (F.Q_HALT_DESC_COUNTER q) = n % 65536 ∧ v.flag (F.Q_STAT_HALT_EVT q) ∧
        v = { s.tick t with regs := v.regs, brg := v.brg } ∧ State.RegsKept [R.Q_STAT q, R.Q_HALT_DESC q] s v)) ∧
  (∀ (s : State) (q n t : Nat) (r : Requester), ¬ s.mayDrive q r → exec (.doorbell q n r t) s = .next (s.tick t)) ∧
  (∀ (s : State) (q t : Nat) (x : Word), q < 16 → s.mayDrive q .host → s.qState q = qDisabled →
    (Completes (.ringConfigWrite q 0 x t) s fun v => v.fget (F.Q_BASE_LO_BASE q) = x.toNat / 4096 ∧ State.RegsOnly [R.Q_BASE_LO q] (s.tick t) v) ∧
    (Completes (.ringConfigWrite q 1 x t) s fun v => v.fget (F.Q_BASE_HI_BASE q) = x.toNat ∧ State.RegsOnly [R.Q_BASE_HI q] (s.tick t) v) ∧
    (Completes (.ringConfigWrite q 2 x t) s fun v => v.fget (F.Q_CTRL_SIZE_LOG2 q) = x.toNat % 16 ∧ State.RegsOnly [R.Q_CTRL q] (s.tick t) v)) ∧
  (∀ (s : State) (q k t : Nat) (x : Word), ¬ s.mayDrive q .host ∨ s.qState q ≠ qDisabled → exec (.ringConfigWrite q k x t) s = .next (s.tick t)) ∧
  (∀ (s : State) (q t : Nat) (r : Requester), q < 16 → s.mayDrive q r → s.qState q = qDisabled → ¬ s.enableHeld q → 4 ≤ s.fget (F.Q_CTRL_SIZE_LOG2 q) →
      s.fget (F.Q_CTRL_SIZE_LOG2 q) ≤ 12 → s.que.queues.length = 16 →
    Completes (.queueEnable q r t) s fun v => v.qState q = qRunning ∧ v.fget (F.Q_CTRL_ENABLE q) = 1 ∧ v.qDone q = s.qTail q ∧ v.qTail q = s.qTail q ∧
      v.qFetch q = s.qTail q ∧ v.que.queue q = queueReset ∧ (∀ k, k ≠ q → v.que.queue k = s.que.queue k) ∧
      v = { s.tick t with regs := v.regs, que := v.que } ∧ State.RegsKept [R.Q_CTRL q, R.Q_STAT q, R.Q_CFG q] s v) ∧
  (∀ (s : State) (q t : Nat) (r : Requester), s.fget (F.Q_CTRL_SIZE_LOG2 q) < 4 ∨ 12 < s.fget (F.Q_CTRL_SIZE_LOG2 q) →
    exec (.queueEnable q r t) s = .next (s.tick t)) ∧
  (∀ (s : State) (q t : Nat) (r : Requester), q < 16 → s.mayDrive q r → s.qState q = qRunning → s.que.queues.length = 16 →
      (s.que.queue q).active = none → (s.que.queue q).fetched = [] → (s.que.queue q).cmds = [] →
    Completes (.queueDisable q r t) s fun v => v.qState q = qDisabled ∧ v.fget (F.Q_CTRL_ENABLE q) = 0 ∧ v.qDone q = s.qTail q ∧
      v.qTail q = s.qTail q ∧ v.fget (F.Q_CNT_COMPLETIONS q) = (s.fget (F.Q_CNT_COMPLETIONS q) + ctrDiff (s.qTail q) (s.qFetch q)) % 2 ^ 16) ∧
  (∀ (s : State) (q t : Nat) (r : Requester) (m : Move), q < 16 → s.mayDrive q r → s.qState q = qRunning →
      (s.que.queue q).active = some m → m.burst ≠ none →
    Completes (.queueDisable q r t) s fun v => v.qState q = qDraining ∧ v.fget (F.Q_CTRL_ENABLE q) = 0 ∧
      State.RegsOnly [R.Q_CTRL q, R.Q_STAT q] (s.tick t) v) ∧
  (∀ (s : State) (q t : Nat) (r : Requester) (m : Move), q < 16 → s.mayDrive q r → s.qState q = qHalted → s.fget (F.Q_STAT_CAUSE q) = haltBus →
      s.que.queues.length = 16 → (s.que.queue q).active = some m → (∀ b, m.burst = some b → b.line = none) → (s.que.queue q).fetched = [] →
      (s.que.queue q).cmds = [] → s.qFetch q = s.qTail q →
    Completes (.queueDisable q r t) s fun v => v.qState q = qDisabled ∧ v.fget (F.Q_CTRL_ENABLE q) = 0 ∧ (v.que.queue q).active = none ∧
      v.qDone q = s.qTail q ∧ v.fget (F.Q_CNT_COMPLETIONS q) = (s.fget (F.Q_CNT_COMPLETIONS q) + 1) % 2 ^ 16 ∧
      (¬ isModule (s.descAddr q m.counter) →
        v.brg.posted = some (s.descAddr q m.counter + 48, writeBackBytes wbAborted m.spent m.done))) ∧
  (∀ (s : State) (q u t : Nat) (m : Move), q < 16 → s.mayDrive q .host → s.qState q = qHalted → s.que.queues.length = 16 →
      (s.que.queue q).active = some m → m.retryAt = some u →
    Completes (.queueResume q t) s fun v => v.qState q = qRunning ∧
      (v.que.queue q) = { s.que.queue q with bad := [], active := some { m with retries := 0, retryAt := some (s.tick t).now } } ∧
      v = { s.tick t with regs := v.regs, que := v.que } ∧ State.RegsKept [R.Q_STAT q] s v) ∧
  (∀ (s : State) (q t : Nat), q < 16 → s.mayDrive q .host → s.qState q = qHalted → s.que.queues.length = 16 →
    (∀ m, s.fget (F.Q_STAT_CAUSE q) = haltBus → (s.que.queue q).active = some m → m.burst = none →
      Completes (.queueSkip q t) s fun v => v.qState q = qRunning ∧ (v.que.queue q).active = none ∧
        s.WroteBack q m.counter wbBusError m.spent m.done v) ∧
    (∀ c, s.fget (F.Q_STAT_CAUSE q) = haltOwn ∨ s.fget (F.Q_STAT_CAUSE q) = haltFormat → s.fget (F.Q_HALT_DESC_COUNTER q) = c → s.qFetch q = c →
      Completes (.queueSkip q t) s fun v => v.qState q = qRunning ∧ v.qFetch q = (c + 1) % 65536 ∧ s.WroteBack q c wbFormat 0 0 v ∧
        (dIrq (s.que.queue q).bad → v.fget (F.Q_STAT_IRQ q) = 1)) ∧
    (s.fget (F.Q_STAT_CAUSE q) = haltDoorbell → exec (.queueSkip q t) s = exec (.queueResume q t) s ∧
      Completes (.queueSkip q t) s fun v => v.qState q = qRunning ∧ State.RegsKept [R.Q_STAT q] s v)) ∧
  (∀ (s : State) (q : Nat), q < 16 → s.reachable (R.Q_STAT q) →
    (Completes (.qStatIrqClear q) s fun v => v.fget (F.Q_STAT_IRQ q) = 0 ∧ v.qState q = s.qState q ∧ v.qDone q = s.qDone q ∧ State.RegsOnly [R.Q_STAT q] s v) ∧
    (Completes (.qStatHaltEvtClear q) s fun v => v.fget (F.Q_STAT_HALT_EVT q) = 0 ∧ v.qState q = s.qState q ∧ v.qDone q = s.qDone q ∧
      State.RegsOnly [R.Q_STAT q] s v)) ∧
  (∀ (s : State) (q t : Nat) (d : List Byte), q < 16 → s.served q → s.qState q = qRunning → s.qFetch q ≠ s.qTail q → s.que.queues.length = 16 →
      (s.que.queue q).fetched.length < 4 → ¬ isModule (s.descAddr q (s.qFetch q)) → d.length = 64 →
    (dOwn d → s.descOk q d → Completes (.descriptorFetch q d t) s fun v => v.qFetch q = (s.qFetch q + 1) % 65536 ∧
      v.que.queue q = { s.que.queue q with fetched := (s.que.queue q).fetched ++ [(s.qFetch q, d)] } ∧
      v = { s.tick t with regs := v.regs, que := v.que } ∧ State.RegsKept [R.Q_CFG q] s v) ∧
    (¬ (dOwn d ∧ s.descOk q d) → Completes (.descriptorFetch q d t) s fun v => v.qState q = qHalted ∧
      v.fget (F.Q_STAT_CAUSE q) = (if dOwn d then haltFormat else haltOwn) ∧ v.fget (F.Q_HALT_DESC_COUNTER q) = s.qFetch q ∧
      v.que.queue q = { s.que.queue q with bad := d } ∧ (∀ k, k ≠ q → v.que.queue k = s.que.queue k) ∧
      State.RegsKept [R.Q_STAT q, R.Q_HALT_DESC q] s v)) ∧
  (∀ (s : State) (c : Cmd) (rs : List (List Byte)) (r : List Byte) (a t : Nat), (s.tick t).admits c 2 → r.length = 8 → queRecOk r →
      s.que.set = some ⟨rs, none, none, a⟩ ∨ (s.que.set = none ∧ rs = []) →
    (c.params = [0, 0, 1, 0] ++ (zeros 4 ++ r) → Completes (.queueConfig c t) s fun v =>
      v.que = { s.que with set := some ⟨rs ++ [r], none, none, (s.tick t).now⟩ } ∧ v.repliedWith c 0x0105 0) ∧
    (c.params = [1, 0, 1, 0] ++ (zeros 4 ++ r) → s.queSetOk (rs ++ [r]) → Completes (.queueConfig c t) s fun v =>
      v.que = { s.que with set := some ⟨rs ++ [r], some c, some (s.tick t).now, (s.tick t).now⟩ } ∧ v.quill.replies = s.quill.replies) ∧
    (c.params = [1, 0, 1, 0] ++ (zeros 4 ++ r) → ¬ s.queSetOk (rs ++ [r]) → Completes (.queueConfig c t) s fun v =>
      v.que = { s.que with set := none } ∧ v.repliedWith c 0x0105 stBadParam)) ∧
  (∀ (s : State) (c : Cmd) (t : Nat), (s.tick t).admits c 2 → c.params = [2, 0, 0, 0] ++ zeros 4 → Completes (.queueConfigDiscard c t) s fun v =>
    v.que = { s.que with set := none } ∧ v.repliedWith c 0x0105 0) ∧
  (∀ (s : State) (rs : List (List Byte)) (a t : Nat), s.que.set = some ⟨rs, none, none, a⟩ → a + 10000000000 ≤ (s.tick t).now →
    exec (.queueConfigSetTimeout t) s = .next { s.tick t with que := { s.que with set := none } }) ∧
  (∀ (s : State) (r : List Byte), queRecOk r → byteAt r 0 = 1 → let v := s.applyQueRec r
    v.qType (byteAt r 1) = byteAt r 2 ∧ v.fget (F.Q_CFG_PRIORITY (byteAt r 1)) = byteAt r 3 ∧ v.fget (F.Q_CFG_RETRY (byteAt r 1)) = byteAt r 4 ∧
    (v.qScribe (byteAt r 1) ↔ byteAt r 5 = 1) ∧ State.RegsOnly [R.Q_CFG (byteAt r 1)] s v)

/-- The engine's choice is a ready queue of highest priority. BURST_START, with fewer than 8 bursts in flight: a
burst from host memory reserves and sends an outbound read, one from a line takes the unit its source holds and
makes the line busy. With 8 in flight, or no ready queue, nothing starts. A burst is repeated as often as RETRY
allowed when it started. BURST_DONE writes the data of a burst:
posted to the host while it gives credit, else it waits; a COMMAND queue's whole packet goes to the scribe; the last
burst of a move without LANDED is written back OK. An ECC error of a module source is a bus error. FLUSH_READ_RETURN
completes the descriptor; BURST_RETRY repeats the burst or the flush alone at its instant. A request-driven
descriptor idle for IDLE_US completes with IDLE. A burst from module memory has its data at once, and one that reads
MBOX_M2H clears it. A source asserts its line when it has a unit, and withdraws it. When a read is reserved, and what a
short SOE unit holds, the model settles (log entries 51 and 52). -/
def Obligations.BurstsMoveDataAndComplete : Prop :=
  (∀ (s : State) (q : Nat), s.choose = some q → q < 16 ∧ ∃ m, s.nextMove q = some m ∧ s.ready q m ∧
    ∀ p n, p < 16 → s.nextMove p = some n → s.ready p n → s.fget (F.Q_CFG_PRIORITY p) ≤ s.fget (F.Q_CFG_PRIORITY q)) ∧
  (∀ (s : State) (q t : Nat) (m : Move), s.inflight < 8 → (s.tick t).choose = some q → (s.tick t).nextMove q = some m → hostSource m.desc →
      s.que.queues.length = 16 →
    Completes (.burstStart t) s fun v => v.inflight = s.inflight + 1 ∧ v.mem = s.mem ∧
      v.brg = { s.brg with reads := s.brg.reads ++ [⟨s.brg.freeTag, (s.tick t).burstLen q m, .burst q, (s.tick t).now⟩] } ∧
      (v.que.queue q).active = some { m with burst := some ⟨(s.tick t).burstLen q m, none, none⟩, retryAt := none
                                             limit := s.fget (F.Q_CFG_RETRY q) } ∧
      (∀ k, k ≠ q → v.que.queue k = s.que.queue k) ∧ State.RegsKept [R.QUE_ENGINE, R.BRG_CREDIT] s v) ∧
  (∀ (s : State) (q t : Nat) (m : Move), s.inflight < 8 → (s.tick t).choose = some q → (s.tick t).nextMove q = some m → dReq m.desc →
      s.qType q = qMove → dLine m.desc < 32 → s.que.queues.length = 16 → (s.que.queue q).active = some m →
    Completes (.burstStart t) s fun v => v.inflight = s.inflight + 1 ∧ v.lineBusy (dLine m.desc) ∧ v.brg = s.brg ∧ v.mem = s.mem ∧
      (v.que.queue q).active = some { m with
        burst := some ⟨(s.tick t).burstLen q m, some (dLine m.desc), (s.tick t).unit (dLine m.desc)⟩, retryAt := none
        limit := s.fget (F.Q_CFG_RETRY q) } ∧
      State.RegsKept [R.QUE_ENGINE, R.QUE_REQ_BUSY] s v) ∧
  (∀ (s : State) (q t : Nat) (m : Move), s.inflight < 8 → (s.tick t).choose = some q → (s.tick t).nextMove q = some m → ¬ dReq m.desc →
      ¬ hostSource m.desc → s.que.queues.length = 16 → (s.que.queue q).active = some m →
    let r := (s.tick t).moveRead q (dAddrA m.desc) (dSrcWrap m.desc) m.done ((s.tick t).burstLen q m)
    Completes (.burstStart t) s fun v => v.inflight = s.inflight + 1 ∧ v.brg = s.brg ∧ v.mem = s.mem ∧
      (v.que.queue q).active = some { m with burst := some ⟨(s.tick t).burstLen q m, none, some r.2⟩, retryAt := none
                                             limit := s.fget (F.Q_CFG_RETRY q) } ∧
      v.quill = r.1.quill) ∧
  (∀ (s : State) (q a n i : Nat), ¬ s.qScribe q → i < n → moduleAddr (a + i) = some (mboxControl + 4) →
    (s.moveRead q a 0 0 n).1.quill = { s.quill with mboxM2h := 0 }) ∧
  (∀ (s : State) (t : Nat), 8 ≤ s.inflight ∨ (s.tick t).choose = none → exec (.burstStart t) s = .next (s.tick t)) ∧
  (∀ (s : State) (q t : Nat) (m : Move) (b : Burst) (d : List Byte), q < 16 → s.que.queues.length = 16 → (s.que.queue q).active = some m →
      m.burst = some b → b.data = some d → m.retryAt = none → b.line = none → s.qType q = qMove → s.qState q = qRunning → ¬ isModule (dAddrB m.desc) →
    (s.canPost b.length → m.done + b.length < dLenA m.desc → Completes (.burstDone q false t) s fun v =>
      v.brg = { s.brg with posted := some (wrapAddr (dAddrB m.desc) (dDstWrap m.desc) m.done, d.take b.length), writes := s.brg.writes + 1
                           credit := s.brg.credit - (d.take b.length).length } ∧
      v.inflight = s.inflight - 1 ∧ ((v.que.queue q).active.any fun x => x.done == m.done + b.length && (x.burst == none && x.desc == m.desc)) ∧
      v.mem = s.mem ∧ State.RegsKept [R.QUE_ENGINE] s v) ∧
    (s.canPost b.length → dLenA m.desc ≤ m.done + b.length → ¬ dLanded m.desc → Completes (.burstDone q false t) s fun v =>
      (v.que.queue q).active = none ∧ s.WroteBack q m.counter wbOk m.spent (m.done + b.length) v ∧ (dIrq m.desc → v.fget (F.Q_STAT_IRQ q) = 1)) ∧
    (s.canPost b.length → dLenA m.desc ≤ m.done + b.length → dLanded m.desc → Completes (.burstDone q false t) s fun v =>
      ((v.que.queue q).active.any fun x => x.flush == some wbOk) ∧ (∃ r ∈ v.brg.reads, r.use = .flush q) ∧
      v.fget (F.Q_CNT_COMPLETIONS q) = s.fget (F.Q_CNT_COMPLETIONS q)) ∧
    (¬ s.canPost b.length → exec (.burstDone q false t) s = .next (s.tick t))) ∧
  (∀ (s : State) (q t : Nat) (m : Move) (b : Burst) (d : List Byte), q < 16 → s.que.queues.length = 16 → (s.que.queue q).active = some m →
      m.burst = some b → b.data = some d → m.retryAt = none → s.qType q = qCommand → s.qState q = qRunning →
    (dLenA m.desc ≤ m.done + b.length → (s.que.queue q).cmds.length < 16 → Completes (.burstDone q false t) s fun v =>
      v.que.queue q = { s.que.queue q with active := none, cmds := (s.que.queue q).cmds ++ [⟨m.counter, m.desc, m.packet ++ d, none⟩] } ∧
      v.fget (F.Q_STAT_OUTSTANDING q) = (s.que.queue q).cmds.length + 1 ∧ v.inflight = s.inflight - 1 ∧ v.mem = s.mem) ∧
    (¬ hostSource m.desc → m.retries < m.limit → Completes (.burstDone q true t) s fun v => v.inflight = s.inflight - 1 ∧
      v.fget (F.Q_CNT_RETRIES q) = min (s.fget (F.Q_CNT_RETRIES q) + 1) 0xFFFF ∧
      ((v.que.queue q).active.any fun x => x.retryAt == some ((s.tick t).now + 10000) && (x.done == m.done && x.retries == m.retries + 1)) ∧
      v.qState q = qRunning)) ∧
  (∀ (s : State) (q t st : Nat) (m : Move) (r : OutRead), q < 16 → s.que.queues.length = 16 → (s.que.queue q).active = some m →
      s.readFor (.flush q) = some r → m.flush = some st → s.qState q = qRunning →
    Completes (.flushReadReturn q true t) s fun v => (v.que.queue q).active = none ∧ v.brg.reads = s.brg.reads.filter (·.tag != r.tag) ∧
      s.WroteBack q m.counter st m.spent m.done v) ∧
  (∀ (s : State) (q u t : Nat) (m : Move) (b : Burst), q < 16 → s.que.queues.length = 16 → (s.que.queue q).active = some m → m.retryAt = some u →
      u ≤ (s.tick t).now → s.qState q = qRunning →
    (m.flush ≠ none → Completes (.burstRetry q t) s fun v => (v.que.queue q).active = some { m with retryAt := none } ∧
      v.brg.reads = s.brg.reads ++ [⟨s.brg.freeTag, 0, .flush q, (s.tick t).now⟩]) ∧
    (m.flush = none → m.burst = some b → b.line ≠ none → s.inflight < 8 → Completes (.burstRetry q t) s fun v =>
      (v.que.queue q).active = some { m with retryAt := none } ∧ v.inflight = s.inflight + 1 ∧ v.brg = s.brg) ∧
    (m.flush = none → m.burst = some b → b.line = none → hostSource m.desc → s.inflight < 8 → Completes (.burstRetry q t) s fun v =>
      v.inflight = s.inflight + 1 ∧ (∃ r ∈ v.brg.reads, r.use = .burst q) ∧
      ((v.que.queue q).active.any fun x => x.done == m.done && x.retryAt == none))) ∧
  (∀ (s : State) (q u t : Nat) (m : Move), q < 16 → s.que.queues.length = 16 → (s.que.queue q).active = some m → m.lastBurst = some u →
      dReq m.desc → m.burst = none → m.flush = none → dIdle m.desc ≠ 0 → s.qState q = qRunning →
    (u + dIdle m.desc ≤ (s.tick t).now → ¬ dLanded m.desc → Completes (.requestIdleTimeout q t) s fun v =>
      (v.que.queue q).active = none ∧ s.WroteBack q m.counter wbIdle m.spent m.done v) ∧
    ((s.tick t).now < u + dIdle m.desc → exec (.requestIdleTimeout q t) s = .next (s.tick t))) ∧
  (∀ (s : State) (l t : Nat), l < 20 →
    ((s.tick t).unit l ≠ none → Completes (.requestLineAssert l t) s fun v => v.asserted l ∧ (∀ k, k < 32 → k ≠ l → (v.asserted k ↔ s.asserted k)) ∧
      State.RegsOnly [R.QUE_REQ] (s.tick t) v) ∧
    ((s.tick t).unit l = none → exec (.requestLineAssert l t) s = .next (s.tick t)) ∧
    (Completes (.requestLineWithdraw l t) s fun v => ¬ v.asserted l ∧ (∀ k, k < 32 → k ≠ l → (v.asserted k ↔ s.asserted k)) ∧
      v.que.queues = s.que.queues ∧ (∀ k, k ≠ l → assoc v.que.units k = assoc s.que.units k) ∧
      State.RegsKept [R.QUE_REQ] s v ∧ v = { s.tick t with regs := v.regs, que := v.que }))

/-- QUILL_PACKET_RECEIVE: a LANE-class packet is forwarded with what the lanes will find of its trailer, session and
SEQUENCE; a SCRIBE-class packet that fails is counted in QUILL_AUTH, one that passes is its command; without a
packet nothing happens. LANE_PACKET_CHECK: a voting lane forms its verdict; behind a fence it waits; an unauthentic
packet is counted and dropped. VERDICT_RECEIVE: one verdict waits; two identical accept or refuse; a third that
differs excludes its lane with DISAGREE; two lanes that differ, with no third, refuse with CHECK_FAIL and count
NO_MAJ. VERDICT_TIMEOUT: 2 ms after the decision a missing lane is excluded with MISSING; one verdict alone ends
without an answer. LANE_REPLY_RECEIVE: two identical copies release the reply, and with it
a QUEUE fence that waited for it completes. A verdict of a lane that votes no more counts
for nothing. COMMAND_REPLY_WRITE: to the mailbox
with MBOX_M2H, or to the descriptor, written back OK. That a trailer passes is the
command's operand (log entry 8); what a fence holds back, and the points of log entries 53 and 54, are the model's
(log entry 24). -/
def Obligations.PacketsAreForwardedVotedAndAnswered : Prop :=
  (∀ (s : State) (q t : Nat) (p params : List Byte) (auth : Bool), s.nextPacket q = some p → pkOpcode p ∉ scribeOps → pkSession p ≠ 0 →
    Completes (.quillPacketReceive q params auth t) s fun v =>
      v.quill.inflight = s.quill.inflight ++ [⟨packetCmd q p params, pkOpcode p, pkSequence p, s.laneAuth (packetCmd q p params) p auth, [], [], none⟩] ∧
      v.regs = s.regs ∧ v.mem = s.mem ∧ v.quill.cmds = s.quill.cmds ∧ v.quill.replies = s.quill.replies) ∧
  (∀ (s : State) (q t : Nat) (p params : List Byte), s.nextPacket q = some p → pkOpcode p ∈ scribeOps →
    Completes (.quillPacketReceive q params false t) s fun v => v.quill.cmds = s.quill.cmds ∧ v.mem = s.mem ∧
      v.fget F.QUILL_AUTH_SCRIBE = min (s.fget F.QUILL_AUTH_SCRIBE + 1) 0xFFFF ∧ State.RegsKept [R.QUILL_AUTH] s v) ∧
  (∀ (s : State) (x : Session) (q t : Nat) (p params : List Byte), s.nextPacket q = some p → pkOpcode p = 0x0101 → pkSession p ≠ 0 →
      s.session (pkSession p) = some x → headerOk p → s.sessionOk (packetCmd q p params) → x.scribeWindow.isNew (pkSequence p) →
    exec (.quillPacketReceive q params true t) s = exec (.moduleInfo (packetCmd q p params) t)
      (((s.tick t).nameCmd q (packetCmd q p params)).setSession { x with scribeWindow := x.scribeWindow.accept (pkSequence p) })) ∧
  (∀ (s : State) (q t : Nat) (params : List Byte) (auth : Bool), s.nextPacket q = none →
    exec (.quillPacketReceive q params auth t) s = .next (s.tick t)) ∧
  (∀ (s : State) (i : Inflight) (l : Lane) (x : CheckInput) (t : Nat), s.quill.inflight = [i] → laneVal i.formed l = none → s.isVoting l →
      2 ≤ s.voters.length →
    (i.authentic → ¬ s.fenced i.cmd → i.opcode ∉ notedOps → Completes (.lanePacketCheck l i.cmd.queue i.cmd.tag x t) s fun v =>
      v.quill.inflight = [{ i with formed := i.formed ++ [(l, ((s.tick t).touch i.cmd.session).laneVerdict i.cmd i.opcode x)] }] ∧
      v.regs = s.regs ∧ v.mem = s.mem ∧ v.quill.cmds = s.quill.cmds) ∧
    (i.authentic → s.fenced i.cmd → i.opcode ≠ opAbort → exec (.lanePacketCheck l i.cmd.queue i.cmd.tag x t) s = .next (s.tick t)) ∧
    (¬ i.authentic → i.cmd.session ≠ 0 → Completes (.lanePacketCheck l i.cmd.queue i.cmd.tag x t) s fun v => v.quill.inflight = [] ∧
      v.fget F.QUILL_AUTH_LANE = min (s.fget F.QUILL_AUTH_LANE + 1) 0xFFFF ∧ v.quill.cmds = s.quill.cmds ∧ State.RegsKept [R.QUILL_AUTH] s v)) ∧
  (∀ (s : State) (i : Inflight) (l : Lane) (w : Verdict) (t : Nat), s.quill.inflight = [i] → laneVal i.formed l = some w → s.isVoting l → i.decided = none →
    (i.verdicts = [] → 2 ≤ s.voters.length → Completes (.verdictReceive l i.cmd.queue i.cmd.tag none t) s fun v =>
      v = { s.tick t with quill := { s.quill with inflight := [{ i with verdicts := [(l, (w, (s.tick t).now))] }] } }) ∧
    (∀ k a, i.verdicts = [(k, (w, a))] → k ≠ l → s.isVoting k → w = .accept → Completes (.verdictReceive l i.cmd.queue i.cmd.tag none t) s fun v =>
      (v.quill.cmds.any fun r => r.cmd == i.cmd && (r.opcode == i.opcode && (r.accepted == (s.tick t).now && !r.started))) ∧
      v.fget F.QUILL_ACCEPT_COUNT = (s.fget F.QUILL_ACCEPT_COUNT + 1) % 2 ^ 32 ∧ (∀ j, v.laneSt j = s.laneSt j)) ∧
    (∀ k a st ix, i.verdicts = [(k, (w, a))] → k ≠ l → s.isVoting k → w = .refuse st ix → Completes (.verdictReceive l i.cmd.queue i.cmd.tag none t) s fun v =>
      v.repliedWith i.cmd i.opcode st ∧ v.fget F.QUILL_REFUSE_COUNT = min (s.fget F.QUILL_REFUSE_COUNT + 1) (2 ^ 32 - 1) ∧
      (∀ j, v.laneSt j = s.laneSt j)) ∧
    (∀ k z a, i.verdicts = [(k, (z, a))] → k ≠ l → ¬ s.isVoting k → 2 ≤ s.voters.length →
      exec (.verdictReceive l i.cmd.queue i.cmd.tag none t) s =
        .next { s.tick t with quill := { s.quill with inflight := [{ i with verdicts := [(k, (z, a)), (l, (w, (s.tick t).now))] }] } }) ∧
    (∀ k z a, i.verdicts = [(k, (z, a))] → z ≠ w → s.voters.length = 2 → s.isVoting k → k ≠ l →
      Completes (.verdictReceive l i.cmd.queue i.cmd.tag none t) s fun v => v.repliedWith i.cmd i.opcode stCheckFail ∧
        v.fget F.QUILL_DIS_NO_MAJ = min (s.fget F.QUILL_DIS_NO_MAJ + 1) 0xFF ∧ v.quill.inflight = [] ∧ (∀ j, v.laneSt j = s.laneSt j))) ∧
  (∀ (s : State) (i : Inflight) (w z : Verdict) (a b c t : Nat), s.quill.inflight = [i] → s.voters = [.a, .b, .c] →
      i.verdicts = [(.a, (z, a)), (.b, (z, b))] → i.decided = some (z, c) →
    (laneVal i.formed .c = some w → w ≠ z → Completes (.verdictReceive .c i.cmd.queue i.cmd.tag none t) s fun v => v.laneSt .c = .excluded ∧
      v.fget (F.LANE_STATE_CAUSE .c) = laneCauseCode .disagree ∧ v.fget F.QUILL_DIS_LANE_C = min (s.fget F.QUILL_DIS_LANE_C + 1) 0xFF ∧
      v.quill.inflight = [] ∧ v.laneSt .a = .voting ∧ v.laneSt .b = .voting) ∧
    (b + ms2 ≤ (s.tick t).now → s.quill.replies = [] → Completes (.verdictTimeout i.cmd.queue i.cmd.tag t) s fun v => v.laneSt .c = .excluded ∧
      v.fget (F.LANE_STATE_CAUSE .c) = laneCauseCode .missing ∧ v.quill.inflight = [] ∧ v.laneSt .a = .voting ∧ v.laneSt .b = .voting)) ∧
  (∀ (s : State) (i : Inflight) (k : Lane) (z : Verdict) (a t : Nat), s.quill.inflight = [i] → i.verdicts = [(k, (z, a))] → s.isVoting k → i.decided = none →
      a + ms2 ≤ (s.tick t).now → s.quill.replies = [] → 
    exec (.verdictTimeout i.cmd.queue i.cmd.tag t) s = .next (((s.tick t).fsat F.QUILL_DIS_NO_MAJ).dropInflight i).settleQueueFences ∧
    (s.ductus.fences = [] → Completes (.verdictTimeout i.cmd.queue i.cmd.tag t) s fun v =>
      v.quill = { s.quill with inflight := [] } ∧ v.fget F.QUILL_DIS_NO_MAJ = min (s.fget F.QUILL_DIS_NO_MAJ + 1) 0xFF ∧
      State.RegsKept [R.QUILL_DIS] s v ∧ v.mem = s.mem)) ∧
  (∀ (s : State) (r : Reply) (k l : Lane) (a t : Nat), s.quill.replies = [r] → ¬ r.released → ¬ r.dropped → ¬ r.written → r.copies = [(k, (r.params, a))] →
      k ≠ l → s.isVoting k → s.isVoting l → exec (.laneReplyReceive l r.cmd.queue r.cmd.tag none t) s =
    .next (State.settleQueueFences { s.tick t with quill := { s.quill with
      replies := [{ r with released := true, copies := [(k, (r.params, a)), (l, (r.params, (s.tick t).now))] }] } })) ∧
  (∀ (s : State) (r : Reply) (m : Mail) (c : Cmd) (t : Nat), s.quill.replies = [r] → r.released → ¬ r.dropped → ¬ r.written → r.cmd.queue = 16 →
      r.copies = [] → r.cmd.session = 0 → s.quill.mailbox = some m → m.cmd = some c → answers r c → Completes (.commandReplyWrite 16 t) s fun v =>
    v.mreadN mailOut (48 + r.params.length) = replyHeader r (48 + r.params.length) ++ (r.params ++ zeros 16) ∧ v.quill.mailbox = none ∧
    v.quill.mboxM2h = 48 + r.params.length ∧ v.quill.replies = [] ∧ State.RegsKept [R.BRG_EVT] s v ∧
    (s.quill.mboxM2h = 0 → s.powered pdHost → (v.fget F.BRG_EVT_CAUSE).testBit evMailbox)) ∧
  (∀ (s : State) (r : Reply) (f : Forwarded) (c : Cmd) (q t : Nat), q < 16 → s.que.queues.length = 16 → s.quill.replies = [r] → r.released → ¬ r.dropped →
      ¬ r.written → r.cmd.queue = q → r.copies = [] → r.cmd.session = 0 → (s.que.queue q).cmds = [f] → f.cmd = some c → answers r c →
      assoc s.que.scribeBuf (dAddrB f.desc) = none → ¬ isModule (dAddrB f.desc) → s.canPost (48 + r.params.length) → 48 + r.params.length ≤ dLenB f.desc →
      s.qState q = qRunning → Completes (.commandReplyWrite q t) s fun v =>
    s.WroteBack q f.counter wbOk 0 (48 + r.params.length) v ∧ (v.que.queue q).cmds = [] ∧ v.fget (F.Q_STAT_OUTSTANDING q) = 0 ∧ v.quill.replies = [] ∧
    (dIrq f.desc → v.fget (F.Q_STAT_IRQ q) = 1))

/-- SESSION_OPEN with a level from 1 to 4 and fewer than 16 sessions makes a pending session with the next
identifier; with 16 it is BUSY. The second phase: in BLANK without a credential the session opens at level OWNER;
with a credential that passes every step it opens at the granted level; with one that fails it is AUTH_FAIL and the
session is destroyed. SESSION_CLOSE ends it after its reply; 10 s pending, or 600 s idle with nothing outstanding,
end it, not earlier. A token bucket gains one token per period up to its size. An MP datagram costs a token and
enters Q14 or Q15; without a token it is counted and dropped; a fragment waits for its datagram, which 100 ms later
is dropped. MODULE_INFO and LOG_READ reply with the bytes of their layouts. What the signatures of a handshake
yield is the command's operand and what the module makes of keys is free (log entry 8); log entries 55, 56 and 57 name
what else the model settles of sessions, datagrams and the log. -/
def Obligations.SessionsOpenEndAndTheScribeAnswers : Prop :=
  (∀ (s : State) (c : Cmd) (t : Nat), s.preAccepted c = none → 2 ≤ s.voters.length → ¬ s.fenced c → s.ductus.fences = [] → c.session = 0 →
      c.params.length = 1328 →
      1 ≤ byteAt c.params 0 → byteAt c.params 0 ≤ 4 → ¬ s.flag F.SEC_STATE_RNG_FAULT →
    (s.quill.sessions.length < 16 → s.lifecycle ≠ lcRetired → s.session 0 = none → s.quill.nextSession ≠ 0 → Completes (.sessionOpen c t) s fun v =>
      v.quill.sessions = s.quill.sessions ++ [newSession s.quill.nextSession (s.pathOf c.queue) (byteAt c.params 0) (s.tick t).mono] ∧
      v.quill.nextSession = s.quill.nextSession + 1 ∧ v.fget F.QUILL_SESS_OPEN = s.quill.sessions.length + 1 ∧ v.repliedWith c 0x0801 0 ∧
      (v.quill.replies.any fun r => r.cmd == c && r.params.take 4 == leBytes 4 s.quill.nextSession)) ∧
    (16 ≤ s.quill.sessions.length → s.session 0 = none → Completes (.sessionOpen c t) s fun v => v.quill.sessions = s.quill.sessions ∧
      v.repliedWith c 0x0801 stBusy)) ∧
  (∀ (s : State) (c : Cmd) (x : Session) (sig holder : Bool) (t : Nat), s.preAccepted c = none → 2 ≤ s.voters.length → ¬ s.fenced c →
      s.ductus.fences = [] → s.session c.session = some x → x.path = s.pathOf c.queue → ¬ x.opened → x.laneTx + 1 < 2 ^ 48 →
    (s.lifecycle = lcBlank → c.params = zeros 8 → Completes (.sessionOpenCredential c sig holder t) s fun v =>
      (v.session c.session).any (fun y => y.opened && (y.level == lvlOwner && y.blank)) ∧ v.repliedWith c 0x0801 0 ∧
      v.fget F.QUILL_SESS_OPENED = min (s.fget F.QUILL_SESS_OPENED + 1) 0xFFFF) ∧
    (credLenOk s c → leAt c.params 0 4 ≠ 0 → credOk (s.tick t) (credOf c) x.path sig holder → Completes (.sessionOpenCredential c sig holder t) s fun v =>
      (v.session c.session).any (fun y => y.opened && (y.level == min x.level (min (byteAt (credOf c) 2)
        (s.fget (F.SEC_SLOT_MAX_LEVEL (byteAt (credOf c) 3)))) && y.blank == x.blank)) ∧ v.repliedWith c 0x0801 0) ∧
    (credLenOk s c → leAt c.params 0 4 ≠ 0 → ¬ credOk (s.tick t) (credOf c) x.path sig holder → Completes (.sessionOpenCredential c sig holder t) s fun v =>
      v.session c.session = none ∧ v.repliedWith c 0x0801 stAuthFail)) ∧
  (∀ (s : State) (c : Cmd) (t : Nat), (s.tick t).admits c 1 → c.params = [] → Completes (.sessionClose c t) s fun v =>
    v.session c.session = none ∧ v.repliedWith c 0x0802 0) ∧
  (∀ (s : State) (x : Session) (t : Nat), s.session x.id = some x → ¬ x.opened →
    (x.createdAt + 10000000000 ≤ (s.tick t).mono → Completes (.sessionPendingTimeout x.id t) s fun v => v.session x.id = none ∧
      (∀ k, k ≠ x.id → v.session k = s.session k) ∧ State.RegsOnly [R.QUILL_SESS] (s.tick t) { v with quill := s.quill }) ∧
    ((s.tick t).mono < x.createdAt + 10000000000 → exec (.sessionPendingTimeout x.id t) s = .next (s.tick t))) ∧
  (∀ (s : State) (x : Session) (t : Nat), s.session x.id = some x → x.opened →
    (x.lastAt + 600000000000 ≤ (s.tick t).mono → ¬ s.sessionBusy x.id → Completes (.sessionIdleTimeout x.id t) s fun v => v.session x.id = none ∧
      (∀ k, k ≠ x.id → v.session k = s.session k) ∧ v.quill.logCount = s.quill.logCount + 1) ∧
    ((s.tick t).mono < x.lastAt + 600000000000 ∨ s.sessionBusy x.id → exec (.sessionIdleTimeout x.id t) s = .next (s.tick t))) ∧
  (∀ (s : State) (t : Nat), s.quill.mpRate.since + 1000000 ≤ (s.tick t).mono →
    exec (.tokenBucketRefill 2 t) s = .next { s.tick t with quill := { s.quill with mpRate := ⟨min 100 (s.quill.mpRate.tokens + 1), (s.tick t).mono⟩ } }) ∧
  (∀ (s : State) (t : Nat), s.quill.plainHost.since + 100000000 ≤ (s.tick t).mono →
    exec (.tokenBucketRefill 0 t) s =
      .next { s.tick t with quill := { s.quill with plainHost := ⟨min 10 (s.quill.plainHost.tokens + 1), (s.tick t).mono⟩ } }) ∧
  (∀ (s : State) (src id t : Nat) (b : List Byte), s.quill.mpRate.tokens = 0 → Completes (.mpDatagramReceive src id 0 false b t) s fun v =>
    v.fget F.MP_STAT_RATE_DROP = min (s.fget F.MP_STAT_RATE_DROP + 1) (fieldMax F.MP_STAT_RATE_DROP) ∧ State.RegsOnly [R.MP_STAT] (s.tick t) v) ∧
  (∀ (s : State) (src id t : Nat) (b : List Byte), let q := if pkOpcode b ∈ scribeOps then 15 else 14
    s.quill.mpRate.tokens ≠ 0 → packetLen b.length → s.qScribe q → s.qState q = qRunning → ctrDiff (s.qTail q) (s.qDone q) < 4096 →
    Completes (.mpDatagramReceive src id 0 false b t) s fun v => v.quill.mpRate.tokens = s.quill.mpRate.tokens - 1 ∧ v.qTail q = (s.qTail q + 1) % 65536 ∧
      assoc v.que.scribeBuf (scribeAddr q (s.qTail q)) = some (src, b) ∧
      v.mreadN (scribeRing q + s.qTail q % 4096 * 64) 64 = scribeDesc q (s.qTail q) b.length) ∧
  (∀ (s : State) (src id off t : Nat) (b : List Byte), s.quill.reassembly = [] → off + b.length ≤ 65600 →
    exec (.mpDatagramReceive src id off true b t) s =
      .next { s.tick t with quill := { s.quill with reassembly := [⟨src, id, (s.tick t).mono, [(off, b)], none⟩] } }) ∧
  (∀ (s : State) (r : Reassembly) (t : Nat), s.quill.reassembly = [r] → r.since + 100000000 ≤ (s.tick t).mono →
    Completes (.mpReassemblyTimeout r.source r.ident t) s fun v => v.quill = { s.quill with reassembly := [] } ∧
      v.fget F.MP_ERR_REASM_DROP = min (s.fget F.MP_ERR_REASM_DROP + 1) (fieldMax F.MP_ERR_REASM_DROP) ∧ State.RegsKept [R.MP_ERR] s v) ∧
  (∀ (s : State) (c : Cmd) (t : Nat), (s.tick t).admitsScribe c 1 → c.params = [] → Completes (.moduleInfo c t) s fun v =>
    v.repliedParams c 0x0101 (moduleInfo (s.tick t) c.session) ∧ v.folio = s.folio ∧ v.laneA = s.laneA) ∧
  (∀ (s : State) (c : Cmd) (f n t : Nat), (s.tick t).admitsScribe c 1 → c.params = leBytes 4 f ++ (leBytes 2 n ++ zeros 2) → f < 2 ^ 32 → 1 ≤ n → n ≤ 2000 →
    Completes (.logRead c t) s fun v => v.repliedParams c 0x0A01 (logReply s f n) ∧ v.folio = s.folio)

/-- VAR_READ of a CON variable is answered at acceptance; another item waits for its owning task. VAR_WRITE with a
sound record puts it in the order of R105, to be applied at a release; a bad record is BAD_PARAM and none applies; a
module in STANDBY or RESYNC answers REFUSED_ROLE. FORCE_SET at standstill puts the force in place of an earlier one,
in motion it is REFUSED_MOVING; FORCE_CLEAR with both wildcards clears every force. LANE_REINTEGRATE starts an
attempt of a lane in OUT_LIMIT, in another state it is BAD_PARAM. DIAG_SNAPSHOT REGISTERS copies every register as
read to the snapshot area; SLICE waits for its task. ABORT stops a command held unstarted, or a VAR_WRITE of which
no record has been applied: the target replies ABORTED and ABORT OK; later, or without a target, it is
NOTHING_TO_ABORT; a fence never holds it. Which command an ABORT finds, and what of it has started, the model settles
(log entry 68); where the snapshot lies is in log entry 57. -/
def Obligations.VariablesAreReadWrittenForcedAndCopied : Prop :=
  (∀ (s : State) (f : Folio) (c : Cmd) (i a n t : Nat), (s.tick t).admits c 1 → c.params = leBytes 2 1 ++ (zeros 6 ++ (leBytes 4 i ++ (leBytes 4 a ++ leBytes 4 n))) →
      i < 2 ^ 32 → a < 2 ^ 32 → n < 2 ^ 32 → s.folio.running = some f → itemBytes (some f) (i, (a, n)) ≤ 65536 →
    (¬ readAtOnce s (i, (a, n)) → Completes (.varRead c t) s fun v => v.ductus.reads = s.ductus.reads.map (fun q => if q.cmd == c then
        ⟨c, (s.tick t).now, [(i, (a, n))], []⟩ else q) ++ [⟨c, (s.tick t).now, [(i, (a, n))], []⟩] ∧ v.quill.replies = s.quill.replies ∧
      v.laneA.mem = s.laneA.mem) ∧
    (∀ l, readAtOnce s (i, (a, n)) → s.voters.head? = some l → s.ductus.reads = [] → Completes (.varRead c t) s fun v => v.ductus.reads = [] ∧
      v.repliedParams c 0x0301 (readItem s f l (i, (a, n))))) ∧
  (∀ (s : State) (f : Folio) (c : Cmd) (r : List Byte) (t : Nat), (s.tick t).admits c 2 → c.params = leBytes 2 1 ++ (zeros 6 ++ r) → r.length = 16 →
      s.folio.running = some f →
    (writeRecordOk (some f) r → ¬ s.notActing → Completes (.varWrite c t) s fun v => v.ductus.writes = insertWrite (pendWrite f c (s.tick t).now 0 r) s.ductus.writes ∧
      v.quill.replies = s.quill.replies ∧ v.laneA.mem = s.laneA.mem ∧ v.laneB.mem = s.laneB.mem ∧ v.laneC.mem = s.laneC.mem) ∧
    (¬ writeRecordOk (some f) r → Completes (.varWrite c t) s fun v => v.ductus.writes = s.ductus.writes ∧ v.repliedWith c 0x0302 stBadParam) ∧
    (writeRecordOk (some f) r → s.notActing → Completes (.varWrite c t) s fun v => v.ductus.writes = s.ductus.writes ∧ v.repliedWith c 0x0302 stRole)) ∧
  (∀ (s : State) (f : Folio) (x : VarRec) (c : Cmd) (t : Nat), (s.tick t).admits c 3 → c.params.length = 16 → s.folio.running = some f → forceRecordOk (some f) c.params →
      f.varOf (leAt c.params 0 4) = some x →
    (s.standstill → ¬ s.notActing → s.ductus.forces.length < 256 → Completes (.forceSet c t) s fun v =>
      v.ductus.forces = (s.ductus.forces.filter fun y => !(y.identity == leAt c.params 0 4 && y.element == leAt c.params 4 4)) ++
        [⟨leAt c.params 0 4, leAt c.params 4 4, x.ty, BitVec.ofNat 64 (leAt c.params 8 8)⟩] ∧ v.repliedWith c 0x0303 0) ∧
    (¬ s.standstill → Completes (.forceSet c t) s fun v => v.ductus.forces = s.ductus.forces ∧ v.repliedWith c 0x0303 stMoving)) ∧
  (∀ (s : State) (c : Cmd) (t : Nat), (s.tick t).admits c 3 → c.params = List.replicate 8 0xFF → ¬ s.notActing → Completes (.forceClear c t) s fun v =>
    v.ductus.forces = [] ∧ v.repliedWith c 0x0304 0) ∧
  (∀ (s : State) (c : Cmd) (l : Lane) (t : Nat), (s.tick t).admits c 3 → c.params = BitVec.ofNat 8 l.idx :: zeros 7 →
    (s.laneSt l = .outLimit → Completes (.laneReintegrate c t) s fun v => v.laneSt l = .powerCycle ∧ ¬ v.powered (pdLane l) ∧ v.repliedWith c 0x0102 0 ∧
      ∀ k, k ≠ l → v.laneSt k = s.laneSt k) ∧
    (s.laneSt l ≠ .outLimit → Completes (.laneReintegrate c t) s fun v => v.laneSt l = s.laneSt l ∧ v.repliedWith c 0x0102 stBadParam)) ∧
  (∀ (s : State) (c : Cmd) (t : Nat), (s.tick t).admits c 1 → c.params = 1 :: zeros 7 → s.ductus.fences = [] → s.quill.logCount + 8 < 1835008 →
    Completes (.diagSnapshotRegisters c t) s fun v => v.repliedWith c 0x0A02 0 ∧
      ∀ r ∈ regRows, ∀ off ∈ rowOffsets r, v.mreadN (snapBase + off) 4 = leBytes 4 (((s.tick t).taken c 0x0A02).heldWord off).toNat) ∧
  (∀ (s : State) (c : Cmd) (k n t : Nat), (s.tick t).admits c 1 → c.params = [2, BitVec.ofNat 8 k] ++ (leBytes 2 n ++ zeros 4) → k < 64 → n < s.sliceCount k →
      n < 2 ^ 16 → s.taskRec k ≠ none → Completes (.diagSnapshotSlice c t) s fun v => v.ductus.snaps = s.ductus.snaps ++ [⟨c, k, n, []⟩] ∧
      v.quill.replies = s.quill.replies) ∧
  (∀ (s : State) (c x : Cmd) (op t : Nat), (s.tick t).admitsUnfenced c ((s.tick t).abortLevel c) → c.params = BitVec.ofNat 8 x.queue :: (zeros 3 ++ leBytes 4 x.tag) →
      x.queue ≤ 16 → x.tag < 2 ^ 32 → x ≠ c →
    (s.quill.cmds = [] → s.quill.held = [⟨x, op⟩] → op ∈ abortable → x.session = c.session → Completes (.abort c t) s fun v => v.quill.held = [] ∧
      v.repliedWith x op stAborted ∧ v.repliedWith c 0x0B02 0 ∧ (op = opStore → v.fget F.STORE_STAT_LAST_RESULT = storeAborted)) ∧
    (∀ a, s.quill.cmds = [⟨x, 0x0302, a, true⟩] → s.quill.held = [] → s.quill.inflight = [] → x.session = c.session → Completes (.abort c t) s fun v =>
      if (s.ductus.writes.filter (·.cmd == x)).length < leAt x.params 0 2 then v.ductus.writes = s.ductus.writes ∧ v.repliedWith c 0x0B02 stNothing
      else v.ductus.writes = s.ductus.writes.filter (·.cmd != x) ∧ v.repliedWith x 0x0302 stAborted ∧ v.repliedWith c 0x0B02 0) ∧
    (s.quill.cmds = [] → s.quill.held = [] → s.quill.inflight = [] → Completes (.abort c t) s fun v => v.repliedWith c 0x0B02 stNothing ∧
      v.ductus.writes = s.ductus.writes))

/-- The claim word holds role, health, epoch and tie in their bits, and is 0 after a failure. CLAIM_OFFER at g + 30
us shows it and gives it to each group that is on. CLAIM_EXCHANGE: without a partner the group holds and is counted
as not seen; of two claims the greater holds, and the loser reads the other's; a second loss in a row by a module
that offered ACTIVE demotes it to RESYNC with CLAIM_LOST. The copybook link coming up sets LINK; going down it
counts every token in flight as DISCARDED, and a standby enters RESYNC, as it does 1 ms without a HELLO. A HELLO of
the partner is taken; with every condition met a module in RESYNC becomes STANDBY. DUPLEX_PAIR and DUPLEX_UNPAIR
answer in the order of R415. DUPLEX_REHEARSE chooses W; at W both roles swap; 20 us later it is answered OK, or the
roles swap back with CHECK_FAIL. A promotion sets the epoch. A write to DUP_DIV_CAP acts while its block is powered. What
the claims, the roles, the swap and the folio hash leave open is the model's (log entries 20, 63, 64, 67). -/
def Obligations.ClaimsAreExchangedAndRolesFollow : Prop :=
  (∀ (s : State) (r e : Nat), ¬ s.flag F.VOTE_CTRL_FAILED → r < 8 → claimRoleOf (s.claimWord r e) = r ∧ claimEpochOf (s.claimWord r e) = e % 65536 ∧
    s.claimWord r e % 16 = s.tie ∧ s.claimWord r e / 2 ^ 20 % 256 = s.health ∧ 2 ^ 31 ≤ s.claimWord r e ∧ s.claimWord r e < 2 ^ 32) ∧
  (∀ (s : State) (r e : Nat), s.flag F.VOTE_CTRL_FAILED → s.claimWord r e = 0) ∧
  (∀ (s : State) (t : Nat), s.paired → (s.tick t).now % gridNs = 30000 → Completes (.claimOffer t) s fun v =>
    v.fget F.DUP_OFFER_CLAIM = (s.tick t).claimNow ∧ (∀ g, s.fgUp g → (v.fc g).offer = some (s.tick t).claimNow) ∧
    (∀ g, ¬ s.fgUp g → v.fc g = s.fc g) ∧ v = { s.tick t with regs := v.regs, fio := v.fio } ∧ State.RegsKept [R.DUP_OFFER] s v) ∧
  (∀ (s : State) (t : Nat), ¬ s.paired → exec (.claimOffer t) s = .next (s.tick t)) ∧
  (∀ (s : State) (g : Grp) (t : Nat), s.paired → s.fgUp g → Completes (.claimExchange g none t) s fun v => (v.fc g).claimNext = some true ∧
    v.fget F.DUP_CLAIM_CNT_NOT_SEEN = min (s.fget F.DUP_CLAIM_CNT_NOT_SEEN + 1) 0xFFFF ∧ v.fget (peerField g) = 0xFFFFFFFF ∧ v.role = s.role ∧
    (∀ k, k ≠ g → v.fc k = s.fc k)) ∧
  (∀ (s : State) (g : Grp) (p : Word) (t : Nat), s.paired → s.fgUp g → s.role ≠ roleActive → (s.fc g).ownClaim.1 ≠ p.toNat →
    Completes (.claimExchange g (some p) t) s fun v => (v.fc g).claimNext = some (decide (p.toNat < (s.fc g).ownClaim.1)) ∧
      v.fget (peerField g) = p.toNat ∧ v.fget F.DUP_CLAIM_CNT_NOT_SEEN = s.fget F.DUP_CLAIM_CNT_NOT_SEEN ∧ v.role = s.role ∧
      (p ≠ 0 → v.fget F.DUP_STAT_EPOCH = claimEpochOf p.toNat) ∧ (∀ k, k ≠ g → v.fc k = s.fc k)) ∧
  (∀ (s : State) (g : Grp) (p : Word) (t : Nat), s.role = roleActive → s.fgUp g → claimRoleOf (s.fget F.DUP_OFFER_CLAIM) = claimActive →
      1 ≤ s.dup.lost g → (s.fc g).ownClaim.1 < p.toNat → Completes (.claimExchange g (some p) t) s fun v =>
    v.role = roleResync ∧ v.fget F.DUP_STAT_CAUSE = causeLost ∧ (v.fc g).claimNext = some false ∧ ¬ v.dup.inStep ∧ v.dup.swap = none) ∧
  (∀ (s : State) (t : Nat), Completes (.cblLinkUp t) s fun v => v.linked ∧ State.RegsOnly [R.DUP_STAT] (s.tick t) v) ∧
  (∀ (s : State) (t : Nat), s.linked → Completes (.cblLinkDown t) s fun v => ¬ v.linked ∧
    v.fget F.DUP_LINK_ERR_DOWNS = min (s.fget F.DUP_LINK_ERR_DOWNS + 1) 0xFFFF ∧ v.dup.flight = [] ∧
    v.fget F.DUP_TOK_DISCARDED_COUNT = (s.fget F.DUP_TOK_DISCARDED_COUNT + s.dup.flight.length) % 2 ^ 32 ∧
    v.role = (if s.role = roleStandby then roleResync else s.role) ∧ (v.role = roleResync → v.fget F.DUP_STAT_CAUSE = causeLink) ∧
    v.dup.rx = none ∧ v.dup.rxInput = none) ∧
  (∀ (s : State) (t : Nat), ¬ s.linked → exec (.cblLinkDown t) s = .next (s.tick t)) ∧
  (∀ (s : State) (t : Nat), s.flag F.DUP_STAT_SEEN → s.dup.helloAt + ms1 ≤ (s.tick t).now → Completes (.partnerUnreachable t) s fun v =>
    v.fget F.DUP_STAT_SEEN = 0 ∧ v.role = (if s.role = roleStandby then roleResync else s.role)) ∧
  (∀ (s : State) (t : Nat), (s.tick t).now < s.dup.helloAt + ms1 → exec (.partnerUnreachable t) s = .next (s.tick t)) ∧
  (∀ (s : State) (t : Nat), s.paired → s.linked → Completes (.helloSend t) s fun v => v.dup.out.getLast? = some (s.tick t).helloRecord ∧
    v.dup.outAt = (s.tick t).now ∧ v = { s.tick t with dup := { s.dup with out := v.dup.out, outAt := v.dup.outAt } }) ∧
  (∀ (s : State) (r : List Byte) (t : Nat), s.paired → s.linked → helloSerial r = s.partner →
    (Completes (.hello true r t) s fun v => v.dup.hello = r ∧ v.dup.helloAt = (s.tick t).now ∧ v.fget F.DUP_STAT_SEEN = 1) ∧
    (s.role = roleResync → helloRole r = 1 → s.dup.inStep → helloFolio r = padTo 48 s.folioHash →
      Completes (.hello true r t) s fun v => v.role = roleStandby ∧ v.fget F.DUP_STAT_CAUSE = 0)) ∧
  (∀ (s : State) (r : List Byte) (t : Nat), s.paired → s.linked →
    (helloSerial r ≠ s.partner → exec (.hello true r t) s = .next (s.tick t)) ∧
    (Completes (.hello false r t) s fun v => v.fget F.DUP_LINK_ERR_BAD = min (s.fget F.DUP_LINK_ERR_BAD + 1) 0xFFFF ∧
      v.dup.hello = s.dup.hello ∧ State.RegsKept [R.DUP_LINK_ERR] s v)) ∧
  (∀ (s : State) (c : Cmd) (p k t : Nat), (s.tick t).admits c 3 → c.params = leBytes 8 p ++ (BitVec.ofNat 8 k :: zeros 7) → p < 2 ^ 64 → k < 256 →
    (p = moduleSerial ∨ k = 0 ∨ 100 < k → Completes (.duplexPair c t) s fun v => v.repliedWith c 0x0901 stBadParam ∧ v.dup = s.dup ∧ v.role = s.role) ∧
    (p ≠ moduleSerial → 1 ≤ k → k ≤ 100 → p = 0 → ¬ s.standstill → Completes (.duplexUnpair c t) s fun v =>
      v.repliedWith c 0x0901 stMoving ∧ v.role = s.role) ∧
    (p ≠ moduleSerial → 1 ≤ k → k ≤ 100 → p ≠ 0 ∨ s.standstill → ¬ s.supplyGood → Completes (.duplexPair c t) s fun v =>
      v.repliedWith c 0x0901 stSupply ∧ v.role = s.role) ∧
    (p ≠ moduleSerial → 1 ≤ k → k ≤ 100 → s.supplyGood → ¬ (s.role = roleActive ∧ s.partnerStandby) → ¬ s.rubBusy → p ≠ 0 →
      Completes (.duplexPair c t) s fun v => v.role = roleResync ∧ v.partner = p ∧ v.fget F.DUP_CFG_COPY_MS = k ∧
        v.fget F.DUP_STAT_CAUSE = causeLink ∧ v.repliedWith c 0x0901 0) ∧
    (p ≠ moduleSerial → 1 ≤ k → k ≤ 100 → s.standstill → s.supplyGood → ¬ (s.role = roleActive ∧ s.partnerStandby) → ¬ s.rubBusy → p = 0 →
      Completes (.duplexUnpair c t) s fun v => v.role = roleSingle ∧ v.partner = 0 ∧ v.fget F.DUP_CFG_COPY_MS = 0 ∧ v.repliedWith c 0x0901 0)) ∧
  (∀ (s : State) (c : Cmd) (t : Nat), (s.tick t).admits c 3 → c.params = [] →
    (s.role = roleSingle → Completes (.duplexRehearse c t) s fun v => v.repliedWith c 0x0902 stNotPaired ∧ v.dup = s.dup) ∧
    (s.role = roleActive → s.standstill → helloStandstill s.dup.hello → s.partnerStandby → ¬ helloLagging s.dup.hello → ¬ s.switchPending →
      s.dup.swap = none → Completes (.duplexRehearse c t) s fun v =>
        v.dup.swap = some ⟨gridUp ((s.tick t).now + 5 * ms1), some c, false, false⟩ ∧ v.role = roleActive ∧ v.quill.replies = s.quill.replies)) ∧
  (∀ (s : State) (w : Swap) (t : Nat), s.dup.swap = some w → ¬ w.swapped →
    (w.confirmed → w.w ≤ (s.tick t).now → s.role = roleActive → Completes (.rehearsalSwap t) s fun v => v.role = roleStandby ∧ v.dup.inStep ∧
      v.dup.swap = some { w with swapped := true } ∧ v.dup.landed = (s.tick t).now) ∧
    (w.confirmed → w.w ≤ (s.tick t).now → s.role = roleStandby → Completes (.rehearsalSwap t) s fun v => v.role = roleActive ∧
      v.epoch = min (max s.epoch (claimEpochOf (leAt s.dup.hello 4 4)) + 1) 0xFFFF ∧ v.dup.swap = some { w with swapped := true } ∧
      v.fget F.DUP_TAKEOVER_COUNT = min (s.fget F.DUP_TAKEOVER_COUNT + 1) 0xFFFF) ∧
    (w.confirmed → (s.tick t).now < w.w → exec (.rehearsalSwap t) s = .next (s.tick t)) ∧
    (∀ c, ¬ w.confirmed → w.cmd = some c → w.w ≤ (s.tick t).now + ms2 → Completes (.rehearsalSwap t) s fun v => v.dup.swap = none ∧
      v.repliedWith c 0x0902 stCheckFail ∧ v.role = s.role)) ∧
  (∀ (s : State) (w : Swap) (c : Cmd) (t : Nat), s.dup.swap = some w → w.swapped → w.cmd = some c → w.w + us20 ≤ (s.tick t).now →
    (s.swapShown → Completes (.rehearsalCheck true t) s fun v => v.dup.swap = none ∧ v.repliedWith c 0x0902 0 ∧ v.role = s.role) ∧
    (s.role = roleStandby → Completes (.rehearsalCheck false t) s fun v => v.dup.swap = none ∧ v.repliedWith c 0x0902 stCheckFail ∧
      v.role = roleActive)) ∧
  (∀ s : State, s.notActing → s.flag F.VOTE_CTRL_EN → s.claimHeld → s.promote.role = roleActive ∧
    s.promote.epoch = min (max s.epoch (claimEpochOf (leAt s.dup.hello 4 4)) + 1) 0xFFFF) ∧
  (∀ s : State, s.reachable R.DUP_DIV_CAP → Completes .dupDivCapClear s fun v => v.fget F.DUP_DIV_CAP_VALID = 0 ∧ State.RegsOnly [R.DUP_DIV_CAP] s v)

/-- EPOCH_FREEZE at a copy point after a boundary of an active module whose link is free: the marked lines, formed
by the lanes, become an epoch with the next token, counted as issued and sent to its TERM; a standby keeps its own
state instead. TOKEN returns an epoch once: APPLIED counts, DISCARDED counts and marks its lines again. EPOCH_HEAD
and INPUT_HEAD open what follows; a LINE joins the input set that is open, else the epoch. TERM: a complete input
set is kept, an incomplete one dropped; an epoch is applied and answered APPLIED, in an active module answered
DISCARDED. OUTPUT_SIG counts a difference and captures it. SCHEDULE: a standby takes an announced mode and confirms
an announced swap; a seam without a staged folio is refused. COPY_BOUNDARY: a standby whose last landed epoch is
older lags. SHADOW_RELEASE takes the landed input set, else counts OWN_INPUT. FULL_SYNC_TIMEOUT ends a
synchronisation after 10 s. How tokens, landings and announcements meet is the model's reading (log entries 28, 65,
66). -/
def Obligations.CopiesAreFrozenSentAndLanded : Prop :=
  (∀ (s w : State) (f : Folio) (ls : List CopyLine) (t : Nat), s.folio.running = some f → s.role = roleActive → (s.tick t).copyPoint → s.copyNs ≠ 0 → s.linked →
      s.dup.sentUntil ≤ (s.tick t).now → s.dup.flight.length < 2 → s.dup.sync = none → ¬ s.wantsFull → s.dup.frozen < s.lastBoundary (s.tick t).now →
      (s.tick t).formLines f (s.dup.marks.filter fun x => (f.taskOf x.1).isSome) = (w, some ls) →
    Completes (.epochFreeze t) s fun v =>
      v.dup.flight = s.dup.flight ++ [⟨s.dup.token, (s.tick t).now, false, false, ls.length, ls, false⟩] ∧ v.dup.marks = [] ∧
      v.dup.token = (s.dup.token + 1) % 2 ^ 32 ∧ v.dup.out.getLast? = some (cbTerm s.dup.token) ∧ v.dup.frozen = (s.tick t).now ∧
      v.fget F.DUP_TOK_ISSUED_COUNT = (s.fget F.DUP_TOK_ISSUED_COUNT + 1) % 2 ^ 32 ∧ v.role = roleActive) ∧
  (∀ (s : State) (f : Folio) (t : Nat), s.folio.running = some f → s.role = roleActive → s.dup.sync = none → ¬ s.wantsFull →
      s.lastBoundary (s.tick t).now ≤ s.dup.frozen → exec (.epochFreeze t) s = .next (s.tick t)) ∧
  (∀ (s : State) (f : Folio) (l : Lane) (t : Nat), s.folio.running = some f → s.role = roleStandby → (s.tick t).copyPoint → s.copyNs ≠ 0 →
      s.voters.head? = some l → Completes (.epochFreeze t) s fun v => v.dup.marks = [] ∧
    (v.dup.points.any fun p => p.point == (s.tick t).now && (p.lane == l && (p.mem == (s.lane l).mem && p.written == s.dup.marks))) ∧
    v = { s.tick t with dup := { s.dup with points := v.dup.points, marks := [] } }) ∧
  (∀ (s : State) (e : CopyEpoch) (r : List Byte) (t : Nat), s.linked → s.paired → s.dup.flight = [e] → leAt r 4 4 = e.token →
    (byteAt r 1 = 1 → ¬ e.final → Completes (.token true r t) s fun v => v.dup = { s.dup with flight := [] } ∧
      v.fget F.DUP_TOK_APPLIED_COUNT = (s.fget F.DUP_TOK_APPLIED_COUNT + 1) % 2 ^ 32 ∧ State.RegsKept [R.DUP_TOK_APPLIED] s v) ∧
    (byteAt r 1 ≠ 1 → Completes (.token true r t) s fun v => v.dup.flight = [] ∧
      v.fget F.DUP_TOK_DISCARDED_COUNT = (s.fget F.DUP_TOK_DISCARDED_COUNT + 1) % 2 ^ 32 ∧ State.RegsKept [R.DUP_TOK_DISCARDED] s v ∧
      (∀ x ∈ e.lines, (x.task, (x.seg, x.line)) ∈ v.dup.marks) ∧ ∀ m ∈ s.dup.marks, m ∈ v.dup.marks)) ∧
  (∀ (s : State) (r : List Byte) (t : Nat), (∀ e ∈ s.dup.flight, e.token ≠ leAt r 4 4) → exec (.token true r t) s = .next (s.tick t)) ∧
  (∀ (s : State) (k p n t : Nat) (full final : Bool), s.linked → s.paired → s.dup.rx = none → k < 2 ^ 32 → p < 2 ^ 64 → n < 2 ^ 32 →
    exec (.epochHead true (cbEpochHead full final k p n) t) s =
      .next { s.tick t with dup := { s.dup with rx := some ⟨k, p, full, final, n, [], false⟩ } }) ∧
  (∀ (s : State) (k r p n t : Nat), s.linked → s.paired → k < 256 → r < 2 ^ 32 → p < 2 ^ 64 → n < 2 ^ 32 →
    exec (.inputHead true (cbInputHead k r p n) t) s =
      .next { s.tick t with dup := { s.dup with rxInput := some ⟨k, r, p, n, [], false⟩ } }) ∧
  (∀ (s : State) (x : CopyLine) (t : Nat), s.linked → s.paired → x.seg < 256 → x.task < 256 → x.line < 2 ^ 32 → x.data.length = 64 →
    (∀ i, s.dup.rxInput = some i → exec (.line true (cbLine x) t) s =
      .next { s.tick t with dup := { s.dup with rxInput := some { i with lines := i.lines ++ [x] } } }) ∧
    (∀ e, s.dup.rxInput = none → s.dup.rx = some e → exec (.line true (cbLine x) t) s =
      .next { s.tick t with dup := { s.dup with rx := some { e with lines := e.lines ++ [x] } } })) ∧
  (∀ (s : State) (i : InputSet) (t : Nat), s.linked → s.paired → s.role ≠ roleActive → s.dup.rxInput = some i → i.release < 2 ^ 32 →
    (¬ i.broken → i.lines.length = i.expected → Completes (.term true (cbTerm i.release) t) s fun v => i ∈ v.dup.inputs ∧ v.dup.rxInput = none ∧
      v.regs = s.regs ∧ v.laneA = s.laneA) ∧
    (i.broken ∨ i.lines.length ≠ i.expected → exec (.term true (cbTerm i.release) t) s = .next { s.tick t with dup := { s.dup with rxInput := none } })) ∧
  (∀ (s : State) (f : Folio) (e : CopyEpoch) (t : Nat), s.linked → s.paired → s.dup.rxInput = none → s.dup.rx = some e → e.token < 2 ^ 32 →
      s.folio.running = some f →
    (s.role = roleActive → Completes (.term true (cbTerm e.token) t) s fun v => v.dup.out.getLast? = some (cbToken 2 e.token) ∧ v.dup.rx = none ∧
      v.regs = s.regs ∧ v.laneA = s.laneA ∧ v.laneB = s.laneB ∧ v.laneC = s.laneC) ∧
    (s.role ≠ roleActive → ¬ e.broken → e.lines.length = e.expected → e.full → ¬ e.final → Completes (.term true (cbTerm e.token) t) s fun v =>
      v.dup.out.getLast? = some (cbToken 1 e.token) ∧ v.dup.rx = none ∧ v.role = s.role) ∧
    (s.role = roleStandby → ¬ e.broken → e.lines = [] → e.expected = 0 → ¬ e.full → s.writtenTo e.point = [] →
      Completes (.term true (cbTerm e.token) t) s fun v => v.dup.out.getLast? = some (cbToken 1 e.token) ∧ v.dup.landed = e.point ∧
        v.role = roleStandby ∧ v.fget F.DUP_DIVERGE_STATE = s.fget F.DUP_DIVERGE_STATE) ∧
    (s.role = roleStandby → ¬ e.broken → e.lines = [] → e.expected = 0 → ¬ e.full → s.writtenTo e.point ≠ [] →
      Completes (.term true (cbTerm e.token) t) s fun v => v.dup.out.contains (cbToken 1 e.token) ∧ v.role = roleResync ∧
        v.fget F.DUP_STAT_CAUSE = causeDiverged ∧ v.fget F.DUP_DIV_CAP_VALID = 1)) ∧
  (∀ (s : State) (o : OwnSig) (n c t : Nat) (sg : DWord) (forced : Bool), s.linked → s.paired → s.dup.sigs = [o] → o.task = n → o.commit = c → n < 64 →
      c < 2 ^ 32 →
    (forced ∨ o.skip → Completes (.outputSig true (cbOutputSig n forced c sg 0) t) s fun v => v.dup = { s.dup with sigs := [] } ∧
      v.fget F.DUP_SHADOW_SKIPPED = min (s.fget F.DUP_SHADOW_SKIPPED + 1) 0xFFFF ∧ State.RegsKept [R.DUP_SHADOW] s v) ∧
    (¬ forced → ¬ o.skip → o.sig = sg → exec (.outputSig true (cbOutputSig n forced c sg 0) t) s = .next { s.tick t with dup := { s.dup with sigs := [] } }) ∧
    (¬ forced → ¬ o.skip → o.sig ≠ sg → Completes (.outputSig true (cbOutputSig n forced c sg 0) t) s fun v => v.dup = { s.dup with sigs := [] } ∧
      v.fget F.DUP_DIVERGE_OUTPUT = min (s.fget F.DUP_DIVERGE_OUTPUT + 1) 0xFFFF ∧ v.fget F.DUP_DIV_CAP_VALID = 1 ∧
      (¬ s.flag F.DUP_DIV_CAP_VALID → v.fget F.DUP_DIV_CAP_KIND = 1 ∧ v.fget F.DUP_DIV_CAP_TASK = n) ∧ v.role = s.role)) ∧
  (∀ (s : State) (m w t : Nat) (same : Bool), s.linked → s.paired → w < 2 ^ 64 → m < 3 →
    (s.notActing → (s.tick t).now ≤ w → Completes (.schedule true (cbSchedule whatMode phAnnounce m 0 w) same t) s fun v =>
      v = { s.tick t with ductus := { s.ductus with modes := insertMode ⟨modeOf m, w, none⟩ s.ductus.modes } }) ∧
    (s.role = roleStandby → s.dup.swap = none → (s.tick t).now < w → Completes (.schedule true (cbSchedule whatSwap phAnnounce 0 0 w) same t) s fun v =>
      v.dup.swap = some ⟨w, none, true, false⟩ ∧ v.dup.out.getLast? = some (cbSchedule whatSwap phConfirm 0 0 w) ∧ v.regs = s.regs) ∧
    (s.folio.staging = .empty → Completes (.schedule true (cbSchedule whatSeam phAnnounce 0 0 w) same t) s fun v =>
      v.dup.out.getLast? = some (cbSchedule whatSeam phRefuse 0 0 w) ∧ v.folio = s.folio)) ∧
  (∀ (s : State) (t : Nat), s.role = roleStandby → s.copyNs ≠ 0 → (s.tick t).now % s.copyNs = 0 → ¬ s.flag F.DUP_STAT_LAGGING →
    (s.dup.landed + s.copyNs < (s.tick t).now → Completes (.copyBoundary t) s fun v => v.flag F.DUP_STAT_LAGGING ∧
      v.fget F.DUP_COPY_LAGS = min (s.fget F.DUP_COPY_LAGS + 1) 0xFFFF ∧ State.RegsOnly [R.DUP_STAT, R.DUP_COPY] (s.tick t) v) ∧
    ((s.tick t).now ≤ s.dup.landed + s.copyNs → exec (.copyBoundary t) s = .next (s.tick t))) ∧
  (∀ (s : State) (f : Folio) (r : TaskRec) (n t : Nat), s.folio.running = some f → s.taskRec n = some r → s.notActing → us20 ≤ (s.tick t).now →
      (s.tick t).releaseDue r ((s.tick t).now - us20) →
    (∀ i, (s.dup.inputs.find? fun i => i.task == n && i.release == (s.book n).releases) = some i → exec (.shadowRelease n t) s =
      .next (State.releaseTask { (s.tick t).joinLanded with dup := { (s.tick t).joinLanded.dup with
        inputs := (s.tick t).joinLanded.dup.inputs.filter (·.task != n), ownInputs := (s.tick t).joinLanded.dup.ownInputs.filter (· != n) } }
        f r ((s.tick t).now - us20) (some i.lines))) ∧
    ((∀ i ∈ s.dup.inputs, i.task ≠ n) → Completes (.shadowRelease n t) s fun v =>
      v.fget F.DUP_SHADOW_OWN_INPUT = min (s.fget F.DUP_SHADOW_OWN_INPUT + 1) 0xFFFF ∧ n ∈ v.dup.ownInputs)) ∧
  (∀ (s : State) (k a t : Nat), s.dup.sync = some (k, a) → a + searchSpan ≤ (s.tick t).now →
    exec (.fullSyncTimeout t) s = .next { s.tick t with dup := { s.dup with sync := none } }) ∧
  (∀ (s : State) (t : Nat), s.dup.sync = none → exec (.fullSyncTimeout t) s = .next (s.tick t))

/-- An OWNER_ENROL that passes the rows of R442: ENROL puts the key into its slot with its level, fingerprint and
SLOTS bit, and in BLANK makes the vellum OWNED and ends every session; REVOKE empties the slot and ends the sessions
that its key opened; RAISE sets the counter. A POSSESSION that does not verify is REFUSED with SIG_FAIL and counted.
A bad field is BAD_PARAM and changes no slot. OWNER_LOCK that passes R449 locks or unlocks and ends every session.
LIFECYCLE_SET into BENCH opens debugging and counts; into OWNED it resets the module with BENCH_EXIT; into RETIRED
it erases keys, slots and folios and resets. The random source's health shows in SEC_STATE. Whether a key and
a POSSESSION verify is the command's operand (log entry 8); what a reset keeps is in log entry 58. -/
def Obligations.OwnerKeysAndTheLifecycle : Prop :=
  (∀ (s : State) (c : Cmd) (t : Nat), (s.tick t).admits c 4 → c.params.length = 5480 → enrolOwn c 1 true true s = .accept → s.lifecycle ≠ lcBlank →
    Completes (.ownerEnrol c true true t) s fun v => v.slotEnrolled (enrolSlot c) ∧ v.fget (F.SEC_SLOT_MAX_LEVEL (enrolSlot c)) = enrolLevel c ∧
      (v.fget F.SEC_STATE_SLOTS).testBit (enrolSlot c) ∧ assoc v.vellum.keys (enrolSlot c) = some (slice c.params 8 97 ++ slice c.params 112 1952) ∧
      (∀ i, i < 4 → v.fget (F.SEC_OWNER_FP_FP (4 * enrolSlot c + i)) = leAt ((sha384 (slice c.params 8 97 ++ slice c.params 112 1952)).take 16) (4 * i) 4) ∧
      (∀ k, k < 4 → k ≠ enrolSlot c → v.reg (R.SEC_SLOT k) = s.reg (R.SEC_SLOT k)) ∧ v.lifecycle = s.lifecycle ∧ v.repliedWith c 0x0804 0) ∧
  (∀ (s : State) (c : Cmd) (x : Session) (t : Nat), (s.tick t).preAccepted c = none → 2 ≤ s.voters.length → ¬ s.fenced c → s.session c.session = some x →
      x.opened → x.path = s.pathOf c.queue → x.blank → x.level = 4 → c.params.length = 5480 → enrolOwn c 1 true true s = .accept → s.lifecycle = lcBlank →
    Completes (.ownerEnrol c true true t) s fun v => v.slotEnrolled (enrolSlot c) ∧ v.lifecycle = lcOwned ∧ v.quill.sessions = [] ∧ v.repliedWith c 0x0804 0) ∧
  (∀ (s : State) (c : Cmd) (t : Nat), (s.tick t).admits c 4 → c.params.length = 5480 → enrolOp c = 1 → ¬ enrolBad c true s →
    Completes (.ownerEnrol c true false t) s fun v => v.repliedWith c 0x0804 stSigFail ∧ v.vellum = s.vellum ∧
      v.fget F.SEC_COUNTS_SIG_FAILS = min (s.fget F.SEC_COUNTS_SIG_FAILS + 1) 0xFFFF ∧ ∀ k, k < 4 → v.reg (R.SEC_SLOT k) = s.reg (R.SEC_SLOT k)) ∧
  (∀ (s : State) (c : Cmd) (t : Nat), (s.tick t).admits c 4 → c.params.length = 8 → enrolOp c ≠ 2 ∨ enrolBad c true s →
    Completes (.ownerEnrolRevoke c t) s fun v => v.repliedWith c 0x0804 stBadParam ∧ v.vellum = s.vellum ∧
      ∀ k, k < 4 → v.reg (R.SEC_SLOT k) = s.reg (R.SEC_SLOT k)) ∧
  (∀ (s : State) (c : Cmd) (t : Nat), (s.tick t).admits c 4 → c.params.length = 8 → enrolOwn c 2 true true s = .accept →
    Completes (.ownerEnrolRevoke c t) s fun v => ¬ v.slotEnrolled (enrolSlot c) ∧ assoc v.vellum.keys (enrolSlot c) = none ∧
      (∀ x ∈ v.quill.sessions, x.slot ≠ some (enrolSlot c)) ∧ (∀ k, k < 4 → k ≠ enrolSlot c → v.reg (R.SEC_SLOT k) = s.reg (R.SEC_SLOT k)) ∧
      v.repliedWith c 0x0804 0) ∧
  (∀ (s : State) (c : Cmd) (t : Nat), (s.tick t).admits c 4 → c.params.length = 8 → enrolOwn c 3 true true s = .accept →
    Completes (.ownerEnrolRaise c t) s fun v => v.rbCounter (enrolIndex c) = enrolValue c ∧ s.rbCounter (enrolIndex c) < v.rbCounter (enrolIndex c) ∧
      (∀ k, k < 64 → k ≠ enrolIndex c → v.rbCounter k = s.rbCounter k) ∧ v.vellum = s.vellum ∧ v.repliedWith c 0x0804 0) ∧
  (∀ (s : State) (c : Cmd) (t : Nat), (s.tick t).admits c 4 → c.params.length = 8 →
    (lockOwn c 1 s = .accept → Completes (.ownerLock c t) s fun v => v.lifecycle = lcLocked ∧ v.quill.sessions = [] ∧ v.repliedWith c 0x0805 0 ∧
      v.vellum.keys = s.vellum.keys) ∧
    (lockOwn c 0 s = .accept → Completes (.ownerUnlock c t) s fun v => v.lifecycle = lcOwned ∧ v.quill.sessions = [] ∧ v.repliedWith c 0x0805 0 ∧
      v.vellum.keys = s.vellum.keys)) ∧
  (∀ (s : State) (c : Cmd) (t : Nat), (s.tick t).admits c 4 → c.params.length = 8 → lifecycleOwn c s = .accept →
    (byteAt c.params 0 = lcBench → Completes (.lifecycleSet c t) s fun v => v.lifecycle = lcBench ∧ v.flag F.SEC_STATE_DEBUG_OPEN ∧
      v.fget F.SEC_COUNTS_BENCH_ENTRIES = min (s.fget F.SEC_COUNTS_BENCH_ENTRIES + 1) 0xFF ∧ v.quill.sessions = [] ∧ v.repliedWith c 0x0806 0) ∧
    (byteAt c.params 0 = lcOwned → s.Canon → s.power.overlap = none → Completes (.lifecycleSet c t) s fun v => v.lifecycle = lcOwned ∧
      ¬ v.flag F.SEC_STATE_DEBUG_OPEN ∧ v.softResetBy swBench ∧ v.vellum.keys = s.vellum.keys) ∧
    (byteAt c.params 0 = lcRetired → s.Canon → s.power.overlap = none → Completes (.lifecycleSet c t) s fun v => v.lifecycle = lcRetired ∧
      v.vellum.keys = [] ∧ (∀ k, k < 4 → ¬ v.slotEnrolled k) ∧ v.folio.running = none ∧ v.rub.recorded = none ∧ v.softResetBy swRetired)) ∧
  (∀ (s : State) (c : Cmd) (i : Nat) (t : Nat), (s.tick t).admits c 4 → c.params.length = 8 → lifecycleOwn c s = .refuse i noIndex →
    Completes (.lifecycleSet c t) s fun v => v.repliedWith c 0x0806 i ∧ v.lifecycle = s.lifecycle ∧ v.vellum = s.vellum) ∧
  (∀ s : State, Completes .rngHealthFail s fun v => v.flag F.SEC_STATE_RNG_FAULT ∧ State.RegsOnly [R.SEC_STATE] s v ∧ v.lifecycle = s.lifecycle) ∧
  (∀ s : State, Completes .rngHealthRecover s fun v => ¬ v.flag F.SEC_STATE_RNG_FAULT ∧ State.RegsOnly [R.SEC_STATE] s v ∧ v.lifecycle = s.lifecycle)

/-- ATTEST replies OK with the record latched at acceptance in front of its signature and the identity record.
MEASUREMENT_SUBMIT adds one entry per element, with the bank that the element runs, up to 24; a second one of an
element, or a 25th, changes nothing. In BENCH, in HOLD, a debugger halts and resumes the cores of a powered lane;
elsewhere nothing happens. A DEBUG_WRITE within the pair's reach is a store of the main core and the checker: both
count a store, the egress of a lane whose egress is open takes an entry, and the lane's memory takes the bytes; with
the egress full the main core stalls, and the write waits. Outside the reach it is a violation of the debugger,
counted and captured. A write to SYS_VIOL_CAP re-arms the capture while its block is powered. The JTAG port takes
IDCODE and BYPASS always, the other instructions in BENCH only, and IDCODE can be read. What a step does, how a
debugger's write is given, and the free parts of the attestation are the model's (log entries 25, 26, 59). -/
def Obligations.AttestationAndDebuggingOfTheVellum : Prop :=
  (∀ (s : State) (c : Cmd) (t : Nat), (s.tick t).admitsScribe c 1 → c.params.length = 32 → Completes (.attest c t) s fun v =>
    (∃ r ∈ v.quill.replies, r.cmd = c ∧ r.opcode = 0x0803 ∧ r.status = 0 ∧
      (r.dropped ∨ ∃ sig, r.params = (s.tick t).attestBody c.params ++ sigBlock sig ++ identityRecord)) ∧ v.vellum = s.vellum ∧ v.folio = s.folio) ∧
  (∀ (s : State) (p i n t : Nat) (d : List Byte), (∀ m ∈ s.vellum.measures, ¬ (m.part = p ∧ m.inst = i)) →
    (s.vellum.measures.length < 24 → exec (.measurementSubmit p i n d t) s = .next { s.tick t with
      vellum := { s.vellum with measures := s.vellum.measures ++ [⟨p, i, s.rub.bank p i, n, padTo 48 d⟩] } }) ∧
    (24 ≤ s.vellum.measures.length → exec (.measurementSubmit p i n d t) s = .next (s.tick t))) ∧
  (∀ (s : State) (m : Measure) (n t : Nat) (d : List Byte), m ∈ s.vellum.measures → exec (.measurementSubmit m.part m.inst n d t) s = .next (s.tick t)) ∧
  (∀ (s : State) (l : Lane) (t : Nat), s.flag F.SEC_STATE_DEBUG_OPEN → s.modeNow = .hold → s.powered (pdLane l) →
    (Completes (.debugHaltRequest l 0 t) s fun v => (v.lane l) = { s.lane l with halted := true } ∧ (∀ k, k ≠ l → v.lane k = s.lane k) ∧ v.regs = s.regs ∧
      v.mem = s.mem) ∧
    (Completes (.debugHaltRequest l 2 t) s fun v => (v.lane l) = { s.lane l with halted := false } ∧ (∀ k, k ≠ l → v.lane k = s.lane k) ∧
      v.regs = s.regs)) ∧
  (∀ (s : State) (l : Lane) (op t : Nat), ¬ s.flag F.SEC_STATE_DEBUG_OPEN ∨ s.modeNow ≠ .hold → exec (.debugHaltRequest l op t) s = .next (s.tick t)) ∧
  (∀ (s : State) (l : Lane) (e : Ep) (a : DWord) (n t : Nat) (k : Byte) (d : List DWord) (cs : List (Nat × Byte)), s.flag F.SEC_STATE_DEBUG_OPEN →
      s.coresRun l → ((s.lane l).pair e).main.stores < windowStores →
    (((s.lane l).pair e).checker.stores < windowStores → ¬ ((s.lane l).pair e).stalled →
        ¬ s.egressOpen l ∨ ((s.lane l).pair e).egress.length < egressMax → Completes (.debugWrite l e false a n k d cs t) s fun v =>
      (v.lane l).mem = cs.foldl (fun m x => cellSet (laneDefault l) m x.1 x.2) (s.lane l).mem ∧
      ((v.lane l).pair e).main.stores = ((s.lane l).pair e).main.stores + 1 ∧ ((v.lane l).pair e).checker.stores = ((s.lane l).pair e).checker.stores + 1 ∧
      ((v.lane l).pair e).egress = ((s.lane l).pair e).egress ++
        (if s.egressOpen l then [⟨((s.lane l).pair e).main.window, a, storeData n d⟩] else []) ∧
      (∀ j, j ≠ l → v.lane j = s.lane j) ∧ v.regs = s.regs ∧ v.mem = s.mem) ∧
    (s.egressOpen l → egressMax ≤ ((s.lane l).pair e).egress.length → Completes (.debugWrite l e false a n k d cs t) s fun v =>
      v.lane l = (s.lane l).setPair e { (s.lane l).pair e with stalled := true } ∧ (∀ j, j ≠ l → v.lane j = s.lane j) ∧ v.mem = s.mem)) ∧
  (∀ (s : State) (l : Lane) (e : Ep) (a : DWord) (n t : Nat) (k : Byte) (d : List DWord) (cs : List (Nat × Byte)), s.flag F.SEC_STATE_DEBUG_OPEN →
      s.powered (pdLane l) → Completes (.debugWrite l e true a n k d cs t) s fun v =>
    v.fget (F.SYS_VIOL_COUNT_COUNT rqDebug) = min (s.fget (F.SYS_VIOL_COUNT_COUNT rqDebug) + 1) (2 ^ 32 - 1) ∧
    (¬ s.flag F.SYS_VIOL_CAP_VALID → v.fget F.SYS_VIOL_CAP_REQUESTER = rqDebug ∧ v.fget F.SYS_VIOL_CAP_WRITE = 1 ∧ v.fget F.SYS_VIOL_CAP_VALID = 1 ∧
      v.fget F.SYS_VIOL_ADDR_LO_ADDR + 2 ^ 32 * v.fget F.SYS_VIOL_ADDR_HI_ADDR = a.toNat) ∧
    State.RegsOnly [R.SYS_VIOL_COUNT rqDebug, R.SYS_VIOL_CAP, R.SYS_VIOL_ADDR_LO, R.SYS_VIOL_ADDR_HI] (s.tick t) v) ∧
  (∀ (s : State) (l : Lane) (e : Ep) (o : Bool) (a : DWord) (n t : Nat) (k : Byte) (d : List DWord) (cs : List (Nat × Byte)),
    ¬ s.flag F.SEC_STATE_DEBUG_OPEN → exec (.debugWrite l e o a n k d cs t) s = .next (s.tick t)) ∧
  (∀ s : State, s.reachable R.SYS_VIOL_CAP → Completes .sysViolCapClear s fun v => v.fget F.SYS_VIOL_CAP_VALID = 0 ∧ State.RegsOnly [R.SYS_VIOL_CAP] s v) ∧
  (∀ (s : State) (k t : Nat), Completes (.jtagInstruction k t) s fun v =>
    v.vellum.jtag = (if k ≤ 1 ∨ (s.flag F.SEC_STATE_DEBUG_OPEN ∧ k ≤ 4) then k else 1) ∧ (k = 0 → v.readOut = BitVec.ofNat 32 idcode) ∧
    v = { s.tick t with readOut := v.readOut, vellum := { s.vellum with jtag := v.vellum.jtag } })

/-- An accepted RUBRIC_BEGIN stages its manifest with no block received, STATE RECEIVING, RUB_ID its RUBRIC_ID; a
signature that does not verify is SIG_FAIL and stages nothing. An accepted block is appended to its part; one out of
order is BAD_PARAM. An accepted commit gives COMMITTED; a failing part is CHECK_FAIL with its INDEX. An accepted
activation arms the record, counts, and sets the reset 10 ms later, which is a reset with cause ACTIVATION and keeps
the record; a moving module is REFUSED_MOVING. The first start makes ARMED TRIED, and every part is to pass its
start check; the last one to pass makes TRIAL; one that fails resets with START_CHECK and RUB_FAIL names it. A start
that finds TRIED makes it REVERTED, counts and shows why. After ten minutes a trial is REVERT_PENDING, and at
standstill resets with REVERT. An accepted confirmation swaps the banks of the rubric's elements, raises its counter
and shows CONFIRMED; outside TRIAL it is BAD_PARAM, after its end TIMEOUT. That RUB_FAIL outlives the reset it names
is the model's reading (log entry 61), as are a manifest's further checks, what of a rubric a reset keeps and which
parts must start (log entry 60); the verdicts on signatures and digests are operands (log entry 8). -/
def Obligations.RubricsAreStagedTriedAndConfirmed : Prop :=
  (∀ (s : State) (c : Cmd) (t : Nat), (s.tick t).admits c 4 → 48 ≤ c.params.length →
    (beginOwn c true s = .accept → Completes (.rubricBegin c true t) s fun v => v.rub.manifest = c.params ∧
      v.rub.parts = List.replicate (mfParts c.params) ⟨0, []⟩ ∧ v.rub.folio = none ∧ v.rubState = rubReceiving ∧ v.fget F.RUB_STAT_PARTS_DONE = 0 ∧
      (∀ i, i < 4 → v.reg (R.RUB_ID0 + 4 * i) = BitVec.ofNat 32 (leAt (mfId c.params) (4 * i) 4)) ∧ v.rub.record = s.rub.record ∧
      v.rub.banks = s.rub.banks ∧ v.repliedWith c 0x0701 0) ∧
    (¬ beginBad c.params → Completes (.rubricBegin c false t) s fun v => v.rub = s.rub ∧ v.rubState = s.rubState ∧ v.repliedWith c 0x0701 stSigFail ∧
      (mfSlot c.params < 4 → s.slotEnrolled (mfSlot c.params) →
        v.fget F.SEC_COUNTS_SIG_FAILS = min (s.fget F.SEC_COUNTS_SIG_FAILS + 1) 0xFFFF))) ∧
  (∀ (s : State) (c : Cmd) (t : Nat), (s.tick t).admits c 4 → stageLenOk c →
    (rubBlockOwn c s = .accept → Completes (.rubricBlock c t) s fun v => v.rub = { s.rub with
        parts := s.rub.parts.set (byteAt c.params 8) ⟨(s.rub.parts.getD (byteAt c.params 8) ⟨0, []⟩).next + 1,
          (s.rub.parts.getD (byteAt c.params 8) ⟨0, []⟩).bytes ++ stageData c⟩ } ∧
      v.rubState = s.rubState ∧ v.repliedWith c 0x0702 0) ∧
    (stageNo c ≠ (s.rub.parts.getD (byteAt c.params 8) ⟨0, []⟩).next → Completes (.rubricBlock c t) s fun v => v.rub = s.rub ∧
      v.reg R.RUB_STAT = s.reg R.RUB_STAT ∧ v.repliedWith c 0x0702 stBadParam)) ∧
  (∀ (s : State) (c : Cmd) (bad : Option Nat) (sig : Bool) (t : Nat), (s.tick t).admits c 4 → c.params = [] → s.rubState = rubReceiving →
      s.lifecycle ≠ lcLocked →
    (s.commitBad bad sig = none → Completes (.rubricCommit c bad sig t) s fun v => v.rubState = rubCommitted ∧ v.repliedWith c 0x0703 0 ∧
      v.rub = { s.rub with folio := s.rubFolio.map fun (x : Nat × List Byte) => parseFolio x.2 }) ∧
    (∀ p, s.commitBad bad sig = some p → Completes (.rubricCommit c bad sig t) s fun v => v.rubState = rubReceiving ∧ v.rub = s.rub ∧
      ∃ r ∈ v.quill.replies, r.cmd = c ∧ r.status = stCheckFail ∧ (r.dropped ∨ r.params = indexParams p))) ∧
  (∀ (s : State) (c : Cmd) (t : Nat), (s.tick t).admits c 4 → c.params = [] →
    (activateOwn true s = .accept → Completes (.rubricActivate c true t) s fun v => v.rub = { s.rub with
        record := .armed, active := s.rub.manifest, resetAt := some ((s.tick t).mono + 10000000) } ∧
      v.fget F.RUB_COUNT_ACTIVATIONS = min (s.fget F.RUB_COUNT_ACTIVATIONS + 1) 0xFFFF ∧ v.repliedWith c 0x0704 0) ∧
    (s.rubState = rubCommitted → ¬ s.standstill → Completes (.rubricActivate c true t) s fun v => v.rub = s.rub ∧ v.repliedWith c 0x0704 stMoving)) ∧
  (∀ (s : State) (a t : Nat), s.rub.resetAt = some a →
    (a ≤ (s.tick t).mono → s.Canon → s.power.overlap = none → Completes (.activationReset t) s fun v => v.softResetBy swActivation ∧
      v.rub.record = s.rub.record ∧ v.rub.active = s.rub.active ∧ v.rub.resetAt = none ∧ v.rub.banks = s.rub.banks) ∧
    ((s.tick t).mono < a → exec (.activationReset t) s = .next (s.tick t))) ∧
  (∀ (s : State) (p i t : Nat) (ok : Bool), ¬ s.rub.started → s.flag F.RPC_VIN_IN_WARNING →
    exec (.elementStart p i ok t) s = .next ((s.tick t).dipFlag 1)) ∧
  (∀ (s : State) (p i t : Nat), ¬ s.rub.started → ¬ s.flag F.RPC_VIN_IN_WARNING → s.rub.record = .armed →
    Completes (.elementStart p i true t) s fun v => v.rub.record = .tried ∧ v.rub.trial ∧ v.rub.started ∧ v.rub.trialAt = (s.tick t).mono ∧
      v.rub.left = ((mfElements s.rub.active).filter fun e => e / 256 != 7).filter (· != p * 256 + i) ∧
      (∀ m ∈ v.vellum.measures, ¬ (m.part = p ∧ m.inst = i)) ∧ v.rub.banks = s.rub.banks ∧ v.power = s.power) ∧
  (∀ (s : State) (p i t : Nat), s.rub.started → s.rub.trial → p * 256 + i ∈ s.rub.left →
    ((∀ e ∈ s.rub.left, e = p * 256 + i) → Completes (.elementStart p i true t) s fun v => v.rubState = rubTrial ∧ v.rub = { s.rub with left := [] } ∧
      v.power = s.power) ∧
    (p < 256 → i < 256 → s.Canon → s.power.overlap = none → Completes (.elementStart p i false t) s fun v => v.softResetBy swStartCheck ∧
      v.fget F.RUB_FAIL_PART = p ∧ v.fget F.RUB_FAIL_INSTANCE = i ∧ v.rub.record = s.rub.record ∧ ¬ v.rub.trial)) ∧
  (∀ (s : State) (p i t : Nat) (ok : Bool), ¬ s.rub.started → ¬ s.flag F.RPC_VIN_IN_WARNING → s.rub.record = .tried →
    Completes (.elementStart p i ok t) s fun v => v.rub.record = .reverted ∧ ¬ v.rub.trial ∧ v.rubState = rubNone ∧
      v.fget F.RUB_STAT_LAST_RESULT = s.revertResult ∧ v.fget F.RUB_COUNT_REVERTS = min (s.fget F.RUB_COUNT_REVERTS + 1) 0xFFFF ∧
      v.rub.banks = s.rub.banks ∧ v.power = s.power) ∧
  (∀ (s : State) (t : Nat), s.rubState = rubTrial →
    (s.rub.trialAt + 600000000000 ≤ (s.tick t).mono → Completes (.trialExpire t) s fun v => v.rubState = rubRevert ∧ v.rub = s.rub ∧ v.power = s.power) ∧
    ((s.tick t).mono < s.rub.trialAt + 600000000000 → exec (.trialExpire t) s = .next (s.tick t))) ∧
  (∀ (s : State) (t : Nat), s.rubState = rubRevert →
    (s.standstill → s.Canon → s.power.overlap = none → Completes (.revertReset t) s fun v => v.softResetBy swRevert ∧ v.rub.record = s.rub.record) ∧
    (¬ s.standstill → exec (.revertReset t) s = .next (s.tick t))) ∧
  (∀ (s : State) (c : Cmd) (t : Nat), (s.tick t).admits c 4 → c.params = [] →
    (confirmOwn (s.tick t) = .accept → (mfElements s.rub.active).Nodup → s.rub.folio = none → mfIndex s.rub.active < 64 →
      Completes (.rubricConfirm c t) s fun v => v.rub.record = .confirmed ∧ ¬ v.rub.trial ∧ v.rubState = rubNone ∧
        v.fget F.RUB_STAT_LAST_RESULT = rubConfirmed ∧
        (∀ e, (assoc v.rub.banks e).getD 0 = if e ∈ mfElements s.rub.active then 1 - (assoc s.rub.banks e).getD 0 else (assoc s.rub.banks e).getD 0) ∧
        (∀ k, k < 64 → v.rbCounter k = if k = mfIndex s.rub.active then max (s.rbCounter k) (mfValue s.rub.active) else s.rbCounter k) ∧
        v.repliedWith c 0x0705 0) ∧
    (s.rubState ≠ rubTrial → s.rubState ≠ rubRevert → Completes (.rubricConfirm c t) s fun v => v.rub = s.rub ∧ v.repliedWith c 0x0705 stBadParam) ∧
    (s.rubState = rubTrial ∨ s.rubState = rubRevert → (s.tick t).trialOver →
      Completes (.rubricConfirm c t) s fun v => v.rub = s.rub ∧ v.repliedWith c 0x0705 stTimeout))

/-- An accepted STORE begins the first kind that WHAT names, with the body as it stands, and STORE_STAT reads
PROGRAMMING; with the supply not good it is answered REFUSED_SUPPLY, and while another programs BUSY, and
LAST_RESULT shows which. When a record is complete it is the newest of its kind, valid, with the next generation;
after the last one STORE_STAT is IDLE with OK, counts, and the command is answered OK; else the next kind begins, or
in warning the STORE ends with REFUSED_SUPPLY and the WHAT bit of the record not written. When a body is taken is the
model's reading (log entry 62). -/
def Obligations.StoresWriteTheNextGeneration : Prop :=
  (∀ (s : State) (c : Cmd) (k : Nat) (ks : List Nat) (t : Nat), (s.tick t).admits c 3 → c.params.length = 8 → storeOwn c s = .accept →
      storeKinds (leAt c.params 0 4) = k :: ks → Completes (.store c t) s fun v =>
    v.rub = { s.rub with storing := some ⟨c, k :: ks, s.storeBody k⟩ } ∧ v.fget F.STORE_STAT_STATE = 1 ∧
    v.fget F.STORE_STAT_STORES = s.fget F.STORE_STAT_STORES ∧ v.quill.replies = s.quill.replies) ∧
  (∀ (s : State) (c : Cmd) (t : Nat), s.admits c 3 → (s.tick t).admits c 3 → c.params.length = 8 → 1 ≤ leAt c.params 0 4 → leAt c.params 0 4 ≤ 15 →
    (¬ s.supplyGood → Completes (.store c t) s fun v => v.rub = s.rub ∧ v.fget F.STORE_STAT_LAST_RESULT = storeSupply ∧
      v.repliedWith c 0x0103 stSupply) ∧
    (s.supplyGood → s.rub.storing.isSome → Completes (.store c t) s fun v => v.rub = s.rub ∧ v.fget F.STORE_STAT_LAST_RESULT = storeBusy ∧
      v.repliedWith c 0x0103 stBusy)) ∧
  (∀ (s : State) (x : StoreRun) (k t : Nat), s.rub.storing = some x → x.kinds = [k] → Completes (.storeRecordComplete t) s fun v =>
    v.rub.newest k = some ⟨(match s.rub.newest k with | some r => (r.generation + 1) % 2 ^ 32 | none => 1), 1, secOf (s.tick t).now, x.body, true⟩ ∧
    (∀ j, j ≠ k → v.rub.slots j = s.rub.slots j) ∧ v.rub.storing = none ∧ v.fget F.STORE_STAT_STATE = 0 ∧
    v.fget F.STORE_STAT_LAST_RESULT = storeOkResult ∧ v.fget F.STORE_STAT_STORES = (s.fget F.STORE_STAT_STORES + 1) % 2 ^ 16 ∧
    v.repliedWith x.cmd 0x0103 0) ∧
  (∀ (s : State) (x : StoreRun) (k n t : Nat) (ks : List Nat), s.rub.storing = some x → x.kinds = k :: n :: ks →
    (¬ s.flag F.RPC_VIN_IN_WARNING → Completes (.storeRecordComplete t) s fun v =>
      (∃ b, v.rub.storing = some ⟨x.cmd, n :: ks, b⟩) ∧ v.fget F.STORE_STAT_STATE = 1 ∧
      (v.rub.newest k).any (fun r => r.body == x.body) ∧ v.quill.replies = s.quill.replies) ∧
    (s.flag F.RPC_VIN_IN_WARNING → 1 ≤ n → n ≤ 4 → Completes (.storeRecordComplete t) s fun v => v.rub.storing = none ∧ v.fget F.STORE_STAT_STATE = 0 ∧
      v.fget F.STORE_STAT_LAST_RESULT = storeDip ∧ (v.rub.newest k).any (fun r => r.body == x.body) ∧
      ∃ r ∈ v.quill.replies, r.cmd = x.cmd ∧ r.status = stSupply ∧ (r.params = [] ∨ r.params = indexParams (n - 1)))) ∧
  (∀ (s : State) (t : Nat), s.rub.storing = none → exec (.storeRecordComplete t) s = .next (s.tick t))

/-- POWER_ON, BROWN_OUT, RESET_N, ECC_CRITICAL, RPC_PARITY and a failed CLOCK_CHECK, with no overlap in force: the
overlap names the source, its code, level, announcement and the seconds that PD_AON has counted, at which the time
scale starts; the vote is off, every lane is OFF, no session is left, module memory is as after reset, and the waiting
commands, the local count, the owner keys, the slots, the activation record and the banks stay; a SYSTEM reset leaves
the SSM's record, a POR unlocks it. Within an overlap as deep it joins: the source is added and nothing else changes;
a deeper one resets again. A passed CLOCK_CHECK shows PLL_LOCK alone. RESET_RELEASE takes a source away; with the last
one RST_CAUSE, RST_SEC and the level's counter tell the overlap, and STEP is 1. A domain that may come on does; the
streams that it sends start at SEQ 0, it knows of none that it receives, a lane boots, and a group starts in the
blotter state; one that may not stays. PERST_N held for 100 ms switches PD_HOST off and keeps the windows; its release
switches it on. How resets, releases and domains follow each other in time, and what each keeps, is the model's
reading (log entries 58, 60, 77). -/
def Obligations.ResetsOverlapAndReleaseOnce : Prop :=
  (∀ (i : Instr) (s : State) (t c : Nat), resetRow i = some (t, c) → s.Canon → s.power.overlap = none → Completes i s fun v =>
    v.power.overlap = some ⟨[c], 2 ^ c, c, srcLevel c, srcAnnounced c, 0, (s.tick t).aonSeconds % 2 ^ 32⟩ ∧ v.fget F.VOTE_CTRL_EN = 0 ∧
    (∀ l, v.laneSt l = .off) ∧ v.quill.sessions = [] ∧ v.mem = [] ∧ v.pending = s.pending ∧ v.mono = (s.tick t).mono ∧
    v.now = (s.tick t).aonSeconds * 1000000000 ∧ v.vellum.keys = s.vellum.keys ∧ (∀ k, k < 4 → v.reg (R.SEC_SLOT k) = s.reg (R.SEC_SLOT k)) ∧
    v.lifecycle = s.lifecycle ∧ v.rub.record = s.rub.record ∧ v.rub.active = s.rub.active ∧ v.rub.banks = s.rub.banks ∧
    v.ssm.record = (if srcLevel c = levelSystem then s.ssm.record else none)) ∧
  (∀ (i : Instr) (s : State) (o : Overlap) (t c : Nat), resetRow i = some (t, c) → s.power.overlap = some o → o.level ≤ srcLevel c →
    Completes i s fun v => State.RegsKept [R.RPC_CLK] s v ∧ v = { s.tick t with
      regs := v.regs, power := { s.power with overlap := some { o with
        asserted := o.asserted.filter (· != c) ++ [c], sources := o.sources ||| 2 ^ c } } }) ∧
  (∀ (i : Instr) (s : State) (o : Overlap) (t c : Nat), resetRow i = some (t, c) → s.Canon → s.power.overlap = some o → srcLevel c < o.level →
    Completes i s fun v => v.power.overlap = some { o with
        asserted := o.asserted.filter (· != c) ++ [c], sources := o.sources ||| 2 ^ c, level := srcLevel c } ∧
      v.ssm.record = none ∧ v.quill.sessions = [] ∧ v.mem = [] ∧ v.vellum.keys = s.vellum.keys ∧ v.rub.record = s.rub.record) ∧
  (∀ (s : State) (t : Nat), exec (.clockCheck false true t) s = .next ((s.tick t).fput F.RPC_CLK_PLL_LOCK 1)) ∧
  (∀ (s : State) (c t : Nat), s.power.overlap = none → exec (.resetRelease c t) s = .next (s.tick t)) ∧
  (∀ (s : State) (o : Overlap) (c t : Nat), s.power.overlap = some o →
    (c ∉ o.asserted → exec (.resetRelease c t) s = .next (s.tick t)) ∧
    ((∃ k ∈ o.asserted, k ≠ c) → c ∈ o.asserted → exec (.resetRelease c t) s = .next { s.tick t with
      power := { s.power with overlap := some { o with asserted := o.asserted.filter (· != c) } } }) ∧
    (c ∈ o.asserted → (∀ k ∈ o.asserted, k = c) → o.first < 16 → o.level = 1 ∨ o.level = 2 → o.swCause < 16 → o.sources < 2 ^ 10 →
      o.seconds < 2 ^ 32 → ¬ (s.power.lost ∧ o.level = levelPor) → Completes (.resetRelease c t) s fun v =>
        v.power.overlap = none ∧ v.power.releasedAt = (s.tick t).mono ∧ v.fget F.RST_CAUSE_FIRST = o.first ∧ v.fget F.RST_CAUSE_LEVEL = o.level ∧
        v.fget F.RST_CAUSE_SOURCES = o.sources ∧ v.fget F.RST_CAUSE_SW_CAUSE = o.swCause ∧ v.fget F.RST_CAUSE_ANNOUNCED = bit o.announced ∧
        v.fget F.RST_CAUSE_VBAK_LOST = (if o.level = levelPor then 0 else s.fget F.RST_CAUSE_VBAK_LOST) ∧ v.fget F.RST_SEC_SECONDS = o.seconds ∧ v.fget F.RPC_START_STEP = 1 ∧ v.fget F.RPC_CLK_XTAL_OK = 1 ∧
        v.fget F.RST_CNT_POR_COUNT = (if o.level = 1 then min (s.fget F.RST_CNT_POR_COUNT + 1) (2 ^ 32 - 1) else s.fget F.RST_CNT_POR_COUNT) ∧
        v.fget F.RST_CNT_SYS_COUNT = (if o.level = 2 then min (s.fget F.RST_CNT_SYS_COUNT + 1) (2 ^ 32 - 1) else s.fget F.RST_CNT_SYS_COUNT) ∧
        State.RegsOnly [R.RST_CAUSE, R.RST_SEC, R.RST_CNT_POR, R.RST_CNT_SYS, R.RPC_CLK, R.RPC_START] { s.tick t with power := v.power } v)) ∧
  (∀ (s : State) (c t : Nat), ((s.tick t).mayPower c → Completes (.domainSwitchOn c t) s fun v => v.powered c ∧
      v.power.lastOn = (s.tick t).mono ∧ pdStep c ≤ v.fget F.RPC_START_STEP ∧ (∀ x ∈ v.fabric.streams, blockDomain x.block ≠ c ∧ (x.src = c → x.expected = some 0)) ∧ (∀ x ∈ v.fabric.tx, x.src ≠ c) ∧
      (∀ l, c = pdLane l → v.laneSt l = .booting) ∧
      ∀ g, c = pdFg g → v.fc g = fcReset ∧ v.fget (F.FIO_BLOTTER_ACTIVE g) = 1 ∧ v.fget (F.FIO_BLOTTER_CAUSE g) = blotSilence) ∧
    (¬ (s.tick t).mayPower c → exec (.domainSwitchOn c t) s = .next (s.tick t))) ∧
  (∀ (s : State) (a t : Nat), (t < a + 100000000 → exec (.perstHoldExpire a t) s = .next (s.tick t)) ∧
    (a + 100000000 ≤ t → Completes (.perstHoldExpire a t) s fun v => v.brg.perst = some a ∧ ¬ v.powered pdHost ∧
      ∀ w, w < 8 → v.reg (R.WIN_CFG w) = s.reg (R.WIN_CFG w) ∧ v.reg (R.WIN_TARGET w) = s.reg (R.WIN_TARGET w))) ∧
  (∀ (s : State) (t : Nat), s.power.overlap = none → s.powered pdFab → ¬ s.powered pdHost →
    ((s.tick t).maySwitch → Completes (.perstRelease t) s fun v =>
      v.powered pdHost ∧ v.brg.perst = none ∧ v.power.lastOn = (s.tick t).mono ∧ State.RegsKept [R.RPC_PD_STAT, R.RPC_START] s v) ∧
    (¬ (s.tick t).maySwitch → exec (.perstRelease t) s = .next { s.tick t with brg := { s.brg with perst := none } }))

/-- CONVERTER_TRIP of a group that is on switches it off, starts its controller anew, counts the trip and drops its
link; CONVERTER_RESTART a second later, and a millisecond after any other domain, switches it on in the blotter state
with cause SILENCE. VIN_MEASURE shows VIN; below 11.0 V a run starts; after 20 us of it WARN and IN_WARNING are set
and the dip counted; above 11.2 V WARN is cleared while IN_WARNING stays. WARNING_WINDOW_END, 100 ms after, clears
IN_WARNING, shows the dip's lowest voltage and duration, and logs one record; sooner it does nothing.
SUPPLY_PIN_CHANGE shows the pin. VBAK_MEASURE shows VBAK and whether it is below 2.7 V; below 2.2 V with VIN absent
the contents of PD_AON are lost. TEMPERATURE_MEASURE shows the temperature and keeps the highest. FLASH_REFRESH
changes nothing. What a controller holds when it starts is the model's reading (log entry 36). -/
def Obligations.SuppliesTripsAndTemperatureAreFollowed : Prop :=
  (∀ (s : State) (g : Grp) (t : Nat), s.fgUp g → Completes (.converterTrip g t) s fun v => ¬ v.fgUp g ∧ v.fc g = fcReset ∧
    v.fget (tripCount g) = min (s.fget (tripCount g) + 1) 0xFF ∧ v.tripOf g = some (s.tick t).mono ∧ v.fget (F.FIO_LINK_UP g) = 0 ∧
    (∀ k, k ≠ g → v.fc k = s.fc k ∧ v.fgUp k = s.fgUp k ∧ v.tripOf k = s.tripOf k) ∧ v.mem = s.mem) ∧
  (∀ (s : State) (g : Grp) (t : Nat), ¬ s.fgUp g → exec (.converterTrip g t) s = .next (s.tick t)) ∧
  (∀ (s : State) (g : Grp) (a t : Nat), s.tripOf g = some a →
    (a + 1000000000 ≤ (s.tick t).mono → s.powered pdFab → s.power.overlap = none → (s.tick t).maySwitch → Completes (.converterRestart g t) s fun v => v.fgUp g ∧
      v.tripOf g = none ∧ v.fc g = fcReset ∧ v.fget (F.FIO_BLOTTER_ACTIVE g) = 1 ∧ v.fget (F.FIO_BLOTTER_CAUSE g) = blotSilence ∧
      v.power.lastOn = (s.tick t).mono ∧ ∀ k, k ≠ g → v.fc k = s.fc k) ∧
    ((s.tick t).mono < a + 1000000000 ∨ ¬ (s.tick t).maySwitch → exec (.converterRestart g t) s = .next (s.tick t))) ∧
  (∀ (s : State) (mv t : Nat), Completes (.vinMeasure mv t) s fun v => v.fget F.RPC_VIN_MV = min mv 0xFFFF ∧
    v.fget F.RPC_VIN_WARN = (if mv < 11000 ∧ (s.flag F.RPC_VIN_WARN ∨ s.power.lowSince.any (fun a => decide (a + 20000 ≤ (s.tick t).now))) then 1
      else if 11200 < mv then 0 else s.fget F.RPC_VIN_WARN) ∧
    (v.flag F.RPC_VIN_IN_WARNING ↔ s.flag F.RPC_VIN_IN_WARNING ∨ (¬ s.flag F.RPC_VIN_WARN ∧ v.flag F.RPC_VIN_WARN)) ∧
    v.fget F.RPC_DIP_COUNT = (if ¬ s.flag F.RPC_VIN_WARN ∧ v.flag F.RPC_VIN_WARN then min (s.fget F.RPC_DIP_COUNT + 1) 0xFFFF else s.fget F.RPC_DIP_COUNT) ∧
    v.power.lowSince = (if mv < 11000 then some (s.power.lowSince.getD (s.tick t).now) else none) ∧
    v.fget F.RPC_VIN_STORE_OK = s.fget F.RPC_VIN_STORE_OK ∧ State.RegsOnly [R.RPC_VIN, R.RPC_DIP] { s.tick t with power := v.power } v) ∧
  (∀ (s : State) (d : Dip) (t : Nat), s.power.dip = some d →
    (¬ s.flag F.RPC_VIN_WARN → d.rise + 100000000 ≤ (s.tick t).now → Completes (.warningWindowEnd t) s fun v => v.fget F.RPC_VIN_IN_WARNING = 0 ∧
      v.fget F.RPC_DIP_VMIN = min d.vmin 0xFFFF ∧ v.fget F.RPC_DIP_DUR_MICROSECONDS = min ((d.rise - d.first) / 1000) (2 ^ 32 - 1) ∧
      v.power.dip = none ∧ v.quill.logCount = s.quill.logCount + 1 ∧ State.MemKeptButRecord s v ∧
      State.RegsKept [R.RPC_VIN, R.RPC_DIP, R.RPC_DIP_DUR, R.LOG_HEAD] s v) ∧
    (s.flag F.RPC_VIN_WARN ∨ (s.tick t).now < d.rise + 100000000 → exec (.warningWindowEnd t) s = .next (s.tick t))) ∧
  (∀ (s : State) (b : Bool) (t : Nat), Completes (.supplyPinChange false b t) s fun v => v.fget F.RPC_VIN_STORE_OK = bit b ∧
    v.fget F.RPC_VIN_BATT_LOW = s.fget F.RPC_VIN_BATT_LOW ∧ v.fget F.RPC_VIN_MV = s.fget F.RPC_VIN_MV ∧ State.RegsOnly [R.RPC_VIN] (s.tick t) v) ∧
  (∀ (s : State) (b : Bool) (t : Nat), Completes (.supplyPinChange true b t) s fun v => v.fget F.RPC_VIN_BATT_LOW = bit b ∧
    v.fget F.RPC_VIN_STORE_OK = s.fget F.RPC_VIN_STORE_OK ∧ v.fget F.RPC_VIN_MV = s.fget F.RPC_VIN_MV ∧ State.RegsOnly [R.RPC_VIN] (s.tick t) v) ∧
  (∀ (s : State) (mv t : Nat) (absent : Bool), Completes (.vbakMeasure mv absent t) s fun v => v.fget F.RPC_VBAK_MV = min mv 0xFFFF ∧
    (v.flag F.RPC_VBAK_LOW ↔ mv < 2700) ∧ v.power = { s.power with lost := s.power.lost || (absent && decide (mv < 2200)) } ∧
    State.RegsOnly [R.RPC_VBAK] { s.tick t with power := v.power } v) ∧
  (∀ (s : State) (x : BitVec 16) (t : Nat), Completes (.temperatureMeasure x t) s fun v => v.fget F.RPC_TEMP_NOW = x.toNat ∧
    v.fget F.RPC_TEMP_MAX = (if signed16 (s.fget F.RPC_TEMP_MAX) < x.toInt then x.toNat else s.fget F.RPC_TEMP_MAX) ∧
    State.RegsOnly [R.RPC_TEMP] (s.tick t) v) ∧
  (∀ (s : State) (t : Nat), exec (.flashRefresh t) s = .next (s.tick t))

/-- At State.reset the registers and module memory are lists in canonical form: addresses strictly rising, and no
entry equal to what an unlisted address reads as. What an unlisted byte reads as is the model's choice (log entry
5). -/
def Obligations.ResetIsCanonical : Prop :=
  State.Canon State.reset

/-- For every state whose registers and module memory are in canonical form, whatever command stands at the front of
its queue, or none: if the step answers a next state, its registers and module memory are in canonical form too. So
equal registers and equal memories are equal data in every state that a run from a canonical state reaches. -/
def Obligations.EveryStepKeepsTheCanonicalForm : Prop :=
  ∀ s v : State, s.Canon → step s = .next v → v.Canon
end

