-- ==== Sys2Proof/Laws/Cells.lean ====
section
/-! SUPPORT. The sparse lists: a read after a write, and that every operation on them keeps the canonical form. -/

namespace Sys2Proof.Machine

variable {α : Type}

/-! ### Reads -/

theorem cellGet_cellDel_same (d : α) (m : List (Nat × α)) (a : Nat) : cellGet d (cellDel m a) a = d := by
  induction m with
  | nil => rfl
  | cons e m ih =>
    obtain ⟨b, v⟩ := e
    by_cases h : a = b <;> simp [cellDel, cellGet, h] <;> simpa [h] using ih

theorem cellGet_cellDel_other (d : α) (m : List (Nat × α)) {a c : Nat} (hc : c ≠ a) :
    cellGet d (cellDel m a) c = cellGet d m c := by
  induction m with
  | nil => rfl
  | cons e m ih =>
    obtain ⟨b, v⟩ := e
    by_cases h : a = b
    · subst h; simp [cellDel, cellGet, hc, ih]
    · simp only [cellDel, h, if_false, cellGet, ih]

theorem cellGet_cellIns_same (d : α) (m : List (Nat × α)) (a : Nat) (v : α) : cellGet d (cellIns m a v) a = v := by
  induction m with
  | nil => simp [cellIns, cellGet]
  | cons e m ih =>
    obtain ⟨b, w⟩ := e
    by_cases h : a = b
    · simp [cellIns, cellGet, h]
    · by_cases h2 : a < b <;> simp [cellIns, cellGet, h, h2, ih]

theorem cellGet_cellIns_other (d : α) (m : List (Nat × α)) {a c : Nat} (v : α) (hc : c ≠ a) :
    cellGet d (cellIns m a v) c = cellGet d m c := by
  induction m with
  | nil => simp [cellIns, cellGet, hc]
  | cons e m ih =>
    obtain ⟨b, w⟩ := e
    by_cases h : a = b
    · subst h; simp [cellIns, cellGet, hc]
    · by_cases h2 : a < b
      · simp [cellIns, h, h2, cellGet, hc]
      · simp only [cellIns, h, h2, if_false, cellGet, ih]

variable [DecidableEq α]

/-- A read of the address just written gives what was written. -/
theorem cellGet_cellSet_same (d : α) (m : List (Nat × α)) (a : Nat) (v : α) : cellGet d (cellSet d m a v) a = v := by
  unfold cellSet
  split
  · next h => rw [cellGet_cellDel_same, h]
  · exact cellGet_cellIns_same d m a v

/-- A write leaves every other address alone, whatever default the read takes. -/
theorem cellGet_cellSet_other (d d' : α) (m : List (Nat × α)) {a c : Nat} (v : α) (hc : c ≠ a) :
    cellGet d' (cellSet d m a v) c = cellGet d' m c := by
  unfold cellSet
  split
  · exact cellGet_cellDel_other d' m hc
  · exact cellGet_cellIns_other d' m v hc

/-- A run of bytes written leaves every address outside the run alone. -/
theorem cellGet_cellSetN_other (d d' : α) (m : List (Nat × α)) {a c : Nat} (vs : List α)
    (hc : c < a ∨ a + vs.length ≤ c) : cellGet d' (cellSetN d m a vs) c = cellGet d' m c := by
  induction vs generalizing m a with
  | nil => rfl
  | cons v vs ih =>
    have hne : c ≠ a := by simp only [List.length_cons] at hc; omega
    have ht : c < a + 1 ∨ a + 1 + vs.length ≤ c := by simp only [List.length_cons] at hc; omega
    rw [cellSetN, ih _ ht, cellGet_cellSet_other _ _ _ _ hne]

/-- A run of values written reads back. -/
theorem cellGet_cellSetN_get (d : α) (m : List (Nat × α)) (a i : Nat) (vs : List α) (hi : i < vs.length) :
    cellGet d (cellSetN d m a vs) (a + i) = vs[i] := by
  induction vs generalizing m a i with
  | nil => simp at hi
  | cons v vs ih =>
    cases i with
    | zero =>
      rw [cellSetN, cellGet_cellSetN_other d d _ vs (by omega)]
      simpa using cellGet_cellSet_same d m a v
    | succ i =>
      have h := ih (cellSet d m a v) (a + 1) i (by simpa using hi)
      have e : a + (i + 1) = a + 1 + i := by omega
      rw [cellSetN, e, h]; rfl

/-! ### The canonical form -/

/-- Every address listed is at least `a`. -/
def cellsFrom (a : Nat) (m : List (Nat × α)) : Prop := ∀ e ∈ m, a ≤ e.1

theorem cellWf_tail {d : Nat → α} {e : Nat × α} {m : List (Nat × α)} (h : cellWf d (e :: m) = true) :
    cellWf d m = true := by
  obtain ⟨a, v⟩ := e
  cases m with
  | nil => rfl
  | cons e m => obtain ⟨b, w⟩ := e; simp only [cellWf, Bool.and_eq_true] at h; exact h.2

theorem cellWf_from {d : Nat → α} {e : Nat × α} {m : List (Nat × α)} (h : cellWf d (e :: m) = true) :
    cellsFrom (e.1 + 1) m := by
  induction m generalizing e with
  | nil => intro x hx; cases hx
  | cons f m ih =>
    have ht := ih (cellWf_tail h)
    obtain ⟨a, v⟩ := e
    obtain ⟨b, w⟩ := f
    simp only [cellWf, Bool.and_eq_true, decide_eq_true_eq] at h
    intro x hx
    rcases List.mem_cons.mp hx with rfl | hx
    · exact h.1.2
    · have := ht x hx; simp only at this ⊢; omega

/-- The canonical form of a list with a head: a head that is no default, below a canonical tail. -/
theorem cellWf_cons {d : Nat → α} {a : Nat} {v : α} {m : List (Nat × α)} :
    cellWf d ((a, v) :: m) = true ↔ v ≠ d a ∧ cellsFrom (a + 1) m ∧ cellWf d m = true := by
  constructor
  · intro h
    refine ⟨?_, cellWf_from h, cellWf_tail h⟩
    cases m with
    | nil => simpa [cellWf] using h
    | cons f m => obtain ⟨b, w⟩ := f; simp only [cellWf, Bool.and_eq_true, decide_eq_true_eq] at h; exact h.1.1
  · rintro ⟨hv, hf, hm⟩
    cases m with
    | nil => simpa [cellWf] using hv
    | cons f m =>
      obtain ⟨b, w⟩ := f
      have : a + 1 ≤ b := hf (b, w) (by simp)
      simp [cellWf, hv, hm, this]
      omega

theorem cellsFrom_filter {a : Nat} {m : List (Nat × α)} (p : Nat × α → Bool) (h : cellsFrom a m) :
    cellsFrom a (m.filter p) := fun e he => h e (List.mem_filter.mp he).1

theorem cellWf_filter {d : Nat → α} {m : List (Nat × α)} (p : Nat × α → Bool) (h : cellWf d m = true) :
    cellWf d (m.filter p) = true := by
  induction m with
  | nil => rfl
  | cons e m ih =>
    obtain ⟨a, v⟩ := e
    have hc := cellWf_cons.mp h
    by_cases hp : p (a, v)
    · rw [List.filter_cons_of_pos hp]
      exact cellWf_cons.mpr ⟨hc.1, cellsFrom_filter p hc.2.1, ih hc.2.2⟩
    · rw [List.filter_cons_of_neg hp]; exact ih hc.2.2

theorem cellDel_eq_filter (m : List (Nat × α)) (a : Nat) : cellDel m a = m.filter (fun e => decide (a ≠ e.1)) := by
  induction m with
  | nil => rfl
  | cons e m ih =>
    obtain ⟨b, v⟩ := e
    by_cases h : a = b <;> simp [cellDel, h] <;> simpa [h] using ih

theorem cellWf_cellDel {d : Nat → α} {m : List (Nat × α)} (a : Nat) (h : cellWf d m = true) :
    cellWf d (cellDel m a) = true := by
  rw [cellDel_eq_filter]; exact cellWf_filter _ h

theorem cellsFrom_cellIns {a b : Nat} {v : α} {m : List (Nat × α)} (h : cellsFrom b m) (ha : b ≤ a) :
    cellsFrom b (cellIns m a v) := by
  induction m with
  | nil => intro e he; simp [cellIns] at he; simp [he, ha]
  | cons f m ih =>
    obtain ⟨c, w⟩ := f
    have hm : cellsFrom b m := fun e he => h e (by simp [he])
    have hc : b ≤ c := h (c, w) (by simp)
    intro e he
    by_cases h1 : a = c
    · simp only [cellIns, h1, if_true, List.mem_cons] at he
      rcases he with rfl | he
      · exact hc
      · exact hm e he
    · by_cases h2 : a < c
      · simp only [cellIns, h1, h2, if_false, if_true, List.mem_cons] at he
        rcases he with rfl | rfl | he
        · exact ha
        · exact hc
        · exact hm e he
      · simp only [cellIns, h1, h2, if_false, List.mem_cons] at he
        rcases he with rfl | he
        · exact hc
        · exact ih hm e he

theorem cellWf_cellIns {d : Nat → α} {m : List (Nat × α)} {a : Nat} {v : α} (h : cellWf d m = true) (hv : v ≠ d a) :
    cellWf d (cellIns m a v) = true := by
  induction m with
  | nil => simpa [cellIns, cellWf] using hv
  | cons f m ih =>
    obtain ⟨c, w⟩ := f
    have hc := cellWf_cons.mp h
    by_cases h1 : a = c
    · subst h1; simp only [cellIns, if_true]; exact cellWf_cons.mpr ⟨hv, hc.2⟩
    · by_cases h2 : a < c
      · simp only [cellIns, h1, h2, if_false, if_true]
        refine cellWf_cons.mpr ⟨hv, ?_, h⟩
        intro e he
        rcases List.mem_cons.mp he with rfl | he
        · exact h2
        · have := hc.2.1 e he; omega
      · simp only [cellIns, h1, h2, if_false]
        exact cellWf_cons.mpr ⟨hc.1, cellsFrom_cellIns hc.2.1 (by omega), ih hc.2.2⟩

/-- Writing one value keeps the canonical form. -/
theorem cellWf_cellSet {d : Nat → α} {m : List (Nat × α)} (a : Nat) (v : α) (h : cellWf d m = true) :
    cellWf d (cellSet (d a) m a v) = true := by
  unfold cellSet
  split
  · exact cellWf_cellDel a h
  · next hv => exact cellWf_cellIns h hv

/-- Writing a run of values keeps the canonical form. -/
theorem cellWf_cellSetN {d : α} {m : List (Nat × α)} (a : Nat) (vs : List α) (h : cellWf (fun _ => d) m = true) :
    cellWf (fun _ => d) (cellSetN d m a vs) = true := by
  induction vs generalizing m a with
  | nil => exact h
  | cons v vs ih => exact ih (a + 1) (cellWf_cellSet (d := fun _ => d) a v h)

/-- Dropping a range keeps the canonical form. -/
theorem cellWf_cellDrop {d : Nat → α} {m : List (Nat × α)} (lo hi : Nat) (h : cellWf d m = true) :
    cellWf d (cellDrop m lo hi) = true := cellWf_filter _ h

/-- A dropped range reads as the default; every other address reads as before. -/
theorem cellGet_cellDrop (d : α) (m : List (Nat × α)) (lo hi a : Nat) :
    cellGet d (cellDrop m lo hi) a = if lo ≤ a ∧ a < hi then d else cellGet d m a := by
  induction m with
  | nil => simp [cellDrop, cellGet]
  | cons e m ih =>
    obtain ⟨b, v⟩ := e
    unfold cellDrop at ih ⊢
    by_cases hb : b < lo ∨ hi ≤ b
    · rw [List.filter_cons_of_pos (by simpa using hb)]
      by_cases hab : a = b
      · subst hab; simp only [cellGet, if_true]; rw [if_neg (by omega)]
      · simp only [cellGet, hab, if_false, ih]
    · rw [List.filter_cons_of_neg (by simpa using hb), ih]
      by_cases hab : a = b
      · subst hab; simp only [cellGet, if_true]; rw [if_pos (by omega), if_pos (by omega)]
      · simp only [cellGet, hab, if_false]

end Sys2Proof.Machine
end

