-- ==== Sys2Proof/Laws/Registers.lean ====
section
/-! SUPPORT. Register fields: a read after a write of the same field, of another field of the register, and of another
register; every register operation keeps the canonical form. -/

namespace Sys2Proof.Machine

theorem wordBits_lt (w : Word) (hi lo : Nat) : wordBits w hi lo < 2 ^ (hi - lo + 1) := by
  unfold wordBits; exact BitVec.isLt _

theorem testBit_wordBits (w : Word) (hi lo i : Nat) :
    (wordBits w hi lo).testBit i = (decide (i < hi - lo + 1) && w.getLsbD (lo + i)) := by
  unfold wordBits
  rw [BitVec.testBit_toNat, BitVec.getLsbD_extractLsb']

theorem getLsbD_wordPut (w : Word) {hi lo : Nat} (v i : Nat) (hi32 : hi < 32) (hlo : lo ≤ hi) :
    (wordPut w hi lo v).getLsbD i = if lo ≤ i ∧ i ≤ hi then v.testBit (i - lo) else w.getLsbD i := by
  by_cases h32 : i < 32
  · unfold wordPut
    simp only [BitVec.getLsbD_or, BitVec.getLsbD_and, BitVec.getLsbD_not, BitVec.getLsbD_shiftLeft,
      BitVec.getLsbD_ofNat, Nat.testBit_two_pow_sub_one, h32, decide_true, Bool.true_and]
    by_cases h1 : lo ≤ i
    · by_cases h2 : i ≤ hi
      · have a : i - lo < hi - lo + 1 := by omega
        have b : i - lo < 32 := by omega
        have c : ¬ i < lo := by omega
        simp [h1, h2, a, b, c]
      · have a : ¬ i - lo < hi - lo + 1 := by omega
        simp [h2, a]
    · have c : i < lo := by omega
      simp [h1, c]
  · have e : ¬ (lo ≤ i ∧ i ≤ hi) := by omega
    rw [if_neg e, BitVec.getLsbD_of_ge _ _ (by omega), BitVec.getLsbD_of_ge _ _ (by omega)]

/-- A field just written reads back, cut to its width. -/
theorem wordBits_wordPut_same (w : Word) {hi lo : Nat} (v : Nat) (hi32 : hi < 32) (hlo : lo ≤ hi) :
    wordBits (wordPut w hi lo v) hi lo = v % 2 ^ (hi - lo + 1) := by
  apply Nat.eq_of_testBit_eq
  intro i
  rw [testBit_wordBits, Nat.testBit_mod_two_pow, getLsbD_wordPut w v _ hi32 hlo]
  by_cases h : i < hi - lo + 1
  · have e : lo ≤ lo + i ∧ lo + i ≤ hi := by omega
    simp [h, e]
  · simp [h]

/-- A field that shares no bit with the one written reads as before. -/
theorem wordBits_wordPut_other (w : Word) {hi lo h l : Nat} (v : Nat) (hi32 : hi < 32) (hlo : lo ≤ hi) (hl : l ≤ h)
    (hd : h < lo ∨ hi < l) : wordBits (wordPut w hi lo v) h l = wordBits w h l := by
  apply Nat.eq_of_testBit_eq
  intro i
  rw [testBit_wordBits, testBit_wordBits, getLsbD_wordPut w v _ hi32 hlo]
  by_cases hh : i < h - l + 1
  · have e : ¬ (lo ≤ l + i ∧ l + i ≤ hi) := by omega
    rw [if_neg e]
  · simp [hh]

/-- A field lies in a 32-bit word. -/
def fieldOk (f : Field) : Bool := decide (f.hi < 32) && decide (f.lo ≤ f.hi)

/-- Two fields of one register share no bit, or lie in different registers. -/
def bitsApart (f g : Field) : Bool := f.off != g.off || decide (f.hi < g.lo) || decide (g.hi < f.lo)

@[simp] theorem State.reg_setReg_same (s : State) (a : Nat) (w : Word) : (s.setReg a w).reg a = w :=
  cellGet_cellSet_same _ _ _ _

theorem State.reg_setReg_other (s : State) {a b : Nat} (w : Word) (h : b ≠ a) : (s.setReg a w).reg b = s.reg b :=
  cellGet_cellSet_other _ _ _ _ h

@[simp] theorem State.setReg_mem (s : State) (a : Nat) (w : Word) : (s.setReg a w).mem = s.mem := rfl

theorem State.fget_lt (s : State) (f : Field) : s.fget f < 2 ^ (f.hi - f.lo + 1) := wordBits_lt _ _ _

/-- A register outside the one written reads as before. -/
theorem State.reg_fput_other (s : State) (f : Field) (v : Nat) {a : Nat} (h : a ≠ f.off) :
    (s.fput f v).reg a = s.reg a := State.reg_setReg_other _ _ h

/-- A field just written reads back, cut to its width. -/
theorem State.fget_fput_same (s : State) (f : Field) (v : Nat) (h : fieldOk f = true) :
    (s.fput f v).fget f = v % 2 ^ (f.hi - f.lo + 1) := by
  simp only [fieldOk, Bool.and_eq_true, decide_eq_true_eq] at h
  simp only [State.fget, State.fput, State.reg_setReg_same]
  exact wordBits_wordPut_same _ _ h.1 h.2

/-- A field apart from the one written reads as before. -/
theorem State.fget_fput_other (s : State) (f g : Field) (v : Nat) (hf : fieldOk f = true) (hg : fieldOk g = true)
    (h : bitsApart g f = true) : (s.fput f v).fget g = s.fget g := by
  simp only [fieldOk, Bool.and_eq_true, decide_eq_true_eq] at hf hg
  by_cases ho : g.off = f.off
  · simp only [bitsApart, ho, bne_self_eq_false, Bool.false_or, Bool.or_eq_true, decide_eq_true_eq] at h
    simp only [State.fget, State.fput, ho, State.reg_setReg_same]
    exact wordBits_wordPut_other _ _ hf.1 hf.2 hg.2 (by omega)
  · simp only [State.fget, State.reg_fput_other s f v ho]

/-- A flag just written reads back. -/
theorem State.flag_fput_same (s : State) (f : Field) (v : Nat) (h : fieldOk f = true) :
    (s.fput f v).flag f = (v % 2 ^ (f.hi - f.lo + 1) != 0) := by
  simp only [State.flag, State.fget_fput_same s f v h]

/-- A flag apart from the field written reads as before. -/
theorem State.flag_fput_other (s : State) (f g : Field) (v : Nat) (hf : fieldOk f = true) (hg : fieldOk g = true)
    (h : bitsApart g f = true) : (s.fput f v).flag g = s.flag g := by
  simp only [State.flag, State.fget_fput_other s f g v hf hg h]

@[simp] theorem State.fput_mem (s : State) (f : Field) (v : Nat) : (s.fput f v).mem = s.mem := rfl
@[simp] theorem State.fput_pending (s : State) (f : Field) (v : Nat) : (s.fput f v).pending = s.pending := rfl
@[simp] theorem State.mread_fput (s : State) (f : Field) (v a : Nat) : (s.fput f v).mread a = s.mread a := rfl

/-- A saturating counter never exceeds its field and counts until it does. -/
theorem State.fget_fsat (s : State) (f : Field) (h : fieldOk f = true) :
    (s.fsat f).fget f = min (s.fget f + 1) (fieldMax f) := by
  have hlt : fieldMax f < 2 ^ (f.hi - f.lo + 1) := by
    unfold fieldMax; have : 0 < 2 ^ (f.hi - f.lo + 1) := Nat.two_pow_pos _; omega
  simp only [State.fsat, State.fsatAdd, State.fget_fput_same s f _ h]
  exact Nat.mod_eq_of_lt (by omega)

theorem State.reg_fsat_other (s : State) (f : Field) {a : Nat} (h : a ≠ f.off) : (s.fsat f).reg a = s.reg a :=
  State.reg_fput_other _ _ _ h

/-- A byte of module memory outside the bytes written reads as before. -/
theorem State.mread_mwrite_other (s : State) (a : Nat) (bs : List Byte) {c : Nat} (h : c < a ∨ a + bs.length ≤ c) :
    (s.mwrite a bs).mread c = s.mread c := cellGet_cellSetN_other _ _ _ _ h

/-- The bytes written to module memory read back. -/
theorem State.mread_mwrite_get (s : State) (a i : Nat) (bs : List Byte) (h : i < bs.length) :
    (s.mwrite a bs).mread (a + i) = bs[i] := cellGet_cellSetN_get _ _ _ _ _ h

@[simp] theorem State.mwrite_regs (s : State) (a : Nat) (bs : List Byte) : (s.mwrite a bs).regs = s.regs := rfl
@[simp] theorem State.reg_mwrite (s : State) (a : Nat) (bs : List Byte) (o : Nat) : (s.mwrite a bs).reg o = s.reg o := rfl
@[simp] theorem State.fget_mwrite (s : State) (a : Nat) (bs : List Byte) (f : Field) :
    (s.mwrite a bs).fget f = s.fget f := rfl

/-! ### The canonical form -/

theorem State.setReg_wf (s : State) (a : Nat) (w : Word) (h : cellWf resetWord s.regs = true) :
    cellWf resetWord (s.setReg a w).regs = true := cellWf_cellSet a w h

theorem State.fput_wf (s : State) (f : Field) (v : Nat) (h : cellWf resetWord s.regs = true) :
    cellWf resetWord (s.fput f v).regs = true := s.setReg_wf _ _ h

theorem State.resetRegs_wf (s : State) (lo hi : Nat) (h : cellWf resetWord s.regs = true) :
    cellWf resetWord (s.resetRegs lo hi).regs = true := cellWf_cellDrop lo hi h

theorem State.mwrite_wf (s : State) (a : Nat) (bs : List Byte) (h : Memory.wf s.mem = true) :
    Memory.wf (s.mwrite a bs).mem = true := cellWf_cellSetN a bs h

end Sys2Proof.Machine
end

