-- ==== Sys2Proof/Laws/Canon.lean ====
section
/-! SUPPORT. The shared operations keep the canonical form of registers and module memory: `State.Canon` depends on
`regs` and `mem` alone, and one lemma for each shared operation says that it keeps it. -/

namespace Sys2Proof.Machine

namespace State

/-- A state with the registers and memory of a canonical state is canonical. -/
theorem Canon.same {s t : State} (h : s.Canon) (hr : t.regs = s.regs) (hm : t.mem = s.mem) : t.Canon := by
  unfold Canon; rw [hr, hm]; exact h

/-- A fold of steps that keep the form keeps it. -/
theorem Canon.foldl {α : Type} {k : State → α → State} (hk : ∀ s x, Canon s → Canon (k s x)) (xs : List α) {s : State}
    (h : s.Canon) : Canon (xs.foldl k s) := by
  induction xs generalizing s with
  | nil => exact h
  | cons x xs ih => exact ih (hk s x h)

theorem Canon.ite {c : Prop} [Decidable c] {s t : State} (hs : s.Canon) (ht : t.Canon) : Canon (if c then s else t) := by
  split <;> assumption

/-! ### Registers and memory -/

theorem Canon.setReg {s : State} (a : Nat) (w : Word) (h : s.Canon) : (s.setReg a w).Canon := ⟨s.setReg_wf a w h.1, h.2⟩
theorem Canon.fput {s : State} (f : Field) (v : Nat) (h : s.Canon) : (s.fput f v).Canon := h.setReg _ _
theorem Canon.finc {s : State} (f : Field) (h : s.Canon) : (s.finc f).Canon := h.fput _ _
theorem Canon.fsatAdd {s : State} (f : Field) (n : Nat) (h : s.Canon) : (s.fsatAdd f n).Canon := h.fput _ _
theorem Canon.fsat {s : State} (f : Field) (h : s.Canon) : (s.fsat f).Canon := h.fsatAdd _ _
theorem Canon.fputSat {s : State} (f : Field) (v : Nat) (h : s.Canon) : (s.fputSat f v).Canon := h.fput _ _
theorem Canon.resetRegs {s : State} (lo hi : Nat) (h : s.Canon) : (s.resetRegs lo hi).Canon := ⟨s.resetRegs_wf lo hi h.1, h.2⟩
theorem Canon.mwrite {s : State} (a : Nat) (bs : List Byte) (h : s.Canon) : (s.mwrite a bs).Canon := ⟨h.1, s.mwrite_wf a bs h.2⟩

/-- What a reset keeps of a canonical list of registers is canonical (R480). -/
theorem keptRegs_wf (level : Nat) {m : List (Nat × Word)} (h : cellWf resetWord m = true) :
    cellWf resetWord (keptRegs level m) = true := by
  have hfrom : ∀ (a : Nat) (m : List (Nat × Word)), cellsFrom a m → cellsFrom a (keptRegs level m) := by
    intro a m hm e he
    obtain ⟨x, hx, hxe⟩ := List.mem_filterMap.mp he
    have := hm x hx
    simp only at hxe
    split at hxe
    · cases hxe
    · cases hxe; exact this
  induction m with
  | nil => rfl
  | cons e m ih =>
    obtain ⟨a, v⟩ := e
    have hc := cellWf_cons.mp h
    have hm := ih hc.2.2
    have hf := hfrom _ _ hc.2.1
    unfold keptRegs at *
    simp only [List.filterMap_cons]
    split
    · exact hm
    · rename_i y hy
      split at hy
      · cases hy
      · rename_i hne
        cases hy
        exact cellWf_cons.mpr ⟨by simpa using hne, hf, hm⟩

/-! ### Time, log, interrupts, power -/

theorem Canon.tick {s : State} (t : Nat) (h : s.Canon) : (s.tick t).Canon := by
  unfold State.tick; split <;> exact h

theorem Canon.spent {s : State} (h : s.Canon) : s.spent.Canon := h

theorem Canon.setLane {s : State} (l : Lane) (x : LaneState) (h : s.Canon) : (s.setLane l x).Canon := by
  cases l <;> exact h

theorem Canon.logAt {s : State} (t e src : Nat) (d : List Byte) (h : s.Canon) : (s.logAt t e src d).Canon :=
  Canon.fput _ _ ((h.mwrite _ _).same rfl rfl)

theorem Canon.log {s : State} (e src : Nat) (d : List Byte) (h : s.Canon) : (s.log e src d).Canon := h.logAt _ _ _ _
theorem Canon.logReg {s : State} (e src off : Nat) (h : s.Canon) : (s.logReg e src off).Canon := h.log _ _ _

theorem Canon.hostVector {s : State} (v : Nat) (h : s.Canon) : (s.hostVector v).Canon := by
  unfold State.hostVector; split
  · exact h
  · split <;> exact h

theorem Canon.hostEvent {s : State} (i : Nat) (h : s.Canon) : (s.hostEvent i).Canon := by
  unfold State.hostEvent; split
  · exact h
  · exact (h.fput _ _).hostVector _

theorem Canon.setPower {s : State} (c : Nat) (on : Bool) (h : s.Canon) : (s.setPower c on).Canon := by
  unfold State.setPower; split
  · exact (h.fput _ _).same rfl rfl
  · exact (h.fput _ _).same rfl rfl

/-! ### Lane states, exclusion and failure -/

theorem Canon.refreshVote {s : State} (h : s.Canon) : s.refreshVote.Canon := by
  unfold State.refreshVote; exact ((h.fput _ _).fput _ _).ite ((h.fput _ _).fput _ _)

theorem Canon.setLaneSt {s : State} (l : Lane) (st : LaneSt) (h : s.Canon) : (s.setLaneSt l st).Canon :=
  ((h.fput _ _).refreshVote.logReg _ _ _).hostEvent _

theorem Canon.failLanes {s : State} (h : s.Canon) : s.failLanes.Canon :=
  Canon.foldl (fun _ _ hs => hs.ite (hs.setLaneSt _ _)) _ h

theorem Canon.setHeartbeat {s : State} (on : Bool) (h : s.Canon) : (s.setHeartbeat on).Canon := by
  unfold State.setHeartbeat; split
  · exact h
  · exact (h.fput _ _).same rfl rfl

theorem Canon.failModule {s : State} (cause task : Nat) (h : s.Canon) : (s.failModule cause task).Canon := by
  unfold State.failModule; split
  · exact h
  · have h1 := ((((h.fput F.VOTE_FAIL_CAUSE cause).fput F.VOTE_FAIL_TASK task).fput F.VOTE_CTRL_EN 0).fput F.VOTE_CTRL_FAILED
      1).setHeartbeat false
    exact Canon.hostEvent _ (Canon.logReg _ _ _ (Canon.failLanes (h1.same rfl rfl)))

theorem Canon.exclude {s : State} (l : Lane) (cause : LaneCause) (h : s.Canon) : (s.exclude l cause).Canon := by
  unfold State.exclude
  refine Canon.setLaneSt _ _ (Canon.same (Canon.setLane l _ (Canon.fput _ _ (Canon.fput _ _ ?_))) rfl rfl)
  split
  · exact (h.fput _ _).fsat _
  · exact h.fput _ _

theorem Canon.excludeCheck {s : State} (l : Lane) (cause : LaneCause) (task : Nat) (h : s.Canon) :
    (s.excludeCheck l cause task).Canon := by
  unfold State.excludeCheck; split
  · exact h
  · exact ((h.exclude l cause).failModule _ _).ite (h.exclude l cause)

theorem Canon.laneFault {s : State} (l : Lane) (cause : LaneCause) (h : s.Canon) : (s.laneFault l cause).Canon :=
  h.excludeCheck _ _ _

/-! ### Quill commands and replies -/

theorem Canon.setSession {s : State} (x : Session) (h : s.Canon) : (s.setSession x).Canon := h

theorem Canon.touch {s : State} (id : Nat) (h : s.Canon) : (s.touch id).Canon := by
  unfold State.touch; split <;> exact h

theorem Canon.endSession {s : State} (id reason : Nat) (h : s.Canon) : (s.endSession id reason).Canon := by
  unfold State.endSession; split
  · exact h
  · have hs : State.Canon { s with quill := { s.quill with sessions := s.quill.sessions.filter (·.id != id) } } := h
    exact ((hs.fput _ _).log _ _ _).ite (hs.fput _ _)

theorem Canon.endSessions {s : State} (reason : Nat) (h : s.Canon) : (s.endSessions reason).Canon :=
  Canon.foldl (fun _ _ hs => hs.endSession _ _) _ h

theorem Canon.pushReply {s : State} (c : Cmd) (op st : Nat) (ps : List Byte) (lane : Bool) (h : s.Canon) :
    (s.pushReply c op st ps lane).Canon := by
  unfold State.pushReply; split
  · split <;> exact h
  · exact Canon.ite (Canon.same (h.endSession _ 2) rfl rfl) h

theorem Canon.replyLane {s : State} (c : Cmd) (op st : Nat) (ps : List Byte) (h : s.Canon) : (s.replyLane c op st ps).Canon :=
  ((h.log _ _ _).pushReply _ _ _ _ _).same rfl rfl

theorem Canon.fenceReply {s : State} (f : Fence) (st : Nat) (h : s.Canon) : (s.fenceReply f st).Canon :=
  Canon.replyLane _ _ _ _ (h.same rfl rfl)

theorem Canon.settleQueueFences {s : State} (h : s.Canon) : s.settleQueueFences.Canon :=
  Canon.foldl (fun _ _ hs => (hs.fenceReply _ _).ite hs) _ h

theorem Canon.reply {s : State} (c : Cmd) (op st : Nat) (ps : List Byte) (h : s.Canon) : (s.reply c op st ps).Canon :=
  (h.replyLane _ _ _ _).settleQueueFences

theorem Canon.replyOk {s : State} (c : Cmd) (op : Nat) (h : s.Canon) : (s.replyOk c op).Canon := h.reply _ _ _ _
theorem Canon.replyErr {s : State} (c : Cmd) (op st i : Nat) (h : s.Canon) : (s.replyErr c op st i).Canon := h.reply _ _ _ _

theorem Canon.plainReply {s : State} (c : Cmd) (op : Nat) (mp : Bool) (h : s.Canon) : (s.plainReply c op mp).Canon := by
  unfold State.plainReply; dsimp only; repeat' split
  all_goals exact h

theorem Canon.authFailLane {s : State} (c : Cmd) (op : Nat) (h : s.Canon) : (s.authFailLane c op).Canon :=
  (h.fsat _).plainReply _ _ _

theorem Canon.acceptCmd {s : State} (c : Cmd) (op : Nat) (h : s.Canon) : (s.acceptCmd c op).Canon := by
  have h1 := (h.finc F.QUILL_ACCEPT_COUNT).log 0x0001 codeVote (cmdDetail (s.finc F.QUILL_ACCEPT_COUNT) c op stOk)
  unfold State.acceptCmd
  exact h1.same rfl rfl

theorem Canon.refuseCmd {s : State} (c : Cmd) (op st i : Nat) (h : s.Canon) : (s.refuseCmd c op st i).Canon := by
  have hq : ∀ (u : State) (q : QuillState), Canon u → Canon { u with quill := q } := fun _ _ hu => hu
  have hr : ∀ u : State, Canon u → Canon (u.replyErr c op st i) := fun _ hu => hu.replyErr _ _ _ _
  have he : ∀ u : State, Canon u → Canon (u.endSession c.session 0) := fun _ hu => hu.endSession _ _
  have hl : ∀ (u : State) (d : List Byte), Canon u → Canon (u.log 0x0001 codeVote d) := fun _ _ hu => hu.log _ _ _
  have h1 : Canon (s.fsat F.QUILL_REFUSE_COUNT) := h.fsat _
  have h2 := h1.fput F.FOLIO_STAT_LAST_RESULT 3
  unfold State.refuseCmd
  generalize s.fsat F.QUILL_REFUSE_COUNT = u at *
  dsimp only
  generalize hv : (if (op == opFolioSwitch && st == stCheckFail) = true then u.fput F.FOLIO_STAT_LAST_RESULT 3 else u) = v
  have h3 : Canon v := by rw [← hv]; split <;> assumption
  split
  · exact he _ (hr _ (hq _ _ (hl _ _ h3)))
  · exact hr _ (hq _ _ (hl _ _ h3))

/-- A LANE-class command keeps the form when its effect does. -/
theorem Canon.runLane {s : State} (c : Cmd) (t op lvl : Nat) (ok : Bool) (own : State → Verdict) (k : State → Nat → State)
    (hk : ∀ u n, Canon u → Canon (k u n)) (h : s.Canon) : (s.runLane c t op lvl ok own k).Canon := by
  unfold State.runLane
  have ht := h.tick t
  dsimp only
  repeat' split
  · exact ht
  · exact hk _ _ (ht.same rfl rfl)
  · exact ht
  · exact ht.same rfl rfl
  · exact ht.authFailLane _ _
  · exact hk _ _ ((ht.touch _).acceptCmd _ _)
  · exact (ht.touch _).refuseCmd _ _ _ _

end State

end Sys2Proof.Machine
end

