-- ==== Sys2Proof/Laws/State.lean ====
section
/-! SUPPORT. What each update of the state leaves unchanged, field by field; and what reading a lane after an update
gives. -/

namespace Sys2Proof.Machine

namespace State

/-! ### `setReg` -/

@[simp] theorem setReg_pending (s : State) (a : Nat) (w : Word) : (s.setReg a w).pending = s.pending := rfl
@[simp] theorem setReg_fresh (s : State) (a : Nat) (w : Word) : (s.setReg a w).fresh = s.fresh := rfl
@[simp] theorem setReg_now (s : State) (a : Nat) (w : Word) : (s.setReg a w).now = s.now := rfl
@[simp] theorem setReg_mono (s : State) (a : Nat) (w : Word) : (s.setReg a w).mono = s.mono := rfl
@[simp] theorem setReg_fabric (s : State) (a : Nat) (w : Word) : (s.setReg a w).fabric = s.fabric := rfl
@[simp] theorem setReg_latches (s : State) (a : Nat) (w : Word) : (s.setReg a w).latches = s.latches := rfl
@[simp] theorem setReg_readOut (s : State) (a : Nat) (w : Word) : (s.setReg a w).readOut = s.readOut := rfl
@[simp] theorem setReg_laneA (s : State) (a : Nat) (w : Word) : (s.setReg a w).laneA = s.laneA := rfl
@[simp] theorem setReg_laneB (s : State) (a : Nat) (w : Word) : (s.setReg a w).laneB = s.laneB := rfl
@[simp] theorem setReg_laneC (s : State) (a : Nat) (w : Word) : (s.setReg a w).laneC = s.laneC := rfl
@[simp] theorem setReg_vote (s : State) (a : Nat) (w : Word) : (s.setReg a w).vote = s.vote := rfl
@[simp] theorem setReg_ductus (s : State) (a : Nat) (w : Word) : (s.setReg a w).ductus = s.ductus := rfl
@[simp] theorem setReg_folio (s : State) (a : Nat) (w : Word) : (s.setReg a w).folio = s.folio := rfl
@[simp] theorem setReg_fio (s : State) (a : Nat) (w : Word) : (s.setReg a w).fio = s.fio := rfl
@[simp] theorem setReg_ssm (s : State) (a : Nat) (w : Word) : (s.setReg a w).ssm = s.ssm := rfl
@[simp] theorem setReg_net (s : State) (a : Nat) (w : Word) : (s.setReg a w).net = s.net := rfl
@[simp] theorem setReg_tge (s : State) (a : Nat) (w : Word) : (s.setReg a w).tge = s.tge := rfl
@[simp] theorem setReg_time (s : State) (a : Nat) (w : Word) : (s.setReg a w).time = s.time := rfl
@[simp] theorem setReg_brg (s : State) (a : Nat) (w : Word) : (s.setReg a w).brg = s.brg := rfl
@[simp] theorem setReg_que (s : State) (a : Nat) (w : Word) : (s.setReg a w).que = s.que := rfl
@[simp] theorem setReg_dup (s : State) (a : Nat) (w : Word) : (s.setReg a w).dup = s.dup := rfl
@[simp] theorem setReg_vellum (s : State) (a : Nat) (w : Word) : (s.setReg a w).vellum = s.vellum := rfl
@[simp] theorem setReg_rub (s : State) (a : Nat) (w : Word) : (s.setReg a w).rub = s.rub := rfl
@[simp] theorem setReg_power (s : State) (a : Nat) (w : Word) : (s.setReg a w).power = s.power := rfl
@[simp] theorem setReg_quill (s : State) (a : Nat) (w : Word) : (s.setReg a w).quill = s.quill := rfl

/-! ### `fput` -/

@[simp] theorem fput_fresh (s : State) (f : Field) (v : Nat) : (s.fput f v).fresh = s.fresh := rfl
@[simp] theorem fput_now (s : State) (f : Field) (v : Nat) : (s.fput f v).now = s.now := rfl
@[simp] theorem fput_mono (s : State) (f : Field) (v : Nat) : (s.fput f v).mono = s.mono := rfl
@[simp] theorem fput_fabric (s : State) (f : Field) (v : Nat) : (s.fput f v).fabric = s.fabric := rfl
@[simp] theorem fput_latches (s : State) (f : Field) (v : Nat) : (s.fput f v).latches = s.latches := rfl
@[simp] theorem fput_readOut (s : State) (f : Field) (v : Nat) : (s.fput f v).readOut = s.readOut := rfl
@[simp] theorem fput_laneA (s : State) (f : Field) (v : Nat) : (s.fput f v).laneA = s.laneA := rfl
@[simp] theorem fput_laneB (s : State) (f : Field) (v : Nat) : (s.fput f v).laneB = s.laneB := rfl
@[simp] theorem fput_laneC (s : State) (f : Field) (v : Nat) : (s.fput f v).laneC = s.laneC := rfl
@[simp] theorem fput_vote (s : State) (f : Field) (v : Nat) : (s.fput f v).vote = s.vote := rfl
@[simp] theorem fput_ductus (s : State) (f : Field) (v : Nat) : (s.fput f v).ductus = s.ductus := rfl
@[simp] theorem fput_folio (s : State) (f : Field) (v : Nat) : (s.fput f v).folio = s.folio := rfl
@[simp] theorem fput_fio (s : State) (f : Field) (v : Nat) : (s.fput f v).fio = s.fio := rfl
@[simp] theorem fput_ssm (s : State) (f : Field) (v : Nat) : (s.fput f v).ssm = s.ssm := rfl
@[simp] theorem fput_net (s : State) (f : Field) (v : Nat) : (s.fput f v).net = s.net := rfl
@[simp] theorem fput_tge (s : State) (f : Field) (v : Nat) : (s.fput f v).tge = s.tge := rfl
@[simp] theorem fput_time (s : State) (f : Field) (v : Nat) : (s.fput f v).time = s.time := rfl
@[simp] theorem fput_brg (s : State) (f : Field) (v : Nat) : (s.fput f v).brg = s.brg := rfl
@[simp] theorem fput_que (s : State) (f : Field) (v : Nat) : (s.fput f v).que = s.que := rfl
@[simp] theorem fput_dup (s : State) (f : Field) (v : Nat) : (s.fput f v).dup = s.dup := rfl
@[simp] theorem fput_vellum (s : State) (f : Field) (v : Nat) : (s.fput f v).vellum = s.vellum := rfl
@[simp] theorem fput_rub (s : State) (f : Field) (v : Nat) : (s.fput f v).rub = s.rub := rfl
@[simp] theorem fput_power (s : State) (f : Field) (v : Nat) : (s.fput f v).power = s.power := rfl
@[simp] theorem fput_quill (s : State) (f : Field) (v : Nat) : (s.fput f v).quill = s.quill := rfl

/-! ### `fsat` -/

@[simp] theorem fsat_pending (s : State) (f : Field) : (s.fsat f).pending = s.pending := rfl
@[simp] theorem fsat_fresh (s : State) (f : Field) : (s.fsat f).fresh = s.fresh := rfl
@[simp] theorem fsat_now (s : State) (f : Field) : (s.fsat f).now = s.now := rfl
@[simp] theorem fsat_mono (s : State) (f : Field) : (s.fsat f).mono = s.mono := rfl
@[simp] theorem fsat_mem (s : State) (f : Field) : (s.fsat f).mem = s.mem := rfl
@[simp] theorem fsat_fabric (s : State) (f : Field) : (s.fsat f).fabric = s.fabric := rfl
@[simp] theorem fsat_latches (s : State) (f : Field) : (s.fsat f).latches = s.latches := rfl
@[simp] theorem fsat_readOut (s : State) (f : Field) : (s.fsat f).readOut = s.readOut := rfl
@[simp] theorem fsat_laneA (s : State) (f : Field) : (s.fsat f).laneA = s.laneA := rfl
@[simp] theorem fsat_laneB (s : State) (f : Field) : (s.fsat f).laneB = s.laneB := rfl
@[simp] theorem fsat_laneC (s : State) (f : Field) : (s.fsat f).laneC = s.laneC := rfl
@[simp] theorem fsat_vote (s : State) (f : Field) : (s.fsat f).vote = s.vote := rfl
@[simp] theorem fsat_ductus (s : State) (f : Field) : (s.fsat f).ductus = s.ductus := rfl
@[simp] theorem fsat_folio (s : State) (f : Field) : (s.fsat f).folio = s.folio := rfl
@[simp] theorem fsat_fio (s : State) (f : Field) : (s.fsat f).fio = s.fio := rfl
@[simp] theorem fsat_ssm (s : State) (f : Field) : (s.fsat f).ssm = s.ssm := rfl
@[simp] theorem fsat_net (s : State) (f : Field) : (s.fsat f).net = s.net := rfl
@[simp] theorem fsat_tge (s : State) (f : Field) : (s.fsat f).tge = s.tge := rfl
@[simp] theorem fsat_time (s : State) (f : Field) : (s.fsat f).time = s.time := rfl
@[simp] theorem fsat_brg (s : State) (f : Field) : (s.fsat f).brg = s.brg := rfl
@[simp] theorem fsat_que (s : State) (f : Field) : (s.fsat f).que = s.que := rfl
@[simp] theorem fsat_dup (s : State) (f : Field) : (s.fsat f).dup = s.dup := rfl
@[simp] theorem fsat_vellum (s : State) (f : Field) : (s.fsat f).vellum = s.vellum := rfl
@[simp] theorem fsat_rub (s : State) (f : Field) : (s.fsat f).rub = s.rub := rfl
@[simp] theorem fsat_power (s : State) (f : Field) : (s.fsat f).power = s.power := rfl
@[simp] theorem fsat_quill (s : State) (f : Field) : (s.fsat f).quill = s.quill := rfl

/-! ### `finc` -/

@[simp] theorem finc_pending (s : State) (f : Field) : (s.finc f).pending = s.pending := rfl
@[simp] theorem finc_fresh (s : State) (f : Field) : (s.finc f).fresh = s.fresh := rfl
@[simp] theorem finc_now (s : State) (f : Field) : (s.finc f).now = s.now := rfl
@[simp] theorem finc_mono (s : State) (f : Field) : (s.finc f).mono = s.mono := rfl
@[simp] theorem finc_mem (s : State) (f : Field) : (s.finc f).mem = s.mem := rfl
@[simp] theorem finc_fabric (s : State) (f : Field) : (s.finc f).fabric = s.fabric := rfl
@[simp] theorem finc_latches (s : State) (f : Field) : (s.finc f).latches = s.latches := rfl
@[simp] theorem finc_readOut (s : State) (f : Field) : (s.finc f).readOut = s.readOut := rfl
@[simp] theorem finc_laneA (s : State) (f : Field) : (s.finc f).laneA = s.laneA := rfl
@[simp] theorem finc_laneB (s : State) (f : Field) : (s.finc f).laneB = s.laneB := rfl
@[simp] theorem finc_laneC (s : State) (f : Field) : (s.finc f).laneC = s.laneC := rfl
@[simp] theorem finc_vote (s : State) (f : Field) : (s.finc f).vote = s.vote := rfl
@[simp] theorem finc_ductus (s : State) (f : Field) : (s.finc f).ductus = s.ductus := rfl
@[simp] theorem finc_folio (s : State) (f : Field) : (s.finc f).folio = s.folio := rfl
@[simp] theorem finc_fio (s : State) (f : Field) : (s.finc f).fio = s.fio := rfl
@[simp] theorem finc_ssm (s : State) (f : Field) : (s.finc f).ssm = s.ssm := rfl
@[simp] theorem finc_net (s : State) (f : Field) : (s.finc f).net = s.net := rfl
@[simp] theorem finc_tge (s : State) (f : Field) : (s.finc f).tge = s.tge := rfl
@[simp] theorem finc_time (s : State) (f : Field) : (s.finc f).time = s.time := rfl
@[simp] theorem finc_brg (s : State) (f : Field) : (s.finc f).brg = s.brg := rfl
@[simp] theorem finc_que (s : State) (f : Field) : (s.finc f).que = s.que := rfl
@[simp] theorem finc_dup (s : State) (f : Field) : (s.finc f).dup = s.dup := rfl
@[simp] theorem finc_vellum (s : State) (f : Field) : (s.finc f).vellum = s.vellum := rfl
@[simp] theorem finc_rub (s : State) (f : Field) : (s.finc f).rub = s.rub := rfl
@[simp] theorem finc_power (s : State) (f : Field) : (s.finc f).power = s.power := rfl
@[simp] theorem finc_quill (s : State) (f : Field) : (s.finc f).quill = s.quill := rfl

/-! ### `resetRegs` -/

@[simp] theorem resetRegs_pending (s : State) (lo hi : Nat) : (s.resetRegs lo hi).pending = s.pending := rfl
@[simp] theorem resetRegs_fresh (s : State) (lo hi : Nat) : (s.resetRegs lo hi).fresh = s.fresh := rfl
@[simp] theorem resetRegs_now (s : State) (lo hi : Nat) : (s.resetRegs lo hi).now = s.now := rfl
@[simp] theorem resetRegs_mono (s : State) (lo hi : Nat) : (s.resetRegs lo hi).mono = s.mono := rfl
@[simp] theorem resetRegs_mem (s : State) (lo hi : Nat) : (s.resetRegs lo hi).mem = s.mem := rfl
@[simp] theorem resetRegs_fabric (s : State) (lo hi : Nat) : (s.resetRegs lo hi).fabric = s.fabric := rfl
@[simp] theorem resetRegs_latches (s : State) (lo hi : Nat) : (s.resetRegs lo hi).latches = s.latches := rfl
@[simp] theorem resetRegs_readOut (s : State) (lo hi : Nat) : (s.resetRegs lo hi).readOut = s.readOut := rfl
@[simp] theorem resetRegs_laneA (s : State) (lo hi : Nat) : (s.resetRegs lo hi).laneA = s.laneA := rfl
@[simp] theorem resetRegs_laneB (s : State) (lo hi : Nat) : (s.resetRegs lo hi).laneB = s.laneB := rfl
@[simp] theorem resetRegs_laneC (s : State) (lo hi : Nat) : (s.resetRegs lo hi).laneC = s.laneC := rfl
@[simp] theorem resetRegs_vote (s : State) (lo hi : Nat) : (s.resetRegs lo hi).vote = s.vote := rfl
@[simp] theorem resetRegs_ductus (s : State) (lo hi : Nat) : (s.resetRegs lo hi).ductus = s.ductus := rfl
@[simp] theorem resetRegs_folio (s : State) (lo hi : Nat) : (s.resetRegs lo hi).folio = s.folio := rfl
@[simp] theorem resetRegs_fio (s : State) (lo hi : Nat) : (s.resetRegs lo hi).fio = s.fio := rfl
@[simp] theorem resetRegs_ssm (s : State) (lo hi : Nat) : (s.resetRegs lo hi).ssm = s.ssm := rfl
@[simp] theorem resetRegs_net (s : State) (lo hi : Nat) : (s.resetRegs lo hi).net = s.net := rfl
@[simp] theorem resetRegs_tge (s : State) (lo hi : Nat) : (s.resetRegs lo hi).tge = s.tge := rfl
@[simp] theorem resetRegs_time (s : State) (lo hi : Nat) : (s.resetRegs lo hi).time = s.time := rfl
@[simp] theorem resetRegs_brg (s : State) (lo hi : Nat) : (s.resetRegs lo hi).brg = s.brg := rfl
@[simp] theorem resetRegs_que (s : State) (lo hi : Nat) : (s.resetRegs lo hi).que = s.que := rfl
@[simp] theorem resetRegs_dup (s : State) (lo hi : Nat) : (s.resetRegs lo hi).dup = s.dup := rfl
@[simp] theorem resetRegs_vellum (s : State) (lo hi : Nat) : (s.resetRegs lo hi).vellum = s.vellum := rfl
@[simp] theorem resetRegs_rub (s : State) (lo hi : Nat) : (s.resetRegs lo hi).rub = s.rub := rfl
@[simp] theorem resetRegs_power (s : State) (lo hi : Nat) : (s.resetRegs lo hi).power = s.power := rfl
@[simp] theorem resetRegs_quill (s : State) (lo hi : Nat) : (s.resetRegs lo hi).quill = s.quill := rfl

/-! ### `mwrite` -/

@[simp] theorem mwrite_pending (s : State) (a : Nat) (bs : List Byte) : (s.mwrite a bs).pending = s.pending := rfl
@[simp] theorem mwrite_fresh (s : State) (a : Nat) (bs : List Byte) : (s.mwrite a bs).fresh = s.fresh := rfl
@[simp] theorem mwrite_now (s : State) (a : Nat) (bs : List Byte) : (s.mwrite a bs).now = s.now := rfl
@[simp] theorem mwrite_mono (s : State) (a : Nat) (bs : List Byte) : (s.mwrite a bs).mono = s.mono := rfl
@[simp] theorem mwrite_fabric (s : State) (a : Nat) (bs : List Byte) : (s.mwrite a bs).fabric = s.fabric := rfl
@[simp] theorem mwrite_latches (s : State) (a : Nat) (bs : List Byte) : (s.mwrite a bs).latches = s.latches := rfl
@[simp] theorem mwrite_readOut (s : State) (a : Nat) (bs : List Byte) : (s.mwrite a bs).readOut = s.readOut := rfl
@[simp] theorem mwrite_laneA (s : State) (a : Nat) (bs : List Byte) : (s.mwrite a bs).laneA = s.laneA := rfl
@[simp] theorem mwrite_laneB (s : State) (a : Nat) (bs : List Byte) : (s.mwrite a bs).laneB = s.laneB := rfl
@[simp] theorem mwrite_laneC (s : State) (a : Nat) (bs : List Byte) : (s.mwrite a bs).laneC = s.laneC := rfl
@[simp] theorem mwrite_vote (s : State) (a : Nat) (bs : List Byte) : (s.mwrite a bs).vote = s.vote := rfl
@[simp] theorem mwrite_ductus (s : State) (a : Nat) (bs : List Byte) : (s.mwrite a bs).ductus = s.ductus := rfl
@[simp] theorem mwrite_folio (s : State) (a : Nat) (bs : List Byte) : (s.mwrite a bs).folio = s.folio := rfl
@[simp] theorem mwrite_fio (s : State) (a : Nat) (bs : List Byte) : (s.mwrite a bs).fio = s.fio := rfl
@[simp] theorem mwrite_ssm (s : State) (a : Nat) (bs : List Byte) : (s.mwrite a bs).ssm = s.ssm := rfl
@[simp] theorem mwrite_net (s : State) (a : Nat) (bs : List Byte) : (s.mwrite a bs).net = s.net := rfl
@[simp] theorem mwrite_tge (s : State) (a : Nat) (bs : List Byte) : (s.mwrite a bs).tge = s.tge := rfl
@[simp] theorem mwrite_time (s : State) (a : Nat) (bs : List Byte) : (s.mwrite a bs).time = s.time := rfl
@[simp] theorem mwrite_que (s : State) (a : Nat) (bs : List Byte) : (s.mwrite a bs).que = s.que := rfl
@[simp] theorem mwrite_dup (s : State) (a : Nat) (bs : List Byte) : (s.mwrite a bs).dup = s.dup := rfl
@[simp] theorem mwrite_vellum (s : State) (a : Nat) (bs : List Byte) : (s.mwrite a bs).vellum = s.vellum := rfl
@[simp] theorem mwrite_rub (s : State) (a : Nat) (bs : List Byte) : (s.mwrite a bs).rub = s.rub := rfl
@[simp] theorem mwrite_power (s : State) (a : Nat) (bs : List Byte) : (s.mwrite a bs).power = s.power := rfl
@[simp] theorem mwrite_quill (s : State) (a : Nat) (bs : List Byte) : (s.mwrite a bs).quill = s.quill := rfl

/-! ### `spent` -/

@[simp] theorem spent_pending (s : State) : (s.spent).pending = s.pending := rfl
@[simp] theorem spent_now (s : State) : (s.spent).now = s.now := rfl
@[simp] theorem spent_mono (s : State) : (s.spent).mono = s.mono := rfl
@[simp] theorem spent_regs (s : State) : (s.spent).regs = s.regs := rfl
@[simp] theorem spent_mem (s : State) : (s.spent).mem = s.mem := rfl
@[simp] theorem spent_fabric (s : State) : (s.spent).fabric = s.fabric := rfl
@[simp] theorem spent_latches (s : State) : (s.spent).latches = s.latches := rfl
@[simp] theorem spent_readOut (s : State) : (s.spent).readOut = s.readOut := rfl
@[simp] theorem spent_laneA (s : State) : (s.spent).laneA = s.laneA := rfl
@[simp] theorem spent_laneB (s : State) : (s.spent).laneB = s.laneB := rfl
@[simp] theorem spent_laneC (s : State) : (s.spent).laneC = s.laneC := rfl
@[simp] theorem spent_vote (s : State) : (s.spent).vote = s.vote := rfl
@[simp] theorem spent_ductus (s : State) : (s.spent).ductus = s.ductus := rfl
@[simp] theorem spent_folio (s : State) : (s.spent).folio = s.folio := rfl
@[simp] theorem spent_fio (s : State) : (s.spent).fio = s.fio := rfl
@[simp] theorem spent_ssm (s : State) : (s.spent).ssm = s.ssm := rfl
@[simp] theorem spent_net (s : State) : (s.spent).net = s.net := rfl
@[simp] theorem spent_tge (s : State) : (s.spent).tge = s.tge := rfl
@[simp] theorem spent_time (s : State) : (s.spent).time = s.time := rfl
@[simp] theorem spent_brg (s : State) : (s.spent).brg = s.brg := rfl
@[simp] theorem spent_que (s : State) : (s.spent).que = s.que := rfl
@[simp] theorem spent_dup (s : State) : (s.spent).dup = s.dup := rfl
@[simp] theorem spent_vellum (s : State) : (s.spent).vellum = s.vellum := rfl
@[simp] theorem spent_rub (s : State) : (s.spent).rub = s.rub := rfl
@[simp] theorem spent_power (s : State) : (s.spent).power = s.power := rfl
@[simp] theorem spent_quill (s : State) : (s.spent).quill = s.quill := rfl

/-! ### `tick` -/

@[simp] theorem tick_pending (s : State) (t : Nat) : (s.tick t).pending = s.pending := by unfold State.tick; split <;> rfl
@[simp] theorem tick_fresh (s : State) (t : Nat) : (s.tick t).fresh = s.fresh := by unfold State.tick; split <;> rfl
@[simp] theorem tick_regs (s : State) (t : Nat) : (s.tick t).regs = s.regs := by unfold State.tick; split <;> rfl
@[simp] theorem tick_mem (s : State) (t : Nat) : (s.tick t).mem = s.mem := by unfold State.tick; split <;> rfl
@[simp] theorem tick_fabric (s : State) (t : Nat) : (s.tick t).fabric = s.fabric := by unfold State.tick; split <;> rfl
@[simp] theorem tick_latches (s : State) (t : Nat) : (s.tick t).latches = s.latches := by unfold State.tick; split <;> rfl
@[simp] theorem tick_readOut (s : State) (t : Nat) : (s.tick t).readOut = s.readOut := by unfold State.tick; split <;> rfl
@[simp] theorem tick_laneA (s : State) (t : Nat) : (s.tick t).laneA = s.laneA := by unfold State.tick; split <;> rfl
@[simp] theorem tick_laneB (s : State) (t : Nat) : (s.tick t).laneB = s.laneB := by unfold State.tick; split <;> rfl
@[simp] theorem tick_laneC (s : State) (t : Nat) : (s.tick t).laneC = s.laneC := by unfold State.tick; split <;> rfl
@[simp] theorem tick_vote (s : State) (t : Nat) : (s.tick t).vote = s.vote := by unfold State.tick; split <;> rfl
@[simp] theorem tick_ductus (s : State) (t : Nat) : (s.tick t).ductus = s.ductus := by unfold State.tick; split <;> rfl
@[simp] theorem tick_folio (s : State) (t : Nat) : (s.tick t).folio = s.folio := by unfold State.tick; split <;> rfl
@[simp] theorem tick_fio (s : State) (t : Nat) : (s.tick t).fio = s.fio := by unfold State.tick; split <;> rfl
@[simp] theorem tick_ssm (s : State) (t : Nat) : (s.tick t).ssm = s.ssm := by unfold State.tick; split <;> rfl
@[simp] theorem tick_net (s : State) (t : Nat) : (s.tick t).net = s.net := by unfold State.tick; split <;> rfl
@[simp] theorem tick_tge (s : State) (t : Nat) : (s.tick t).tge = s.tge := by unfold State.tick; split <;> rfl
@[simp] theorem tick_time (s : State) (t : Nat) : (s.tick t).time = s.time := by unfold State.tick; split <;> rfl
@[simp] theorem tick_brg (s : State) (t : Nat) : (s.tick t).brg = s.brg := by unfold State.tick; split <;> rfl
@[simp] theorem tick_que (s : State) (t : Nat) : (s.tick t).que = s.que := by unfold State.tick; split <;> rfl
@[simp] theorem tick_dup (s : State) (t : Nat) : (s.tick t).dup = s.dup := by unfold State.tick; split <;> rfl
@[simp] theorem tick_vellum (s : State) (t : Nat) : (s.tick t).vellum = s.vellum := by unfold State.tick; split <;> rfl
@[simp] theorem tick_rub (s : State) (t : Nat) : (s.tick t).rub = s.rub := by unfold State.tick; split <;> rfl
@[simp] theorem tick_power (s : State) (t : Nat) : (s.tick t).power = s.power := by unfold State.tick; split <;> rfl
@[simp] theorem tick_quill (s : State) (t : Nat) : (s.tick t).quill = s.quill := by unfold State.tick; split <;> rfl

/-! ### `setLane` -/

@[simp] theorem setLane_pending (s : State) (l : Lane) (x : LaneState) : (s.setLane l x).pending = s.pending := by cases l <;> rfl
@[simp] theorem setLane_fresh (s : State) (l : Lane) (x : LaneState) : (s.setLane l x).fresh = s.fresh := by cases l <;> rfl
@[simp] theorem setLane_now (s : State) (l : Lane) (x : LaneState) : (s.setLane l x).now = s.now := by cases l <;> rfl
@[simp] theorem setLane_mono (s : State) (l : Lane) (x : LaneState) : (s.setLane l x).mono = s.mono := by cases l <;> rfl
@[simp] theorem setLane_regs (s : State) (l : Lane) (x : LaneState) : (s.setLane l x).regs = s.regs := by cases l <;> rfl
@[simp] theorem setLane_mem (s : State) (l : Lane) (x : LaneState) : (s.setLane l x).mem = s.mem := by cases l <;> rfl
@[simp] theorem setLane_fabric (s : State) (l : Lane) (x : LaneState) : (s.setLane l x).fabric = s.fabric := by cases l <;> rfl
@[simp] theorem setLane_latches (s : State) (l : Lane) (x : LaneState) : (s.setLane l x).latches = s.latches := by cases l <;> rfl
@[simp] theorem setLane_readOut (s : State) (l : Lane) (x : LaneState) : (s.setLane l x).readOut = s.readOut := by cases l <;> rfl
@[simp] theorem setLane_vote (s : State) (l : Lane) (x : LaneState) : (s.setLane l x).vote = s.vote := by cases l <;> rfl
@[simp] theorem setLane_ductus (s : State) (l : Lane) (x : LaneState) : (s.setLane l x).ductus = s.ductus := by cases l <;> rfl
@[simp] theorem setLane_folio (s : State) (l : Lane) (x : LaneState) : (s.setLane l x).folio = s.folio := by cases l <;> rfl
@[simp] theorem setLane_fio (s : State) (l : Lane) (x : LaneState) : (s.setLane l x).fio = s.fio := by cases l <;> rfl
@[simp] theorem setLane_ssm (s : State) (l : Lane) (x : LaneState) : (s.setLane l x).ssm = s.ssm := by cases l <;> rfl
@[simp] theorem setLane_net (s : State) (l : Lane) (x : LaneState) : (s.setLane l x).net = s.net := by cases l <;> rfl
@[simp] theorem setLane_tge (s : State) (l : Lane) (x : LaneState) : (s.setLane l x).tge = s.tge := by cases l <;> rfl
@[simp] theorem setLane_time (s : State) (l : Lane) (x : LaneState) : (s.setLane l x).time = s.time := by cases l <;> rfl
@[simp] theorem setLane_brg (s : State) (l : Lane) (x : LaneState) : (s.setLane l x).brg = s.brg := by cases l <;> rfl
@[simp] theorem setLane_que (s : State) (l : Lane) (x : LaneState) : (s.setLane l x).que = s.que := by cases l <;> rfl
@[simp] theorem setLane_dup (s : State) (l : Lane) (x : LaneState) : (s.setLane l x).dup = s.dup := by cases l <;> rfl
@[simp] theorem setLane_vellum (s : State) (l : Lane) (x : LaneState) : (s.setLane l x).vellum = s.vellum := by cases l <;> rfl
@[simp] theorem setLane_rub (s : State) (l : Lane) (x : LaneState) : (s.setLane l x).rub = s.rub := by cases l <;> rfl
@[simp] theorem setLane_power (s : State) (l : Lane) (x : LaneState) : (s.setLane l x).power = s.power := by cases l <;> rfl
@[simp] theorem setLane_quill (s : State) (l : Lane) (x : LaneState) : (s.setLane l x).quill = s.quill := by cases l <;> rfl

/-! ### `setPair` -/

@[simp] theorem setPair_pending (s : State) (l : Lane) (e : Ep) (p : Pair) : (s.setPair l e p).pending = s.pending := by cases l <;> rfl
@[simp] theorem setPair_fresh (s : State) (l : Lane) (e : Ep) (p : Pair) : (s.setPair l e p).fresh = s.fresh := by cases l <;> rfl
@[simp] theorem setPair_now (s : State) (l : Lane) (e : Ep) (p : Pair) : (s.setPair l e p).now = s.now := by cases l <;> rfl
@[simp] theorem setPair_mono (s : State) (l : Lane) (e : Ep) (p : Pair) : (s.setPair l e p).mono = s.mono := by cases l <;> rfl
@[simp] theorem setPair_regs (s : State) (l : Lane) (e : Ep) (p : Pair) : (s.setPair l e p).regs = s.regs := by cases l <;> rfl
@[simp] theorem setPair_mem (s : State) (l : Lane) (e : Ep) (p : Pair) : (s.setPair l e p).mem = s.mem := by cases l <;> rfl
@[simp] theorem setPair_fabric (s : State) (l : Lane) (e : Ep) (p : Pair) : (s.setPair l e p).fabric = s.fabric := by cases l <;> rfl
@[simp] theorem setPair_latches (s : State) (l : Lane) (e : Ep) (p : Pair) : (s.setPair l e p).latches = s.latches := by cases l <;> rfl
@[simp] theorem setPair_readOut (s : State) (l : Lane) (e : Ep) (p : Pair) : (s.setPair l e p).readOut = s.readOut := by cases l <;> rfl
@[simp] theorem setPair_vote (s : State) (l : Lane) (e : Ep) (p : Pair) : (s.setPair l e p).vote = s.vote := by cases l <;> rfl
@[simp] theorem setPair_ductus (s : State) (l : Lane) (e : Ep) (p : Pair) : (s.setPair l e p).ductus = s.ductus := by cases l <;> rfl
@[simp] theorem setPair_folio (s : State) (l : Lane) (e : Ep) (p : Pair) : (s.setPair l e p).folio = s.folio := by cases l <;> rfl
@[simp] theorem setPair_fio (s : State) (l : Lane) (e : Ep) (p : Pair) : (s.setPair l e p).fio = s.fio := by cases l <;> rfl
@[simp] theorem setPair_ssm (s : State) (l : Lane) (e : Ep) (p : Pair) : (s.setPair l e p).ssm = s.ssm := by cases l <;> rfl
@[simp] theorem setPair_net (s : State) (l : Lane) (e : Ep) (p : Pair) : (s.setPair l e p).net = s.net := by cases l <;> rfl
@[simp] theorem setPair_tge (s : State) (l : Lane) (e : Ep) (p : Pair) : (s.setPair l e p).tge = s.tge := by cases l <;> rfl
@[simp] theorem setPair_time (s : State) (l : Lane) (e : Ep) (p : Pair) : (s.setPair l e p).time = s.time := by cases l <;> rfl
@[simp] theorem setPair_brg (s : State) (l : Lane) (e : Ep) (p : Pair) : (s.setPair l e p).brg = s.brg := by cases l <;> rfl
@[simp] theorem setPair_que (s : State) (l : Lane) (e : Ep) (p : Pair) : (s.setPair l e p).que = s.que := by cases l <;> rfl
@[simp] theorem setPair_dup (s : State) (l : Lane) (e : Ep) (p : Pair) : (s.setPair l e p).dup = s.dup := by cases l <;> rfl
@[simp] theorem setPair_vellum (s : State) (l : Lane) (e : Ep) (p : Pair) : (s.setPair l e p).vellum = s.vellum := by cases l <;> rfl
@[simp] theorem setPair_rub (s : State) (l : Lane) (e : Ep) (p : Pair) : (s.setPair l e p).rub = s.rub := by cases l <;> rfl
@[simp] theorem setPair_power (s : State) (l : Lane) (e : Ep) (p : Pair) : (s.setPair l e p).power = s.power := by cases l <;> rfl
@[simp] theorem setPair_quill (s : State) (l : Lane) (e : Ep) (p : Pair) : (s.setPair l e p).quill = s.quill := by cases l <;> rfl

/-! ### `setBook` -/

@[simp] theorem setBook_pending (s : State) (b : TaskBook) : (s.setBook b).pending = s.pending := rfl
@[simp] theorem setBook_fresh (s : State) (b : TaskBook) : (s.setBook b).fresh = s.fresh := rfl
@[simp] theorem setBook_now (s : State) (b : TaskBook) : (s.setBook b).now = s.now := rfl
@[simp] theorem setBook_mono (s : State) (b : TaskBook) : (s.setBook b).mono = s.mono := rfl
@[simp] theorem setBook_regs (s : State) (b : TaskBook) : (s.setBook b).regs = s.regs := rfl
@[simp] theorem setBook_mem (s : State) (b : TaskBook) : (s.setBook b).mem = s.mem := rfl
@[simp] theorem setBook_fabric (s : State) (b : TaskBook) : (s.setBook b).fabric = s.fabric := rfl
@[simp] theorem setBook_latches (s : State) (b : TaskBook) : (s.setBook b).latches = s.latches := rfl
@[simp] theorem setBook_readOut (s : State) (b : TaskBook) : (s.setBook b).readOut = s.readOut := rfl
@[simp] theorem setBook_laneA (s : State) (b : TaskBook) : (s.setBook b).laneA = s.laneA := rfl
@[simp] theorem setBook_laneB (s : State) (b : TaskBook) : (s.setBook b).laneB = s.laneB := rfl
@[simp] theorem setBook_laneC (s : State) (b : TaskBook) : (s.setBook b).laneC = s.laneC := rfl
@[simp] theorem setBook_vote (s : State) (b : TaskBook) : (s.setBook b).vote = s.vote := rfl
@[simp] theorem setBook_folio (s : State) (b : TaskBook) : (s.setBook b).folio = s.folio := rfl
@[simp] theorem setBook_fio (s : State) (b : TaskBook) : (s.setBook b).fio = s.fio := rfl
@[simp] theorem setBook_ssm (s : State) (b : TaskBook) : (s.setBook b).ssm = s.ssm := rfl
@[simp] theorem setBook_net (s : State) (b : TaskBook) : (s.setBook b).net = s.net := rfl
@[simp] theorem setBook_tge (s : State) (b : TaskBook) : (s.setBook b).tge = s.tge := rfl
@[simp] theorem setBook_time (s : State) (b : TaskBook) : (s.setBook b).time = s.time := rfl
@[simp] theorem setBook_brg (s : State) (b : TaskBook) : (s.setBook b).brg = s.brg := rfl
@[simp] theorem setBook_que (s : State) (b : TaskBook) : (s.setBook b).que = s.que := rfl
@[simp] theorem setBook_dup (s : State) (b : TaskBook) : (s.setBook b).dup = s.dup := rfl
@[simp] theorem setBook_vellum (s : State) (b : TaskBook) : (s.setBook b).vellum = s.vellum := rfl
@[simp] theorem setBook_rub (s : State) (b : TaskBook) : (s.setBook b).rub = s.rub := rfl
@[simp] theorem setBook_power (s : State) (b : TaskBook) : (s.setBook b).power = s.power := rfl
@[simp] theorem setBook_quill (s : State) (b : TaskBook) : (s.setBook b).quill = s.quill := rfl

/-! ### Lanes -/

@[simp] theorem lane_setLane_same (s : State) (l : Lane) (x : LaneState) : (s.setLane l x).lane l = x := by
  cases l <;> rfl

theorem lane_setLane_other (s : State) {l k : Lane} (x : LaneState) (h : k ≠ l) : (s.setLane l x).lane k = s.lane k := by
  cases l <;> cases k <;> first | rfl | exact absurd rfl h

@[simp] theorem lane_setReg (s : State) (a : Nat) (w : Word) (l : Lane) : (s.setReg a w).lane l = s.lane l := by
  cases l <;> rfl
@[simp] theorem lane_fput (s : State) (f : Field) (v : Nat) (l : Lane) : (s.fput f v).lane l = s.lane l := by
  cases l <;> rfl
@[simp] theorem lane_fsat (s : State) (f : Field) (l : Lane) : (s.fsat f).lane l = s.lane l := by cases l <;> rfl
@[simp] theorem lane_finc (s : State) (f : Field) (l : Lane) : (s.finc f).lane l = s.lane l := by cases l <;> rfl
@[simp] theorem lane_mwrite (s : State) (a : Nat) (bs : List Byte) (l : Lane) : (s.mwrite a bs).lane l = s.lane l := by
  cases l <;> rfl
@[simp] theorem lane_tick (s : State) (t : Nat) (l : Lane) : (s.tick t).lane l = s.lane l := by
  cases l <;> simp [State.lane]
@[simp] theorem lane_spent (s : State) (l : Lane) : s.spent.lane l = s.lane l := by cases l <;> rfl
@[simp] theorem reg_setLane (s : State) (l : Lane) (x : LaneState) (a : Nat) : (s.setLane l x).reg a = s.reg a := by
  simp [State.reg]
@[simp] theorem reg_tick (s : State) (t a : Nat) : (s.tick t).reg a = s.reg a := by simp [State.reg]
@[simp] theorem fget_setLane (s : State) (l : Lane) (x : LaneState) (f : Field) : (s.setLane l x).fget f = s.fget f := by
  simp [State.fget]
@[simp] theorem fget_tick (s : State) (t : Nat) (f : Field) : (s.tick t).fget f = s.fget f := by simp [State.fget]
@[simp] theorem mread_setReg (s : State) (a : Nat) (w : Word) (c : Nat) : (s.setReg a w).mread c = s.mread c := rfl
@[simp] theorem mread_setLane (s : State) (l : Lane) (x : LaneState) (c : Nat) :
    (s.setLane l x).mread c = s.mread c := by simp [State.mread]
@[simp] theorem mread_tick (s : State) (t c : Nat) : (s.tick t).mread c = s.mread c := by simp [State.mread]

@[simp] theorem pair_setPair_same (x : LaneState) (e : Ep) (p : Pair) : (x.setPair e p).pair e = p := by cases e <;> rfl

/-- The two clocks after a command of an instant that is not past. -/
theorem tick_now (s : State) (t : Nat) : (s.tick t).now = max s.now t := by
  unfold State.tick
  split
  · exact (Nat.max_eq_right ‹_›).symm
  · exact (Nat.max_eq_left (by omega)).symm

theorem tick_mono (s : State) (t : Nat) (h : s.now ≤ t) :
    (s.tick t).mono = s.mono + (s.localSpan t - s.localSpan s.now) := by
  unfold State.tick
  rw [if_pos h]

/-- Without a rate correction both clocks advance alike. -/
theorem localSpan_nominal (s : State) (t : Nat) (h : s.inc = nominalInc) : s.localSpan t = t - s.time.rateFrom := by
  unfold State.localSpan
  rw [h]
  exact Nat.mul_div_cancel _ (by decide)

theorem tick_mono_nominal (s : State) (t : Nat) (h : s.inc = nominalInc) (hb : s.time.rateFrom ≤ s.now) :
    (s.tick t).mono = s.mono + (t - s.now) := by
  by_cases ht : s.now ≤ t
  · rw [tick_mono s t ht, localSpan_nominal s t h, localSpan_nominal s s.now h]; omega
  · unfold State.tick
    rw [if_neg ht]
    have : t - s.now = 0 := by omega
    rw [this]; rfl

end State

end Sys2Proof.Machine
end

