-- ==== Sys2Proof/Laws/Shared.lean ====
section
/-! SUPPORT. What the operations that many commands share can do: sending units, serving them, and bringing the time up
to a command's instant. -/

namespace Sys2Proof.Machine

/-- Sending units changes the fabric alone. -/
theorem sendUnits_frame (s : State) (d : List Block) (src kind mask own : Nat) (ps : List (List Byte)) :
    s.sendUnits d src kind mask own ps = { s with fabric := (s.sendUnits d src kind mask own ps).fabric } := rfl

@[simp] theorem sendUnits_gen (s : State) (d : List Block) (src kind mask own : Nat) (ps : List (List Byte)) :
    (s.sendUnits d src kind mask own ps).fabric.gen = s.fabric.gen := rfl

@[simp] theorem sendUnits_streams (s : State) (d : List Block) (src kind mask own : Nat) (ps : List (List Byte)) :
    (s.sendUnits d src kind mask own ps).fabric.streams = s.fabric.streams := rfl

@[simp] theorem sendUnits_counts (s : State) (d : List Block) (src kind mask own : Nat) (ps : List (List Byte)) :
    (s.sendUnits d src kind mask own ps).fabric.counts = s.fabric.counts := rfl

@[simp] theorem sendUnits_delivered (s : State) (d : List Block) (src kind mask own : Nat) (ps : List (List Byte)) :
    (s.sendUnits d src kind mask own ps).fabric.delivered = s.fabric.delivered := rfl

@[simp] theorem sendUnits_regs (s : State) (d : List Block) (src kind mask own : Nat) (ps : List (List Byte)) :
    (s.sendUnits d src kind mask own ps).regs = s.regs := rfl

@[simp] theorem sendUnits_mem (s : State) (d : List Block) (src kind mask own : Nat) (ps : List (List Byte)) :
    (s.sendUnits d src kind mask own ps).mem = s.mem := rfl

@[simp] theorem sendUnits_vote (s : State) (d : List Block) (src kind mask own : Nat) (ps : List (List Byte)) :
    (s.sendUnits d src kind mask own ps).vote = s.vote := rfl

@[simp] theorem sendUnits_lane (s : State) (d : List Block) (src kind mask own : Nat) (ps : List (List Byte)) (l : Lane) :
    (s.sendUnits d src kind mask own ps).lane l = s.lane l := by cases l <;> rfl

/-- An arbiter keeps every unit (R14). -/
theorem arbiterPut_perm (u : FabricUnit) (us : List FabricUnit) : (arbiterPut u us).Perm (u :: us) := by
  induction us with
  | nil => exact .refl _
  | cons x us ih =>
    unfold arbiterPut
    split
    · exact (ih.cons x).trans (.swap u x us)
    · exact .refl _

/-- Units of one stream are served in the order in which they were put (R14): the newest stays behind. -/
theorem arbiterPut_same (u x : FabricUnit) (us : List FabricUnit) (h : sameStream x u = true) :
    arbiterPut u (x :: us) = u :: x :: us := by simp [arbiterPut, h]

/-- No unit is lost or made by the arbiters (R14). -/
theorem arbitrate_length (waiting us : List FabricUnit) : (arbitrate waiting us).length = waiting.length + us.length := by
  have h : ∀ (vs w : List FabricUnit), (vs.foldl (fun w u => arbiterPut u w) w).length = w.length + vs.length := by
    intro vs
    induction vs with
    | nil => simp
    | cons v vs ih =>
      intro w
      simp only [List.foldl_cons, ih, (arbiterPut_perm v w).length_eq, List.length_cons]
      omega
  simp [arbitrate, h]

/-- Outside the states in which every grid instant is an output commit, only the clocks advance. -/
theorem upTo_eq_tick (s : State) (t : Nat) (h : s.gridCommits = false) : s.upTo t = s.tick t := by
  simp [State.upTo, h]

/-- With no network set and no table change that waits up to the instant, only the clocks advance. -/
theorem upTo_of_nothing_due (s : State) (t : Nat) (h : s.idleInstants t = []) : s.upTo t = s.tick t := by
  simp [State.upTo, h]

/-- An instant of the past changes nothing. -/
theorem upTo_past (s : State) (t : Nat) (h : t < s.now) : s.upTo t = s := by
  have h' : ¬ s.now ≤ t := by omega
  simp [State.upTo, State.tick, h']

end Sys2Proof.Machine
end

