-- ==== Sys2Proof/Tests/Slice0.lean ====
section
/-! SUPPORT. Tests: ill-formed commands are refused, small steps, and for each statement with hypotheses states and
operands that meet them. -/

set_option maxRecDepth 100000

namespace Sys2Proof.Tests

open Sys2Proof Sys2Proof.Machine

/-! ### Ill-formed commands are refused: one for each check of `Instr.wf` -/

/-- Commands whose task, tag, queue or BAR0 offset is out of range. -/
theorem test_bad_core_refused : (([.ignoredWrite 0x400000, .ignoredWrite 2, .lowRegisterRead .host 0x400004, .highRegisterRead .host 1, .storeRetire .a .ep0 .main [] 0 0 0 [],
    .voteCommit 64 0, .censusSliceHash .a 64 0 false 0, .censusSliceHash .a 0 65536 false 0, .censusRoundStart 64 0, .censusCompare 64 0 0 0 0,
    .censusCompare 0 65536 0 0 0, .taskRelease 64 0, .taskFinish .a 64 0, .lateExecutionEnd .a 64 0, .timeAlarmFire 64 0, .timeFenceExpire 17 0 0,
    .timeFenceExpire 0 (2 ^ 32) 0, .fenceTimeout 17 0 0, .fenceTimeout 0 (2 ^ 32) 0, .opNop ⟨.a, 64⟩, .shadowRelease 64 0] : List Instr)).all (fun i => !i.wf) := by decide
/-- Positions, banks and supplies of the field groups out of range. -/
theorem test_bad_field_refused : (([.inputFilterExpire .g0 128 0, .wettingPulseEnd .g0 128 0, .validHoldoffExpire .g0 128 0, .bankSupplyMeasure .g0 8 0 0,
    .bankSupplyMeasure .g0 0 4096 0, .bankWarnClear .g0 8 0, .bankRestore .g0 8 0, .bankValidResume .g0 8 0, .testDue .g0 128 0,
    .darkPulseEnd .g0 128 false 0, .darkPulseRepeat .g0 128 0, .probeEnd .g0 128 0, .overloadLatch .g0 128 0, .overloadRetry .g0 128 true 0,
    .thermalShutdown .g0 128 0, .openLoadDetect .g0 128 true 0, .externalDriveDetect .g0 128 true 0, .stopRequestInput 4 true 0,
    .rawTransition .g0 128 .low 0, .externalDriveClear .g0 128 0] : List Instr)).all (fun i => !i.wf) := by decide
/-- Ports, addresses and entries of the network and the time out of range. -/
theorem test_bad_net_refused : (([.frameIngress 7 [] 0, .frameTransmitStart 7 0, .frameTransmitComplete 7 0, .linkDown 7 0, .linkUp 7 1000 true 0, .fdbAgeExpire (2 ^ 48) 0 0,
    .fdbAgeExpire 0 4096 0, .gateEntryChange 7 0, .telegramDelivery 16384 0, .ptpSync 6 0 0 0 0 0 false 0, .ptpSync 0 0 0 (2 ^ 64 * 65536000000000) 0 0 false 0,
    .ptpFollowUp 6 0 0 0 0, .ptpFollowUp 0 0 (2 ^ 48 * 65536000000000) 0 0, .ptpDelayReq 6 0 true 0 0, .ptpDelayReq 0 0 true (2 ^ 64 * 65536000000000) 0, .ptpDelayResp 6 0 0 0 0, .ptpDelayResp 0 0 (2 ^ 48 * 65536000000000) 0 0, .ptpPdelayReq 6 0 true 0 0,
    .ptpPdelayReq 0 0 true (2 ^ 64 * 65536000000000) 0, .ptpPdelayResp 6 0 true 0 0 none 0, .ptpPdelayResp 0 0 true (2 ^ 64 * 65536000000000) 0 none 0,
    .ptpAnnounce 6 [0, 0, 0, 0, 0, 0] 0, .ptpAnnounce 0 [] 0, .ptpIgnoredMessage 6 0, .ptpMessageSend 6 0 0] : List Instr)).all (fun i => !i.wf) := by decide
/-- Host accesses, queues and lines out of range. -/
theorem test_bad_host_refused : (([.inboundRead 1 0 4 0, .inboundRead 0 0 0 0, .inboundRead 0 0 4097 0, .inboundWrite 0 [] 0, .msixTableWrite 1024 0 0, .msixTableWrite 2 0 0,
    .brgEvtClear (2 ^ 11), .mailboxSubmit (2 ^ 32) 0, .doorbell 16 0 .host 0, .ringConfigWrite 16 0 0 0, .ringConfigWrite 0 3 0 0,
    .queueEnable 16 .host 0, .queueDisable 16 .host 0, .queueResume 16 0, .queueSkip 16 0, .qStatIrqClear 16, .qStatHaltEvtClear 16,
    .descriptorFetch 16 (zeros 64) 0, .descriptorFetch 0 [] 0, .burstDone 16 false 0, .flushReadReturn 16 true 0, .burstRetry 16 0,
    .requestLineAssert 32 0, .requestLineWithdraw 32 0, .requestIdleTimeout 16 0, .commandReplyWrite 17 0, .quillPacketReceive 17 [] true 0,
    .lanePacketCheck .a 17 0 ⟨true, true, none⟩ 0, .lanePacketCheck .a 0 (2 ^ 32) ⟨true, true, none⟩ 0, .verdictReceive .a 17 0 none 0, .verdictReceive .a 0 (2 ^ 32) none 0,
    .verdictTimeout 17 0 0, .verdictTimeout 0 (2 ^ 32) 0, .laneReplyReceive .a 17 0 none 0, .laneReplyReceive .a 0 (2 ^ 32) none 0,
    .tokenBucketRefill 3 0, .moduleInfo ⟨17, 0, 0, []⟩ 0, .moduleInfo ⟨0, 2 ^ 32, 0, []⟩ 0, .moduleInfo ⟨0, 0, 2 ^ 32, []⟩ 0] : List Instr)).all (fun i => !i.wf) := by decide
/-- Records of the copybook link, and the commands of chapters 16 to 18, out of range. -/
theorem test_bad_rest_refused : (([.hello true [] 0, .token true [] 0, .epochHead true [] 0, .line true [] 0, .term true [] 0, .inputHead true [] 0, .outputSig true [] 0,
    .schedule true [] true 0, .measurementSubmit 1 0 0 [] 0, .debugWrite .a .ep0 false 0 0 0 [] [] 0, .domainSwitchOn 0 0, .domainSwitchOn 11 0] : List Instr)).all (fun i => !i.wf) := by decide

theorem test_long_unit_refused (b : Block) (last : Bool) : (Instr.fabricUnitReceive b 0 (zeros 4097) last 0).wf = false := by
  simp [Instr.wf, zeros]

theorem test_long_datagram_refused (bs : List Byte) (h : 65535 < bs.length) : (Instr.mpDatagramReceive 0 0 0 false bs 0).wf = false := by
  simp [Instr.wf]; omega

theorem test_long_command_refused (bs : List Byte) (h : 65552 < bs.length) : (Instr.moduleInfo ⟨0, 0, 0, bs⟩ 0).wf = false := by
  simp [Instr.wf, Cmd.wf]; omega

theorem test_well_formed : (Instr.taskRelease 63 5).wf ∧ (Instr.doorbell 15 0 .host 0).wf ∧ (Instr.domainSwitchOn 10 0).wf ∧
    (Instr.moduleInfo ⟨16, 1, 1, []⟩ 0).wf := by decide

/-- The table gives no row any bits, so no word spells a command. -/
theorem test_no_word (n w : Nat) : decodeTableWord n w = none ∧ State.reset.withFetchWord n w = State.reset := ⟨rfl, rfl⟩

/-- A command at the front runs and leaves the queue; an empty queue idles. -/
theorem test_step : step { State.reset with pending := [.flashRefresh 0, .flashRefresh 5] } = .next { State.reset with pending := [.flashRefresh 5] } ∧ step State.reset = .next State.reset :=
  ⟨rfl, rfl⟩

theorem test_reset_canon : State.Canon State.reset := by
  unfold State.Canon; decide

/-! ### A small folio: task 0 every 1 ms, task 1 on events; one BOOL in OUT, one INT32 in WRK, one INT32 array in RET -/

def tCyclic : TaskRec :=
  { task := 0, event := false, priority := 1, ep := 0, limit := 3, source := 0, polarity := 0, period := 1000000, phase := 0,
    deadline := 600000, selector := 0, codeOff := 0, codeLen := 4 }

def tEvent : TaskRec :=
  { task := 1, event := true, priority := 2, ep := 1, limit := 3, source := 4, polarity := 0, period := 1000000, phase := 0,
    deadline := 400000, selector := 0, codeOff := 4, codeLen := 4 }

def fTest : Folio :=
  { autostart := false, narrowRefuse := false, loadLimit := 80, keySlot := 0, rbIndex := 0, rbValue := 0, id := zeros 16
    segSize := [64, 2560, 64, 64, 64, 64, 64, 64], tasks := [tCyclic, tEvent], code := [0x01000000, 0, 0, 0, 0x01000000, 0, 0, 0]
    vars := [⟨1, .bool, 1, 0, false, false, false, 201, 1, 0xFFFFFFFF⟩, ⟨2, .int32, 5, 0, false, false, false, 8, 1, 0xFFFFFFFF⟩,
      ⟨3, .int32, 4, 0, true, false, false, 0, 4, 0xFFFFFFFF⟩, ⟨4, .int32, 5, 1, false, false, false, 12, 1, 0xFFFFFFFF⟩]
    insts := [], init := [], io := [], tg := [], out := [⟨0, 1, 201, 1⟩], ssmDecl := [], message := [] }

/-- Three lanes voting, `fTest` running, mode RUN. -/
def sRun : State :=
  { (((State.reset.fput F.RPC_PD_STAT_ON 0x3FF).fput F.VOTE_CTRL_EN 1).fput F.VOTE_CTRL_MODE 1 |> fun s =>
      allLanes.foldl (fun s l => (s.fput (F.LANE_STATE_STATE l) 5).setTaskSt l 0 .idle |> fun s => s.setTaskSt l 1 .idle) s) with
    folio := { folioReset with running := some fTest }
    ductus := { ductusReset with tasks := [bookNew 0, bookNew 1] } }

theorem witness_tasks_ok : fTest.tasksOk := by unfold Folio.tasksOk; decide

/-- The check value of CRC-32C (R171): that of the bytes "123456789". -/
theorem test_crc32c : crc32c [0x31, 0x32, 0x33, 0x34, 0x35, 0x36, 0x37, 0x38, 0x39] = 0xE3069283 := by decide

/-- The worked example of chapter 2: logical line 3 of 40 lies in line 48 of lane C, and lane B stores 0x5A as 0xA5. -/
theorem test_line_placement : storedLine .a 40 3 = 3 ∧ storedLine .b 40 3 = 3 ∧ storedLine .c 40 3 = 48 ∧ encodeByte .b 0x5A = 0xA5 := by decide

/-- A revert resets the module by software with its SW_CAUSE (R470, R481). -/
theorem test_soft_reset : let v := sRun.softReset swRevert
    (v.power.overlap.any fun o => o.asserted == [srcSoftware] && (o.swCause == swRevert && o.level == levelSystem)) ∧
    v.fget F.VOTE_CTRL_EN = 0 ∧ v.quill.sessions = [] ∧ v.mem = [] ∧ v.laneSt .a = .off ∧ v.laneSt .b = .off ∧ v.laneSt .c = .off := by decide

/-! Witnesses of StepRunsTheFirstCommand. -/

theorem witness_step : (∃ (s : State) (c : Instr) (q : List Instr), s.pending = c :: q) ∧ ∃ s : State, s.pending = [] :=
  ⟨⟨{ State.reset with pending := [.timePpsinClear] }, .timePpsinClear, [], rfl⟩, State.reset, rfl⟩

/-! Witnesses of FabricUnitsAreSequenced. -/

theorem witness_fabric_kind : ¬ kindKnown (tagKind 0x003F000000000000) := by decide

/-- A stream of units of kind 0x0D from PD_MGMT at FAB.TGE that expects SEQ 5. -/
def sStream : State := { State.reset with fabric := { State.reset.fabric with streams := [⟨.tge, 2, 0x0D, 0, some 5, [1], false⟩] } }

theorem witness_fabric_duplicate : kindKnown (tagKind 0x200D000000000004) ∧
    (streamOfTag sStream.fabric .tge 0x200D000000000004).expected = some 5 ∧
    2 ^ 31 ≤ seqAhead 5 (tagSeq 0x200D000000000004) := by decide

theorem witness_fabric_gap : kindKnown (tagKind 0x200D000000000006) ∧
    (streamOfTag sStream.fabric .tge 0x200D000000000006).expected = some 5 ∧
    0 < seqAhead 5 (tagSeq 0x200D000000000006) ∧ seqAhead 5 (tagSeq 0x200D000000000006) < 2 ^ 31 ∧
    genAccepted sStream.fabric.gen (tagGen 0x200D000000000006) := by decide

theorem witness_fabric_accept : kindKnown (tagKind 0x200D000000000005) ∧
    (streamOfTag sStream.fabric .tge 0x200D000000000005).expected = some 5 ∧
    seqAhead 5 (tagSeq 0x200D000000000005) = 0 ∧ genAccepted sStream.fabric.gen (tagGen 0x200D000000000005) ∧
    Block.tge ≠ .vote := by decide

theorem witness_fabric_stale : kindKnown (tagKind 0x200D000700000005) ∧
    (streamOfTag sStream.fabric .tge 0x200D000700000005).expected = some 5 ∧
    seqAhead 5 (tagSeq 0x200D000700000005) = 0 ∧ ¬ genAccepted sStream.fabric.gen (tagGen 0x200D000700000005) := by decide

/-- A tag from the lanes: an object of `kind` of the lanes of `mask`. -/
def tagOf (mask kind seq : Nat) : DWord := mkTag 2 mask 0 kind 0 seq

/-- `sRun` with a stream of TGI_SET units at lane A that expects SEQ 5. -/
def sTgiS : State :=
  { sRun with fabric := { State.reset.fabric with streams := [⟨.laneA, 2, kindTgiSet, streamRecv kindTgiSet 1, some 5, [1], false⟩] } }

theorem witness_fabric_tgi : tagKind (tagOf 1 kindTgiSet 6) = kindTgiSet ∧ blockLane .laneA = some .a ∧ sTgiS.excludable .a ∧
    (streamOfTag sTgiS.fabric .laneA (tagOf 1 kindTgiSet 6)).expected = some 5 ∧ 0 < seqAhead 5 (tagSeq (tagOf 1 kindTgiSet 6)) ∧
    seqAhead 5 (tagSeq (tagOf 1 kindTgiSet 6)) < 2 ^ 31 ∧
    (∀ e, (streamOfTag sTgiS.fabric .laneA (tagOf 1 kindTgiSet 5)).expected = some e → seqAhead e (tagSeq (tagOf 1 kindTgiSet 5)) = 0) ∧
    genAccepted sTgiS.fabric.gen (tagGen (tagOf 1 kindTgiSet 5)) ∧
    tagKind (tagOf 1 kindTgiSet 6) = kindTgiSet ∧ blockLane Block.tge = none := by
  refine ⟨by decide, by decide, by decide, by decide, by decide, by decide, ?_, by decide, by decide, by decide⟩
  intro e h; revert e; simp only [show (streamOfTag sTgiS.fabric .laneA (tagOf 1 kindTgiSet 5)).expected = some 5 by decide, Option.some.injEq]
  rintro e rfl; decide

theorem witness_fabric_vote : tagKind (tagOf 2 kindLaneOut 5) = kindLaneOut ∧ tagKind (tagOf 2 kindCensus 5) = kindCensus ∧
    maskLane (tagMask (tagOf 2 kindLaneOut 5)) = some .b ∧ maskLane (tagMask (tagOf 2 kindCensus 5)) = some .b ∧
    (streamOfTag sRun.fabric .vote (tagOf 2 kindLaneOut 5)).expected = none ∧ (streamOfTag sRun.fabric .vote (tagOf 2 kindCensus 5)).expected = none ∧
    genAccepted sRun.fabric.gen (tagGen (tagOf 2 kindLaneOut 5)) ∧ sRun.isVoting .b ∧
    ¬ (sRun.fput (F.LANE_STATE_STATE .b) 6).isVoting .b ∧ ¬ sRun.roundOver (censusOfPayload .b (zeros 24)) ∧
    ¬ sRun.censusLate (censusOfPayload .b (zeros 24)) := by decide

/-! Witnesses of IgnoredWritesAreCountedAndCaptured. -/

theorem witness_ignored : 0x300104 < 2 ^ 22 ∧ ¬ (writable 0x300104 ∧ State.reset.reachable 0x300104) ∧
    ¬ State.reset.flag F.SYS_IGN_ADDR_VALID := by decide

theorem witness_ignored_held : ¬ (writable 0x300104 ∧ (State.reset.fput F.SYS_IGN_ADDR_VALID 1).reachable 0x300104) ∧
    (State.reset.fput F.SYS_IGN_ADDR_VALID 1).flag F.SYS_IGN_ADDR_VALID := by decide

theorem witness_writable : writable R.SYS_IGN_ADDR ∧ ((State.reset.setPower pdMgmt true).setPower pdHost true).reachable R.SYS_IGN_ADDR := by decide

theorem witness_clear_unreachable : ¬ (State.reset.fput F.RPC_PD_STAT_ON 0).reachable R.SYS_IGN_ADDR ∧ w1cRow (.brgEvtClear 3) = some R.BRG_EVT ∧
    (Instr.brgEvtClear 3).wf ∧ ¬ (sRun.fput F.RPC_PD_STAT_ON 0).reachable R.BRG_EVT := by decide

/-! Witnesses of SixtyFourBitPairsReadConsistently. -/

theorem witness_pair_low : pairLow R.SYS_SERIAL_LO ∧ ¬ pairLow R.SYS_PART := by decide

theorem witness_latched : ({ State.reset with latches := [⟨.host, R.SYS_SERIAL_LO, 7⟩] } : State).latched .host R.SYS_SERIAL_LO = some 7 ∧
    State.reset.latched .host R.SYS_SERIAL_LO = none := by decide

theorem witness_pair_reach : ({ sRun with latches := [⟨.host, R.SYS_SERIAL_LO, 7⟩] } : State).latched .host R.SYS_SERIAL_LO = some 7 ∧
    ({ sRun with latches := [⟨.host, R.SYS_SERIAL_LO, 7⟩] } : State).reachable (R.SYS_SERIAL_LO + 4) ∧
    ¬ (State.reset.fput F.RPC_PD_STAT_ON 0).reachable (R.SYS_SERIAL_LO + 4) ∧ pairLow (R.Q_BASE_LO 2) := by decide

/-! Witnesses of SignatureRegisterFollowsThePolynomial. -/

/-- A state whose lane domains are on. -/
def sPower : State := ((State.reset.setPower (pdLane .a) true).setPower (pdLane .b) true).setPower (pdLane .c) true

theorem witness_powered : sPower.powered (pdLane .a) ∧ sPower.powered (pdLane .b) ∧ sPower.powered (pdLane .c) := by decide

theorem witness_cores_run : sRun.coresRun .a ∧ sRun.coresRun .b ∧ sRun.coresRun .c ∧ ¬ State.reset.coresRun .b := by decide

/-! Witnesses of RetiredEventsFeedTheSignature. -/

theorem witness_store : sPower.powered (pdLane .c) ∧ ((sPower.lane .c).pair .ep1).egress.length < 64 := by decide

theorem witness_store_stall :
    (sPower.setPair .a .ep0 { pairReset with egress := List.replicate 64 ⟨0, 0, []⟩ }).powered (pdLane .a) ∧
    64 ≤ (((sPower.setPair .a .ep0 { pairReset with egress := List.replicate 64 ⟨0, 0, []⟩ }).lane .a).pair .ep0).egress.length := by
  decide

theorem witness_retire : sRun.coresRun .b ∧ sRun.egressOpen .b ∧ (((sRun.lane .b).pair .ep1).core .main).stores < 32 ∧
    (((sRun.lane .b).pair .ep1).core .checker).stores < 32 ∧ ((sRun.lane .b).pair .ep1).egress.length < 64 ∧
    ¬ (((sRun.lane .b).pair .ep1).stalled ∧ ((sRun.lane .b).pair .ep1).checker.caughtUp ((sRun.lane .b).pair .ep1).main) := by decide

theorem witness_retire_waits : let x := sRun.setPair .a .ep0 { pairReset with egress := List.replicate 64 ⟨0, 0, []⟩, stalled := true }
    let y := sRun.setPair .a .ep0 { pairReset with main := { coreReset with stores := 32 } }
    x.coresRun .a ∧ x.egressOpen .a ∧ ((x.lane .a).pair .ep0).main.stores < 32 ∧ 64 ≤ ((x.lane .a).pair .ep0).egress.length ∧
    ((x.lane .a).pair .ep0).stalled ∧ ((x.lane .a).pair .ep0).checker.caughtUp ((x.lane .a).pair .ep0).main ∧
    32 ≤ (((y.lane .a).pair .ep0).core .main).stores ∧ ¬ State.reset.coresRun .a := by decide

/-! Witnesses of ComparatorGatesTheEgressBuffer. -/

/-- A pair whose cores have closed window 4, with equal or different signatures. -/
def sClosed (k : DWord) : State :=
  (sPower.setPair .a .ep0 { pairReset with
    main := { coreReset with closed := [(4, 9)] }, checker := { coreReset with closed := [(4, k)] }
    egress := [⟨4, 1, []⟩, ⟨5, 2, []⟩] }).fput (F.LANE_STATE_STATE .a) 5

theorem witness_match : (((sClosed 9).lane .a).pair .ep0).main.closed = (4, 9) :: [] ∧
    (((sClosed 9).lane .a).pair .ep0).checker.closed = (4, 9) :: [] ∧ rails ((9 : DWord) == 9) 0 = 0b01 := by decide

theorem witness_mismatch : (((sClosed 8).lane .a).pair .ep0).main.closed = (4, 9) :: [] ∧
    (((sClosed 8).lane .a).pair .ep0).checker.closed = (4, 8) :: [] ∧ rails ((9 : DWord) == 8) 0 = 0b10 ∧
    rails ((9 : DWord) == 8) 1 ≠ 0b01 ∧ rails ((9 : DWord) == 8) 1 ≠ 0b10 ∧ (sClosed 8).excludable .a := by decide

/-! Witnesses of ComparatorProofsRunAndAreMissed. -/

/-- `sClosed` with a proof armed. -/
def sArmed : State := (sClosed 9).setPair .a .ep0 { ((sClosed 9).lane .a).pair .ep0 with armed := true }

theorem witness_proof : ((sArmed.lane .a).pair .ep0).armed ∧ ((sArmed.lane .a).pair .ep0).main.closed = (4, 9) :: [] ∧
    ((sArmed.lane .a).pair .ep0).checker.closed = (4, 9) :: [] ∧
    rails ((9 : DWord) == 9 ^^^ proofPattern ((sArmed.lane .a).pair .ep0).proofN) 0 = 0b10 ∧
    rails ((9 : DWord) == 9 ^^^ proofPattern ((sArmed.lane .a).pair .ep0).proofN) 3 ≠ 0b10 ∧ sArmed.excludable .a ∧
    ((sArmed.lane .a).pair .ep0).proofAt + 11000000 ≤ (sArmed.tick 11000000).mono := by decide

/-- `sArmed` with the true signatures of the proof's window compared. -/
def sProof : State := (sClosed 9).setPair .a .ep0 { ((sClosed 9).lane .a).pair .ep0 with armed := true, proofSigs := some (9, 9) }

theorem witness_proof_due : sPower.coresRun .a ∧ ((({ sPower with mono := 10000000 } : State).lane .a).pair .ep1).dueAt + 10000000 ≤ 10000000 ∧
    ({ sPower with mono := 10000000 } : State).coresRun .a ∧ ¬ State.reset.coresRun .a ∧
    9999999 < ((({ sPower with mono := 9999999 } : State).lane .a).pair .ep1).dueAt + 10000000 := by decide

theorem witness_proof_run : ((sProof.lane .a).pair .ep0).armed ∧ ((sProof.lane .a).pair .ep0).proofSigs = some (9, 9) ∧
    rails ((9 : DWord) == 9 ^^^ proofPattern ((sProof.lane .a).pair .ep0).proofN) 0 = 0b10 ∧
    rails ((9 : DWord) == 9 ^^^ proofPattern ((sProof.lane .a).pair .ep0).proofN) 3 ≠ 0b10 ∧ sProof.excludable .a := by decide

/-! Witnesses of ALaneFaultLeavesTwoLanesOrFailsTheModule. -/

/-- The lanes of `ls` voting, the vote enabled. -/
def sVoting (ls : List Lane) : State :=
  ls.foldl (fun s l => s.fput (F.LANE_STATE_STATE l) 5) (sPower.fput F.VOTE_CTRL_EN 1)

theorem witness_three_vote : (sVoting allLanes).isVoting .b ∧ (sVoting allLanes).voters.length = 3 ∧
    ¬ (sVoting allLanes).flag F.VOTE_CTRL_FAILED ∧ (sVoting allLanes).flag F.VOTE_CTRL_EN ∧
    (sVoting allLanes).power.overlap = none ∧ (sVoting allLanes).powered (pdLane .b) ∧
    ¬ ((sVoting allLanes).lane .b).halted := by decide

theorem witness_two_vote : (sVoting [.a, .c]).isVoting .c ∧ (sVoting [.a, .c]).voters.length = 2 ∧
    (sVoting [.a, .c]).flag F.VOTE_CTRL_EN ∧ ¬ (sVoting [.a, .c]).flag F.VOTE_CTRL_FAILED := by decide

theorem witness_voting_task : ((sVoting [.a, .c]).tick 5).votingTask < 64 ∧ (sVoting [.a, .c]).dueCommits = [] ∧
    (sVoting [.a, .c]).vote.lastCommit = none := by decide

/-! Witnesses of TheVoteMasksOneFaultyLane. -/

/-- The objects of the worked example of R52: lane A's cell holds 0x5B, lanes B and C hold 0x5A. -/
def objOf (l : Lane) (stored : Nat) (b : Byte) : OutObj :=
  ⟨l, 0, 0, leBytes 2 stored ++ [1, 0, 0, 0, 0, 0] ++ zeros 9 ++ [b] ++ zeros 54⟩

theorem witness_vote_mask : ([objOf .a 3 0x5B, objOf .b 3 0xA5, objOf .c 48 0x5A].map (·.lane)).Perm [.a, .b, .c] ∧
    ∀ o ∈ [objOf .a 3 0x5B, objOf .b 3 0xA5, objOf .c 48 0x5A], ∀ o' ∈ [objOf .a 3 0x5B, objOf .b 3 0xA5, objOf .c 48 0x5A],
      o.lane ≠ .a → o'.lane ≠ .a → ∀ y ∈ fTest.voteLines 0, o.decoded fTest 0 y = o'.decoded fTest 0 y := by decide

theorem witness_vote_differ : (objOf .a 3 0x5B).lane ≠ (objOf .c 48 0x5A).lane ∧ (1, 3) ∈ fTest.voteLines 0 ∧
    fTest.declared 0 1 (64 * 3 + 9) ∧
    ((objOf .a 3 0x5B).decoded fTest 0 (1, 3)).getD 9 0 ≠ ((objOf .c 48 0x5A).decoded fTest 0 (1, 3)).getD 9 0 := by decide

/-- `sRun` with the commit of task 0 due at 600 µs. -/
def sDue : State := { (sRun.setBook { bookNew 0 with due := some (600000, false) }) with now := 600000 }

theorem witness_vote_commit : sDue.folio.running = some fTest ∧ sDue.taskRec 0 = some tCyclic ∧
    (sDue.book 0).due = some (600000, false) ∧ 600000 ≤ (sDue.tick 600000).now ∧ ¬ sDue.flag F.VOTE_CTRL_FAILED ∧
    sDue.modeNow ≠ .hold ∧ sDue.ductus.runEntry.getD 0 ≤ 600000 := by decide

theorem witness_vote_hold : (sDue.fput F.VOTE_CTRL_MODE 2).modeNow = .hold ∧
    ((sDue.fput F.VOTE_CTRL_MODE 2).book 0).due = some (600000, false) ∧
    (sDue.fput F.VOTE_CTRL_MODE 2).taskRec 0 = some tCyclic ∧ ¬ (sDue.fput F.VOTE_CTRL_MODE 2).flag F.VOTE_CTRL_FAILED := by
  decide

theorem witness_next_commit : (sDue.tick 600000).nextCommit tCyclic 600000 ∧ sDue.dueCommits = [(600000, tCyclic)] ∧
    ((sDue.fput F.VOTE_CTRL_MODE 2).tick 600000).nextCommit tCyclic 600000 ∧ sDue.folioOf fTest 0 = fTest := by decide

theorem witness_commit_waits : let s := sDue.setBook { bookNew 1 with due := some (500000, false) }
    s.taskRec 0 = some tCyclic ∧ (s.book 0).due = some (600000, false) ∧ ¬ (s.tick 600000).nextCommit tCyclic 600000 := by decide

/-! Witnesses of CensusHashesAreSentAndCompared. -/

theorem witness_census_hash : sRun.folio.running = some fTest ∧ sRun.taskRec 0 = some tCyclic ∧ ¬ tCyclic.event ∧
    sRun.isVoting .b ∧ 0 < (fTest.slices 0).length ∧ sRun.sliceQuiet .b tCyclic ∧ sRun.taskRec 1 = some tEvent ∧
    tEvent.event ∧ 3000000000 % 1000000000 = 0 := by decide

/-- Three census hashes of slice 0 of task 0 at the vote. -/
def sCensus (a b c : DWord) : State :=
  { sRun with vote := { sRun.vote with census := [⟨.a, 0, 0, 7, 5, false, false, a⟩, ⟨.b, 0, 0, 7, 5, false, false, b⟩,
      ⟨.c, 0, 0, 7, 5, false, false, c⟩] } }

theorem witness_census_three : (sCensus 1 1 1).voters = allLanes ∧ (sCensus 1 1 2).voters = allLanes ∧
    (sCensus 1 2 3).voters = allLanes ∧
    (∀ l ∈ allLanes, (sCensus 1 2 3).censusOf l 0 0 7 5 =
      some ⟨l, 0, 0, 7, 5, false, false, match l with | .a => 1 | .b => 2 | .c => 3⟩) := by decide

theorem witness_census_probation : ¬ (sCensus 1 1 2).flag (F.LANE_STATE_PROBATION .c) ∧
    ((sCensus 1 1 2).fput (F.LANE_STATE_PROBATION .c) 1).flag (F.LANE_STATE_PROBATION .c) ∧
    ((sCensus 1 1 2).fput (F.LANE_STATE_PROBATION .c) 1).voters = allLanes := by decide

theorem witness_census_two : ((sCensus 1 1 2).fput (F.LANE_STATE_STATE .b) 8).voters = [.a, .c] ∧
    (((sCensus 1 1 2).fput (F.LANE_STATE_STATE .b) 8).censusOf .a 0 0 7 5).isSome ∧
    (((sCensus 1 1 2).fput (F.LANE_STATE_STATE .b) 8).censusOf .c 0 0 7 5).isSome := by decide

/-- `sRun` after one execution of task 0, and lane B in the round of task 1. -/
def sSlices : State :=
  (sRun.setBook { bookNew 0 with lastRelease := some 0, execs := 1 }).setLane .b { sRun.lane .b with rounds := [⟨1, 3000000000, 0⟩] }

theorem witness_slices : sSlices.taskRec 0 = some tCyclic ∧ sSlices.taskRec 1 = some tEvent ∧ sSlices.isVoting .b ∧
    sSlices.nextSlice .b tCyclic = some 0 ∧ sSlices.nextSlice .b tCyclic ≠ some 1 ∧ sSlices.sliceQuiet .b tCyclic ∧
    sSlices.pairIdle .b tCyclic.ep ∧ (sSlices.lane .b).round tEvent.task = some ⟨1, 3000000000, 0⟩ ∧ sSlices.nextSlice .b tEvent = some 0 ∧
    sSlices.sliceQuiet .b tEvent ∧ sSlices.pairIdle .b tEvent.ep ∧ (sSlices.tick 3000000005).now < 3000000000 + 1000000000 := by decide

/-! Witnesses of CapturesOfTheVoteAreReArmed. -/

theorem witness_capture : (State.reset.fput F.VOTE_DIS_CAP_VALID 1).flag F.VOTE_DIS_CAP_VALID ∧
    ¬ State.reset.flag F.VOTE_DIS_CAP_VALID := by decide

theorem witness_capture_reach : sRun.reachable R.VOTE_DIS_CAP ∧ sRun.reachable R.CENSUS_CAP := by decide

/-! Witnesses of LanesReturnToTheVoteByTheirStates. -/

/-- Lane A in the state of a code, the others voting. -/
def sLane (c : Nat) : State := (sVoting [.b, .c]).fput (F.LANE_STATE_STATE .a) c

theorem witness_excluded : (sLane 6).laneSt .a = .excluded ∧ ((sLane 6).lane .a).exclAt + 1000000 ≤ ((sLane 6).tick 1000000).mono ∧
    ((sLane 6).tick 1000000).reintPermitted .a ∧
    ¬ (((sLane 6).setLane .a { laneReset with attempts := [1, 2, 3] }).tick 1000000).reintPermitted .a := by decide

theorem witness_lane_states : (sLane 7).laneSt .a = .powerCycle ∧ ((sLane 7).tick 10000000).maySwitch ∧
    ¬ (State.tick { sLane 7 with power := { (sLane 7).power with lastOn := 9500000 } } 10000000).maySwitch ∧ ((sLane 7).lane .a).offAt + 10000000 ≤ ((sLane 7).tick 10000000).mono ∧
    (sLane 1).laneSt .a = .booting ∧ (sLane 2).laneSt .a = .translating ∧ (sLane 3).laneSt .a = .ready ∧
    (sLane 4).laneSt .a = .transfer ∧ (sLane 3).modeNow ≠ .hold ∧ (sLane 3).flag F.VOTE_CTRL_EN ∧
    ((sLane 3).lane .a).readyAt + 10000000000 ≤ ((sLane 3).tick 10000000000).now := by decide

theorem witness_translate : ({ sLane 2 with folio := { folioReset with running := some fTest } } : State).folio.running.isSome ∧
    ((sLane 2).lane .a).xlatHash = none ∧
    (((sLane 2).setLane .a { laneReset with xlatHash := some 5 }).lane .a).xlatHash = some 5 := by decide

theorem witness_seam : (sLane 3).voters.head? = some .b ∧ ((sLane 3).tick 50000).transferSeam .a 50000 := by decide

theorem witness_delta : ({ sLane 4 with folio := { folioReset with running := some fTest } } : State).laneSt .a = .transfer ∧
    ¬ ((sLane 4).lane .a).landed ∧
    ¬ ({ sLane 4 with folio := { folioReset with running := some fTest } } : State).anyUncommitted ∧
    (sLane 4).voters.head? = some .b := by decide

/-- Lanes A and B READY, no vote yet. -/
def sReady : State := (sPower.fput (F.LANE_STATE_STATE .a) 3).fput (F.LANE_STATE_STATE .b) 3

theorem witness_vote_enable : ¬ sReady.flag F.VOTE_CTRL_EN ∧ ¬ sReady.flag F.VOTE_CTRL_FAILED ∧ sReady.voters = [] ∧
    2 ≤ (allLanes.filter fun l => sReady.laneSt l == .ready).length ∧ (sReady.tick 50000).now % 50000 = 0 := by decide

/-- `sLane` with the folio and the tasks of `sRun`. -/
def sBack (c : Nat) : State := { sLane c with folio := { folioReset with running := some fTest }, ductus := sRun.ductus }

theorem witness_image : (sBack 2).laneSt .a = .translating ∧ (sBack 2).folio.running = some fTest ∧
    ((sBack 2).setLane .a { laneReset with xlatHash := some 5 }).flag F.VOTE_CTRL_EN ∧
    (((sBack 2).setLane .a { laneReset with xlatHash := some 5 }).lane .a).xlatHash = some ((some (5 : DWord)).getD ((sBack 2).imageHash fTest .a)) ∧
    (5 : DWord) ≠ (some (6 : DWord)).getD ((sBack 2).imageHash fTest .a) ∧ (sLane 2).folio.running = none :=
  ⟨by decide, by decide, by decide, rfl, by simp, by decide⟩

theorem witness_transfer : (sBack 3).laneSt .a = .ready ∧ (sBack 3).voters.head? = some .b ∧ (sLane 3).folio.running = none ∧
    (sBack 4).laneSt .a = .transfer ∧ ¬ ((sBack 4).lane .a).landed ∧ ¬ (sBack 4).anyUncommitted ∧
    (∀ b ∈ (sBack 4).ductus.tasks, b.lastRelease = none) ∧ (sBack 4).voters.head? = some .b ∧ sReady.folio.running = none := by decide

theorem witness_no_gap :
    let f : Folio := { fTest with tasks := [{ tCyclic with period := 50000, deadline := 40000 }] }
    let s : State := { ((sBack 3).fput F.VOTE_CTRL_MODE 1).setLane .a { laneReset with passes := 16 } with folio := { folioReset with running := some f } }
    s.laneSt .a = .ready ∧ s.flag F.VOTE_CTRL_EN ∧ s.modeNow ≠ .hold ∧ 16 ≤ (s.lane .a).passes ∧
    ¬ (s.tick 5).gapExists (s.deltaGap .a) := by decide

/-! Witnesses of LaneCommandsNeedLanesSessionAndLevel. -/

/-- `sRun` with session 1 of the host path open at a level. -/
def sSess (lvl : Nat) : State :=
  { sRun with quill := { sRun.quill with sessions := [⟨1, 0, true, lvl, some 0, false, 0, 0, ⟨0, []⟩, ⟨0, []⟩, 0, 0⟩] } }

/-- A command of queue 0 in session 1. -/
def cOf (params : List Byte) : Cmd := ⟨0, 9, 1, params⟩

theorem witness_lane_command : laneRow (.modeSetRun (cOf (1 :: zeros 7)) 5) = some (cOf (1 :: zeros 7), (5, (0x0201, 2))) ∧
    (sSess 1).preAccepted (cOf (1 :: zeros 7)) = none ∧ 2 ≤ (sSess 1).voters.length ∧ ¬ (sSess 1).fenced (cOf (1 :: zeros 7)) ∧
    (sSess 1).sessionOk (cOf (1 :: zeros 7)) ∧ ((sSess 1).session 1).isSome ∧ ¬ sRun.sessionOk (cOf (1 :: zeros 7)) ∧
    State.reset.voters.length < 2 ∧
    ({ sRun with ductus := { sRun.ductus with fences := [⟨cOf [], 0, .queue, []⟩] } } : State).fenced (cOf (1 :: zeros 7)) := by decide

/-! Witnesses of ReleasesStartExecutions. -/

theorem witness_release : sRun.folio.running = some fTest ∧ sRun.taskRec 0 = some tCyclic ∧
    (sRun.tick 1000000).releaseDue tCyclic (sRun.tick 1000000).now ∧ ¬ sRun.notActing ∧
    (sRun.tick 1000000).joinLanded.isVoting .a ∧ (sRun.tick 1000000).joinLanded.taskSt .a tCyclic.task = .idle := by decide

/-- Task 0 still executing in every lane. -/
def sBusy : State := allLanes.foldl (fun s l => s.setTaskSt l 0 .late) sRun

theorem witness_release_skipped : sBusy.taskRec 0 = some tCyclic ∧
    (sBusy.tick 1000000).releaseDue tCyclic (sBusy.tick 1000000).now ∧ ¬ sBusy.notActing ∧
    (sBusy.tick 1000000).joinLanded.voters ≠ [] ∧
    (∀ l ∈ allLanes, (sBusy.tick 1000000).joinLanded.taskSt l tCyclic.task ≠ .idle) ∧ State.reset.modeNow ≠ .run := by
  decide

/-! Witnesses of ExecutionsFinishOrEndLate. -/

/-- An execution of task 0 in lane A that has ended, its commit due at 600 µs. -/
def sEnded (discarded : Bool) : State :=
  ((sRun.setBook { bookNew 0 with due := some (600000, false) }).setExec .a 0
    ⟨0, 4, [], [], [], true, 400000, false, discarded, false⟩).setTaskSt .a 0 .released

theorem witness_finish : ((sEnded false).exec? .a 0).isSome ∧ (sEnded false).taskSt .a 0 = .released ∧
    (sEnded false).isVoting .a ∧ ((sEnded false).book 0).due = some (600000, false) ∧
    ((sEnded false).tick 500000).now + 1000 ≤ 600000 ∧ 600000 < ((sEnded false).tick 599500).now + 1000 ∧
    (sEnded true).exec? .a 0 = some ⟨0, 4, [], [], [], true, 400000, false, true, false⟩ := by decide

/-- The execution of `sEnded`. -/
def eEnded (discarded : Bool) : Exec := ⟨0, 4, [], [], [], true, 400000, false, discarded, false⟩

theorem witness_sent_in_time : (sEnded false).folio.running = some fTest ∧ (sEnded false).exec? .a 0 = some (eEnded false) ∧
    400000 + xferNs (laneOut .a fTest ((sEnded false).lane .a).mem 0 (((sEnded false).book 0).commits % 2 ^ 32)).length + 1000 ≤ 600000 ∧
    ((sEnded false).tick 500000).now + 1000 ≤ 600000 ∧
    (((sEnded true).setTaskSt .a 0 .late).taskSt .a 0 = .late ∧ (sEnded true).exec? .a 0 = some (eEnded true)) := by decide

theorem witness_sent_too_late : let s := (sEnded false).setExec .a 0 { eEnded false with endAt := 598990 }
    s.exec? .a 0 = some { eEnded false with endAt := 598990 } ∧ s.taskSt .a 0 = .released ∧ (s.book 0).due = some (600000, false) ∧
    600000 < 598990 + xferNs (laneOut .a fTest (s.lane .a).mem 0 ((s.book 0).commits % 2 ^ 32)).length + 1000 := by decide

/-! Witnesses of AlarmsAndTriggersReleaseEventTasks. -/

/-- `sRun` with the alarm of task 1 armed for 5 ms. -/
def sAlarm : State := sRun.setBook { bookNew 1 with alarm := ⟨5000000, 0, true⟩ }

theorem witness_alarm : sAlarm.taskRec 1 = some tEvent ∧ tEvent.event ∧ tEvent.source = 4 ∧ (sAlarm.book 1).alarm.armed ∧
    (sAlarm.book 1).alarm.value ≤ ((sAlarm.tick 5000000).now : Int) ∧ sAlarm.modeNow = .run ∧
    (sAlarm.book 1).pend = none ∧ (sAlarm.fput F.VOTE_CTRL_MODE 0).modeNow ≠ .run ∧
    ((sAlarm.fput F.VOTE_CTRL_MODE 0).taskRec 1) = some tEvent := by decide

/-- `sSess` with a folio whose event task is bound to TASK_TRIGGER. -/
def sTrig : State :=
  { sSess 2 with folio := { folioReset with running := some { fTest with tasks := [tCyclic, { tEvent with task := 33, source := 3 }] } } }

theorem witness_trigger : (sTrig.tick 5).admits (cOf (33 :: zeros 7)) 2 ∧
    sTrig.taskRec 33 = some { tEvent with task := 33, source := 3 } ∧ sTrig.modeNow = .run ∧ ¬ sTrig.notActing ∧
    (sTrig.book 33).pend = none := by decide

/-- A release of an event task that waits. -/
def pWaits : PendRelease := ⟨5, 50000, 0, 0, 0⟩

theorem witness_alarm_merges : let s := sAlarm.setBook { bookNew 1 with alarm := ⟨5000000, 0, true⟩, pend := some pWaits }
    s.taskRec 1 = some tEvent ∧ tEvent.task < 64 ∧ (s.book 1).alarm.armed ∧ (s.book 1).alarm.value ≤ ((s.tick 5000000).now : Int) ∧
    s.modeNow = .run ∧ s.ductus.runEntry.getD 0 ≤ max (s.book 1).alarm.value.toNat (s.book 1).alarm.since ∧ (s.book 1).pend = some pWaits ∧
    sAlarm.ductus.runEntry.getD 0 ≤ max (sAlarm.book 1).alarm.value.toNat (sAlarm.book 1).alarm.since := by decide

theorem witness_alarm_before_run : let s : State := { sAlarm with ductus := { sAlarm.ductus with runEntry := some 6000000 } }
    s.modeNow = .run ∧ s.taskRec 1 = some tEvent ∧ (s.book 1).alarm.armed ∧ (s.book 1).alarm.value ≤ ((s.tick 7000000).now : Int) ∧
    max (s.book 1).alarm.value.toNat (s.book 1).alarm.since < s.ductus.runEntry.getD 0 ∧
    ((sAlarm.tick 4000000).now : Int) < (sAlarm.book 1).alarm.value := by decide

theorem witness_trigger_merges : let s := sTrig.setBook { bookNew 33 with pend := some pWaits }
    (s.tick 5).admits (cOf (33 :: zeros 7)) 2 ∧ s.taskRec 33 = some { tEvent with task := 33, source := 3 } ∧ s.modeNow = .run ∧
    ¬ s.notActing ∧ s.ductus.runEntry.getD 0 ≤ (s.tick 5).now ∧ (s.book 33).pend = some pWaits ∧
    sTrig.ductus.runEntry.getD 0 ≤ (sTrig.tick 5).now := by decide

/-! Witnesses of ModeChangesTakeEffectAtTheirInstants. -/

theorem witness_mode_set : ((sSess 2).tick 5).admits (cOf (1 :: zeros 7)) 2 ∧ (sSess 2).folio.running.isSome ∧
    ¬ (sSess 2).notActing ∧ ((sSess 2).tick 5).admits (cOf (zeros 8)) 2 ∧
    ((sSess 2).fput F.SEC_STATE_LIFECYCLE 3 |>.tick 5).admits (cOf (2 :: zeros 7)) 2 ∧
    ((sSess 2).fput F.SEC_STATE_LIFECYCLE 3).fget F.SEC_STATE_LIFECYCLE = 3 ∧ (sSess 2).fget F.SEC_STATE_LIFECYCLE ≠ 3 := by
  decide

/-- A mode change due at 1 ms. -/
def sMode (m : Mode) (now : Nat) : State :=
  { sRun.fput F.VOTE_CTRL_MODE now with ductus := { sRun.ductus with modes := [⟨m, 1000000, some (cOf [])⟩] } }

theorem witness_mode_change : ((sMode .run 0).ductus.modes.filter fun x => x.instant ≤ ((sMode .run 0).tick 1000000).now) =
      [⟨.run, 1000000, some (cOf [])⟩] ∧ (sMode .run 0).modeNow = .stop ∧ (sMode .stop 1).modeNow = .run ∧
    (sMode .hold 1).modeNow = .run ∧ (sMode .hold 2).modeNow = .hold ∧ ¬ (sMode .run 0).flag F.VOTE_CTRL_FAILED := by decide

theorem witness_mode_effect :
    ((sMode .run 0).upTo 1000000).ductus.modes.filter (fun x => x.instant ≤ ((sMode .run 0).upTo 1000000).now) = [⟨.run, 1000000, some (cOf [])⟩] ∧
    ((sMode .run 0).upTo 1000000).dueCommits = [] ∧ ((sMode .run 0).upTo 1000000).modeNow = .stop ∧
    ((sMode .run 0).upTo 1000000).folio.running = some fTest ∧ ¬ ((sMode .run 0).upTo 1000000).flag F.VOTE_CTRL_FAILED := by decide

theorem witness_mode_leave : ((sMode .stop 1).upTo 1000000).modeNow = .run ∧ ((sMode .stop 1).upTo 1000000).dueCommits = [] ∧
    ((sMode .stop 1).upTo 1000000).ductus.modes.filter (fun x => x.instant ≤ ((sMode .stop 1).upTo 1000000).now) = [⟨.stop, 1000000, some (cOf [])⟩] ∧
    ((sMode .hold 1).upTo 1000000).modeNow = .run ∧ ((sMode .hold 1).upTo 1000000).dueCommits = [] ∧
    ((sMode .hold 1).upTo 1000000).ductus.modes.filter (fun x => x.instant ≤ ((sMode .hold 1).upTo 1000000).now) = [⟨.hold, 1000000, some (cOf [])⟩] ∧
    ((sMode .hold 2).upTo 1000000).modeNow = .hold ∧ ((sMode .hold 2).upTo 1000000).dueCommits = [] := by decide

/-! Witnesses of FencesCompleteOrTimeOut. -/

theorem witness_fence : ((sSess 1).tick 5).admits (cOf (1 :: zeros 23)) 1 ∧ (∀ r ∈ (sSess 1).quill.cmds, r.cmd.queue ≠ 0) ∧
    ((sSess 1).tick 5).admits (cOf (2 :: zeros 7 ++ leBytes 8 3 ++ zeros 8)) 1 ∧
    (∀ n < 64, natBit 3 n → ((sSess 1).taskRec n).isSome) ∧
    ((sSess 1).tick 5).admits (cOf (3 :: zeros 15 ++ leBytes 8 90000)) 1 ∧ ((sSess 1).tick 5).now < 90000 + 80000 := by decide

/-- `sSess 1` with a command of queue 0 that has not replied, and two fences of queue 2. -/
def sFence : State :=
  { sSess 1 with
    quill := { (sSess 1).quill with cmds := [⟨⟨0, 4, 1, []⟩, 0x0101, 0, true⟩] }
    ductus := { (sSess 1).ductus with fences := [⟨⟨2, 5, 1, []⟩, 0, .time 90000, []⟩, ⟨⟨2, 6, 1, []⟩, 0, .commit [0], []⟩] } }

theorem witness_fence_waits : (sFence.tick 5).admits (cOf (1 :: zeros 23)) 1 ∧
    (∃ r ∈ sFence.quill.cmds, r.cmd.queue = 0) ∧ (∀ r ∈ sFence.quill.cmds, r.cmd ≠ cOf (1 :: zeros 23)) ∧
    (∀ f ∈ sFence.ductus.fences, f.kind ≠ .queue) ∧ sFence.fenceOf 2 5 = some ⟨⟨2, 5, 1, []⟩, 0, .time 90000, []⟩ ∧
    90000 + 80000 ≤ (sFence.tick 170000).now ∧ sFence.fenceOf 2 6 = some ⟨⟨2, 6, 1, []⟩, 0, .commit [0], []⟩ ∧
    20500000000 ≤ (sFence.tick 20500000000).now := by decide

theorem witness_fence_ahead : (((sSess 1).tick 5).taken (cOf (1 :: zeros 23)) 0x0B01).cmdsAhead (cOf (1 :: zeros 23)) = [] ∧
    (∀ f ∈ (sSess 1).ductus.fences, f.cmd ≠ cOf (1 :: zeros 23)) ∧
    ((sFence.tick 5).taken (cOf (1 :: zeros 23)) 0x0B01).cmdsAhead (cOf (1 :: zeros 23)) ≠ [] ∧ (sSess 1).folio.running.isSome := by decide

/-! Witnesses of WrappingAndSaturatingResults. -/

theorem witness_wrap : Ty.int16 ≠ .bool ∧ ¬ tyReal .int16 := by decide

/-! Witnesses of StrokeArithmeticOnIntegers. -/

/-- An execution of task 0 in lane B at word 4 with a few registers. -/
def eInt : Exec := ⟨1000000, 4, [(1, (.int16, 7)), (2, (.int16, BitVec.ofInt 64 (-3))), (3, (.int16, 0)), (4, (.bool, 1)),
  (5, (.real32, 0x40200000)), (6, (.real32, 0x3F800000)), (7, (.real32, 0)), (8, (.time, 0))], [], [], false, 0, false, false, false⟩

def xInt : Ctx := ⟨.b, 0⟩
def sInt : State := sRun.addExec .b 0 eInt

theorem witness_stroke_int : sInt.running xInt = some eInt ∧ ¬ tyReal (eInt.ty 1) ∧ regInt (eInt.ty 1) (eInt.val 2) ≠ 0 ∧
    regInt (eInt.ty 1) (eInt.val 3) = 0 := by decide

/-- Code words by R115 and R131: the opcode in bits 31 to 24, then three fields. ADD r9, r1, r2; SUB; ADDI with -16;
JMP by its literal; the LOOP of the worked example of chapter 4; RTRIG of record 3; an opcode that is not listed; NOP
with a field not 0. -/
theorem test_stroke_words : strokeInstr xInt 0x20090102 0 = some (.opAdd xInt 9 1 2) ∧ strokeInstr xInt 0x21090102 0 = some (.opSub xInt 9 1 2) ∧
    strokeInstr xInt 0x2E0901F0 0 = some (.opAddi xInt 9 1 0xF0) ∧ strokeInstr xInt 0x02000000 77 = some (.opJmp xInt 77) ∧
    strokeInstr xInt 0x05000907 7 = some (.opLoop xInt 7 9 7) ∧ strokeInstr xInt 0x73090100 3 = some (.opRtrig xInt 9 1 3) ∧
    strokeInstr xInt 0xFE000000 0 = none ∧ strokeInstr xInt 0x00010000 0 = none := by decide

/-! Witnesses of StrokeArithmeticOnReals. -/

theorem witness_stroke_real : sInt.running xInt = some eInt ∧ tyReal (eInt.ty 5) ∧
    fpReg .real32 (eInt.val 7) = fpReg .real32 0 ∧ realLt (eInt.ty 5) (eInt.val 6) (eInt.val 5) := by decide

/-! Witnesses of StrokeLogicShiftsAndComparisons. -/

theorem witness_stroke_logic : sInt.running xInt = some eInt ∧ ¬ tyReal (eInt.ty 1) ∧ tyReal (eInt.ty 5) ∧
    ¬ fpIsNan (fpReg (eInt.ty 5) (eInt.val 5)) ∧ ¬ fpIsNan (fpReg (eInt.ty 5) (eInt.val 6)) ∧
    fpIsNan (fpReg .real32 0x7FC00000) := by decide

/-! Witnesses of StrokeMovesConversionsTimeAndFlags. -/

theorem witness_stroke_moves : sInt.running xInt = some eInt ∧ eInt.isTrue 4 ∧ ¬ eInt.isTrue 8 ∧ tySigned .int16 ∧
    tyUnsigned .uint8 ∧ tyReal .real64 ∧ tyOfCode (2 : Byte).toNat = some .int16 ∧ eInt.ty 1 = .int16 ∧
    tyOfCode (3 : Byte).toNat = some .int32 ∧ eInt.ty 1 ≠ .int32 ∧ tyInt .int32 ∧ tyReal (eInt.ty 5) := by decide

/-! Witnesses of StrokeControlFlowAndTaskFaults. -/

theorem witness_stroke_flow : sInt.running xInt = some eInt ∧ xInt.task < 64 ∧ eInt.isTrue 4 ∧ ¬ eInt.isTrue 8 ∧
    loopCount eInt eInt.pc < (5 : BitVec 16).toNat ∧ (0 : BitVec 16).toNat ≤ loopCount eInt eInt.pc ∧ eInt.calls = [] ∧
    (sRun.addExec .b 0 { eInt with calls := [9] }).running xInt = some { eInt with calls := [9] } := by decide

/-! Witnesses of StrokeVariablesAreStoredInTheLanesEncoding. -/

/-- Registers for the array variable 2 of `fTest`. -/
def eVar : Exec := ⟨1000000, 4, [(1, (.int32, 3)), (2, (.int32, BitVec.ofInt 64 (-9))), (3, (.int32, 4))], [], [], false, 0, false, false, false⟩
def sVar : State := sRun.addExec .c 0 eVar

theorem witness_stroke_var : sVar.running ⟨.c, 0⟩ = some eVar ∧
    sVar.varAt 2 = some (fTest, ⟨3, .int32, 4, 0, true, false, false, 0, 4, 0xFFFFFFFF⟩) ∧ 0 % tySize .int32 = 0 ∧
    regFits .int32 (eVar.val 2) ∧ regInt (eVar.ty 1) (eVar.val 1) = (3 : Nat) ∧
    (4 : Int) ≤ regInt (eVar.ty 3) (eVar.val 3) ∧ regInt (eVar.ty 2) (eVar.val 2) < 0 := by decide

/-! Witnesses of BlockInstructionsEvaluateTheirRecords. -/

/-- `fTest` with a CTU record. -/
def fBlock : Folio := { fTest with insts := [⟨10, 6, 4, 0, false, 0⟩] }
def sBlock : State := { sRun with folio := { folioReset with running := some fBlock } }.addExec .a 0 eInt

theorem witness_block : sBlock.running ⟨.a, 0⟩ = some eInt ∧ (sBlock.instAt 0).isSome ∧
    ¬ recFlag (newRecord 6) 7 ∧ 16 ≤ (newRecord 6).length ∧ 24 ≤ (newRecord 1).length ∧
    (recField ⟨10, 6, 4, 0, false, 0⟩ (newRecord 6) (3 : Byte).toNat).isSome := by decide

/-! Witnesses of StrokeRunsOnlyExecutionsUnderWay. -/

theorem witness_stroke_idle : strokeCtx (.opAdd xInt 1 2 3) = some xInt ∧ (sInt.fput F.VOTE_CTRL_MODE 2).modeNow = .hold ∧
    sRun.exec? .b 0 = none ∧ ¬ State.reset.powered (pdLane .b) := by decide

theorem witness_stroke_waits : ¬ sInt.runsTask .b 1 ∧ (sInt.setLane .b { sInt.lane .b with halted := true }).exec? .b 0 = some eInt ∧
    ((sInt.setLane .b { sInt.lane .b with halted := true }).lane .b).halted := by decide

/-! Witnesses of FolioBlocksAreReceivedInOrder. -/

/-- `sSess` at the level of the project with a folio of 65,544 bytes received up to block 1. -/
def sStaging (total : Nat) : State := { sSess 3 with folio := { sRun.folio with staging := .receiving 1 total [] } }

theorem witness_stage : ((sStaging 65544).tick 5).admits (cOf (stagePacket 1 (zeros 8))) 3 ∧
    (sStaging 65544).folio.staging = .receiving 1 65544 [] ∧ (zeros 8).length = min 65536 (65544 - 1 * 65536) ∧
    ((sSess 3).tick 5).admits (cOf (stagePacket 0 (zeros 12 ++ leBytes 4 16))) 3 ∧ (sSess 3).folio.pendingSwitch = none ∧
    (zeros 12 ++ leBytes 4 16).length = min 65536 (leAt (zeros 12 ++ leBytes 4 16) 12 4) ∧
    1 ≠ (crc32c (zeros 8)).toNat ∧ (sSess 3).folio.staging = .empty := by decide

theorem test_refused_block : (stageOwn (cOf (leBytes 4 1 ++ (leBytes 4 1 ++ (zeros 8 ++ zeros 8)))) (sStaging 65544)) =
    .refuse stCheckFail noIndex := by decide

/-! Witnesses of StagedFoliosPassOrFailTheChecks. -/

/-- A folio of one task that ends at once, written out by R155 to R170, with a signature block of zeros. -/
def folioBytes : List Byte :=
  leBytes 64 0x100f0e0d0c0b0a0908070605040302010000000000000000000009500000000000000f18000001c0008000014c46594e
  ++ (leBytes 64 0x0
  ++ (leBytes 64 0x8c28b28a000000080000017000000004ea106a31000000300000014000000003ba0cc8c4000000040000013800000002d0852e94000000280000011000000001
  ++ (leBytes 64 0x8c28b28a0000000800000188000000088c28b28a0000000800000180000000078c28b28a00000008000001780000000600000000000000000000017800000005
  ++ (leBytes 64 0x10000000000000100000000000000000000025800000000000003e80000000300010000000000000000000148674bc7000000300000019000000009
  ++ (leBytes 64 0xa00000000400000000000000000
  ++ (leBytes 64 0xe24924c600000000000000000032271000640064000f4240000f4240000003e800000064000003e8000000640030000100000000000000000000000000000000))))))

/-- `sSess` with owner key slot 0 enrolled and the checks under way on these bytes. -/
def sChecking (bytes : List Byte) : State :=
  { (sSess 3).fput (F.SEC_SLOT_ENROLLED 0) 1 with folio := { sRun.folio with staging := .checking bytes (cOf []) } }

def signedBytes : List Byte := folioBytes ++ (leBytes 8 0xd5800000001 ++ zeros 3408)

theorem witness_folio_checks : (sChecking signedBytes).folio.staging = .checking signedBytes (cOf []) ∧
    (((sChecking signedBytes).tick 5).stageCheck signedBytes true).result = 1 := by decide

theorem witness_folio_refused : (((sChecking []).tick 5).stageCheck [] true).result ≠ 1 ∧
    (((sChecking signedBytes).tick 5).stageCheck signedBytes false).result = 4 := by decide

theorem test_folio_tasks : (parseFolio signedBytes).tasks = [⟨0, false, 1, 0, 3, 0, 0, 1000000, 0, 600000, 0, 0, 1⟩] := by
  decide

/-! Witnesses of SwitchesWaitForTheFirstSeamPredicted. -/

/-- `sSess` with `fTest` staged. -/
def sSwitch : State := { sSess 3 with folio := { sRun.folio with staging := .staged fTest } }

/-- A switch waits, with its seam announced. -/
def sWaiting (a : Nat) : State :=
  { sSwitch with folio := { sSwitch.folio with pendingSwitch := some ⟨some (cOf []), 5, some a, true, 0⟩ } }

theorem witness_switch : (sSwitch.tick 5).admits (cOf []) 3 ∧ ¬ sSwitch.paired ∧ sSwitch.role ≠ roleStandby ∧
    sSwitch.folio.staging = .staged fTest ∧ sSwitch.modeNow ≠ .hold ∧ sSwitch.folio.pendingSwitch = none ∧
    ¬ sSwitch.ssmDiffers fTest ∧ sSwitch.folio.running = some fTest ∧
    5 + 10000000000 ≤ ((sWaiting 600000).tick 10000000005).now ∧
    (((sWaiting 600000).setTaskSt .a 0 .released).tick 600000).anyUncommitted ∧ ¬ (sWaiting 600000).notActing := by decide

theorem witness_void : ¬ (sWaiting 600000).paired ∧ 600000 ≤ (((sWaiting 600000).setTaskSt .a 0 .released).tick 600000).now ∧
    ((sWaiting 600000).tick 5).now < 5 + 10000000000 ∧ sRun.reachable R.FOLIO_IOMIS := by decide

/-! Witnesses of TheSeamSwitchesTheFolioIn. -/

theorem witness_seam_switch : (sWaiting 600000).folio.pendingSwitch = some ⟨some (cOf []), 5, some 600000, true, 0⟩ ∧
    ((sWaiting 600000).tick 600000).seamStands ⟨some (cOf []), 5, some 600000, true, 0⟩ ∧
    ¬ ((sWaiting 600000).tick 5).seamStands ⟨some (cOf []), 5, some 600000, true, 0⟩ := by decide

/-- A carry is under way. -/
def sCarry : State := { sSess 3 with folio := { sRun.folio with carry := some (some (cOf [])) } }

theorem witness_carry : sCarry.folio.carry = some (some (cOf [])) ∧ sCarry.folio.running = some fTest ∧ fTest.rbIndex < 64 ∧
    ¬ sCarry.flag F.RPC_VIN_IN_WARNING ∧ (sCarry.fput F.RPC_VIN_IN_WARNING 1).flag F.RPC_VIN_IN_WARNING := by decide

/-! Witnesses of FieldFramesCarryCommandsAndTheImage. -/

theorem witness_frame_time : (sRun.tick 1020000).now % 50000 = 20000 ∧ (sRun.tick 1000000).now % 50000 ≠ 20000 ∧
    ((sRun.tick 1020000).evalAt 1000000 State.gridInstant).time.framesFrom ≤
      ((sRun.tick 1020000).evalAt 1000000 State.gridInstant).now ∧
    ((({ sRun with time := { sRun.time with framesFrom := 2000000 } } : State).tick 1020000).evalAt 1000000 State.gridInstant).now <
      ((({ sRun with time := { sRun.time with framesFrom := 2000000 } } : State).tick 1020000).evalAt 1000000
        State.gridInstant).time.framesFrom := by decide

/-- A logic-to-field frame for APPLY at 1,050 us with no records. -/
def lfTest : List Byte :=
  let body := leBytes 1 0xC1 ++ zeros 7 ++ leBytes 8 1050000 ++ leBytes 16 1 ++ zeros 68
  body ++ leBytes 4 (crc32c body).toNat

/-- A field-to-logic frame: position 0 on and valid, SET 4. -/
def flTest : List Byte :=
  let body := leBytes 1 0xC2 ++ zeros 19 ++ leBytes 1 4 ++ zeros 3 ++ leBytes 16 1 ++ leBytes 16 1 ++ zeros 224
  body ++ leBytes 4 (crc32c body).toNat

/-- `sRun` with both field sides powered, and `lfTest` waiting at group 0. -/
def sField : State := sRun.setFc .g0 { sRun.fc .g0 with frame := some lfTest }

theorem witness_frames : sField.fgUp .g0 ∧ frameGood lfTest 104 0xC1 (sField.fc .g0).rxSeq ∧ ¬ State.reset.fgUp .g0 ∧
    frameGood flTest 284 0xC2 (sField.fioGrp .g0).rxSeq ∧ ¬ frameGood lfTest 284 0xC2 (sField.fioGrp .g0).rxSeq ∧
    (sField.fc .g0).frame = some lfTest ∧ leAt lfTest 8 8 = (sField.tick 1050000).now ∧ ¬ natBit (byteAt lfTest 1) 0 ∧
    ¬ natBit (byteAt lfTest 1) 1 ∧ byteAt lfTest 33 = 0 := by decide

theorem witness_stop_value : ((State.reset.putCfg 3 ⟨2, 0, 1, 0, 0, 0, 0⟩).cfgOf 3).kind = 2 ∧
    (State.reset.putCfg 3 ⟨2, 0, 1, 0, 0, 0, 0⟩).modeNow ≠ .run ∧
    (State.reset.putCfg 3 ⟨2, 0, 1, 0, 0, 0, 0⟩).outCmd 3 = true := by decide

theorem witness_frame_grid : (sRun.upTo 1020000).now % 50000 = 20000 ∧ (sRun.upTo 1000000).now % 50000 ≠ 20000 ∧
    (let u := (sRun.upTo 1020000).evalAt 1000000 State.gridInstant; u.time.framesFrom ≤ u.now ∧ u.fgUp .g0) ∧
    1050000 % 50000 = 0 ∧ leAt lfTest 8 8 = (sField.tick 1050000).fcTime .g0 ∧ (sField.tick 1000000).frameNow .g0 = none := by decide

theorem witness_member : let s := (State.reset.putCfg 4 ⟨kLig2, 0, 1, 0, 0, 0, 0⟩).putCfg 5 ⟨kMember, 0, 0, 0, 0, 0, 0⟩
    (s.cfgOf 5).kind = kMember ∧ (s.cfgOf (s.leadChan 5)).kind ≠ kMember := by decide

/-! Witnesses of ChannelSetsAreGatheredAndTakenOver. -/

/-- A record that makes channel 3 a plain output. -/
def recOut : List Byte := leBytes 1 3 ++ leBytes 1 2 ++ zeros 14

/-- `sSess` with a set of one record. -/
def sSet (r : List Byte) (closed : Option Nat) (complete : Bool) : State :=
  { (sSess 3).fput (F.FIO_GRPCFG_BANKS_USED .g0) 1 with
    fio := { (sSess 3).fio with set := some ⟨5, [⟨.g0, r, some (cOf []), 0, none, false⟩], none, closed, 0, complete, none⟩ } }

theorem witness_channel_set : ((sSess 3).tick 5).admits (cOf (zeros 2 ++ (leBytes 2 1 ++ (zeros 4 ++ recOut)))) 3 ∧
    cfgRecOk recOut ∧ recOut.length = 16 ∧ ¬ cfgRecOk (leBytes 1 3 ++ leBytes 1 9 ++ zeros 14) ∧
    (sSet recOut none false).fio.set.isSome ∧ (sSess 3).fio.set = none ∧
    ((sSet recOut none false).tick 5).admits (cOf (1 :: zeros 7)) 3 ∧
    ((sSet recOut (some 3) false).tick 5).admits (cOf (2 :: zeros 7)) 3 ∧
    0 + 10000000000 ≤ ((sSet recOut none false).tick 10000000000).now ∧
    3 + 10000000000 ≤ ((sSet recOut (some 3) false).tick 10000000003).now ∧
    ¬ (sSet recOut (some 3) true).flag F.VOTE_CTRL_FAILED ∧ byteAt recOut 1 ≠ 0xF0 := by decide

theorem witness_set_check : (sSet recOut none false).setOk [recOut] ∧
    ¬ (sSet recOut none false).setOk [leBytes 1 3 ++ leBytes 1 5 ++ zeros 14] := by decide

theorem witness_set_open : (sSet recOut none false).fio.set.all (fun z => z.closedAt.isNone) ∧
    ((sSet recOut none false).tick 5).admits (cOf (zeros 2 ++ (leBytes 2 1 ++ (zeros 4 ++ recOut)))) 3 ∧
    (∀ f ∈ (sSet recOut none false).ductus.fences, f.cmd ≠ cOf (zeros 2 ++ (leBytes 2 1 ++ (zeros 4 ++ recOut)))) ∧
    (sSet recOut (some 3) true).fio.set.all (fun z => z.complete) ∧
    (sSet recOut none false).fio.set.all (fun z => decide (((sSet recOut none false).tick 5).now < z.touchedAt + 10000000000)) := by decide

/-! Witnesses of InputsBanksAndSilenceAreSupervised. -/

/-- `sRun` with one channel of group 0 replaced. -/
def sChan (c : FcChan) : State := sRun.setChan .g0 c

/-- `sRun` with bank 1 of group 0 replaced, and used. -/
def sBank (k : FcBank) : State := sRun.setFc .g0 (({ sRun.fc .g0 with banksUsed := 2 } : FcState).setBank 1 k)

/-- Channel 5 an input with a filter of `f` tenths of a millisecond. -/
def cInput (f : Nat) : FcChan := { chanReset 5 with cfg := ⟨1, 1, 0, 0, f, 0, 0⟩ }

theorem witness_inputs : (sChan (cInput 3)).fgUp .g0 ∧ (((sChan (cInput 3)).fc .g0).chan 5).cfg.filter ≠ 0 ∧
    (((sChan (cInput 0)).fc .g0).chan 5).cfg.filter = 0 ∧ (((sChan (cInput 0)).fc .g0).chan 5).cfg.kind = 1 ∧
    (((sChan (cInput 0)).fc .g0).chan 5).hold = none ∧ (((sChan (cInput 0)).fc .g0).chan 5).filtered ≠ (Pin.high == .high) ∧
    flagWetting (cInput 3).cfg ∧ (((sChan { cInput 3 with run := some 0 }).fc .g0).chan 5).run = some 0 ∧
    0 + 100000 * 3 ≤ ((sChan (cInput 3)).tick 300000).now ∧
    (((sChan { cInput 3 with wetAt := some 0, wetting := true }).fc .g0).chan 5).wetting ∧
    (((sChan { cInput 3 with hold := some 7 }).fc .g0).chan 5).hold = some 7 ∧ 7 ≤ (sRun.tick 8).now := by decide

theorem witness_banks : (sBank { bankReset with warnRun := 1, cutRun := 1 }).fgUp .g0 ∧
    1 < ((sBank bankReset).fc .g0).banks.length ∧ ((sBank bankReset).fc .g0).used 1 ∧
    ¬ (((sBank { bankReset with warnRun := 1, cutRun := 1 }).fc .g0).bank 1).warn ∧
    ¬ (((sBank { bankReset with warnRun := 1, cutRun := 1, cut := false }).fc .g0).bank 1).cut ∧
    (((sBank { bankReset with warn := true, clearSince := some 0 }).fc .g0).bank 1).clearSince = some 0 ∧
    (((sBank { bankReset with cut := true, latched := false, restoreSince := some 0 }).fc .g0).bank 1).restoreSince = some 0 ∧
    (((sBank { bankReset with validHold := some 0 }).fc .g0).bank 1).validHold = some 0 := by decide

theorem witness_silence :
    let s := sRun.setFc .g0 { sRun.fc .g0 with blotter := false, lastApply := some 0, silenceMs := 10 }
    s.fgUp .g0 ∧ ¬ (s.fc .g0).blotter ∧ 0 + 10 * 1000000 ≤ (s.tick 10000000).now ∧ ¬ (s.fc .g0).appliesAt 10000000 := by
  decide

theorem witness_own_grid :
    let s := sRun.setFc .g0 { sRun.fc .g0 with blotter := false, lastApply := some 0, silenceMs := 10 }
    ¬ (s.fc .g0).appliesAt ((s.tick 10000000).fcTime .g0) ∧ (sRun.tick 300000).fcTime .g0 % 10000 = 0 ∧
    (sRun.tick 300001).fcTime .g0 % 10000 ≠ 0 := by decide

/-! Witnesses of StagesAreTestedAndTheirFaultsHandled. -/

/-- Channel 5 a plain output, tested every second with pulses of 200 us. -/
def cOut : FcChan := { chanReset 5 with cfg := ⟨2, 2, 0, 0, 0, 200, 1⟩ }

/-- Group 0 with the claim, command bits `cmd`, its banks driving, and `c` in place. -/
def sOut (cmd : Nat) (c : FcChan) : State :=
  sRun.setFc .g0 (({ sRun.fc .g0 with
    cmd := cmd, claim := true, blotter := false, disable := false
    banks := List.replicate 8 { bankReset with cut := false, latched := false, waitApply := false, warn := false } } : FcState).setChan c)

theorem witness_test_due : let s := sOut 32 { cOut with due := some 0 }
    s.fgUp .g0 ∧ ((s.fc .g0).chan 5).due = some 0 ∧ isLead ((s.fc .g0).chan 5).cfg.kind ∧ (s.fc .g0).claim ∧
    ¬ (s.fc .g0).supplyBad 5 ∧ ¬ (s.fc .g0).disable ∧ ¬ ((s.fc .g0).chan 5).latched ∧ (s.fc .g0).stageCmd 5 ∧
    flagDark ((s.fc .g0).chan 5).cfg ∧ (s.tick 50000).now % 50000 = 0 ∧ ¬ (s.fc .g0).bankBusy (bankOf 5) ∧
    ¬ (s.fc .g0).lowerWaits 5 50000 := by decide

theorem witness_test_skipped :
    let s := sRun.setFc .g0 (({ (sOut 32 { cOut with due := some 0 }).fc .g0 with
      banksUsed := 255, banks := List.replicate 8 { bankReset with warn := true } } : FcState))
    s.fgUp .g0 ∧ ((s.fc .g0).chan 5).due = some 0 ∧ (s.fc .g0).claim ∧ (s.fc .g0).supplyBad 5 := by decide

theorem witness_dark_pulse : let s := sOut 32 { cOut with test := some ⟨true, 0, false⟩, pin := .high, firstFail := 3 }
    ((s.fc .g0).chan 5).test = some ⟨true, 0, false⟩ ∧ 0 + ((s.fc .g0).chan 5).cfg.darkUs * 1000 ≤ (s.tick 200000).now ∧
    ((s.fc .g0).chan 5).pin = .high ∧ ((s.fc .g0).chan 5).pinAt + 50000 ≤ (s.tick 200000).now ∧
    ((s.fc .g0).chan 5).firstFail = 3 ∧ bankOf 5 < (s.fc .g0).banks.length ∧ ¬ ((s.fc .g0).bank (bankOf 5)).latched ∧
    (((sOut 32 cOut).fc .g0).chan 5).firstFail = 0 := by decide

theorem witness_repeat : let s := sOut 32 { cOut with repeatAt := some 0 }
    ((s.fc .g0).chan 5).repeatAt = some 0 ∧ ((s.fc .g0).chan 5).test = none ∧ ¬ (s.fc .g0).supplyBad 5 ∧ (s.fc .g0).stageOn 5 ∧
    ¬ ((sOut 0 { cOut with repeatAt := some 0 }).fc .g0).stageOn 5 := by decide

theorem witness_stage_faults : (sOut 32 cOut).fgUp .g0 ∧ ((sOut 32 cOut).fc .g0).stageOn 5 ∧
    isOut (((sOut 32 cOut).fc .g0).chan 5).cfg.kind ∧ ((sOut 32 cOut).fc .g0).leader 5 = 5 ∧
    (((sOut 32 { cOut with latched := true }).fc .g0).chan 5).latched ∧ ((sOut 32 { cOut with latched := true }).fc .g0).stageCmd 5 ∧
    (((sOut 32 cOut).fc .g0).bank (bankOf 5)).drives ∧
    (((sOut 32 { cOut with retrying := some 0 }).fc .g0).chan 5).retrying = some 0 ∧
    (((sOut 0 { cOut with openByOn := true }).fc .g0).chan 5).openByOn ∧
    ¬ ((sOut 0 { cOut with pin := .high }).fc .g0).stageCmd 5 ∧ ¬ ((sOut 0 { cOut with pin := .high }).fc .g0).cut (bankOf 5) ∧
    max (((sOut 0 { cOut with pin := .high }).fc .g0).chan 5).pinAt (((sOut 0 { cOut with pin := .high }).fc .g0).driveFrom 5) + 1000000
      ≤ ((sOut 0 { cOut with pin := .high }).tick 9000000).now ∧
    (((sOut 0 { cOut with extDrive := true, pin := .low }).fc .g0).chan 5).extDrive ∧
    (((sOut 0 { cOut with test := some ⟨false, 0, false⟩ }).fc .g0).chan 5).test = some ⟨false, 0, false⟩ := by decide

theorem witness_test_grid : ((sOut 32 { cOut with due := some 0 }).tick 50000).fcTime .g0 % 50000 = 0 ∧
    0 ≤ ((sOut 32 { cOut with due := some 0 }).tick 50000).now ∧
    ¬ ((sOut 32 { cOut with repeatAt := some 0 }).fc .g0).bankBusy (bankOf 5) ∧
    ¬ ((sOut 32 { cOut with repeatAt := some 0 }).fc .g0).lowerWaits 5 50000 ∧
    (((sOut 32 { cOut with test := some ⟨true, 0, true⟩ }).fc .g0).chan 5).test = some ⟨true, 0, true⟩ ∧
    (((sOut 32 { cOut with firstFail := 2 }).fc .g0).chan 5).firstFail = 2 ∧ ((sOut 32 cOut).fc .g0).claim ∧
    (((sOut 32 cOut).fc .g0).chan 5).due = none := by decide

theorem witness_retry_grid : let s := sOut 32 { cOut with latched := true, hot := true }
    ((s.fc .g0).chan ((s.fc .g0).leader 5)).latched ∧ ((s.fc .g0).chan ((s.fc .g0).leader 5)).hot ∧ (s.fc .g0).stageCmd 5 ∧
    ((s.fc .g0).chan ((s.fc .g0).leader 5)).retryAt ≤ (s.tick 50000).now ∧
    ((s.tick 0).now - ((s.fc .g0).chan ((s.fc .g0).leader 5)).retryAt) % 1000000000 < 50000 ∧ (s.tick 0).fcTime .g0 % 50000 = 0 ∧
    ((s.fc .g0).bank (bankOf 5)).drives ∧
    ¬ (((sOut 32 { cOut with retrying := some 0 }).fc .g0).chan (((sOut 32 { cOut with retrying := some 0 }).fc .g0).leader 5)).latched ∧
    ((sOut 32 { cOut with retrying := some 0 }).fc .g0).stageOn 5 ∧
    0 + 100000000 ≤ ((sOut 32 { cOut with retrying := some 0 }).tick 100000000).now := by decide

theorem witness_drive_ticks : (((sOut 0 { cOut with pin := .high, highTick := some 5 }).fc .g0).chan 5).highTick = some 5 ∧
    max 5 (((sOut 0 { cOut with pin := .high, highTick := some 5 }).fc .g0).driveFrom 5) + 1000000 ≤
      ((sOut 0 { cOut with pin := .high, highTick := some 5 }).tick 9000000).now ∧
    bankOf 5 < ((sOut 0 { cOut with pin := .high, highTick := some 5 }).fc .g0).banks.length ∧
    (((sOut 0 { cOut with extDrive := true, lowTick := some 5 }).fc .g0).chan 5).lowTick = some 5 ∧
    ¬ (((sOut 0 { cOut with extDrive := true, lowTick := some 5 }).fc .g0).chan 5).extByDark ∧
    5 + 1000000 ≤ ((sOut 0 { cOut with extDrive := true, lowTick := some 5 }).tick 9000000).now := by decide

/-! Witnesses of TheStopPathsEvaluate. -/

/-- A valid safe stop parameter record. -/
def stopRec : List Byte := leBytes 48 0xe24924c600000000000000000032271000640064000f4240000f4240000003e800000064000003e80000006400300001

/-- `sRun` with the record locked, in state `st`. -/
def sStop (st : Nat) : State :=
  { sRun.fput F.SSM_STATE_STATE st with ssm := { sRun.ssm with record := some stopRec } }

theorem witness_stop : (sStop 2).powered pdSsm ∧ (sStop 2).ssm.record = some stopRec ∧ ssmRecordOk stopRec ∧
    ¬ (State.reset.fput F.RPC_PD_STAT_ON 0).powered pdSsm ∧ (sStop 2).powered (pdLane .a) ∧ (sStop 2).fget (F.LANE_STOP_STATE .a) = 0 ∧
    ¬ (sStop 2).flag (F.LANE_STOP_MATCH .a) ∧ ((sStop 2).fput (F.LANE_STOP_MATCH .a) 1).flag (F.LANE_STOP_MATCH .a) ∧
    (sStop 2).fget F.SSM_STATE_STATE ≠ 4 ∧ (sStop 2).ssm.reqs.length = 4 ∧ ((sStop 2).ssm.req 1).on ≠ true ∧ porOnly 6 := by
  decide

theorem witness_stop_table : (stopReset.stopEnd stopRec 10000000 1000000000).isSome ∧
    ((sStop 2).tick 5).mono < 0 + 2000000000 := by decide

theorem witness_parity : let s : State := { sStop 2 with ssm := { (sStop 2).ssm with parityFault := true } }
    s.powered pdSsm ∧ s.ssm.record = some stopRec ∧ s.ssm.parityFault ∧ ¬ s.vote.failWire ∧ s.fget F.SSM_STATE_STATE ≠ 4 := by decide

/-- A request input that has been OFF for 1 ms is seen when it turns ON. -/
theorem witness_off_run : let s : State := { sStop 2 with ssm := { (sStop 2).ssm with reqs := List.replicate 4 ⟨false, 0⟩ } }
    s.ssm.reqs.length = 4 ∧ (s.ssm.req 1).on ≠ true ∧ s.ssm.offRun (s.tick 1000000).mono ∧ ¬ s.ssm.offRun (s.tick 999999).mono := by decide

theorem witness_lane_stop : 250000 % 250000 = 0 ∧ ¬ ((sStop 2).powered (pdLane .a) ∧ 5 % 250000 = 0) ∧ ¬ (sStop 2).ssm.record = none := by decide

/-! Witnesses of PermitsAreVotedAndParametersLocked. -/

theorem witness_heartbeat : ¬ sRun.flag F.STO1_STAT_HEARTBEAT ∧ sRun.ssm.hbAt + 1000000 ≤ (sRun.tick 1000000).mono ∧
    (sRun.fput F.STO1_STAT_HEARTBEAT 1).flag F.STO1_STAT_HEARTBEAT := by decide

/-- Lane A alone differs, for the second time. -/
def sOdd : State :=
  { allLanes.foldl (fun s l => s.fput (F.LANE_STOP_PERMIT l) (bit (l != .a))) sRun with ssm := { sRun.ssm with odd := some .a } }

theorem witness_odd_permit : let u := (sOdd.tick 5).showPermits
    oddPermit ((allLanes.filter fun l => u.flag (F.LANE_STOP_TAKING l)).map fun l => (l, u.flag (F.LANE_STOP_PERMIT l))) = some .a ∧
    sOdd.ssm.odd = some .a := by decide

/-- `sSess` at standstill with slot 0 enrolled. -/
def sLoad (motion : Nat) : State := ((sSess 3).fput (F.SEC_SLOT_ENROLLED 0) 1).fput F.SSM_STATE_MOTION motion

theorem witness_param_load : ((sLoad 1).tick 5).admits (cOf (0 :: zeros 3 ++ (stopRec ++ zeros 3416))) 3 ∧ stopRec.length = 48 ∧
    (zeros 3416).length = 3416 ∧ (sLoad 1).slotEnrolled 0 ∧ (sLoad 1).ssm.record = none ∧ (sLoad 1).standstill ∧
    ¬ (sLoad 2).standstill ∧ ¬ (sLoad 2).paired ∧ (sStop 1).ssm.record.isSome := by decide

theorem witness_param_lock :
    let s : State := { sLoad 1 with ssm := { (sLoad 1).ssm with loads := [⟨cOf [], stopRec, 0⟩, ⟨cOf [1], [], 0⟩] } }
    s.ssm.loads = [⟨cOf [], stopRec, 0⟩, ⟨cOf [1], [], 0⟩] ∧ s.ssm.record = none ∧ 2 ≤ s.voters.length ∧ s.powered pdSsm ∧
    0 + 10000000 ≤ (s.tick 10000000).mono := by decide

theorem witness_lock_limit :
    let s : State := { sLoad 1 with ssm := { (sLoad 1).ssm with loads := [⟨cOf [], stopRec, 0⟩, ⟨cOf [1], [], 0⟩] } }
    s.ssm.loads = [⟨cOf [], stopRec, 0⟩, ⟨cOf [1], [], 0⟩] ∧ (s.tick 10000000).mono ≤ 0 + 10000000 ∧
    0 + 10000000 < (s.tick 10000001).mono := by decide

/-! Witnesses of PortsSwitchFramesAndKeepTheBooks. -/

/-- A 64-byte frame: destination, source, type 0x88B5. -/
def frameTest : List Byte :=
  let d := beBytes 6 0x020000000001 ++ (beBytes 6 0x020000000002 ++ (beBytes 2 0x88B5 ++ zeros 46))
  d ++ leBytes 4 (crc32 d).toNat

/-- `sRun` with ports 2 and 3 forwarding in VLAN 1, and 200 cells free in the shared pool. -/
def sNet : State :=
  ([2, 3].foldl (fun (s : State) p => ((s.fput (F.PORT_STAT_LINK p) 1).fput (F.PORT_STAT_STATE p) 2).fput (F.PORT_STAT_PVID p) 1)
    sRun).fput F.INK_FREE_SHARED_CELLS 200

theorem witness_ingress : ¬ sRun.linkUp 2 ∧ sNet.linkUp 2 ∧ sNet.portSt 2 ≠ 0 ∧ sNet.frameOk 2 frameTest ∧
    ¬ sNet.frameOk 2 (zeros 10) ∧ ¬ sNet.headOk 2 (zeros 10) ∧
    ¬ ((sNet.tick 5).finc (F.PORT_RX_FRAMES 2)).cutThrough (((sNet.tick 5).finc (F.PORT_RX_FRAMES 2)).switchIn 2 frameTest) true 5 := by
  decide

theorem witness_feed : let x := sNet.switchIn 2 frameTest
    sNet.poolAdmission x.port (classOf x.pcp) [3] = .shared [3] ∧ x.length ≤ 1522 ∧
    sNet.fget F.INK_HELD_QUEUES_CELLS + cellsOf x.length < 2 ^ 16 ∧
    (sRun.dests 6 0x0180C2000000 1).1 = [] := by decide

/-- A frame from port 2 in the queue of port 3. -/
def sQueued : State := (sNet.feed (sNet.switchIn 2 frameTest) [3]).1

theorem witness_egress : (sQueued.net.frame 0).isSome ∧ ((sQueued.net.frame 0).map (·.refs)) = some [3] ∧
    (sQueued.net.headOf 3 1).isSome ∧ ¬ sQueued.net.busy 3 ∧
    ((sQueued.net.headOf 3 1).any fun f => (sQueued.net.gate 3).fits 1 5 (wireTenths 3 (egressLength f 3))
      && !(sQueued.net.gate 3).oversize 1 (wireTenths 3 (egressLength f 3))) ∧ (sQueued.net.frames.all fun f => f.port ≤ 6) := by decide

/-- The same frame on its way. -/
def sSending : State := { sQueued with net := { sQueued.net with tx := [⟨3, 0, 1, 5, frameTest, false, false⟩] } }

theorem witness_transmission : (sSending.net.tx.find? (·.port == 3)).isSome ∧ sSending.net.busy 3 ∧
    10 * 5 + wireTenths 3 frameTest.length ≤ 10 * (sSending.tick 5000).now := by decide

theorem witness_gate_and_table :
    let s : State := { sNet with net := { sNet.net with
      gates := List.replicate 6 ⟨none, some (⟨0, 1000, [(1, 1000)]⟩, 7), 0xFF⟩, fdb := [⟨5, 1, 4, false, 0⟩, ⟨6, 1, 4, true, 0⟩] } }
    (s.net.gate 2).next = some (⟨0, 1000, [(1, 1000)]⟩, 7) ∧ 7 ≤ (s.tick 8).now ∧ 2 < s.net.gates.length ∧
    fdbFind s.net.fdb 5 1 = some ⟨5, 1, 4, false, 0⟩ ∧ s.net.ageS ≠ 0 ∧
    0 + s.net.ageS * 1000000000 ≤ (s.tick 300000000000).mono ∧ fdbFind s.net.fdb 6 1 = some ⟨6, 1, 4, true, 0⟩ := by decide

theorem witness_at_t : ¬ (sRun.upTo 5).linkUp 2 ∧ (sNet.upTo 5).linkUp 2 ∧ (sNet.upTo 5).portSt 2 ≠ 0 ∧ (sSending.upTo 5).net.busy 3 ∧
    (sSending.upTo 5000).net.tx.find? (fun y => y.port == 3) = some ⟨3, 0, 1, 5, frameTest, false, false⟩ ∧ frameTest ≠ [] ∧
    10 * 5 + wireTenths 3 frameTest.length ≤ 10 * (sSending.upTo 5000).now ∧ (∀ f ∈ (sSending.upTo 5000).net.frames, f.port ≤ 6) := by
  decide

theorem witness_frame_forms :
    let u := (sNet.upTo 5).finc (F.PORT_RX_FRAMES 2)
    let w := u.configAt (u.firstByte 2 frameTest.length)
    w.frameOk 2 frameTest ∧ ¬ w.frameOk 2 (zeros 10) ∧ ¬ w.headOk 2 (zeros 10) ∧
    ¬ u.cutThrough (w.switchIn 2 frameTest) (w.flag (F.PORT_STAT_CUT 2)) (u.firstByte 2 frameTest.length + 64 * byteTenths 2) := by decide

/-- A frame of 64 bytes to `d`, or, of 100, a bad one. -/
def cutFrame (d : Nat) (bad : Bool) : List Byte :=
  let x := beBytes 6 d ++ frameTest.drop 6
  if bad then x.take 60 ++ zeros 40 else x.take 60 ++ leBytes 4 (crc32 (x.take 60)).toNat

/-- `sRun` with the two fast ports forwarding in VLAN 1, cut-through on, and 200 cells free. -/
def sCut : State :=
  ([0, 1].foldl (fun (s : State) p => (((s.fput (F.PORT_STAT_LINK p) 1).fput (F.PORT_STAT_STATE p) 2).fput (F.PORT_STAT_PVID p) 1).fput
    (F.PORT_STAT_CUT p) 1) sRun).fput F.INK_FREE_SHARED_CELLS 200

def sCutAt : State := (sCut.upTo 50000000).finc (F.PORT_RX_FRAMES 0)
def cutIn (d : Nat) (bad : Bool) : SwitchIn := (sCutAt.configAt (sCutAt.firstByte 0 (cutFrame d bad).length)).switchIn 0 (cutFrame d bad)

theorem witness_cut_form (d : Nat) (hd : d = 1 ∨ d = 3) (bad : Bool) (h : d ≠ moduleMac) : (cutIn d bad).dests = [1] := by
  have hr : (sCutAt.configAt (sCutAt.firstByte 0 (cutFrame d bad).length)) = sCutAt := by
    rcases hd with rfl | rfl <;> cases bad <;> rfl
  unfold cutIn; rw [hr]
  have hb : (d == moduleMac) = false := by simpa using h
  have : (sCutAt.switchIn 0 (cutFrame d bad)).dests = (sCutAt.dests 0 d 1).1 := by
    rcases hd with rfl | rfl <;> cases bad <;> rfl
  rw [this]; simp only [State.dests, State.rawDest, hb]
  rcases hd with rfl | rfl <;> decide

theorem witness_cut_dest : ∃ d : Nat, (d = 1 ∨ d = 3) ∧ d ≠ moduleMac := by
  by_cases h : 1 = moduleMac
  · exact ⟨3, .inr rfl, by omega⟩
  · exact ⟨1, .inl rfl, h⟩

theorem witness_cut : ∃ d : Nat, ∀ bad : Bool,
    let w := sCutAt.configAt (sCutAt.firstByte 0 (cutFrame d bad).length)
    (w.frameOk 0 (cutFrame d bad) = !bad) ∧ w.headOk 0 (cutFrame d bad) ∧
    sCutAt.cutThrough (cutIn d bad) (w.flag (F.PORT_STAT_CUT 0)) (sCutAt.firstByte 0 (cutFrame d bad).length + 64 * byteTenths 0) := by
  obtain ⟨d, hd, h⟩ := witness_cut_dest
  refine ⟨d, fun bad => ?_⟩
  have hs := witness_cut_form d hd bad h
  simp only [State.cutThrough, hs]
  rcases hd with rfl | rfl <;> cases bad <;> decide

theorem witness_feed_room : (∀ f ∈ sNet.net.frames, f.id ≠ sNet.net.nextId) ∧ sNet.fget F.INK_HELD_INGRESS_CELLS + 7 < 2 ^ 16 ∧
    ([3].Nodup ∧ ∀ p ∈ [3], p < 7) ∧ (∃ p ∈ [3], p ≠ 6) := by decide

/-- A frame whose last reference leaves: plain, and one that the telegram engine still reads. -/
theorem witness_last_reference : let e : State := { sQueued with net := { sQueued.net with frames := sQueued.net.frames.map fun f => { f with engine := true } } }
    (sQueued.net.frames.all fun f => f.refs == [3] && f.shared && !f.engine && sQueued.net.frame f.id == some f) ∧ sQueued.net.frames ≠ [] ∧
    (e.net.frames.all fun f => f.refs == [3] && f.shared && f.engine && e.net.frame f.id == some f) ∧
    sQueued.fget F.INK_FREE_SHARED_CELLS < 2 ^ 15 ∧ sQueued.fget F.INK_HELD_ENGINE_CELLS < 2 ^ 15 := by decide

theorem witness_send_head : let u := sQueued.upTo 5
    u.linkUp 3 ∧ u.portSt 3 ≠ 0 ∧ ¬ u.net.busy 3 ∧ (u.net.headOf 3 1).isSome ∧
    ((u.net.headOf 3 1).all fun f => (u.net.gate 3).fits 1 u.now (wireTenths 3 (egressLength f 3))) ∧
    ((List.range 8).all fun k => k == 1 || (u.net.headOf 3 k).isNone) := by decide

theorem witness_port_six : let s : State := { sNet with net := { sNet.net with ports := sNet.net.ports.map fun c => { c with accept := 1 } } }
    ¬ acceptOk (s.net.cfg 6).accept false := by decide

/-! Witnesses of NetworkSetsTheInkwellAndMp. -/

/-- A VLAN record. -/
def recVlan : List Byte := [2, 0, 5, 0, 0x7F, 0x7F] ++ zeros 10

/-- `sSess` with a network set of one record. -/
def sNetSet (r : List Byte) (closed : Option Nat) : State :=
  { sSess 3 with net := { sRun.net with set := some ⟨[r], none, closed, 0⟩ } }

/-- A PTP_PORT record with an external state without EXT_CFG. -/
def recPtpBad : List Byte := [8, 2, 1, 2] ++ zeros 12

theorem witness_net_set : ((sSess 3).tick 5).admits (cOf (zeros 2 ++ (leBytes 2 1 ++ (zeros 4 ++ recVlan)))) 3 ∧
    recVlan.length = netRecLen recVlan ∧ netRecOk recVlan ∧ (sSess 3).net.set = none ∧
    ((sNetSet recVlan none).tick 5).admits (cOf (1 :: zeros 7)) 3 ∧ fdbSetOk (sNetSet recVlan none) [recVlan] ∧
    ptpSetOk (sNetSet recVlan none) [recVlan] ∧ ¬ ptpSetOk (sNetSet recPtpBad none) [recPtpBad] ∧
    (sNetSet recVlan (some 5)).net.set.isSome ∧ 0 + 10000000000 ≤ ((sNetSet recVlan none).tick 10000000000).now := by decide

/-- An ARP request for the address `ip` with its FCS. -/
def arpTest (ip : Nat) : List Byte :=
  let d := beBytes 6 0xFFFFFFFFFFFF ++ (beBytes 6 2 ++ (beBytes 2 0x0806 ++ (beBytes 6 0x000108000604 ++ (beBytes 2 1 ++
    (zeros 6 ++ (zeros 4 ++ (zeros 6 ++ (beBytes 4 ip ++ zeros 18))))))))
  d ++ leBytes 4 (crc32 d).toNat

/-- An ICMP echo request to the address `ip` with its FCS. -/
def echoTest (ip : Nat) : List Byte :=
  let d := beBytes 6 0xFFFFFFFFFFFF ++ (beBytes 6 2 ++ (beBytes 2 0x0800 ++ ([0x45, 0] ++ (beBytes 2 46 ++ (zeros 5 ++ ([1] ++ (zeros 6 ++
    (beBytes 4 ip ++ ([8] ++ zeros 25)))))))))
  d ++ leBytes 4 (crc32 d).toNat

/-- `sRun` with MP's address configured. -/
def sMp : State := { sRun with net := { sRun.net with mpAddr := some 0x0A000001 } }

theorem witness_mp : frameDst (dropFcs (arpTest 0x0A000001)) = 0xFFFFFFFFFFFF ∧ fcsOk (arpTest 0x0A000001) ∧
    64 ≤ (arpTest 0x0A000001).length ∧ sMp.mpArp (dropFcs (arpTest 0x0A000001)) ∧
    frameDst (dropFcs (echoTest 0x0A000001)) = 0xFFFFFFFFFFFF ∧ fcsOk (echoTest 0x0A000001) ∧ 64 ≤ (echoTest 0x0A000001).length ∧
    sMp.mpEcho (dropFcs (echoTest 0x0A000001)) ∧ ¬ sMp.mpArp (dropFcs (echoTest 0x0A000001)) ∧ ¬ fcsOk (zeros 64) := by decide

theorem witness_ink_commands : ((sSess 3).tick 5).admitsScribe (cOf []) 1 ∧
    ((sSess 3).tick 5).admitsScribe (cOf (BitVec.ofNat 8 2 :: 0 :: (leBytes 2 3 ++ zeros 4))) 3 ∧
    ((sSess 3).tick 5).admitsScribe (cOf (0xFF :: zeros 7)) 3 := by decide

theorem witness_net_at : ((sSess 3).upTo 5).admits (cOf (zeros 2 ++ (leBytes 2 1 ++ (zeros 4 ++ recVlan)))) 3 ∧
    ((sSess 3).upTo 5).net.set.all (fun z => z.closedAt.isNone) ∧ ((sNetSet recVlan none).upTo 5).admits (cOf (1 :: zeros 7)) 3 ∧
    ((sNetSet recVlan none).upTo 5).net.set = some ⟨[recVlan], none, none, 0⟩ ∧ fdbSetOk ((sNetSet recVlan none).upTo 5) [recVlan] ∧
    ptpSetOk ((sNetSet recVlan none).upTo 5) [recVlan] ∧ ¬ ptpSetOk ((sNetSet recPtpBad none).upTo 5) [recPtpBad] ∧
    ((sNetSet recVlan (some 5)).upTo 5).net.set = some ⟨[recVlan], none, some 5, 0⟩ ∧
    0 + 10000000000 ≤ ((sNetSet recVlan none).upTo 10000000000).now ∧ ((sSess 3).upTo 5).admitsScribe (cOf []) 1 := by decide

theorem witness_mp_at : ¬ (sMp.upTo 5).mpConflict (dropFcs (arpTest 0x0A000001)) ∧ (sMp.upTo 5).mpArp (dropFcs (arpTest 0x0A000001)) ∧
    (sMp.upTo 5).mpEcho (dropFcs (echoTest 0x0A000001)) ∧ ¬ (sMp.upTo 5).mpArp (dropFcs (arpTest 0x0A000002)) ∧
    ¬ (sMp.upTo 5).mpEcho (dropFcs (arpTest 0x0A000002)) ∧ ¬ (sMp.upTo 5).mpUdp (dropFcs (arpTest 0x0A000002)) ∧
    (arpTest 0x0A000002).length ≤ 1518 := by decide

/-! Witnesses of TelegramsAreTabledDeliveredAndPublished. -/

/-- A publication of 8 bytes every 1 ms in VLAN 1, to a multicast address. -/
def recPub : List Byte :=
  leBytes 2 5 ++ [2, 0, 0, 0] ++ leBytes 2 1 ++ zeros 6 ++ leBytes 2 8 ++ zeros 8 ++ [0, 1] ++ zeros 2 ++ leBytes 4 1000
    ++ zeros 4 ++ [1, 0, 0x5E, 0, 0, 1] ++ zeros 30

/-- An entry of the table. -/
def entryOf (r : List Byte) (st : Nat) : TgeEntry := { tgeNew r .none 0 with st := st }

/-- A subscription of 8 bytes every 1 ms that is substituted after one silent period. -/
def recSub : List Byte :=
  leBytes 2 6 ++ [1, 0, 0x3F, 0] ++ leBytes 2 1 ++ zeros 6 ++ leBytes 2 8 ++ zeros 8 ++ [1, 0] ++ zeros 2 ++ leBytes 4 1000 ++ zeros 40

/-- `sSess` with one publication and one subscription, a dataset due for it at 7 us. -/
def sTge : State :=
  { sSess 2 with tge := { tgeReset with entries := [entryOf recPub 5, entryOf recSub 1], due := [⟨6, 7000, zeros 8, none⟩] } }

theorem witness_tge_changes : ((sSess 2).tick 5).admits (cOf recPub) 2 ∧ 64 ≤ recPub.length ∧
    tgeCheck ((sSess 2).tick 5).tgeAhead (.add recPub) = .ok ∧ tgeCheck (sTge.tick 5).tgeAhead (.add recPub) = .bad ∧
    delLenOk (cOf (leBytes 2 1 ++ zeros 2 ++ leBytes 2 5 ++ zeros 2)) ∧
    (sTge.tick 5).admits (cOf (leBytes 2 1 ++ zeros 2 ++ leBytes 2 5 ++ zeros 2)) 2 ∧
    tgeCheck (sTge.tick 5).tgeAhead (.del (delIndices (cOf (leBytes 2 1 ++ zeros 2 ++ leBytes 2 5 ++ zeros 2)))) = .ok ∧
    tgeCheck (sTge.tick 5).tgeAhead (.del [9]) = .bad := by decide

/-- A table whose bucket and overflow are full of entries. -/
def tableFull (r : List Byte) : TgeTable :=
  ⟨List.replicate 4 { tgeNew recPub .none 0 with slot := .bucket (teBucket r) }
    ++ List.replicate 256 { tgeNew recPub .none 0 with slot := .overflow }, [⟨0, 7, 0, 1⟩], (0, 0)⟩

/-- `recSub` at UDP port 7. -/
def recSub7 : List Byte := splice recSub 12 (leBytes 2 7)

theorem witness_tge_full :
    let s : State := { sSess 2 with tge := { tgeReset with entries := (tableFull recSub7).entries, profiles := (tableFull recSub7).profiles } }
    (s.tick 5).admits (cOf recSub7) 2 ∧ tgeCheck (s.tick 5).tgeAhead (.add recSub7) = .full := by decide

theorem witness_telegrams : tgeFind sTge.tge.entries 6 = some (entryOf recSub 1) ∧ teKind recSub = 1 ∧
    sTge.tge.due.filter (fun x => x.entry == 6 && decide (x.at_ ≤ (sTge.tick 7000).now)) = [⟨6, 7000, zeros 8, none⟩] ∧
    (sTge.tge.entries.map (·.index)).Nodup ∧ 3000000 % tePeriod recSub = 0 ∧ ¬ (entryOf recSub 1).arrived sTge.tge.due 3000000 ∧
    teKind recPub = 2 ∧ 996000 % tePeriod recSub ≠ 0 := by decide

theorem witness_publication : tgeFind sTge.tge.entries 5 = some (entryOf recPub 5) ∧ (entryOf recPub 5).index = 5 ∧
    ((sTge.tick 996000).tgoArrive (996000 - 1000)).sends (996000 - 1000) (996000 + 4000) = [entryOf recPub 5] ∧
    ¬ sTge.flag F.VOTE_CTRL_FAILED ∧ ¬ sTge.notActing ∧ ¬ allZero (teDstMac recPub) ∧
    (sTge.fput F.VOTE_CTRL_FAILED 1).flag F.VOTE_CTRL_FAILED := by decide

theorem witness_tge_commit :
    let s : State := { sTge with now := 50000, tge := { sTge.tge with pending := [⟨some (cOf []), 5, .del [5]⟩] } }
    s.tge.pending = [⟨some (cOf []), 5, .del [5]⟩] ∧ 5 + 20000 ≤ s.now := by decide

/-- An object of the subscription `recSub`, as the lanes get it. -/
def tgiBytes : List Byte := tgiObject 6 ⟨1, true, zeros 8, 3, false, 50000⟩

theorem witness_tgi_object : (sTge.tgiOf ((streamOfTag sTge.fabric .laneA (tagOf 1 kindTgiSet 5)).obj ++ tgiBytes)).any (·.isSome) ∧
    sTge.tgiOf ((streamOfTag sTge.fabric .laneA (tagOf 1 kindTgiSet 5)).obj ++ leBytes 8 6) = none ∧
    (streamOfTag sTge.fabric .laneA (tagOf 1 kindTgiSet 5)).expected = none ∧ genAccepted sTge.fabric.gen (tagGen (tagOf 1 kindTgiSet 5)) ∧
    sTge.excludable .a := by decide

theorem witness_telegrams_at : ((sSess 2).upTo 5).admits (cOf recPub) 2 ∧ tgeCheck ((sSess 2).upTo 5).tgeAhead (.add recPub) = .ok ∧
    tgeCheck (sTge.upTo 5).tgeAhead (.add recPub) = .bad ∧
    (sTge.upTo 5).admits (cOf (leBytes 2 1 ++ zeros 2 ++ leBytes 2 5 ++ zeros 2)) 2 ∧
    tgeCheck (sTge.upTo 5).tgeAhead (.del (delIndices (cOf (leBytes 2 1 ++ zeros 2 ++ leBytes 2 5 ++ zeros 2)))) = .ok ∧
    tgeFind (sTge.upTo 7000).tge.entries 6 = some (entryOf recSub 1) ∧
    (sTge.upTo 7000).tge.due.filter (fun x => x.entry == 6 && decide (x.at_ ≤ (sTge.upTo 7000).now)) = [⟨6, 7000, zeros 8, none⟩] := by decide

theorem witness_boundary_at : ((sTge.upTo 3000000).tge.entries.map (·.index)).Nodup ∧ (tgeFind (sTge.upTo 3000000).tge.entries 6).isSome ∧
    teKind recSub ≠ 2 ∧ 3000000 % tePeriod recSub = 0 ∧ ((tgeFind (sTge.upTo 3000000).tge.entries 6).all fun e =>
      !e.arrived (sTge.upTo 3000000).tge.due 3000000) ∧ (tgeFind (sTge.upTo 3000000).tge.entries 5).isSome := by decide

theorem witness_tge_add : let r := leBytes 2 7 ++ recSub.drop 2
    let s : State := { sTge with now := 50000, tge := { sTge.tge with pending := [⟨some (cOf []), 5, .add r⟩] } }
    s.tge.pending = [⟨some (cOf []), 5, .add r⟩] ∧ 5 + 20000 ≤ s.now ∧ teKind r = 1 ∧ tgeFind s.tge.entries (teIndex r) = none ∧
    sTge.reachable R.TGE_REJ_CAP := by decide

/-! Witnesses of PtpMeasuresOffsetsAndDelays. -/

/-- `sRun` with port 2 in PTP with `mode`, in state `st`, selected as slave port, and port data `x`. -/
def sPtp (st : Nat) (x : PtpPort) : State :=
  { (sRun.fput (F.PTP_PORT_STAT_PORT_STATE 2) st).fput F.TIME_STATE_SLAVE_PORT 2 with
    time := { timeReset with record := leBytes 16 0x01000000000000000000000000000100, ports := timeReset.ports.set 2 x } }

theorem witness_sync : let s := sPtp 9 { ptpPortReset with mode := 3, link := some 5, syncWait := true, syncSeq := 7, pdT1 := some 3, pdSeq := 8 }
    2 < s.time.ports.length ∧ s.isSlavePort 2 ∧ (s.time.port 2).p2p ∧ (s.time.port 2).link = some 5 ∧ (s.time.port 2).syncWait ∧
    (s.time.port 2).syncSeq = 7 ∧ s.ptpOn 2 ∧ (s.time.port 2).pdT1 = some 3 ∧ (s.time.port 2).pdSeq = 8 ∧ ¬ s.isSlavePort 3 ∧
    ¬ s.time.extCfg ∧ s.maySend 2 2 ∧ ¬ s.maySend 2 1 := by decide

theorem witness_delay : let s := sPtp 6 { ptpPortReset with mode := 1, reqSeq := 7, reqT3 := some 9, syncT1 := some 4 }
    s.isSlavePort 2 ∧ ¬ (s.time.port 2).p2p ∧ (s.time.port 2).reqSeq = 7 ∧ (s.time.port 2).reqT3 = some 9 ∧
    (s.time.port 2).syncT1 = some 4 ∧ s.fget (F.PTP_PORT_STAT_PORT_STATE 2) = 6 ∧ s.fget F.TIME_STATE_SLAVE_PORT ≠ 0xF ∧
    s.time.syncAt + s.time.field 11 * logNs (sByte s.time.record 9) ≤ (s.tick 100000000000).mono := by decide

theorem witness_ext_cfg : ({ sRun with time := { timeReset with record := [0, 1, 0, 8] } } : State).time.extCfg := by decide

theorem witness_sync_at : let u := (sPtp 9 { ptpPortReset with mode := 3, link := some 5, syncWait := true, syncSeq := 7, pdT1 := some 3, pdSeq := 8, pdWait := true }).upTo 5
    2 < u.time.ports.length ∧ u.isSlavePort 2 ∧ (u.time.port 2).p2p ∧ (u.time.port 2).link = some 5 ∧ (u.time.port 2).syncWait ∧
    (u.time.port 2).syncSeq = 7 ∧ u.ptpOn 2 ∧ (u.time.port 2).pdSeq = 8 ∧ (u.time.port 2).pdT1 = some 3 ∧ (u.time.port 2).pdWait ∧
    ¬ u.isSlavePort 3 ∧ ¬ u.time.extCfg ∧ u.maySend 2 2 ∧ ¬ u.maySend 2 1 ∧ u.fget (F.PTP_PORT_STAT_PORT_STATE 2) ≠ 6 := by decide

theorem witness_delay_at : let u := (sPtp 6 { ptpPortReset with mode := 1, reqSeq := 7, reqT3 := some 9, syncT1 := some 4 }).upTo 5
    2 < u.time.ports.length ∧ u.isSlavePort 2 ∧ ¬ (u.time.port 2).p2p ∧ (u.time.port 2).reqSeq = 7 ∧ (u.time.port 2).reqT3 = some 9 ∧
    (u.time.port 2).syncT1 = some 4 ∧ u.ptpOn 2 ∧ u.fget (F.PTP_PORT_STAT_PORT_STATE 2) = 6 := by decide

theorem witness_master_at : let u := (sPtp 6 { ptpPortReset with mode := 1 }).upTo 100000000000
    u.fget F.TIME_STATE_SLAVE_PORT ≠ 0xF ∧ u.time.syncAt + u.time.field 11 * logNs (sByte u.time.record 9) ≤ u.mono ∧
    (({ sRun with time := { timeReset with record := [0, 1, 0, 8] } } : State).upTo 5).time.extCfg ∧
    (sRun.fput F.TIME_STATE_SLAVE_PORT 0xF |>.upTo 5).fget F.TIME_STATE_SLAVE_PORT = 0xF := by decide

/-! Witnesses of StepsMoveTheScaleAndPpsMarksIt. -/

/-- `sSess` in state `st` of the time unit, at standstill when `motion` is 1, with a step pending. -/
def sStep (st motion : Nat) (k : Option PendStep) : State :=
  { ((sSess 3).fput F.TIME_STATE_STATE st).fput F.SSM_STATE_MOTION motion with
    time := { timeReset with step := k, restep := k.map fun _ => (cOf [], 0) } }

theorem witness_time_commands : ((sStep 0 1 none).tick 5).admits (cOf (leBytes 8 9 ++ (leBytes 4 7 ++ zeros 4))) 3 ∧
    ¬ (sStep 0 1 none).notActing ∧ (sStep 0 1 none).tmState = 0 ∧ (sStep 0 1 none).time.step = none ∧ (sStep 1 1 none).tmState ≠ 0 ∧
    ((sStep 1 1 none).tick 5).admits (cOf []) 3 ∧ (sStep 1 1 none).standstill ∧ (sStep 1 1 none).tmState = 1 ∧
    (sStep 1 1 none).time.restep = none ∧ ¬ (sStep 1 2 none).standstill := by decide

theorem witness_step_point : let s := sStep 0 1 (some ⟨.set (cOf []) 5000000000, 0, 0⟩)
    s.time.step = some ⟨.set (cOf []) 5000000000, 0, 0⟩ ∧ s.now ≤ 500000 ∧ (s.tick 500000).stepPoint 0 500000 ∧
    ¬ (s.tick 5).stepPoint 0 5 ∧ s.time.restep = some (cOf [], 0) ∧ 0 + 10000000000 ≤ (s.tick 10000000000).now ∧
    (sStep 0 1 (some ⟨.first, 7, 0⟩)).time.step = some ⟨.first, 7, 0⟩ ∧
    (sStep 1 2 (some ⟨.restep (cOf []), 7, 0⟩)).time.step = some ⟨.restep (cOf []), 7, 0⟩ := by decide

theorem witness_pps : nsOf ((sStep 1 1 none).tick 3000000000).now = 0 ∧ secOf ((sStep 1 1 none).tick 3000000000).now < 2 ^ 64 ∧
    100000000 ≤ nsOf ((sStep 1 1 none).tick 3100000000).now ∧ ¬ sRun.flag F.TIME_PPSIN_VALID ∧
    (sRun.fput F.TIME_PPSIN_VALID 1).flag F.TIME_PPSIN_VALID := by decide

theorem witness_step_at : let s := sStep 0 1 (some ⟨.set (cOf []) 5000000000, 0, 0⟩)
    (s.upTo 500000).time.step = some ⟨.set (cOf []) 5000000000, 0, 0⟩ ∧ s.now ≤ 500000 ∧ (s.upTo 500000).stepPoint 0 500000 ∧
    ¬ (s.upTo 5).stepPoint 0 5 ∧ (s.upTo 10000000000).time.restep = some (cOf [], 0) ∧ 0 + 10000000000 ≤ (s.upTo 10000000000).now := by decide

theorem witness_pps_at : nsOf ((sStep 1 1 none).upTo 3000000000).now = 0 ∧ ((sStep 1 1 none).upTo 3000000000).tmState = 1 ∧
    secOf ((sStep 1 1 none).upTo 3000000000).now < 2 ^ 64 ∧ 100000000 ≤ nsOf ((sStep 1 1 none).upTo 3100000000).now ∧
    sRun.reachable R.TIME_PPSIN := by decide

/-! Witnesses of WindowsMapInboundRequests. -/

/-- The default windows with read-ahead lines, fetched at 0 and at 7, and violations of the default state. -/
def sBridge : State := { sRun with brg := { brgReset with ahead := [(64, 0), (128, 7)] } }

/-- The host domain is off, and the fabric domain with it. -/
def sHostOff : State := (State.reset.setPower pdHost false).setPower pdFab false

theorem witness_inbound_read : sBridge.bridgeUp ∧ sBridge.farOk 0x00FFFFFE 4 ∧ sBridge.winAt 0x00FFFFFE = some 0 ∧
    sBridge.bar2 0x3FFFFFFF = none ∧ 0x3FFFFFFF ∈ bar2Offsets 0x3FFFFFFC 4 ∧ sBridge.farOk 0x3FFFFFFC 4 ∧
    ¬ sBridge.flag F.SYS_VIOL_CAP_VALID ∧ ¬ (sBridge.setPower pdFab false).farOk 0 1 ∧ (sBridge.setPower pdFab false).bridgeUp ∧
    ¬ sHostOff.bridgeUp ∧ sBridge.powered pdHost := by decide

theorem witness_bar0_read : ∃ w, exec (if pairLow 0x10 then .lowRegisterRead .host 0x10 else .highRegisterRead .host 0x10) (sBridge.tick 5) =
    .next w := ⟨_, rfl⟩

theorem witness_inbound_write : (∀ x ∈ bar2Offsets 0x09000000 2, sBridge.winAt x = some 5 ∧
      (regionAt (sBridge.winTarget 5 + (x - sBridge.winOff 5))).any fun r => r.plain && (r.hostWrites && sBridge.powered r.domain)) ∧
    sBridge.fget (F.WIN_CFG_LANES 5) = 0 ∧ sBridge.flag (F.WIN_CFG_WRITE 5) ∧ sBridge.farOk 0x01000000 2 ∧
    (∀ x ∈ bar2Offsets 0x01000000 2, ¬ sBridge.mayWrite x) ∧ ¬ (sBridge.setPower pdFab false).farOk 0 1 ∧
    ¬ sBridge.flag F.BRG_PW_CAP_VALID ∧ (sBridge.fput F.BRG_PW_CAP_VALID 1).flag F.BRG_PW_CAP_VALID := by decide

/-- R355's worked example: window 2 maps the OUT image for a big-endian host. -/
def recWin : List Byte := [2, 3, 2, 24] ++ (leBytes 4 0x02000000 ++ (leBytes 4 0x01000000 ++ zeros 4))

theorem witness_window_set : ((sSess 2).tick 5).admitsScribe (cOf ([0, 0, 1, 0] ++ (zeros 4 ++ recWin))) 2 ∧ recWin.length = 16 ∧
    windowRecOk recWin ∧ (sSess 2).windowsOk [recWin] ∧ ¬ windowRecOk (zeros 16) := by decide

theorem test_worked_example : laneMap 2 0x240 = 0x243 ∧ laneMap 2 0x246 = 0x245 ∧ laneMap 2 0x247 = 0x244 := by decide

theorem witness_mailbox : sBridge.quill.mailbox = none ∧
    { sBridge with quill := { sBridge.quill with mailbox := some ⟨48, none⟩ } }.quill.mailbox ≠ none := by decide

theorem witness_capture_block : sBridge.reachable R.BRG_PW_CAP ∧ sBridge.bridgeUp ∧ 255 < 256 := by decide

/-! Witnesses of HostLinkCreditsAndResets. -/

/-- Queue 3, a MOVE queue with `k` retries that serves `m`, with the outbound read of its burst on tag 2. -/
def sMove (k : Nat) (m : Move) : State :=
  let s : State := { sRun with brg := { brgReset with reads := [⟨2, 64, .burst 3, 0⟩], waiting := 2 ^ 32 } }
  let s := ((s.fput (F.Q_CFG_RETRY 3) k).fput (F.Q_CFG_TYPE 3) qMove).fput (F.Q_STAT_STATE 3) qRunning
  (s.fput F.QUE_ENGINE_INFLIGHT 1).setRun 3 { queueReset with active := some m }

/-- A move of 64 bytes from host memory to the staging region. -/
def tDesc : List Byte := [2, 0, 0, 0] ++ (zeros 4 ++ (leBytes 8 0x1000 ++ (leBytes 8 (2 ^ 63 + 0x10000000) ++ (leBytes 4 64 ++ (zeros 4 ++
  ([12] ++ (zeros 30 ++ [1])))))))

def tMove (b : Option Burst) : Move := { moveOf 7 tDesc with burst := b, limit := 2 }

theorem witness_outbound : let s := sMove 2 (tMove (some ⟨64, none, none⟩))
    s.que.queues.length = 16 ∧ s.brg.reads.find? (fun x => x.tag == 2) = some ⟨2, 64, .burst 3, 0⟩ ∧
    (s.que.queue 3).active = some (tMove (some ⟨64, none, none⟩)) ∧ (tMove (some ⟨64, none, none⟩)).burst = some ⟨64, none, none⟩ ∧
    (tMove (some ⟨64, none, none⟩)).retries < (tMove (some ⟨64, none, none⟩)).limit ∧ 0 + 50000000 ≤ (s.tick 50000000).now ∧
    (s.tick 49999999).now < 0 + 50000000 ∧ s.powered pdHost ∧ s.bridgeUp := by decide

theorem witness_vectors : let s := sMove 2 (tMove none)
    s.brg.waiting = 2 ^ 32 ∧ State.msixWord { s with brg := { s.brg with msix := [(131, 2)] } } (4 * 32 + 3) &&& 1 = 0 ∧
    sRun.bridgeUp ∧ sRun.brg.waiting = 0 ∧ ¬ sRun.qScribe 3 ∧ (sRun.fput (F.Q_CFG_PRODUCER 14) 1).qScribe 14 := by decide

theorem witness_host_rest : sRun.reachable R.BRG_EVT ∧ ¬ sHostOff.bridgeUp ∧ (sMove 2 (tMove none)).que.queues.length = 16 ∧
    (sMove 2 (tMove none)).bridgeUp := by decide

/-! Witnesses of RingsDoorbellsAndQueueStates. -/

/-- Queue 3, a MOVE queue of 16 descriptors in state `st` with cause `c`, TAIL 7, FETCH and DONE 5, halted at 5. -/
def sRing (st c : Nat) (x : QueueRun) : State :=
  let s := ((sSess 2).fput (F.Q_STAT_STATE 3) st).fput (F.Q_STAT_CAUSE 3) c
  let s := ((s.fput (F.Q_CTRL_SIZE_LOG2 3) 4).fput (F.Q_DB_TAIL 3) 7).fput (F.Q_CFG_FETCH 3) 5
  (((s.fput (F.Q_STAT_DONE 3) 5).fput (F.Q_CFG_TYPE 3) qMove).fput (F.Q_HALT_DESC_COUNTER 3) 5).setRun 3 x

theorem witness_doorbell : let s := sRing qRunning 0 queueReset
    s.mayDrive 3 .host ∧ (sRing qDisabled 0 queueReset).qState 3 = qDisabled ∧ s.qState 3 = qRunning ∧
    ctrDiff (21 % 65536) (s.qDone 3) ≤ s.qSize 3 ∧ ctrDiff (21 % 65536) (s.qTail 3) ≤ s.qSize 3 ∧
    ¬ (ctrDiff (22 % 65536) (s.qDone 3) ≤ s.qSize 3 ∧ ctrDiff (22 % 65536) (s.qTail 3) ≤ s.qSize 3) ∧ ¬ s.mayDrive 3 .scribe ∧
    s.mayDrive 3 .host ∧ s.qState 3 ≠ qDisabled := by decide

theorem witness_enable : let s := sRing qDisabled 0 queueReset
    s.mayDrive 3 .host ∧ s.qState 3 = qDisabled ∧ ¬ s.enableHeld 3 ∧ 4 ≤ s.fget (F.Q_CTRL_SIZE_LOG2 3) ∧ s.fget (F.Q_CTRL_SIZE_LOG2 3) ≤ 12 ∧
    s.que.queues.length = 16 ∧ (s.fput (F.Q_CTRL_SIZE_LOG2 3) 3).fget (F.Q_CTRL_SIZE_LOG2 3) < 4 := by decide

theorem witness_disable : let s := sRing qRunning 0 queueReset
    let u := sRing qRunning 0 { queueReset with active := some (tMove (some ⟨64, none, none⟩)) }
    s.mayDrive 3 .host ∧ s.qState 3 = qRunning ∧ s.que.queues.length = 16 ∧ (s.que.queue 3).active = none ∧ (s.que.queue 3).fetched = [] ∧
    (s.que.queue 3).cmds = [] ∧ u.qState 3 = qRunning ∧ (u.que.queue 3).active = some (tMove (some ⟨64, none, none⟩)) ∧
    (tMove (some ⟨64, none, none⟩)).burst ≠ none := by decide

theorem witness_resume_skip : let m := { tMove none with retryAt := some 9 }
    let s := sRing qHalted haltBus { queueReset with active := some m }
    s.mayDrive 3 .host ∧ s.qState 3 = qHalted ∧ (s.que.queue 3).active = some m ∧ m.retryAt = some 9 ∧ m.burst = none ∧ (∀ b, m.burst = some b → b.line = none) ∧
    (s.que.queue 3).fetched = [] ∧ (s.que.queue 3).cmds = [] ∧ (s.fput (F.Q_DB_TAIL 3) 5).qFetch 3 = (s.fput (F.Q_DB_TAIL 3) 5).qTail 3 ∧
    s.fget (F.Q_STAT_CAUSE 3) = haltBus ∧ s.que.queues.length = 16 ∧ (sRing qHalted haltOwn queueReset).fget (F.Q_STAT_CAUSE 3) = haltOwn ∧
    (sRing qHalted haltFormat queueReset).fget (F.Q_STAT_CAUSE 3) = haltFormat ∧ s.fget (F.Q_HALT_DESC_COUNTER 3) = 5 ∧ s.qFetch 3 = 5 ∧
    (sRing qHalted haltDoorbell queueReset).fget (F.Q_STAT_CAUSE 3) = haltDoorbell := by decide

theorem witness_descriptor_fetch : let s := sRing qRunning 0 queueReset
    s.served 3 ∧ s.qFetch 3 ≠ s.qTail 3 ∧ (s.que.queue 3).fetched.length < 4 ∧ ¬ isModule (s.descAddr 3 (s.qFetch 3)) ∧ tDesc.length = 64 ∧
    dOwn tDesc ∧ s.descOk 3 tDesc ∧ ¬ (dOwn (zeros 64) ∧ s.descOk 3 (zeros 64)) ∧ (zeros 64 : List Byte).length = 64 := by decide

theorem witness_queue_config : let s := sRing qDisabled 0 queueReset
    let r : List Byte := [1, 3, 1, 4, 2, 0, 0, 0]
    (s.tick 5).admits (cOf ([0, 0, 1, 0] ++ (zeros 4 ++ r))) 2 ∧ (s.tick 5).admits (cOf ([1, 0, 1, 0] ++ (zeros 4 ++ r))) 2 ∧
    (s.tick 5).admits (cOf ([2, 0, 0, 0] ++ zeros 4)) 2 ∧ queRecOk r ∧ byteAt r 0 = 1 ∧ s.que.set = none ∧ s.queSetOk ([] ++ [r]) ∧
    ¬ (sRing qRunning 0 queueReset).queSetOk ([] ++ [r]) ∧
    State.enableHeld { s with que := { s.que with set := some ⟨[], none, none, 0⟩ } } 3 = false ∧
    0 + 10000000000 ≤ (s.tick 10000000000).now := by decide

theorem witness_ring_reach : (sRing qRunning 0 queueReset).reachable (R.Q_STAT 3) := by decide

/-! Witnesses of BurstsMoveDataAndComplete. -/

/-- Queue 3 of type `ty`, RUNNING with TAIL 7 and FETCH 5 and two retries, serves `m`; reads on the way are `rs`. -/
def sServe (ty : Nat) (m : Move) (rs : List OutRead) : State :=
  let s := sRing qRunning 0 { queueReset with active := some m }
  let s := (s.fput (F.Q_CFG_TYPE 3) ty).fput (F.Q_CFG_RETRY 3) 2
  { s with brg := { brgReset with reads := rs, credit := 4096 }, time := { s.time with unit_ := some (zeros 64) } }

/-- A move of 64 bytes between host addresses, with the flags `f` and line `l`. -/
def tHost (f l idle : Nat) : List Byte := [2, BitVec.ofNat 8 f, BitVec.ofNat 8 l, 0] ++ (zeros 4 ++ (leBytes 8 0x1000 ++ (leBytes 8 0x2000 ++
  (leBytes 4 64 ++ (zeros 4 ++ ([if f = 4 then 0 else 12] ++ (zeros 3 ++ (leBytes 4 idle ++ (zeros 23 ++ [1])))))))))

def tHostMove (f l idle : Nat) (b : Option Burst) : Move := { moveOf 5 (tHost f l idle) with burst := b, limit := 2 }

theorem witness_burst_start : let m := tHostMove 0 0 0 none
    let s := sServe qMove m []
    s.inflight < 8 ∧ (s.tick 5).choose = some 3 ∧ (s.tick 5).nextMove 3 = some m ∧ hostSource m.desc ∧ s.que.queues.length = 16 ∧
    8 ≤ (s.fput F.QUE_ENGINE_INFLIGHT 8).inflight ∧ (sRun.tick 5).choose = none := by decide

theorem witness_line_burst : let m := tHostMove 4 18 0 none
    let s := (sServe qMove m []).setAsserted 18 true
    s.inflight < 8 ∧ (s.tick 5).choose = some 3 ∧ (s.tick 5).nextMove 3 = some m ∧ dReq m.desc ∧ s.qType 3 = qMove ∧ dLine m.desc < 32 ∧
    (s.que.queue 3).active = some m ∧ (s.tick 5).unit 18 ≠ none ∧ (s.tick 5).unit 17 = none := by decide

theorem witness_burst_done : let b : Burst := ⟨64, none, some (zeros 64)⟩
    let s := sServe qMove (tHostMove 0 0 0 (some b)) []
    let u := sServe qMove (tHostMove 0 0 0 (some ⟨32, none, some (zeros 32)⟩)) []
    s.qType 3 = qMove ∧ s.qState 3 = qRunning ∧ ¬ isModule (dAddrB (tHost 0 0 0)) ∧ s.canPost 64 ∧ dLenA (tHost 0 0 0) ≤ 0 + 64 ∧
    ¬ dLanded (tHost 0 0 0) ∧ dLanded (tHost 2 0 0) ∧ u.canPost 32 ∧ 0 + 32 < dLenA (tHost 0 0 0) ∧
    ¬ State.canPost { s with brg := brgReset } 64 ∧ (s.que.queue 3).active = some (tHostMove 0 0 0 (some b)) ∧
    (tHostMove 0 0 0 (some b)).burst = some b ∧ (tHostMove 0 0 0 (some b)).retryAt = none := by decide

theorem witness_packet_done : let b : Burst := ⟨64, none, some (zeros 64)⟩
    let s := sServe qCommand (tHostMove 0 0 0 (some b)) []
    s.qType 3 = qCommand ∧ (s.que.queue 3).cmds.length < 16 ∧ ¬ hostSource (splice (tHost 0 0 0) 8 (leBytes 8 (2 ^ 63))) ∧
    (tHostMove 0 0 0 (some b)).retries < (tHostMove 0 0 0 (some b)).limit := by decide

theorem witness_flush_retry : let m := { tHostMove 2 0 0 none with flush := some wbOk, retryAt := some 9 }
    let s := sServe qMove m [⟨0, 0, .flush 3, 0⟩]
    s.readFor (.flush 3) = some ⟨0, 0, .flush 3, 0⟩ ∧ m.flush = some wbOk ∧ 9 ≤ (s.tick 9).now ∧ s.qState 3 = qRunning ∧
    (s.que.queue 3).active = some m ∧ m.retryAt = some 9 ∧ s.inflight < 8 := by decide

theorem witness_idle : let m := { tHostMove 4 18 5 none with lastBurst := some 100 }
    let s := sServe qMove m []
    dReq m.desc ∧ dIdle m.desc ≠ 0 ∧ 100 + dIdle m.desc ≤ (s.tick 5100).now ∧ (s.tick 5099).now < 100 + dIdle m.desc ∧ ¬ dLanded m.desc ∧
    (s.que.queue 3).active = some m := by decide

/-- A move from module memory, and an address of MBOX_M2H. -/
theorem witness_module_burst : let m : Move := { moveOf 5 (splice (tHost 0 0 0) 8 (leBytes 8 (2 ^ 63 + 0x10000000))) with burst := none }
    let s := sServe qMove m []
    (s.tick 5).choose = some 3 ∧ (s.tick 5).nextMove 3 = some m ∧ ¬ dReq m.desc ∧ ¬ hostSource m.desc ∧ (s.que.queue 3).active = some m ∧
    ¬ sRun.qScribe 3 ∧ 4 < 8 ∧ moduleAddr (2 ^ 63 + mboxControl + 4) = some (mboxControl + 4) := by decide

theorem witness_burst_irq : dIrq [2, 1] ∧ ¬ dIrq (tHost 0 0 0) := by decide

/-! Witnesses of PacketsAreForwardedVotedAndAnswered. -/

/-- The header of a request with this opcode, TAG, SEQUENCE, SESSION and length. -/
def tPacket (op tag seq session n : Nat) : List Byte :=
  [1, 0] ++ (leBytes 2 op ++ (leBytes 4 tag ++ (leBytes 8 seq ++ (leBytes 4 n ++ (leBytes 4 session ++ zeros (n - 24))))))

/-- `sSess 2` with a packet of 48 bytes that queue 0 has forwarded. -/
def sPacket (op : Nat) : State :=
  (sSess 2).setRun 0 { queueReset with cmds := [⟨5, tDesc, tPacket op 9 3 1 48, none⟩] }

theorem witness_packet : (sPacket 0x0802).nextPacket 0 = some (tPacket 0x0802 9 3 1 48) ∧ pkOpcode (tPacket 0x0802 9 3 1 48) ∉ scribeOps ∧
    pkSession (tPacket 0x0802 9 3 1 48) ≠ 0 ∧ (sPacket 0x0101).nextPacket 0 = some (tPacket 0x0101 9 3 1 48) ∧
    pkOpcode (tPacket 0x0101 9 3 1 48) ∈ scribeOps ∧ pkOpcode (tPacket 0x0101 9 3 1 48) = 0x0101 ∧ headerOk (tPacket 0x0101 9 3 1 48) ∧
    (sPacket 0x0101).sessionOk (packetCmd 0 (tPacket 0x0101 9 3 1 48) []) ∧ (⟨0, []⟩ : SeqWindow).isNew (pkSequence (tPacket 0x0101 9 3 1 48)) ∧
    ((sPacket 0x0101).session 1).isSome ∧ sRun.nextPacket 3 = none := by decide

/-- A packet that the lanes check, with verdicts formed and delivered. -/
def tFlight (auth : Bool) (formed : List (Lane × Verdict)) (verdicts : List (Lane × (Verdict × Nat))) (decided : Option (Verdict × Nat)) : Inflight :=
  ⟨cOf [], 0x0802, 3, auth, formed, verdicts, decided⟩

def sFlight (i : Inflight) (fences : List Fence) : State :=
  { sSess 2 with quill := { (sSess 2).quill with inflight := [i] }, ductus := { (sSess 2).ductus with fences := fences } }

theorem witness_lane_check : let i := tFlight true [] [] none
    (sFlight i []).quill.inflight = [i] ∧ laneVal i.formed .b = none ∧ (sFlight i []).isVoting .b ∧ 2 ≤ (sFlight i []).voters.length ∧ i.authentic ∧
    ¬ (sFlight i []).fenced i.cmd ∧ i.opcode ∉ notedOps ∧ (sFlight i [⟨cOf [1], 0, .queue, []⟩]).fenced i.cmd ∧ i.opcode ≠ opAbort ∧
    ¬ (tFlight false [] [] none).authentic ∧ i.cmd.session ≠ 0 := by decide

theorem witness_verdicts : let i := tFlight true [(.b, .accept), (.c, .refuse 0x10 0)] [] none
    let j := { i with verdicts := [(.a, (.accept, 7))] }
    let k := { i with verdicts := [(.a, (.refuse 0x10 0, 7))] }
    laneVal i.formed .b = some .accept ∧ i.decided = none ∧ (sFlight i []).quill.inflight = [i] ∧ (sFlight j []).isVoting .a ∧ (sFlight j []).isVoting .b ∧
    ¬ ({ sVoting [.b, .c] with quill := (sFlight j []).quill } : State).isVoting .a ∧
    2 ≤ ({ sVoting [.b, .c] with quill := (sFlight j []).quill } : State).voters.length ∧ laneVal j.formed .b = some .accept ∧
    laneVal k.formed .c = some (.refuse 0x10 0) ∧ (sFlight k []).isVoting .c ∧
    ({ sVoting [.a, .c] with quill := (sFlight j []).quill } : State).voters.length = 2 ∧
    ({ sVoting [.a, .c] with quill := (sFlight j []).quill } : State).isVoting .a ∧ (.accept : Verdict) ≠ .refuse 0x10 0 := by decide

theorem witness_third_verdict : let i := tFlight true [(.c, .refuse 0x10 0)] [(.a, (.accept, 7)), (.b, (.accept, 8))] (some (.accept, 8))
    (sFlight i []).voters = [.a, .b, .c] ∧ laneVal i.formed .c = some (.refuse 0x10 0) ∧ (.refuse 0x10 0 : Verdict) ≠ .accept ∧
    8 + ms2 ≤ ((sFlight i []).tick 2000008).now ∧ (sFlight i []).quill.replies = [] ∧
    (tFlight true [] [(.a, (.accept, 7))] none).decided = none ∧
    (sFlight (tFlight true [] [(.a, (.accept, 7))] none) []).isVoting .a := by decide

/-- A reply to `c`, and `sSess 2` with it and the command's packet in queue 0. -/
def tReply (c : Cmd) (released : Bool) (copies : List (Lane × (List Byte × Nat))) : Reply := ⟨c, 0x0801, 0, zeros 8, 0, copies, released, false, false⟩

def cClear (q : Nat) : Cmd := ⟨q, 9, 0, []⟩

/-- A QUILL descriptor with its reply at host address 0x2000. -/
def tQuill : List Byte := [1, 1, 0, 0] ++ (zeros 4 ++ (leBytes 8 0x1000 ++ (leBytes 8 0x2000 ++ (leBytes 4 48 ++ (leBytes 4 4096 ++ (zeros 31 ++ [1]))))))

def sReply (r : Reply) : State :=
  let s : State := { sSess 2 with
    quill := { (sSess 2).quill with replies := [r], mailbox := some ⟨48, some (cClear 16)⟩ }, brg := { brgReset with credit := 4096 } }
  (s.fput (F.Q_STAT_STATE 0) qRunning).setRun 0 { queueReset with cmds := [⟨5, tQuill, [], some (cClear 0)⟩] }

theorem witness_lane_reply : let r := tReply (cOf []) false [(.a, (zeros 8, 7))]
    (sReply r).quill.replies = [r] ∧ ¬ r.released ∧ ¬ r.dropped ∧ ¬ r.written ∧ r.copies = [(.a, (r.params, 7))] ∧ (sReply r).isVoting .a ∧ (sReply r).isVoting .b := by decide

theorem witness_mail_reply : let r := tReply (cClear 16) true []
    r.released ∧ r.cmd.queue = 16 ∧ r.cmd.session = 0 ∧ (sReply r).quill.mailbox = some ⟨48, some (cClear 16)⟩ ∧ answers r (cClear 16) ∧
    (sReply r).quill.mboxM2h = 0 ∧ (sReply r).powered pdHost := by decide

theorem witness_queue_reply : let r := tReply (cClear 0) true []
    let f : Forwarded := ⟨5, tQuill, [], some (cClear 0)⟩
    (sReply r).que.queues.length = 16 ∧ ((sReply r).que.queue 0).cmds = [f] ∧ answers r (cClear 0) ∧
    assoc (sReply r).que.scribeBuf (dAddrB f.desc) = none ∧ ¬ isModule (dAddrB f.desc) ∧ (sReply r).canPost (48 + r.params.length) ∧
    48 + r.params.length ≤ dLenB f.desc ∧ (sReply r).qState 0 = qRunning := by decide

/-! Witnesses of SessionsOpenEndAndTheScribeAnswers. -/

/-- A first phase that asks for level 3, and `sRun` with `n` sessions. -/
def cOpen : Cmd := ⟨0, 9, 0, 3 :: zeros 1327⟩

def tSession (id : Nat) (opened : Bool) : Session := ⟨id, 0, opened, 3, none, false, 0, 0, ⟨0, []⟩, ⟨0, []⟩, 0, 0⟩

def sSessions (xs : List Session) : State := { sRun with quill := { sRun.quill with sessions := xs } }

theorem witness_session_open : (sSessions []).preAccepted cOpen = none ∧ 2 ≤ (sSessions []).voters.length ∧ (sSessions []).ductus.fences = [] ∧
    cOpen.params.length = 1328 ∧ 1 ≤ byteAt cOpen.params 0 ∧ byteAt cOpen.params 0 ≤ 4 ∧ ¬ (sSessions []).flag F.SEC_STATE_RNG_FAULT ∧
    (sSessions []).quill.sessions.length < 16 ∧ (sSessions []).lifecycle ≠ lcRetired ∧ (sSessions []).session 0 = none ∧
    (sSessions []).quill.nextSession ≠ 0 ∧ 16 ≤ (sSessions ((List.range 16).map fun i => tSession (i + 1) true)).quill.sessions.length := by decide

/-- A credential of level 2 for slot 0 on the host path, and a second phase that carries it. -/
def tCred : List Byte := [1, 0, 2, 0, 1, 0] ++ zeros 5522
def cCred : Cmd := ⟨0, 9, 1, leBytes 4 5528 ++ (zeros 4 ++ (tCred ++ zeros sigBlockLen))⟩
def sCred : State := ((sSessions [tSession 1 false]).fput F.SEC_STATE_LIFECYCLE lcOwned).fput (F.SEC_SLOT_ENROLLED 0) 1

theorem witness_credential_blank : let s := (sSessions [tSession 1 false]).fput F.SEC_STATE_LIFECYCLE lcBlank
    s.preAccepted ⟨0, 9, 1, zeros 8⟩ = none ∧ s.session 1 = some (tSession 1 false) ∧ (tSession 1 false).path = s.pathOf 0 ∧ s.lifecycle = lcBlank ∧
    2 ≤ s.voters.length ∧ s.ductus.fences = [] := by decide

theorem witness_credential : sCred.session 1 = some (tSession 1 false) ∧ credLenOk sCred cCred ∧ leAt cCred.params 0 4 ≠ 0 ∧
    credOf cCred = tCred := by decide

theorem witness_credential_steps : credOk (sCred.tick 5) tCred 0 true true ∧ ¬ credOk (sCred.tick 5) tCred 0 true false := by decide

theorem witness_session_end : ((sSess 1).tick 5).admits (cOf []) 1 ∧ (sSessions [tSession 1 false]).session 1 = some (tSession 1 false) ∧
    0 + 10000000000 ≤ ((sSessions [tSession 1 false]).tick 10000000000).mono ∧ ((sSessions [tSession 1 false]).tick 5).mono < 0 + 10000000000 ∧
    (sSessions [tSession 1 true]).session 1 = some (tSession 1 true) ∧ 0 + 600000000000 ≤ ((sSessions [tSession 1 true]).tick 600000000000).mono ∧
    ¬ (sSessions [tSession 1 true]).sessionBusy 1 ∧ ((sSessions [tSession 1 true]).tick 5).mono < 0 + 600000000000 := by decide

theorem witness_datagram : let s := ((sRun.fput (F.Q_CFG_PRODUCER 14) 1).fput (F.Q_STAT_STATE 14) qRunning)
    sRun.quill.mpRate.since + 1000000 ≤ (sRun.tick 1000000).mono ∧ sRun.quill.plainHost.since + 100000000 ≤ (sRun.tick 100000000).mono ∧
    State.qScribe s 14 ∧ s.qState 14 = qRunning ∧ ctrDiff (s.qTail 14) (s.qDone 14) < 4096 ∧ packetLen (tPacket 0x0802 9 3 1 48).length ∧
    pkOpcode (tPacket 0x0802 9 3 1 48) ∉ scribeOps ∧ s.quill.mpRate.tokens ≠ 0 ∧
    { s with quill := { s.quill with mpRate := ⟨0, 0⟩ } }.quill.mpRate.tokens = 0 ∧ s.quill.reassembly = [] ∧
    { s with quill := { s.quill with reassembly := [⟨1, 2, 0, [], none⟩] } }.quill.reassembly = [⟨1, 2, 0, [], none⟩] := by decide

theorem witness_scribe_replies : ((sSess 1).tick 5).admitsScribe (cOf []) 1 ∧
    ((sSess 1).tick 5).admitsScribe (cOf (leBytes 4 7 ++ (leBytes 2 20 ++ zeros 2))) 1 := by decide

/-! Witnesses of VariablesAreReadWrittenForcedAndCopied. -/

theorem witness_var_read : let p (i : Nat) : List Byte := leBytes 2 1 ++ (zeros 6 ++ (leBytes 4 i ++ (leBytes 4 0 ++ leBytes 4 1)))
    ((sSess 1).tick 5).admits (cOf (p 2)) 1 ∧ (sSess 1).folio.running = some fTest ∧ itemBytes (some fTest) (2, (0, 1)) ≤ 65536 ∧
    ¬ readAtOnce (sSess 1) (2, (0, 1)) ∧ readAtOnce (sSess 1) (77, (0, 1)) ∧ (sSess 1).voters.head? = some .a ∧ (sSess 1).ductus.reads = [] := by decide

theorem witness_var_write : let r : List Byte := leBytes 4 2 ++ (leBytes 4 0 ++ leBytes 8 5)
    ((sSess 2).tick 5).admits (cOf (leBytes 2 1 ++ (zeros 6 ++ r))) 2 ∧ r.length = 16 ∧ writeRecordOk (some fTest) r ∧ ¬ (sSess 2).notActing ∧
    ¬ writeRecordOk (some fTest) (zeros 16) ∧ ((sSess 2).fput F.DUP_STAT_ROLE roleStandby).notActing ∧
    (((sSess 2).fput F.DUP_STAT_ROLE roleStandby).tick 5).admits (cOf (leBytes 2 1 ++ (zeros 6 ++ r))) 2 := by decide

theorem witness_force : let r : List Byte := leBytes 4 1 ++ (leBytes 4 0 ++ leBytes 8 1)
    ((sStep 1 1 none).tick 5).admits (cOf r) 3 ∧ r.length = 16 ∧ forceRecordOk (some fTest) r ∧ (fTest.varOf (leAt r 0 4)).isSome ∧
    (sStep 1 1 none).standstill ∧ ¬ (sStep 1 1 none).notActing ∧ (sStep 1 1 none).ductus.forces.length < 256 ∧ ¬ (sStep 1 2 none).standstill ∧
    ((sStep 1 1 none).tick 5).admits (cOf (List.replicate 8 0xFF)) 3 := by decide

theorem witness_reintegrate : let s := (sVoting [.b, .c]).fput (F.LANE_STATE_STATE .a) 8
    let u : State := { s with quill := (sSess 3).quill }
    (u.tick 5).admits (cOf (BitVec.ofNat 8 Lane.a.idx :: zeros 7)) 3 ∧ u.laneSt .a = .outLimit ∧ (sSess 3).laneSt .a ≠ .outLimit := by decide

theorem witness_snapshot : ((sSess 1).tick 5).admits (cOf (1 :: zeros 7)) 1 ∧ (sSess 1).ductus.fences = [] ∧ (sSess 1).quill.logCount + 8 < 1835008 ∧
    0 < (sSess 1).sliceCount 0 ∧ (sSess 1).taskRec 0 ≠ none ∧ ((sSess 1).tick 5).admits (cOf ([2, 0] ++ (leBytes 2 0 ++ zeros 4))) 1 := by decide

/-- `sSess 2` with command `x` outstanding or held, and writes of it. -/
def sAbort (cmds : List CmdRec) (held : List HeldCmd) (n : Nat) : State :=
  { sSess 2 with
    quill := { (sSess 2).quill with cmds := cmds, held := held }
    ductus := { (sSess 2).ductus with writes := List.replicate n ⟨⟨3, 7, 1, [1, 0]⟩, 0, 0, 2, 0, .int32, 5⟩ } }

theorem witness_abort : let x : Cmd := ⟨3, 7, 1, [1, 0]⟩
    let c := cOf (BitVec.ofNat 8 3 :: (zeros 3 ++ leBytes 4 7))
    let s := sAbort [] [⟨x, 0x0302⟩] 0
    let u := sAbort [⟨x, 0x0302, 0, true⟩] [] 1
    (s.tick 5).admits c ((s.tick 5).abortLevel c) ∧ (u.tick 5).admits c ((u.tick 5).abortLevel c) ∧ 0x0302 ∈ abortable ∧ x.session = c.session ∧ x ≠ c ∧
    ¬ (u.ductus.writes.filter (·.cmd == x)).length < leAt x.params 0 2 ∧
    ((sAbort [⟨x, 0x0302, 0, true⟩] [] 0).ductus.writes.filter (·.cmd == x)).length < leAt x.params 0 2 ∧
    ((sAbort [] [] 0).tick 5).admits c (((sAbort [] [] 0).tick 5).abortLevel c) := by decide

/-! Witnesses of ClaimsAreExchangedAndRolesFollow. -/

/-- `sSess 3` paired with serial 77 in role `r`, its copybook link up and its partner seen, both groups on. -/
def sPair (r : Nat) : State :=
  let s := ((sSess 3).fput F.DUP_STAT_ROLE r).fput F.DUP_PARTNER_LO_SERIAL 77
  let s := ((s.fput F.DUP_STAT_LINK 1).fput F.DUP_STAT_SEEN 1).fput F.SSM_STATE_MOTION 1
  { ((s.fput F.RPC_VIN_STORE_OK 1).fput F.RPC_VIN_IN_WARNING 0).fput F.DUP_CFG_COPY_MS 1 with folio := folioReset }

/-- A HELLO of module 77 in role `r`, at standstill. -/
def tHello (r : Nat) : List Byte := [1, BitVec.ofNat 8 r, 0, 2] ++ (leBytes 4 0 ++ (leBytes 8 77 ++ zeros 64))

theorem witness_claims : ¬ (sPair 1).flag F.VOTE_CTRL_FAILED ∧ ((sPair 1).fput F.VOTE_CTRL_FAILED 1).flag F.VOTE_CTRL_FAILED ∧ (sPair 1).paired ∧
    ((sPair 1).tick 30000).now % gridNs = 30000 ∧ (sPair 1).fgUp .g0 ∧ ¬ sRun.paired ∧ (sPair 2).role ≠ roleActive ∧
    ((sPair 2).fc .g0).ownClaim.1 ≠ (5 : Word).toNat ∧ (sPair 1).role = roleActive ∧ ((sPair 1).fc .g0).ownClaim.1 < (5 : Word).toNat ∧
    claimRoleOf (((sPair 1).fput F.DUP_OFFER_CLAIM (6 * 2 ^ 28)).fget F.DUP_OFFER_CLAIM) = claimActive ∧
    1 ≤ DupState.lost { dupReset with lost0 := 1 } .g0 := by decide

theorem witness_hello : (sPair 3).linked ∧ ¬ sRun.linked ∧ (sPair 3).flag F.DUP_STAT_SEEN ∧ (sPair 3).dup.helloAt + ms1 ≤ ((sPair 3).tick 1000000).now ∧
    ((sPair 3).tick 5).now < (sPair 3).dup.helloAt + ms1 ∧ helloSerial (tHello 1) = (sPair 3).partner ∧ (sPair 3).role = roleResync ∧
    helloRole (tHello 1) = 1 ∧ helloFolio (tHello 1) = padTo 48 (sPair 3).folioHash ∧ helloSerial (zeros 80) ≠ (sPair 3).partner := by decide

theorem witness_pair_serial : (5 : Nat) ≠ moduleSerial ∨ (6 : Nat) ≠ moduleSerial := by omega

theorem witness_pair : let p (n k : Nat) := cOf (leBytes 8 n ++ (BitVec.ofNat 8 k :: zeros 7))
    ((sPair 3).tick 5).admits (p 5 1) 3 ∧ ((sPair 3).tick 5).admits (p 0 0) 3 ∧ (sPair 3).standstill ∧ (sPair 3).supplyGood ∧ ¬ (sPair 3).rubBusy ∧
    ¬ ((sPair 3).role = roleActive ∧ (sPair 3).partnerStandby) ∧ ¬ ((sPair 3).fput F.SSM_STATE_MOTION 2).standstill ∧
    ¬ ((sPair 3).fput F.RPC_VIN_STORE_OK 0).supplyGood := by decide

def sSwap (r : Nat) (w : Option Swap) : State := { sPair r with dup := { dupReset with hello := tHello 2, swap := w } }

theorem witness_rehearse : ((sSwap 1 none).tick 5).admits (cOf []) 3 ∧ (sSwap 0 none).role = roleSingle ∧ ((sSwap 0 none).tick 5).admits (cOf []) 3 ∧
    (sSwap 1 none).role = roleActive ∧ (sSwap 1 none).standstill ∧ helloStandstill (sSwap 1 none).dup.hello ∧ (sSwap 1 none).partnerStandby ∧
    ¬ helloLagging (sSwap 1 none).dup.hello ∧ ¬ (sSwap 1 none).switchPending ∧ (sSwap 1 none).dup.swap = none := by decide

theorem witness_swap : let w : Swap := ⟨5000, some (cOf []), true, false⟩
    (sSwap 1 (some w)).dup.swap = some w ∧ 5000 ≤ ((sSwap 1 (some w)).tick 5000).now ∧ (sSwap 2 (some w)).role = roleStandby ∧
    ((sSwap 1 (some w)).tick 4999).now < 5000 ∧ 5000 ≤ ((sSwap 1 (some w)).tick 5).now + ms2 ∧ 5000 + us20 ≤ ((sSwap 1 (some w)).tick 25000).now ∧
    (sSwap 1 (some { w with swapped := true })).dup.swap = some { w with swapped := true } ∧ (sSwap 1 (some w)).swapShown := by decide

theorem witness_promote : let s := ((sPair 2).fput (F.FIO_LINK_UP .g0) 1).fput (F.FIO_LINK_CLAIM .g0) 1
    s.notActing ∧ s.flag F.VOTE_CTRL_EN ∧ s.claimHeld := by decide

theorem witness_swap_void : let w : Swap := ⟨5000, some (cOf []), false, false⟩
    (sSwap 1 (some w)).dup.swap = some w ∧ 5000 ≤ ((sSwap 1 (some w)).tick 5).now + ms2 ∧ sRun.reachable R.DUP_DIV_CAP := by decide

/-! Witnesses of CopiesAreFrozenSentAndLanded. -/

/-- `sPair r` in STOP with `fTest` running and this pair state; the copybook link is up. -/
def sCopy (r : Nat) (d : DupState) : State := { (sPair r).fput F.VOTE_CTRL_MODE 0 with folio := { folioReset with running := some fTest }, dup := d }

theorem witness_freeze : let s := sCopy 1 dupReset
    s.folio.running = some fTest ∧ s.role = roleActive ∧ (s.tick 2000000).copyPoint ∧ s.copyNs ≠ 0 ∧ s.linked ∧ s.dup.sentUntil ≤ (s.tick 2000000).now ∧
    s.dup.flight.length < 2 ∧ s.dup.sync = none ∧ ¬ s.wantsFull ∧ s.dup.frozen < s.lastBoundary (s.tick 2000000).now ∧
    (s.tick 2000000).formLines fTest (s.dup.marks.filter fun x => (fTest.taskOf x.1).isSome) = (s.tick 2000000, some []) ∧
    s.lastBoundary (s.tick 5).now ≤ s.dup.frozen ∧ (sCopy 2 dupReset).role = roleStandby ∧ (sCopy 2 dupReset).voters.head? = some .a ∧
    ((sCopy 2 dupReset).tick 2000000).copyPoint := by decide

theorem witness_tokens : let e : CopyEpoch := ⟨4, 0, false, false, 1, [⟨5, 0, 0, zeros 64⟩], false⟩
    let s := sCopy 1 { dupReset with flight := [e] }
    s.linked ∧ s.paired ∧ s.dup.flight = [e] ∧ leAt (cbToken 1 4) 4 4 = e.token ∧ byteAt (cbToken 1 4) 1 = 1 ∧ ¬ e.final ∧ byteAt (cbToken 2 4) 1 ≠ 1 ∧
    (∀ x ∈ s.dup.flight, x.token ≠ leAt (cbToken 1 5) 4 4) := by decide

theorem witness_lines : let i : InputSet := ⟨0, 7, 0, 1, [⟨0, 0, 0, zeros 64⟩], false⟩
    let e : CopyEpoch := ⟨4, 0, true, false, 0, [], false⟩
    (sCopy 2 dupReset).dup.rx = none ∧ (sCopy 2 { dupReset with rxInput := some i }).dup.rxInput = some i ∧ ¬ i.broken ∧ i.lines.length = i.expected ∧
    { i with lines := [] }.lines.length ≠ i.expected ∧ (sCopy 2 { dupReset with rx := some e }).dup.rx = some e ∧
    (sCopy 2 { dupReset with rx := some e }).role ≠ roleActive ∧ ¬ e.broken ∧ e.lines.length = e.expected ∧
    (sCopy 2 dupReset).writtenTo 0 = [] ∧ (sCopy 2 { dupReset with points := [⟨0, .a, [], [], [(0, (5, 0))]⟩] }).writtenTo 0 ≠ [] := by decide

theorem witness_signature : let o : OwnSig := ⟨3, 9, 5, false⟩
    (sCopy 2 { dupReset with sigs := [o] }).dup.sigs = [o] ∧ ¬ o.skip ∧ o.sig = 5 ∧ o.sig ≠ 6 ∧ (OwnSig.mk 3 9 5 true).skip ∧
    (sCopy 2 dupReset).notActing ∧ ((sCopy 2 dupReset).tick 5).now ≤ 100 ∧ (sCopy 2 dupReset).dup.swap = none ∧
    (sCopy 2 dupReset).folio.staging = .empty ∧ ¬ (sCopy 2 dupReset).flag F.DUP_DIV_CAP_VALID := by decide

theorem witness_lagging : let s := sCopy 2 dupReset
    s.role = roleStandby ∧ s.copyNs ≠ 0 ∧ (s.tick 2000000).now % s.copyNs = 0 ∧ ¬ s.flag F.DUP_STAT_LAGGING ∧
    s.dup.landed + s.copyNs < (s.tick 2000000).now ∧ (s.tick 1000000).now % s.copyNs = 0 ∧ (s.tick 1000000).now ≤ s.dup.landed + s.copyNs := by decide

theorem witness_shadow : let s := { sRun.fput F.DUP_STAT_ROLE roleStandby with dup := { dupReset with inputs := [⟨0, 0, 0, 0, [], false⟩] } }
    s.folio.running = some fTest ∧ State.taskRec s 0 = some tCyclic ∧ State.notActing s ∧ us20 ≤ (State.tick s 1020000).now ∧
    (State.tick s 1020000).releaseDue tCyclic ((State.tick s 1020000).now - us20) ∧
    (s.dup.inputs.find? fun i => i.task == 0 && i.release == (State.book s 0).releases) = some ⟨0, 0, 0, 0, [], false⟩ ∧
    (∀ i ∈ dupReset.inputs, i.task ≠ 0) ∧ 0 + searchSpan ≤ (State.tick s 10000000000).now ∧ s.dup.sync = none ∧
    (sCopy 1 { dupReset with sync := some (1, 0) }).dup.sync = some (1, 0) := by decide

/-! Witnesses of OwnerKeysAndTheLifecycle. -/

/-- `sSess 4` in lifecycle state `n`, at standstill with a good supply; slots 0 and 1 are enrolled. -/
def sVellum (n : Nat) : State :=
  let s := ((sSess 4).fput F.SEC_STATE_LIFECYCLE n).fput F.SSM_STATE_MOTION 1
  ((s.fput F.RPC_VIN_STORE_OK 1).fput (F.SEC_SLOT_ENROLLED 0) 1).fput (F.SEC_SLOT_ENROLLED 1) 1

/-- An ENROL of slot 2 with level 3. -/
def cEnrol (level : Nat) : Cmd := cOf ([1, 2, BitVec.ofNat 8 level, 0] ++ (zeros 4 ++ (4 :: zeros 5471)))

theorem witness_enrol_length : (cEnrol 3).params.length = 5480 := by decide

theorem witness_enrol : ((sVellum lcOwned).tick 5).admits (cEnrol 3) 4 ∧ (sVellum lcOwned).lifecycle ≠ lcBlank := by decide

theorem witness_enrol_accept : enrolOwn (cEnrol 3) 1 true true (sVellum lcOwned) = .accept ∧ enrolOp (cEnrol 3) = 1 ∧
    ¬ enrolBad (cEnrol 3) true (sVellum lcOwned) := by decide

theorem witness_enrol_blank : let s := sVellum lcBlank
    let u : State := { s with quill := { s.quill with sessions := [⟨1, 0, true, 4, none, true, 0, 0, ⟨0, []⟩, ⟨0, []⟩, 0, 0⟩] } }
    (u.tick 5).preAccepted (cEnrol 4) = none ∧ 2 ≤ u.voters.length ∧ ¬ u.fenced (cEnrol 4) ∧ (u.session 1).isSome ∧ u.pathOf 0 = 0 ∧
    enrolOwn (cEnrol 4) 1 true true u = .accept ∧ u.lifecycle = lcBlank := by decide

theorem witness_revoke_raise : let s := sVellum lcOwned
    (s.tick 5).admits (cOf ([2, 0, 0, 0] ++ zeros 4)) 4 ∧ enrolOwn (cOf ([2, 0, 0, 0] ++ zeros 4)) 2 true true s = .accept ∧
    enrolBad (cOf ([2, 3, 0, 0] ++ zeros 4)) true s ∧ (s.tick 5).admits (cOf ([3, 0, 0, 7] ++ leBytes 4 5)) 4 ∧
    enrolOwn (cOf ([3, 0, 0, 7] ++ leBytes 4 5)) 3 true true s = .accept := by decide

theorem witness_lock : ((sVellum lcOwned).tick 5).admits (cOf (1 :: zeros 7)) 4 ∧ lockOwn (cOf (1 :: zeros 7)) 1 (sVellum lcOwned) = .accept ∧
    lockOwn (cOf (zeros 8)) 0 (sVellum lcLocked) = .accept ∧ ((sVellum lcLocked).tick 5).admits (cOf (zeros 8)) 4 := by decide

theorem witness_lifecycle : ((sVellum lcOwned).tick 5).admits (cOf (3 :: zeros 7)) 4 ∧ lifecycleOwn (cOf (3 :: zeros 7)) (sVellum lcOwned) = .accept ∧
    lifecycleOwn (cOf (1 :: zeros 7)) (sVellum lcBench) = .accept ∧ lifecycleOwn (cOf (4 :: zeros 7)) (sVellum lcBench) = .accept ∧
    ((sVellum lcBench).tick 5).admits (cOf (1 :: zeros 7)) 4 ∧ ((sVellum lcBench).tick 5).admits (cOf (4 :: zeros 7)) 4 ∧
    (sVellum lcBench).power.overlap = none ∧ lifecycleOwn (cOf (2 :: zeros 7)) (sVellum lcOwned) = .refuse stBadParam noIndex := by decide

theorem witness_lifecycle_canon : State.Canon (sVellum lcBench) := by unfold State.Canon; decide

/-! Witnesses of AttestationAndDebuggingOfTheVellum. -/

theorem witness_attest : ((sSess 1).tick 5).admitsScribe (cOf (zeros 32)) 1 ∧ (cOf (zeros 32)).params.length = 32 ∧
    (∀ m ∈ (sSess 1).vellum.measures, ¬ (m.part = 1 ∧ m.inst = 0)) ∧ (sSess 1).vellum.measures.length < 24 ∧
    24 ≤ (List.replicate 24 (⟨2, 0, 0, 0, []⟩ : Measure)).length ∧ (∀ m ∈ List.replicate 24 (⟨2, 0, 0, 0, []⟩ : Measure), ¬ (m.part = 1 ∧ m.inst = 0)) := by decide

theorem witness_debug : let s := ((sRun.fput F.VOTE_CTRL_MODE 2)).fput F.SEC_STATE_DEBUG_OPEN 1
    s.flag F.SEC_STATE_DEBUG_OPEN ∧ s.modeNow = .hold ∧ s.powered (pdLane .a) ∧ ((s.lane .a).pair .ep0).egress.length < egressMax ∧
    ¬ sRun.flag F.SEC_STATE_DEBUG_OPEN ∧ ¬ s.flag F.SYS_VIOL_CAP_VALID := by decide

theorem witness_debug_write : let s := (sRun.fput F.VOTE_CTRL_MODE 2).fput F.SEC_STATE_DEBUG_OPEN 1
    let f := s.setPair .a .ep0 { pairReset with egress := List.replicate 64 ⟨0, 0, []⟩ }
    s.flag F.SEC_STATE_DEBUG_OPEN ∧ s.coresRun .a ∧ ((s.lane .a).pair .ep0).main.stores < windowStores ∧
    ((s.lane .a).pair .ep0).checker.stores < windowStores ∧ ¬ ((s.lane .a).pair .ep0).stalled ∧ s.egressOpen .a ∧
    ((s.lane .a).pair .ep0).egress.length < egressMax ∧ f.coresRun .a ∧ f.egressOpen .a ∧ egressMax ≤ ((f.lane .a).pair .ep0).egress.length ∧
    s.reachable R.SYS_VIOL_CAP := by decide

/-! Witnesses of RubricsAreStagedTriedAndConfirmed. -/

/-- A manifest of one part, PART 1 instance 0 of one byte, signed by slot 0. -/
def tManifest : List Byte :=
  leBytes 4 0x4252594E ++ [1, 0, 1, 0, 0, 0, 0, 0] ++ leBytes 4 7 ++ leBytes 4 0x11 ++ zeros 20 ++ [255, 0] ++ zeros 6
    ++ ([1, 0, 0, 0, 0, 0, 0, 0] ++ leBytes 4 1 ++ zeros 52) ++ zeros sigBlockLen

def tRub : RubState := { State.reset.rub with manifest := tManifest, parts := [⟨0, []⟩], active := tManifest }

/-- A module at standstill with `tRub`, changed by `f`, and RUB_STAT.STATE `n`. -/
def sRub (n : Nat) (f : RubState → RubState) : State := { (sVellum lcOwned).fput F.RUB_STAT_STATE n with rub := f tRub }

def cBlock : Cmd := cOf (leBytes 4 0 ++ leBytes 4 (crc32c [0xAA]).toNat ++ zeros 8 ++ [0xAA])

theorem witness_manifest : ¬ beginBad tManifest := by decide

theorem witness_rubric_begin : ((sRub 0 id).tick 5).admits (cOf tManifest) 4 ∧ 48 ≤ (cOf tManifest).params.length ∧
    beginOwn (cOf tManifest) true (sRub 0 id) = .accept := by decide

theorem witness_rubric_block : ((sRub 1 id).tick 5).admits cBlock 4 ∧ stageLenOk cBlock ∧ rubBlockOwn cBlock (sRub 1 id) = .accept ∧
    ((sRub 1 id).tick 5).admits (cOf (leBytes 4 2 ++ zeros 13)) 4 ∧ stageNo (cOf (leBytes 4 2 ++ zeros 13)) ≠ (tRub.parts.getD 0 ⟨0, []⟩).next := by decide

theorem witness_rubric_commit : let s := sRub 1 fun r => { r with parts := [⟨1, [0xAA]⟩] }
    (s.tick 5).admits (cOf []) 4 ∧ s.rubState = rubReceiving ∧ s.lifecycle ≠ lcLocked ∧ s.commitBad none true = none ∧
    s.commitBad (some 0) true = some 0 := by decide

theorem witness_rubric_activate : (((sRub 2 id).tick 5).admits (cOf []) 4) ∧ activateOwn true (sRub 2 id) = .accept ∧
    ¬ ((sRub 2 id).fput F.SSM_STATE_MOTION 0).standstill ∧ ((sRub 2 id).fput F.SSM_STATE_MOTION 0).rubState = rubCommitted := by decide

theorem witness_activation_reset : let s := sRub 2 fun r => { r with resetAt := some 0, record := .armed }
    s.rub.resetAt = some 0 ∧ s.power.overlap = none ∧ ¬ s.rub.started ∧ ¬ s.flag F.RPC_VIN_IN_WARNING ∧ s.rub.record = .armed ∧
    (s.fput F.RPC_VIN_IN_WARNING 1).flag F.RPC_VIN_IN_WARNING := by decide

theorem witness_activation_canon : State.Canon (sRub 2 id) := by unfold State.Canon; decide

theorem witness_element_start : let s := sRub 0 fun r => { r with started := true, trial := true, left := [256], record := .tried }
    s.rub.started ∧ s.rub.trial ∧ 1 * 256 + 0 ∈ s.rub.left ∧ (∀ e ∈ s.rub.left, e = 1 * 256 + 0) ∧
    (sRub 0 fun r => { r with record := .tried }).rub.record = .tried := by decide

theorem witness_rubric_confirm : ((sRub 3 id).tick 5).admits (cOf []) 4 ∧ confirmOwn ((sRub 3 id).tick 5) = .accept ∧
    (mfElements tManifest).Nodup ∧ mfIndex tManifest < 64 ∧ tRub.folio = none ∧ (sRub 4 id).rubState = rubRevert ∧
    ((sRub 4 id).tick 600000000001).trialOver ∧ (sRub 4 id).standstill ∧ mfSlot tManifest < 4 ∧ (sRub 0 id).slotEnrolled (mfSlot tManifest) := by decide

/-! Witnesses of StoresWriteTheNextGeneration. -/

theorem witness_store_command : ((sRub 0 id).tick 5).admits (cOf (leBytes 4 3 ++ zeros 4)) 3 ∧ storeOwn (cOf (leBytes 4 3 ++ zeros 4)) (sRub 0 id) = .accept ∧
    storeKinds (leAt (leBytes 4 3 ++ zeros 4) 0 4) = [1, 2] ∧ (sRub 0 id).admits (cOf (leBytes 4 3 ++ zeros 4)) 3 ∧
    1 ≤ leAt (leBytes 4 3 ++ zeros 4) 0 4 ∧ leAt (leBytes 4 3 ++ zeros 4) 0 4 ≤ 15 ∧ (sRub 0 id).supplyGood ∧
    ¬ ((sRub 0 id).fput F.RPC_VIN_STORE_OK 0).supplyGood := by decide

/-- A STORE of `ks` under way. -/
def sStoring (ks : List Nat) : State := sRub 0 fun r => { r with storing := some ⟨cOf (leBytes 4 3 ++ zeros 4), ks, [1]⟩ }

theorem witness_storing : (sStoring [2]).rub.storing.isSome ∧ (sStoring [1, 2]).rub.storing.isSome ∧
    ((sStoring [1, 2]).fput F.RPC_VIN_IN_WARNING 1).flag F.RPC_VIN_IN_WARNING ∧ ¬ (sStoring [1, 2]).flag F.RPC_VIN_IN_WARNING ∧
    (sStoring []).supplyGood ∧ (sStoring [1]).admits (cOf (leBytes 4 3 ++ zeros 4)) 3 := by decide

/-! Witnesses of ResetsOverlapAndReleaseOnce. -/

/-- An overlap that sources `cs` hold. -/
def tOverlap (cs : List Nat) (level : Nat) : Overlap := ⟨cs, 4, 2, level, true, 0, 7⟩

def sOverlap (cs : List Nat) (level : Nat) : State := { sRun with power := { sRun.power with overlap := some (tOverlap cs level) } }

theorem witness_reset : resetRow (.resetN 5) = some (5, srcResetN) ∧ resetRow (.powerOn 5) = some (5, srcPowerOn) ∧
    resetRow (.clockCheck true false 5) = some (5, srcClock) ∧ sRun.power.overlap = none ∧
    (tOverlap [2] 2).level ≤ srcLevel srcResetN ∧ srcLevel srcPowerOn < (tOverlap [2] 2).level := by decide

theorem witness_reset_canon : State.Canon sRun ∧ State.Canon (sOverlap [2] 2) := by unfold State.Canon; decide

theorem witness_reset_release : let o := tOverlap [2] 2
    3 ∉ o.asserted ∧ 2 ∈ o.asserted ∧ o.first < 16 ∧ (o.level = 1 ∨ o.level = 2) ∧ o.swCause < 16 ∧ o.sources < 2 ^ 10 ∧ o.seconds < 2 ^ 32 ∧
    (∀ k ∈ o.asserted, k = 2) ∧ ¬ ((sOverlap [2] 2).power.lost ∧ o.level = levelPor) ∧
    (∃ k ∈ (tOverlap [2, 3] 2).asserted, k ≠ 2) ∧ 2 ∈ (tOverlap [2, 3] 2).asserted := by decide

/-- A module whose domains are on but for `c`, 1 ms after the last one. -/
def sDomain (c : Nat) : State := { sRun.setPower c false with mono := 1000000 }

theorem witness_domain : ((sDomain (pdFg .g0)).tick 0).mayPower (pdFg .g0) ∧ ¬ (sRun.tick 0).mayPower 3 ∧
    (((sDomain 3).fput (F.LANE_STATE_STATE .a) 0).tick 0).mayPower 3 ∧ ¬ (sDomain pdHost).powered pdHost ∧ (sDomain pdHost).powered pdFab ∧
    ((sDomain pdHost).tick 0).maySwitch ∧ ¬ ({ sDomain pdHost with mono := 5 } : State).maySwitch := by decide

/-! Witnesses of SuppliesTripsAndTemperatureAreFollowed. -/

/-- Group 0 tripped at 0; a second has passed. -/
def sTrip : State := { (sRun.setPower (pdFg .g0) false).setTrip .g0 (some 0) with mono := 1000000000 }

theorem witness_trip : sRun.fgUp .g0 ∧ ¬ sTrip.fgUp .g0 ∧ sTrip.tripOf .g0 = some 0 ∧ 0 + 1000000000 ≤ (sTrip.tick 5).mono ∧ (sTrip.tick 5).maySwitch ∧ sTrip.powered pdFab ∧
    sTrip.power.overlap = none := by decide

/-- A dip whose window is open. -/
def sDip : State := { sRun.fput F.RPC_VIN_IN_WARNING 1 with power := { sRun.power with dip := some ⟨5, 9, 10500, 1, 0⟩ } }

theorem witness_dip : sDip.power.dip = some ⟨5, 9, 10500, 1, 0⟩ ∧ ¬ sDip.flag F.RPC_VIN_WARN ∧ 9 + 100000000 ≤ (sDip.tick 100000009).now ∧
    (sDip.fput F.RPC_VIN_WARN 1).flag F.RPC_VIN_WARN := by decide

/-! Witnesses of EveryStepKeepsTheCanonicalForm. -/

theorem witness_canon_step : ∃ v, State.Canon State.reset ∧ step State.reset = .next v := ⟨State.reset, test_reset_canon, rfl⟩

end Sys2Proof.Tests
end

section
/-! PROOF. A list whose entry of one key is replaced: `(xs.filter fun y => !p y) ++ [x]`, as the latches, the streams and
the counters of the fabric are kept. -/

namespace Sys2Proof.Machine

section Keyed

variable {α : Type} {p q : α → Bool}

theorem find?_dropped_same (xs : List α) : (xs.filter fun y => !p y).find? p = none := by
  simp [List.find?_filter]

theorem find?_dropped_other (h : ∀ y, q y = true → p y = false) (xs : List α) :
    (xs.filter fun y => !p y).find? q = xs.find? q := by
  rw [List.find?_filter]
  congr 1
  funext y
  cases hq : q y with
  | false => simp
  | true => simp [h y hq]

theorem find?_replaced_same {x : α} (hx : p x = true) (xs : List α) :
    ((xs.filter fun y => !p y) ++ [x]).find? p = some x := by
  rw [List.find?_append, find?_dropped_same]
  simp [hx]

end Keyed

end Sys2Proof.Machine
end

section
/-! PROOF. Reads of 64-bit register pairs (R25). -/

namespace Sys2Proof.Machine

/-- The key of a latch: its requester and its pair. -/
def latchIs (r : Requester) (off : Nat) (x : Latch) : Bool := x.requester == r && x.off == off

theorem latched_eq (s : State) (r : Requester) (off : Nat) :
    s.latched r off = (s.latches.find? (latchIs r off)).map (·.value) := rfl

theorem latchIs_mk (r r' : Requester) (off off' : Nat) (w : Word) :
    latchIs r off ⟨r', off', w⟩ = true ↔ (r', off') = (r, off) := by
  simp [latchIs]

theorem latchIs_mk_other {r r' : Requester} {off off' : Nat} (h : (r', off') ≠ (r, off)) (w : Word) :
    latchIs r' off' ⟨r, off, w⟩ = false := by
  rw [Bool.eq_false_iff, Ne, latchIs_mk]; exact h.symm

/-- A latch has one key. -/
theorem latchIs_apart {r r' : Requester} {off off' : Nat} (h : (r', off') ≠ (r, off)) (x : Latch)
    (hx : latchIs r' off' x = true) : latchIs r off x = false := by
  rw [Bool.eq_false_iff]
  intro hx'
  exact h (((latchIs_mk r' x.requester off' x.off x.value).mp hx).symm.trans
    ((latchIs_mk r x.requester off x.off x.value).mp hx'))

theorem find?_dropLatch_same (ls : List Latch) (r : Requester) (off : Nat) :
    (dropLatch ls r off).find? (latchIs r off) = none := find?_dropped_same ls

theorem find?_dropLatch_other {r r' : Requester} {off off' : Nat} (h : (r', off') ≠ (r, off)) (ls : List Latch) :
    (dropLatch ls r off).find? (latchIs r' off') = ls.find? (latchIs r' off') :=
  find?_dropped_other (latchIs_apart h) ls

/-- The latches after a read of the low register at `off` by `r` (R25). -/
def State.latchesAfterLow (s : State) (r : Requester) (off : Nat) : List Latch :=
  (if off == R.TIME_SEC_LO then dropLatch (dropLatch s.latches r off) r (off + 4) else dropLatch s.latches r off) ++
    newLatches s r off

theorem exec_lowRegisterRead_pair {off : Nat} (s : State) (r : Requester) (h : pairLow off = true) :
    exec (.lowRegisterRead r off) s =
      .next { s with readOut := s.readWord off, latches := s.latchesAfterLow r off } :=
  if_pos h

theorem exec_lowRegisterRead_single {off : Nat} (s : State) (r : Requester) (h : ¬ pairLow off = true) :
    exec (.lowRegisterRead r off) s = .next { s with readOut := s.readWord off } :=
  if_neg h

theorem find?_latchesAfterLow_same (s : State) (r : Requester) (off : Nat) :
    (s.latchesAfterLow r off).find? (latchIs r off) = some ⟨r, off, s.readWord (off + 4)⟩ := by
  unfold State.latchesAfterLow newLatches
  by_cases ht : off = R.TIME_SEC_LO
  · subst ht
    simp [List.find?_append, find?_dropLatch_other, find?_dropLatch_same, latchIs]
  · simp [ht, List.find?_append, find?_dropLatch_same, latchIs]

theorem find?_latchesAfterLow_other {r r' : Requester} {off off' : Nat} (s : State) (h : (r', off') ≠ (r, off))
    (ht : ¬ (off = R.TIME_SEC_LO ∧ r' = r ∧ off' = off + 4)) :
    (s.latchesAfterLow r off).find? (latchIs r' off') = s.latches.find? (latchIs r' off') := by
  unfold State.latchesAfterLow newLatches
  by_cases htime : off = R.TIME_SEC_LO
  · subst htime
    have h' : (r', off') ≠ (r, R.TIME_SEC_LO + 4) := fun e => ht ⟨rfl, congrArg Prod.fst e, congrArg Prod.snd e⟩
    simp [List.find?_append, find?_dropLatch_other h, find?_dropLatch_other h', latchIs_mk_other h, latchIs_mk_other h']
  · simp [htime, List.find?_append, find?_dropLatch_other h, latchIs_mk_other h]

theorem readWord_unreachable {s : State} {off : Nat} (h : ¬ s.reachable off = true) : s.readWord off = 0 := if_neg h

theorem exec_highRegisterRead_unreachable {s : State} {off : Nat} (r : Requester) (h : ¬ s.reachable off = true) :
    exec (.highRegisterRead r off) s = .next { s with readOut := 0 } := by
  simp [exec, execHighRegisterRead, h]

/-- The latch that a read of the high register at `off + 4` looks for is that of its pair. -/
theorem highLatch_eq (r : Requester) (off : Nat) :
    (fun x : Latch => x.requester == r && x.off == off && decide (4 ≤ off + 4)) = latchIs r off := by
  funext x
  simp [latchIs]

theorem exec_highRegisterRead_latched {s : State} {r : Requester} {off : Nat} {w : Word}
    (hl : s.latched r off = some w) (hr : s.reachable (off + 4) = true) :
    exec (.highRegisterRead r (off + 4)) s =
      .next { s with readOut := w, latches := dropLatch s.latches r off } := by
  rw [latched_eq, Option.map_eq_some_iff] at hl
  obtain ⟨x, hx, rfl⟩ := hl
  simp only [exec, execHighRegisterRead, hr, Bool.not_true, Bool.false_eq_true, if_false, Nat.add_sub_cancel,
    highLatch_eq, hx]

theorem exec_highRegisterRead_empty {s : State} {r : Requester} {off : Nat} (hl : s.latched r off = none) :
    exec (.highRegisterRead r (off + 4)) s = .next { s with readOut := s.readWord (off + 4) } := by
  rw [latched_eq, Option.map_eq_none_iff] at hl
  by_cases hr : s.reachable (off + 4) = true
  · simp only [exec, execHighRegisterRead, hr, Bool.not_true, Bool.false_eq_true, if_false, Nat.add_sub_cancel,
      highLatch_eq, hl]
  · rw [exec_highRegisterRead_unreachable r hr, readWord_unreachable hr]

/-- Settles O4: the latches are a keyed list, of which a low read replaces an entry and a high read takes it out. -/
theorem sixtyFourBitPairsReadConsistently : Obligations.SixtyFourBitPairsReadConsistently := by
  unfold Obligations.SixtyFourBitPairsReadConsistently
  refine ⟨fun s r off h => ⟨_, exec_lowRegisterRead_pair s r h, rfl, ?_, fun r' o' hne ht => ?_⟩,
    fun s r off h => exec_lowRegisterRead_single s r h,
    fun s r off w hl hr => ⟨_, exec_highRegisterRead_latched hl hr, rfl, ?_, fun r' o' hne => ?_⟩,
    fun s r off hl => exec_highRegisterRead_empty hl, fun s r off h => exec_highRegisterRead_unreachable r h⟩
  · rw [latched_eq, find?_latchesAfterLow_same]; rfl
  · rw [latched_eq, find?_latchesAfterLow_other s hne ht]; rfl
  · rw [latched_eq, find?_dropLatch_same]; rfl
  · rw [latched_eq, find?_dropLatch_other hne]; rfl

end Sys2Proof.Machine
end

section
/-! PROOF. Ignored writes (R21, R27). -/

namespace Sys2Proof.Machine

theorem State.fput_regsOnly (s : State) (f : Field) (v : Nat) : State.RegsOnly [f.off] s (s.fput f v) :=
  ⟨rfl, fun _ ha => State.reg_fput_other s f v (List.ne_of_not_mem_cons ha)⟩

theorem State.fsat_regsOnly (s : State) (f : Field) : State.RegsOnly [f.off] s (s.fsat f) := State.fput_regsOnly s f _

theorem State.RegsOnly.trans {as bs : List Nat} {s t u : State} (h : State.RegsOnly as s t) (h' : State.RegsOnly bs t u) :
    State.RegsOnly (as ++ bs) s u := by
  obtain ⟨ht, hregs⟩ := h
  obtain ⟨hu, hregs'⟩ := h'
  refine ⟨by rw [hu, ht], fun a ha => ?_⟩
  rw [List.mem_append, not_or] at ha
  exact (hregs' a ha.2).trans (hregs a ha.1)

theorem State.RegsOnly.mono {as bs : List Nat} {s t : State} (h : State.RegsOnly as s t) (hs : as ⊆ bs) :
    State.RegsOnly bs s t := ⟨h.1, fun a ha => h.2 a fun hm => ha (hs hm)⟩

theorem State.flag_fsat_other (s : State) (f g : Field) (hf : fieldOk f = true) (hg : fieldOk g = true)
    (h : bitsApart g f = true) : (s.fsat f).flag g = s.flag g := State.flag_fput_other s f g _ hf hg h

theorem exec_ignoredWrite_writable {s : State} {off : Nat} (hw : writable off = true) (hr : s.reachable off = true) :
    exec (.ignoredWrite off) s = .next s := by
  simp [exec, execIgnoredWrite, hw, hr]

theorem exec_ignoredWrite_ignored {s : State} {off : Nat} (h : ¬ (writable off = true ∧ s.reachable off = true)) :
    exec (.ignoredWrite off) s = .next (s.ignoreWrite off) := by
  simp only [exec, execIgnoredWrite, Bool.and_eq_true, if_neg h]

/-- The count alone is raised while a capture is held (R21). -/
theorem State.ignoreWrite_held {s : State} (off : Nat) (h : s.flag F.SYS_IGN_ADDR_VALID = true) :
    s.ignoreWrite off = s.fsat F.SYS_IGN_COUNT_COUNT := by
  have hv : (s.fsat F.SYS_IGN_COUNT_COUNT).flag F.SYS_IGN_ADDR_VALID = true := by
    rw [State.flag_fsat_other _ _ _ rfl rfl rfl, h]
  simp [State.ignoreWrite, hv]

/-- With no capture held, the write is captured too (R21). -/
theorem State.ignoreWrite_free {s : State} (off : Nat) (h : ¬ s.flag F.SYS_IGN_ADDR_VALID = true) :
    s.ignoreWrite off =
      ((s.fsat F.SYS_IGN_COUNT_COUNT).fput F.SYS_IGN_ADDR_OFFSET off).fput F.SYS_IGN_ADDR_VALID 1 := by
  have hv : ¬ (s.fsat F.SYS_IGN_COUNT_COUNT).flag F.SYS_IGN_ADDR_VALID = true := by
    rw [State.flag_fsat_other _ _ _ rfl rfl rfl]; exact h
  simp [State.ignoreWrite, hv]

theorem State.ignoreWrite_held_regsOnly {s : State} (off : Nat) (h : s.flag F.SYS_IGN_ADDR_VALID = true) :
    State.RegsOnly [R.SYS_IGN_COUNT] s (s.ignoreWrite off) := by
  rw [State.ignoreWrite_held off h]; exact State.fsat_regsOnly s F.SYS_IGN_COUNT_COUNT

theorem State.ignoreWrite_free_regsOnly {s : State} (off : Nat) (h : ¬ s.flag F.SYS_IGN_ADDR_VALID = true) :
    State.RegsOnly [R.SYS_IGN_COUNT, R.SYS_IGN_ADDR] s (s.ignoreWrite off) := by
  rw [State.ignoreWrite_free off h]
  exact (((State.fsat_regsOnly s _).trans (State.fput_regsOnly _ _ _)).trans (State.fput_regsOnly _ _ _)).mono (by decide)

theorem State.ignoreWrite_count (s : State) (off : Nat) :
    (s.ignoreWrite off).fget F.SYS_IGN_COUNT_COUNT = min (s.fget F.SYS_IGN_COUNT_COUNT + 1) 0xFFFFFFFF := by
  by_cases h : s.flag F.SYS_IGN_ADDR_VALID = true
  · rw [State.ignoreWrite_held off h, State.fget_fsat _ _ rfl]; rfl
  · rw [State.ignoreWrite_free off h, State.fget_fput_other _ _ _ _ rfl rfl rfl,
      State.fget_fput_other _ _ _ _ rfl rfl rfl, State.fget_fsat _ _ rfl]; rfl

theorem State.ignoreWrite_free_offset {s : State} {off : Nat} (hoff : off < 2 ^ 22)
    (h : ¬ s.flag F.SYS_IGN_ADDR_VALID = true) : (s.ignoreWrite off).fget F.SYS_IGN_ADDR_OFFSET = off := by
  rw [State.ignoreWrite_free off h, State.fget_fput_other _ _ _ _ rfl rfl rfl, State.fget_fput_same _ _ _ rfl]
  exact Nat.mod_eq_of_lt hoff

theorem State.ignoreWrite_free_valid {s : State} (off : Nat) (h : ¬ s.flag F.SYS_IGN_ADDR_VALID = true) :
    (s.ignoreWrite off).flag F.SYS_IGN_ADDR_VALID = true := by
  rw [State.ignoreWrite_free off h, State.flag_fput_same _ _ _ rfl]; rfl

/-- Which blocks can be reached depends on the powered domains alone (R23). -/
theorem State.reachable_fput (s : State) (f : Field) (v off : Nat) (hf : fieldOk f = true)
    (h : bitsApart F.RPC_PD_STAT_ON f = true) : (s.fput f v).reachable off = s.reachable off := by
  have hp : ∀ c, (s.fput f v).powered c = s.powered c := fun c => by
    simp only [State.powered, State.fget_fput_other s f F.RPC_PD_STAT_ON v hf rfl h]
  simp only [State.reachable, State.blockHeld, hp]

theorem State.clearField_reachable {s : State} {f : Field} (h : s.reachable f.off = true) :
    s.clearField f = s.fput f 0 := if_pos h

theorem exec_sysIgnAddrClear_reachable {s : State} (h : s.reachable R.SYS_IGN_ADDR = true) :
    exec .sysIgnAddrClear s = .next (s.fput F.SYS_IGN_ADDR_VALID 0) :=
  congrArg Host.Outcome.next (State.clearField_reachable (f := F.SYS_IGN_ADDR_VALID) h)

/-- A write to a block that cannot be reached is an ignored one (R21, R23). -/
theorem exec_ignoredWrite_unreachable {s : State} {off : Nat} (h : ¬ s.reachable off = true) :
    exec (.ignoredWrite off) s = .next (s.ignoreWrite off) := exec_ignoredWrite_ignored fun hw => h hw.2

theorem State.next_clearField_unreachable {s : State} {f : Field} (h : ¬ s.reachable f.off = true) :
    .next (s.clearField f) = exec (.ignoredWrite f.off) s := by
  rw [exec_ignoredWrite_unreachable h, State.clearField, if_neg h]

theorem State.next_clearBits_unreachable {s : State} {f : Field} (mask : Nat) (h : ¬ s.reachable f.off = true) :
    .next (s.clearBits f mask) = exec (.ignoredWrite f.off) s := by
  rw [exec_ignoredWrite_unreachable h, State.clearBits, if_neg h]

/-- A command that clears write-1-to-clear fields of a block that cannot be reached is an ignored write (R19, R23). -/
theorem exec_w1c_unreachable {i : Instr} {s : State} {off : Nat} (hi : w1cRow i = some off) (hwf : i.wf = true)
    (h : ¬ s.reachable off = true) : exec i s = exec (.ignoredWrite off) s := by
  cases i <;> cases hi
  case brgEvtClear mask => exact State.next_clearBits_unreachable (f := F.BRG_EVT_CAUSE) mask h
  case qStatIrqClear q =>
    have hq : q < 16 := of_decide_eq_true hwf
    exact (if_pos hq).trans (State.next_clearField_unreachable (f := F.Q_STAT_IRQ q) h)
  case qStatHaltEvtClear q =>
    have hq : q < 16 := of_decide_eq_true hwf
    exact (if_pos hq).trans (State.next_clearField_unreachable (f := F.Q_STAT_HALT_EVT q) h)
  case voteDisCapClear | censusCapClear | sysIgnAddrClear | folioIomisClear | tgeRejCapClear | timePpsinClear |
      brgPwCapClear | dupDivCapClear | sysViolCapClear => exact State.next_clearField_unreachable h

/-- Settles O3: by whether a capture is held, and after a clear none is. -/
theorem ignoredWritesAreCountedAndCaptured : Obligations.IgnoredWritesAreCountedAndCaptured := by
  unfold Obligations.IgnoredWritesAreCountedAndCaptured
  refine ⟨fun s off hoff hig hv => ⟨_, exec_ignoredWrite_ignored hig, State.ignoreWrite_free_regsOnly off hv,
      State.ignoreWrite_count s off, State.ignoreWrite_free_offset hoff hv, State.ignoreWrite_free_valid off hv⟩,
    fun s off hig hv => ⟨_, exec_ignoredWrite_ignored hig, State.ignoreWrite_held_regsOnly off hv,
      State.ignoreWrite_count s off⟩,
    fun s off hw hr => exec_ignoredWrite_writable hw hr,
    fun s hr => exec_w1c_unreachable rfl rfl hr,
    fun s hr => ⟨_, exec_sysIgnAddrClear_reachable hr, State.fput_regsOnly s F.SYS_IGN_ADDR_VALID 0, ?_, ?_,
      fun off hoff hig => ?_⟩,
    fun i s off hi hwf hr => exec_w1c_unreachable hi hwf hr⟩
  · rw [State.flag_fput_same _ _ _ rfl]; decide
  · exact State.fget_fput_other _ _ _ _ rfl rfl rfl
  · have hv : ¬ (s.fput F.SYS_IGN_ADDR_VALID 0).flag F.SYS_IGN_ADDR_VALID = true := by
      rw [State.flag_fput_same _ _ _ rfl]; decide
    have hig' : ¬ (writable off = true ∧ (s.fput F.SYS_IGN_ADDR_VALID 0).reachable off = true) := by
      rw [State.reachable_fput _ _ _ _ rfl rfl]; exact hig
    exact ⟨_, exec_ignoredWrite_ignored hig', State.ignoreWrite_free_valid off hv,
      State.ignoreWrite_free_offset hoff hv⟩

end Sys2Proof.Machine
end

section
/-! PROOF. Lane states, exclusion and failure (R53, R54, R62): the state and the cause of a lane after each shared
operation, and that none of them touches the fabric. -/

namespace Sys2Proof.Machine

namespace State

/-! ### Registers that the reports of a change write -/

/-- A field is read from the registers alone. -/
theorem fget_of_regs {s t : State} (h : t.regs = s.regs) (f : Field) : t.fget f = s.fget f := by
  simp only [State.fget, State.reg, h]

theorem laneSt_of_regs {s t : State} (h : t.regs = s.regs) (l : Lane) : t.laneSt l = s.laneSt l :=
  congrArg laneStOf (fget_of_regs h _)

theorem excludable_of_regs {s t : State} (h : t.regs = s.regs) (l : Lane) : t.excludable l = s.excludable l := by
  simp only [State.excludable, laneSt_of_regs h]

theorem isVoting_of_regs {s t : State} (h : t.regs = s.regs) (l : Lane) : t.isVoting l = s.isVoting l := by
  simp only [State.isVoting, laneSt_of_regs h]

theorem fget_of_reg {s t : State} {f : Field} (h : t.reg f.off = s.reg f.off) : t.fget f = s.fget f := by
  simp only [State.fget, h]

theorem reg_refreshVote_other (s : State) {a : Nat} (h : a ≠ R.VOTE_CTRL) : s.refreshVote.reg a = s.reg a := by
  have hput : ∀ v w, ((s.fput F.VOTE_CTRL_VOTING v).fput F.VOTE_CTRL_KIND w).reg a = s.reg a := fun v w =>
    (reg_fput_other _ F.VOTE_CTRL_KIND w h).trans (reg_fput_other s F.VOTE_CTRL_VOTING v h)
  unfold State.refreshVote
  dsimp only
  split <;> exact hput _ _

theorem reg_logReg_other (s : State) (e src off : Nat) {a : Nat} (h : a ≠ R.LOG_HEAD) :
    (s.logReg e src off).reg a = s.reg a := by
  simp only [State.logReg, State.log, State.logAt]
  rw [reg_fput_other _ F.LOG_HEAD_SEQ _ h]
  simp only [State.reg, mwrite_regs]

theorem hostVector_regs (s : State) (v : Nat) : (s.hostVector v).regs = s.regs := by
  unfold State.hostVector
  split
  · rfl
  · split <;> rfl

theorem reg_hostEvent_other (s : State) (i : Nat) {a : Nat} (h : a ≠ R.BRG_EVT) : (s.hostEvent i).reg a = s.reg a := by
  unfold State.hostEvent
  split
  · rfl
  · simp only [State.reg, hostVector_regs]
    exact reg_fput_other s F.BRG_EVT_CAUSE _ h

theorem reg_setHeartbeat_other (s : State) (on : Bool) {a : Nat} (h : a ≠ R.STO1_STAT) :
    (s.setHeartbeat on).reg a = s.reg a := by
  unfold State.setHeartbeat
  split
  · rfl
  · exact reg_fput_other s F.STO1_STAT_HEARTBEAT _ h

/-! ### Entering a lane state -/

theorem laneStOf_laneStCode (st : LaneSt) : laneStOf (laneStCode st) = st := by cases st <;> rfl

theorem laneStCode_lt (st : LaneSt) : laneStCode st < 16 := by cases st <;> decide

theorem laneCauseCode_lt (c : LaneCause) : laneCauseCode c < 16 := by cases c <;> decide

/-- The registers LANE_STATE lie above those of FAB and HOST. -/
theorem laneState_ne (l : Lane) {a : Nat} (h : a < 0x200000) : R.LANE_STATE l ≠ a := by
  unfold R.LANE_STATE; omega

theorem laneState_inj {l k : Lane} (h : R.LANE_STATE l = R.LANE_STATE k) : l = k := by
  revert h; cases l <;> cases k <;> decide

/-- What a change of lane `k`'s state does to a field of a register LANE_STATE is the write of STATE. -/
theorem fget_setLaneSt (s : State) (k : Lane) (st : LaneSt) {f : Field} {l : Lane} (hf : f.off = R.LANE_STATE l) :
    (s.setLaneSt k st).fget f = (s.fput (F.LANE_STATE_STATE k) (laneStCode st)).fget f := by
  apply fget_of_reg
  rw [hf]
  exact ((reg_hostEvent_other _ _ (laneState_ne l (by decide))).trans
    (reg_logReg_other _ _ _ _ (laneState_ne l (by decide)))).trans (reg_refreshVote_other _ (laneState_ne l (by decide)))

theorem laneSt_setLaneSt (s : State) (k : Lane) (st : LaneSt) (l : Lane) :
    (s.setLaneSt k st).laneSt l = if l = k then st else s.laneSt l := by
  simp only [State.laneSt, fget_setLaneSt s k st (f := F.LANE_STATE_STATE l) rfl]
  split
  · subst l
    rw [fget_fput_same _ _ _ rfl]
    exact (congrArg laneStOf (Nat.mod_eq_of_lt (laneStCode_lt st))).trans (laneStOf_laneStCode st)
  · rename_i hne
    exact congrArg laneStOf (fget_of_reg (reg_fput_other s (F.LANE_STATE_STATE k) _ fun h => hne (laneState_inj h)))

theorem laneCause_setLaneSt (s : State) (k : Lane) (st : LaneSt) (l : Lane) :
    (s.setLaneSt k st).fget (F.LANE_STATE_CAUSE l) = s.fget (F.LANE_STATE_CAUSE l) := by
  rw [fget_setLaneSt s k st (f := F.LANE_STATE_CAUSE l) rfl]
  exact fget_fput_other _ _ _ _ rfl rfl (by simp [bitsApart, F.LANE_STATE_CAUSE, F.LANE_STATE_STATE])

/-! ### Failure -/

/-- One lane enters FAILED (R54). -/
def failLane (s : State) (k : Lane) : State := if s.laneSt k == .failed then s else s.setLaneSt k .failed

theorem failLanes_eq_foldl (s : State) : s.failLanes = allLanes.foldl failLane s := rfl

theorem failLanes_eq (s : State) : s.failLanes = ((s.failLane .a).failLane .b).failLane .c := by
  simp only [failLanes_eq_foldl, allLanes, List.foldl_cons, List.foldl_nil]

theorem laneSt_failLane (s : State) (k l : Lane) :
    (s.failLane k).laneSt l = if l = k then .failed else s.laneSt l := by
  unfold failLane
  split
  · rename_i h
    rw [beq_iff_eq] at h
    split
    · subst l; exact h
    · rfl
  · exact laneSt_setLaneSt s k .failed l

theorem laneCause_failLane (s : State) (k l : Lane) :
    (s.failLane k).fget (F.LANE_STATE_CAUSE l) = s.fget (F.LANE_STATE_CAUSE l) := by
  unfold failLane
  split
  · rfl
  · exact laneCause_setLaneSt s k .failed l

theorem laneSt_failLanes (s : State) (l : Lane) : s.failLanes.laneSt l = .failed := by
  simp only [failLanes_eq, laneSt_failLane]
  cases l <;> rfl

theorem laneCause_failLanes (s : State) (l : Lane) :
    s.failLanes.fget (F.LANE_STATE_CAUSE l) = s.fget (F.LANE_STATE_CAUSE l) := by
  simp only [failLanes_eq, laneCause_failLane]

/-- The registers of a module that declares itself failed, before its lanes enter FAILED (R54). -/
def failMarks (s : State) (cause task : Nat) : State :=
  ((((s.fput F.VOTE_FAIL_CAUSE cause).fput F.VOTE_FAIL_TASK task).fput F.VOTE_CTRL_EN 0).fput
    F.VOTE_CTRL_FAILED 1).setHeartbeat false

/-- The vote of a failed module holds nothing (R54). -/
def failVote (s : State) : State :=
  { s with vote := { s.vote with failWire := true, outs := [], census := [] } }

theorem failModule_eq {s : State} (cause task : Nat) (h : ¬ s.flag F.VOTE_CTRL_FAILED = true) :
    s.failModule cause task =
      ((s.failMarks cause task).failVote.failLanes.logReg 0x0011 codeVote R.VOTE_FAIL).hostEvent evVote := if_neg h

theorem failModule_failed {s : State} (cause task : Nat) (h : s.flag F.VOTE_CTRL_FAILED = true) :
    s.failModule cause task = s := if_pos h

/-- The log record and the message to the host leave the registers LANE_STATE. -/
theorem fget_logReg_hostEvent (s : State) (e src off i : Nat) {f : Field} {l : Lane} (hf : f.off = R.LANE_STATE l) :
    ((s.logReg e src off).hostEvent i).fget f = s.fget f := by
  apply fget_of_reg
  rw [hf, reg_hostEvent_other _ _ (laneState_ne l (by decide)), reg_logReg_other _ _ _ _ (laneState_ne l (by decide))]

theorem laneSt_failModule {s : State} (cause task : Nat) (l : Lane) (h : ¬ s.flag F.VOTE_CTRL_FAILED = true) :
    (s.failModule cause task).laneSt l = .failed := by
  rw [failModule_eq cause task h, State.laneSt, fget_logReg_hostEvent _ _ _ _ _ (f := F.LANE_STATE_STATE l) rfl]
  exact laneSt_failLanes _ l

theorem reg_failMarks (s : State) (cause task : Nat) (l : Lane) :
    (s.failMarks cause task).reg (R.LANE_STATE l) = s.reg (R.LANE_STATE l) := by
  have hput : ∀ (u : State) (f : Field) (v : Nat), f.off < 0x200000 →
      (u.fput f v).reg (R.LANE_STATE l) = u.reg (R.LANE_STATE l) := fun u f v h =>
    reg_fput_other u f v (laneState_ne l h)
  rw [failMarks, reg_setHeartbeat_other _ _ (laneState_ne l (by decide)), hput _ _ _ (by decide),
    hput _ _ _ (by decide), hput _ _ _ (by decide), hput _ _ _ (by decide)]

theorem laneCause_failModule (s : State) (cause task : Nat) (l : Lane) :
    (s.failModule cause task).fget (F.LANE_STATE_CAUSE l) = s.fget (F.LANE_STATE_CAUSE l) := by
  by_cases h : s.flag F.VOTE_CTRL_FAILED = true
  · rw [failModule_failed cause task h]
  · rw [failModule_eq cause task h, fget_logReg_hostEvent _ _ _ _ _ (f := F.LANE_STATE_CAUSE l) rfl,
      laneCause_failLanes, fget_of_regs (s := s.failMarks cause task) (t := failVote _) rfl]
    exact fget_of_reg (reg_failMarks s cause task l)

/-! ### Exclusion -/

theorem laneSt_exclude (s : State) (l : Lane) (cause : LaneCause) : (s.exclude l cause).laneSt l = .excluded := by
  unfold State.exclude
  rw [laneSt_setLaneSt, if_pos rfl]

theorem exclCounter_off {l : Lane} {cause : LaneCause} {f : Field} (h : exclCounter l cause = some f) :
    f.off < 0x200000 := by
  cases l <;> cases cause <;> cases h <;> decide

theorem laneCause_exclude (s : State) (l : Lane) (cause : LaneCause) :
    (s.exclude l cause).fget (F.LANE_STATE_CAUSE l) = laneCauseCode cause := by
  have hcause : (s.fput (F.LANE_STATE_CAUSE l) (laneCauseCode cause)).fget (F.LANE_STATE_CAUSE l) =
      laneCauseCode cause := (fget_fput_same _ _ _ rfl).trans (Nat.mod_eq_of_lt (laneCauseCode_lt cause))
  have hflags : ∀ u : State, ((u.fput (F.LANE_STATE_LATENT l) 0).fput (F.LANE_STATE_PROBATION l) 0).fget
      (F.LANE_STATE_CAUSE l) = u.fget (F.LANE_STATE_CAUSE l) := fun u => by
    rw [fget_fput_other _ _ _ _ rfl rfl (by simp [bitsApart, F.LANE_STATE_CAUSE, F.LANE_STATE_PROBATION]),
      fget_fput_other _ _ _ _ rfl rfl (by simp [bitsApart, F.LANE_STATE_CAUSE, F.LANE_STATE_LATENT])]
  unfold State.exclude
  dsimp only
  rw [laneCause_setLaneSt]
  refine (fget_of_regs (setLane_regs _ l _) _).trans ((hflags _).trans ?_)
  split
  · rename_i f hf
    exact (fget_of_reg (reg_fsat_other _ f (laneState_ne l (exclCounter_off hf)))).trans hcause
  · exact hcause

/-- A lane that is excluded is in EXCLUDED, or in FAILED where the module fails with it; CAUSE names the cause (R53,
R54). -/
theorem laneSt_excludeCheck {s : State} {l : Lane} (cause : LaneCause) (task : Nat) (h : s.excludable l = true) :
    ((s.excludeCheck l cause task).laneSt l = .excluded ∨ (s.excludeCheck l cause task).laneSt l = .failed) ∧
      (s.excludeCheck l cause task).fget (F.LANE_STATE_CAUSE l) = laneCauseCode cause := by
  have hst := laneSt_exclude s l cause
  have hcause := laneCause_exclude s l cause
  simp only [State.excludeCheck, h, Bool.not_true, Bool.false_eq_true, if_false]
  split
  · refine ⟨?_, (laneCause_failModule _ _ _ l).trans hcause⟩
    by_cases hf : (s.exclude l cause).flag F.VOTE_CTRL_FAILED = true
    · rw [failModule_failed _ _ hf]; exact .inl hst
    · exact .inr (laneSt_failModule _ _ l hf)
  · exact ⟨.inl hst, hcause⟩

theorem laneSt_laneFault {s : State} {l : Lane} (cause : LaneCause) (h : s.excludable l = true) :
    ((s.laneFault l cause).laneSt l = .excluded ∨ (s.laneFault l cause).laneSt l = .failed) ∧
      (s.laneFault l cause).fget (F.LANE_STATE_CAUSE l) = laneCauseCode cause := laneSt_excludeCheck cause _ h

/-! ### The fabric -/

@[simp] theorem refreshVote_fabric (s : State) : s.refreshVote.fabric = s.fabric := by
  unfold State.refreshVote; dsimp only; split <;> rfl
@[simp] theorem logReg_fabric (s : State) (e src off : Nat) : (s.logReg e src off).fabric = s.fabric := by
  simp only [State.logReg, State.log, State.logAt, fput_fabric, mwrite_fabric]
@[simp] theorem hostVector_fabric (s : State) (v : Nat) : (s.hostVector v).fabric = s.fabric := by
  unfold State.hostVector
  split
  · rfl
  · split <;> rfl
@[simp] theorem hostEvent_fabric (s : State) (i : Nat) : (s.hostEvent i).fabric = s.fabric := by
  unfold State.hostEvent; split <;> simp
@[simp] theorem setLaneSt_fabric (s : State) (l : Lane) (st : LaneSt) : (s.setLaneSt l st).fabric = s.fabric := by
  simp [State.setLaneSt]
@[simp] theorem failLanes_fabric (s : State) : s.failLanes.fabric = s.fabric := by
  simp only [State.failLanes, allLanes, List.foldl_cons, List.foldl_nil, apply_ite State.fabric, setLaneSt_fabric,
    ite_self]
@[simp] theorem setHeartbeat_fabric (s : State) (on : Bool) : (s.setHeartbeat on).fabric = s.fabric := by
  unfold State.setHeartbeat; split <;> rfl
@[simp] theorem failModule_fabric (s : State) (cause task : Nat) : (s.failModule cause task).fabric = s.fabric := by
  unfold State.failModule; split <;> simp
@[simp] theorem exclude_fabric (s : State) (l : Lane) (cause : LaneCause) : (s.exclude l cause).fabric = s.fabric := by
  simp only [State.exclude, setLaneSt_fabric, setLane_fabric, fput_fabric]
  split <;> rfl
@[simp] theorem excludeCheck_fabric (s : State) (l : Lane) (cause : LaneCause) (task : Nat) :
    (s.excludeCheck l cause task).fabric = s.fabric := by
  simp only [State.excludeCheck, apply_ite State.fabric, failModule_fabric, exclude_fabric, ite_self]
@[simp] theorem laneFault_fabric (s : State) (l : Lane) (cause : LaneCause) :
    (s.laneFault l cause).fabric = s.fabric := excludeCheck_fabric _ _ _ _

end State

end Sys2Proof.Machine
end

section
/-! PROOF. Fabric units at a receiving block (R13, R15, R16, R18): streams and counters as keyed lists, one equation of
FABRIC_UNIT_RECEIVE for each of its cases, and what taking a complete object changes. -/

namespace Sys2Proof.Machine

/-! ### Streams and counters -/

theorem streamIs_iff (b : Block) (src kind recv : Nat) (x : Stream) :
    streamIs b src kind recv x = true ↔ x.block = b ∧ x.src = src ∧ x.kind = kind ∧ x.recv = recv := by
  simp [streamIs, and_assoc]

theorem stream_key (f : Fabric) (b : Block) (src kind recv : Nat) :
    streamIs b src kind recv (f.stream b src kind recv) = true := by
  unfold Fabric.stream
  split
  · rename_i x hx
    exact List.find?_some hx
  · exact (streamIs_iff _ _ _ _ _).mpr ⟨rfl, rfl, rfl, rfl⟩

/-- A stream that has replaced the one of its key is read back. -/
theorem stream_setStream_same (f : Fabric) {b : Block} {src kind recv : Nat} {x : Stream}
    (hx : streamIs b src kind recv x = true) : (f.setStream x).stream b src kind recv = x := by
  obtain ⟨rfl, rfl, rfl, rfl⟩ := (streamIs_iff b src kind recv x).mp hx
  simp only [Fabric.stream, Fabric.setStream, find?_replaced_same hx]

/-- The key of the counters: their block. -/
def countIs (b : Block) (c : FabricCount) : Bool := c.block == b

theorem count_block (f : Fabric) (b : Block) : countIs b (f.count b) = true := by
  unfold Fabric.count
  split
  · rename_i c hc
    exact List.find?_some (p := countIs b) hc
  · exact beq_self_eq_true b

theorem count_setCount_same (f : Fabric) {b : Block} {c : FabricCount} (hc : countIs b c = true) :
    (f.setCount c).count b = c := by
  obtain rfl : c.block = b := eq_of_beq hc
  have hfind : (f.setCount c).counts.find? (countIs c.block) = some c := find?_replaced_same hc f.counts
  unfold countIs at hfind
  simp only [Fabric.count, hfind]

theorem count_counted (f : Fabric) (b : Block) {k : FabricCount → FabricCount} (hk : ∀ c, (k c).block = c.block) :
    (f.counted b k).count b = k (f.count b) :=
  count_setCount_same f (by rw [countIs, hk]; exact count_block f b)

@[simp] theorem counted_gen (f : Fabric) (b : Block) (k : FabricCount → FabricCount) :
    (f.counted b k).gen = f.gen := rfl

/-- The counters after a tag error, a duplicate, a gap and a stale unit (R13, R15, R18). -/
def FabricCount.tagError (c : FabricCount) : FabricCount := { c with tagErrors := c.tagErrors + 1 }
def FabricCount.duplicate (c : FabricCount) : FabricCount := { c with duplicates := c.duplicates + 1 }
def FabricCount.gap (c : FabricCount) : FabricCount := { c with gaps := c.gaps + 1 }
def FabricCount.stale (c : FabricCount) : FabricCount := { c with stales := c.stales + 1 }

/-! ### The fabric after a unit -/

/-- `s` with `f` as its fabric. -/
def State.withFabric (s : State) (f : Fabric) : State := { s with fabric := f }

@[simp] theorem withFabric_regs (s : State) (f : Fabric) : (s.withFabric f).regs = s.regs := rfl
@[simp] theorem withFabric_vote (s : State) (f : Fabric) : (s.withFabric f).vote = s.vote := rfl
@[simp] theorem withFabric_fabric (s : State) (f : Fabric) : (s.withFabric f).fabric = f := rfl
@[simp] theorem withFabric_lane (s : State) (f : Fabric) (l : Lane) : (s.withFabric f).lane l = s.lane l := by
  cases l <;> rfl

/-- A unit joins the object of its stream, or with `cut` starts the next one (R15). -/
def Fabric.accept (f : Fabric) (b : Block) (tag : DWord) (payload : List Byte) (last cut : Bool) : Fabric :=
  f.setStream ((streamOfTag f b tag).accept (tagSeq tag) payload last cut)

/-- A stale unit is counted; SEQ goes on behind it and the object in progress is lost (R18). -/
def Fabric.lose (f : Fabric) (b : Block) (tag : DWord) : Fabric :=
  (f.counted b FabricCount.stale).setStream
    { streamOfTag f b tag with expected := some ((tagSeq tag + 1) % 2 ^ 32), obj := [], broken := true }

section

variable (f : Fabric) (b : Block) (tag : DWord) (payload : List Byte) (last cut : Bool)

theorem streamOfTag_accept : streamOfTag (f.accept b tag payload last cut) b tag =
    (streamOfTag f b tag).accept (tagSeq tag) payload last cut :=
  stream_setStream_same f (stream_key f b _ _ _)

@[simp] theorem accept_count : (f.accept b tag payload last cut).count b = f.count b := rfl

theorem streamOfTag_lose : streamOfTag (f.lose b tag) b tag =
    { streamOfTag f b tag with expected := some ((tagSeq tag + 1) % 2 ^ 32), obj := [], broken := true } :=
  stream_setStream_same (f.counted b FabricCount.stale) (stream_key f b _ _ _)

@[simp] theorem lose_count : (f.lose b tag).count b = (f.count b).stale := count_counted f b fun _ => rfl

end

/-! ### The cases of R15 -/

theorem seqCase_duplicate {x : Option Nat} {e seq : Nat} (hx : x = some e) (h : 2 ^ 31 ≤ seqAhead e seq) :
    seqCase x seq = .duplicate := by
  have h0 : ¬ seqAhead e seq = 0 := by omega
  subst hx
  exact (if_neg h0).trans (if_neg (Nat.not_lt.mpr h))

theorem seqCase_gap {x : Option Nat} {e seq : Nat} (hx : x = some e) (h0 : 0 < seqAhead e seq)
    (h : seqAhead e seq < 2 ^ 31) : seqCase x seq = .gap := by
  subst hx
  exact (if_neg (Nat.ne_of_gt h0)).trans (if_pos h)

theorem seqCase_inOrder {x : Option Nat} {seq : Nat} (h : ∀ e, x = some e → seqAhead e seq = 0) :
    seqCase x seq = .inOrder := by
  cases x with
  | none => rfl
  | some e => exact if_pos (h e rfl)

/-! ### FABRIC_UNIT_RECEIVE, case by case

The hypotheses of an equation choose the branch; both sides are then the same up to the names given above to what a unit
does to the counters and the streams, which `rfl` unfolds. -/

/-- A gap in a TGI_SET stream leaves the fabric (R316). -/
@[simp] theorem tgiGap_fabric (u : State) (b : Block) (kind : Nat) : (u.tgiGap b kind).fabric = u.fabric := by
  unfold State.tgiGap
  split
  · split <;> simp
  · rfl

section

variable {s : State} {b : Block} {tag : DWord} (payload : List Byte) (last : Bool) (t : Nat)

theorem exec_fabricUnitReceive_reserved (hk : ¬ kindKnown (tagKind tag) = true) :
    exec (.fabricUnitReceive b tag payload last t) s =
      .next ((s.tick t).withFabric (s.fabric.counted b FabricCount.tagError)) := by
  simp [exec, execFabricUnitReceive, State.withFabric, hk]
  rfl

variable (hk : kindKnown (tagKind tag) = true)
include hk

theorem exec_fabricUnitReceive_duplicate
    (hc : seqCase (streamOfTag s.fabric b tag).expected (tagSeq tag) = .duplicate) :
    exec (.fabricUnitReceive b tag payload last t) s =
      .next ((s.tick t).withFabric (s.fabric.counted b FabricCount.duplicate)) := by
  unfold streamOfTag at hc
  simp [exec, execFabricUnitReceive, State.withFabric, hk, hc]
  rfl

/-- A stale unit that is the next one of its stream (R18). -/
theorem exec_fabricUnitReceive_stale
    (hc : seqCase (streamOfTag s.fabric b tag).expected (tagSeq tag) = .inOrder)
    (hg : ¬ genAccepted s.fabric.gen (tagGen tag) = true) :
    exec (.fabricUnitReceive b tag payload last t) s =
      .next ((s.tick t).withFabric (s.fabric.lose b tag)) := by
  unfold streamOfTag at hc
  simp [exec, execFabricUnitReceive, State.withFabric, hk, hc, hg]
  rfl

/-- A unit that is the next one of its stream joins the object (R15). -/
theorem exec_fabricUnitReceive_joins
    (hc : seqCase (streamOfTag s.fabric b tag).expected (tagSeq tag) = .inOrder)
    (hg : genAccepted s.fabric.gen (tagGen tag) = true) :
    exec (.fabricUnitReceive b tag payload false t) s =
      .next ((s.tick t).withFabric (s.fabric.accept b tag payload false false)) := by
  unfold streamOfTag at hc
  simp [exec, execFabricUnitReceive, State.withFabric, hk, hc, hg]
  rfl

/-- The unit that ends an object hands it over (R15). -/
theorem exec_fabricUnitReceive_ends
    (hc : seqCase (streamOfTag s.fabric b tag).expected (tagSeq tag) = .inOrder)
    (hg : genAccepted s.fabric.gen (tagGen tag) = true) :
    exec (.fabricUnitReceive b tag payload true t) s =
      .next (((s.tick t).withFabric (s.fabric.accept b tag payload true false)).deliver
        b tag ((streamOfTag s.fabric b tag).obj ++ payload) (streamOfTag s.fabric b tag).broken) := by
  unfold streamOfTag at hc
  simp [exec, execFabricUnitReceive, State.withFabric, hk, hc, hg, Stream.whole]
  rfl

/-- A unit behind a gap starts the next object (R15). -/
theorem exec_fabricUnitReceive_gap
    (hc : seqCase (streamOfTag s.fabric b tag).expected (tagSeq tag) = .gap)
    (hg : genAccepted s.fabric.gen (tagGen tag) = true) :
    exec (.fabricUnitReceive b tag payload false t) s =
      .next (((s.tick t).tgiGap b (tagKind tag)).withFabric
        ((s.fabric.counted b FabricCount.gap).accept b tag payload false true)) := by
  unfold streamOfTag at hc
  simp [exec, execFabricUnitReceive, State.withFabric, hk, hc, hg]
  rfl

/-- A stale unit behind a gap is counted as both (R15, R18). -/
theorem exec_fabricUnitReceive_gap_stale
    (hc : seqCase (streamOfTag s.fabric b tag).expected (tagSeq tag) = .gap)
    (hg : ¬ genAccepted s.fabric.gen (tagGen tag) = true) :
    exec (.fabricUnitReceive b tag payload last t) s =
      .next (((s.tick t).tgiGap b (tagKind tag)).withFabric
        ((s.fabric.counted b FabricCount.gap).lose b tag)) := by
  unfold streamOfTag at hc
  simp [exec, execFabricUnitReceive, State.withFabric, hk, hc, hg]
  rfl

end

/-! ### What taking a complete object changes -/

/-- An object as a block keeps it. -/
def deliveredOf (b : Block) (tag : DWord) (bytes : List Byte) (gapped : Bool) : Delivered :=
  ⟨b, tagKind tag, tagMask tag, tagGen tag, keptBytes b (tagKind tag) bytes, gapped⟩

/-- The fabric of a block that keeps an object `d`; of a STATUS object it takes the report of its sender (R26). -/
def Fabric.kept (f : Fabric) (tag : DWord) (d : Delivered) : Fabric :=
  if (blockLane d.block).isNone && tagKind tag == kindStatus then
    { f.keep d with reports := (f.keep d).reports.filter (· != tagSrc tag) ++ [tagSrc tag] }
  else f.keep d

theorem streamOfTag_kept (f : Fabric) (b : Block) (tag : DWord) (d : Delivered) :
    streamOfTag (f.kept tag d) b tag = streamOfTag f b tag := by
  unfold Fabric.kept; split <;> rfl

theorem mem_kept_delivered (f : Fabric) (tag : DWord) (d : Delivered) : d ∈ (f.kept tag d).delivered := by
  have hd : d ∈ (f.keep d).delivered := List.mem_append_right _ (List.mem_singleton_self d)
  unfold Fabric.kept; split <;> exact hd

section

variable {s : State} {b : Block} {tag : DWord} {l : Lane} (bytes : List Byte) (gapped : Bool)

/-- A block other than the vote keeps the object; only a lane does more, with a TGI_SET object (log entry 7). -/
theorem deliver_kept (hb : b ≠ .vote) (hk : tagKind tag ≠ kindTgiSet ∨ blockLane b = none) :
    s.deliver b tag bytes gapped = s.withFabric (s.fabric.kept tag (deliveredOf b tag bytes gapped)) := by
  cases hl : blockLane b with
  | none =>
    by_cases hs : tagKind tag = kindStatus <;>
      simp [State.deliver, State.withFabric, Fabric.kept, deliveredOf, State.report, hb, hl, hs]
  | some l =>
    have hk' : tagKind tag ≠ kindTgiSet := hk.resolve_right (by simp [hl])
    simp [State.deliver, State.withFabric, Fabric.kept, deliveredOf, hb, hl, hk']

/-- A lane keeps a TGI_SET object and takes it into its staging buffers (R316). -/
theorem deliver_tgi (hk : tagKind tag = kindTgiSet) (hl : blockLane b = some l) :
    s.deliver b tag bytes gapped =
      (s.withFabric (s.fabric.kept tag (deliveredOf b tag bytes gapped))).takeTgi l bytes := by
  have hb : b ≠ .vote := fun h => by rw [h] at hl; cases hl
  simp [State.deliver, State.withFabric, Fabric.kept, deliveredOf, hb, hl, hk]

/-- The vote takes the LANE_OUT object of the lane that LANE_MASK names (R46). -/
theorem deliver_laneOut (hk : tagKind tag = kindLaneOut) (hm : maskLane (tagMask tag) = some l) :
    s.deliver .vote tag bytes gapped =
      s.holdOut ⟨l, byteAt (bytes.drop (bytes.length - 72)) 3, tagGen tag, bytes⟩ := by
  simp [State.deliver, hk, hm]

/-- The vote takes the CENSUS hash of the lane that LANE_MASK names (R59). -/
theorem deliver_census (hk : tagKind tag = kindCensus) (hm : maskLane (tagMask tag) = some l) :
    s.deliver .vote tag bytes gapped = s.holdCensus (censusOfPayload l bytes) := by
  have hne : ¬ kindCensus = kindLaneOut := by decide
  simp [State.deliver, hk, hm, hne]

end

/-- What a lane makes of a TGI_SET object does not depend on the fabric. -/
theorem tgiOf_fabric (s : State) (f : Fabric) (bytes : List Byte) :
    (s.withFabric f).tgiOf bytes = s.tgiOf bytes := rfl

theorem takeTgi_staged {s : State} {bytes : List Byte} {i : Nat} {d : TgeDelivery} (l : Lane)
    (h : s.tgiOf bytes = some (some (i, d))) : s.takeTgi l bytes = s.setLane l ((s.lane l).stageTgi i d) := by
  simp only [State.takeTgi, h]

theorem takeTgi_bad {s : State} {bytes : List Byte} (l : Lane) (h : s.tgiOf bytes = none) :
    s.takeTgi l bytes = s.laneFault l .missing := by
  simp only [State.takeTgi, h]

theorem tgiGap_lane {u : State} {b : Block} {l : Lane} {kind : Nat} (hl : blockLane b = some l)
    (hk : kind = kindTgiSet) : u.tgiGap b kind = u.laneFault l .missing := by
  simp [State.tgiGap, hl, hk]

theorem tgiGap_other {u : State} {b : Block} {kind : Nat} (h : kind ≠ kindTgiSet ∨ blockLane b = none) :
    u.tgiGap b kind = u := by
  cases hl : blockLane b with
  | none => simp [State.tgiGap, hl]
  | some l => simp [State.tgiGap, hl, h.resolve_right (by simp [hl])]

/-- The vote discards what a lane that does not vote sends (R53). -/
theorem holdOut_discarded {s : State} {o : OutObj} (h : ¬ s.isVoting o.lane = true) : s.holdOut o = s := by
  simp [State.holdOut, h]

theorem holdOut_held {s : State} {o : OutObj} (h : s.isVoting o.lane = true) :
    s.holdOut o = { s with vote := { s.vote with
      outs := s.vote.outs.filter (fun x => !(x.lane == o.lane && x.task == o.task)) ++ [o] } } := by
  simp [State.holdOut, h]

theorem censusOfPayload_lane (l : Lane) (p : List Byte) : (censusOfPayload l p).lane = l := rfl

@[simp] theorem roundOver_withFabric (s : State) (f : Fabric) (h : CensusHash) :
    (s.withFabric f).roundOver h = s.roundOver h := rfl
@[simp] theorem censusLate_withFabric (s : State) (f : Fabric) (h : CensusHash) :
    (s.withFabric f).censusLate h = s.censusLate h := rfl

/-- The vote discards a hash of a lane that does not vote, and a late one (R53, R60). -/
theorem holdCensus_discarded {s : State} {h : CensusHash}
    (hd : ¬ s.isVoting h.lane = true ∨ s.roundOver h = true ∨ s.censusLate h = true) : s.holdCensus h = s := by
  simp only [State.holdCensus]
  rw [if_pos]
  simpa [or_assoc] using hd

theorem holdCensus_held {s : State} {h : CensusHash} (hv : s.isVoting h.lane = true) (hr : ¬ s.roundOver h = true)
    (hl : ¬ s.censusLate h = true) :
    s.holdCensus h = { s with vote := { s.vote with
      census := s.vote.census.filter (fun x => !censusSame h x) ++ [h] } } := by
  simp [State.holdCensus, hv, hr, hl]

end Sys2Proof.Machine
end

section
/-! PROOF. Fabric units are sequenced: the clauses of the statement, one lemma for each hand-over that needs its own
argument. -/

namespace Sys2Proof.Machine

theorem isVoting_withFabric_tick (s : State) (t : Nat) (f : Fabric) (l : Lane) :
    ((s.tick t).withFabric f).isVoting l = s.isVoting l := State.isVoting_of_regs (State.tick_regs s t) l

theorem laneFault_missing {s u : State} {l : Lane} (hr : u.regs = s.regs) (hx : s.excludable l = true) :
    ((u.laneFault l .missing).laneSt l = .excluded ∨ (u.laneFault l .missing).laneSt l = .failed) ∧
      (u.laneFault l .missing).fget (F.LANE_STATE_CAUSE l) = laneCauseCode .missing :=
  State.laneSt_laneFault _ ((State.excludable_of_regs hr l).trans hx)

section

variable {s : State} {b : Block} {l : Lane} {tag : DWord} (payload : List Byte) (t : Nat)

/-- A lane that counts a gap in a TGI_SET stream is excluded with cause MISSING, whatever the unit's GEN (R316). -/
theorem fabricUnitReceive_tgi_gap (hk : tagKind tag = kindTgiSet) (hl : blockLane b = some l)
    (hx : s.excludable l = true) (hc : seqCase (streamOfTag s.fabric b tag).expected (tagSeq tag) = .gap) :
    Completes (.fabricUnitReceive b tag payload false t) s fun v =>
      (v.laneSt l = .excluded ∨ v.laneSt l = .failed) ∧ v.fget (F.LANE_STATE_CAUSE l) = laneCauseCode .missing ∧
      (v.fabric.count b).gaps = (s.fabric.count b).gaps + 1 := by
  have hknown : kindKnown (tagKind tag) = true := by rw [hk]; rfl
  have hcount : (s.fabric.counted b FabricCount.gap).count b = (s.fabric.count b).gap := count_counted _ b fun _ => rfl
  obtain ⟨hst, hcause⟩ := laneFault_missing (State.tick_regs s t) hx
  rw [← tgiGap_lane hl hk] at hst hcause
  by_cases hg : genAccepted s.fabric.gen (tagGen tag) = true
  · refine ⟨_, exec_fabricUnitReceive_gap payload t hknown hc hg, hst, hcause, ?_⟩
    rw [withFabric_fabric, accept_count, hcount]; rfl
  · refine ⟨_, exec_fabricUnitReceive_gap_stale payload false t hknown hc hg, hst, hcause, ?_⟩
    rw [withFabric_fabric, lose_count, hcount]; rfl

variable (hc : seqCase (streamOfTag s.fabric b tag).expected (tagSeq tag) = .inOrder)
  (hg : genAccepted s.fabric.gen (tagGen tag) = true)
include hc hg

/-- A complete TGI_SET object at a lane is kept and taken (R316). -/
theorem exec_fabricUnitReceive_tgi (hk : tagKind tag = kindTgiSet) (hl : blockLane b = some l) :
    ∃ f, exec (.fabricUnitReceive b tag payload true t) s =
      .next (((s.tick t).withFabric f).takeTgi l ((streamOfTag s.fabric b tag).obj ++ payload)) := by
  have hknown : kindKnown (tagKind tag) = true := by rw [hk]; rfl
  exact ⟨_, (exec_fabricUnitReceive_ends payload t hknown hc hg).trans (congrArg _ (deliver_tgi _ _ hk hl))⟩

theorem fabricUnitReceive_tgi_staged (hk : tagKind tag = kindTgiSet) (hl : blockLane b = some l) {i : Nat}
    {d : TgeDelivery} (hd : (s.tick t).tgiOf ((streamOfTag s.fabric b tag).obj ++ payload) = some (some (i, d))) :
    Completes (.fabricUnitReceive b tag payload true t) s fun v =>
      v.lane l = (s.lane l).stageTgi i d ∧ (∀ k, k ≠ l → v.lane k = s.lane k) ∧ v.regs = s.regs ∧ v.vote = s.vote := by
  obtain ⟨f, hf⟩ := exec_fabricUnitReceive_tgi payload t hc hg hk hl
  rw [takeTgi_staged l ((tgiOf_fabric _ f _).trans hd)] at hf
  refine ⟨_, hf, ?_, fun k hne => ?_, ?_, ?_⟩
  · rw [State.lane_setLane_same, withFabric_lane, State.lane_tick]
  · rw [State.lane_setLane_other _ _ hne, withFabric_lane, State.lane_tick]
  · rw [State.setLane_regs, withFabric_regs, State.tick_regs]
  · rw [State.setLane_vote, withFabric_vote, State.tick_vote]

theorem fabricUnitReceive_tgi_bad (hk : tagKind tag = kindTgiSet) (hl : blockLane b = some l)
    (hd : (s.tick t).tgiOf ((streamOfTag s.fabric b tag).obj ++ payload) = none) (hx : s.excludable l = true) :
    Completes (.fabricUnitReceive b tag payload true t) s fun v =>
      (v.laneSt l = .excluded ∨ v.laneSt l = .failed) ∧ v.fget (F.LANE_STATE_CAUSE l) = laneCauseCode .missing := by
  obtain ⟨f, hf⟩ := exec_fabricUnitReceive_tgi payload t hc hg hk hl
  rw [takeTgi_bad l ((tgiOf_fabric _ f _).trans hd)] at hf
  exact ⟨_, hf, laneFault_missing (State.tick_regs s t) hx⟩

end

section

variable {s : State} {l : Lane} {tag : DWord} (payload : List Byte) (t : Nat)
  (hm : maskLane (tagMask tag) = some l)
  (hc : seqCase (streamOfTag s.fabric .vote tag).expected (tagSeq tag) = .inOrder)
  (hg : genAccepted s.fabric.gen (tagGen tag) = true)
include hm hc hg

/-- A LANE_OUT object at the vote. -/
theorem exec_fabricUnitReceive_laneOut (hk : tagKind tag = kindLaneOut) :
    exec (.fabricUnitReceive .vote tag payload true t) s =
      .next (((s.tick t).withFabric (s.fabric.accept .vote tag payload true false)).holdOut
        (let o := (streamOfTag s.fabric .vote tag).obj ++ payload
         ⟨l, byteAt (o.drop (o.length - 72)) 3, tagGen tag, o⟩)) := by
  have hknown : kindKnown (tagKind tag) = true := by rw [hk]; rfl
  exact (exec_fabricUnitReceive_ends payload t hknown hc hg).trans (congrArg _ (deliver_laneOut _ _ hk hm))

/-- A CENSUS hash at the vote. -/
theorem exec_fabricUnitReceive_census (hk : tagKind tag = kindCensus) :
    exec (.fabricUnitReceive .vote tag payload true t) s =
      .next (((s.tick t).withFabric (s.fabric.accept .vote tag payload true false)).holdCensus
        (censusOfPayload l ((streamOfTag s.fabric .vote tag).obj ++ payload))) := by
  have hknown : kindKnown (tagKind tag) = true := by rw [hk]; rfl
  exact (exec_fabricUnitReceive_ends payload t hknown hc hg).trans (congrArg _ (deliver_census _ _ hk hm))

/-- The vote discards what a lane that does not vote sends (R53). -/
theorem fabricUnitReceive_not_voting (hk : tagKind tag = kindLaneOut ∨ tagKind tag = kindCensus)
    (hv : ¬ s.isVoting l = true) :
    exec (.fabricUnitReceive .vote tag payload true t) s =
      .next ((s.tick t).withFabric (s.fabric.accept .vote tag payload true false)) := by
  have hv' : ¬ ((s.tick t).withFabric (s.fabric.accept .vote tag payload true false)).isVoting l = true := by
    rw [isVoting_withFabric_tick]; exact hv
  obtain hk | hk := hk
  · rw [exec_fabricUnitReceive_laneOut payload t hm hc hg hk, holdOut_discarded]
    exact hv'
  · rw [exec_fabricUnitReceive_census payload t hm hc hg hk, holdCensus_discarded]
    exact .inl hv'

theorem fabricUnitReceive_census_voting (hk : tagKind tag = kindCensus) (hv : s.isVoting l = true) :
    Completes (.fabricUnitReceive .vote tag payload true t) s fun v =>
      let u := s.tick t
      let h := censusOfPayload l ((streamOfTag s.fabric .vote tag).obj ++ payload)
      v = { u with fabric := v.fabric, vote := { u.vote with census := v.vote.census } } ∧
      (u.roundOver h ∨ u.censusLate h → v.vote.census = u.vote.census) ∧
      (¬ u.roundOver h → ¬ u.censusLate h → h ∈ v.vote.census) := by
  have hexec := exec_fabricUnitReceive_census payload t hm hc hg hk
  have hv' : ((s.tick t).withFabric (s.fabric.accept .vote tag payload true false)).isVoting l = true := by
    rw [isVoting_withFabric_tick]; exact hv
  dsimp only
  generalize hh : censusOfPayload l ((streamOfTag s.fabric .vote tag).obj ++ payload) = h at *
  have hlane : h.lane = l := by rw [← hh, censusOfPayload_lane]
  by_cases hd : (s.tick t).roundOver h = true ∨ (s.tick t).censusLate h = true
  · rw [holdCensus_discarded (.inr (by simpa using hd))] at hexec
    exact ⟨_, hexec, rfl, fun _ => rfl, fun hr hl => absurd hd (not_or.mpr ⟨hr, hl⟩)⟩
  · obtain ⟨hr, hl⟩ := not_or.mp hd
    rw [holdCensus_held (by rw [hlane]; exact hv') (by simpa using hr) (by simpa using hl)] at hexec
    exact ⟨_, hexec, rfl, fun h' => absurd h' hd, fun _ _ => List.mem_append_right _ (List.mem_singleton_self h)⟩

end

/-- Settles O2: by the case of R15 and R18 that a unit falls under, and by what the receiving block does with a complete
object. -/
theorem fabricUnitsAreSequenced : Obligations.FabricUnitsAreSequenced := by
  unfold Obligations.FabricUnitsAreSequenced
  simp only [State.tick_fabric]
  refine ⟨?reserved, ?duplicate, ?gap, ?tgiGap, ?joins, ?stale, ?ends, ?tgi, ?vote⟩
  case reserved =>
    intro s b tag payload last t hk
    exact ⟨_, exec_fabricUnitReceive_reserved payload last t hk, rfl, rfl, rfl, rfl, count_counted _ b fun _ => rfl⟩
  case duplicate =>
    intro s b tag payload last t e hk he hd
    exact ⟨_, exec_fabricUnitReceive_duplicate payload last t hk (seqCase_duplicate he hd), rfl, rfl, rfl,
      count_counted _ b fun _ => rfl⟩
  case gap =>
    intro s b tag payload t e hk he hpos hlt hg hother
    have hexec := exec_fabricUnitReceive_gap payload t hk (seqCase_gap he hpos hlt) hg
    rw [tgiGap_other hother] at hexec
    refine ⟨_, hexec, rfl, rfl, count_counted s.fabric b fun _ => rfl, ?_⟩
    rw [withFabric_fabric, streamOfTag_accept]
    exact ⟨rfl, rfl, rfl⟩
  case tgiGap =>
    intro s b l tag payload t e hk hl hx he hpos hlt
    exact fabricUnitReceive_tgi_gap payload t hk hl hx (seqCase_gap he hpos hlt)
  case joins =>
    intro s b tag payload t hk he hg
    refine ⟨_, exec_fabricUnitReceive_joins payload t hk (seqCase_inOrder he) hg, rfl, rfl, rfl, ?_⟩
    rw [withFabric_fabric, streamOfTag_accept]
    exact ⟨rfl, rfl⟩
  case stale =>
    intro s b tag payload last t hk he hg
    refine ⟨_, exec_fabricUnitReceive_stale payload last t hk (seqCase_inOrder he) hg, rfl, rfl, lose_count _ _ _, ?_⟩
    rw [withFabric_fabric, streamOfTag_lose]
    exact ⟨rfl, rfl, rfl⟩
  case ends =>
    intro s b tag payload t hk he hg hb hother
    have hexec := exec_fabricUnitReceive_ends payload t hk (seqCase_inOrder he) hg
    rw [deliver_kept _ _ hb hother] at hexec
    refine ⟨_, hexec, rfl, ?_, mem_kept_delivered _ _ _⟩
    rw [withFabric_fabric, streamOfTag_kept, withFabric_fabric, streamOfTag_accept]; rfl
  case tgi =>
    intro s b l tag payload t hk hl he hg
    exact ⟨fun i d hd => fabricUnitReceive_tgi_staged payload t (seqCase_inOrder he) hg hk hl hd,
      fun hd hx => fabricUnitReceive_tgi_bad payload t (seqCase_inOrder he) hg hk hl hd hx⟩
  case vote =>
    intro s l tag payload t hk hm he hg
    have hc := seqCase_inOrder he
    refine ⟨fun hv => ⟨_, fabricUnitReceive_not_voting payload t hm hc hg hk hv, rfl, ?_⟩, fun hv hout => ?_,
      fun hv hcensus => fabricUnitReceive_census_voting payload t hm hc hg hcensus hv⟩
    · rw [withFabric_fabric, streamOfTag_accept]; rfl
    · have hv' : ((s.tick t).withFabric (s.fabric.accept .vote tag payload true false)).isVoting l = true := by
        rw [isVoting_withFabric_tick]; exact hv
      exact ⟨_, (exec_fabricUnitReceive_laneOut payload t hm hc hg hout).trans (congrArg _ (holdOut_held hv')), rfl⟩

end Sys2Proof.Machine
end

section
/-! PROOF. Execution pairs in lockstep (R28 to R35): the pair that a retired store and a closed window leave. -/

namespace Sys2Proof.Machine

/-! ### Lanes, pairs and cores -/

theorem LaneState.pair_setPair_other (x : LaneState) {e k : Ep} (p : Pair) (h : k ≠ e) :
    (x.setPair e p).pair k = x.pair k := by
  match e, k with
  | .ep0, .ep0 => exact absurd rfl h
  | .ep0, .ep1 => rfl
  | .ep1, .ep0 => rfl
  | .ep1, .ep1 => exact absurd rfl h

@[simp] theorem LaneState.setPair_pair (x : LaneState) (e : Ep) : x.setPair e (x.pair e) = x := by cases e <;> rfl

@[simp] theorem State.lane_setPair (s : State) (l : Lane) (e : Ep) (p : Pair) :
    (s.setPair l e p).lane l = (s.lane l).setPair e p := State.lane_setLane_same s l _

theorem State.lane_setPair_other (s : State) {l k : Lane} (e : Ep) (p : Pair) (h : k ≠ l) :
    (s.setPair l e p).lane k = s.lane k := State.lane_setLane_other s _ h

theorem State.pair_setPair (s : State) (l : Lane) (e : Ep) (p : Pair) : ((s.setPair l e p).lane l).pair e = p := by
  rw [State.lane_setPair, State.pair_setPair_same]

/-- The core of a pair that is not `c`. -/
def otherCore (c : Core) : Core := if c = .main then .checker else .main

@[simp] theorem Pair.core_setCore_same (p : Pair) (c : Core) (x : CoreState) : (p.setCore c x).core c = x := by
  cases c <;> rfl

@[simp] theorem Pair.core_setCore_other (p : Pair) (c : Core) (x : CoreState) :
    (p.setCore c x).core (otherCore c) = p.core (otherCore c) := by
  cases c <;> rfl

@[simp] theorem Pair.setCore_egress (p : Pair) (c : Core) (x : CoreState) : (p.setCore c x).egress = p.egress := by
  cases c <;> rfl

@[simp] theorem Pair.setCore_proofWindow (p : Pair) (c : Core) (x : CoreState) :
    (p.setCore c x).proofWindow = p.proofWindow := by
  cases c <;> rfl

/-- `p` with another egress buffer. -/
def Pair.withEgress (p : Pair) (es : List EgressEntry) : Pair := { p with egress := es }

@[simp] theorem Pair.withEgress_core (p : Pair) (es : List EgressEntry) (c : Core) : (p.withEgress es).core c = p.core c := by
  cases c <;> rfl

/-- `p` with another proof window. -/
def Pair.withProofWindow (p : Pair) (w : Option Nat) : Pair := { p with proofWindow := w }

@[simp] theorem Pair.withProofWindow_core (p : Pair) (w : Option Nat) (c : Core) : (p.withProofWindow w).core c = p.core c := by
  cases c <;> rfl

theorem stallField_ok (l : Lane) (e : Ep) : fieldOk (stallField l e) = true := by cases e <;> rfl

theorem fieldMax_stallField (l : Lane) (e : Ep) : fieldMax (stallField l e) = 0xFFFFFFFF := by cases e <;> rfl

/-! ### STORE_RETIRE -/

/-- The core after a retired store (R29, R31). -/
def CoreState.stored (x : CoreState) (branches : List DWord) (addr : DWord) (size : Nat) (attr : Byte)
    (data : List DWord) : CoreState :=
  { x with sig := sigFeed x.sig (branchWords branches ++ storeWords addr size attr data), stores := x.stores + 1 }

/-- The egress buffer after a retired store of core `c` (R33, R62). -/
def Pair.storedEgress (p : Pair) (c : Core) (isOpen : Bool) (addr : DWord) (size : Nat) (data : List DWord) :
    List EgressEntry :=
  p.egress ++ (if c = .main ∧ isOpen = true then [⟨(p.core c).window, addr, storeData size data⟩] else [])

/-- The pair after a retired store of core `c`. -/
def Pair.stored (p : Pair) (c : Core) (isOpen : Bool) (branches : List DWord) (addr : DWord) (size : Nat) (attr : Byte)
    (data : List DWord) : Pair :=
  (p.setCore c ((p.core c).stored branches addr size attr data)).withEgress (p.storedEgress c isOpen addr size data)

section

variable {s : State} {l : Lane} {e : Ep} {c : Core} (branches : List DWord) (addr : DWord) (size : Nat) (attr : Byte)
  (data : List DWord)

theorem Pair.retires_iff (p : Pair) (c : Core) (isOpen : Bool) :
    p.retires c isOpen = true ↔ (p.core c).stores < 32 ∧ (c = .main → isOpen = true → p.egress.length < 64) ∧
      (c = .checker → ¬ (p.stalled = true ∧ p.checker.caughtUp p.main = true)) := by
  have hst : decide ((p.core c).stores < windowStores) = true ↔ (p.core c).stores < 32 := decide_eq_true_iff
  have hroom : decide (p.egress.length < egressMax) = true ↔ p.egress.length < 64 := decide_eq_true_iff
  cases c <;> cases isOpen <;> simp [Pair.retires, hst, hroom, Classical.or_iff_not_imp_left]

theorem exec_storeRetire_retires (hrun : s.coresRun l = true)
    (hret : ((s.lane l).pair e).retires c (s.egressOpen l) = true) :
    exec (.storeRetire l e c branches addr size attr data) s =
      .next (s.setPair l e (((s.lane l).pair e).stored c (s.egressOpen l) branches addr size attr data)) := by
  simp only [exec, execStoreRetire, hrun, hret, Bool.not_true, Bool.false_eq_true, if_false, if_true]
  cases c <;> cases h : s.egressOpen l <;>
    simp [Pair.stored, CoreState.stored, Pair.storedEgress, Pair.withEgress, Pair.setCore, Pair.core]

theorem exec_storeRetire_stalls (hrun : s.coresRun l = true)
    (hret : ¬ ((s.lane l).pair e).retires .main (s.egressOpen l) = true) (hst : ((s.lane l).pair e).main.stores < 32) :
    exec (.storeRetire l e .main branches addr size attr data) s =
      .next ((s.setPair l e { (s.lane l).pair e with stalled := true }).fsat (stallField l e)) := by
  simp [exec, execStoreRetire, hrun, hret, hst, windowStores]

theorem exec_storeRetire_waits (h : ¬ s.coresRun l = true ∨ 32 ≤ (((s.lane l).pair e).core c).stores ∨
    (c = .checker ∧ ((s.lane l).pair e).stalled = true ∧
      ((s.lane l).pair e).checker.caughtUp ((s.lane l).pair e).main = true)) :
    exec (.storeRetire l e c branches addr size attr data) s = .next s := by
  by_cases hrun : s.coresRun l = true
  · have hheld : ¬ ((s.lane l).pair e).retires c (s.egressOpen l) = true := by
      rw [Pair.retires_iff]
      rintro ⟨hst, -, hchk⟩
      obtain h | h | ⟨hc, hstall⟩ := h
      · exact h hrun
      · omega
      · exact hchk hc hstall
    have hnostall : ¬ (c = .main ∧ ((s.lane l).pair e).main.stores < 32) := by
      rintro ⟨rfl, hst⟩
      obtain h | h | ⟨hc, -⟩ := h
      · exact h hrun
      · exact absurd hst (Nat.not_lt.mpr h)
      · cases hc
    simp only [exec, execStoreRetire, hrun, Bool.not_true, Bool.false_eq_true, if_false, if_neg hheld]
    refine if_neg fun h => hnostall ?_
    rw [Bool.and_eq_true, beq_iff_eq, decide_eq_true_eq] at h
    exact h
  · simp [exec, execStoreRetire, hrun]

end

/-! ### WINDOW_CLOSE -/

/-- The core after a window close: its signature waits for the comparator and the next window opens (R28, R31). -/
def CoreState.closes (x : CoreState) (branches : List DWord) : CoreState :=
  { sig := sigInit, window := x.window + 1, stores := 0
    closed := x.closed ++ [(x.window, sigFeed x.sig (branchWords branches ++ [typeClose x.window]))] }

/-- The window of the proof after core `c` has closed one (R38). -/
def Pair.closedProof (p : Pair) (c : Core) : Option Nat :=
  if c = .main ∧ p.armed = true ∧ p.proofWindow = none then some p.main.window else p.proofWindow

/-- The pair after a window close of core `c`. -/
def Pair.closes (p : Pair) (c : Core) (branches : List DWord) : Pair :=
  (p.setCore c ((p.core c).closes branches)).withProofWindow (p.closedProof c)

theorem exec_windowClose_runs {s : State} {l : Lane} (e : Ep) (c : Core) (branches : List DWord)
    (h : s.coresRun l = true) :
    exec (.windowClose l e c branches) s = .next (s.setPair l e (((s.lane l).pair e).closes c branches)) := by
  simp only [exec, execWindowClose, h, Bool.not_true, Bool.false_eq_true, if_false]
  cases c <;> cases hw : ((s.lane l).pair e).proofWindow <;> cases ha : ((s.lane l).pair e).armed <;>
    simp [Pair.closes, CoreState.closes, Pair.closedProof, Pair.withProofWindow, Pair.setCore, Pair.core, hw, ha]

theorem exec_windowClose_halted {s : State} {l : Lane} (e : Ep) (c : Core) (branches : List DWord)
    (h : ¬ s.coresRun l = true) : exec (.windowClose l e c branches) s = .next s := by
  simp [exec, execWindowClose, h]

/-! ### The signature register and the events that feed it -/

/-- One step of the signature on numbers: bit 63 shifted out decides on the polynomial's low terms (R28). -/
theorem sigStep_toNat (S w : DWord) : (sigStep S w).toNat =
    Nat.xor (Nat.xor (S.toNat * 2 % 2 ^ 64) (if S.toNat / 2 ^ 63 = 1 then 0x1B else 0)) w.toNat := by
  have hbit : S.getLsbD 63 = decide (S.toNat / 2 ^ 63 = 1) := by
    have hlt := S.isLt
    rw [BitVec.getLsbD, Nat.testBit_eq_decide_div_mod_eq]
    congr 1
    rw [Nat.mod_eq_of_lt (by omega)]
  rw [sigStep, hbit, BitVec.toNat_xor, BitVec.toNat_xor, BitVec.toNat_shiftLeft, Nat.shiftLeft_eq, pow_one]
  by_cases h : S.toNat / 2 ^ 63 = 1 <;> simp only [h, decide_true, decide_false, if_true, Bool.false_eq_true, if_false] <;> rfl

/-- Settles O5: by the bits of one step, and by what a window close leaves in the core. -/
theorem signatureRegisterFollowsThePolynomial : Obligations.SignatureRegisterFollowsThePolynomial := by
  unfold Obligations.SignatureRegisterFollowsThePolynomial
  refine ⟨sigStep_toNat, fun s l e c branches h => ⟨_, exec_windowClose_runs e c branches h, ?_⟩⟩
  dsimp only
  rw [State.pair_setPair, Pair.closes, Pair.withProofWindow_core, Pair.core_setCore_same]
  rfl

/-- A store of up to 8 bytes feeds one word, zero-extended from its size (R29). -/
theorem storeData_small {size : Nat} (d : DWord) (h : size ≤ 8) :
    storeData size [d] = [BitVec.ofNat 64 (d.toNat % 2 ^ (8 * size))] := by
  have h64 : ¬ size = 64 := by omega
  simp [storeData, h64, Nat.min_eq_left h]

/-- Settles O6: by whether the store retires, stalls the main core or waits, and by what a window close leaves. -/
theorem retiredEventsFeedTheSignature : Obligations.RetiredEventsFeedTheSignature := by
  unfold Obligations.RetiredEventsFeedTheSignature
  refine ⟨?retires, fun size d h => storeData_small d h, ?stalls,
    fun s l e c branches addr size attr data h => exec_storeRetire_waits branches addr size attr data h, ?closes,
    fun s l e c branches h => exec_windowClose_halted e c branches h⟩
  case retires =>
    intro s l e c branches addr size attr data hrun hst hroom hchk
    refine ⟨_, exec_storeRetire_retires branches addr size attr data hrun
      ((Pair.retires_iff _ _ _).mpr ⟨hst, hroom, hchk⟩), ?_⟩
    dsimp only
    rw [State.pair_setPair]
    refine ⟨rfl, ?_, ?_, ?_, ?_, ?_, rfl⟩ <;>
      rw [Pair.stored, Pair.withEgress_core]
    case refine_5 => exact Pair.core_setCore_other _ c _
    all_goals rw [Pair.core_setCore_same]; rfl
  case stalls =>
    intro s l e branches addr size attr data hrun hopen hst hfull
    have hheld : ¬ ((s.lane l).pair e).retires .main (s.egressOpen l) = true := fun h =>
      Nat.not_lt.mpr hfull (((Pair.retires_iff _ _ _).mp h).2.1 rfl hopen)
    refine ⟨_, exec_storeRetire_stalls branches addr size attr data hrun hheld hst, rfl, fun a ha => ?_, ?_⟩
    · rw [State.reg_fsat_other _ _ (List.ne_of_not_mem_cons ha), State.setPair, State.reg_setLane]
    · rw [State.fget_fsat _ _ (stallField_ok l e), fieldMax_stallField, State.setPair, State.fget_setLane]
  case closes =>
    intro s l e c branches hrun
    refine ⟨_, exec_windowClose_runs e c branches hrun, ?_⟩
    dsimp only
    rw [State.pair_setPair]
    refine ⟨rfl, Pair.setCore_egress _ _ _, ?_, ?_, ?_, rfl, ?_⟩ <;>
      rw [Pair.closes, Pair.withProofWindow_core]
    case refine_4 => exact Pair.core_setCore_other _ c _
    all_goals rw [Pair.core_setCore_same]; rfl

end Sys2Proof.Machine
end

section
/-! PROOF. What a change of a lane's state leaves unchanged (R62, R413): the registers, the memory, the lanes and the vote
after entering a state, an exclusion and a failure. -/

namespace Sys2Proof.Machine

namespace State

/-! ### Frames of the reports of a change -/

theorem refreshVote_frame (s : State) : s.refreshVote = { s with regs := s.refreshVote.regs } := by
  unfold State.refreshVote
  dsimp only
  split <;> rfl

/-- `t` differs from `s` in what a log record changes: registers, memory, read-ahead lines and the record count. -/
def Logged (s t : State) : Prop := ∃ regs mem brg quill, t = { s with regs := regs, mem := mem, brg := brg, quill := quill }

theorem Logged.trans {s t u : State} (h : Logged s t) (h' : Logged t u) : Logged s u := by
  obtain ⟨_, _, _, _, rfl⟩ := h
  obtain ⟨_, _, _, _, rfl⟩ := h'
  exact ⟨_, _, _, _, rfl⟩

theorem logged_fput (s : State) (f : Field) (v : Nat) : Logged s (s.fput f v) := ⟨_, _, _, _, rfl⟩
theorem logged_mwrite (s : State) (a : Nat) (bs : List Byte) : Logged s (s.mwrite a bs) := ⟨_, _, _, _, rfl⟩
theorem logged_quill (s : State) (q : QuillState) : Logged s { s with quill := q } := ⟨_, _, _, _, rfl⟩

theorem logged_logReg (s : State) (e src off : Nat) : Logged s (s.logReg e src off) :=
  ((logged_mwrite s _ _).trans (logged_quill _ _)).trans (logged_fput _ _ _)

theorem logged_refreshVote (s : State) : Logged s s.refreshVote := by
  unfold State.refreshVote
  dsimp only
  split <;> exact (logged_fput s _ _).trans (logged_fput _ _ _)

theorem hostVector_frame (s : State) (v : Nat) : s.hostVector v = { s with brg := (s.hostVector v).brg } := by
  unfold State.hostVector
  split
  · rfl
  · split <;> rfl

theorem logged_hostEvent (s : State) (i : Nat) : Logged s (s.hostEvent i) := by
  unfold State.hostEvent
  split
  · exact ⟨_, _, _, _, rfl⟩
  · rw [hostVector_frame]
    exact (logged_fput s _ _).trans ⟨_, _, _, _, rfl⟩

theorem logged_setLaneSt (s : State) (l : Lane) (st : LaneSt) : Logged s (s.setLaneSt l st) :=
  (((logged_fput s _ _).trans (logged_refreshVote _)).trans (logged_logReg _ _ _ _)).trans (logged_hostEvent _ _)

theorem Logged.frame {s t : State} (h : Logged s t) :
    t = { s with regs := t.regs, mem := t.mem, brg := t.brg, quill := t.quill } := by
  obtain ⟨_, _, _, _, rfl⟩ := h
  rfl

theorem setLaneSt_frame (s : State) (l : Lane) (st : LaneSt) : s.setLaneSt l st =
    { s with
      regs := (s.setLaneSt l st).regs, mem := (s.setLaneSt l st).mem, brg := (s.setLaneSt l st).brg
      quill := (s.setLaneSt l st).quill } := (logged_setLaneSt s l st).frame

@[simp] theorem setLaneSt_vote (s : State) (l : Lane) (st : LaneSt) : (s.setLaneSt l st).vote = s.vote :=
  by rw [setLaneSt_frame]
@[simp] theorem setLaneSt_now (s : State) (l : Lane) (st : LaneSt) : (s.setLaneSt l st).now = s.now :=
  by rw [setLaneSt_frame]
@[simp] theorem setLaneSt_mono (s : State) (l : Lane) (st : LaneSt) : (s.setLaneSt l st).mono = s.mono :=
  by rw [setLaneSt_frame]
@[simp] theorem setLaneSt_power (s : State) (l : Lane) (st : LaneSt) : (s.setLaneSt l st).power = s.power :=
  by rw [setLaneSt_frame]
@[simp] theorem setLaneSt_ductus (s : State) (l : Lane) (st : LaneSt) : (s.setLaneSt l st).ductus = s.ductus :=
  by rw [setLaneSt_frame]
@[simp] theorem setLaneSt_folio (s : State) (l : Lane) (st : LaneSt) : (s.setLaneSt l st).folio = s.folio :=
  by rw [setLaneSt_frame]
@[simp] theorem setLaneSt_lane (s : State) (l : Lane) (st : LaneSt) (k : Lane) :
    (s.setLaneSt l st).lane k = s.lane k := by
  rw [setLaneSt_frame]; cases k <;> rfl

/-! ### Registers and memory after a change of a lane's state -/

theorem fget_refreshVote_other (s : State) (g : Field) (hg : fieldOk g = true)
    (hv : bitsApart g F.VOTE_CTRL_VOTING = true) (hk : bitsApart g F.VOTE_CTRL_KIND = true) :
    s.refreshVote.fget g = s.fget g := by
  have hput : ∀ v w, ((s.fput F.VOTE_CTRL_VOTING v).fput F.VOTE_CTRL_KIND w).fget g = s.fget g := fun v w =>
    (fget_fput_other _ _ _ _ rfl hg hk).trans (fget_fput_other _ _ _ _ rfl hg hv)
  unfold State.refreshVote
  dsimp only
  split <;> exact hput _ _

/-- A field of a register that no change of a lane's state reports in is as the write of STATE leaves it. -/
theorem fget_report_other (s : State) (e src off i : Nat) {g : Field} (hl : g.off ≠ R.LOG_HEAD) (hb : g.off ≠ R.BRG_EVT) :
    ((s.logReg e src off).hostEvent i).fget g = s.fget g :=
  fget_of_reg ((reg_hostEvent_other _ i hb).trans (reg_logReg_other _ _ _ _ hl))

theorem reg_setLaneSt_other (s : State) (l : Lane) (st : LaneSt) {a : Nat} (h : a ∉ stateRegs l) :
    (s.setLaneSt l st).reg a = s.reg a := by
  simp only [stateRegs, List.mem_cons, List.not_mem_nil, or_false, not_or] at h
  obtain ⟨hst, hctrl, hlog, hevt⟩ := h
  exact (((reg_hostEvent_other _ _ hevt).trans (reg_logReg_other _ _ _ _ hlog)).trans
    (reg_refreshVote_other _ hctrl)).trans (reg_fput_other s (F.LANE_STATE_STATE l) _ hst)

/-- Fields of VOTE_CTRL other than VOTING and KIND. -/
theorem fget_setLaneSt_ctrl (s : State) (l : Lane) (st : LaneSt) (g : Field) (ho : g.off = R.VOTE_CTRL)
    (hg : fieldOk g = true) (hv : bitsApart g F.VOTE_CTRL_VOTING = true) (hk : bitsApart g F.VOTE_CTRL_KIND = true) :
    (s.setLaneSt l st).fget g = s.fget g := by
  refine (fget_report_other _ _ _ _ _ (by rw [ho]; decide) (by rw [ho]; decide)).trans
    ((fget_refreshVote_other _ g hg hv hk).trans (fget_of_reg (reg_fput_other s (F.LANE_STATE_STATE l) _ ?_)))
  rw [ho]
  exact (laneState_ne l (by decide)).symm

theorem flag_setLaneSt_en (s : State) (l : Lane) (st : LaneSt) :
    (s.setLaneSt l st).flag F.VOTE_CTRL_EN = s.flag F.VOTE_CTRL_EN := by
  simp only [State.flag, fget_setLaneSt_ctrl s l st F.VOTE_CTRL_EN rfl rfl rfl rfl]

theorem flag_setLaneSt_failed (s : State) (l : Lane) (st : LaneSt) :
    (s.setLaneSt l st).flag F.VOTE_CTRL_FAILED = s.flag F.VOTE_CTRL_FAILED := by
  simp only [State.flag, fget_setLaneSt_ctrl s l st F.VOTE_CTRL_FAILED rfl rfl rfl rfl]

/-- The bytes of a log record (R412). -/
def logRecord (s : State) (time event source : Nat) (detail : List Byte) : List Byte :=
  leBytes 8 time ++ leBytes 4 s.quill.logCount ++ leBytes 2 event ++ leBytes 2 source ++ padTo 16 detail

theorem leBytes_length (n v : Nat) : (leBytes n v).length = n := by
  induction n generalizing v with
  | zero => rfl
  | succ n ih => simp [leBytes, ih]

theorem logRecord_length (s : State) (time event source : Nat) (detail : List Byte) :
    (s.logRecord time event source detail).length = 32 := by
  have hpad : (padTo 16 detail).length = 16 := by simp [padTo, zeros]; omega
  simp [logRecord, leBytes_length, hpad]

theorem mread_logAt (s : State) (time event source : Nat) (detail : List Byte) (a : Nat) :
    (s.logAt time event source detail).mread a =
      (s.mwrite (logBase + 32 * (s.quill.logCount % logRing)) (s.logRecord time event source detail)).mread a := rfl

/-- A log record is 32 bytes, so the rest of module memory stays (R412). -/
theorem mread_logReg_other (s : State) (e src off : Nat) {a : Nat} (h : a < logBase + 32 * (s.quill.logCount % logRing) ∨
    logBase + 32 * (s.quill.logCount % logRing) + 32 ≤ a) : (s.logReg e src off).mread a = s.mread a := by
  rw [State.logReg, State.log, mread_logAt, mread_mwrite_other]
  rw [logRecord_length]
  exact h

theorem hostEvent_mem (s : State) (i : Nat) : (s.hostEvent i).mem = s.mem := by
  unfold State.hostEvent
  split
  · rfl
  · rw [hostVector_frame]; rfl

theorem setLaneSt_memKept (s : State) (l : Lane) (st : LaneSt) : State.MemKeptButRecord s (s.setLaneSt l st) := by
  intro a ha
  have hquill : ∀ u : State, u.refreshVote.quill = u.quill := fun u => by rw [refreshVote_frame]
  have hmem : ∀ u : State, u.refreshVote.mem = u.mem := fun u => by rw [refreshVote_frame]
  unfold State.setLaneSt
  dsimp only
  simp only [State.mread, hostEvent_mem]
  have hrec := mread_logReg_other (s.fput (F.LANE_STATE_STATE l) (laneStCode st)).refreshVote 0x0010 codeLane (R.LANE_STATE l)
    (a := a) (by rw [hquill]; exact ha)
  simp only [State.mread, hmem, fput_mem] at hrec
  exact hrec

/-! ### Steps of a lane -/

/-- A step of lane `l` that writes no log record. -/
def LaneQuiet (l : Lane) (offs : List Nat) (s t : State) : Prop :=
  State.LaneStep l offs s t ∧ t.mem = s.mem ∧ t.quill = s.quill

variable {l : Lane} {as bs offs : List Nat} {s t u : State}

theorem LaneStep.mono (h : State.LaneStep l as s t) (hs : as ⊆ bs) : State.LaneStep l bs s t := by
  obtain ⟨hframe, hlane, hreg, hmem⟩ := h
  refine ⟨hframe, hlane, fun a ha => hreg a fun hm => ha ?_, hmem⟩
  exact (List.mem_append.mp hm).elim (List.mem_append_left _) fun h => List.mem_append_right _ (hs h)

theorem LaneStep.trans_of_mem (h : State.LaneStep l offs s t) (h' : State.LaneStep l offs t u)
    (hm : State.MemKeptButRecord s u) : State.LaneStep l offs s u := by
  obtain ⟨hframe, hlane, hreg, -⟩ := h
  obtain ⟨hframe', hlane', hreg', -⟩ := h'
  exact ⟨by rw [hframe', hframe], fun k hk => (hlane' k hk).trans (hlane k hk),
    fun a ha => (hreg' a ha).trans (hreg a ha), hm⟩

/-- A quiet step, then one that writes a log record. -/
theorem LaneQuiet.then (h : LaneQuiet l offs s t) (h' : State.LaneStep l offs t u) : State.LaneStep l offs s u := by
  obtain ⟨hstep, hmem, hquill⟩ := h
  refine hstep.trans_of_mem h' fun a ha => ?_
  have hrec : State.MemKeptButRecord t u := h'.2.2.2
  rw [State.MemKeptButRecord, hquill] at hrec
  exact (hrec a ha).trans (by simp only [State.mread, hmem])

/-- A step that writes a log record, then a quiet one. -/
theorem LaneStep.then_quiet (h : State.LaneStep l offs s t) (h' : LaneQuiet l offs t u) : State.LaneStep l offs s u := by
  refine h.trans_of_mem h'.1 fun a ha => ?_
  have hrec : State.MemKeptButRecord s t := h.2.2.2
  exact Eq.trans (by simp only [State.mread, h'.2.1]) (hrec a ha)

theorem LaneQuiet.trans (h : LaneQuiet l offs s t) (h' : LaneQuiet l offs t u) : LaneQuiet l offs s u :=
  ⟨h.then h'.1, h'.2.1.trans h.2.1, h'.2.2.trans h.2.2⟩

theorem LaneQuiet.refl (l : Lane) (offs : List Nat) (s : State) : LaneQuiet l offs s s :=
  ⟨⟨rfl, fun _ _ => rfl, fun _ _ => rfl, fun _ _ => rfl⟩, rfl, rfl⟩

/-- Writing registers among those that the step may write. -/
theorem laneQuiet_fput (f : Field) (v : Nat) (h : f.off ∈ stateRegs l ++ offs) : LaneQuiet l offs s (s.fput f v) :=
  ⟨⟨rfl, fun k _ => lane_fput s f v k, fun _ ha => reg_fput_other s f v fun he => ha (he ▸ h), fun _ _ => rfl⟩, rfl, rfl⟩

theorem laneQuiet_setReg (a : Nat) (w : Word) (h : a ∈ stateRegs l ++ offs) : LaneQuiet l offs s (s.setReg a w) :=
  ⟨⟨rfl, fun k _ => lane_setReg s a w k, fun _ hb => reg_setReg_other s w fun he => hb (he ▸ h), fun _ _ => rfl⟩, rfl, rfl⟩

theorem laneQuiet_setLane (x : LaneState) : LaneQuiet l offs s (s.setLane l x) :=
  ⟨⟨by cases l <;> rfl, fun _ hk => lane_setLane_other s x hk, fun _ _ => reg_setLane s l x _, fun _ _ => mread_setLane s l x _⟩,
    setLane_mem s l x, setLane_quill s l x⟩

/-- The vote unit and the fabric may change. -/
theorem laneQuiet_vote (v : VoteState) : LaneQuiet l offs s { s with vote := v } :=
  ⟨⟨rfl, fun k _ => by cases k <;> rfl, fun _ _ => rfl, fun _ _ => rfl⟩, rfl, rfl⟩

theorem laneQuiet_fabric (f : Fabric) : LaneQuiet l offs s { s with fabric := f } :=
  ⟨⟨rfl, fun k _ => by cases k <;> rfl, fun _ _ => rfl, fun _ _ => rfl⟩, rfl, rfl⟩

theorem laneQuiet_latches (xs : List Latch) : LaneQuiet l offs s { s with latches := xs } :=
  ⟨⟨rfl, fun k _ => by cases k <;> rfl, fun _ _ => rfl, fun _ _ => rfl⟩, rfl, rfl⟩

theorem laneStep_setLaneSt (s : State) (l : Lane) (st : LaneSt) (offs : List Nat) :
    State.LaneStep l offs s (s.setLaneSt l st) :=
  ⟨by rw [setLaneSt_frame], fun k _ => setLaneSt_lane s l st k,
    fun _ ha => reg_setLaneSt_other s l st fun h => ha (List.mem_append_left _ h), setLaneSt_memKept s l st⟩

/-! ### Exclusion -/

/-- What an exclusion leaves of a lane: no egress, no execution, no census round (R53, R62). -/
def excludedLane (x : LaneState) (now : Nat) : LaneState :=
  { x with
    exclAt := now, ep0 := { x.ep0 with egress := [] }, ep1 := { x.ep1 with egress := [] }, execs := [], rounds := [] }

/-- The counter of VOTE_EXCL is raised, where the cause has one. -/
def exclCount (s : State) (l : Lane) (cause : LaneCause) : State :=
  match exclCounter l cause with
  | some f => s.fsat f
  | none => s

/-- The registers of an exclusion before the lane enters EXCLUDED. -/
def exclMarks (s : State) (l : Lane) (cause : LaneCause) : State :=
  (((s.fput (F.LANE_STATE_CAUSE l) (laneCauseCode cause)).exclCount l cause).fput (F.LANE_STATE_LATENT l) 0).fput
    (F.LANE_STATE_PROBATION l) 0

/-- The vote holds nothing of lane `l`. -/
def dropLane (v : VoteState) (l : Lane) : VoteState :=
  { v with outs := v.outs.filter (·.lane != l), census := v.census.filter (·.lane != l) }

theorem exclCount_frame (s : State) (l : Lane) (cause : LaneCause) :
    s.exclCount l cause = { s with regs := (s.exclCount l cause).regs } := by
  unfold exclCount; split <;> rfl

theorem exclMarks_frame (s : State) (l : Lane) (cause : LaneCause) :
    s.exclMarks l cause = { s with regs := (s.exclMarks l cause).regs } := by
  unfold exclMarks; rw [exclCount_frame]; rfl

@[simp] theorem exclMarks_lane (s : State) (l : Lane) (cause : LaneCause) (k : Lane) :
    (s.exclMarks l cause).lane k = s.lane k := by
  rw [exclMarks_frame]; cases k <;> rfl

/-- An exclusion up to its last act, entering EXCLUDED. -/
def exclPrep (s : State) (l : Lane) (cause : LaneCause) : State :=
  { (s.exclMarks l cause).setLane l (excludedLane (s.lane l) s.mono) with vote := dropLane s.vote l }

theorem exclude_eq (s : State) (l : Lane) (cause : LaneCause) :
    s.exclude l cause = (s.exclPrep l cause).setLaneSt l .excluded := by
  have hx : (s.exclMarks l cause).lane l = s.lane l := exclMarks_lane s l cause l
  have hm : (s.exclMarks l cause).mono = s.mono := by rw [exclMarks_frame]
  have hv : (s.exclMarks l cause).vote = s.vote := by rw [exclMarks_frame]
  have h : s.exclude l cause = ({ (s.exclMarks l cause).setLane l (excludedLane ((s.exclMarks l cause).lane l)
      (s.exclMarks l cause).mono) with vote := dropLane ((s.exclMarks l cause).setLane l _).vote l } : State).setLaneSt l .excluded :=
    rfl
  rw [h, hx, hm, setLane_vote, hv]
  rfl

theorem lane_exclude_same (s : State) (l : Lane) (cause : LaneCause) :
    (s.exclude l cause).lane l = excludedLane (s.lane l) s.mono := by
  rw [exclude_eq, setLaneSt_lane]
  exact lane_setLane_same (s.exclMarks l cause) l _

theorem exclude_vote (s : State) (l : Lane) (cause : LaneCause) : (s.exclude l cause).vote = dropLane s.vote l := by
  rw [exclude_eq, setLaneSt_vote]; rfl

theorem exclCounter_word {l : Lane} {cause : LaneCause} {f : Field} (h : exclCounter l cause = some f) :
    f.off = (exclField l 7 0).off := by
  cases cause <;> cases h <;> rfl

theorem laneQuiet_exclCount (s : State) (l : Lane) (cause : LaneCause) :
    LaneQuiet l [(exclField l 7 0).off] s (s.exclCount l cause) := by
  unfold exclCount
  split
  · rename_i f hf
    exact laneQuiet_fput f _ (List.mem_append_right _ (by simp [exclCounter_word hf]))
  · exact LaneQuiet.refl l _ s

theorem laneQuiet_state (f : Field) (v : Nat) (h : f.off = R.LANE_STATE l) : LaneQuiet l offs s (s.fput f v) :=
  laneQuiet_fput f v (by simp [stateRegs, h])

theorem laneQuiet_exclPrep (s : State) (l : Lane) (cause : LaneCause) :
    LaneQuiet l [(exclField l 7 0).off] s (s.exclPrep l cause) := by
  refine LaneQuiet.trans ?_ (laneQuiet_vote _)
  refine LaneQuiet.trans ?_ (laneQuiet_setLane _)
  refine LaneQuiet.trans ?_ (laneQuiet_state (F.LANE_STATE_PROBATION l) 0 rfl)
  refine LaneQuiet.trans ?_ (laneQuiet_state (F.LANE_STATE_LATENT l) 0 rfl)
  exact (laneQuiet_state (F.LANE_STATE_CAUSE l) _ rfl).trans (laneQuiet_exclCount _ l cause)

theorem laneStep_exclude (s : State) (l : Lane) (cause : LaneCause) :
    State.LaneStep l [(exclField l 7 0).off] s (s.exclude l cause) := by
  rw [exclude_eq]
  exact (laneQuiet_exclPrep s l cause).then (laneStep_setLaneSt _ l .excluded _)

/-! ### Failure -/

@[simp] theorem failLane_lane (s : State) (k l : Lane) : (s.failLane k).lane l = s.lane l := by
  unfold failLane; split
  · rfl
  · exact setLaneSt_lane s k .failed l

@[simp] theorem failLanes_lane (s : State) (l : Lane) : s.failLanes.lane l = s.lane l := by
  simp only [failLanes_eq, failLane_lane]

theorem setHeartbeat_lane (s : State) (on : Bool) (l : Lane) : (s.setHeartbeat on).lane l = s.lane l := by
  unfold State.setHeartbeat; split <;> cases l <;> rfl

@[simp] theorem report_lane (s : State) (e src off i : Nat) (l : Lane) :
    ((s.logReg e src off).hostEvent i).lane l = s.lane l := by
  rw [((logged_logReg s e src off).trans (logged_hostEvent _ i)).frame]
  cases l <;> rfl

@[simp] theorem failModule_lane (s : State) (cause task : Nat) (l : Lane) :
    (s.failModule cause task).lane l = s.lane l := by
  by_cases h : s.flag F.VOTE_CTRL_FAILED = true
  · rw [failModule_failed cause task h]
  · have hvote : (s.failMarks cause task).failVote.lane l = (s.failMarks cause task).lane l := by cases l <;> rfl
    rw [failModule_eq cause task h, report_lane, failLanes_lane, hvote, failMarks, setHeartbeat_lane]
    simp only [lane_fput]

/-- The lane that an exclusion takes out of the vote, whether the module fails with it or not. -/
theorem lane_excludeCheck {s : State} {l : Lane} (cause : LaneCause) (task : Nat) (h : s.excludable l = true) :
    (s.excludeCheck l cause task).lane l = excludedLane (s.lane l) s.mono := by
  simp only [State.excludeCheck, h, Bool.not_true, Bool.false_eq_true, if_false]
  split
  · rw [failModule_lane, lane_exclude_same]
  · exact lane_exclude_same s l cause

theorem lane_laneFault {s : State} {l : Lane} (cause : LaneCause) (h : s.excludable l = true) :
    (s.laneFault l cause).lane l = excludedLane (s.lane l) s.mono := lane_excludeCheck cause _ h

/-- Whether a lane can be excluded depends on its LANE_STATE alone. -/
theorem excludable_of_reg {s t : State} {l : Lane} (h : t.reg (R.LANE_STATE l) = s.reg (R.LANE_STATE l)) :
    t.excludable l = s.excludable l := by
  have hst : t.laneSt l = s.laneSt l := congrArg laneStOf (fget_of_reg (f := F.LANE_STATE_STATE l) h)
  simp only [State.excludable, hst]

end State

end Sys2Proof.Machine
end

section
/-! PROOF. The comparator of an execution pair and its proofs (R33 to R41): what a match, a mismatch and a missed proof
leave. -/

namespace Sys2Proof.Machine

open State

/-! ### Lanes with a pair replaced -/

theorem excludedLane_pair (x : LaneState) (now : Nat) (e : Ep) :
    (excludedLane x now).pair e = (x.pair e).withEgress [] := by
  cases e <;> rfl

theorem laneFault_pair {s : State} {l : Lane} (e : Ep) (cause : LaneCause) (h : s.excludable l = true) :
    ((s.laneFault l cause).lane l).pair e = ((s.lane l).pair e).withEgress [] := by
  rw [lane_laneFault cause h, excludedLane_pair]

@[simp] theorem excludable_setPair (s : State) (l : Lane) (e : Ep) (p : Pair) (k : Lane) :
    (s.setPair l e p).excludable k = s.excludable k := excludable_of_regs (setPair_regs s l e p) k

@[simp] theorem excludable_tick (s : State) (t : Nat) (l : Lane) : (s.tick t).excludable l = s.excludable l :=
  excludable_of_regs (tick_regs s t) l

/-- Counters of other registers do not change whether a lane can be excluded. -/
theorem excludable_fsat (s : State) {f : Field} (l : Lane) (h : R.LANE_STATE l ≠ f.off) :
    (s.fsat f).excludable l = s.excludable l := excludable_of_reg (reg_fsat_other s f h)

theorem sigField_ne (l : Lane) (e : Ep) (c : LaneCause) : R.LANE_STATE l ≠ (sigField l e c).off := by
  cases e <;> cases c <;> simp [sigField, R.LANE_STATE, F.LANE_EP0_FAULTS_SIG_MAIN, F.LANE_EP0_FAULTS_SIG_CHK,
    F.LANE_EP0_FAULTS_SIG_UNRES, F.LANE_EP1_FAULTS_SIG_MAIN, F.LANE_EP1_FAULTS_SIG_CHK, F.LANE_EP1_FAULTS_SIG_UNRES,
    R.LANE_EP0_FAULTS, R.LANE_EP1_FAULTS]

theorem missField_ne (l : Lane) (e : Ep) : R.LANE_STATE l ≠ (missField l e).off := by
  cases e <;> simp [missField, R.LANE_STATE, F.LANE_EP0_FAULTS_PROOF_MISS, F.LANE_EP1_FAULTS_PROOF_MISS,
    R.LANE_EP0_FAULTS, R.LANE_EP1_FAULTS]

/-! ### COMPARATOR_RESULT -/

section

variable {s : State} {l : Lane} {e : Ep} {w k' : Nat} {m k : DWord} {ms ks : List (Nat × DWord)}

/-- The pair after the comparison of its oldest window, before the comparator's answer acts (R33, R38). -/
def Pair.compared (p : Pair) (w : Nat) (m k : DWord) (ms ks : List (Nat × DWord)) : Pair :=
  { p with
    main := { p.main with closed := ms }, checker := { p.checker with closed := ks }
    proofSigs := if p.proofWindow == some w then some (m, k) else p.proofSigs }

/-- The entries that a match of window `w` releases (R33). -/
def Pair.matching (p : Pair) (w : Nat) : List EgressEntry := p.egress.takeWhile fun x => decide (x.window ≤ w)

/-- The pair after a match of window `w` (R33, R35). -/
def Pair.release (p : Pair) (w : Nat) : Pair :=
  { p with
    egress := p.egress.drop (p.matching w).length, released := p.released + (p.matching w).length
    stalled := p.stalled && (p.matching w).isEmpty }

/-- The pair after a mismatch in window `w` (R36). -/
def Pair.discard (p : Pair) (w : Nat) : Pair :=
  { p with egress := p.egress.filter fun x => decide (x.window < w), stalled := false }

/-- What a comparator answer other than match does: an invalid code, or a mismatch with its counter (R36, R37, R40). -/
def mismatched (s : State) (l : Lane) (e : Ep) (r : BitVec 2) (c : LaneCause) : State :=
  if r == 0b10 then (s.fsat (sigField l e c)).laneFault l c else s.laneFault l .comparator

variable (fault : BitVec 2) (ml cl : Bool) (t : Nat) (hm : ((s.lane l).pair e).main.closed = (w, m) :: ms)
  (hk : ((s.lane l).pair e).checker.closed = (k', k) :: ks)

include hm hk

theorem exec_comparatorResult_match (hr : rails (m == k) fault = 0b01) :
    exec (.comparatorResult l e fault ml cl t) s =
      .next ((s.tick t).setPair l e ((((s.lane l).pair e).compared w m k ms ks).release w)) := by
  simp only [exec, execComparatorResult, lane_tick, hm, hk, hr]
  rfl

theorem exec_comparatorResult_mismatch (hr : rails (m == k) fault ≠ 0b01) :
    exec (.comparatorResult l e fault ml cl t) s =
      .next (mismatched ((s.tick t).setPair l e ((((s.lane l).pair e).compared w m k ms ks).discard w)) l e
        (rails (m == k) fault) (mismatchCause ml cl)) := by
  have hne : (rails (m == k) fault == 1) = false := beq_eq_false_iff_ne.mpr hr
  simp only [exec, execComparatorResult, lane_tick, hm, hk, hne, Bool.false_eq_true, if_false, mismatched,
    apply_ite Host.Outcome.next]
  rfl

end

/-- The cause that the local indications give a mismatch, in numbers (R40). -/
theorem mismatchCause_code (ml cl : Bool) : laneCauseCode (mismatchCause ml cl) =
    if ml = true ∧ ¬ cl = true then 1 else if cl = true ∧ ¬ ml = true then 2 else 3 := by
  cases ml <;> cases cl <;> rfl

/-- A comparator answer other than match is a lane fault: the lane leaves the vote with the cause, and its pair's egress is
empty (R36, R37, R41). -/
theorem mismatched_faults {s : State} {l : Lane} (e : Ep) (r : BitVec 2) (c : LaneCause) (h : s.excludable l = true) :
    ((mismatched s l e r c).laneSt l = .excluded ∨ (mismatched s l e r c).laneSt l = .failed) ∧
      (mismatched s l e r c).fget (F.LANE_STATE_CAUSE l) = (if r = 0b10 then laneCauseCode c else 5) ∧
      ((mismatched s l e r c).lane l).pair e = ((s.lane l).pair e).withEgress [] := by
  by_cases hr : r = 0b10
  · have h' : (s.fsat (sigField l e c)).excludable l = true := by rw [excludable_fsat s l (sigField_ne l e c)]; exact h
    obtain ⟨hst, hcause⟩ := laneSt_laneFault c h'
    simp only [mismatched, beq_iff_eq, hr, if_true]
    exact ⟨hst, hcause, (laneFault_pair e c h').trans (by rw [lane_fsat])⟩
  · obtain ⟨hst, hcause⟩ := laneSt_laneFault .comparator h
    simp only [mismatched, beq_iff_eq, hr, if_false]
    exact ⟨hst, hcause, laneFault_pair e .comparator h⟩

theorem drop_length_takeWhile {α : Type} (p : α → Bool) (xs : List α) :
    xs.drop (xs.takeWhile p).length = xs.dropWhile p := by
  have h := List.drop_left (l₁ := xs.takeWhile p) (l₂ := xs.dropWhile p)
  rwa [List.takeWhile_append_dropWhile] at h

/-- Settles O7: a match only moves egress entries, and any other answer is a lane fault, which leaves no egress. -/
theorem comparatorGatesTheEgressBuffer : Obligations.ComparatorGatesTheEgressBuffer := by
  unfold Obligations.ComparatorGatesTheEgressBuffer
  refine ⟨?same, ?other, fun same fault => rfl⟩
  case same =>
    intro s l e fault ml cl t w k' m k ms ks hm hk hr
    refine ⟨_, exec_comparatorResult_match fault ml cl t hm hk hr, ?_⟩
    dsimp only
    rw [pair_setPair]
    refine ⟨by rw [State.setPair, lane_tick], rfl, rfl, drop_length_takeWhile _ _, rfl⟩
  case other =>
    intro s l e fault ml cl t w k' m k ms ks hm hk hr hex
    have hex' : ((s.tick t).setPair l e ((((s.lane l).pair e).compared w m k ms ks).discard w)).excludable l = true := by
      rw [excludable_setPair, excludable_tick]; exact hex
    obtain ⟨hst, hcause, hpair⟩ := mismatched_faults e (rails (m == k) fault) (mismatchCause ml cl) hex'
    refine ⟨_, exec_comparatorResult_mismatch fault ml cl t hm hk hr, ?_⟩
    dsimp only
    rw [hpair, pair_setPair]
    refine ⟨fun x hx => absurd hx List.not_mem_nil, rfl, hst, ?_⟩
    rw [hcause, mismatchCause_code, ite_not]

/-! ### Comparator proofs -/

theorem passField_ok (l : Lane) (e : Ep) : fieldOk (passField l e) = true := by cases e <;> rfl

theorem passField_width (l : Lane) (e : Ep) : (passField l e).hi - (passField l e).lo + 1 = 16 := by cases e <;> rfl

theorem fget_finc (s : State) (f : Field) (h : fieldOk f = true) :
    (s.finc f).fget f = (s.fget f + 1) % 2 ^ (f.hi - f.lo + 1) := fget_fput_same s f _ h

/-- The pair after a proof: disarmed, with the next pattern (R38). -/
def Pair.proved (p : Pair) (now : Nat) : Pair :=
  { p with armed := false, proofWindow := none, proofSigs := none, proofN := (p.proofN + 1) % 128, proofAt := now }

/-- A missed proof is counted and is a lane fault with cause PROOF (R39). -/
def missedProof (s : State) (l : Lane) (e : Ep) : State := (s.fsat (missField l e)).laneFault l .proof

theorem missedProof_faults {s : State} {l : Lane} (e : Ep) (h : s.excludable l = true) :
    ((missedProof s l e).laneSt l = .excluded ∨ (missedProof s l e).laneSt l = .failed) ∧
      (missedProof s l e).fget (F.LANE_STATE_CAUSE l) = 4 ∧
      ((missedProof s l e).lane l).pair e = ((s.lane l).pair e).withEgress [] := by
  have h' : (s.fsat (missField l e)).excludable l = true := by rw [excludable_fsat s l (missField_ne l e)]; exact h
  obtain ⟨hst, hcause⟩ := laneSt_laneFault .proof h'
  exact ⟨hst, hcause, (laneFault_pair e .proof h').trans (by rw [lane_fsat])⟩

theorem exec_proofDue_due {s : State} {l : Lane} {e : Ep} (hrun : s.coresRun l = true)
    (hdue : ((s.lane l).pair e).dueAt + 10000000 ≤ s.mono) :
    exec (.proofDue l e) s = .next (s.setPair l e { (s.lane l).pair e with
      armed := true, dueAt := ((s.lane l).pair e).dueAt + 10000000, proofWindow := none, proofSigs := none }) := by
  have hdue' : decide (((s.lane l).pair e).dueAt + proofNs ≤ s.mono) = true := decide_eq_true hdue
  simp only [exec, execProofDue, hrun, hdue', Bool.and_self, if_true]
  rfl

theorem exec_proofDue_early {s : State} {l : Lane} {e : Ep}
    (h : ¬ s.coresRun l = true ∨ s.mono < ((s.lane l).pair e).dueAt + 10000000) : exec (.proofDue l e) s = .next s := by
  simp only [exec, execProofDue]
  refine if_neg fun hb => ?_
  rw [Bool.and_eq_true, decide_eq_true_eq] at hb
  obtain ⟨hrun, hdue⟩ := hb
  have hdue' : ((s.lane l).pair e).dueAt + 10000000 ≤ s.mono := hdue
  exact h.elim (fun hn => hn hrun) fun hlt => by omega

section

variable {s : State} {l : Lane} {e : Ep} {m k : DWord} (fault : BitVec 2) (t : Nat)
  (harm : ((s.lane l).pair e).armed = true) (hsigs : ((s.lane l).pair e).proofSigs = some (m, k))

include harm hsigs

theorem exec_comparatorProof_passes (hr : rails (m == k ^^^ proofPattern ((s.lane l).pair e).proofN) fault = 0b10) :
    exec (.comparatorProof l e fault t) s =
      .next (((s.tick t).setPair l e (((s.lane l).pair e).proved (s.tick t).mono)).finc (passField l e)) := by
  simp only [exec, execComparatorProof, lane_tick, harm, hsigs, hr]
  rfl

theorem exec_comparatorProof_missed (hr : rails (m == k ^^^ proofPattern ((s.lane l).pair e).proofN) fault ≠ 0b10) :
    exec (.comparatorProof l e fault t) s =
      .next (missedProof ((s.tick t).setPair l e (((s.lane l).pair e).proved (s.tick t).mono)) l e) := by
  have hne : (rails (m == k ^^^ proofPattern ((s.lane l).pair e).proofN) fault == 2) = false := beq_eq_false_iff_ne.mpr hr
  simp only [exec, execComparatorProof, lane_tick, harm, hsigs, hne, Bool.false_eq_true, if_false]
  rfl

end

theorem exec_proofTimeout_late {s : State} {l : Lane} {e : Ep} {t : Nat} (hex : s.excludable l = true)
    (hlate : ((s.lane l).pair e).proofAt + 11000000 ≤ (s.tick t).mono) :
    exec (.proofTimeout l e t) s = .next (missedProof (s.tick t) l e) := by
  simp [exec, execProofTimeout, hex, hlate, missedProof]

/-- Settles O8: by whether the comparator reports the injected mismatch; a missed proof is a lane fault. -/
theorem comparatorProofsRunAndAreMissed : Obligations.ComparatorProofsRunAndAreMissed := by
  unfold Obligations.ComparatorProofsRunAndAreMissed
  refine ⟨fun s l e hrun hdue => ⟨_, exec_proofDue_due hrun hdue, rfl⟩, fun s l e h => exec_proofDue_early h, ?passes,
    ?missed, ?late, fun n h => if_pos h, fun n h _ => if_neg (Nat.not_lt.mpr h)⟩
  case passes =>
    intro s l e fault t m k harm hsigs hr
    refine ⟨_, exec_comparatorProof_passes fault t harm hsigs hr, ?_⟩
    have hpair : ((((s.tick t).setPair l e (((s.lane l).pair e).proved (s.tick t).mono)).finc (passField l e)).lane l).pair e =
        ((s.lane l).pair e).proved (s.tick t).mono := by rw [lane_finc, pair_setPair]
    dsimp only
    rw [hpair]
    refine ⟨?_, ?_, fun a ha => ?_, ?_⟩
    · rw [← lane_tick s t l]; rfl
    · simp [Pair.proved]
    · rw [State.finc, reg_fput_other _ _ _ (List.ne_of_not_mem_cons ha), State.setPair, reg_setLane, reg_tick]
    · rw [fget_finc _ _ (passField_ok l e), passField_width, State.setPair, fget_setLane, fget_tick]
  case missed =>
    intro s l e fault t m k harm hsigs hr hex
    have hex' : ((s.tick t).setPair l e (((s.lane l).pair e).proved (s.tick t).mono)).excludable l = true := by
      rw [excludable_setPair, excludable_tick]; exact hex
    obtain ⟨hst, hcause, hpair⟩ := missedProof_faults e hex'
    refine ⟨_, exec_comparatorProof_missed fault t harm hsigs hr, hst, hcause, ?_⟩
    rw [hpair, pair_setPair]
    rfl
  case late =>
    intro s l e t hex hlate
    obtain ⟨hst, hcause, -⟩ := missedProof_faults (s := s.tick t) e (by rw [excludable_tick]; exact hex)
    exact ⟨_, exec_proofTimeout_late hex hlate, hst, hcause⟩

end Sys2Proof.Machine
end

section
/-! PROOF. A lane fault leaves two lanes or fails the module (R41, R42, R53, R54). -/

namespace Sys2Proof.Machine

open State

/-! ### The voting lanes -/

theorem isVoting_iff (s : State) (l : Lane) : s.isVoting l = true ↔ s.laneSt l = .voting := beq_iff_eq

theorem mem_voters (s : State) (l : Lane) : l ∈ s.voters ↔ s.isVoting l = true := by
  cases l <;> simp [State.voters, allLanes]

/-- Three voting lanes are all lanes. -/
theorem isVoting_of_three {s : State} (h : s.voters.length = 3) (l : Lane) : s.isVoting l = true := by
  cases ha : s.isVoting .a <;> cases hb : s.isVoting .b <;> cases hc : s.isVoting .c <;>
    simp [State.voters, allLanes, ha, hb, hc] at h
  cases l <;> assumption

theorem excludable_of_voting {s : State} {l : Lane} (h : s.isVoting l = true) : s.excludable l = true := by
  simp [State.excludable, (isVoting_iff s l).mp h]

@[simp] theorem isVoting_tick (s : State) (t : Nat) (l : Lane) : (s.tick t).isVoting l = s.isVoting l :=
  isVoting_of_regs (tick_regs s t) l

/-- Which lanes vote depends on the lanes' states alone. -/
theorem voters_of_laneSt {s t : State} (h : ∀ l, t.laneSt l = s.laneSt l) : t.voters = s.voters :=
  List.filter_congr fun l _ => by simp only [State.isVoting, h]

@[simp] theorem voters_tick (s : State) (t : Nat) : (s.tick t).voters = s.voters :=
  voters_of_laneSt (laneSt_of_regs (tick_regs s t))

@[simp] theorem flag_tick (s : State) (t : Nat) (f : Field) : (s.tick t).flag f = s.flag f := by
  simp only [State.flag, fget_tick]

theorem flag_of_regs {s t : State} (h : t.regs = s.regs) (f : Field) : t.flag f = s.flag f := by
  simp only [State.flag, fget_of_regs h]

/-- The state of a lane depends on its LANE_STATE alone. -/
theorem laneSt_of_reg {s t : State} {l : Lane} (h : t.reg (R.LANE_STATE l) = s.reg (R.LANE_STATE l)) :
    t.laneSt l = s.laneSt l := congrArg laneStOf (fget_of_reg (f := F.LANE_STATE_STATE l) h)

/-- A step of lane `l` leaves the states of the other lanes. -/
theorem State.LaneStep.laneSt_other {l k : Lane} {offs : List Nat} {s t : State} (h : State.LaneStep l offs s t) (hk : k ≠ l)
    (ho : R.LANE_STATE k ∉ offs) : t.laneSt k = s.laneSt k := by
  obtain ⟨-, -, hreg, -⟩ := h
  refine laneSt_of_reg (hreg _ fun hm => ?_)
  rcases List.mem_append.mp hm with hm | hm
  · have h1 : R.LANE_STATE k ≠ R.VOTE_CTRL := laneState_ne k (by decide)
    have h2 : R.LANE_STATE k ≠ R.LOG_HEAD := laneState_ne k (by decide)
    have h3 : R.LANE_STATE k ≠ R.BRG_EVT := laneState_ne k (by decide)
    simp only [stateRegs, List.mem_cons, List.not_mem_nil, or_false, h1, h2, h3] at hm
    exact hk (laneState_inj hm)
  · exact ho hm

theorem exclField_ne (l k : Lane) : R.LANE_STATE k ∉ [(exclField l 7 0).off] := by
  rw [List.mem_singleton]
  exact laneState_ne k (by cases l <;> decide)

theorem laneSt_exclude_other (s : State) {l k : Lane} (cause : LaneCause) (hk : k ≠ l) :
    (s.exclude l cause).laneSt k = s.laneSt k := (laneStep_exclude s l cause).laneSt_other hk (exclField_ne l k)

theorem voters_exclude {s : State} {l : Lane} (cause : LaneCause) :
    (s.exclude l cause).voters = s.voters.filter (· != l) := by
  rw [State.voters, State.voters, List.filter_filter]
  refine List.filter_congr fun k _ => ?_
  by_cases hk : k = l
  · subst hk; simp [State.isVoting, laneSt_exclude]
  · simp [State.isVoting, laneSt_exclude_other s cause hk, hk]

/-! ### VOTE_CTRL after a change of a lane's state -/

theorem laneMask_lt (ls : List Lane) (h : ls.Sublist allLanes) : laneMask ls < 8 := by
  have hall : ∀ ls ∈ allLanes.sublists, laneMask ls < 8 := by decide
  exact hall ls (List.mem_sublists.mpr h)

theorem voters_refreshVote (s : State) : s.refreshVote.voters = s.voters :=
  voters_of_laneSt fun l => laneSt_of_reg (reg_refreshVote_other s (laneState_ne l (by decide)))

/-- The number of voting lanes as KIND shows it. -/
def kindOf (n : Nat) : Nat := if n == 3 then 2 else if n == 2 then 1 else 0

theorem kindOf_lt (n : Nat) : kindOf n < 4 := by
  unfold kindOf
  split
  · decide
  · split <;> decide

theorem fget_refreshVote (s : State) : s.refreshVote.fget F.VOTE_CTRL_VOTING = laneMask s.voters ∧
    (s.flag F.VOTE_CTRL_EN = true → ¬ s.flag F.VOTE_CTRL_FAILED = true →
      s.refreshVote.fget F.VOTE_CTRL_KIND = kindOf s.voters.length) := by
  have hvoting : ∀ w, ((s.fput F.VOTE_CTRL_VOTING (laneMask s.voters)).fput F.VOTE_CTRL_KIND w).fget F.VOTE_CTRL_VOTING =
      laneMask s.voters := fun w => by
    rw [fget_fput_other _ _ _ _ rfl rfl rfl, fget_fput_same _ _ _ rfl]
    exact Nat.mod_eq_of_lt (laneMask_lt _ List.filter_sublist)
  have hen : (s.fput F.VOTE_CTRL_VOTING (laneMask s.voters)).flag F.VOTE_CTRL_EN = s.flag F.VOTE_CTRL_EN :=
    flag_fput_other _ _ _ _ rfl rfl rfl
  have hfailed : (s.fput F.VOTE_CTRL_VOTING (laneMask s.voters)).flag F.VOTE_CTRL_FAILED = s.flag F.VOTE_CTRL_FAILED :=
    flag_fput_other _ _ _ _ rfl rfl rfl
  unfold State.refreshVote
  dsimp only
  refine ⟨by split <;> exact hvoting _, fun he hf => ?_⟩
  rw [hen, hfailed, if_neg (by simp [he, hf]), fget_fput_same _ _ _ rfl]
  exact Nat.mod_eq_of_lt (kindOf_lt _)

/-- The registers of the vote set show the lanes that vote once a lane has entered a state. -/
theorem fget_setLaneSt_voteSet (s : State) (l : Lane) (st : LaneSt) :
    (s.setLaneSt l st).fget F.VOTE_CTRL_VOTING = laneMask (s.setLaneSt l st).voters ∧
    (s.flag F.VOTE_CTRL_EN = true → ¬ s.flag F.VOTE_CTRL_FAILED = true →
      (s.setLaneSt l st).fget F.VOTE_CTRL_KIND = kindOf (s.setLaneSt l st).voters.length) := by
  have hst : ∀ k, (s.setLaneSt l st).laneSt k = (s.fput (F.LANE_STATE_STATE l) (laneStCode st)).laneSt k := fun k =>
    congrArg laneStOf (fget_setLaneSt s l st (f := F.LANE_STATE_STATE k) rfl)
  have hvoters : (s.setLaneSt l st).voters = (s.fput (F.LANE_STATE_STATE l) (laneStCode st)).voters :=
    voters_of_laneSt hst
  have hfield : ∀ g : Field, g.off = R.VOTE_CTRL →
      (s.setLaneSt l st).fget g = (s.fput (F.LANE_STATE_STATE l) (laneStCode st)).refreshVote.fget g := fun g hg =>
    fget_report_other _ _ _ _ _ (by rw [hg]; decide) (by rw [hg]; decide)
  have hctrl : ∀ g : Field, g.off = R.VOTE_CTRL → (s.fput (F.LANE_STATE_STATE l) (laneStCode st)).flag g = s.flag g :=
    fun g hg => by
      simp only [State.flag, fget_of_reg (f := g) (reg_fput_other s (F.LANE_STATE_STATE l) _ (a := g.off)
        (by rw [hg]; exact (laneState_ne l (by decide)).symm))]
  obtain ⟨hvoting, hkind⟩ := fget_refreshVote (s.fput (F.LANE_STATE_STATE l) (laneStCode st))
  rw [hfield _ rfl, hfield _ rfl, hvoters]
  rw [hctrl _ rfl, hctrl _ rfl] at hkind
  exact ⟨hvoting, hkind⟩

/-! ### Exclusion in full -/

theorem reg_exclPrep (s : State) (l : Lane) (cause : LaneCause) (a : Nat) :
    (s.exclPrep l cause).reg a = (s.exclMarks l cause).reg a := reg_setLane (s.exclMarks l cause) l _ a

/-- A field of VOTE_CTRL is as it was before the marks of an exclusion. -/
theorem flag_exclPrep (s : State) (l : Lane) (cause : LaneCause) {g : Field} (hg : g.off = R.VOTE_CTRL) :
    (s.exclPrep l cause).flag g = s.flag g := by
  have hne : R.VOTE_CTRL ≠ R.LANE_STATE l := (laneState_ne l (by decide)).symm
  have hreg : (s.exclMarks l cause).reg R.VOTE_CTRL = s.reg R.VOTE_CTRL := by
    rw [exclMarks, reg_fput_other _ (F.LANE_STATE_PROBATION l) _ hne, reg_fput_other _ (F.LANE_STATE_LATENT l) _ hne, exclCount]
    split
    · rename_i f hf
      have hf' : R.VOTE_CTRL ≠ f.off := by rw [exclCounter_word hf]; cases l <;> decide
      rw [reg_fsat_other _ f hf', reg_fput_other _ (F.LANE_STATE_CAUSE l) _ hne]
    · exact reg_fput_other _ (F.LANE_STATE_CAUSE l) _ hne
  have hfield : (s.exclPrep l cause).fget g = s.fget g := fget_of_reg (by rw [hg, reg_exclPrep, hreg])
  simp only [State.flag, hfield]

theorem flag_exclude_en (s : State) (l : Lane) (cause : LaneCause) :
    (s.exclude l cause).flag F.VOTE_CTRL_EN = s.flag F.VOTE_CTRL_EN := by
  rw [exclude_eq, flag_setLaneSt_en, flag_exclPrep _ _ _ rfl]

theorem flag_exclude_failed (s : State) (l : Lane) (cause : LaneCause) :
    (s.exclude l cause).flag F.VOTE_CTRL_FAILED = s.flag F.VOTE_CTRL_FAILED := by
  rw [exclude_eq, flag_setLaneSt_failed, flag_exclPrep _ _ _ rfl]

/-- LATENT and PROBATION of an excluded lane are 0. -/
theorem flag_exclude_marks (s : State) (l : Lane) (cause : LaneCause) :
    ¬ (s.exclude l cause).flag (F.LANE_STATE_LATENT l) = true ∧ ¬ (s.exclude l cause).flag (F.LANE_STATE_PROBATION l) = true := by
  have hmark : ∀ g : Field, g.off = R.LANE_STATE l → fieldOk g = true → bitsApart g (F.LANE_STATE_STATE l) = true →
      (s.exclude l cause).flag g = (s.exclMarks l cause).flag g := fun g ho hg hs => by
    rw [exclude_eq, State.flag, fget_setLaneSt _ _ _ ho, fget_fput_other _ _ _ _ rfl hg hs]
    exact flag_of_regs (setLane_regs (s.exclMarks l cause) l _) g
  rw [hmark _ rfl rfl (by simp [bitsApart, F.LANE_STATE_LATENT, F.LANE_STATE_STATE]),
    hmark _ rfl rfl (by simp [bitsApart, F.LANE_STATE_PROBATION, F.LANE_STATE_STATE]), exclMarks,
    flag_fput_other _ _ _ _ rfl rfl (by simp [bitsApart, F.LANE_STATE_LATENT, F.LANE_STATE_PROBATION]),
    flag_fput_same _ _ _ rfl, flag_fput_same _ _ _ rfl]
  exact ⟨Bool.false_ne_true, Bool.false_ne_true⟩

/-- The counter of a cause is raised by the exclusion, saturating. -/
theorem fget_exclude_counter (s : State) {l : Lane} {cause : LaneCause} {f : Field} (h : exclCounter l cause = some f) :
    (s.exclude l cause).fget f = min (s.fget f + 1) (fieldMax f) := by
  have hok : fieldOk f = true := by cases cause <;> cases h <;> rfl
  have hst : f.off ≠ R.LANE_STATE l := fun he => laneState_ne l (exclCounter_off h) he.symm
  have hrep : f.off ∉ stateRegs l := by
    simp only [stateRegs, List.mem_cons, List.not_mem_nil, or_false, not_or]
    exact ⟨hst, by rw [exclCounter_word h]; cases l <;> decide⟩
  rw [exclude_eq, fget_of_reg (reg_setLaneSt_other _ l _ hrep), fget_of_reg (reg_exclPrep s l cause _), exclMarks,
    fget_of_reg (reg_fput_other _ (F.LANE_STATE_PROBATION l) _ hst),
    fget_of_reg (reg_fput_other _ (F.LANE_STATE_LATENT l) _ hst), exclCount, h]
  dsimp only
  rw [fget_fsat _ _ hok, fget_of_reg (reg_fput_other _ (F.LANE_STATE_CAUSE l) _ hst)]

/-! ### Three lanes vote -/

theorem allLanes_of_three {s : State} (h : s.voters.length = 3) : s.voters = allLanes :=
  List.filter_eq_self.mpr fun l _ => isVoting_of_three h l

/-- With three lanes voting, a fault excludes the lane and the module goes on. -/
theorem laneFault_three {s : State} (l : Lane) (cause : LaneCause) (h : s.voters.length = 3) :
    s.laneFault l cause = s.exclude l cause := by
  have hvoters : ¬ (s.exclude l cause).voters.length < 2 := by
    rw [voters_exclude, allLanes_of_three h]; cases l <;> decide
  simp only [State.laneFault, State.excludeCheck, excludable_of_voting (isVoting_of_three h l), hvoters, decide_false,
    Bool.not_true, Bool.and_false, Bool.false_and, Bool.false_eq_true, if_false]

theorem voters_laneFault_three {s : State} (l : Lane) (cause : LaneCause) (h : s.voters.length = 3) :
    (s.laneFault l cause).voters = allLanes.filter (· != l) := by
  rw [laneFault_three l cause h, voters_exclude, allLanes_of_three h]

theorem flag_laneFault_failed {s : State} (l : Lane) (cause : LaneCause) (h : s.voters.length = 3) :
    (s.laneFault l cause).flag F.VOTE_CTRL_FAILED = s.flag F.VOTE_CTRL_FAILED := by
  rw [laneFault_three l cause h, flag_exclude_failed]

/-- The vote set of the two lanes that go on (R53): 2oo2. -/
theorem voteSet_laneFault_three {s : State} (l : Lane) (cause : LaneCause) (h : s.voters.length = 3)
    (hf : ¬ s.flag F.VOTE_CTRL_FAILED = true) :
    (s.laneFault l cause).fget F.VOTE_CTRL_VOTING = 7 - laneBit l ∧
      (s.flag F.VOTE_CTRL_EN = true → (s.laneFault l cause).fget F.VOTE_CTRL_KIND = 1) := by
  have hv := voters_laneFault_three l cause h
  rw [laneFault_three l cause h, exclude_eq] at hv ⊢
  obtain ⟨hvoting, hkind⟩ := fget_setLaneSt_voteSet (s.exclPrep l cause) l .excluded
  rw [hv] at hvoting hkind
  rw [flag_exclPrep _ _ _ rfl, flag_exclPrep _ _ _ rfl] at hkind
  refine ⟨hvoting.trans (by cases l <;> rfl), fun he => (hkind he hf).trans (by cases l <;> rfl)⟩

/-! ### Two lanes vote -/

theorem laneFault_two {s : State} {l : Lane} (cause : LaneCause) (hl : s.isVoting l = true) (h : s.voters.length = 2)
    (he : s.flag F.VOTE_CTRL_EN = true) : s.laneFault l cause = (s.exclude l cause).failModule failFewer s.votingTask := by
  have hvoters : (s.exclude l cause).voters.length < 2 := by
    have hmem : l ∈ s.voters := (mem_voters s l).mpr hl
    rw [voters_exclude, ← h]
    exact List.length_filter_lt_length_iff_exists.mpr ⟨l, hmem, by simp⟩
  simp only [State.laneFault, State.excludeCheck, excludable_of_voting hl, hl, hvoters, flag_exclude_en, he, decide_true,
    Bool.not_true, Bool.and_self, Bool.false_eq_true, if_false, if_true]

theorem reg_failLane_other (s : State) (l : Lane) {a : Nat} (h : a ∉ stateRegs l) : (s.failLane l).reg a = s.reg a := by
  unfold failLane; split
  · rfl
  · exact reg_setLaneSt_other s l .failed h

/-- A register that is none of those of a lane's state is as it was when every lane has entered FAILED. -/
theorem reg_failLanes_other (s : State) {a : Nat} (h : ∀ l, a ∉ stateRegs l) : s.failLanes.reg a = s.reg a := by
  rw [failLanes_eq, reg_failLane_other _ _ (h .c), reg_failLane_other _ _ (h .b), reg_failLane_other _ _ (h .a)]

theorem flag_failLanes_en (s : State) : s.failLanes.flag F.VOTE_CTRL_EN = s.flag F.VOTE_CTRL_EN := by
  have h : ∀ (u : State) l, (u.failLane l).flag F.VOTE_CTRL_EN = u.flag F.VOTE_CTRL_EN := fun u l => by
    unfold failLane; split
    · rfl
    · exact flag_setLaneSt_en u l .failed
  rw [failLanes_eq, h, h, h]

theorem flag_failLanes_failed (s : State) : s.failLanes.flag F.VOTE_CTRL_FAILED = s.flag F.VOTE_CTRL_FAILED := by
  have h : ∀ (u : State) l, (u.failLane l).flag F.VOTE_CTRL_FAILED = u.flag F.VOTE_CTRL_FAILED := fun u l => by
    unfold failLane; split
    · rfl
    · exact flag_setLaneSt_failed u l .failed
  rw [failLanes_eq, h, h, h]

theorem failLanes_vote (s : State) : s.failLanes.vote = s.vote := by
  have h : ∀ (u : State) l, (u.failLane l).vote = u.vote := fun u l => by
    unfold failLane; split
    · rfl
    · exact setLaneSt_vote u l .failed
  rw [failLanes_eq, h, h, h]

theorem not_mem_stateRegs {l : Lane} {a : Nat} (h : a < 0x200000) (hc : a ≠ R.VOTE_CTRL) (hl : a ≠ R.LOG_HEAD) (hb : a ≠ R.BRG_EVT) :
    a ∉ stateRegs l := by
  simp only [stateRegs, List.mem_cons, List.not_mem_nil, or_false, not_or]
  exact ⟨(laneState_ne l h).symm, hc, hl, hb⟩

theorem setHeartbeat_off (s : State) : ¬ (s.setHeartbeat false).flag F.STO1_STAT_HEARTBEAT = true := by
  unfold State.setHeartbeat
  split
  · rename_i h
    rw [beq_iff_eq] at h
    rw [h]; decide
  · have hflag : ∀ (u : State) (x : SsmState), ({ u with ssm := x } : State).flag F.STO1_STAT_HEARTBEAT =
        u.flag F.STO1_STAT_HEARTBEAT := fun _ _ => rfl
    dsimp only
    rw [hflag, flag_fput_same _ _ _ rfl]
    decide

/-- What a failure shows (R54): EN and FAILED, the cause and the task of VOTE_FAIL, the failure wire and the heartbeat. -/
theorem failModule_shows {s : State} (cause task : Nat) (hf : ¬ s.flag F.VOTE_CTRL_FAILED = true) (hc : cause < 16)
    (ht : task < 64) :
    ¬ (s.failModule cause task).flag F.VOTE_CTRL_EN = true ∧ (s.failModule cause task).flag F.VOTE_CTRL_FAILED = true ∧
      (s.failModule cause task).fget F.VOTE_FAIL_CAUSE = cause ∧ (s.failModule cause task).fget F.VOTE_FAIL_TASK = task ∧
      (s.failModule cause task).vote.failWire = true ∧ ¬ (s.failModule cause task).flag F.STO1_STAT_HEARTBEAT = true := by
  have hreport : ∀ (u : State) (g : Field), g.off ≠ R.LOG_HEAD → g.off ≠ R.BRG_EVT →
      ((u.logReg 0x0011 codeVote R.VOTE_FAIL).hostEvent evVote).flag g = u.flag g := fun u g h h' => by
    simp only [State.flag, fget_report_other u _ _ _ _ h h']
  have hvote : ∀ g, (s.failMarks cause task).failVote.flag g = (s.failMarks cause task).flag g := fun _ => rfl
  have hbeat : ∀ (u : State) (g : Field), g.off ≠ R.STO1_STAT → (u.setHeartbeat false).fget g = u.fget g := fun u g h =>
    fget_of_reg (reg_setHeartbeat_other u false h)
  have hbeat' : ∀ (u : State) (g : Field), g.off ≠ R.STO1_STAT → (u.setHeartbeat false).flag g = u.flag g := fun u g h => by
    simp only [State.flag, hbeat u g h]
  have hlanes : ∀ (u : State) (g : Field), g.off < 0x200000 → g.off ≠ R.VOTE_CTRL → g.off ≠ R.LOG_HEAD → g.off ≠ R.BRG_EVT →
      u.failLanes.fget g = u.fget g := fun u g h1 h2 h3 h4 =>
    fget_of_reg (reg_failLanes_other u fun l => not_mem_stateRegs h1 h2 h3 h4)
  have hfail : ∀ g : Field, g.off = R.VOTE_FAIL → (s.failModule cause task).fget g =
      ((s.fput F.VOTE_FAIL_CAUSE cause).fput F.VOTE_FAIL_TASK task).fget g := fun g hg => by
    rw [failModule_eq cause task hf, fget_report_other _ _ _ _ _ (by rw [hg]; decide) (by rw [hg]; decide),
      hlanes _ g (by rw [hg]; decide) (by rw [hg]; decide) (by rw [hg]; decide) (by rw [hg]; decide)]
    refine (hbeat _ g (by rw [hg]; decide)).trans (fget_of_reg ?_)
    rw [reg_fput_other _ F.VOTE_CTRL_FAILED _ (by rw [hg]; decide), reg_fput_other _ F.VOTE_CTRL_EN _ (by rw [hg]; decide)]
  refine ⟨?en, ?failed, ?cause, ?task, ?wire, ?heart⟩
  case en =>
    rw [failModule_eq cause task hf, hreport _ _ (by decide) (by decide), flag_failLanes_en, hvote, failMarks,
      hbeat' _ _ (by decide), flag_fput_other _ _ _ _ rfl rfl rfl, flag_fput_same _ _ _ rfl]
    decide
  case failed =>
    rw [failModule_eq cause task hf, hreport _ _ (by decide) (by decide), flag_failLanes_failed, hvote, failMarks,
      hbeat' _ _ (by decide), flag_fput_same _ _ _ rfl]
    decide
  case cause =>
    rw [hfail _ rfl, fget_fput_other _ _ _ _ rfl rfl rfl, fget_fput_same _ _ _ rfl]
    exact Nat.mod_eq_of_lt hc
  case task =>
    rw [hfail _ rfl, fget_fput_same _ _ _ rfl]
    exact Nat.mod_eq_of_lt ht
  case wire =>
    rw [failModule_eq cause task hf, ((logged_logReg _ _ _ _).trans (logged_hostEvent _ _)).frame]
    rw [failLanes_vote]; rfl
  case heart =>
    have hflag : (s.failMarks cause task).failVote.failLanes.flag F.STO1_STAT_HEARTBEAT =
        (s.failMarks cause task).flag F.STO1_STAT_HEARTBEAT := by
      simp only [State.flag, hlanes _ F.STO1_STAT_HEARTBEAT (by decide) (by decide) (by decide) (by decide)]
      rfl
    rw [failModule_eq cause task hf, hreport _ _ (by decide) (by decide), hflag]
    exact setHeartbeat_off _

/-- Every lane is FAILED and none votes (R54). -/
theorem voters_failModule {s : State} (cause task : Nat) (hf : ¬ s.flag F.VOTE_CTRL_FAILED = true) :
    (s.failModule cause task).voters = [] := by
  simp [State.voters, State.isVoting, laneSt_failModule cause task _ hf]

/-! ### The commands -/

theorem exec_laneFault (s : State) (l : Lane) (cause : LaneCause) (t : Nat) :
    exec (.laneFault l cause t) s = .next ((s.tick t).laneFault l cause) := rfl

theorem exec_eccErrorUncorrectable (s : State) (l : Lane) (t : Nat) :
    exec (.eccErrorUncorrectable l t) s = .next ((s.tick t).laneFault l .ecc) := rfl

/-- The state in which a watchdog expiry is a lane fault: a CORE reset of the lane, counted (R482, R503). -/
def watchdogReset (s : State) (l : Lane) : State := (s.coreReset l).fsat (coreCount l)

theorem exec_watchdogExpire {s : State} {l : Lane} (t : Nat) (ho : s.power.overlap = none) (hp : s.powered (pdLane l) = true)
    (hh : ¬ (s.lane l).halted = true) :
    exec (.watchdogExpire l t) s = .next ((watchdogReset (s.tick t) l).laneFault l .watchdog) := by
  have hp' : (s.tick t).powered (pdLane l) = true := by simpa only [State.powered, fget_tick] using hp
  have hcond : ¬ (!(s.tick t).powered (pdLane l) || ((s.tick t).lane l).halted) = true := by
    simpa [hp', lane_tick] using hh
  simp only [exec, execWatchdogExpire, tick_power, ho]
  exact if_neg hcond

theorem reg_watchdogReset (s : State) (l : Lane) {a : Nat} (h : a ≠ (coreCount l).off) :
    (watchdogReset s l).reg a = s.reg a := by
  rw [watchdogReset, reg_fsat_other _ _ h, State.coreReset, reg_setLane]

theorem coreCount_off (l : Lane) : (coreCount l).off < 0x200000 := by cases l <;> decide

theorem laneSt_watchdogReset (s : State) (l k : Lane) : (watchdogReset s l).laneSt k = s.laneSt k :=
  laneSt_of_reg (reg_watchdogReset s l (laneState_ne k (coreCount_off l)))

theorem voters_watchdogReset (s : State) (l : Lane) : (watchdogReset s l).voters = s.voters :=
  voters_of_laneSt (laneSt_watchdogReset s l)

theorem cores_watchdogReset (s : State) (l : Lane) :
    (((watchdogReset s l).lane l).ep0.main, ((watchdogReset s l).lane l).ep1.main) = (coreReset, coreReset) := by
  rw [watchdogReset, lane_fsat, State.coreReset, lane_setLane_same]
  rfl

/-- The commit of the one task whose instant has come is the one that the vote processes. -/
theorem votingTask_single {s : State} {c : Nat} {r : TaskRec} (h : s.dueCommits = [(c, r)]) : s.votingTask = r.task := by
  simp [State.votingTask, State.nextCommit, h]

theorem votingTask_none {s : State} (h : s.dueCommits = []) (hl : s.vote.lastCommit = none) : s.votingTask = 0 := by
  simp [State.votingTask, h, hl]

/-- Settles O9: with three lanes voting a fault is an exclusion alone, with two the module fails with it. -/
theorem aLaneFaultLeavesTwoLanesOrFailsTheModule : Obligations.ALaneFaultLeavesTwoLanesOrFailsTheModule := by
  unfold Obligations.ALaneFaultLeavesTwoLanesOrFailsTheModule
  refine ⟨?fault, ?ecc, ?watchdog, ?two, fun s h hl => votingTask_none h hl, fun s c r h => votingTask_single h⟩
  case fault =>
    intro s l cause t _ h3 hf
    have h3' : (s.tick t).voters.length = 3 := by rw [voters_tick]; exact h3
    have hf' : ¬ (s.tick t).flag F.VOTE_CTRL_FAILED = true := by rw [flag_tick]; exact hf
    obtain ⟨hvoting, hkind⟩ := voteSet_laneFault_three l cause h3' hf'
    have hvoters := voters_laneFault_three l cause h3'
    have hfailed := flag_laneFault_failed l cause h3'
    refine ⟨_, exec_laneFault s l cause t, ?_⟩
    rw [laneFault_three l cause h3'] at hvoting hkind hvoters hfailed ⊢
    obtain ⟨hlatent, hprobation⟩ := flag_exclude_marks (s.tick t) l cause
    refine ⟨laneSt_exclude _ l cause, laneCause_exclude _ l cause, hlatent, hprobation, ?_, ?_, hvoters, hvoting,
      by rw [hfailed]; exact hf', by rw [flag_tick] at hkind; exact hkind, laneStep_exclude _ l cause⟩
    · intro o ho
      rw [exclude_vote] at ho
      simpa using List.of_mem_filter ho
    · intro h hh
      rw [exclude_vote] at hh
      simpa using List.of_mem_filter hh
  case ecc =>
    intro s l t _ h3 hf
    have h3' : (s.tick t).voters.length = 3 := by rw [voters_tick]; exact h3
    have hvoters := voters_laneFault_three l .ecc h3'
    have hfailed := flag_laneFault_failed l .ecc h3'
    refine ⟨_, exec_eccErrorUncorrectable s l t, ?_⟩
    rw [laneFault_three l .ecc h3'] at hvoters hfailed ⊢
    refine ⟨laneSt_exclude _ l .ecc, laneCause_exclude _ l .ecc, hvoters, by rw [hfailed, flag_tick]; exact hf, ?_,
      laneStep_exclude _ l .ecc⟩
    rw [fget_exclude_counter _ (f := exclField l 23 16) rfl, fget_tick]
    rfl
  case watchdog =>
    intro s l t _ h3 hf ho hp hh
    have h3' : (watchdogReset (s.tick t) l).voters.length = 3 := by rw [voters_watchdogReset, voters_tick]; exact h3
    have hvoters := voters_laneFault_three l .watchdog h3'
    have hfailed := flag_laneFault_failed l .watchdog h3'
    refine ⟨_, exec_watchdogExpire t ho hp hh, ?_⟩
    rw [laneFault_three l .watchdog h3'] at hvoters hfailed ⊢
    refine ⟨laneSt_exclude _ l .watchdog, laneCause_exclude _ l .watchdog, hvoters, ?_, ?_⟩
    · rw [hfailed, State.flag, fget_of_reg (reg_watchdogReset _ l (by cases l <;> decide)), fget_tick]
      exact hf
    · rw [lane_exclude_same]
      exact cores_watchdogReset (s.tick t) l
  case two =>
    intro s l cause t hl h2 he hf ht
    have hf' : ¬ ((s.tick t).exclude l cause).flag F.VOTE_CTRL_FAILED = true := by
      rw [flag_exclude_failed, flag_tick]; exact hf
    obtain ⟨hen, hfailed, hcause, htask, hwire, hheart⟩ := failModule_shows failFewer _ hf' (by decide) ht
    refine ⟨_, exec_laneFault s l cause t, ?_⟩
    rw [laneFault_two cause (by rw [isVoting_tick]; exact hl) (by rw [voters_tick]; exact h2) (by rw [flag_tick]; exact he)]
    exact ⟨hen, hfailed, hcause, htask, hwire, hheart, voters_failModule _ _ hf', fun k => laneSt_failModule _ _ k hf'⟩

end Sys2Proof.Machine
end

section
/-! PROOF. The vote masks one faulty lane (R48, R49, R52): an invariant of the vote byte by byte; which commits are voted,
skipped or wait (R51, R94); and the captures of the vote (R70). -/

namespace Sys2Proof.Machine

open State

/-! ### The captures of the vote (R70) -/

/-- The byte of lane `l` among those captured; 0 for a lane that is not live. -/
def laneByte (vs : List (Lane × Byte)) (l : Lane) : Nat :=
  match vs.find? (·.1 == l) with
  | some v => v.2.toNat
  | none => 0

theorem captureByte_held {s : State} (task seg off odd : Nat) (vs : List (Lane × Byte))
    (h : s.flag F.VOTE_DIS_CAP_VALID = true) : s.captureByte task seg off odd vs = s := if_pos h

theorem captureByte_free {s : State} (task seg off odd : Nat) (vs : List (Lane × Byte))
    (h : ¬ s.flag F.VOTE_DIS_CAP_VALID = true) : s.captureByte task seg off odd vs =
      ((((((((s.fput F.VOTE_DIS_CAP_VALID 1).fput F.VOTE_DIS_CAP_ODD odd).fput F.VOTE_DIS_CAP_TASK task).fput
        F.VOTE_DIS_CAP_OFFSET (off % 65536)).fput F.VOTE_DIS_OFF_OFFSET off).fput F.VOTE_DIS_OFF_SEG (bit (seg == segTgo))).fput
        F.VOTE_DIS_VAL_LANE_A (laneByte vs .a)).fput F.VOTE_DIS_VAL_LANE_B (laneByte vs .b)).fput
        F.VOTE_DIS_VAL_LANE_C (laneByte vs .c) := if_neg h

theorem captureByte_regsOnly (s : State) (task seg off odd : Nat) (vs : List (Lane × Byte)) :
    State.RegsOnly [R.VOTE_DIS_CAP, R.VOTE_DIS_VAL, R.VOTE_DIS_OFF] s (s.captureByte task seg off odd vs) := by
  by_cases h : s.flag F.VOTE_DIS_CAP_VALID = true
  · rw [captureByte_held _ _ _ _ _ h]; exact ⟨rfl, fun _ _ => rfl⟩
  · rw [captureByte_free _ _ _ _ _ h]
    exact (((((((((fput_regsOnly s _ _).trans (fput_regsOnly _ _ _)).trans (fput_regsOnly _ _ _)).trans
      (fput_regsOnly _ _ _)).trans (fput_regsOnly _ _ _)).trans (fput_regsOnly _ _ _)).trans (fput_regsOnly _ _ _)).trans
      (fput_regsOnly _ _ _)).trans (fput_regsOnly _ _ _)).mono (by decide)

/-! ### One byte -/

section

variable {x : Lane} {r : Byte} {vs : List (Lane × Byte)}

/-- Every lane but `x` holds `r`. -/
def AllBut (x : Lane) (r : Byte) (vs : List (Lane × Byte)) : Prop := ∀ p ∈ vs, p.1 ≠ x → p.2 = r

/-- Of three lanes one at least is not `x`. -/
theorem exists_other (x : Lane) (hl : (vs.map (·.1)).Perm [.a, .b, .c]) : ∃ p ∈ vs, p.1 ≠ x := by
  obtain ⟨k, hk⟩ : ∃ k : Lane, k ≠ x := by
    cases x
    · exact ⟨.b, by decide⟩
    · exact ⟨.a, by decide⟩
    · exact ⟨.a, by decide⟩
  have hmem : k ∈ vs.map (·.1) := hl.mem_iff.mpr (by cases k <;> decide)
  obtain ⟨p, hp, rfl⟩ := List.mem_map.mp hmem
  exact ⟨p, hp, hk⟩

/-- Where the bytes of three lanes are not all equal and all but `x` hold `r`, `x` is the odd lane and `r` the majority. -/
theorem oddLane_of_allBut (hl : (vs.map (·.1)).Perm [.a, .b, .c]) (hx : AllBut x r vs) (hne : ¬ ∀ p ∈ vs, p.2 = r) :
    oddLane vs = some (x, r) := by
  have hlen : vs.length = 3 := by simpa using hl.length_eq
  obtain ⟨⟨l0, b0⟩, ⟨l1, b1⟩, ⟨l2, b2⟩, rfl⟩ := List.length_eq_three.mp hlen
  have hnodup : [l0, l1, l2].Nodup := hl.nodup_iff.mpr (by decide)
  simp only [AllBut, List.mem_cons, List.not_mem_nil, or_false, forall_eq_or_imp, forall_eq] at hx hne
  simp only [List.nodup_cons, List.mem_cons, List.not_mem_nil, or_false, not_or, not_false_eq_true, List.nodup_nil,
    and_true] at hnodup
  obtain ⟨⟨h01, h02⟩, h12⟩ := hnodup
  obtain ⟨h0, h1, h2⟩ := hx
  by_cases e0 : l0 = x
  · have e1 : b1 = r := h1 fun e => h01 (e0.trans e.symm)
    have e2 : b2 = r := h2 fun e => h02 (e0.trans e.symm)
    have hb : b0 ≠ r := fun e => hne ⟨e, e1, e2⟩
    simp [oddLane, e0, e1, e2, hb]
  · have e0' : b0 = r := h0 e0
    by_cases e1 : l1 = x
    · have e2 : b2 = r := h2 fun e => h12 (e1.trans e.symm)
      have hb : b1 ≠ r := fun e => hne ⟨e0', e, e2⟩
      simp [oddLane, e0', e1, e2, hb.symm]
    · have e1' : b1 = r := h1 e1
      have hb : b2 ≠ r := fun e => hne ⟨e0', e1', e⟩
      have e2 : l2 = x := by_contra fun e => hb (h2 e)
      simp [oddLane, e0', e1', e2, hb.symm]

end

/-- The lanes that may be live during a vote that masks `x`: all, or all but `x`. -/
def liveBut (x : Lane) (ls live : List Lane) : Prop := live = ls ∨ live = ls.filter (· != x)

/-- Which folio an object is decoded under depends on the previous folio and the generation alone (R18). -/
def SameFolios (s t : State) : Prop := t.folio = s.folio ∧ t.fabric.gen = s.fabric.gen

theorem SameFolios.folioOf {s t : State} (h : SameFolios s t) (f : Folio) (gen : Nat) : t.folioOf f gen = s.folioOf f gen := by
  simp only [State.folioOf, h.1, h.2]

theorem exclude_frame (s : State) (l : Lane) (cause : LaneCause) : s.exclude l cause =
    { s with
      regs := (s.exclude l cause).regs, mem := (s.exclude l cause).mem, brg := (s.exclude l cause).brg
      quill := (s.exclude l cause).quill, vote := (s.exclude l cause).vote, fabric := (s.exclude l cause).fabric
      latches := (s.exclude l cause).latches, laneA := (s.exclude l cause).laneA, laneB := (s.exclude l cause).laneB
      laneC := (s.exclude l cause).laneC } := (laneStep_exclude s l cause).1

theorem sameFolios_disagree (s : State) (task seg off odd : Nat) (vs : List (Lane × Byte)) (l : Lane) :
    SameFolios s ((s.captureByte task seg off odd vs).exclude l .disagree) := by
  have hfolio : ∀ u : State, (u.exclude l .disagree).folio = u.folio := fun u => by
    rw [exclude_frame]
  obtain ⟨hframe, -⟩ := captureByte_regsOnly s task seg off odd vs
  constructor
  · rw [hfolio, hframe]
  · rw [exclude_fabric, hframe]

/-- One byte of a vote that masks `x` is voted with the value of the others (R48, R49). -/
theorem VoteRun.byte_masks {v : VoteRun} {x : Lane} {r : Byte} {vs : List (Lane × Byte)} (task seg off : Nat)
    (hl : (vs.map (·.1)).Perm [.a, .b, .c]) (hx : AllBut x r vs) (hf : v.failed = false)
    (hlive : liveBut x (vs.map (·.1)) v.live) :
    (v.byte task seg off vs).failed = false ∧ liveBut x (vs.map (·.1)) (v.byte task seg off vs).live ∧
      (v.byte task seg off vs).out = (segKey seg off, r) :: v.out ∧ SameFolios v.s (v.byte task seg off vs).s := by
  obtain ⟨p, hp, hpx⟩ := exists_other x hl
  have hpr : p.2 = r := hx p hp hpx
  have hkeep : p ∈ vs.filter fun q => v.live.contains q.1 := by
    have hmem : p.1 ∈ v.live := by
      obtain h | h := hlive <;> rw [h]
      · exact List.mem_map_of_mem hp
      · exact List.mem_filter.mpr ⟨List.mem_map_of_mem hp, by simpa using hpx⟩
    exact List.mem_filter.mpr ⟨hp, by simpa using hmem⟩
  generalize hws : (vs.filter fun q => v.live.contains q.1) = ws at hkeep
  have hsub : ∀ q ∈ ws, q ∈ vs := fun q hq => (List.mem_filter.mp (hws ▸ hq)).1
  obtain ⟨q, qs, hqs⟩ := List.exists_cons_of_ne_nil (List.ne_nil_of_mem hkeep)
  have hstep : v.byte task seg off vs = if ws.all (·.2 == q.2) then { v with out := (segKey seg off, q.2) :: v.out } else
      match oddLane ws with
      | some (l, r) => { v with
          s := (v.s.captureByte task seg off (laneBit l) ws).exclude l .disagree
          live := v.live.filter (· != l), out := (segKey seg off, r) :: v.out }
      | none => { v with s := (v.s.captureByte task seg off 0 ws).failModule failByte task, failed := true } := by
    simp only [VoteRun.byte, hf, hws, hqs, Bool.false_eq_true, if_false, List.head?_cons] <;> rfl
  by_cases hall : ws.all (·.2 == q.2) = true
  · have hq : q.2 = r := by
      have hpq := List.all_eq_true.mp hall p hkeep
      rw [beq_iff_eq] at hpq
      rw [← hpq, hpr]
    rw [hstep, if_pos hall, hq]
    exact ⟨hf, hlive, rfl, rfl, rfl⟩
  · have hne : ¬ ∀ w ∈ ws, w.2 = r := fun h => hall (List.all_eq_true.mpr fun w hw => by
      rw [beq_iff_eq, h w hw, h q (by rw [hqs]; exact List.mem_cons_self)])
    have hfull : v.live = vs.map (·.1) := by
      refine hlive.resolve_right fun h => hne fun w hw => ?_
      rw [← hws, h] at hw
      obtain ⟨hwv, hwl⟩ := List.mem_filter.mp hw
      refine hx w hwv ?_
      have hwl' := List.mem_filter.mp (List.contains_iff_mem.mp hwl)
      simpa using hwl'.2
    have hvs : ws = vs := by
      rw [← hws, hfull]
      exact List.filter_eq_self.mpr fun w hw => List.contains_iff_mem.mpr (List.mem_map_of_mem hw)
    rw [hvs] at hne
    have hodd : oddLane ws = some (x, r) := by rw [hvs]; exact oddLane_of_allBut hl hx hne
    rw [hstep, if_neg hall, hodd]
    exact ⟨hf, .inr (by rw [hfull]), rfl, sameFolios_disagree _ _ _ _ _ _ _⟩

/-! ### The lines of a commit -/

/-- A declared byte as the object `o` votes it: its key and its decoded value. -/
def State.votedAt (s : State) (f : Folio) (task : Nat) (o : OutObj) (q : (Nat × Nat) × Nat) : Nat × Byte :=
  (segKey q.1.1 (64 * q.1.2 + q.2), (o.decoded (s.folioOf f o.gen) task q.1).getD q.2 0)

/-- The declared bytes of a line among the offsets `is`. -/
def Folio.declaredOf (f : Folio) (task : Nat) (y : Nat × Nat) (is : List Nat) : List ((Nat × Nat) × Nat) :=
  (is.filter fun i => f.declared task y.1 (64 * y.2 + i)).map (y, ·)

/-- The vote has masked lane `x` over the declared bytes `ps`: `o` is the object of an agreeing lane. -/
def Masked (s : State) (f : Folio) (task : Nat) (objs : List OutObj) (x : Lane) (o : OutObj)
    (ps : List ((Nat × Nat) × Nat)) (v : VoteRun) : Prop :=
  v.failed = false ∧ liveBut x (objs.map (·.lane)) v.live ∧ v.out = (ps.map (s.votedAt f task o)).reverse ∧ SameFolios s v.s

section

variable {s : State} {f : Folio} {task : Nat} {objs : List OutObj} {x : Lane} {o : OutObj}
  (hl : (objs.map (·.lane)).Perm [.a, .b, .c])
  (hagree : ∀ o ∈ objs, ∀ o' ∈ objs, o.lane ≠ x → o'.lane ≠ x → ∀ y ∈ f.voteLines task, ∀ i < 64,
    f.declared task y.1 (64 * y.2 + i) →
    (o.decoded (s.folioOf f o.gen) task y).getD i 0 = (o'.decoded (s.folioOf f o'.gen) task y).getD i 0)
  (ho : o ∈ objs) (hox : o.lane ≠ x)

include hl hagree ho hox

theorem masked_line {ps : List ((Nat × Nat) × Nat)} {v : VoteRun} {y : Nat × Nat} (hy : y ∈ f.voteLines task)
    (h : Masked s f task objs x o ps v) :
    Masked s f task objs x o (ps ++ f.declaredOf task y (List.range 64)) (v.line f task objs y) := by
  have hstart : SameFolios s v.s := h.2.2.2
  have hbytes : ∀ is : List Nat, (∀ i ∈ is, i < 64) → ∀ (ps : List ((Nat × Nat) × Nat)) (w : VoteRun),
      Masked s f task objs x o ps w → Masked s f task objs x o (ps ++ f.declaredOf task y is) (is.foldl (fun w i =>
        if f.declared task y.1 (64 * y.2 + i) then
          w.byte task y.1 (64 * y.2 + i) ((objs.map fun o => (o.lane, o.decoded (v.s.folioOf f o.gen) task y)).map
            fun (d : Lane × List Byte) => (d.1, d.2.getD i 0))
        else w) w) := by
    intro is
    induction is with
    | nil => intro _ ps w hw; simpa [Folio.declaredOf] using hw
    | cons i is ih =>
      intro his ps w hw
      have his' : ∀ j ∈ is, j < 64 := fun j hj => his j (List.mem_cons_of_mem _ hj)
      rw [List.foldl_cons]
      by_cases hd : f.declared task y.1 (64 * y.2 + i) = true
      · rw [if_pos hd]
        have hlanes : ((objs.map fun o => (o.lane, o.decoded (v.s.folioOf f o.gen) task y)).map
            fun (d : Lane × List Byte) => (d.1, d.2.getD i 0)).map (·.1) = objs.map (·.lane) := by
          simp only [List.map_map]; rfl
        have hbut : AllBut x (s.votedAt f task o (y, i)).2 ((objs.map fun o =>
            (o.lane, o.decoded (v.s.folioOf f o.gen) task y)).map fun (d : Lane × List Byte) => (d.1, d.2.getD i 0)) := by
          intro p hp hpx
          rw [List.map_map] at hp
          obtain ⟨o', ho', rfl⟩ := List.mem_map.mp hp
          have := hagree o' ho' o ho hpx hox y hy i (his i List.mem_cons_self) hd
          rw [← hstart.folioOf f o'.gen] at this
          exact this
        obtain ⟨hf, hlive, hout, hsame⟩ := hw
        obtain ⟨hf', hlive', hout', hsame'⟩ := VoteRun.byte_masks task y.1 (64 * y.2 + i) (by rw [hlanes]; exact hl) hbut
          hf (by rw [hlanes]; exact hlive)
        rw [hlanes] at hlive'
        have hnext := ih his' (ps ++ [(y, i)]) _ ⟨hf', hlive', by rw [hout', hout]; simp [State.votedAt], hsame'.1.trans hsame.1,
          hsame'.2.trans hsame.2⟩
        simpa [Folio.declaredOf, hd] using hnext
      · rw [if_neg hd]
        have hnext := ih his' ps w hw
        simpa [Folio.declaredOf, hd] using hnext
  exact hbytes (List.range 64) (fun i hi => List.mem_range.mp hi) ps v h

theorem masked_vote3 :
    Masked s f task objs x o ((f.voteLines task).flatMap fun y => f.declaredOf task y (List.range 64)) (s.vote3 f task objs) := by
  have hlines : ∀ ys : List (Nat × Nat), (∀ y ∈ ys, y ∈ f.voteLines task) → ∀ (ps : List ((Nat × Nat) × Nat)) (v : VoteRun),
      Masked s f task objs x o ps v → Masked s f task objs x o (ps ++ ys.flatMap fun y => f.declaredOf task y (List.range 64))
        (ys.foldl (fun v y => v.line f task objs y) v) := by
    intro ys
    induction ys with
    | nil => intro _ ps v hv; simpa using hv
    | cons y ys ih =>
      intro hys ps v hv
      have hnext := ih (fun z hz => hys z (List.mem_cons_of_mem _ hz)) _ _
        (masked_line hl hagree ho hox (hys y List.mem_cons_self) hv)
      simpa [List.append_assoc] using hnext
  have h := hlines (f.voteLines task) (fun _ hy => hy) [] ⟨s, objs.map (·.lane), [], false⟩
    ⟨rfl, .inl rfl, rfl, rfl, rfl⟩
  rwa [List.nil_append] at h

end

theorem mem_declaredOf (f : Folio) (task : Nat) (q : (Nat × Nat) × Nat) :
    q ∈ (f.voteLines task).flatMap (fun y => f.declaredOf task y (List.range 64)) ↔
      q.1 ∈ f.voteLines task ∧ q.2 < 64 ∧ f.declared task q.1.1 (64 * q.1.2 + q.2) = true := by
  obtain ⟨y, i⟩ := q
  simp only [List.mem_flatMap, Folio.declaredOf, List.mem_map, List.mem_filter, List.mem_range, Prod.mk.injEq]
  constructor
  · rintro ⟨y', hy, i', ⟨hi, hd⟩, rfl, rfl⟩
    exact ⟨hy, hi, hd⟩
  · rintro ⟨hy, hi, hd⟩
    exact ⟨y, hy, i, ⟨hi, hd⟩, rfl, rfl⟩

/-! ### Two lanes that differ -/

/-- A fold that keeps `P`, and `Q` once reached, ends in `Q` when the step of one of its elements takes `P` to `Q`. -/
theorem foldl_reaches {α β : Type} {P Q : β → Prop} {k : β → α → β} (hP : ∀ b a, P b → P (k b a))
    (hQ : ∀ b a, Q b → Q (k b a)) {a : α} (hk : ∀ b, P b → Q (k b a)) :
    ∀ (xs : List α) (b : β), a ∈ xs → P b → Q (xs.foldl k b) := by
  have hkeep : ∀ (xs : List α) (b : β), Q b → Q (xs.foldl k b) := by
    intro xs
    induction xs with
    | nil => exact fun _ h => h
    | cons x xs ih => exact fun b h => ih _ (hQ b x h)
  intro xs
  induction xs with
  | nil => intro b h; cases h
  | cons x xs ih =>
    intro b h hb
    obtain rfl | h := List.mem_cons.mp h
    · exact hkeep xs _ (hk b hb)
    · exact ih _ h (hP b x hb)

theorem VoteRun.byte_failed {v : VoteRun} (task seg off : Nat) (vs : List (Lane × Byte)) (h : v.failed = true) :
    v.byte task seg off vs = v := by
  simp [VoteRun.byte, h]

/-- A vote over two lanes has failed, or both are live and nothing has changed the folios. -/
def TwoLive (s : State) (l l' : Lane) (v : VoteRun) : Prop := v.failed = true ∨ (v.live = [l, l'] ∧ SameFolios s v.s)

/-- One byte of two lanes: voted when they agree, else the vote fails (R49). -/
theorem VoteRun.byte_two {v : VoteRun} {l l' : Lane} (task seg off : Nat) (b b' : Byte) (hf : ¬ v.failed = true)
    (hlive : v.live = [l, l']) :
    (b = b' → v.byte task seg off [(l, b), (l', b')] = { v with out := (segKey seg off, b) :: v.out }) ∧
    (b ≠ b' → (v.byte task seg off [(l, b), (l', b')]).failed = true) := by
  have hf' : v.failed = false := by simpa using hf
  constructor
  · rintro rfl
    simp [VoteRun.byte, hf', hlive]
  · intro hne
    simp [VoteRun.byte, hf', hlive, oddLane, hne.symm]

section

variable {s : State} {f : Folio} {task : Nat} {o o' : OutObj}

theorem twoLive_byte {v : VoteRun} (seg off : Nat) (b b' : Byte) (h : TwoLive s o.lane o'.lane v) :
    TwoLive s o.lane o'.lane (v.byte task seg off [(o.lane, b), (o'.lane, b')]) := by
  by_cases hf : v.failed = true
  · rw [VoteRun.byte_failed _ _ _ _ hf]; exact h
  · obtain ⟨hlive, hsame⟩ := h.resolve_left hf
    obtain ⟨heq, hne⟩ := VoteRun.byte_two task seg off b b' hf hlive
    by_cases hb : b = b'
    · rw [heq hb]; exact .inr ⟨hlive, hsame⟩
    · exact .inl (hne hb)

/-- The step of one offset in the vote over a line of two objects. -/
def lineStep (f : Folio) (task : Nat) (y : Nat × Nat) (ds : List (Lane × List Byte)) (v : VoteRun) (i : Nat) : VoteRun :=
  if f.declared task y.1 (64 * y.2 + i) then
    v.byte task y.1 (64 * y.2 + i) (ds.map fun (d : Lane × List Byte) => (d.1, d.2.getD i 0))
  else v

theorem line_eq (v : VoteRun) (f : Folio) (task : Nat) (objs : List OutObj) (y : Nat × Nat) : v.line f task objs y =
    (List.range 64).foldl (lineStep f task y (objs.map fun o => (o.lane, o.decoded (v.s.folioOf f o.gen) task y))) v := rfl

theorem lineStep_failed {ds : List (Lane × List Byte)} {v : VoteRun} (y : Nat × Nat) (i : Nat) (h : v.failed = true) :
    (lineStep f task y ds v i).failed = true := by
  unfold lineStep
  split
  · rw [VoteRun.byte_failed _ _ _ _ h]; exact h
  · exact h

theorem twoLive_lineStep {v : VoteRun} (y : Nat × Nat) (d d' : List Byte) (i : Nat) (h : TwoLive s o.lane o'.lane v) :
    TwoLive s o.lane o'.lane (lineStep f task y [(o.lane, d), (o'.lane, d')] v i) := by
  unfold lineStep
  split
  · exact twoLive_byte _ _ _ _ h
  · exact h

theorem foldl_keeps {α β : Type} {P : β → Prop} {k : β → α → β} (hP : ∀ b a, P b → P (k b a)) (xs : List α) {b : β} (h : P b) :
    P (xs.foldl k b) := by
  induction xs generalizing b with
  | nil => exact h
  | cons x xs ih => exact ih (hP b x h)

theorem twoLive_line {v : VoteRun} (y : Nat × Nat) (h : TwoLive s o.lane o'.lane v) :
    TwoLive s o.lane o'.lane (v.line f task [o, o'] y) := by
  rw [line_eq]
  exact foldl_keeps (fun w i hw => twoLive_lineStep y _ _ i hw) _ h

theorem line_failed {objs : List OutObj} {v : VoteRun} (y : Nat × Nat) (h : v.failed = true) : (v.line f task objs y).failed = true := by
  rw [line_eq]
  exact foldl_keeps (P := fun w : VoteRun => w.failed = true) (fun w i hw => lineStep_failed y i hw) _ h

/-- The line in which two objects differ in a declared byte fails the vote. -/
theorem line_differs {v : VoteRun} {y : Nat × Nat} {i : Nat} (hi : i < 64) (hd : f.declared task y.1 (64 * y.2 + i) = true)
    (hne : (o.decoded (s.folioOf f o.gen) task y).getD i 0 ≠ (o'.decoded (s.folioOf f o'.gen) task y).getD i 0)
    (h : TwoLive s o.lane o'.lane v) : (v.line f task [o, o'] y).failed = true := by
  by_cases hf : v.failed = true
  · exact line_failed y hf
  obtain ⟨-, hsame⟩ := h.resolve_left hf
  rw [line_eq]
  refine foldl_reaches (P := TwoLive s o.lane o'.lane) (Q := fun w : VoteRun => w.failed = true)
    (fun w j hw => twoLive_lineStep y _ _ j hw) (fun w j hw => lineStep_failed y j hw) (fun w hw => ?_) _ _
    (List.mem_range.mpr hi) h
  by_cases hwf : (w : VoteRun).failed = true
  · exact lineStep_failed y i hwf
  obtain ⟨hlive, -⟩ := hw.resolve_left hwf
  rw [lineStep, if_pos hd]
  exact (VoteRun.byte_two task _ _ _ _ hwf hlive).2 (by rw [hsame.folioOf, hsame.folioOf]; exact hne)

theorem vote3_differs {y : Nat × Nat} {i : Nat} (hy : y ∈ f.voteLines task) (hi : i < 64)
    (hd : f.declared task y.1 (64 * y.2 + i) = true)
    (hne : (o.decoded (s.folioOf f o.gen) task y).getD i 0 ≠ (o'.decoded (s.folioOf f o'.gen) task y).getD i 0) :
    (s.vote3 f task [o, o']).failed = true :=
  foldl_reaches (P := TwoLive s o.lane o'.lane) (Q := fun w : VoteRun => w.failed = true) (fun _ z hw => twoLive_line z hw)
    (fun _ z hw => line_failed z hw) (fun _ hw => line_differs hi hd hne hw) _ _ hy (.inr ⟨rfl, rfl, rfl⟩)

end

/-! ### Which commits are voted -/

@[simp] theorem taskRec_tick (s : State) (t n : Nat) : (s.tick t).taskRec n = s.taskRec n := by
  simp only [State.taskRec, tick_folio]

@[simp] theorem book_tick (s : State) (t n : Nat) : (s.tick t).book n = s.book n := by
  simp only [State.book, tick_ductus]

@[simp] theorem modeNow_tick (s : State) (t : Nat) : (s.tick t).modeNow = s.modeNow := by
  simp only [State.modeNow, fget_tick]

theorem taskRec_task {s : State} {n : Nat} {r : TaskRec} (h : s.taskRec n = some r) : r.task = n := by
  obtain ⟨f, -, hf⟩ := Option.bind_eq_some_iff.mp h
  simpa using List.find?_some hf

theorem book_task (s : State) (n : Nat) : (s.book n).task = n := by
  unfold State.book
  split
  · rename_i b h; simpa using List.find?_some h
  · rfl

theorem book_setBook_same (s : State) {b : TaskBook} {n : Nat} (hn : b.task = n) : (s.setBook b).book n = b := by
  subst hn
  have h := find?_replaced_same (p := fun y : TaskBook => y.task == b.task) (x := b) (by simp) s.ductus.tasks
  simp only [State.book, State.setBook]
  rw [show (s.ductus.tasks.filter fun y => y.task != b.task) = s.ductus.tasks.filter fun y => !(y.task == b.task) from rfl, h]

section

variable {s : State} {r : TaskRec} {task t c : Nat} {skipped : Bool} (hr : s.taskRec task = some r)
  (hdue : (s.book task).due = some (c, skipped))

include hr hdue

theorem exec_voteCommit_meets {f : Folio} (hf : s.folio.running = some f) (hc : c ≤ (s.tick t).now)
    (hfail : ¬ s.flag F.VOTE_CTRL_FAILED = true) (hnext : (s.tick t).nextCommit r c = true) :
    exec (.voteCommit task t) s = .next ((s.tick t).meetCommit f r c skipped) := by
  have hwait : ¬ (decide ((s.tick t).now < c) || (s.tick t).flag F.VOTE_CTRL_FAILED || !(s.tick t).nextCommit r c) = true := by
    simp [hnext, hfail, hc]
  simp only [exec, execVoteCommit, tick_folio, hf, taskRec_tick, hr, book_tick, hdue]
  exact if_neg hwait

theorem exec_voteCommit_waits (hnext : ¬ (s.tick t).nextCommit r c = true) :
    exec (.voteCommit task t) s = .next (s.tick t) := by
  simp only [exec, execVoteCommit, tick_folio, taskRec_tick, hr, book_tick, hdue]
  split
  · rename_i hr' hdue'
    cases hr'
    cases hdue'
    simp [hnext]
  · rfl

end

/-- A FINISHED task of a lane is IDLE again, its execution dropped (R80). -/
def dropFinished (n : Nat) (s : State) (l : Lane) : State :=
  if s.taskSt l n == .finished then (s.dropExec l n).setTaskSt l n .idle else s

theorem dropFinished_keeps (n : Nat) (s : State) (l : Lane) :
    (dropFinished n s l).ductus = s.ductus ∧ (dropFinished n s l).vote = s.vote := by
  unfold dropFinished
  split
  · exact ⟨setLane_ductus s l _, setLane_vote s l _⟩
  · exact ⟨rfl, rfl⟩

/-- A task's due instant and its objects at the vote dropped (R94). -/
def dropDue (s : State) (n : Nat) : State :=
  { (s.setBook { s.book n with due := none }) with vote := { s.vote with outs := s.vote.outs.filter (·.task != n) } }

theorem skipCommit_eq (s : State) (n : Nat) : s.skipCommit n = allLanes.foldl (dropFinished n) (dropDue s n) := rfl

theorem book_of_ductus {s t : State} (h : t.ductus = s.ductus) (n : Nat) : t.book n = s.book n := by
  simp only [State.book, h]

theorem skipCommit_keeps (s : State) (n : Nat) :
    (s.skipCommit n).ductus = (dropDue s n).ductus ∧ (s.skipCommit n).vote = (dropDue s n).vote := by
  rw [skipCommit_eq]
  refine foldl_keeps (P := fun u : State => u.ductus = (dropDue s n).ductus ∧ u.vote = (dropDue s n).vote)
    (fun u l h => ?_) _ ⟨rfl, rfl⟩
  obtain ⟨hd, hv⟩ := dropFinished_keeps n u l
  exact ⟨hd.trans h.1, hv.trans h.2⟩

/-- A commit that HOLD skips: its task has no due instant and no object at the vote (R94). -/
theorem skipCommit_drops (s : State) (n : Nat) :
    ((s.skipCommit n).book n).due = none ∧ ∀ o ∈ (s.skipCommit n).vote.outs, o.task ≠ n := by
  obtain ⟨hd, hv⟩ := skipCommit_keeps s n
  constructor
  · have hbook : (dropDue s n).book n = { s.book n with due := none } :=
      book_setBook_same s (b := { s.book n with due := none }) (book_task s n)
    rw [book_of_ductus hd, hbook]
  · intro o ho
    rw [hv] at ho
    simpa using List.of_mem_filter ho

/-- Settles O10: by the invariant of a vote that masks one lane, and by the cases of VOTE_COMMIT. -/
theorem theVoteMasksOneFaultyLane : Obligations.TheVoteMasksOneFaultyLane := by
  unfold Obligations.TheVoteMasksOneFaultyLane
  refine ⟨?masks, fun s f task o o' y i _ hy hi hd hne => vote3_differs hy hi hd hne, ?voted, ?skipped,
    fun s r task t c skipped hr hdue hnext => exec_voteCommit_waits hr hdue hnext⟩
  case masks =>
    intro s f task objs x hl hagree
    have hmask : ∀ o ∈ objs, o.lane ≠ x → _ := fun o ho hox => masked_vote3 hl hagree ho hox
    have hother : ∃ o ∈ objs, o.lane ≠ x := by
      obtain ⟨p, hp, hpx⟩ := exists_other (vs := objs.map fun o => (o.lane, (0 : Byte))) x (by rw [List.map_map]; exact hl)
      obtain ⟨o, ho, rfl⟩ := List.mem_map.mp hp
      exact ⟨o, ho, hpx⟩
    obtain ⟨o, ho, hox⟩ := hother
    obtain ⟨hf, hlive, -, -⟩ := hmask o ho hox
    refine ⟨hf, hlive.imp (fun h : _ = _ => by rw [h]; exact hl) (fun h : _ = _ => by rw [h]; exact hl.filter _), fun o ho hox y hy i hi hd => ?_, fun z hz o ho hox => ?_⟩
    · obtain ⟨-, -, hout, -⟩ := hmask o ho hox
      rw [hout, List.mem_reverse]
      exact List.mem_map.mpr ⟨(y, i), (mem_declaredOf f task (y, i)).mpr ⟨hy, hi, hd⟩, rfl⟩
    · obtain ⟨-, -, hout, -⟩ := hmask o ho hox
      rw [hout, List.mem_reverse] at hz
      obtain ⟨q, hq, rfl⟩ := List.mem_map.mp hz
      obtain ⟨hy, hi, hd⟩ := (mem_declaredOf f task q).mp hq
      exact ⟨q.1, hy, q.2, hi, hd, rfl⟩
  case voted =>
    intro s f r task t c skipped hf hr hdue hc hfail hmode hentry hnext
    have hcond : ¬ ((s.tick t).modeNow == .hold || decide (c < (s.tick t).ductus.runEntry.getD 0)) = true := by
      simp [hmode, hentry]
    rw [exec_voteCommit_meets hr hdue hf hc hfail hnext, State.meetCommit, if_neg hcond]
  case skipped =>
    intro s f r task t c skipped hf hr hdue hc hfail hmode hnext
    have hcond : ((s.tick t).modeNow == .hold || decide (c < (s.tick t).ductus.runEntry.getD 0)) = true := by simp [hmode]
    refine ⟨_, exec_voteCommit_meets hr hdue hf hc hfail hnext, ?_⟩
    rw [State.meetCommit, if_pos hcond, taskRec_task hr]
    exact skipCommit_drops _ task

/-! ### Clearing and holding captures -/

theorem laneByte_eq (vs : List (Lane × Byte)) (l : Lane) :
    laneByte vs l = ((vs.find? (·.1 == l)).map (·.2.toNat)).getD 0 := by
  unfold laneByte
  cases vs.find? (·.1 == l) <;> rfl

theorem laneByte_lt (vs : List (Lane × Byte)) (l : Lane) : laneByte vs l < 256 := by
  unfold laneByte
  split
  · exact BitVec.isLt _
  · decide

theorem exec_voteDisCapClear {s : State} (h : s.reachable R.VOTE_DIS_CAP = true) :
    exec .voteDisCapClear s = .next (s.fput F.VOTE_DIS_CAP_VALID 0) :=
  congrArg Host.Outcome.next (clearField_reachable (f := F.VOTE_DIS_CAP_VALID) h)

theorem exec_censusCapClear {s : State} (h : s.reachable R.CENSUS_CAP = true) :
    exec .censusCapClear s = .next (s.fput F.CENSUS_CAP_VALID 0) :=
  congrArg Host.Outcome.next (clearField_reachable (f := F.CENSUS_CAP_VALID) h)

/-- Settles O12: a clear writes VALID alone, and each field captured is read past the writes of the others. -/
theorem capturesOfTheVoteAreReArmed : Obligations.CapturesOfTheVoteAreReArmed := by
  unfold Obligations.CapturesOfTheVoteAreReArmed
  refine ⟨?clearVote, ?clearCensus, fun s task seg off odd vs h => captureByte_held task seg off odd vs h, ?captures⟩
  case clearVote =>
    intro s h
    refine ⟨_, exec_voteDisCapClear h, fput_regsOnly s _ _, ?_, ?_, ?_, ?_⟩
    · rw [flag_fput_same _ _ _ rfl]; decide
    all_goals exact fget_fput_other _ _ _ _ rfl rfl rfl
  case clearCensus =>
    intro s h
    refine ⟨_, exec_censusCapClear h, fput_regsOnly s _ _, ?_, ?_, ?_, ?_⟩
    · rw [flag_fput_same _ _ _ rfl]; decide
    all_goals exact fget_fput_other _ _ _ _ rfl rfl rfl
  case captures =>
    intro s task seg off odd vs hv htask hoff hodd
    have hother : ∀ (u : State) (f g : Field) (v : Nat), fieldOk f = true ∧ fieldOk g = true ∧ bitsApart g f = true →
        (u.fput f v).fget g = u.fget g := fun u f g v h => fget_fput_other u f g v h.1 h.2.1 h.2.2
    refine ⟨?_, ?_, ?_, ?_, ?_, ?_, ?_, ?_, ?_, captureByte_regsOnly s task seg off odd vs⟩ <;>
      rw [captureByte_free task seg off odd vs hv]
    · rw [State.flag]
      repeat rw [hother _ _ F.VOTE_DIS_CAP_VALID _ (by decide)]
      rw [fget_fput_same _ _ _ rfl]; rfl
    · repeat rw [hother _ _ F.VOTE_DIS_CAP_TASK _ (by decide)]
      rw [fget_fput_same _ _ _ rfl]; exact Nat.mod_eq_of_lt htask
    · repeat rw [hother _ _ F.VOTE_DIS_CAP_ODD _ (by decide)]
      rw [fget_fput_same _ _ _ rfl]; exact Nat.mod_eq_of_lt hodd
    · repeat rw [hother _ _ F.VOTE_DIS_CAP_OFFSET _ (by decide)]
      rw [fget_fput_same _ _ _ rfl]; exact Nat.mod_mod _ _
    · repeat rw [hother _ _ F.VOTE_DIS_OFF_OFFSET _ (by decide)]
      rw [fget_fput_same _ _ _ rfl]; exact Nat.mod_eq_of_lt hoff
    · rw [State.flag]
      repeat rw [hother _ _ F.VOTE_DIS_OFF_SEG _ (by decide)]
      rw [fget_fput_same _ _ _ rfl]
      by_cases hseg : seg = segTgo <;> simp [hseg, bit, F.VOTE_DIS_OFF_SEG]
    · repeat rw [hother _ _ F.VOTE_DIS_VAL_LANE_A _ (by decide)]
      rw [fget_fput_same _ _ _ rfl, ← laneByte_eq]; exact Nat.mod_eq_of_lt (laneByte_lt vs .a)
    · repeat rw [hother _ _ F.VOTE_DIS_VAL_LANE_B _ (by decide)]
      rw [fget_fput_same _ _ _ rfl, ← laneByte_eq]; exact Nat.mod_eq_of_lt (laneByte_lt vs .b)
    · rw [fget_fput_same _ _ _ rfl, ← laneByte_eq]; exact Nat.mod_eq_of_lt (laneByte_lt vs .c)

end Sys2Proof.Machine
end

section
/-! PROOF. The census (R57 to R60, R67): the slice that a lane hashes and what the vote holds of it, the start of a round,
and the comparison of the voting lanes' hashes. -/

namespace Sys2Proof.Machine

open State

/-! ### Keyed lists -/

theorem assoc_cellIns_same {α : Type} (m : List (Nat × α)) (a : Nat) (v : α) : assoc (cellIns m a v) a = some v := by
  induction m with
  | nil => simp [cellIns, assoc]
  | cons e m ih =>
    obtain ⟨b, w⟩ := e
    unfold cellIns
    split
    · simp [assoc]
    · split
      · simp [assoc]
      · rename_i hne _
        simp [assoc, hne, ih]

/-! ### CENSUS_SLICE_HASH -/

@[simp] theorem sliceQuiet_tick (s : State) (t : Nat) (l : Lane) (r : TaskRec) : (s.tick t).sliceQuiet l r = s.sliceQuiet l r := by
  simp only [State.sliceQuiet, State.taskSt, fget_tick]

@[simp] theorem sliceCount_tick (s : State) (t n : Nat) : (s.tick t).sliceCount n = s.sliceCount n := by
  simp only [State.sliceCount, tick_folio]

@[simp] theorem slicesDone_tick (s : State) (t : Nat) (l : Lane) (n : Nat) : (s.tick t).slicesDone l n = s.slicesDone l n := by
  simp only [State.slicesDone, lane_tick, book_tick]

@[simp] theorem slicesPer_tick (s : State) (t : Nat) (r : TaskRec) : (s.tick t).slicesPer r = s.slicesPer r := by
  simp only [State.slicesPer, tick_folio]

@[simp] theorem nextSlice_tick (s : State) (t : Nat) (l : Lane) (r : TaskRec) : (s.tick t).nextSlice l r = s.nextSlice l r := by
  simp only [State.nextSlice, lane_tick, book_tick, sliceCount_tick, slicesDone_tick, slicesPer_tick]

@[simp] theorem pairIdle_tick (s : State) (t : Nat) (l : Lane) (ep : Nat) : (s.tick t).pairIdle l ep = s.pairIdle l ep := by
  simp only [State.pairIdle, State.readyTasks, State.tasks, State.exec?, lane_tick, tick_folio]

@[simp] theorem censusRecord_tick (s : State) (t : Nat) (l : Lane) (f : Folio) (r : TaskRec) (slice : Nat) (ab : Bool) :
    (s.tick t).censusRecord l f r slice ab = s.censusRecord l f r slice ab := by
  simp only [State.censusRecord, lane_tick, book_tick]

section

variable {s : State} {f : Folio} {r : TaskRec} {l : Lane} {task slice : Nat} (t : Nat)

theorem exec_censusSliceHash_abandoned (hf : s.folio.running = some f) (hr : s.taskRec task = some r)
    (hv : s.isVoting l = true) (hn : s.nextSlice l r = some slice) :
    exec (.censusSliceHash l task slice true t) s = .next ((s.tick t).sendCensus (s.censusRecord l f r slice true)) := by
  simp [exec, execCensusSliceHash, hf, hr, hv, hn]

theorem exec_censusSliceHash_hashed (hf : s.folio.running = some f) (hr : s.taskRec task = some r)
    (hv : s.isVoting l = true) (hn : s.nextSlice l r = some slice) (hq : s.sliceQuiet l r = true)
    (hi : s.pairIdle l r.ep = true) : exec (.censusSliceHash l task slice false t) s =
      .next (((s.tick t).passSlice l r slice).sendCensus (s.censusRecord l f r slice false)) := by
  simp [exec, execCensusSliceHash, hf, hr, hv, hn, hq, hi]

theorem exec_censusSliceHash_refused {abandoned : Bool} (h : ∀ r, s.taskRec task = some r → ¬ s.isVoting l = true ∨
    s.nextSlice l r ≠ some slice ∨ (¬ abandoned = true ∧ (¬ s.sliceQuiet l r = true ∨ ¬ s.pairIdle l r.ep = true))) :
    exec (.censusSliceHash l task slice abandoned t) s = .next (s.tick t) := by
  simp only [exec, execCensusSliceHash, tick_folio, taskRec_tick, isVoting_tick, nextSlice_tick, sliceQuiet_tick,
    pairIdle_tick]
  split
  · rename_i r _ hr
    by_cases hsend : (!s.isVoting l || s.nextSlice l r != some slice) = true
    · rw [if_pos hsend]
    · have hvn : s.isVoting l = true ∧ s.nextSlice l r = some slice := by simpa using hsend
      obtain ⟨hab, hquiet⟩ := ((h r hr).resolve_left (not_not_intro hvn.1)).resolve_left (not_not_intro hvn.2)
      rw [if_neg hsend, if_neg hab, if_pos (by simpa using hquiet)]
  · rfl

end

theorem isVoting_sendUnits (s : State) (d : List Block) (src kind mask own : Nat) (ps : List (List Byte)) (l : Lane) :
    (s.sendUnits d src kind mask own ps).isVoting l = s.isVoting l := isVoting_of_regs rfl l

theorem censusLate_sendUnits (s : State) (d : List Block) (src kind mask own : Nat) (ps : List (List Byte)) (h : CensusHash) :
    (s.sendUnits d src kind mask own ps).censusLate h = s.censusLate h := rfl

theorem roundOver_sendUnits (s : State) (d : List Block) (src kind mask own : Nat) (ps : List (List Byte)) (h : CensusHash) :
    (s.sendUnits d src kind mask own ps).roundOver h = s.roundOver h := rfl

/-- The hash that a voting lane sends is held, unless it is late or of a round that is over (R60). -/
theorem sendCensus_held {s : State} {h : CensusHash} (hv : s.isVoting h.lane = true) (hr : ¬ s.roundOver h = true)
    (hl : ¬ s.censusLate h = true) :
    s.sendCensus h = { s with
      fabric := (s.sendCensus h).fabric, vote := { s.vote with census := (s.sendCensus h).vote.census } } ∧
      h ∈ (s.sendCensus h).vote.census := by
  have hheld := holdCensus_held (s := s.sendUnits [.vote] (pdLane h.lane) kindCensus (laneBit h.lane) 0 [censusPayload h])
    (by rw [isVoting_sendUnits]; exact hv) (by rw [roundOver_sendUnits]; exact hr) (by rw [censusLate_sendUnits]; exact hl)
  rw [State.sendCensus, hheld]
  exact ⟨rfl, List.mem_append_right _ (List.mem_singleton_self h)⟩

/-- A hash of the execution count that the task has now is not late (R60). -/
theorem not_censusLate {s : State} {h : CensusHash} (he : h.exec = (s.book h.task).execs % 2 ^ 32) :
    ¬ s.censusLate h = true := by
  unfold State.censusLate
  unfold State.book at he
  split
  · rename_i b hb
    rw [hb] at he
    simp [he]
  · exact Bool.false_ne_true

section

variable (s : State) (f : Folio) (r : TaskRec) (l : Lane) (slice : Nat)

@[simp] theorem censusRecord_lane (ab : Bool) : (s.censusRecord l f r slice ab).lane = l := rfl
@[simp] theorem censusRecord_task (ab : Bool) : (s.censusRecord l f r slice ab).task = r.task := rfl
@[simp] theorem censusRecord_slice (ab : Bool) : (s.censusRecord l f r slice ab).slice = slice := rfl
@[simp] theorem censusRecord_exec (ab : Bool) : (s.censusRecord l f r slice ab).exec = (s.book r.task).execs % 2 ^ 32 := rfl
@[simp] theorem censusRecord_abandoned (ab : Bool) : (s.censusRecord l f r slice ab).abandoned = ab := rfl
@[simp] theorem censusRecord_round (ab : Bool) : (s.censusRecord l f r slice ab).round = r.event := rfl

theorem censusRecord_hash : (s.censusRecord l f r slice false).hash =
    censusHash l f (s.lane l).mem ((f.slices r.task).getD slice []) := rfl

theorem censusRecord_hash_abandoned : (s.censusRecord l f r slice true).hash = 0 := rfl

variable {r}

theorem censusRecord_stamp_cyclic (ab : Bool) (h : ¬ r.event = true) :
    (s.censusRecord l f r slice ab).stamp = (s.book r.task).lastRelease.getD 0 := if_neg h

theorem censusRecord_stamp_event (ab : Bool) {q : Round} (h : r.event = true) (hq : (s.lane l).round r.task = some q) :
    (s.censusRecord l f r slice ab).stamp = q.stamp := by
  simp [State.censusRecord, h, hq]

end

/-- A cyclic task's hash, and a hash of a round that goes on, are of no round that is over. -/
theorem not_roundOver {s : State} {h : CensusHash} (hr : h.round = true → s.now < h.stamp + 1000000000) :
    ¬ s.roundOver h = true := by
  unfold State.roundOver
  simp only [Bool.and_eq_true, decide_eq_true_eq, not_and]
  intro hround hover
  exact absurd (hr hround) (Nat.not_lt.mpr hover)

/-- Passing a slice changes the lane alone. -/
theorem passSlice_frame (s : State) (l : Lane) (r : TaskRec) (slice : Nat) :
    s.passSlice l r slice = s.setLane l ((s.passSlice l r slice).lane l) := by
  unfold State.passSlice
  dsimp only
  split <;> rw [lane_setLane_same]

theorem passSlice_cyclic {s : State} {l : Lane} {r : TaskRec} (slice : Nat) (h : ¬ r.event = true) :
    (s.passSlice l r slice).lane l = { s.lane l with
      sliceNext := cellIns (s.lane l).sliceNext r.task ((slice + 1) % s.sliceCount r.task)
      sliceDone := cellIns (s.lane l).sliceDone r.task ((s.book r.task).execs, s.slicesDone l r.task + 1) } := by
  unfold State.passSlice
  dsimp only
  rw [if_neg h, lane_setLane_same]

/-- The round of a task with its slice passed. -/
def passRound (n slice : Nat) (q : Round) : Round := if q.task == n then { q with next := slice + 1 } else q

theorem passSlice_event {s : State} {l : Lane} {r : TaskRec} (slice : Nat) (h : r.event = true) :
    (s.passSlice l r slice).lane l = { s.lane l with rounds := (s.lane l).rounds.map (passRound r.task slice) } := by
  unfold State.passSlice
  dsimp only
  rw [if_pos h, lane_setLane_same]
  rfl

theorem round_passRound {x : LaneState} {n slice : Nat} {q : Round} (h : x.round n = some q) :
    ({ x with rounds := x.rounds.map (passRound n slice) } : LaneState).round n = some { q with next := slice + 1 } := by
  have hkey : ((fun y : Round => y.task == n) ∘ passRound n slice) = fun y => y.task == n := by
    funext y
    unfold passRound
    simp only [Function.comp]
    split <;> rfl
  have hq : (q.task == n) = true := List.find?_some (p := fun y : Round => y.task == n) h
  simp only [LaneState.round] at h ⊢
  rw [List.find?_map, hkey, h]
  simp [passRound, hq]

theorem isVoting_passSlice (s : State) (l : Lane) (r : TaskRec) (slice : Nat) (k : Lane) :
    (s.passSlice l r slice).isVoting k = s.isVoting k := by
  rw [passSlice_frame]
  exact isVoting_of_regs (setLane_regs _ _ _) k

theorem book_passSlice (s : State) (l : Lane) (r : TaskRec) (slice n : Nat) : (s.passSlice l r slice).book n = s.book n := by
  rw [passSlice_frame]
  exact book_of_ductus (setLane_ductus _ _ _) n

theorem now_passSlice (s : State) (l : Lane) (r : TaskRec) (slice : Nat) : (s.passSlice l r slice).now = s.now := by
  rw [passSlice_frame, setLane_now]

theorem lane_sendCensus (s : State) (h : CensusHash) (l : Lane) : (s.sendCensus h).lane l = s.lane l := by
  unfold State.sendCensus State.holdCensus
  split
  · exact sendUnits_lane _ _ _ _ _ _ _ l
  · cases l <;> rfl

/-- A slice hashed of a task that is quiet: the vote holds its record, and the lane goes on to the next slice. -/
theorem censusSliceHash_hashed {s : State} {f : Folio} {r : TaskRec} {l : Lane} {slice : Nat} (t : Nat)
    (hv : s.isVoting l = true)
    (hround : r.event = true → (s.tick t).now < (s.censusRecord l f r slice false).stamp + 1000000000) :
    let u := s.tick t
    let h := s.censusRecord l f r slice false
    let v := (u.passSlice l r slice).sendCensus h
    v = { u.setLane l (v.lane l) with fabric := v.fabric, vote := { u.vote with census := v.vote.census } } ∧
      h ∈ v.vote.census ∧ v.lane l = (u.passSlice l r slice).lane l := by
  dsimp only
  obtain ⟨hframe, hmem⟩ := sendCensus_held (s := (s.tick t).passSlice l r slice) (h := s.censusRecord l f r slice false)
    (by rw [isVoting_passSlice, censusRecord_lane, isVoting_tick]; exact hv)
    (not_roundOver fun hr => by rw [now_passSlice]; exact hround hr)
    (not_censusLate (by rw [book_passSlice, book_tick]; rfl))
  refine ⟨?_, hmem, lane_sendCensus _ _ l⟩
  have hvote : ((s.tick t).passSlice l r slice).vote = (s.tick t).vote := by rw [passSlice_frame, setLane_vote]
  have hpass : (s.tick t).passSlice l r slice = (s.tick t).setLane l (((s.tick t).passSlice l r slice).lane l) :=
    passSlice_frame _ _ _ _
  rw [lane_sendCensus, ← hpass, ← hvote]
  exact hframe

/-! ### CENSUS_ROUND_START -/

theorem reg_startRound_other (s : State) (l : Lane) (task t : Nat) {a : Nat} (h : a ≠ R.LANE_CENSUS_SKIP l) :
    (s.startRound l task t).reg a = s.reg a := by
  unfold State.startRound
  dsimp only
  rw [reg_setLane]
  exact reg_fput_other s (F.LANE_CENSUS_SKIP_SLICES l) _ h

theorem lane_startRound_same (s : State) (l : Lane) (task t : Nat) :
    ((s.startRound l task t).lane l).round task = some ⟨task, t, 0⟩ := by
  unfold State.startRound
  dsimp only
  rw [lane_setLane_same]
  exact find?_replaced_same (p := fun y : Round => y.task == task) (by simp) _

theorem lane_startRound_other (s : State) {l k : Lane} (task t : Nat) (h : k ≠ l) :
    (s.startRound l task t).lane k = s.lane k := by
  unfold State.startRound
  dsimp only
  rw [lane_setLane_other _ _ h]
  exact lane_fput s _ _ k

theorem startRound_mem (s : State) (l : Lane) (task t : Nat) : (s.startRound l task t).mem = s.mem := setLane_mem _ l _

/-- The rounds of some lanes started, one after another. -/
def startRounds (s : State) (ls : List Lane) (task t : Nat) : State := ls.foldl (fun s l => s.startRound l task t) s

theorem startRounds_spec (ls : List Lane) (s : State) (task t : Nat) :
    (∀ l ∈ ls, ((startRounds s ls task t).lane l).round task = some ⟨task, t, 0⟩) ∧
      (∀ l, l ∉ ls → (startRounds s ls task t).lane l = s.lane l) ∧
      State.RegsKept (allLanes.map R.LANE_CENSUS_SKIP) s (startRounds s ls task t) ∧
      (startRounds s ls task t).mem = s.mem := by
  induction ls generalizing s with
  | nil => exact ⟨fun l h => absurd h List.not_mem_nil, fun _ _ => rfl, fun _ _ => rfl, rfl⟩
  | cons k ls ih =>
    obtain ⟨hround, hlane, hreg, hmem⟩ := ih (s.startRound k task t)
    refine ⟨fun l hl => ?_, fun l hl => ?_, fun a ha => ?_, hmem.trans (startRound_mem s k task t)⟩
    · by_cases hm : l ∈ ls
      · exact hround l hm
      · obtain rfl := (List.mem_cons.mp hl).resolve_right hm
        rw [startRounds, List.foldl_cons]
        exact (congrArg (LaneState.round · task) (hlane l hm)).trans (lane_startRound_same s l task t)
    · rw [List.mem_cons, not_or] at hl
      exact (hlane l hl.2).trans (lane_startRound_other s task t hl.1)
    · refine (hreg a ha).trans (reg_startRound_other s k task t fun he => ha ?_)
      exact List.mem_map.mpr ⟨k, by cases k <;> decide, he.symm⟩

/-- The vote no longer awaits the hashes of earlier rounds of a task (R60). -/
def dropRounds (v : VoteState) (task t : Nat) : VoteState :=
  { v with census := v.census.filter fun h => !(h.task == task && h.round && h.stamp < t) }

theorem exec_censusRoundStart_starts {s : State} {r : TaskRec} {task t : Nat} (hr : s.taskRec task = some r)
    (he : r.event = true) (ht : t % 1000000000 = 0) : exec (.censusRoundStart task t) s =
      .next { startRounds (s.tick t) s.voters task t with vote := dropRounds (startRounds (s.tick t) s.voters task t).vote task t } := by
  simp only [exec, execCensusRoundStart, taskRec_tick, hr, voters_tick]
  rw [if_neg (by simp [he, ht])] <;> rfl

theorem exec_censusRoundStart_not {s : State} {task t : Nat}
    (h : ∀ r, s.taskRec task = some r → ¬ r.event = true ∨ t % 1000000000 ≠ 0) :
    exec (.censusRoundStart task t) s = .next (s.tick t) := by
  simp only [exec, execCensusRoundStart, taskRec_tick]
  split
  · rename_i r hr
    exact if_pos (by simpa [imp_iff_not_or] using h r hr)
  · rfl

/-! ### CENSUS_COMPARE -/

/-- The hashes of one comparison are no longer awaited (R60). -/
def dropCompared (s : State) (task slice exec stamp : Nat) : State :=
  { s with vote := { s.vote with census := s.vote.census.filter fun h =>
    !(h.task == task && h.slice == slice && h.exec == exec && h.stamp == stamp) } }

theorem censusOf_lane {s : State} {l : Lane} {task slice exec stamp : Nat} {h : CensusHash}
    (hh : s.censusOf l task slice exec stamp = some h) : h.lane = l := by
  have := List.find?_some hh
  simp only [Bool.and_eq_true, beq_iff_eq] at this
  exact this.1

/-- Complete hashes of at least two voting lanes are compared (R60). -/
theorem exec_censusCompare_complete {s : State} {ls : List Lane} {hs : List CensusHash} (task slice exec stamp t : Nat)
    (hv : s.voters = ls) (hh : ls.filterMap (fun l => s.censusOf l task slice exec stamp) = hs) (hn : hs.length = ls.length)
    (h2 : 2 ≤ ls.length) (hab : ∀ h ∈ hs, ¬ h.abandoned = true) :
    Sys2Proof.Machine.exec (.censusCompare task slice exec stamp t) s =
      .next (((dropCompared (s.tick t) task slice exec stamp).censusOutcome hs task slice).censusSeen task slice) := by
  have hfind : (fun l => s.vote.census.find? fun h => h.lane == l && (h.task == task && h.slice == slice && h.exec == exec &&
      h.stamp == stamp)) = fun l => s.censusOf l task slice exec stamp := by
    funext l
    rfl
  have hcond : ¬ (hs.length != ls.length || ls.length < 2 || hs.any (·.abandoned)) = true := by
    have h2' : ¬ ls.length < 2 := Nat.not_lt.mpr h2
    simpa only [hn, h2', bne_self_eq_false, decide_false, Bool.or_false, Bool.false_or, List.any_eq_true, not_exists, not_and] using hab
  simp only [Sys2Proof.Machine.exec, execCensusCompare, voters_tick, tick_vote, hv, hfind, hh]
  rw [if_neg hcond]
  unfold dropCompared
  rw [tick_vote]

/-! ### What a comparison changes -/

/-- A slice joins the pass of a lane with PROBATION (R62). -/
def joinPass (task slice : Nat) (s : State) (l : Lane) : State :=
  if !s.flag (F.LANE_STATE_PROBATION l) then s else
  let x := s.lane l
  let mine := x.censusSeen.filter (· != (task, slice)) ++ [(task, slice)]
  if s.passComplete mine then (s.setLane l { x with censusSeen := [] }).fput (F.LANE_STATE_PROBATION l) 0
  else s.setLane l { x with censusSeen := mine }

/-- A slice joins the pass of the module (CENSUS_PASSES). -/
def joinModulePass (s : State) (task slice : Nat) : State :=
  let seen := s.vote.censusSeen.filter (· != (task, slice)) ++ [(task, slice)]
  if s.passComplete seen then ({ s with vote := { s.vote with censusSeen := [] } }).finc F.CENSUS_PASSES_COUNT
  else { s with vote := { s.vote with censusSeen := seen } }

theorem censusSeen_eq (s : State) (task slice : Nat) :
    s.censusSeen task slice = (joinModulePass s task slice).voters.foldl (joinPass task slice) (joinModulePass s task slice) :=
  rfl

/-- Joining the passes writes CENSUS_PASSES and PROBATION alone. -/
theorem fget_censusSeen (s : State) (task slice : Nat) (g : Field) (hg : fieldOk g = true) (hp : g.off ≠ R.CENSUS_PASSES)
    (hb : ∀ l, bitsApart g (F.LANE_STATE_PROBATION l) = true) : (s.censusSeen task slice).fget g = s.fget g := by
  have hmodule : (joinModulePass s task slice).fget g = s.fget g := by
    unfold joinModulePass
    dsimp only
    split
    · exact fget_of_reg (reg_fput_other _ F.CENSUS_PASSES_COUNT _ hp)
    · rfl
  rw [censusSeen_eq]
  refine foldl_keeps (P := fun u : State => u.fget g = s.fget g) (fun u l hu => ?_) _ hmodule
  refine Eq.trans ?_ hu
  unfold joinPass
  dsimp only
  split
  · rfl
  · split
    · rw [fget_fput_other _ _ _ _ rfl hg (hb l), fget_setLane]
    · exact fget_setLane u l _ g

theorem laneSt_censusSeen (s : State) (task slice : Nat) (l : Lane) : (s.censusSeen task slice).laneSt l = s.laneSt l :=
  congrArg laneStOf (fget_censusSeen s task slice (F.LANE_STATE_STATE l) rfl (laneState_ne l (by decide)) fun k => by
    simp [bitsApart, F.LANE_STATE_PROBATION, F.LANE_STATE_STATE])

theorem latent_censusSeen (s : State) (task slice : Nat) (l : Lane) :
    (s.censusSeen task slice).flag (F.LANE_STATE_LATENT l) = s.flag (F.LANE_STATE_LATENT l) := by
  simp only [State.flag, fget_censusSeen s task slice (F.LANE_STATE_LATENT l) rfl (laneState_ne l (by decide)) fun k => by
    simp [bitsApart, F.LANE_STATE_PROBATION, F.LANE_STATE_LATENT]]

theorem reg_censusLatent_censusSeen (s : State) (task slice : Nat) :
    (s.censusSeen task slice).reg R.CENSUS_LATENT = s.reg R.CENSUS_LATENT := by
  have hmodule : (joinModulePass s task slice).reg R.CENSUS_LATENT = s.reg R.CENSUS_LATENT := by
    unfold joinModulePass
    dsimp only
    split
    · exact reg_fput_other _ F.CENSUS_PASSES_COUNT _ (by decide)
    · rfl
  rw [censusSeen_eq]
  refine foldl_keeps (P := fun u : State => u.reg R.CENSUS_LATENT = s.reg R.CENSUS_LATENT) (fun u l hu => ?_) _ hmodule
  refine Eq.trans ?_ hu
  unfold joinPass
  dsimp only
  split
  · rfl
  · split
    · rw [reg_fput_other _ (F.LANE_STATE_PROBATION l) _ (laneState_ne l (by decide)).symm, reg_setLane]
    · exact reg_setLane u l _ _

theorem captureCensus_regsOnly (s : State) (odd task slice : Nat) :
    State.RegsOnly [R.CENSUS_CAP] s (s.captureCensus odd task slice) := by
  unfold State.captureCensus
  split
  · exact ⟨rfl, fun _ _ => rfl⟩
  · exact ((((fput_regsOnly s _ _).trans (fput_regsOnly _ _ _)).trans (fput_regsOnly _ _ _)).trans (fput_regsOnly _ _ _)).mono
      (by decide)

/-- A divergence event counted in `f` and captured, before any lane is marked (R60, R70). -/
def divergence (s : State) (f : Field) (odd task slice : Nat) : State := (s.fsat f).captureCensus odd task slice

theorem latentField_off (l : Lane) : (latentField l).off = R.CENSUS_LATENT := by cases l <;> rfl
theorem latentField_ok (l : Lane) : fieldOk (latentField l) = true := by cases l <;> rfl
theorem fieldMax_latentField (l : Lane) : fieldMax (latentField l) = 255 := by cases l <;> rfl

theorem fget_divergence {f : Field} (s : State) (odd task slice : Nat) (hf : f.off = R.CENSUS_LATENT) (hok : fieldOk f = true) :
    (divergence s f odd task slice).fget f = min (s.fget f + 1) (fieldMax f) := by
  obtain ⟨-, hreg⟩ := captureCensus_regsOnly (s.fsat f) odd task slice
  rw [divergence, fget_of_reg (hreg _ (by rw [hf]; decide)), fget_fsat s f hok]

/-- The registers LANE_STATE stay. -/
theorem reg_divergence (s : State) {f : Field} (odd task slice : Nat) (hf : f.off = R.CENSUS_LATENT) (l : Lane) :
    (divergence s f odd task slice).reg (R.LANE_STATE l) = s.reg (R.LANE_STATE l) := by
  obtain ⟨-, hreg⟩ := captureCensus_regsOnly (s.fsat f) odd task slice
  rw [divergence, hreg _ (by rw [List.mem_singleton]; exact laneState_ne l (by decide)),
    reg_fsat_other s f (by rw [hf]; exact laneState_ne l (by decide))]

theorem flag_laneState_divergence (s : State) {f : Field} (odd task slice : Nat) (hf : f.off = R.CENSUS_LATENT) {g : Field}
    {l : Lane} (hg : g.off = R.LANE_STATE l) : (divergence s f odd task slice).flag g = s.flag g := by
  simp only [State.flag, fget_of_reg (f := g) (s := s) (t := divergence s f odd task slice)
    (by rw [hg]; exact reg_divergence s odd task slice hf l)]

theorem voters_divergence (s : State) {f : Field} (odd task slice : Nat) (hf : f.off = R.CENSUS_LATENT) :
    (divergence s f odd task slice).voters = s.voters :=
  voters_of_laneSt fun l => laneSt_of_reg (reg_divergence s odd task slice hf l)

theorem latentEvent_marks {s : State} {l : Lane} (task slice : Nat) (h : ¬ s.flag (F.LANE_STATE_PROBATION l) = true) :
    s.latentEvent l task slice = (divergence s (latentField l) (laneBit l) task slice).fput (F.LANE_STATE_LATENT l) 1 :=
  if_neg (by rw [← divergence, flag_laneState_divergence s _ _ _ (latentField_off l) rfl]; exact h)

theorem latentEvent_excludes {s : State} {l : Lane} (task slice : Nat) (h : s.flag (F.LANE_STATE_PROBATION l) = true) :
    s.latentEvent l task slice = (divergence s (latentField l) (laneBit l) task slice).excludeCheck l .transfer 0 :=
  if_pos (by rw [← divergence, flag_laneState_divergence s _ _ _ (latentField_off l) rfl]; exact h)

theorem latentNoMajority_eq (s : State) (task slice : Nat) :
    s.latentNoMajority task slice = divergence s F.CENSUS_LATENT_NO_MAJ 0 task slice := rfl

/-! ### The outcomes of R60 -/

section

variable (s : State) {h : Lane → CensusHash} (task slice : Nat)

theorem censusOutcome_equal (he : ∀ l, (h l).hash = (h .a).hash) : s.censusOutcome (allLanes.map h) task slice = s := by
  simp [State.censusOutcome, allLanes, he .b, he .c]

theorem censusOutcome_odd {o : Lane} {m : DWord} (hlane : ∀ l, (h l).lane = l) (heq : ∀ l, l ≠ o → (h l).hash = m)
    (hne : (h o).hash ≠ m) : s.censusOutcome (allLanes.map h) task slice = s.latentEvent o task slice := by
  cases o
  case a =>
    have hb := heq .b (by decide); have hc := heq .c (by decide)
    simp [State.censusOutcome, allLanes, hb, hc, hne, hlane]
  case b =>
    have ha := heq .a (by decide); have hc := heq .c (by decide)
    simp [State.censusOutcome, allLanes, ha, hc, hne, hne.symm, hlane]
  case c =>
    have ha := heq .a (by decide); have hb := heq .b (by decide)
    simp [State.censusOutcome, allLanes, ha, hb, hne.symm, hlane]

theorem censusOutcome_different (hne : ∀ k l, k ≠ l → (h k).hash ≠ (h l).hash) :
    s.censusOutcome (allLanes.map h) task slice = s.latentNoMajority task slice := by
  have hab := hne .a .b (by decide); have hac := hne .a .c (by decide); have hbc := hne .b .c (by decide)
  simp [State.censusOutcome, allLanes, hab, hac, hbc]

theorem censusOutcome_two {x y : CensusHash} (hne : x.hash ≠ y.hash) :
    s.censusOutcome [x, y] task slice = s.latentNoMajority task slice := by
  simp [State.censusOutcome, hne]

end

section

variable {s : State} {h : Lane → CensusHash} {task slice exec stamp : Nat}

/-- The comparison of complete hashes of three voting lanes. -/
theorem exec_censusCompare_three (t : Nat) (hv : s.voters = allLanes)
    (hh : ∀ l, s.censusOf l task slice exec stamp = some (h l) ∧ ¬ (h l).abandoned = true) :
    Sys2Proof.Machine.exec (.censusCompare task slice exec stamp t) s =
      .next (((dropCompared (s.tick t) task slice exec stamp).censusOutcome (allLanes.map h) task slice).censusSeen task slice) :=
  exec_censusCompare_complete task slice exec stamp t hv (by simp [allLanes, hh]) (List.length_map _) (by decide)
    fun x hx => by obtain ⟨l, -, rfl⟩ := List.mem_map.mp hx; exact (hh l).2

theorem voters_dropCompared (s : State) (task slice exec stamp t : Nat) :
    (dropCompared (s.tick t) task slice exec stamp).voters = s.voters :=
  voters_of_laneSt (laneSt_of_regs (tick_regs s t))

theorem flag_dropCompared (s : State) (task slice exec stamp t : Nat) (g : Field) :
    (dropCompared (s.tick t) task slice exec stamp).flag g = s.flag g := flag_tick s t g

theorem fget_dropCompared (s : State) (task slice exec stamp t : Nat) (g : Field) :
    (dropCompared (s.tick t) task slice exec stamp).fget g = s.fget g := fget_tick s t g

end

theorem voters_censusSeen (s : State) (task slice : Nat) : (s.censusSeen task slice).voters = s.voters :=
  voters_of_laneSt (laneSt_censusSeen s task slice)

/-- A counter of CENSUS_LATENT after the passes have been joined. -/
theorem latentCount_censusSeen (s : State) (task slice : Nat) {g : Field} (hg : g.off = R.CENSUS_LATENT) :
    (s.censusSeen task slice).fget g = s.fget g :=
  fget_of_reg (by rw [hg]; exact reg_censusLatent_censusSeen s task slice)

/-- No majority: NO_MAJ is counted, and no lane is marked or leaves the vote (R60). -/
theorem noMajority_spec (s : State) (task slice : Nat) : let v := (s.latentNoMajority task slice).censusSeen task slice
    v.fget F.CENSUS_LATENT_NO_MAJ = min (s.fget F.CENSUS_LATENT_NO_MAJ + 1) 255 ∧ v.voters = s.voters ∧
      ∀ l, v.flag (F.LANE_STATE_LATENT l) = s.flag (F.LANE_STATE_LATENT l) := by
  dsimp only
  rw [latentNoMajority_eq]
  refine ⟨?_, ?_, fun l => ?_⟩
  · rw [latentCount_censusSeen _ _ _ rfl, fget_divergence _ _ _ _ rfl rfl]; rfl
  · rw [voters_censusSeen, voters_divergence _ _ _ _ rfl]
  · rw [latent_censusSeen, flag_laneState_divergence _ _ _ _ rfl rfl]

/-- One odd lane without PROBATION: counted and marked LATENT, and no lane leaves the vote (R60). -/
theorem latentMark_spec {s : State} {o : Lane} (task slice : Nat) (hp : ¬ s.flag (F.LANE_STATE_PROBATION o) = true) :
    let v := (s.latentEvent o task slice).censusSeen task slice
    v.fget (latentField o) = min (s.fget (latentField o) + 1) 255 ∧ v.flag (F.LANE_STATE_LATENT o) = true ∧ v.voters = s.voters ∧
      ∀ l, l ≠ o → v.flag (F.LANE_STATE_LATENT l) = s.flag (F.LANE_STATE_LATENT l) := by
  dsimp only
  rw [latentEvent_marks task slice hp]
  have hoff : (latentField o).off ≠ R.LANE_STATE o := by rw [latentField_off]; exact (laneState_ne o (by decide)).symm
  refine ⟨?_, ?_, ?_, fun l hl => ?_⟩
  · rw [latentCount_censusSeen _ _ _ (latentField_off o), fget_of_reg (reg_fput_other _ (F.LANE_STATE_LATENT o) _ hoff),
      fget_divergence _ _ _ _ (latentField_off o) (latentField_ok o), fieldMax_latentField]
  · rw [latent_censusSeen, flag_fput_same _ _ _ rfl]; rfl
  · rw [voters_censusSeen, ← voters_divergence s (laneBit o) task slice (latentField_off o)]
    exact voters_of_laneSt fun l => congrArg laneStOf (fget_fput_other _ _ _ _ rfl rfl (by
      simp [bitsApart, F.LANE_STATE_LATENT, F.LANE_STATE_STATE]))
  · rw [latent_censusSeen, State.flag, fget_of_reg (reg_fput_other _ (F.LANE_STATE_LATENT o) _ fun he => hl (laneState_inj he))]
    exact flag_laneState_divergence s _ _ _ (latentField_off o) rfl

/-- An odd lane with PROBATION leaves the vote with cause TRANSFER (R67). -/
theorem latentExclusion_spec {s : State} {o : Lane} (task slice : Nat) (hv : s.voters = allLanes)
    (hp : s.flag (F.LANE_STATE_PROBATION o) = true) : let v := (s.latentEvent o task slice).censusSeen task slice
    v.laneSt o = .excluded ∧ v.fget (F.LANE_STATE_CAUSE o) = 0xC := by
  have h3 : (divergence s (latentField o) (laneBit o) task slice).voters.length = 3 := by
    rw [voters_divergence _ _ _ _ (latentField_off o), hv]; rfl
  have hex : (divergence s (latentField o) (laneBit o) task slice).excludeCheck o .transfer 0 =
      (divergence s (latentField o) (laneBit o) task slice).exclude o .transfer := by
    have hvoters : ¬ ((divergence s (latentField o) (laneBit o) task slice).exclude o .transfer).voters.length < 2 := by
      rw [voters_exclude, allLanes_of_three h3]; cases o <;> decide
    simp only [State.excludeCheck, excludable_of_voting (isVoting_of_three h3 o), hvoters, decide_false, Bool.not_true,
      Bool.and_false, Bool.false_and, Bool.false_eq_true, if_false]
  dsimp only
  rw [latentEvent_excludes task slice hp, hex]
  refine ⟨(laneSt_censusSeen _ _ _ o).trans (laneSt_exclude _ o .transfer), ?_⟩
  rw [fget_censusSeen _ _ _ (F.LANE_STATE_CAUSE o) rfl (laneState_ne o (by decide)) fun k => by
    simp [bitsApart, F.LANE_STATE_PROBATION, F.LANE_STATE_CAUSE]]
  exact laneCause_exclude _ o .transfer

/-- Settles O11: by the slice that is next, the rounds of the voting lanes, and the outcomes of the comparison. -/
theorem censusHashesAreSentAndCompared : Obligations.CensusHashesAreSentAndCompared := by
  unfold Obligations.CensusHashesAreSentAndCompared
  refine ⟨?cyclic, ?event, ?abandoned, fun s l task slice t ab h => exec_censusSliceHash_refused t h, ?round,
    fun s task t h => exec_censusRoundStart_not h, ?equal, ?odd, ?probation, ?different, ?two⟩
  case cyclic =>
    intro s f r l task slice t hf hr he hv hn hq hi
    obtain ⟨hframe, hmem, hlane⟩ := censusSliceHash_hashed (f := f) (r := r) (slice := slice) t hv fun h => absurd h he
    refine ⟨_, exec_censusSliceHash_hashed t hf hr hv hn hq hi, hframe, ⟨_, hmem, rfl, rfl, rfl, Bool.false_ne_true, he, rfl,
      censusRecord_stamp_cyclic s f l slice false he, rfl⟩, ?_⟩
    have hdone : ∀ (v : State) (n : Nat), v.book r.task = s.book r.task →
        assoc (v.lane l).sliceDone r.task = some ((s.book r.task).execs, n) → v.slicesDone l r.task = n := fun v n hb ha => by
      simp [State.slicesDone, ha, hb]
    rw [passSlice_cyclic slice he, lane_tick, sliceCount_tick, book_tick, slicesDone_tick] at hlane
    refine ⟨by rw [hlane], by rw [hlane]; exact assoc_cellIns_same _ _ _, hdone _ _ ?_ (by
      rw [hlane]; exact assoc_cellIns_same _ _ _)⟩
    rw [hframe]
    exact (book_of_ductus (setLane_ductus (s.tick t) l _) r.task).trans (book_tick s t r.task)
  case event =>
    intro s f r q l task slice t hf hr he hv hround hn hq hi hnow
    have hstamp := censusRecord_stamp_event s f l slice false he hround
    obtain ⟨hframe, hmem, hlane⟩ := censusSliceHash_hashed (f := f) (r := r) (slice := slice) t hv fun _ => by
      rw [hstamp]; exact hnow
    refine ⟨_, exec_censusSliceHash_hashed t hf hr hv hn hq hi, hframe, ⟨_, hmem, rfl, rfl, rfl, Bool.false_ne_true, he, rfl,
      hstamp, rfl⟩, ?_⟩
    rw [passSlice_event slice he, lane_tick] at hlane
    exact ⟨by rw [hlane], by rw [hlane]; exact round_passRound hround⟩
  case abandoned =>
    intro s f r l task slice t hf hr he hv hn
    obtain ⟨hframe, hmem⟩ := sendCensus_held (s := s.tick t) (h := s.censusRecord l f r slice true)
      (by rw [censusRecord_lane, isVoting_tick]; exact hv) (not_roundOver fun h => absurd h he)
      (not_censusLate (by rw [book_tick]; rfl))
    exact ⟨_, exec_censusSliceHash_abandoned t hf hr hv hn, hframe, _, hmem, rfl, rfl, rfl, rfl, rfl⟩
  case round =>
    intro s r task t hr he ht
    obtain ⟨hround, hlane, hreg, hmem⟩ := startRounds_spec s.voters (s.tick t) task t
    have hkeep : ∀ (u : State) (x : VoteState) (l : Lane), ({ u with vote := x } : State).lane l = u.lane l := fun _ _ l => by
      cases l <;> rfl
    refine ⟨_, exec_censusRoundStart_starts hr he ht, fun l hl => ?_, fun l hl => ?_, fun h hh ⟨htask, hrnd, hlt⟩ => ?_, fun a ha => ?_, ?_⟩
    · rw [hkeep]; exact hround l ((mem_voters s l).mpr hl)
    · rw [hkeep, hlane l fun hm => hl ((mem_voters s l).mp hm), lane_tick]
    · simpa [htask, hrnd, hlt] using List.of_mem_filter hh
    · exact (hreg a ha).trans (reg_tick s t a)
    · exact hmem.trans (tick_mem s t)
  case equal =>
    intro s h task slice exec stamp t hv hh he
    refine ⟨_, exec_censusCompare_three t hv hh, ?_⟩
    rw [censusOutcome_equal _ task slice he]
    refine ⟨(reg_censusLatent_censusSeen _ _ _).trans (reg_tick s t _), ?_, fun l => ?_⟩
    · rw [voters_censusSeen, voters_dropCompared, hv]
    · rw [latent_censusSeen, flag_dropCompared]
  case odd =>
    intro s h o m task slice exec stamp t hv hh heq hne hp
    obtain ⟨hcount, hmark, hvoters, hothers⟩ := latentMark_spec (s := dropCompared (s.tick t) task slice exec stamp) (o := o)
      task slice (by rw [flag_dropCompared]; exact hp)
    refine ⟨_, exec_censusCompare_three t hv hh, ?_⟩
    rw [censusOutcome_odd _ task slice (fun l => censusOf_lane (hh l).1) heq hne]
    exact ⟨by rw [hcount, fget_dropCompared], hmark, by rw [hvoters, voters_dropCompared, hv],
      fun l hl => by rw [hothers l hl, flag_dropCompared]⟩
  case probation =>
    intro s h o m task slice exec stamp t hv hh heq hne hp
    refine ⟨_, exec_censusCompare_three t hv hh, ?_⟩
    rw [censusOutcome_odd _ task slice (fun l => censusOf_lane (hh l).1) heq hne]
    exact latentExclusion_spec task slice (by rw [voters_dropCompared, hv]) (by rw [flag_dropCompared]; exact hp)
  case different =>
    intro s h task slice exec stamp t hv hh hne
    obtain ⟨hcount, hvoters, hlatent⟩ := noMajority_spec (dropCompared (s.tick t) task slice exec stamp) task slice
    refine ⟨_, exec_censusCompare_three t hv hh, ?_⟩
    rw [censusOutcome_different _ task slice hne]
    exact ⟨by rw [hcount, fget_dropCompared], by rw [hvoters, voters_dropCompared, hv],
      fun l => by rw [hlatent, flag_dropCompared]⟩
  case two =>
    intro s k l x y task slice exec stamp t hv hx hy hax hay hne
    obtain ⟨hcount, hvoters, hlatent⟩ := noMajority_spec (dropCompared (s.tick t) task slice exec stamp) task slice
    refine ⟨_, exec_censusCompare_complete task slice exec stamp t hv (hs := [x, y]) (by simp [hx, hy]) rfl (Nat.le_refl 2)
      (by simp [hax, hay]), ?_⟩
    rw [censusOutcome_two _ task slice hne]
    exact ⟨by rw [hcount, fget_dropCompared], by rw [hvoters, voters_dropCompared, hv],
      fun l => by rw [hlatent, flag_dropCompared]⟩

end Sys2Proof.Machine
end

section
/-! PROOF. The way of a lane back to the vote (R62 to R68, R144, R173): power cycle, boot, translation, pre-copy, the transfer
seam and the final delta. -/

namespace Sys2Proof.Machine

open State

/-! ### Steps of a lane, continued -/

theorem State.LaneQuiet.laneStep {l : Lane} {offs : List Nat} {s t : State} (h : LaneQuiet l offs s t) :
    State.LaneStep l offs s t := h.1

theorem State.LaneQuiet.lane_other {l k : Lane} {offs : List Nat} {s t : State} (h : LaneQuiet l offs s t) (hk : k ≠ l) :
    t.lane k = s.lane k := h.1.2.1 k hk

/-- A change of the reset controller's memory beside a lane's step. -/
theorem State.LaneStep.withPower {l : Lane} {offs : List Nat} {s t : State} (h : State.LaneStep l offs s t) (p : PowerState) :
    State.LaneStep l offs { s with power := p } { t with power := p } := by
  obtain ⟨hframe, hlane, hreg, hmem⟩ := h
  have hl : ∀ (u : State) k, ({ u with power := p } : State).lane k = u.lane k := fun _ k => by cases k <;> rfl
  refine ⟨?_, fun k hk => by rw [hl, hl]; exact hlane k hk, hreg, hmem⟩
  conv_lhs => rw [hframe]

/-! ### Power domains -/

/-- The domains that are on, with domain `c` switched. -/
def switchOn (w c : Nat) (on : Bool) : Nat :=
  w - (if natBit w (c - 1) then 2 ^ (c - 1) else 0) + (if on then 2 ^ (c - 1) else 0)

theorem testBit_switchOn (w c : Nat) (on : Bool) : (switchOn w c on).testBit (c - 1) = on := by
  have hpos : 0 < 2 ^ (c - 1) := Nat.two_pow_pos _
  have hclear : (w - (if natBit w (c - 1) then 2 ^ (c - 1) else 0)) / 2 ^ (c - 1) % 2 = 0 := by
    by_cases hb : natBit w (c - 1) = true
    · have hbit : w / 2 ^ (c - 1) % 2 = 1 := by simpa [natBit, Nat.testBit_eq_decide_div_mod_eq] using hb
      have hdiv := Nat.sub_mul_div w (2 ^ (c - 1)) 1
      rw [Nat.mul_one] at hdiv
      rw [if_pos hb, hdiv]
      omega
    · have hbit : ¬ w / 2 ^ (c - 1) % 2 = 1 := by simpa [natBit, Nat.testBit_eq_decide_div_mod_eq] using hb
      rw [if_neg hb, Nat.sub_zero]
      omega
  rw [switchOn, Nat.testBit_eq_decide_div_mod_eq]
  cases on
  · simp only [Bool.false_eq_true, if_false, Nat.add_zero, hclear]; rfl
  · rw [if_pos rfl, Nat.add_div_right _ hpos]
    simp only [decide_eq_true_eq]
    omega

theorem setPower_regs (s : State) (c : Nat) (on : Bool) :
    (s.setPower c on).regs = (s.fput F.RPC_PD_STAT_ON (switchOn (s.fget F.RPC_PD_STAT_ON) c on)).regs := by
  cases on <;> rfl

theorem powered_setPower (s : State) {c : Nat} (on : Bool) (hc : c ≤ 10) : (s.setPower c on).powered c = on := by
  have hwidth : c - 1 < 10 := by omega
  rw [State.powered, fget_of_regs (setPower_regs s c on), fget_fput_same _ _ _ rfl, natBit]
  exact (Nat.testBit_mod_two_pow _ 10 _).trans (by rw [testBit_switchOn]; simp [hwidth])

theorem powered_of_reg {s t : State} (h : t.reg R.RPC_PD_STAT = s.reg R.RPC_PD_STAT) (c : Nat) : t.powered c = s.powered c := by
  simp only [State.powered, fget_of_reg (f := F.RPC_PD_STAT_ON) h]

theorem laneQuiet_fabricLatches {l : Lane} {offs : List Nat} {s : State} (f : Fabric) (xs : List Latch) :
    LaneQuiet l offs s { s with fabric := f, latches := xs } :=
  ⟨⟨rfl, fun k _ => by cases k <;> rfl, fun _ _ => rfl, fun _ _ => rfl⟩, rfl, rfl⟩

theorem laneQuiet_setPower {l : Lane} {offs : List Nat} (s : State) (c : Nat) (on : Bool) (h : R.RPC_PD_STAT ∈ offs) :
    LaneQuiet l offs s (s.setPower c on) := by
  have hput := laneQuiet_fput (s := s) F.RPC_PD_STAT_ON (switchOn (s.fget F.RPC_PD_STAT_ON) c on)
    (List.mem_append_right (stateRegs l) h)
  cases on
  · exact hput.trans (laneQuiet_fabricLatches _ _)
  · exact hput.trans (laneQuiet_fabric _)

@[simp] theorem setPower_lane (s : State) (c : Nat) (on : Bool) (k : Lane) : (s.setPower c on).lane k = s.lane k := by
  cases on <;> cases k <;> rfl

@[simp] theorem setPower_power (s : State) (c : Nat) (on : Bool) : (s.setPower c on).power = s.power := by
  cases on <;> rfl

@[simp] theorem setPower_mono (s : State) (c : Nat) (on : Bool) : (s.setPower c on).mono = s.mono := by
  cases on <;> rfl

theorem reg_setPower_other (s : State) (c : Nat) (on : Bool) {a : Nat} (h : a ≠ R.RPC_PD_STAT) :
    (s.setPower c on).reg a = s.reg a := by
  have hput := reg_fput_other s F.RPC_PD_STAT_ON (switchOn (s.fget F.RPC_PD_STAT_ON) c on) h
  simp only [State.reg, setPower_regs] at hput ⊢
  exact hput

theorem pdStat_reports (l : Lane) : R.RPC_PD_STAT ∉ stateRegs l :=
  not_mem_stateRegs (by decide) (by decide) (by decide) (by decide)

/-- Registers of a lane beside LANE_STATE report no change of its state. -/
theorem laneReg_reports {l : Lane} {a : Nat} (h : 0x200000 ≤ a) (hne : a ≠ R.LANE_STATE l) : a ∉ stateRegs l := by
  simp only [stateRegs, List.mem_cons, List.not_mem_nil, or_false, not_or]
  refine ⟨hne, ?_, ?_, ?_⟩ <;> rintro rfl <;> exact absurd h (by decide)

theorem powered_setLaneSt (s : State) (l : Lane) (st : LaneSt) (c : Nat) : (s.setLaneSt l st).powered c = s.powered c :=
  powered_of_reg (reg_setLaneSt_other s l st (pdStat_reports l)) c

/-! ### Exclusion to power cycle or OUT_LIMIT (R62, R68) -/

theorem laneOff_lane (s : State) (l : Lane) : (s.laneOff l).lane l = laneOffState (s.lane l) s.mono := by
  rw [State.laneOff, setPower_lane, lane_setReg, lane_setLane_same]

theorem laneOff_mono (s : State) (l : Lane) : (s.laneOff l).mono = s.mono := by
  rw [State.laneOff, setPower_mono, setReg_mono, setLane_mono]

theorem laneQuiet_laneOff {l : Lane} {offs : List Nat} (s : State) (hp : R.RPC_PD_STAT ∈ offs) (hs : R.LANE_STOP l ∈ offs) :
    LaneQuiet l offs s (s.laneOff l) :=
  ((laneQuiet_setLane _).trans (laneQuiet_setReg _ _ (List.mem_append_right _ hs))).trans (laneQuiet_setPower _ _ _ hp)

theorem pdLane_le (l : Lane) : pdLane l ≤ 10 := by cases l <;> decide

theorem laneOff_powered (s : State) (l : Lane) : (s.laneOff l).powered (pdLane l) = false :=
  powered_setPower _ false (pdLane_le l)

theorem laneStop_ne (l : Lane) : R.LANE_STOP l ≠ R.RPC_PD_STAT := by unfold R.LANE_STOP R.RPC_PD_STAT; omega

theorem laneReint_ne (l : Lane) : R.LANE_REINT l ≠ R.RPC_PD_STAT ∧ R.LANE_REINT l ≠ R.LANE_STOP l := by
  unfold R.LANE_REINT R.LANE_STOP R.RPC_PD_STAT; omega

theorem laneStop_ne_state (l : Lane) : R.LANE_STOP l ≠ R.LANE_STATE l := by unfold R.LANE_STOP R.LANE_STATE; omega

theorem laneOff_stop (s : State) (l : Lane) : (s.laneOff l).reg (R.LANE_STOP l) = 0 := by
  rw [State.laneOff, reg_setPower_other _ _ _ (laneStop_ne l), reg_setReg_same]

/-- The lane's registers and memory of attempts before it enters POWER_CYCLE. -/
def countAttempt (s : State) (l : Lane) : State :=
  (((s.setLane l { s.lane l with attempts := (s.lane l).attempts ++ [s.mono] }).showAttempts l).fsat
    (F.LANE_REINT_ATTEMPTS l)).fput (F.LANE_STATE_LIMIT l) 0

theorem enterPowerCycle_eq (s : State) (l : Lane) :
    s.enterPowerCycle l = (countAttempt (s.laneOff l) l).setLaneSt l .powerCycle := rfl

theorem countAttempt_lane (s : State) (l : Lane) :
    (countAttempt s l).lane l = { s.lane l with attempts := (s.lane l).attempts ++ [s.mono] } := by
  rw [countAttempt, lane_fput, lane_fsat, State.showAttempts, State.fputSat, lane_fput, lane_setLane_same]

theorem laneQuiet_countAttempt {l : Lane} {offs : List Nat} (s : State) (h : R.LANE_REINT l ∈ offs) :
    LaneQuiet l offs s (countAttempt s l) :=
  (((laneQuiet_setLane _).trans (laneQuiet_state (F.LANE_STATE_REINT_24H l) _ rfl)).trans
    (laneQuiet_fput (F.LANE_REINT_ATTEMPTS l) _ (List.mem_append_right _ h))).trans (laneQuiet_state (F.LANE_STATE_LIMIT l) _ rfl)

/-- Registers other than LANE_STATE and LANE_REINT stay. -/
theorem reg_countAttempt_other (s : State) (l : Lane) {a : Nat} (hst : a ≠ R.LANE_STATE l) (hre : a ≠ R.LANE_REINT l) :
    (countAttempt s l).reg a = s.reg a := by
  rw [countAttempt, reg_fput_other _ (F.LANE_STATE_LIMIT l) _ hst, reg_fsat_other _ (F.LANE_REINT_ATTEMPTS l) hre,
    State.showAttempts, State.fputSat, reg_fput_other _ (F.LANE_STATE_REINT_24H l) _ hst, reg_setLane]

theorem fget_countAttempt (s : State) (l : Lane) :
    (countAttempt s l).fget (F.LANE_REINT_ATTEMPTS l) = min (s.fget (F.LANE_REINT_ATTEMPTS l) + 1) 0x3FFF := by
  have hne : R.LANE_REINT l ≠ R.LANE_STATE l := by unfold R.LANE_REINT R.LANE_STATE; omega
  rw [countAttempt, fget_of_reg (reg_fput_other _ (F.LANE_STATE_LIMIT l) _ hne), fget_fsat _ _ rfl, State.showAttempts,
    State.fputSat, fget_of_reg (reg_fput_other _ (F.LANE_STATE_REINT_24H l) _ hne), fget_setLane]
  rfl

section

variable {s : State} {l : Lane} {t : Nat} (hst : s.laneSt l = .excluded)
  (hwait : (s.lane l).exclAt + 1000000 ≤ (s.tick t).mono)

@[simp] theorem laneSt_tick (s : State) (t : Nat) (l : Lane) : (s.tick t).laneSt l = s.laneSt l :=
  laneSt_of_regs (tick_regs s t) l

include hst hwait

theorem exec_laneExcludedTimeout_permitted (h : (s.tick t).reintPermitted l = true) :
    exec (.laneExcludedTimeout l t) s = .next ((s.tick t).enterPowerCycle l) := by
  have hwait' : ¬ (s.tick t).mono < (s.lane l).exclAt + 1000000 := Nat.not_lt.mpr hwait
  simp [exec, execLaneExcludedTimeout, hst, hwait', h]

theorem exec_laneExcludedTimeout_limit (h : ¬ (s.tick t).reintPermitted l = true) :
    exec (.laneExcludedTimeout l t) s =
      .next ((((s.tick t).laneOff l).fput (F.LANE_STATE_LIMIT l) 1).setLaneSt l .outLimit) := by
  have hwait' : ¬ (s.tick t).mono < (s.lane l).exclAt + 1000000 := Nat.not_lt.mpr hwait
  simp [exec, execLaneExcludedTimeout, hst, hwait', h]

end

/-- A lane enters POWER_CYCLE: its domain is off and one more attempt counts (R62, R68). -/
theorem enterPowerCycle_spec (u : State) (l : Lane) :
    (u.enterPowerCycle l).laneSt l = .powerCycle ∧ ¬ (u.enterPowerCycle l).powered (pdLane l) = true ∧
      ((u.enterPowerCycle l).lane l).attempts = (u.lane l).attempts ++ [u.mono] ∧
      (u.enterPowerCycle l).fget (F.LANE_REINT_ATTEMPTS l) = min (u.fget (F.LANE_REINT_ATTEMPTS l) + 1) 0x3FFF ∧
      (u.enterPowerCycle l).reg (R.LANE_STOP l) = 0 ∧
      State.LaneStep l [R.LANE_REINT l, R.RPC_PD_STAT, R.LANE_STOP l] u (u.enterPowerCycle l) := by
  have hreint : R.LANE_REINT l ∉ stateRegs l := laneReg_reports (by unfold R.LANE_REINT; omega) (by
    unfold R.LANE_REINT R.LANE_STATE; omega)
  have hstop : R.LANE_STOP l ∉ stateRegs l := laneReg_reports (by unfold R.LANE_STOP; omega) (by
    unfold R.LANE_STOP R.LANE_STATE; omega)
  rw [enterPowerCycle_eq]
  refine ⟨by rw [laneSt_setLaneSt, if_pos rfl], ?_, ?_, ?_, ?_, ?_⟩
  · have hpd : (countAttempt (u.laneOff l) l).powered (pdLane l) = (u.laneOff l).powered (pdLane l) :=
      powered_of_reg (reg_countAttempt_other _ l (laneState_ne l (by decide)).symm (by
        unfold R.LANE_REINT R.RPC_PD_STAT; omega)) _
    rw [powered_setLaneSt, hpd, laneOff_powered]
    exact Bool.false_ne_true
  · rw [setLaneSt_lane, countAttempt_lane, laneOff_lane, laneOff_mono]
    rfl
  · rw [fget_of_reg (reg_setLaneSt_other _ l _ hreint), fget_countAttempt]
    refine congrArg (fun n => min (n + 1) 0x3FFF) (fget_of_reg ?_)
    rw [State.laneOff, reg_setPower_other (a := (F.LANE_REINT_ATTEMPTS l).off) _ _ _ (laneReint_ne l).1,
      reg_setReg_other (b := (F.LANE_REINT_ATTEMPTS l).off) _ _ (laneReint_ne l).2, reg_setLane]
  · rw [reg_setLaneSt_other _ l _ hstop, reg_countAttempt_other _ l (by unfold R.LANE_STOP R.LANE_STATE; omega)
      (by unfold R.LANE_STOP R.LANE_REINT; omega), laneOff_stop]
  · exact ((laneQuiet_laneOff u (by simp) (by simp)).trans (laneQuiet_countAttempt _ (by simp))).then
      (laneStep_setLaneSt _ l .powerCycle _)

/-- A lane beyond the limit enters OUT_LIMIT, its domain off (R68). -/
theorem outLimit_spec (u : State) (l : Lane) : let v := ((u.laneOff l).fput (F.LANE_STATE_LIMIT l) 1).setLaneSt l .outLimit
    v.laneSt l = .outLimit ∧ ¬ v.powered (pdLane l) = true ∧ v.flag (F.LANE_STATE_LIMIT l) = true ∧
      v.reg (R.LANE_STOP l) = 0 ∧ State.LaneStep l [R.RPC_PD_STAT, R.LANE_STOP l] u v := by
  have hstop : R.LANE_STOP l ∉ stateRegs l := laneReg_reports (by unfold R.LANE_STOP; omega) (by
    unfold R.LANE_STOP R.LANE_STATE; omega)
  dsimp only
  refine ⟨by rw [laneSt_setLaneSt, if_pos rfl], ?_, ?_, ?_, ?_⟩
  · have hpd : ((u.laneOff l).fput (F.LANE_STATE_LIMIT l) 1).powered (pdLane l) = (u.laneOff l).powered (pdLane l) :=
      powered_of_reg (reg_fput_other _ (F.LANE_STATE_LIMIT l) _ (laneState_ne l (by decide)).symm) _
    rw [powered_setLaneSt, hpd, laneOff_powered]
    exact Bool.false_ne_true
  · rw [State.flag, fget_setLaneSt _ _ _ rfl, fget_fput_other _ _ _ _ rfl rfl (by
      simp [bitsApart, F.LANE_STATE_LIMIT, F.LANE_STATE_STATE]), fget_fput_same _ _ _ rfl]
    rfl
  · rw [reg_setLaneSt_other _ l _ hstop, reg_fput_other _ (F.LANE_STATE_LIMIT l) _ (laneStop_ne_state l), laneOff_stop]
  · exact ((laneQuiet_laneOff u (by simp) (by simp)).trans (laneQuiet_state (F.LANE_STATE_LIMIT l) _ rfl)).then
      (laneStep_setLaneSt _ l .outLimit _)

/-! ### Boot (R62, R488) -/

section

variable {s : State} {l : Lane} {t : Nat} (hst : s.laneSt l = .powerCycle) (hoff : (s.lane l).offAt + 10000000 ≤ (s.tick t).mono)

include hst hoff

theorem exec_lanePowerCycleDone_on (h : (s.tick t).maySwitch = true) :
    exec (.lanePowerCycleDone l t) s = .next ((s.tick t).bootLane l) := by
  simp [exec, execLanePowerCycleDone, hst, hoff, h]

end

theorem exec_lanePowerCycleDone_waits {s : State} {l : Lane} {t : Nat} (h : ¬ (s.tick t).maySwitch = true) :
    exec (.lanePowerCycleDone l t) s = .next (s.tick t) := by
  simp [exec, execLanePowerCycleDone, h]

/-- A lane whose domain comes on: the state before its stop supervisor measures anew. -/
def bootOn (s : State) (l : Lane) : State := (s.setPower (pdLane l) true).setLaneSt l .booting

theorem bootLane_eq (s : State) (l : Lane) :
    s.bootLane l = ({ bootOn s l with power := { (bootOn s l).power with lastOn := (bootOn s l).mono } } : State).setLane l
      { ({ bootOn s l with power := { (bootOn s l).power with lastOn := (bootOn s l).mono } } : State).lane l with
        stop := { stopReset with since := (bootOn s l).mono } } := rfl

theorem bootLane_regs (s : State) (l : Lane) : (s.bootLane l).regs = (bootOn s l).regs := by
  rw [bootLane_eq, setLane_regs]

theorem bootLane_spec (u : State) (l : Lane) :
    (u.bootLane l).laneSt l = .booting ∧ (u.bootLane l).powered (pdLane l) = true ∧
      (u.bootLane l).power = { u.power with lastOn := u.mono } ∧
      State.LaneStep l [R.RPC_PD_STAT] { u with power := (u.bootLane l).power } (u.bootLane l) := by
  have hmono : (bootOn u l).mono = u.mono := by rw [bootOn, setLaneSt_mono, setPower_mono]
  have hpower : (bootOn u l).power = u.power := by rw [bootOn, setLaneSt_power, setPower_power]
  have hboot : (u.bootLane l).power = { u.power with lastOn := u.mono } := by
    rw [bootLane_eq, setLane_power, hmono, hpower]
  have hon : State.LaneStep l [R.RPC_PD_STAT] u (bootOn u l) :=
    (laneQuiet_setPower u _ _ (by simp)).then (laneStep_setLaneSt _ l .booting _)
  refine ⟨?_, ?_, hboot, ?_⟩
  · rw [laneSt_of_regs (bootLane_regs u l), bootOn, laneSt_setLaneSt, if_pos rfl]
  · rw [State.powered, fget_of_regs (bootLane_regs u l)]
    exact (powered_setLaneSt _ l .booting _).trans (powered_setPower u true (pdLane_le l))
  · rw [hboot, bootLane_eq, hmono, hpower]
    exact (hon.withPower _).then_quiet (laneQuiet_setLane _)

/-- A booted lane's pairs: their proof interval starts (R38, R62). -/
def bootedPair (now : Nat) : Pair := { pairReset with proofAt := now, dueAt := now }

theorem exec_laneBootComplete_passed {s : State} {l : Lane} (t : Nat) (h : s.laneSt l = .booting) :
    exec (.laneBootComplete l true t) s = .next ((((s.tick t).setLane l { s.lane l with
      ep0 := bootedPair (s.tick t).mono, ep1 := bootedPair (s.tick t).mono }).report (pdLane l)).setLaneSt l .translating) := by
  simp only [exec, execLaneBootComplete, laneSt_tick, h, lane_tick] <;> rfl

theorem exec_laneBootComplete_failed {s : State} {l : Lane} (t : Nat) (h : s.laneSt l = .booting) :
    exec (.laneBootComplete l false t) s = .next ((s.tick t).excludeCheck l .startCheck 0) := by
  simp only [exec, execLaneBootComplete, laneSt_tick, h] <;> rfl

theorem report_lane_eq (s : State) (c : Nat) (l : Lane) : (s.report c).lane l = s.lane l := by cases l <;> rfl

/-- A lane that is not voting is excluded alone: the vote goes on as it was (R62). -/
theorem excludeCheck_not_voting {s : State} {l : Lane} (cause : LaneCause) (task : Nat) (hx : s.excludable l = true)
    (hv : ¬ s.isVoting l = true) : s.excludeCheck l cause task = s.exclude l cause := by
  simp [State.excludeCheck, hx, hv]

theorem excludable_of_laneSt {s : State} {l : Lane} {st : LaneSt} (h : s.laneSt l = st)
    (hst : st = .booting ∨ st = .translating ∨ st = .ready ∨ st = .transfer) :
    s.excludable l = true ∧ ¬ s.isVoting l = true := by
  obtain rfl | rfl | rfl | rfl := hst <;> simp [State.excludable, State.isVoting, h]

/-! ### Translation (R62, R144, R173) -/

theorem laneQuiet_showVerify {l : Lane} {offs : List Nat} (s : State) (f : Folio) (hs : R.LANE_VERIFY_STAT l ∈ offs)
    (hw : R.LANE_VERIFY_WORD l ∈ offs) : LaneQuiet l offs s (s.showVerify f l) := by
  have hstat : ∀ (u : State) (g : Field) (v : Nat), g.off = R.LANE_VERIFY_STAT l → LaneQuiet l offs u (u.fput g v) :=
    fun u g v hg => laneQuiet_fput g v (List.mem_append_right _ (hg ▸ hs))
  have hword : ∀ (u : State) (v : Nat), LaneQuiet l offs u (u.fput (F.LANE_VERIFY_WORD_WORD l) v) :=
    fun u v => laneQuiet_fput _ v (List.mem_append_right _ hw)
  unfold State.showVerify
  split <;> exact (((hstat _ _ _ rfl).trans (hstat _ _ _ rfl)).trans (hstat _ _ _ rfl)).trans (hword _ _)

theorem flag_showVerify (s : State) (f : Folio) (l : Lane) :
    (s.showVerify f l).flag (F.LANE_VERIFY_STAT_REFUSED l) = (verifyFolio f).isSome := by
  have hword : R.LANE_VERIFY_STAT l ≠ R.LANE_VERIFY_WORD l := by unfold R.LANE_VERIFY_STAT R.LANE_VERIFY_WORD; omega
  have hfirst : ∀ v task rule w, ((((s.fput (F.LANE_VERIFY_STAT_REFUSED l) v).fput (F.LANE_VERIFY_STAT_TASK l) task).fput
      (F.LANE_VERIFY_STAT_RULE l) rule).fput (F.LANE_VERIFY_WORD_WORD l) w).fget (F.LANE_VERIFY_STAT_REFUSED l) = v % 2 :=
    fun v task rule w => by
      rw [fget_of_reg (reg_fput_other _ (F.LANE_VERIFY_WORD_WORD l) _ hword), fget_fput_other _ _ _ _ rfl rfl (by
        simp [bitsApart, F.LANE_VERIFY_STAT_REFUSED, F.LANE_VERIFY_STAT_RULE]), fget_fput_other _ _ _ _ rfl rfl (by
        simp [bitsApart, F.LANE_VERIFY_STAT_REFUSED, F.LANE_VERIFY_STAT_TASK]), fget_fput_same _ _ _ rfl]
      rfl
  unfold State.showVerify
  split
  · rename_i h
    rw [State.flag, hfirst, h]; rfl
  · rename_i h
    rw [State.flag, hfirst, h]; rfl

theorem showVerify_frame (s : State) (f : Folio) (l : Lane) : s.showVerify f l = { s with regs := (s.showVerify f l).regs } := by
  unfold State.showVerify
  split <;> rfl

theorem reg_showVerify_other (s : State) (f : Folio) (l : Lane) {a : Nat} (hs : a ≠ R.LANE_VERIFY_STAT l)
    (hw : a ≠ R.LANE_VERIFY_WORD l) : (s.showVerify f l).reg a = s.reg a := by
  have hput : ∀ (v t r w : Nat), ((((s.fput (F.LANE_VERIFY_STAT_REFUSED l) v).fput (F.LANE_VERIFY_STAT_TASK l) t).fput
      (F.LANE_VERIFY_STAT_RULE l) r).fput (F.LANE_VERIFY_WORD_WORD l) w).reg a = s.reg a := fun v t r w => by
    rw [reg_fput_other _ (F.LANE_VERIFY_WORD_WORD l) _ hw, reg_fput_other _ (F.LANE_VERIFY_STAT_RULE l) _ hs,
      reg_fput_other _ (F.LANE_VERIFY_STAT_TASK l) _ hs, reg_fput_other _ (F.LANE_VERIFY_STAT_REFUSED l) _ hs]
  unfold State.showVerify
  split <;> exact hput _ _ _ _

/-- What a lane in READY receives changes the fabric and its staging buffers alone (R314). -/
theorem tgiReady_spec (s : State) (l : Lane) (offs : List Nat) : LaneQuiet l offs s (s.tgiReady l) ∧
    (s.tgiReady l).regs = s.regs ∧ (s.tgiReady l).lane l = { s.lane l with staged := ((s.tgiReady l).lane l).staged } := by
  have hsend : ∀ (u : State) (i : Nat) (d : TgeDelivery), LaneQuiet l offs u (u.sendTgi i d l) ∧
      (u.sendTgi i d l).regs = u.regs ∧ (u.sendTgi i d l).lane l = { u.lane l with staged := ((u.sendTgi i d l).lane l).staged } := by
    intro u i d
    unfold State.sendTgi
    dsimp only
    refine ⟨LaneQuiet.trans ?_ (laneQuiet_setLane _), ?_, ?_⟩
    · rw [sendUnits_frame]; exact laneQuiet_fabric _
    · rw [setLane_regs, sendUnits_regs]
    · rw [lane_setLane_same, sendUnits_lane]; rfl
  unfold State.tgiReady
  dsimp only
  refine foldl_keeps (P := fun u : State => LaneQuiet l offs s u ∧ u.regs = s.regs ∧
    u.lane l = { s.lane l with staged := (u.lane l).staged }) (fun u e hu => ?_) _
    ⟨laneQuiet_setLane _, setLane_regs s l _, by rw [lane_setLane_same]⟩
  obtain ⟨hquiet, hregs, hlane⟩ := hu
  split
  · split
    · exact ⟨hquiet, hregs, hlane⟩
    · obtain ⟨hquiet', hregs', hlane'⟩ := hsend u e.index { (_ : TgeDelivery) with hasData := true, arrival := false }
      exact ⟨hquiet.trans hquiet', hregs'.trans hregs, by rw [hlane', hlane]⟩
  · exact ⟨hquiet, hregs, hlane⟩

/-- The lane that becomes READY, before its state changes (R63, R65). -/
def readyLane (s : State) (l : Lane) : LaneState :=
  { s.lane l with readyAt := s.now, passes := 0, copying := s.firstPass, rewritten := [] }

theorem laneReady_eq (s : State) (l : Lane) : s.laneReady l = ((s.setLane l (readyLane s l)).setLaneSt l .ready).tgiReady l := rfl

/-- A lane becomes READY (R62, R65). -/
theorem laneReady_spec (s : State) (l : Lane) (offs : List Nat) : (s.laneReady l).laneSt l = .ready ∧
    ((s.laneReady l).lane l).xlatHash = (s.lane l).xlatHash ∧ ((s.laneReady l).lane l).passes = 0 ∧
    (∀ a, a ∉ stateRegs l → (s.laneReady l).reg a = s.reg a) ∧ State.LaneStep l offs s (s.laneReady l) := by
  obtain ⟨hquiet, hregs, hlane⟩ := tgiReady_spec ((s.setLane l (readyLane s l)).setLaneSt l .ready) l offs
  have hstaged : ((s.laneReady l).lane l).xlatHash = (readyLane s l).xlatHash ∧ ((s.laneReady l).lane l).passes = (readyLane s l).passes := by
    rw [laneReady_eq, hlane, setLaneSt_lane, lane_setLane_same]
    exact ⟨rfl, rfl⟩
  refine ⟨?_, hstaged.1, hstaged.2, fun a ha => ?_, ?_⟩
  · rw [laneReady_eq, laneSt_of_regs hregs, laneSt_setLaneSt, if_pos rfl]
  · rw [laneReady_eq]
    have hreg : (((s.setLane l (readyLane s l)).setLaneSt l .ready).tgiReady l).reg a =
        ((s.setLane l (readyLane s l)).setLaneSt l .ready).reg a := by simp only [State.reg, hregs]
    rw [hreg, reg_setLaneSt_other _ l _ ha, reg_setLane]
  · exact ((laneQuiet_setLane _).then (laneStep_setLaneSt _ l .ready _)).then_quiet hquiet

@[simp] theorem imageHash_tick (s : State) (t : Nat) (f : Folio) (l : Lane) : (s.tick t).imageHash f l = s.imageHash f l := by
  simp only [State.imageHash, State.laneFirmware, tick_vellum]

/-- The state of a lane that has translated a folio to an image with hash `h`, before it is READY (R173). -/
def translated (s : State) (f : Folio) (l : Lane) (h : DWord) : State :=
  ((s.showVerify f l).setLane l { s.lane l with xlatHash := some h }).showHash l h

/-- The hash that a completed translation is compared with: none while the vote is off (R173). -/
def keptHash (s : State) (l : Lane) : Option DWord := if s.flag F.VOTE_CTRL_EN then (s.lane l).xlatHash else none

theorem exec_laneTranslationComplete_folio {s : State} {l : Lane} {f : Folio} (bad : Option DWord) (t : Nat)
    (hst : s.laneSt l = .translating) (hf : s.folio.running = some f) :
    exec (.laneTranslationComplete l bad t) s =
      if (keptHash s l).isSome && keptHash s l != some (bad.getD (s.imageHash f l)) then
        .next (((s.tick t).showVerify f l).excludeCheck l .startCheck 0)
      else .next ((translated (s.tick t) f l (bad.getD (s.imageHash f l))).laneReady l) := by
  have hen : ((s.tick t).showVerify f l).flag F.VOTE_CTRL_EN = s.flag F.VOTE_CTRL_EN := by
    have hreg := reg_showVerify_other (s.tick t) f l (a := R.VOTE_CTRL) (by unfold R.VOTE_CTRL R.LANE_VERIFY_STAT; omega)
      (by unfold R.VOTE_CTRL R.LANE_VERIFY_WORD; omega)
    simp only [State.flag, fget_of_reg (f := F.VOTE_CTRL_EN) hreg, fget_tick]
  have hlane : ((s.tick t).showVerify f l).lane l = s.lane l := by
    rw [showVerify_frame, ← lane_tick s t l]; cases l <;> rfl
  simp only [exec, execLaneTranslationComplete, laneSt_tick, hst, tick_folio, hf, imageHash_tick, hen, hlane, keptHash, translated, lane_tick] <;> rfl

theorem exec_laneTranslationComplete_none {s : State} {l : Lane} (bad : Option DWord) (t : Nat)
    (hst : s.laneSt l = .translating) (hf : s.folio.running = none) :
    exec (.laneTranslationComplete l bad t) s = .next ((s.tick t).laneReady l) := by
  simp only [exec, execLaneTranslationComplete, laneSt_tick, hst, tick_folio, hf] <;> rfl

theorem xlatRegs_report (l : Lane) : R.LANE_XLAT_HASH_LO l ∉ stateRegs l ∧ R.LANE_XLAT_HASH_HI l ∉ stateRegs l ∧
    R.LANE_VERIFY_STAT l ∉ stateRegs l := by
  refine ⟨laneReg_reports ?_ ?_, laneReg_reports ?_ ?_, laneReg_reports ?_ ?_⟩ <;>
    (simp only [R.LANE_XLAT_HASH_LO, R.LANE_XLAT_HASH_HI, R.LANE_VERIFY_STAT, R.LANE_STATE]; omega)

theorem xlatRegs_apart (l : Lane) : R.LANE_XLAT_HASH_LO l ≠ R.LANE_XLAT_HASH_HI l ∧
    R.LANE_VERIFY_STAT l ≠ R.LANE_XLAT_HASH_LO l ∧ R.LANE_VERIFY_STAT l ≠ R.LANE_XLAT_HASH_HI l := by
  simp only [R.LANE_XLAT_HASH_LO, R.LANE_XLAT_HASH_HI, R.LANE_VERIFY_STAT]
  omega

theorem translated_spec (s : State) (f : Folio) (l : Lane) (h : DWord) :
    ((translated s f l h).lane l).xlatHash = some h ∧
      (translated s f l h).fget (F.LANE_XLAT_HASH_LO_HASH l) + 2 ^ 32 * (translated s f l h).fget (F.LANE_XLAT_HASH_HI_HASH l) =
        h.toNat ∧
      (translated s f l h).flag (F.LANE_VERIFY_STAT_REFUSED l) = (verifyFolio f).isSome ∧
      LaneQuiet l [R.LANE_XLAT_HASH_LO l, R.LANE_XLAT_HASH_HI l, R.LANE_VERIFY_STAT l, R.LANE_VERIFY_WORD l] s
        (translated s f l h) := by
  obtain ⟨hlohi, hstlo, hsthi⟩ := xlatRegs_apart l
  refine ⟨?_, ?_, ?_, ?_⟩
  · rw [translated, State.showHash, lane_fput, lane_fput, lane_setLane_same]
  · have hlt : h.toNat < 2 ^ 64 := h.isLt
    rw [translated, State.showHash, fget_of_reg (reg_fput_other _ (F.LANE_XLAT_HASH_HI_HASH l) _ hlohi),
      fget_fput_same _ _ _ rfl, fget_fput_same _ _ _ rfl]
    simp only [F.LANE_XLAT_HASH_LO_HASH, F.LANE_XLAT_HASH_HI_HASH]
    omega
  · rw [translated, State.showHash, State.flag, fget_of_reg (reg_fput_other _ (F.LANE_XLAT_HASH_HI_HASH l) _ hsthi),
      fget_of_reg (reg_fput_other _ (F.LANE_XLAT_HASH_LO_HASH l) _ hstlo), fget_setLane]
    exact flag_showVerify s f l
  · exact (((laneQuiet_showVerify s f (by simp) (by simp)).trans (laneQuiet_setLane _)).trans
      (laneQuiet_fput _ _ (List.mem_append_right _ (by simp [F.LANE_XLAT_HASH_LO_HASH])))).trans
      (laneQuiet_fput _ _ (List.mem_append_right _ (by simp [F.LANE_XLAT_HASH_HI_HASH])))

/-! ### Pre-copy (R64) -/

theorem setLane_setLane (s : State) (l : Lane) (x y : LaneState) : (s.setLane l x).setLane l y = s.setLane l y := by
  cases l <;> rfl

@[simp] theorem xferSource_tick (s : State) (t : Nat) : (s.tick t).xferSource = s.xferSource := by
  simp only [State.xferSource, voters_tick]

/-- The lane after a pre-copy pass that has left it with memory `m` (R64). -/
def passedLane (x : LaneState) (m : List Host.Cell) : LaneState :=
  { x with mem := m, passes := x.passes + 1, copying := x.rewritten, rewritten := [] }

theorem exec_precopyPassComplete_copies {s : State} {l src : Lane} {f : Folio} (t : Nat) (hst : s.laneSt l = .ready)
    (hf : s.folio.running = some f) (hsrc : s.voters.head? = some src) : exec (.precopyPassComplete l t) s =
      .next (((s.tick t).sendXfer src l f (s.lane l).copying).setLane l
        (passedLane (s.lane l) (copyLines src l f (s.lane src).mem (s.lane l).mem (s.lane l).copying))) := by
  have hsrc' : s.xferSource = some src := hsrc
  have hsend : ∀ xs k, ((s.tick t).sendXfer src l f xs).lane k = s.lane k := fun xs k => by
    rw [State.sendXfer, sendUnits_lane, lane_tick]
  simp only [exec, execPrecopyPassComplete, laneSt_tick, hst, tick_folio, hf, xferSource_tick, hsrc', State.receiveXfer,
    lane_tick, hsend, lane_setLane_same, setLane_setLane]
  rfl

theorem exec_precopyPassComplete_no_source {s : State} {l : Lane} (t : Nat) (hst : s.laneSt l = .ready)
    (h : s.folio.running = none ∨ s.voters = []) : exec (.precopyPassComplete l t) s =
      .next ((s.tick t).setLane l (passedLane (s.lane l) (s.lane l).mem)) := by
  simp only [exec, execPrecopyPassComplete, laneSt_tick, hst, tick_folio, xferSource_tick]
  obtain h | h := h
  · simp only [h, lane_tick] <;> rfl
  · have hsrc : s.xferSource = none := by rw [State.xferSource, h]; rfl
    rw [hsrc]
    cases s.folio.running <;> simp only [lane_tick] <;> rfl

theorem exec_precopyPassComplete_not_ready {s : State} {l : Lane} (t : Nat) (h : s.laneSt l ≠ .ready) :
    exec (.precopyPassComplete l t) s = .next (s.tick t) := by
  simp [exec, execPrecopyPassComplete, h]

/-- Sending units changes the senders' numbering and what has been served. -/
theorem sendUnits_fabric (s : State) (d : List Block) (src kind mask own : Nat) (ps : List (List Byte)) :
    (s.sendUnits d src kind mask own ps).fabric = { s.fabric with
      tx := (s.sendUnits d src kind mask own ps).fabric.tx
      served := (s.sendUnits d src kind mask own ps).fabric.served
      servedAt := (s.sendUnits d src kind mask own ps).fabric.servedAt } := rfl

theorem sendXfer_setLane (s : State) (src l : Lane) (f : Folio) (xs : List (Nat × Nat)) (x : LaneState) :
    (s.sendXfer src l f xs).setLane l x =
      { s.setLane l x with fabric := ((s.sendXfer src l f xs).setLane l x).fabric } ∧
    ((s.sendXfer src l f xs).setLane l x).fabric = { s.fabric with
      tx := ((s.sendXfer src l f xs).setLane l x).fabric.tx
      served := ((s.sendXfer src l f xs).setLane l x).fabric.served
      servedAt := ((s.sendXfer src l f xs).setLane l x).fabric.servedAt } := by
  constructor
  · cases l <;> rfl
  · rw [setLane_fabric]; exact sendUnits_fabric _ _ _ _ _ _ _

/-! ### The transfer seam (R62, R64, R65) -/

/-- The lane and its register before it enters TRANSFER. -/
def seamTaken (s : State) (l src : Lane) (t : Nat) : State :=
  (s.setLane l { s.lane l with transferAt := t }).fput (F.LANE_REINT_SOURCE l) src.idx

theorem exec_stateTransferSeam_usable {s : State} {l src : Lane} {t : Nat} (hst : s.laneSt l = .ready)
    (hen : s.flag F.VOTE_CTRL_EN = true) (hsrc : s.voters.head? = some src) (hseam : (s.tick t).transferSeam l t = true) :
    exec (.stateTransferSeam l t) s = .next ((seamTaken (s.tick t) l src t).setLaneSt l .transfer) := by
  have hsrc' : s.xferSource = some src := hsrc
  simp only [exec, execStateTransferSeam, xferSource_tick, hsrc', laneSt_tick, hst, flag_tick, hen, hseam] <;> rfl

theorem seamTaken_spec (s : State) (l src : Lane) (t : Nat) :
    ((seamTaken s l src t).setLaneSt l .transfer).fget (F.LANE_REINT_SOURCE l) = src.idx ∧
      (((seamTaken s l src t).setLaneSt l .transfer).lane l).transferAt = t ∧
      State.LaneStep l [R.LANE_REINT l] s ((seamTaken s l src t).setLaneSt l .transfer) := by
  have hreint : R.LANE_REINT l ∉ stateRegs l := laneReg_reports (by unfold R.LANE_REINT; omega) (by
    unfold R.LANE_REINT R.LANE_STATE; omega)
  refine ⟨?_, ?_, ?_⟩
  · rw [fget_of_reg (reg_setLaneSt_other _ l _ hreint), seamTaken, fget_fput_same _ _ _ rfl]
    exact Nat.mod_eq_of_lt (show src.idx < 2 ^ 2 by cases src <;> decide)
  · rw [setLaneSt_lane, seamTaken, lane_fput, lane_setLane_same]
  · exact ((laneQuiet_setLane _).trans (laneQuiet_fput (F.LANE_REINT_SOURCE l) _ (List.mem_append_right _ (by
      simp [F.LANE_REINT_SOURCE])))).then (laneStep_setLaneSt _ l .transfer _)

/-! ### The 24-hour window (R68) -/

theorem exec_reintWindowExpire (s : State) (l : Lane) (t : Nat) : exec (.reintWindowExpire l t) s =
    .next (((s.tick t).setLane l { s.lane l with attempts := (s.tick t).recentAttempts l }).showAttempts l) := by
  rw [← lane_tick s t l]; rfl

theorem reintWindow_spec (u : State) (l : Lane) :
    let v := (u.setLane l { u.lane l with attempts := u.recentAttempts l }).showAttempts l
    (v.lane l).attempts = u.recentAttempts l ∧ v.fget (F.LANE_STATE_REINT_24H l) = min (v.lane l).attempts.length 15 ∧
      State.RegsKept [R.LANE_STATE l] u v ∧ v.mem = u.mem ∧ ∀ k, k ≠ l → v.lane k = u.lane k := by
  have hrecent : (u.setLane l { u.lane l with attempts := u.recentAttempts l }).recentAttempts l = u.recentAttempts l := by
    simp only [State.recentAttempts, lane_setLane_same, setLane_mono, List.filter_filter, Bool.and_self]
  have hattempts : (((u.setLane l { u.lane l with attempts := u.recentAttempts l }).showAttempts l).lane l).attempts =
      u.recentAttempts l := by
    rw [State.showAttempts, State.fputSat, lane_fput, lane_setLane_same]
  refine ⟨hattempts, ?_, fun a ha => ?_, ?_, fun k hk => ?_⟩
  · rw [hattempts, State.showAttempts, State.fputSat, hrecent, fget_fput_same _ _ _ rfl]
    exact Nat.mod_eq_of_lt (Nat.lt_of_le_of_lt (Nat.min_le_right _ _) (by decide : 15 < 2 ^ 4))
  · rw [State.showAttempts, State.fputSat, reg_fput_other _ (F.LANE_STATE_REINT_24H l) _ (List.ne_of_not_mem_cons ha),
      reg_setLane]
  · exact setLane_mem u l _
  · rw [State.showAttempts, State.fputSat, lane_fput, lane_setLane_other _ _ hk]

/-! ### The final delta (R64) -/

/-- The registers of a declared task in a lane lie above LANE_STATE. -/
theorem taskStat_ne (l k : Lane) {n : Nat} (h : n < 64) : R.LANE_STATE k ≠ R.TASK_STAT l n := by
  unfold R.LANE_STATE R.TASK_STAT
  cases l <;> cases k <;> simp only [Lane.idx] <;> omega

theorem fput_frame_of {s u : State} (f : Field) (v : Nat) (h : ∃ regs, u = { s with regs := regs }) :
    ∃ regs, u.fput f v = { s with regs := regs } := by
  obtain ⟨regs, rfl⟩ := h
  exact ⟨_, rfl⟩

theorem showTask_frame (s : State) (r : TaskRec) (st : TaskSt) (l : Lane) :
    s.showTask r st l = { s with regs := (s.showTask r st l).regs } := by
  obtain ⟨regs, h⟩ : ∃ regs, s.showTask r st l = { s with regs := regs } := by
    unfold State.showTask State.setTaskSt
    iterate 7 refine fput_frame_of _ _ ?_
    exact ⟨s.regs, rfl⟩
  rw [h]

theorem reg_showTask_other (s : State) (r : TaskRec) (st : TaskSt) (l : Lane) {a : Nat} (h : a ≠ R.TASK_STAT l r.task) :
    (s.showTask r st l).reg a = s.reg a := by
  unfold State.showTask State.setTaskSt
  dsimp only
  rw [reg_fput_other _ (F.TASK_STAT_STATE l r.task) _ h, reg_fput_other _ (F.TASK_STAT_PENDING l r.task) _ h,
    reg_fput_other _ (F.TASK_STAT_PRIORITY l r.task) _ h, reg_fput_other _ (F.TASK_STAT_EP l r.task) _ h,
    reg_fput_other _ (F.TASK_STAT_EVENT l r.task) _ h, reg_fput_other _ (F.TASK_STAT_CONSEC l r.task) _ h,
    reg_fput_other _ (F.TASK_STAT_LIMIT l r.task) _ h]

/-- `t` is `s` but for registers, and outside the registers TASK_STAT of lane `l` for tasks below 64 these are as in `s`. -/
def TaskRegsOnly (l : Lane) (s t : State) : Prop :=
  t = { s with regs := t.regs } ∧ ∀ a, (∀ n, n < 64 → a ≠ R.TASK_STAT l n) → t.reg a = s.reg a

theorem TaskRegsOnly.refl (l : Lane) (s : State) : TaskRegsOnly l s s := ⟨rfl, fun _ _ => rfl⟩

theorem TaskRegsOnly.trans {l : Lane} {s t u : State} (h : TaskRegsOnly l s t) (h' : TaskRegsOnly l t u) : TaskRegsOnly l s u := by
  obtain ⟨hframe, hreg⟩ := h
  obtain ⟨hframe', hreg'⟩ := h'
  exact ⟨by rw [hframe', hframe], fun a ha => (hreg' a ha).trans (hreg a ha)⟩

theorem foldl_keeps_mem {α β : Type} {P : β → Prop} {k : β → α → β} (xs : List α) (hP : ∀ b, ∀ a ∈ xs, P b → P (k b a))
    {b : β} (h : P b) : P (xs.foldl k b) := by
  induction xs generalizing b with
  | nil => exact h
  | cons x xs ih =>
    exact ih (fun b a ha => hP b a (List.mem_cons_of_mem _ ha)) (hP b x List.mem_cons_self h)

theorem taskRegsOnly_showTasks (s : State) {f : Folio} (l : Lane) (hf : f.tasksOk) : TaskRegsOnly l s (s.showTasks f l) :=
  foldl_keeps_mem (P := fun u => TaskRegsOnly l s u) f.tasks (fun u r hr hu => hu.trans
    ⟨showTask_frame u r .idle l, fun _ ha => reg_showTask_other u r .idle l (ha r.task (hf r hr))⟩) (TaskRegsOnly.refl l s)

/-- The DIVZ flags of a folio's tasks copied from lane `src`. -/
def copyDivz (s : State) (f : Folio) (src l : Lane) : State :=
  f.tasks.foldl (fun s r => s.fput (F.TASK_STAT_DIVZ l r.task) (s.fget (F.TASK_STAT_DIVZ src r.task))) s

theorem taskRegsOnly_copyDivz (s : State) {f : Folio} (src l : Lane) (hf : f.tasksOk) : TaskRegsOnly l s (copyDivz s f src l) :=
  foldl_keeps_mem (P := fun u => TaskRegsOnly l s u) f.tasks (fun u r hr hu => hu.trans
    ⟨rfl, fun _ ha => reg_fput_other u (F.TASK_STAT_DIVZ l r.task) _ (ha r.task (hf r hr))⟩) (TaskRegsOnly.refl l s)

theorem TaskRegsOnly.laneSt {l : Lane} {s t : State} (h : TaskRegsOnly l s t) (k : Lane) : t.laneSt k = s.laneSt k :=
  laneSt_of_reg (h.2 _ fun _ hn => taskStat_ne l k hn)

theorem TaskRegsOnly.lane {l : Lane} {s t : State} (h : TaskRegsOnly l s t) (k : Lane) : t.lane k = s.lane k := by
  rw [h.1]; cases k <;> rfl

theorem TaskRegsOnly.mem {l : Lane} {s t : State} (h : TaskRegsOnly l s t) : t.mem = s.mem := by
  rw [h.1]

/-- The memory that the final delta leaves, and nothing under way (R64). -/
def deltaLane (x : LaneState) (m : List Host.Cell) : LaneState :=
  { x with mem := m, execs := [], wrote := [], copying := [], rewritten := [] }

/-- The state before the tasks' registers follow the final delta. -/
def deltaSent (s : State) (f : Folio) (src l : Lane) : State :=
  (s.sendXfer src l f (s.lane l).xferLeft).setLane l (deltaLane (s.lane l) (s.xferMemory f src l))

theorem landDelta_eq {s : State} {f : Folio} (src l : Lane) (hf : s.folio.running = some f) :
    s.landDelta src l = (copyDivz ((deltaSent s f src l).showTasks f l) f src l).setLane l
      { (copyDivz ((deltaSent s f src l).showTasks f l) f src l).lane l with landed := true } := by
  have hsend : ∀ k, (s.sendXfer src l f (s.lane l).xferLeft).lane k = s.lane k := fun k => by
    rw [State.sendXfer, sendUnits_lane]
  have hxfer : (s.sendXfer src l f (s.lane l).xferLeft).xferMemory f src l = s.xferMemory f src l := by
    simp only [State.xferMemory, hsend]
  have hsent : deltaSent s f src l = (s.sendXfer src l f (s.lane l).xferLeft).setLane l
      (deltaLane ((s.sendXfer src l f (s.lane l).xferLeft).lane l) ((s.sendXfer src l f (s.lane l).xferLeft).xferMemory f src l)) := by
    rw [hsend, hxfer]; rfl
  rw [hsent]
  simp only [State.landDelta, hf] <;> rfl

theorem landDelta_spec {s : State} {f : Folio} (src l : Lane) (hf : s.folio.running = some f) (hok : f.tasksOk) :
    ((s.landDelta src l).lane l).landed = true ∧ ((s.landDelta src l).lane l).mem = s.xferMemory f src l ∧
      (s.landDelta src l).laneSt l = s.laneSt l ∧ (∀ k, k ≠ l → (s.landDelta src l).lane k = s.lane k) ∧
      (s.landDelta src l).mem = s.mem := by
  have htasks : TaskRegsOnly l (deltaSent s f src l) (copyDivz ((deltaSent s f src l).showTasks f l) f src l) :=
    (taskRegsOnly_showTasks _ l hok).trans (taskRegsOnly_copyDivz _ src l hok)
  rw [landDelta_eq src l hf]
  refine ⟨by rw [lane_setLane_same], ?_, ?_, fun k hk => ?_, ?_⟩
  · rw [lane_setLane_same]
    dsimp only
    rw [htasks.lane, deltaSent, lane_setLane_same]
    rfl
  · rw [laneSt_of_regs (setLane_regs _ l _), htasks.laneSt]
    exact laneSt_of_regs (by rw [deltaSent, setLane_regs]; rfl) l
  · rw [lane_setLane_other _ _ hk, htasks.lane, deltaSent, lane_setLane_other _ _ hk, State.sendXfer, sendUnits_lane]
  · rw [setLane_mem, htasks.mem, deltaSent, setLane_mem]; rfl

@[simp] theorem anyUncommitted_tick (s : State) (t : Nat) : (s.tick t).anyUncommitted = s.anyUncommitted := by
  simp only [State.anyUncommitted, tick_folio, State.uncommitted, voters_tick, State.taskSt, fget_tick]

theorem exec_finalDeltaLanded_in_gap {s : State} {l src : Lane} (t : Nat) (hst : s.laneSt l = .transfer)
    (hl : ¬ (s.lane l).landed = true) (hu : ¬ s.anyUncommitted = true)
    (hr : ∀ b ∈ s.ductus.tasks, ∀ r, b.lastRelease = some r → r ≤ (s.lane l).transferAt) (hsrc : s.voters.head? = some src) :
    exec (.finalDeltaLanded l t) s = .next ((s.tick t).landDelta src l) := by
  have hlate : (s.ductus.tasks.any fun b => match b.lastRelease with
      | some r => decide ((s.lane l).transferAt < r)
      | none => false) = false := by
    rw [List.any_eq_false]
    intro b hb
    split
    · rename_i r hbr
      simpa using hr b hb r hbr
    · exact Bool.false_ne_true
  have hl' : (s.lane l).landed = false := by simpa using hl
  have hu' : s.anyUncommitted = false := by simpa using hu
  simp only [exec, execFinalDeltaLanded, laneSt_tick, hst, lane_tick, hl', anyUncommitted_tick, hu', tick_ductus, voters_tick, hsrc]
  exact (if_neg (by decide)).trans (if_neg fun h => Bool.false_ne_true (hlate.symm.trans h))

/-! ### No seam (R65) -/

@[simp] theorem deltaGap_tick (s : State) (t : Nat) (l : Lane) : (s.tick t).deltaGap l = s.deltaGap l := by
  simp only [State.deltaGap, lane_tick]

theorem exec_transferTimeout_late {s : State} {l : Lane} {t : Nat} (hst : s.laneSt l = .ready)
    (hen : s.flag F.VOTE_CTRL_EN = true) (hm : s.modeNow ≠ .hold) (h : (s.lane l).readyAt + 10000000000 ≤ (s.tick t).now ∨
      (16 ≤ (s.lane l).passes ∧ ¬ (s.tick t).gapExists (s.deltaGap l) = true)) :
    exec (.transferTimeout l t) s = .next ((s.tick t).excludeCheck l .transfer 0) := by
  simp only [exec, execTransferTimeout, laneSt_tick, hst, flag_tick, hen, modeNow_tick, lane_tick, deltaGap_tick]
  exact if_pos (by simpa [hm] using h)

end Sys2Proof.Machine
end

section
/-! PROOF. The vote enables with the READY lanes (R63), and the lanes' way back to the vote as a whole (R62 to R68). -/

namespace Sys2Proof.Machine

open State

/-! ### The lanes' states and the vote's enabling, through VOTE_ENABLE -/

/-- The vote is enabled in `t` as in `s`, and every lane is in the same state. -/
def SameVote (s t : State) : Prop :=
  t.flag F.VOTE_CTRL_EN = s.flag F.VOTE_CTRL_EN ∧ ∀ l, t.laneSt l = s.laneSt l

/-- A register that holds no part of the vote's enabling and of the lanes' states. -/
def apartFromVote (a : Nat) : Bool := a != R.VOTE_CTRL && allLanes.all fun l => a != R.LANE_STATE l

theorem apartFromVote_iff {a : Nat} : apartFromVote a = true ↔ a ≠ R.VOTE_CTRL ∧ ∀ l, a ≠ R.LANE_STATE l := by
  simp only [apartFromVote, Bool.and_eq_true, bne_iff_ne, List.all_eq_true]
  exact and_congr_right fun _ => ⟨fun h l => h l (by cases l <;> decide), fun h l _ => h l⟩

namespace SameVote

theorem refl (s : State) : SameVote s s := ⟨rfl, fun _ => rfl⟩

theorem trans {s t u : State} (h : SameVote s t) (h' : SameVote t u) : SameVote s u :=
  ⟨h'.1.trans h.1, fun l => (h'.2 l).trans (h.2 l)⟩

theorem of_regs {s t : State} (h : t.regs = s.regs) : SameVote s t := ⟨flag_of_regs h _, laneSt_of_regs h⟩

theorem of_reg {s t : State} (h : ∀ a, a = R.VOTE_CTRL ∨ (∃ l, a = R.LANE_STATE l) → t.reg a = s.reg a) : SameVote s t :=
  ⟨by simp only [State.flag, fget_of_reg (f := F.VOTE_CTRL_EN) (h _ (.inl rfl))], fun l => laneSt_of_reg (h _ (.inr ⟨l, rfl⟩))⟩

theorem fput (s : State) (f : Field) (v : Nat) (h : apartFromVote f.off = true) : SameVote s (s.fput f v) := by
  obtain ⟨hctrl, hlane⟩ := apartFromVote_iff.mp h
  refine of_reg fun a ha => reg_fput_other s f v ?_
  rintro rfl
  obtain ha | ⟨l, ha⟩ := ha
  · exact hctrl ha
  · exact hlane l ha

theorem foldl {α : Type} {k : State → α → State} (hk : ∀ s x, SameVote s (k s x)) (xs : List α) (s : State) :
    SameVote s (xs.foldl k s) :=
  foldl_keeps (P := fun t => SameVote s t) (fun t x ht => ht.trans (hk t x)) xs (refl s)

end SameVote

theorem mirror_regs (s : State) (seg off : Nat) (bs : List Byte) : (s.mirror seg off bs).regs = s.regs := by
  unfold State.mirror
  split <;> rfl

theorem sameVote_rewriteMirrors (s : State) (f : Folio) (l : Lane) : SameVote s (s.rewriteMirrors f l) :=
  SameVote.trans (SameVote.of_regs rfl) (SameVote.foldl (fun _ _ => SameVote.of_regs (mirror_regs _ _ _ _)) f.vars _)

theorem sameVote_setRole (s : State) : SameVote s s.setRole := by
  unfold State.setRole
  dsimp only
  split
  · exact SameVote.refl s
  · exact ((((SameVote.fput _ _ _ (by decide)).trans (SameVote.fput _ _ _ (by decide))).trans
      (SameVote.fput _ _ _ (by decide))).trans (SameVote.fput _ _ _ (by decide))).trans (SameVote.fput _ _ _ (by decide))

theorem sameVote_putSet (s : State) (z : Option ShadowSet) : SameVote s (s.putSet z) := by
  have hgroup : ∀ g, apartFromVote (R.FIO_SHADOW g) = true := fun g => by cases g <;> decide
  refine SameVote.trans (SameVote.of_regs rfl) (SameVote.foldl (fun u g => ?_) allGroups _)
  split
  · exact ((SameVote.fput _ _ _ (hgroup g)).trans (SameVote.fput _ _ _ (hgroup g))).trans (SameVote.fput _ _ _ (hgroup g))
  · exact (SameVote.fput _ _ _ (hgroup g)).trans (SameVote.fput _ _ _ (hgroup g))

theorem sameVote_deliverChannels (s : State) : SameVote s s.deliverChannels := by
  have hopen : SameVote s (s.openSet none) := SameVote.trans (SameVote.of_regs rfl) (sameVote_putSet _ _)
  unfold State.deliverChannels
  dsimp only
  split
  · exact hopen.trans (sameVote_putSet _ _)
  · exact hopen

theorem sameVote_deliverNetwork (s : State) : SameVote s s.deliverNetwork := by
  unfold State.deliverNetwork State.putNetSet
  exact SameVote.trans (SameVote.of_regs rfl) (SameVote.fput _ _ _ (by decide))

theorem deliverTable_regs (s : State) : s.deliverTable.regs = s.regs := by
  unfold State.deliverTable
  dsimp only
  split <;> rfl

theorem writeRecord_regs (s : State) (k : Nat) (body : List Byte) : (s.writeRecord k body).regs = s.regs := rfl

theorem migrate_regs (s : State) (k : Nat) : (s.migrate k).regs = s.regs := by
  unfold State.migrate
  split
  · split
    · exact writeRecord_regs _ _ _
    · rfl
  · rfl

theorem sameVote_deliverStore (s : State) : SameVote s s.deliverStore := by
  have hsources : SameVote s ([1, 2, 3, 4, 5].foldl (fun (s : State) k =>
      (s.fput F.STORE_SRC_SOURCE (s.fget F.STORE_SRC_SOURCE - s.fget F.STORE_SRC_SOURCE / 4 ^ (k - 1) % 4 * 4 ^ (k - 1) +
        s.rub.source k * 4 ^ (k - 1))).migrate k) s) :=
    SameVote.foldl (fun u k => (SameVote.fput u F.STORE_SRC_SOURCE _ (by decide)).trans (SameVote.of_regs (migrate_regs _ k))) _ s
  have hcounters : ∀ u : State, SameVote u (u.mwrite countersBase (u.bodyOf kindCounters (zeros 1024))) :=
    fun u => SameVote.of_regs rfl
  exact (((hsources.trans (hcounters _)).trans (sameVote_deliverChannels _)).trans (sameVote_deliverNetwork _)).trans
    (SameVote.of_regs (deliverTable_regs _))

theorem cbSend_regs (s : State) (rs : List (List Byte)) : (s.cbSend rs).regs = s.regs := by
  unfold State.cbSend
  split
  · rfl
  · split <;> rfl

theorem announceFrom_regs (s : State) (w : Switch) (t : Nat) : (s.announceFrom w t).regs = s.regs := by
  unfold State.announceFrom
  dsimp only
  split
  · split
    · exact cbSend_regs _ _
    · rfl
  · rfl

theorem researchSeam_regs (s : State) (t : Nat) : (s.researchSeam t).regs = s.regs := by
  unfold State.researchSeam
  split
  · split
    · rfl
    · split
      · split
        · rfl
        · exact announceFrom_regs _ _ _
      · exact announceFrom_regs _ _ _
  · rfl

theorem pendMode_regs (s : State) (m : Mode) (a : Nat) (c : Option Cmd) : (s.pendMode m a c).regs = s.regs := by
  unfold State.pendMode
  dsimp only
  rw [researchSeam_regs]
  split
  · exact cbSend_regs _ _
  · rfl

theorem sameVote_refreshVote (s : State) : SameVote s s.refreshVote := by
  refine ⟨?_, fun l => laneSt_of_reg ?_⟩
  · simp only [State.flag, fget_refreshVote_other s F.VOTE_CTRL_EN rfl rfl rfl]
  · have hput : ∀ v w, ((s.fput F.VOTE_CTRL_VOTING v).fput F.VOTE_CTRL_KIND w).reg (R.LANE_STATE l) = s.reg (R.LANE_STATE l) :=
      fun v w => (reg_fput_other _ F.VOTE_CTRL_KIND w (laneState_ne l (by decide))).trans
        (reg_fput_other _ F.VOTE_CTRL_VOTING v (laneState_ne l (by decide)))
    unfold State.refreshVote
    dsimp only
    split <;> exact hput _ _

theorem TaskRegsOnly.sameVote {l : Lane} {s t : State} (h : TaskRegsOnly l s t) : SameVote s t := by
  refine SameVote.of_reg fun a ha => h.2 a fun n hn => ?_
  obtain rfl | ⟨k, rfl⟩ := ha
  · unfold R.VOTE_CTRL R.TASK_STAT; omega
  · exact taskStat_ne l k hn

theorem startMemory_spec (s : State) {f : Folio} (l : Lane) (hf : f.tasksOk) :
    SameVote s (s.startMemory f l) ∧ (s.startMemory f l).folio = s.folio := by
  have htasks : ∀ u : State, SameVote u (u.showTasks f l) ∧ (u.showTasks f l).folio = u.folio := fun u => by
    have h := taskRegsOnly_showTasks u l hf
    exact ⟨h.sameVote, by rw [h.1]⟩
  unfold State.startMemory
  exact ⟨SameVote.trans (SameVote.of_regs (setLane_regs _ _ _)) (htasks _).1, (htasks _).2.trans (setLane_folio _ _ _)⟩

theorem enterPermits_spec (s : State) (l : Lane) : SameVote s (s.enterPermits l) ∧ (s.enterPermits l).folio = s.folio := by
  have hstop : apartFromVote (R.LANE_STOP l) = true := by cases l <;> decide
  unfold State.enterPermits State.compareStop
  exact ⟨(SameVote.fput _ _ _ hstop).trans (SameVote.of_regs (setLane_regs _ _ _)), setLane_folio _ _ _⟩

/-- A READY lane joins the vote, another lane stays (R63). -/
def joinIfReady (s : State) (l : Lane) : State :=
  if s.laneSt l != .ready then s else
  let s := match s.folio.running with
    | some f => s.startMemory f l
    | none => s
  (s.setLaneSt l .voting).enterPermits l

theorem joinReady_eq (s : State) : s.joinReady = allLanes.foldl joinIfReady s := rfl

/-- The state of a lane after READY lanes have joined. -/
def joined (st : LaneSt) : LaneSt := if st = .ready then .voting else st

theorem joinIfReady_spec (s : State) (l : Lane) (hf : ∀ f, s.folio.running = some f → f.tasksOk) :
    (joinIfReady s l).flag F.VOTE_CTRL_EN = s.flag F.VOTE_CTRL_EN ∧ (joinIfReady s l).folio = s.folio ∧
      ∀ k, (joinIfReady s l).laneSt k = if k = l then joined (s.laneSt k) else s.laneSt k := by
  have hjoin : ∀ u : State, SameVote s u → u.folio = s.folio → s.laneSt l = .ready →
      ((u.setLaneSt l .voting).enterPermits l).flag F.VOTE_CTRL_EN = s.flag F.VOTE_CTRL_EN ∧
      ((u.setLaneSt l .voting).enterPermits l).folio = s.folio ∧
      ∀ k, ((u.setLaneSt l .voting).enterPermits l).laneSt k = if k = l then joined (s.laneSt k) else s.laneSt k := by
    intro u hu hfolio hr
    obtain ⟨hsame, hframe⟩ := enterPermits_spec (u.setLaneSt l .voting) l
    refine ⟨hsame.1.trans ((flag_setLaneSt_en u l _).trans hu.1), hframe.trans ((setLaneSt_folio u l _).trans hfolio), fun k => ?_⟩
    rw [hsame.2, laneSt_setLaneSt, hu.2]
    by_cases hk : k = l
    · subst hk; simp [joined, hr]
    · simp [hk]
  unfold joinIfReady
  by_cases hr : s.laneSt l = .ready
  · rw [if_neg (by simp [hr])]
    cases hfolio : s.folio.running with
    | some f =>
      obtain ⟨hstart, hframe⟩ := startMemory_spec s l (hf f hfolio)
      exact hjoin _ hstart hframe hr
    | none => exact hjoin s (SameVote.refl s) rfl hr
  · rw [if_pos (by simp [hr])]
    refine ⟨rfl, rfl, fun k => ?_⟩
    by_cases hk : k = l
    · subst hk; simp [joined, hr]
    · simp [hk]

theorem joinReady_spec (s : State) (hf : ∀ f, s.folio.running = some f → f.tasksOk) :
    s.joinReady.flag F.VOTE_CTRL_EN = s.flag F.VOTE_CTRL_EN ∧ ∀ l, s.joinReady.laneSt l = joined (s.laneSt l) := by
  obtain ⟨hena, hfa, hsta⟩ := joinIfReady_spec s .a hf
  obtain ⟨henb, hfb, hstb⟩ := joinIfReady_spec (joinIfReady s .a) .b (by rw [hfa]; exact hf)
  obtain ⟨henc, -, hstc⟩ := joinIfReady_spec (joinIfReady (joinIfReady s .a) .b) .c (by rw [hfb, hfa]; exact hf)
  have hfold : s.joinReady = joinIfReady (joinIfReady (joinIfReady s .a) .b) .c := rfl
  rw [hfold]
  refine ⟨henc.trans (henb.trans hena), fun l => ?_⟩
  rw [hstc, hstb, hsta]
  cases l <;> rfl

end Sys2Proof.Machine
end

section
/-! PROOF. The lanes' way back to the vote as a whole (R62 to R68). -/

namespace Sys2Proof.Machine

open State

/-- The state in which VOTE_ENABLE lets the READY lanes join (R63). -/
def voteOpened (s : State) : State :=
  (match s.folio.running with
    | some f => { s with ductus := { s.ductus with tasks := f.tasks.map fun (r : TaskRec) => bookNew r.task } }
    | none => s).fput F.VOTE_CTRL_EN 1

theorem voteOpened_spec (s : State) : (voteOpened s).flag F.VOTE_CTRL_EN = true ∧ (voteOpened s).folio = s.folio ∧
    ∀ l, (voteOpened s).laneSt l = s.laneSt l := by
  have hopen : ∀ u : State, u.regs = s.regs → u.folio = s.folio →
      (u.fput F.VOTE_CTRL_EN 1).flag F.VOTE_CTRL_EN = true ∧ (u.fput F.VOTE_CTRL_EN 1).folio = s.folio ∧
      ∀ l, (u.fput F.VOTE_CTRL_EN 1).laneSt l = s.laneSt l := fun u hregs hfolio => by
    refine ⟨?_, hfolio, fun l => ?_⟩
    · rw [State.flag, fget_fput_same _ _ _ rfl]; rfl
    · exact (laneSt_of_reg (reg_fput_other u F.VOTE_CTRL_EN 1 (laneState_ne l (by decide)))).trans (laneSt_of_regs hregs l)
  unfold voteOpened
  split
  · exact hopen _ rfl rfl
  · exact hopen _ rfl rfl

/-- The first image of the mirrors, from the first voting lane. -/
def firstMirrors (s : State) : State :=
  match s.folio.running, s.voters.head? with
  | some f, some l => s.rewriteMirrors f l
  | _, _ => s

/-- The start sequence is over (R499). -/
def startShown (s : State) : State :=
  (s.startStep 7).fputSat F.RPC_START_MS_TO_VOTE ((s.mono - s.power.releasedAt) / 1000000)

/-- A folio with AUTOSTART runs (R98). -/
def autoStarted (s : State) : State :=
  let auto := match s.folio.running with
    | some f => f.autostart
    | none => false
  if auto then s.pendMode .run s.now none else s

/-- What VOTE_ENABLE does once the lanes have joined: mirrors, start step, role, stored configuration, AUTOSTART. -/
def voteStarted (s : State) : State := autoStarted (startShown (firstMirrors s)).setRole.deliverStore

theorem sameVote_firstMirrors (s : State) : SameVote s (firstMirrors s) := by
  unfold firstMirrors
  split
  · exact sameVote_rewriteMirrors s _ _
  · exact SameVote.refl s

theorem sameVote_startShown (s : State) : SameVote s (startShown s) :=
  (SameVote.fput s F.RPC_START_STEP _ (by decide)).trans (SameVote.fput _ F.RPC_START_MS_TO_VOTE _ (by decide))

theorem sameVote_autoStarted (s : State) : SameVote s (autoStarted s) := by
  have hauto : ∀ auto : Bool, SameVote s (if auto then s.pendMode .run s.now none else s) := fun auto => by
    cases auto
    · exact SameVote.refl s
    · exact SameVote.of_regs (pendMode_regs _ _ _ _)
  exact hauto _

theorem sameVote_voteStarted (s : State) : SameVote s (voteStarted s) :=
  (((sameVote_firstMirrors s).trans (sameVote_startShown _)).trans (sameVote_setRole _)).trans
    ((sameVote_deliverStore _).trans (sameVote_autoStarted _))

theorem exec_voteEnable_opens {s : State} {t : Nat} (hen : ¬ s.flag F.VOTE_CTRL_EN = true)
    (hfailed : ¬ s.flag F.VOTE_CTRL_FAILED = true) (hv : s.voters = [])
    (hready : 2 ≤ (allLanes.filter fun l => s.laneSt l == .ready).length) (hgrid : (s.tick t).now % 50000 = 0) :
    exec (.voteEnable t) s = .next (voteStarted (voteOpened (s.tick t)).joinReady.refreshVote) := by
  have hready' : ¬ (allLanes.filter fun l => s.laneSt l == .ready).length < 2 := Nat.not_lt.mpr hready
  have hgrid' : (s.tick t).now % gridNs = 0 := hgrid
  change execVoteEnable t s = _
  unfold execVoteEnable
  extract_lets u ready ductus booked opened joinedVote mirrored shown delivered auto
  have hblocked : ¬ (u.flag F.VOTE_CTRL_EN || u.flag F.VOTE_CTRL_FAILED || !u.voters.isEmpty || ready.length < 2 ||
      u.now % gridNs != 0) = true := by
    simp only [u, ready, flag_tick, voters_tick, laneSt_tick, hv, hgrid']
    simp [hen, hfailed, hready']
  rw [if_neg hblocked]
  have hopened : opened = voteOpened u := rfl
  have hmirrored : mirrored = firstMirrors joinedVote := rfl
  have hshown : shown = startShown mirrored := rfl
  have hdelivered : delivered = shown.setRole.deliverStore := rfl
  have hjoined : joinedVote = opened.joinReady.refreshVote := rfl
  clear_value delivered
  have hauto : (if auto = true then delivered.pendMode .run delivered.now none else delivered) = autoStarted delivered := rfl
  rw [hauto, hdelivered, hshown, hmirrored, hjoined, hopened]
  rfl

/-! ### The lane's start checks -/

/-- A lane whose start check, translation or transfer fails is excluded with the cause (R62, R65). -/
theorem excludeCheck_on_the_way {s : State} {l : Lane} {st : LaneSt} (cause : LaneCause) (h : s.laneSt l = st)
    (hst : st = .booting ∨ st = .translating ∨ st = .ready ∨ st = .transfer) :
    (s.excludeCheck l cause 0).laneSt l = .excluded ∧ (s.excludeCheck l cause 0).fget (F.LANE_STATE_CAUSE l) = laneCauseCode cause ∧
      (s.excludeCheck l cause 0).lane l = excludedLane (s.lane l) s.mono := by
  obtain ⟨hx, hv⟩ := excludable_of_laneSt h hst
  rw [excludeCheck_not_voting cause 0 hx hv]
  exact ⟨laneSt_exclude s l cause, laneCause_exclude s l cause, lane_exclude_same s l cause⟩

theorem laneSt_showVerify (s : State) (f : Folio) (l : Lane) : (s.showVerify f l).laneSt l = s.laneSt l :=
  laneSt_of_reg (reg_showVerify_other s f l (by unfold R.LANE_STATE R.LANE_VERIFY_STAT; omega)
    (by unfold R.LANE_STATE R.LANE_VERIFY_WORD; omega))

theorem lane_showVerify (s : State) (f : Folio) (l k : Lane) : (s.showVerify f l).lane k = s.lane k := by
  rw [showVerify_frame]; cases k <;> rfl

theorem keptHash_agrees {s : State} {l : Lane} {h : DWord}
    (hk : ¬ s.flag F.VOTE_CTRL_EN = true ∨ (s.lane l).xlatHash = none ∨ (s.lane l).xlatHash = some h) :
    ((keptHash s l).isSome && keptHash s l != some h) = false := by
  unfold keptHash
  obtain hk | hk | hk := hk
  · simp [hk]
  · simp [hk]
  · split <;> simp [hk]

theorem keptHash_differs {s : State} {l : Lane} {g h : DWord} (hen : s.flag F.VOTE_CTRL_EN = true)
    (hk : (s.lane l).xlatHash = some g) (hne : g ≠ h) : ((keptHash s l).isSome && keptHash s l != some h) = true := by
  simp [keptHash, hen, hk, hne]

/-- The lane after its translation has passed (R173). -/
theorem translated_laneReady_spec (s : State) (f : Folio) (l : Lane) (h : DWord) :
    let v := (translated s f l h).laneReady l
    v.laneSt l = .ready ∧ (v.lane l).xlatHash = some h ∧ (v.lane l).passes = 0 ∧
      v.fget (F.LANE_XLAT_HASH_LO_HASH l) + 2 ^ 32 * v.fget (F.LANE_XLAT_HASH_HI_HASH l) = h.toNat ∧
      (v.flag (F.LANE_VERIFY_STAT_REFUSED l) ↔ (verifyFolio f).isSome) ∧
      State.LaneStep l [R.LANE_XLAT_HASH_LO l, R.LANE_XLAT_HASH_HI l, R.LANE_VERIFY_STAT l, R.LANE_VERIFY_WORD l] s v := by
  obtain ⟨hhash, hregs, hrefused, hquiet⟩ := translated_spec s f l h
  obtain ⟨hst, hxlat, hpasses, hreg, hstep⟩ := laneReady_spec (translated s f l h) l
    [R.LANE_XLAT_HASH_LO l, R.LANE_XLAT_HASH_HI l, R.LANE_VERIFY_STAT l, R.LANE_VERIFY_WORD l]
  obtain ⟨hlo, hhi, hver⟩ := xlatRegs_report l
  dsimp only
  refine ⟨hst, hxlat.trans hhash, hpasses, ?_, ?_, hquiet.then hstep⟩
  · rw [fget_of_reg (f := F.LANE_XLAT_HASH_LO_HASH l) (hreg _ hlo), fget_of_reg (f := F.LANE_XLAT_HASH_HI_HASH l) (hreg _ hhi)]
    exact hregs
  · rw [State.flag, fget_of_reg (f := F.LANE_VERIFY_STAT_REFUSED l) (hreg _ hver)]
    exact (Bool.eq_iff_iff).mp hrefused

/-- The lane after its start checks have passed (R38, R62). -/
theorem bootPassed_spec (s : State) (l : Lane) (x : LaneState) (now : Nat) :
    let v := ((s.setLane l { x with ep0 := bootedPair now, ep1 := bootedPair now }).report (pdLane l)).setLaneSt l .translating
    v.laneSt l = .translating ∧ (v.lane l).ep0.dueAt = now ∧ (v.lane l).ep1.dueAt = now ∧ State.LaneStep l [] s v := by
  intro v
  have hlane : v.lane l = { x with ep0 := bootedPair now, ep1 := bootedPair now } := by
    rw [setLaneSt_lane, report_lane_eq, lane_setLane_same]
  rw [hlane]
  exact ⟨by rw [laneSt_setLaneSt, if_pos rfl], rfl, rfl, ((laneQuiet_setLane _).trans (laneQuiet_fabric _)).then (laneStep_setLaneSt _ l .translating _)⟩

/-- Settles O13: each step of a lane on its way back to the vote, from the lemma on that step; VOTE_ENABLE by what keeps the
vote's enabling and the lanes' states. -/
theorem lanesReturnToTheVoteByTheirStates : Obligations.LanesReturnToTheVoteByTheirStates := by
  unfold Obligations.LanesReturnToTheVoteByTheirStates
  refine ⟨?_, ?_, ?_, ?_, ?_, ?_, ?_, ?_, ?_, ?_, ?_, ?_, ?_, ?_, ?_, ?_⟩
  · intro s l t hst hwait hp
    refine ⟨_, exec_laneExcludedTimeout_permitted hst hwait hp, ?_⟩
    have hspec := enterPowerCycle_spec (s.tick t) l
    rw [lane_tick, fget_tick] at hspec
    exact hspec
  · intro s l t hst hwait hp
    exact ⟨_, exec_laneExcludedTimeout_limit hst hwait hp, outLimit_spec (s.tick t) l⟩
  · intro s l t hst hoff
    refine ⟨fun h => ⟨_, exec_lanePowerCycleDone_on hst hoff h, ?_⟩, exec_lanePowerCycleDone_waits⟩
    have hspec := bootLane_spec (s.tick t) l
    rw [tick_power] at hspec
    exact hspec
  · intro s l t hst
    exact ⟨_, exec_laneBootComplete_passed t hst, bootPassed_spec (s.tick t) l (s.lane l) (s.tick t).mono⟩
  · intro s l t hst
    obtain ⟨hexcl, hcause, -⟩ := excludeCheck_on_the_way .startCheck ((laneSt_tick s t l).trans hst) (.inl rfl)
    exact ⟨_, exec_laneBootComplete_failed t hst, hexcl, hcause⟩
  · intro s l f bad t hst hf hk
    refine ⟨_, (exec_laneTranslationComplete_folio bad t hst hf).trans (if_neg ?_), translated_laneReady_spec (s.tick t) f l _⟩
    rw [keptHash_agrees hk]
    exact Bool.false_ne_true
  · intro s l f bad h t hst hf hen hk hne
    obtain ⟨hexcl, hcause, hlane⟩ := excludeCheck_on_the_way (s := (s.tick t).showVerify f l) .startCheck
      ((laneSt_showVerify _ f l).trans ((laneSt_tick s t l).trans hst)) (.inr (.inl rfl))
    refine ⟨_, (exec_laneTranslationComplete_folio bad t hst hf).trans (if_pos (keptHash_differs hen hk hne)), hexcl, hcause, ?_⟩
    rw [hlane, lane_showVerify, lane_tick]
    exact hk
  · intro s l bad t hst hf
    obtain ⟨hready, -, -, -, hstep⟩ := laneReady_spec (s.tick t) l []
    exact ⟨_, exec_laneTranslationComplete_none bad t hst hf, hready, hstep⟩
  · intro s l src f t hst hf hsrc
    obtain ⟨hlane, hfabric⟩ := sendXfer_setLane (s.tick t) src l f (s.lane l).copying
      (passedLane (s.lane l) (copyLines src l f (s.lane src).mem (s.lane l).mem (s.lane l).copying))
    rw [tick_fabric] at hfabric
    exact ⟨_, exec_precopyPassComplete_copies t hst hf hsrc, hlane, hfabric⟩
  · intro s l t hst h
    exact exec_precopyPassComplete_no_source t hst h
  · intro s l t hst
    exact exec_precopyPassComplete_not_ready t hst
  · intro s l src t hst hen hsrc hseam
    obtain ⟨hsource, hat, hstep⟩ := seamTaken_spec (s.tick t) l src t
    exact ⟨_, exec_stateTransferSeam_usable hst hen hsrc hseam, by rw [laneSt_setLaneSt, if_pos rfl], hsource, hat, hstep⟩
  · intro s l src f t hst hl hu hr hsrc hf hok
    obtain ⟨hlanded, hmem, hstate, hother, hmodule⟩ := landDelta_spec (s := s.tick t) src l ((congrArg FolioState.running (tick_folio s t)).trans hf) hok
    refine ⟨_, exec_finalDeltaLanded_in_gap t hst hl hu hr hsrc, hlanded, hmem.trans ?_, ?_, fun k hk => ?_, hmodule.trans (tick_mem s t)⟩
    · simp only [State.xferMemory, lane_tick]
    · rw [hstate, laneSt_tick, hst]
    · rw [hother k hk, lane_tick]
  · intro s l t hst hen hm h
    obtain ⟨hexcl, hcause, -⟩ := excludeCheck_on_the_way .transfer ((laneSt_tick s t l).trans hst) (.inr (.inr (.inl rfl)))
    exact ⟨_, exec_transferTimeout_late hst hen hm h, hexcl, hcause⟩
  · intro s l t
    have hspec := reintWindow_spec (s.tick t) l
    rw [lane_tick] at hspec
    refine ⟨_, exec_reintWindowExpire s l t, ?_, hspec.2⟩
    rw [hspec.1, State.recentAttempts, lane_tick]
    rfl
  · intro s t hen hfailed hv hready hgrid hok
    obtain ⟨hopen, hfolio, hopenSt⟩ := voteOpened_spec (s.tick t)
    obtain ⟨hjoinEn, hjoinSt⟩ := joinReady_spec (voteOpened (s.tick t)) (by rw [hfolio, tick_folio]; exact hok)
    have hrest : SameVote (voteOpened (s.tick t)).joinReady (voteStarted (voteOpened (s.tick t)).joinReady.refreshVote) :=
      (sameVote_refreshVote _).trans (sameVote_voteStarted _)
    have hstate : ∀ l, (voteStarted (voteOpened (s.tick t)).joinReady.refreshVote).laneSt l = joined (s.laneSt l) := fun l => by
      rw [hrest.2, hjoinSt, hopenSt, laneSt_tick]
    refine ⟨_, exec_voteEnable_opens hen hfailed hv hready hgrid, ?_, fun l hl => ?_, fun l hl => ?_⟩
    · rw [hrest.1, hjoinEn, hopen]
    · rw [hstate, hl]; rfl
    · rw [hstate, joined, if_neg hl]

end Sys2Proof.Machine
end

section
/-! PROOF. What a reply to a command leaves unchanged (R396, R402, R413), and the end of an execution (R79, R80, R82). -/

namespace Sys2Proof.Machine

open State

/-! ### Replies -/

/-- The registers of the log, the sessions and the verdicts on commands. -/
def answerRegs : List Nat := [R.LOG_HEAD, R.QUILL_SESS, R.QUILL_ACCEPT, R.QUILL_REFUSE]

/-- They lie in the vote unit's block, below the lanes' registers. -/
theorem not_mem_answerRegs {a : Nat} (h : 0x200000 ≤ a) : a ∉ answerRegs := by
  simp only [answerRegs, R.LOG_HEAD, R.QUILL_SESS, R.QUILL_ACCEPT, R.QUILL_REFUSE, List.mem_cons, List.not_mem_nil, or_false]
  omega

/-- `t` differs from `s` by replies, log records and what the ductus keeps of fences and snapshots; no reply queued is lost. -/
def AnswerStep (s t : State) : Prop :=
  (∃ regs mem brg quill fences snaps, t = { s with
    regs := regs, mem := mem, brg := brg, quill := quill, ductus := { s.ductus with fences := fences, snaps := snaps } }) ∧
  State.RegsKept answerRegs s t ∧ s.quill.replies ⊆ t.quill.replies

namespace AnswerStep

variable {s t u : State}

theorem refl (s : State) : AnswerStep s s := ⟨⟨_, _, _, _, _, _, rfl⟩, fun _ _ => rfl, fun _ h => h⟩

theorem trans (h : AnswerStep s t) (h' : AnswerStep t u) : AnswerStep s u := by
  obtain ⟨⟨_, _, _, _, _, _, rfl⟩, hreg, hreplies⟩ := h
  obtain ⟨⟨_, _, _, _, _, _, rfl⟩, hreg', hreplies'⟩ := h'
  exact ⟨⟨_, _, _, _, _, _, rfl⟩, fun a ha => (hreg' a ha).trans (hreg a ha), fun _ h => hreplies' (hreplies h)⟩

theorem reg (h : AnswerStep s t) {a : Nat} (ha : a ∉ answerRegs) : t.reg a = s.reg a := h.2.1 a ha

theorem lane (h : AnswerStep s t) (l : Lane) : t.lane l = s.lane l := by
  obtain ⟨⟨_, _, _, _, _, _, rfl⟩, -⟩ := h
  cases l <;> rfl

theorem vote (h : AnswerStep s t) : t.vote = s.vote := by
  obtain ⟨⟨_, _, _, _, _, _, rfl⟩, -⟩ := h
  rfl

theorem foldl {α : Type} {k : State → α → State} (hk : ∀ s x, AnswerStep s (k s x)) (xs : List α) (s : State) :
    AnswerStep s (xs.foldl k s) := foldl_keeps (P := fun t => AnswerStep s t) (fun t x ht => ht.trans (hk t x)) xs (refl s)

end AnswerStep

theorem answer_log (s : State) (e src : Nat) (d : List Byte) : AnswerStep s (s.log e src d) := by
  refine ⟨⟨_, _, _, _, _, _, rfl⟩, fun a ha => ?_, fun _ h => h⟩
  have hlog : a ≠ R.LOG_HEAD := fun h => ha (h ▸ (by decide : R.LOG_HEAD ∈ answerRegs))
  rw [State.log, State.logAt, reg_fput_other _ F.LOG_HEAD_SEQ _ hlog]
  rfl

theorem answer_quill (s : State) (q : QuillState) (h : s.quill.replies ⊆ q.replies) : AnswerStep s { s with quill := q } :=
  ⟨⟨_, _, _, _, _, _, rfl⟩, fun _ _ => rfl, h⟩

theorem answer_ductus (s : State) (fences : List Fence) (snaps : List PendSnap) :
    AnswerStep s { s with ductus := { s.ductus with fences := fences, snaps := snaps } } :=
  ⟨⟨_, _, _, _, _, _, rfl⟩, fun _ _ => rfl, fun _ h => h⟩

theorem answer_mwrite (s : State) (a : Nat) (bs : List Byte) : AnswerStep s (s.mwrite a bs) :=
  ⟨⟨_, _, _, _, _, _, rfl⟩, fun _ _ => rfl, fun _ h => h⟩

theorem answer_endSession (s : State) (id reason : Nat) : AnswerStep s (s.endSession id reason) := by
  have hshow : ∀ u : State, AnswerStep u u.showSessions := fun u => by
    refine ⟨⟨_, _, _, _, _, _, rfl⟩, fun a ha => ?_, fun _ h => h⟩
    have hsess : a ≠ R.QUILL_SESS := fun h => ha (h ▸ (by decide : R.QUILL_SESS ∈ answerRegs))
    exact reg_fput_other u F.QUILL_SESS_OPEN _ hsess
  unfold State.endSession
  split
  · exact AnswerStep.refl s
  · have hends : AnswerStep s ({ s with quill := { s.quill with sessions := s.quill.sessions.filter (·.id != id) } } : State).showSessions :=
      (answer_quill s _ (List.Subset.refl s.quill.replies)).trans (hshow _)
    dsimp only
    split
    · exact hends.trans (answer_log _ _ _ _)
    · exact hends

/-- `u` differs from `s` by an answer that queues a reply to `c`, without its parameters when it is dropped. -/
def Answers (s : State) (c : Cmd) (op status : Nat) (params : List Byte) (u : State) : Prop :=
  AnswerStep s u ∧ ∃ r ∈ u.quill.replies, r.cmd = c ∧ r.opcode = op ∧ r.status = status ∧ (r.dropped = true ∨ r.params = params)

/-- A reply is queued in the state as it is, after the session's end when its numbers are used up, or in the session's record. -/
theorem pushReply_cases (s : State) (c : Cmd) (op status : Nat) (params : List Byte) (lane : Bool) : ∃ (u : State) (r : Reply),
    s.pushReply c op status params lane = { u with quill := { u.quill with replies := u.quill.replies ++ [r] } } ∧
      (u = s ∨ (∃ id, u = s.endSession id 2) ∨ ∃ y, u = s.setSession y) ∧
      r.cmd = c ∧ r.opcode = op ∧ r.status = status ∧ (r.dropped = true ∨ r.params = params) := by
  unfold State.pushReply
  dsimp only
  split
  · split
    · exact ⟨s, _, rfl, .inl rfl, rfl, rfl, rfl, .inr rfl⟩
    · exact ⟨s, _, rfl, .inl rfl, rfl, rfl, rfl, .inl rfl⟩
  · cases lane <;> simp only [Bool.false_eq_true, if_false, if_true] <;> split
    case false.isTrue | true.isTrue => exact ⟨_, _, rfl, .inr (.inl ⟨_, rfl⟩), rfl, rfl, rfl, .inl rfl⟩
    all_goals exact ⟨_, _, rfl, .inr (.inr ⟨_, rfl⟩), rfl, rfl, rfl, .inr rfl⟩

theorem answers_pushReply (s : State) (c : Cmd) (op status : Nat) (params : List Byte) (lane : Bool) :
    Answers s c op status params (s.pushReply c op status params lane) := by
  obtain ⟨u, r, hpush, hu, hr⟩ := pushReply_cases s c op status params lane
  have hstep : AnswerStep s u := by
    obtain rfl | ⟨id, rfl⟩ | ⟨y, rfl⟩ := hu
    · exact AnswerStep.refl _
    · exact answer_endSession s id 2
    · exact answer_quill s _ (List.Subset.refl s.quill.replies)
  rw [hpush]
  exact ⟨hstep.trans (answer_quill u _ (List.subset_append_left _ _)), r, List.mem_append_right _ List.mem_cons_self, hr⟩

theorem answers_replyLane (s : State) (c : Cmd) (op status : Nat) (params : List Byte) :
    Answers s c op status params (s.replyLane c op status params) := by
  obtain ⟨hpush, hreply⟩ := answers_pushReply (s.log 0x0002 codeVote (cmdDetail s c op status)) c op status params true
  exact ⟨((answer_log s _ _ _).trans hpush).trans (answer_quill _ _ fun _ h => h), hreply⟩

theorem answer_settleQueueFences (s : State) : AnswerStep s s.settleQueueFences := by
  refine AnswerStep.foldl (fun u f => ?_) _ s
  split
  · exact (answer_ductus u _ _).trans (answers_replyLane _ _ _ _ _).1
  · exact AnswerStep.refl u

theorem answers_reply (s : State) (c : Cmd) (op status : Nat) (params : List Byte) :
    Answers s c op status params (s.reply c op status params) := by
  obtain ⟨hstep, r, hr, hrest⟩ := answers_replyLane s c op status params
  have hsettle := answer_settleQueueFences (s.replyLane c op status params)
  exact ⟨hstep.trans hsettle, r, hsettle.2.2 hr, hrest⟩

theorem answer_replyOk (s : State) (c : Cmd) (op : Nat) : AnswerStep s (s.replyOk c op) := (answers_reply s c op _ _).1

theorem Answers.repliedWith {s u : State} {c : Cmd} {op status : Nat} {params : List Byte} (h : Answers s c op status params u) :
    u.repliedWith c op status := by
  obtain ⟨-, r, hr, hc, ho, hs, -⟩ := h
  exact ⟨r, hr, hc, ho, hs⟩

theorem AnswerStep.repliedWith {s t : State} (h : AnswerStep s t) {c : Cmd} {op status : Nat} (hr : s.repliedWith c op status) :
    t.repliedWith c op status := by
  obtain ⟨r, hmem, hrest⟩ := hr
  exact ⟨r, h.2.2 hmem, hrest⟩

/-! ### The state of a task -/

theorem taskStat_inj {j l : Lane} {n : Nat} (h : R.TASK_STAT j n = R.TASK_STAT l n) : j = l := by
  revert h
  cases j <;> cases l <;> simp [R.TASK_STAT, Lane.idx]

theorem taskResp_ne (l j : Lane) (n : Nat) :
    R.TASK_STAT j n ≠ R.TASK_RESP_MAX l n ∧ R.TASK_STAT j n ≠ R.TASK_RESP_LAST l n := by
  unfold R.TASK_STAT R.TASK_RESP_MAX R.TASK_RESP_LAST
  omega

theorem taskSt_of_reg {s t : State} {l : Lane} {n : Nat} (h : t.reg (R.TASK_STAT l n) = s.reg (R.TASK_STAT l n)) :
    t.taskSt l n = s.taskSt l n := congrArg taskStOf (fget_of_reg (f := F.TASK_STAT_STATE l n) h)

@[simp] theorem taskSt_tick (s : State) (t : Nat) (l : Lane) (n : Nat) : (s.tick t).taskSt l n = s.taskSt l n := by
  simp only [State.taskSt, fget_tick]

theorem taskSt_setTaskSt_same (s : State) (l : Lane) (n : Nat) (st : TaskSt) : (s.setTaskSt l n st).taskSt l n = st := by
  rw [State.taskSt, State.setTaskSt, fget_fput_same _ _ _ rfl]
  cases st <;> rfl

theorem taskSt_setTaskSt_other (s : State) {j l : Lane} {n : Nat} (st : TaskSt) (h : j ≠ l) :
    (s.setTaskSt l n st).taskSt j n = s.taskSt j n :=
  taskSt_of_reg (reg_fput_other s (F.TASK_STAT_STATE l n) _ fun he => h (taskStat_inj he))

theorem AnswerStep.taskSt {s t : State} (h : AnswerStep s t) (l : Lane) (n : Nat) : t.taskSt l n = s.taskSt l n :=
  taskSt_of_reg (h.reg (not_mem_answerRegs (by unfold R.TASK_STAT; omega)))

@[simp] theorem exec?_tick (s : State) (t : Nat) (l : Lane) (n : Nat) : (s.tick t).exec? l n = s.exec? l n := by
  simp only [State.exec?, lane_tick]

/-! ### The end of an execution -/

theorem answer_takeSnaps (s : State) (l : Lane) (f : Folio) (task : Nat) : AnswerStep s (s.takeSnaps l f task) := by
  unfold State.takeSnaps
  refine AnswerStep.foldl (fun u p => ?_) _ s
  dsimp only
  split
  · exact AnswerStep.refl u
  · split
    · exact ((answer_mwrite u _ _).trans (answer_ductus _ _ _)).trans (answer_replyOk _ _ _)
    · exact (answer_mwrite u _ _).trans (answer_ductus _ _ _)

/-- A LANE_OUT object that leaves the lane is held by the vote where the lane votes; of the lane only its egress counts move. -/
theorem sendOut_spec (s : State) (l : Lane) (task : Nat) (bytes : List Byte) (hv : s.isVoting l = true) :
    (⟨l, task, s.fabric.gen, bytes⟩ : OutObj) ∈ (s.sendOut l task bytes).vote.outs ∧ (s.sendOut l task bytes).regs = s.regs ∧
      (∀ j, j ≠ l → (s.sendOut l task bytes).lane j = s.lane j) ∧
      (s.sendOut l task bytes).lane l =
        { s.lane l with ep0 := ((s.sendOut l task bytes).lane l).ep0, ep1 := ((s.sendOut l task bytes).lane l).ep1 } := by
  have hhold : ∀ (u : State) (o : OutObj), u.isVoting o.lane = true →
      o ∈ (u.holdOut o).vote.outs ∧ (u.holdOut o).regs = u.regs ∧ ∀ j, (u.holdOut o).lane j = u.lane j := fun u o hu => by
    rw [holdOut_held hu]
    exact ⟨List.mem_append_right _ List.mem_cons_self, rfl, fun j => by cases j <;> rfl⟩
  have hsend : ∀ u : State, u.regs = s.regs → u.fabric.gen = s.fabric.gen → (∀ j, j ≠ l → u.lane j = s.lane j) →
      u.lane l = { s.lane l with ep0 := (u.lane l).ep0, ep1 := (u.lane l).ep1 } →
      let v := u.holdOut { lane := l, task := task, gen := u.fabric.gen, bytes := bytes }
      (⟨l, task, s.fabric.gen, bytes⟩ : OutObj) ∈ v.vote.outs ∧ v.regs = s.regs ∧ (∀ j, j ≠ l → v.lane j = s.lane j) ∧
      v.lane l = { s.lane l with ep0 := (v.lane l).ep0, ep1 := (v.lane l).ep1 } := by
    intro u hregs hgen hother hlane
    obtain ⟨hmem, hregs', hlanes⟩ := hhold u { lane := l, task := task, gen := u.fabric.gen, bytes := bytes }
      ((isVoting_of_regs hregs l).trans hv)
    rw [hgen] at hmem
    dsimp only
    rw [hlanes l, hregs', hregs, hgen]
    rw [hgen] at hlanes
    exact ⟨hmem, rfl, fun j hj => (hlanes j).trans (hother j hj), hlane⟩
  unfold State.sendOut
  dsimp only
  split
  · refine hsend _ ?_ ?_ (fun j hj => ?_) ?_
    · rw [setLane_regs, sendUnits_regs]
    · rw [setLane_fabric, sendUnits_gen]
    · rw [lane_setLane_other _ _ hj, sendUnits_lane]
    · rw [lane_setLane_same, sendUnits_lane]
      split <;> rfl
  · refine hsend _ (sendUnits_regs _ _ _ _ _ _ _) (sendUnits_gen _ _ _ _ _ _ _) (fun j _ => sendUnits_lane _ _ _ _ _ _ _ j) ?_
    rw [sendUnits_lane]

end Sys2Proof.Machine
end

section
/-! PROOF. An execution that ends in time sends its LANE_OUT object, and one whose outputs are discarded goes IDLE (R46, R79,
R80, R82). -/

namespace Sys2Proof.Machine

open State

/-- The state in which a finished execution's task becomes FINISHED: its response times are shown, and its object has left
where it can in time. -/
def finishOut (s : State) (l : Lane) (f : Folio) (task : Nat) (e : Exec) : State :=
  let bytes := laneOut l f (s.lane l).mem task ((s.book task).commits % 2 ^ 32)
  if s.inTime task e bytes.length then
    ((s.showRespMax l task e).fputSat (F.TASK_RESP_LAST_TIME l task) (s.respTime e)).sendOut l task bytes
  else s.showRespMax l task e

theorem exec_taskFinish {s : State} {f : Folio} {e : Exec} {l : Lane} {task : Nat} (t : Nat) (hf : s.folio.running = some f)
    (he : s.exec? l task = some e) (hend : e.ended = true) (hfault : ¬ e.faulted = true) (hdisc : ¬ e.discarded = true)
    (hst : s.taskSt l task = .released) :
    exec (.taskFinish l task t) s =
      .next (((finishOut (s.tick t) l f task e).setTaskSt l task .finished).takeSnaps l f task) := by
  have hlane : ∀ u v, ((s.tick t).fput u v).lane l = s.lane l := fun u v => by rw [lane_fput, lane_tick]
  have hbook : ∀ u v, ((s.tick t).fput u v).book task = s.book task := fun u v => by rw [← book_tick s t]; rfl
  have htime : ∀ u v n, ((s.tick t).fput u v).inTime task e n = (s.tick t).inTime task e n := fun _ _ _ => rfl
  have hresp : ∀ u v, ((s.tick t).fput u v).respTime e = (s.tick t).respTime e := fun _ _ => rfl
  simp only [exec, execTaskFinish, tick_folio, hf, exec?_tick, he, hend, hfault, hdisc, taskSt_tick, hst, finishOut,
    State.showRespMax, State.fputSat, hlane, hbook, htime, hresp, lane_tick, book_tick] <;> rfl

theorem reg_showRespMax_other (s : State) (l : Lane) (task : Nat) (e : Exec) {a : Nat} (h : a ≠ R.TASK_RESP_MAX l task) :
    (s.showRespMax l task e).reg a = s.reg a := reg_fput_other s (F.TASK_RESP_MAX_TIME l task) _ h

theorem lane_showRespMax (s : State) (l : Lane) (task : Nat) (e : Exec) (k : Lane) : (s.showRespMax l task e).lane k = s.lane k :=
  lane_fput s _ _ k

theorem laneState_ne_resp (k l : Lane) (n : Nat) : R.LANE_STATE k ≠ R.TASK_RESP_MAX l n ∧ R.LANE_STATE k ≠ R.TASK_RESP_LAST l n := by
  unfold R.LANE_STATE R.TASK_RESP_MAX R.TASK_RESP_LAST
  omega

theorem finishOut_in_time {s : State} {f : Folio} {e : Exec} {l : Lane} {task c : Nat} {k : Bool} (hv : s.isVoting l = true)
    (hdue : (s.book task).due = some (c, k))
    (hend : e.endAt + xferNs (laneOut l f (s.lane l).mem task ((s.book task).commits % 2 ^ 32)).length + 1000 ≤ c)
    (hnow : s.now + 1000 ≤ c) :
    (⟨l, task, s.fabric.gen, laneOut l f (s.lane l).mem task ((s.book task).commits % 2 ^ 32)⟩ : OutObj) ∈
        (finishOut s l f task e).vote.outs ∧
      (∀ j, (finishOut s l f task e).taskSt j task = s.taskSt j task) ∧
      (∀ j, j ≠ l → (finishOut s l f task e).lane j = s.lane j) ∧
      (finishOut s l f task e).lane l =
        { s.lane l with ep0 := ((finishOut s l f task e).lane l).ep0, ep1 := ((finishOut s l f task e).lane l).ep1 } := by
  have htime : s.inTime task e (laneOut l f (s.lane l).mem task ((s.book task).commits % 2 ^ 32)).length = true := by
    simp only [State.inTime, State.dueAt, hdue, Option.map_some, hend, hnow, decide_true, Bool.and_self]
  have hshown : ∀ a, a ≠ R.TASK_RESP_MAX l task → a ≠ R.TASK_RESP_LAST l task →
      ((s.showRespMax l task e).fputSat (F.TASK_RESP_LAST_TIME l task) (s.respTime e)).reg a = s.reg a := fun a hmax hlast =>
    (reg_fput_other _ (F.TASK_RESP_LAST_TIME l task) _ hlast).trans (reg_showRespMax_other s l task e hmax)
  have hlane : ∀ j, ((s.showRespMax l task e).fputSat (F.TASK_RESP_LAST_TIME l task) (s.respTime e)).lane j = s.lane j :=
    fun j => (lane_fput _ _ _ j).trans (lane_showRespMax s l task e j)
  have hvote : ((s.showRespMax l task e).fputSat (F.TASK_RESP_LAST_TIME l task) (s.respTime e)).isVoting l = true := by
    obtain ⟨hmax, hlast⟩ := laneState_ne_resp l l task
    rw [State.isVoting, laneSt_of_reg (hshown _ hmax hlast)]
    exact hv
  obtain ⟨hmem, hregs, hother, hsame⟩ := sendOut_spec _ l task
    (laneOut l f (s.lane l).mem task ((s.book task).commits % 2 ^ 32)) hvote
  rw [finishOut, if_pos htime]
  refine ⟨hmem, fun j => ?_, fun j hj => (hother j hj).trans (hlane j), hsame.trans (by rw [hlane])⟩
  obtain ⟨hmax, hlast⟩ := taskResp_ne l j task
  refine taskSt_of_reg (Eq.trans ?_ (hshown _ hmax hlast))
  simp only [State.reg, hregs]

theorem finishOut_late {s : State} {f : Folio} {e : Exec} {l : Lane} {task c : Nat} {k : Bool}
    (hdue : (s.book task).due = some (c, k))
    (hlate : c < e.endAt + xferNs (laneOut l f (s.lane l).mem task ((s.book task).commits % 2 ^ 32)).length + 1000 ∨
      c < s.now + 1000) : finishOut s l f task e = s.showRespMax l task e := by
  refine if_neg ?_
  simp only [State.inTime, State.dueAt, hdue, Option.map_some, Bool.and_eq_true, decide_eq_true_eq]
  omega

/-- FINISHED, and then the snapshots that waited for it (R80, R405). -/
theorem finished_spec (s : State) (l : Lane) (f : Folio) (task : Nat) : let v := (s.setTaskSt l task .finished).takeSnaps l f task
    v.taskSt l task = .finished ∧ v.vote = s.vote ∧ (∀ j, v.lane j = s.lane j) ∧ ∀ j, j ≠ l → v.taskSt j task = s.taskSt j task := by
  have hsnaps := answer_takeSnaps (s.setTaskSt l task .finished) l f task
  refine ⟨?_, hsnaps.vote, fun j => ?_, fun j hj => ?_⟩
  · rw [hsnaps.taskSt, taskSt_setTaskSt_same]
  · rw [hsnaps.lane]; exact lane_fput s _ _ j
  · rw [hsnaps.taskSt, taskSt_setTaskSt_other s _ hj]

theorem assoc_cellDel_same {α : Type} (m : List (Nat × α)) (a : Nat) : assoc (cellDel m a) a = none := by
  induction m with
  | nil => rfl
  | cons x m ih =>
    obtain ⟨b, v⟩ := x
    by_cases h : a = b
    · rw [cellDel, if_pos h]; exact ih
    · rw [cellDel, if_neg h, assoc, if_neg h]; exact ih

theorem exec_lateExecutionEnd {s : State} {e : Exec} {l : Lane} {task : Nat} (t : Nat) (he : s.exec? l task = some e)
    (hend : e.ended = true) (hlate : s.taskSt l task = .late ∨ e.discarded = true) :
    exec (.lateExecutionEnd l task t) s =
      .next ((((s.tick t).showRespMax l task e).dropExec l task).setTaskSt l task .idle) := by
  have hgone : (!e.ended || !(s.taskSt l task == .late || e.discarded)) = false := by
    obtain h | h := hlate <;> simp [hend, h]
  simp only [exec, execLateExecutionEnd, exec?_tick, he, taskSt_tick, hgone] <;> rfl

/-- Settles O16: by whether the object has left in time; the reply that a snapshot then draws leaves lanes and vote. -/
theorem executionsFinishOrEndLate : Obligations.ExecutionsFinishOrEndLate := by
  unfold Obligations.ExecutionsFinishOrEndLate
  refine ⟨?_, ?_, ?_⟩
  · intro s f e l task t c k hf _ he hend hfault hdisc hst hv hdue htime hnow
    obtain ⟨hmem, htasks, hother, hsame⟩ := finishOut_in_time (s := s.tick t) (f := f) (e := e) ((isVoting_tick s t l).trans hv)
      (by rw [book_tick]; exact hdue) (by rw [book_tick, lane_tick]; exact htime) hnow
    obtain ⟨hfinished, hvote, hlanes, htasks'⟩ := finished_spec (finishOut (s.tick t) l f task e) l f task
    rw [book_tick, lane_tick, tick_fabric] at hmem
    refine ⟨_, exec_taskFinish t hf he hend hfault hdisc hst, hfinished, ?_, fun j hj => ⟨?_, ?_⟩, ?_⟩
    · rw [hvote]; exact hmem
    · rw [htasks' j hj, htasks, taskSt_tick]
    · rw [hlanes, hother j hj, lane_tick]
    · rw [hlanes, hsame, lane_tick]
  · intro s f e l task t c k hf _ he hend hfault hdisc hst hdue hlate
    obtain ⟨hfinished, hvote, hlanes, -⟩ := finished_spec (finishOut (s.tick t) l f task e) l f task
    have hout : finishOut (s.tick t) l f task e = (s.tick t).showRespMax l task e :=
      finishOut_late (by rw [book_tick]; exact hdue) (by rw [book_tick, lane_tick]; exact hlate)
    refine ⟨_, exec_taskFinish t hf he hend hfault hdisc hst, hfinished, ?_, fun j => ?_⟩
    · rw [hvote, hout]; exact tick_vote s t
    · rw [hlanes, hout, lane_showRespMax, lane_tick]
  · intro s e l task t _ he hend hlate
    refine ⟨_, exec_lateExecutionEnd t he hend hlate, taskSt_setTaskSt_same _ l task .idle, ?_, ?_, ?_, fun a ha => ?_, fun j hj => ?_⟩
    · rw [State.exec?, State.setTaskSt, lane_fput, State.dropExec, lane_setLane_same]
      exact assoc_cellDel_same _ _
    · exact (setLane_vote _ l _).trans (tick_vote s t)
    · exact (setLane_mem _ l _).trans (tick_mem s t)
    · simp only [List.mem_cons, List.not_mem_nil, or_false, not_or] at ha
      rw [State.setTaskSt, reg_fput_other _ (F.TASK_STAT_STATE l task) _ ha.1, State.dropExec, reg_setLane,
        reg_showRespMax_other _ l task e ha.2, reg_tick]
    · rw [State.setTaskSt, lane_fput, State.dropExec, lane_setLane_other _ _ hj, lane_showRespMax, lane_tick]

end Sys2Proof.Machine
end

section
/-! PROOF. An element of a variable reads back what was written to it, whatever the lane's encoding (R43, R120, R123). -/

namespace Sys2Proof.Machine

open State

/-! ### Bytes of numbers -/

theorem leNat_leBytes (n v : Nat) : leNat (leBytes n v) = v % 256 ^ n := by
  induction n generalizing v with
  | zero => simp [leBytes, leNat, Nat.mod_one]
  | succ n ih =>
    have hpow : 256 ^ (n + 1) = 256 * 256 ^ n := Nat.pow_succ'
    rw [leBytes, leNat, ih, BitVec.toNat_ofNat, hpow]
    exact (Nat.mod_mul (x := v) (a := 256) (b := 256 ^ n)).symm

/-! ### Values of types -/

/-- Reduction to a type's width looks at the low bits alone (R120). -/
theorem wrapReg_congr {ty : Ty} {x y : Int} (h : x % ((2 ^ tyWidth ty : Nat) : Int) = y % ((2 ^ tyWidth ty : Nat) : Int)) :
    wrapReg ty x = wrapReg ty y := by
  simp only [wrapReg, h]

theorem tyWidth_le (ty : Ty) : tyWidth ty ≤ 64 := by cases ty <;> decide

theorem tySize_pow {ty : Ty} (h : ty ≠ .bool) : 256 ^ tySize ty = 2 ^ tyWidth ty := by
  cases ty
  case bool => exact absurd rfl h
  all_goals rfl

/-- Signed or not, a register's integer has the low bits of its pattern. -/
theorem regInt_emod (ty : Ty) (v : DWord) : regInt ty v % ((2 ^ tyWidth ty : Nat) : Int) = (v.toNat : Int) % ((2 ^ tyWidth ty : Nat) : Int) := by
  have hdvd : ((2 ^ tyWidth ty : Nat) : Int) ∣ ((2 ^ 64 : Nat) : Int) := Int.natCast_dvd_natCast.mpr (Nat.pow_dvd_pow 2 (tyWidth_le ty))
  unfold regInt
  split
  · rw [← Int.emod_emod_of_dvd v.toInt hdvd, ← Int.emod_emod_of_dvd (v.toNat : Int) hdvd, BitVec.toInt_eq_toNat_bmod, Int.bmod_emod]
  · rfl

theorem wrapReg_of_fits {ty : Ty} {v : DWord} (hb : ty ≠ .bool) (h : regFits ty v = true) : wrapReg ty (v.toNat : Int) = v := by
  have hint : wrapReg ty (regInt ty v) = v → wrapReg ty (v.toNat : Int) = v :=
    fun he => (wrapReg_congr (regInt_emod ty v).symm).trans he
  cases ty <;> simp only [regFits, beq_iff_eq, decide_eq_true_eq] at h
  case bool => exact absurd rfl hb
  case real32 =>
    have hmod : (v.toNat : Int) % (((2 ^ tyWidth .real32 : Nat)) : Int) = v.toNat := by
      rw [show tyWidth .real32 = 32 from rfl]; omega
    rw [wrapReg, hmod]
    exact (BitVec.ofInt_natCast 64 v.toNat).trans ((BitVec.ofNat_toNat 64 v).trans (BitVec.setWidth_eq v))
  all_goals exact hint h

theorem regOfBytes_bytesOfReg {ty : Ty} {v : DWord} (h : regFits ty v = true) : regOfBytes ty (bytesOfReg ty v) = v := by
  by_cases hb : ty = .bool
  · subst hb
    have hv : v.toNat ≤ 1 := by simpa [regFits] using h
    refine BitVec.eq_of_toNat_eq ?_
    simp only [regOfBytes, bytesOfReg, tySize, beq_self_eq_true, if_true, List.take_succ_cons, List.take_zero, leNat, BitVec.toNat_ofNat]
    omega
  · have hne : (ty == .bool) = false := beq_eq_false_iff_ne.mpr hb
    simp only [regOfBytes, bytesOfReg, hne, Bool.false_eq_true, if_false]
    rw [List.take_of_length_le (Nat.le_of_eq (leBytes_length _ _)), leNat_leBytes, tySize_pow hb]
    refine Eq.trans (wrapReg_congr ?_) (wrapReg_of_fits hb h)
    push_cast
    exact Int.emod_emod_of_dvd _ (dvd_refl _)

theorem bytesOfReg_length (ty : Ty) (v : DWord) : (bytesOfReg ty v).length = tySize ty := by
  unfold bytesOfReg
  split
  · rename_i h
    rw [beq_iff_eq.mp h]; rfl
  · exact leBytes_length _ _

/-! ### Stored bytes -/

theorem encodeByte_encodeByte (l : Lane) (b : Byte) : encodeByte l (encodeByte l b) = b := by
  cases l <;> simp [encodeByte]

/-- Two logical offsets of one line lie in one stored line (R43). -/
theorem storedKey_ne {l : Lane} {f : Folio} {seg x y : Nat} (hline : x / 64 = y / 64) (hne : x ≠ y) :
    storedKey l f seg x ≠ storedKey l f seg y := by
  unfold storedKey storedOff
  rw [hline]
  omega

theorem rdByte_wrByte_same (l : Lane) (f : Folio) (m : List Host.Cell) (seg off : Nat) (b : Byte) :
    rdByte l f (wrByte l f m seg off b) seg off = b := by
  rw [rdByte, wrByte, cellGet_cellSet_same, encodeByte_encodeByte]

theorem rdByte_wrByte_other {l : Lane} {f : Folio} (m : List Host.Cell) {seg x y : Nat} (b : Byte) (hline : x / 64 = y / 64)
    (hne : x ≠ y) : rdByte l f (wrByte l f m seg y b) seg x = rdByte l f m seg x := by
  rw [rdByte, wrByte, cellGet_cellSet_other _ _ _ _ (storedKey_ne hline hne), rdByte]

theorem rdByte_wrBytes_below {l : Lane} {f : Folio} (m : List Host.Cell) {seg x off : Nat} (bs : List Byte)
    (hline : x % 64 + (off - x) + bs.length ≤ 64) (hx : x < off) : rdByte l f (wrBytes l f m seg off bs) seg x = rdByte l f m seg x := by
  induction bs generalizing m off with
  | nil => rfl
  | cons b bs ih =>
    rw [List.length_cons] at hline
    rw [wrBytes, ih _ (by omega) (by omega)]
    exact rdByte_wrByte_other m b (by omega) (by omega)

/-- Bytes written within a line read back. -/
theorem rdBytes_wrBytes {l : Lane} {f : Folio} (m : List Host.Cell) {seg off : Nat} (bs : List Byte) (hline : off % 64 + bs.length ≤ 64) :
    rdBytes l f (wrBytes l f m seg off bs) seg off bs.length = bs := by
  induction bs generalizing m off with
  | nil => rfl
  | cons b bs ih =>
    rw [List.length_cons] at hline
    rw [wrBytes, List.length_cons, rdBytes, rdByte_wrBytes_below _ bs (by omega) (Nat.lt_succ_self off), rdByte_wrByte_same]
    congr 1
    obtain hlast | hmore := Nat.eq_zero_or_pos bs.length
    · rw [List.length_eq_zero_iff.mp hlast]; rfl
    · exact ih _ (by omega)

/-- An element at an offset that its size divides lies within a line (R123). -/
theorem elem_in_line {off n : Nat} (i : Nat) (hn : n = 1 ∨ n = 2 ∨ n = 4 ∨ n = 8) (h : off % n = 0) : (off + i * n) % 64 + n ≤ 64 := by
  obtain rfl | rfl | rfl | rfl := hn <;> omega

theorem tySize_cases (ty : Ty) : tySize ty = 1 ∨ tySize ty = 2 ∨ tySize ty = 4 ∨ tySize ty = 8 := by cases ty <;> decide

theorem rdElem_wrElem {f : Folio} {v : VarRec} {x : DWord} (l : Lane) (m : List Host.Cell) (i : Nat)
    (halign : v.offset % tySize v.ty = 0) (hfits : regFits v.ty x = true) : rdElem l f (wrElem l f m v i x) v i = x := by
  have hline := elem_in_line i (tySize_cases v.ty) halign
  have hread := rdBytes_wrBytes (l := l) (f := f) m (seg := v.segment) (off := v.offset + i * tySize v.ty) (bytesOfReg v.ty x)
    (by rw [bytesOfReg_length]; exact hline)
  rw [bytesOfReg_length] at hread
  rw [rdElem, wrElem, hread, regOfBytes_bytesOfReg hfits]

end Sys2Proof.Machine
end

section
/-! PROOF. Loads and stores of variables by Stroke, and the INDEX fault (R123, R124, R143). -/

namespace Sys2Proof.Machine

open State

theorem strokeStep_running {x : Ctx} {s : State} {e : Exec} (k : Exec → State) (h : s.running x = some e) :
    strokeStep x s k = .next (k e) := by
  simp [strokeStep, h]

theorem elemIndex_inside {e : Exec} {a : Reg} {v : VarRec} {i : Nat} (hi : regInt (e.ty a) (e.val a) = i) (hc : i < v.count) :
    elemIndex e a v = some i := by
  have hin : (0 : Int) ≤ i ∧ (i : Int) < v.count := by omega
  simp only [elemIndex, hi, hin, and_self, if_true, Int.toNat_natCast]

theorem elemIndex_outside {e : Exec} {a : Reg} {v : VarRec}
    (h : regInt (e.ty a) (e.val a) < 0 ∨ (v.count : Int) ≤ regInt (e.ty a) (e.val a)) : elemIndex e a v = none :=
  if_neg (by omega)

/-! ### Stores -/

/-- `t` differs from `s` in lanes' notes of lines to copy again. -/
def NotesOnly (s t : State) : Prop :=
  t.regs = s.regs ∧ t.mem = s.mem ∧ ∀ k, t.lane k = { s.lane k with rewritten := (t.lane k).rewritten }

theorem NotesOnly.refl (s : State) : NotesOnly s s := ⟨rfl, rfl, fun _ => rfl⟩

theorem NotesOnly.trans {s t u : State} (h : NotesOnly s t) (h' : NotesOnly t u) : NotesOnly s u := by
  obtain ⟨hregs, hmem, hlane⟩ := h
  obtain ⟨hregs', hmem', hlane'⟩ := h'
  exact ⟨hregs'.trans hregs, hmem'.trans hmem, fun k => by rw [hlane' k, hlane k]⟩

theorem notesOnly_noteRewrite (s : State) (l : Lane) (seg off n : Nat) : NotesOnly s (s.noteRewrite l seg off n) := by
  have hnote : ∀ (u : State) (d : Lane) (xs : List (Nat × Nat)), NotesOnly u (u.setLane d { u.lane d with rewritten := xs }) :=
    fun u d xs => ⟨setLane_regs u d _, setLane_mem u d _, fun k => by
      by_cases hk : k = d
      · subst hk; rw [lane_setLane_same]
      · rw [lane_setLane_other _ _ hk]⟩
  unfold State.noteRewrite
  split
  · exact NotesOnly.refl s
  · refine foldl_keeps (P := fun u => NotesOnly s u) (fun u d hu => ?_) _ (NotesOnly.refl s)
    split
    · exact hu.trans (hnote u d _)
    · exact hu

/-- A store writes the element in its lane and goes on (R123). -/
theorem strokeStore_spec {s : State} {x : Ctx} {e : Exec} {f : Folio} {v : VarRec} {src : Reg} (i : Nat)
    (halign : v.offset % tySize v.ty = 0) (hfits : regFits v.ty (e.val src) = true) : let w := strokeStore x s e src f v i
    rdElem x.lane f (w.lane x.lane).mem v i = e.val src ∧ w.regs = s.regs ∧ w.mem = s.mem ∧
      w.exec? x.lane x.task = some (e.at_ (e.pc + 2)) ∧
      ∀ k, k ≠ x.lane → w.lane k = { s.lane k with rewritten := (w.lane k).rewritten } := by
  obtain ⟨hregs, hmem, hlane⟩ := notesOnly_noteRewrite
    (s.setLane x.lane { s.lane x.lane with mem := wrElem x.lane f (s.lane x.lane).mem v i (e.val src) }) x.lane v.segment
    (v.offset + i * tySize v.ty) (tySize v.ty)
  intro w
  refine ⟨?_, ?_, ?_, ?_, fun k hk => ?_⟩
  · have hown := hlane x.lane
    rw [lane_setLane_same] at hown
    have hwritten : (w.lane x.lane).mem = wrElem x.lane f (s.lane x.lane).mem v i (e.val src) := by
      simp only [w, strokeStore, State.setExec, State.storeElem, State.noteWrite, State.writeElem, lane_setLane_same]
      exact congrArg LaneState.mem hown
    rw [hwritten, rdElem_wrElem x.lane _ i halign hfits]
  · exact (setLane_regs _ _ _).trans ((setLane_regs _ _ _).trans (hregs.trans (setLane_regs _ _ _)))
  · exact (setLane_mem _ _ _).trans ((setLane_mem _ _ _).trans (hmem.trans (setLane_mem _ _ _)))
  · rw [State.exec?]
    simp only [w, strokeStore, State.setExec, lane_setLane_same, assoc_cellIns_same]
    rfl
  · have hother := hlane k
    rw [lane_setLane_other _ _ hk] at hother
    simp only [w, strokeStore, State.setExec, State.storeElem, State.noteWrite, State.writeElem, lane_setLane_other _ _ hk]
    exact hother

/-! ### The INDEX fault -/

/-- `t` differs from `s` by answers and by what the ductus keeps. -/
def EndStep (s t : State) : Prop :=
  (∃ regs mem brg quill ductus, t = { s with regs := regs, mem := mem, brg := brg, quill := quill, ductus := ductus }) ∧
  State.RegsKept answerRegs s t

namespace EndStep

variable {s t u : State}

theorem refl (s : State) : EndStep s s := ⟨⟨_, _, _, _, _, rfl⟩, fun _ _ => rfl⟩

theorem trans (h : EndStep s t) (h' : EndStep t u) : EndStep s u := by
  obtain ⟨⟨_, _, _, _, _, rfl⟩, hreg⟩ := h
  obtain ⟨⟨_, _, _, _, _, rfl⟩, hreg'⟩ := h'
  exact ⟨⟨_, _, _, _, _, rfl⟩, fun a ha => (hreg' a ha).trans (hreg a ha)⟩

theorem of_answer (h : AnswerStep s t) : EndStep s t := by
  obtain ⟨⟨_, _, _, _, _, _, rfl⟩, hreg, -⟩ := h
  exact ⟨⟨_, _, _, _, _, rfl⟩, hreg⟩

theorem ductus (s : State) (d : Ductus) : EndStep s { s with ductus := d } := ⟨⟨_, _, _, _, _, rfl⟩, fun _ _ => rfl⟩

theorem lane (h : EndStep s t) (l : Lane) : t.lane l = s.lane l := by
  obtain ⟨⟨_, _, _, _, _, rfl⟩, -⟩ := h
  cases l <;> rfl

theorem foldl {α : Type} {k : State → α → State} (hk : ∀ s x, EndStep s (k s x)) (xs : List α) (s : State) :
    EndStep s (xs.foldl k s) := foldl_keeps (P := fun t => EndStep s t) (fun t x ht => ht.trans (hk t x)) xs (refl s)

end EndStep

theorem endStep_takeAlarms (s : State) (f : Folio) (l : Lane) (v : VarRec) : EndStep s (s.takeAlarms f l v) := by
  refine EndStep.foldl (fun u r => ?_) f.tasks s
  split
  · exact EndStep.ductus u _
  · exact EndStep.refl u

theorem endStep_settleRead (s : State) (p : PendRead) : EndStep s (s.settleRead p) := by
  unfold State.settleRead
  split
  · exact EndStep.ductus s _
  · exact (EndStep.ductus s _).trans (EndStep.of_answer (answers_reply _ _ _ _ _).1)

theorem endStep_readsAtEnd (s : State) (f : Folio) (l : Lane) (task release : Nat) : EndStep s (s.readsAtEnd f l task release) := by
  refine EndStep.foldl (fun u p => ?_) s.ductus.reads s
  split
  · exact endStep_settleRead u _
  · exact EndStep.refl u

theorem endStep_endReads (s : State) (x : Ctx) (release : Nat) : EndStep s (s.endReads x release) := by
  unfold State.endReads
  split
  · exact EndStep.refl s
  · rename_i f _
    split
    · exact EndStep.refl s
    · have halarms : ∀ u : State, EndStep u ((f.ownVars x.task).foldl
          (fun s v => if v.segment == segRet && v.ty == .time then s.takeAlarms f x.lane v else s) u) := fun u =>
        EndStep.foldl (fun w v => by
          split
          · exact endStep_takeAlarms w f x.lane v
          · exact EndStep.refl w) _ u
      exact ((EndStep.ductus s _).trans (halarms _)).trans (endStep_readsAtEnd _ f x.lane x.task release)

/-- An execution that ends: its pair may go on with another, the registers stay (R78). -/
theorem closeExec_spec (s : State) (l : Lane) (n : Nat) (e : Exec) :
    (s.closeExec l n e).exec? l n = some { e with ended := true, endAt := s.now } ∧ (s.closeExec l n e).regs = s.regs ∧
      ((s.closeExec l n e).lane l).mem = (s.lane l).mem := by
  have hclosed : (s.setExec l n { e with ended := true, endAt := s.now }).exec? l n = some { e with ended := true, endAt := s.now } := by
    rw [State.exec?, State.setExec, lane_setLane_same]
    exact assoc_cellIns_same _ _ _
  have hset : (s.setExec l n { e with ended := true, endAt := s.now }).regs = s.regs ∧
      ((s.setExec l n { e with ended := true, endAt := s.now }).lane l).mem = (s.lane l).mem :=
    ⟨setLane_regs _ _ _, by rw [State.setExec, lane_setLane_same]⟩
  have hpick : ∀ (u : State) ep now, (u.reschedule l ep now).exec? l n = u.exec? l n ∧ (u.reschedule l ep now).regs = u.regs ∧
      ((u.reschedule l ep now).lane l).mem = (u.lane l).mem := fun u ep now => by
    refine ⟨?_, setLane_regs _ _ _, ?_⟩ <;> simp only [State.exec?, State.reschedule, lane_setLane_same]
  unfold State.closeExec
  dsimp only
  split
  · obtain ⟨hexec, hregs, hmem⟩ := hpick (s.setExec l n { e with ended := true, endAt := s.now }) _
      (s.setExec l n { e with ended := true, endAt := s.now }).now
    exact ⟨hexec.trans hclosed, hregs.trans hset.1, hmem.trans hset.2⟩
  · exact ⟨hclosed, hset⟩

/-- The registers of a task fault (R143). -/
def faultShown (s : State) (x : Ctx) (e : Exec) (cause : Nat) : State :=
  ((s.fput (F.TASK_FAULT_CAUSE x.lane x.task) cause).fput (F.TASK_FAULT_WORD x.lane x.task) e.pc).fput
    (F.TASK_STAT_FAULT x.lane x.task) 1

theorem taskFault_ne (l : Lane) {n : Nat} (h : n < 64) : R.TASK_FAULT l n ≠ R.TASK_STAT l n ∧ R.TASK_FAULT l n ∉ answerRegs := by
  exact ⟨by unfold R.TASK_FAULT R.TASK_STAT; omega, not_mem_answerRegs (by unfold R.TASK_FAULT; omega)⟩

theorem fget_faultShown (s : State) (x : Ctx) (e : Exec) {cause : Nat} (hn : x.task < 64) (hc : cause < 16) :
    (faultShown s x e cause).fget (F.TASK_FAULT_CAUSE x.lane x.task) = cause := by
  rw [faultShown, fget_of_reg (reg_fput_other _ (F.TASK_STAT_FAULT x.lane x.task) _ (taskFault_ne x.lane hn).1),
    fget_fput_other _ _ _ _ rfl rfl (by simp [bitsApart, F.TASK_FAULT_CAUSE, F.TASK_FAULT_WORD]), fget_fput_same _ _ _ rfl]
  exact Nat.mod_eq_of_lt (show cause < 2 ^ 4 from hc)

/-- A task fault ends the execution as faulted and records its cause; the lane's memory stays (R84, R143). -/
theorem taskFault_spec (s : State) (x : Ctx) (e : Exec) {cause : Nat} (hn : x.task < 64) (hc : cause < 16) : let w := s.taskFault x e cause
    w.exec? x.lane x.task = some { e with ended := true, endAt := s.now, faulted := true } ∧
      w.fget (F.TASK_FAULT_CAUSE x.lane x.task) = cause ∧ (w.lane x.lane).mem = (s.lane x.lane).mem := by
  obtain ⟨hexec, hregs, hmem⟩ := closeExec_spec (faultShown s x e cause) x.lane x.task { e with faulted := true }
  have hlane : (faultShown s x e cause).lane x.lane = s.lane x.lane := by simp only [faultShown, lane_fput]
  have hfault := fget_faultShown s x e hn hc
  have hshown : ∀ u : State, u.lane x.lane = ((faultShown s x e cause).closeExec x.lane x.task { e with faulted := true }).lane x.lane →
      u.reg (R.TASK_FAULT x.lane x.task) = (faultShown s x e cause).reg (R.TASK_FAULT x.lane x.task) → let w := u.endReads x e.release
      w.exec? x.lane x.task = some { e with ended := true, endAt := s.now, faulted := true } ∧
      w.fget (F.TASK_FAULT_CAUSE x.lane x.task) = cause ∧ (w.lane x.lane).mem = (s.lane x.lane).mem := fun u hu hreg => by
    have hend := endStep_endReads u x e.release
    refine ⟨?_, ?_, ?_⟩
    · rw [State.exec?, hend.lane, hu]
      exact hexec
    · rw [fget_of_reg (hend.2 _ (taskFault_ne x.lane hn).2), fget_of_reg (f := F.TASK_FAULT_CAUSE x.lane x.task) hreg, hfault]
    · rw [hend.lane, hu, hmem, hlane]
  have hreg : ((faultShown s x e cause).closeExec x.lane x.task { e with faulted := true }).reg (R.TASK_FAULT x.lane x.task) =
      (faultShown s x e cause).reg (R.TASK_FAULT x.lane x.task) := by simp only [State.reg, hregs]
  have hstate : s.taskFault x e cause = (if ((faultShown s x e cause).closeExec x.lane x.task { e with faulted := true }).taskSt x.lane x.task ==
      .released && !e.discarded then ((faultShown s x e cause).closeExec x.lane x.task { e with faulted := true }).setTaskSt x.lane x.task .finished
      else (faultShown s x e cause).closeExec x.lane x.task { e with faulted := true }).endReads x e.release := rfl
  rw [hstate]
  split
  · exact hshown _ (lane_fput _ _ _ _) ((reg_fput_other _ (F.TASK_STAT_STATE x.lane x.task) _ (taskFault_ne x.lane hn).1).trans hreg)
  · exact hshown _ rfl hreg

/-- Settles O26: an element lies within one line, where the lane's encoding keeps its bytes apart and is its own inverse. -/
theorem strokeVariablesAreStoredInTheLanesEncoding : Obligations.StrokeVariablesAreStoredInTheLanesEncoding := by
  unfold Obligations.StrokeVariablesAreStoredInTheLanesEncoding
  refine ⟨?_, ?_, ?_, ?_⟩
  · intro s x e f v d a var hrun hvar
    refine ⟨(strokeStep_running _ hrun).trans ?_, fun i hi hc => (strokeStep_running _ hrun).trans ?_⟩
    · simp only [hvar]
    · simp only [hvar, elemIndex_inside hi hc]
  · intro s x e f v src var hrun hvar halign hfits
    refine ⟨strokeStore x s e src f v 0, (strokeStep_running _ hrun).trans ?_, strokeStore_spec 0 halign hfits⟩
    simp only [hvar]
  · intro s x e f v src a var i hrun hvar halign hfits hi hc
    refine ⟨strokeStore x s e src f v i, (strokeStep_running _ hrun).trans ?_, strokeStore_spec i halign hfits⟩
    simp only [hvar, elemIndex_inside hi hc]
  · intro s x e f v d src a var hrun hn hvar hout
    refine ⟨⟨s.taskFault x e faultIndex, (strokeStep_running _ hrun).trans ?_, taskFault_spec s x e hn (by decide)⟩,
      s.taskFault x e faultIndex, (strokeStep_running _ hrun).trans ?_, taskFault_spec s x e hn (by decide)⟩
    · simp only [hvar, elemIndex_outside hout]
    · simp only [hvar, elemIndex_outside hout]

end Sys2Proof.Machine
end

section
/-! PROOF. An admitted LANE-class command is accepted and takes its effect, or is refused by its own check (R400, R401). -/

namespace Sys2Proof.Machine

open State

/-! ### What an answer leaves unchanged -/

namespace AnswerStep

variable {s t : State}

theorem folio (h : AnswerStep s t) : t.folio = s.folio := by
  obtain ⟨⟨_, _, _, _, _, _, rfl⟩, -⟩ := h
  rfl

theorem now (h : AnswerStep s t) : t.now = s.now := by
  obtain ⟨⟨_, _, _, _, _, _, rfl⟩, -⟩ := h
  rfl

theorem ductus (h : AnswerStep s t) : t.ductus = { s.ductus with fences := t.ductus.fences, snaps := t.ductus.snaps } := by
  obtain ⟨⟨_, _, _, _, _, _, rfl⟩, -⟩ := h
  rfl

theorem reads (h : AnswerStep s t) : t.ductus.reads = s.ductus.reads := by rw [h.ductus]
theorem writes (h : AnswerStep s t) : t.ductus.writes = s.ductus.writes := by rw [h.ductus]
theorem forces (h : AnswerStep s t) : t.ductus.forces = s.ductus.forces := by rw [h.ductus]

theorem fget (h : AnswerStep s t) {f : Field} (hf : f.off ∉ answerRegs) : t.fget f = s.fget f := fget_of_reg (h.reg hf)

theorem laneSt (h : AnswerStep s t) (l : Lane) : t.laneSt l = s.laneSt l :=
  laneSt_of_reg (h.reg (not_mem_answerRegs (by unfold R.LANE_STATE; omega)))

theorem voters (h : AnswerStep s t) : t.voters = s.voters := voters_of_laneSt h.laneSt

theorem notActing (h : AnswerStep s t) : t.notActing = s.notActing := by
  simp only [State.notActing, State.role, h.fget (f := F.DUP_STAT_ROLE) (by decide)]

theorem standstill (h : AnswerStep s t) : t.standstill = s.standstill := by
  simp only [State.standstill, h.fget (f := F.SSM_STATE_MOTION) (by decide)]

theorem modeNow (h : AnswerStep s t) : t.modeNow = s.modeNow := by
  simp only [State.modeNow, h.fget (f := F.VOTE_CTRL_MODE) (by decide)]

theorem taskRec (h : AnswerStep s t) (n : Nat) : t.taskRec n = s.taskRec n := by
  simp only [State.taskRec, h.folio]

end AnswerStep

/-! ### Sessions -/

/-- The session of `c` is open on its path, was not opened in BLANK and has level `lvl`. -/
def OpenFor (u : State) (c : Cmd) (lvl : Nat) : Prop :=
  ∃ x, u.session c.session = some x ∧ x.opened = true ∧ (x.path == u.pathOf c.queue) = true ∧ x.blank = false ∧ lvl ≤ x.level

theorem admits_iff {u : State} {c : Cmd} {lvl : Nat} : u.admits c lvl = true ↔
    u.preAccepted c = none ∧ 2 ≤ u.voters.length ∧ u.fenced c = false ∧ OpenFor u c lvl := by
  unfold State.admits OpenFor
  cases hs : u.session c.session <;> simp [and_assoc]

theorem admitsUnfenced_iff {u : State} {c : Cmd} {lvl : Nat} : u.admitsUnfenced c lvl = true ↔
    u.preAccepted c = none ∧ 2 ≤ u.voters.length ∧ OpenFor u c lvl := by
  unfold State.admitsUnfenced OpenFor
  cases hs : u.session c.session <;> simp [and_assoc]

theorem OpenFor.sessionOk {u : State} {c : Cmd} {lvl : Nat} (h : OpenFor u c lvl) : u.sessionOk c = true := by
  obtain ⟨x, hx, hopen, hpath, -⟩ := h
  simp only [State.sessionOk, hx, hopen, hpath, Bool.and_self]

theorem session_touch {u : State} {id : Nat} {x : Session} (h : u.session id = some x) :
    (u.touch id).session id = some { x with lastAt := u.mono } := by
  have hid : x.id = id := by simpa using List.find?_some h
  have hkeep : ((fun y : Session => y.id == id) ∘ fun y => if y.id == x.id then { x with lastAt := u.mono } else y) =
      fun y => y.id == id := by
    funext y
    by_cases hy : y.id = id <;> simp [hid, hy]
  have hfind : (u.quill.sessions.find? fun y => y.id == id) = some x := h
  rw [State.touch, h]
  show (u.quill.sessions.map fun y => if y.id == x.id then { x with lastAt := u.mono } else y).find? (·.id == id) = _
  rw [List.find?_map, hkeep, hfind]
  simp

theorem preCheck_touch {u : State} {c : Cmd} {lvl : Nat} (op : Nat) (h : OpenFor u c lvl) :
    (u.touch c.session).preCheck c op lvl true = .accept := by
  obtain ⟨x, hx, -, -, hblank, hlvl⟩ := h
  have hlow : ¬ x.level < lvl := Nat.not_lt.mpr hlvl
  simp only [State.preCheck, session_touch hx, Bool.not_true, Bool.false_eq_true, if_false, hblank, Bool.false_and, hlow]

theorem answer_touch (u : State) (id : Nat) : AnswerStep u (u.touch id) := by
  unfold State.touch
  split
  · exact answer_quill u _ (List.Subset.refl _)
  · exact AnswerStep.refl u

/-- Touching a session changes nothing else of the commands. -/
theorem touch_quill (u : State) (id : Nat) : (u.touch id).quill = { u.quill with sessions := (u.touch id).quill.sessions } := by
  unfold State.touch
  split <;> rfl

theorem touch_frame (u : State) (id : Nat) : u.touch id = { u with quill := (u.touch id).quill } := by
  unfold State.touch
  split <;> rfl

/-! ### Acceptance and refusal -/

theorem answer_acceptCmd (u : State) (c : Cmd) (op : Nat) : AnswerStep u (u.acceptCmd c op) := by
  have hcount : AnswerStep u (u.finc F.QUILL_ACCEPT_COUNT) :=
    ⟨⟨_, _, _, _, _, _, rfl⟩, fun a ha => reg_fput_other u F.QUILL_ACCEPT_COUNT _ fun h =>
      ha (h ▸ (by decide : R.QUILL_ACCEPT ∈ answerRegs)), List.Subset.refl _⟩
  exact (hcount.trans (answer_log _ _ _ _)).trans (answer_quill _ _ (List.Subset.refl _))

theorem answer_taken (u : State) (c : Cmd) (op : Nat) : AnswerStep u (u.taken c op) :=
  (answer_touch u c.session).trans (answer_acceptCmd _ c op)

/-- What acceptance leaves of the commands: this one waits for its reply and is not held (R401). -/
theorem taken_quill (u : State) (c : Cmd) (op : Nat) :
    (u.taken c op).quill = { u.quill with
      sessions := (u.touch c.session).quill.sessions, cmds := u.quill.cmds ++ [⟨c, op, u.now, true⟩]
      held := u.quill.held.filter (·.cmd != c), logCount := u.quill.logCount + 1 } := by
  rw [State.taken, touch_frame, touch_quill]
  rfl

theorem taken_replies (u : State) (c : Cmd) (op : Nat) : (u.taken c op).quill.replies = u.quill.replies := by
  rw [taken_quill]

theorem taken_ductus (u : State) (c : Cmd) (op : Nat) : (u.taken c op).ductus = u.ductus := by
  rw [State.taken, touch_frame]
  rfl

/-- A refused command is answered with its status; of FOLIO_SWITCH and SESSION_OPEN more is shown (R395, R401). -/
theorem refuseCmd_spec (u : State) (c : Cmd) {op : Nat} (status index : Nat) (hf : op ≠ opFolioSwitch) (ho : op ≠ 0x0801) :
    AnswerStep u (u.refuseCmd c op status index) ∧ (u.refuseCmd c op status index).repliedWith c op status := by
  have hcount : AnswerStep u (u.fsat F.QUILL_REFUSE_COUNT) :=
    ⟨⟨_, _, _, _, _, _, rfl⟩, fun a ha => reg_fsat_other u F.QUILL_REFUSE_COUNT fun h =>
      ha (h ▸ (by decide : R.QUILL_REFUSE ∈ answerRegs)), List.Subset.refl _⟩
  have hf' : (op == opFolioSwitch && status == stCheckFail) = false := by simp [hf]
  have ho' : (op == 0x0801 && status == stAuthFail) = false := by simp [ho]
  have hbefore : ∀ v : State, AnswerStep u v → AnswerStep u
      ({ v with quill := { v.quill with held := v.quill.held.filter (·.cmd != c) } } : State) := fun v hv =>
    hv.trans (answer_quill v _ (List.Subset.refl _))
  unfold State.refuseCmd
  simp only [hf', ho', Bool.false_eq_true, if_false]
  have hreply : ∀ v : State, AnswerStep u v → AnswerStep u (v.replyErr c op status index) ∧
      (v.replyErr c op status index).repliedWith c op status := fun v hv => by
    have hanswer := answers_reply v c op status (indexParams index)
    exact ⟨hv.trans hanswer.1, hanswer.repliedWith⟩
  exact hreply _ (hbefore _ (hcount.trans (answer_log _ _ _ _)))

/-! ### One LANE-class command -/

theorem runLane_checked {s : State} {c : Cmd} {t op lvl : Nat} {lenOk : Bool} {own : State → Verdict} {effect : State → Nat → State}
    (h : (s.tick t).admits c lvl = true) (hlen : lenOk = true) : s.runLane c t op lvl lenOk own effect =
      match own ((s.tick t).touch c.session) with
      | .accept => effect ((s.tick t).taken c op) (s.tick t).now
      | .refuse st i => ((s.tick t).touch c.session).refuseCmd c op st i := by
  obtain ⟨hpre, hvoters, hfence, hopen⟩ := admits_iff.mp h
  have hvoters' : ¬ (s.tick t).voters.length < 2 := Nat.not_lt.mpr hvoters
  have hnow : ((s.tick t).touch c.session).now = (s.tick t).now := (answer_touch _ _).now
  subst hlen
  simp only [State.runLane, hpre, hvoters', hfence, hopen.sessionOk, State.verdict, preCheck_touch op hopen, hnow, if_false,
    Bool.false_eq_true, Bool.not_true] <;> rfl

theorem runLane_accepts {s : State} {c : Cmd} {t op lvl : Nat} {lenOk : Bool} {own : State → Verdict} {effect : State → Nat → State}
    (h : (s.tick t).admits c lvl = true) (hlen : lenOk = true) (hown : own ((s.tick t).touch c.session) = .accept) :
    s.runLane c t op lvl lenOk own effect = effect ((s.tick t).taken c op) (s.tick t).now := by
  rw [runLane_checked h hlen, hown]

theorem runLane_refuses {s : State} {c : Cmd} {t op lvl st i : Nat} {lenOk : Bool} {own : State → Verdict} {effect : State → Nat → State}
    (h : (s.tick t).admits c lvl = true) (hlen : lenOk = true) (hown : own ((s.tick t).touch c.session) = .refuse st i) :
    s.runLane c t op lvl lenOk own effect = ((s.tick t).touch c.session).refuseCmd c op st i := by
  rw [runLane_checked h hlen, hown]

/-- An admitted command that its own check refuses: it is answered, and nothing of variables and lanes changes. -/
theorem runLane_refused_spec {s : State} {c : Cmd} {t op lvl st i : Nat} {lenOk : Bool} {own : State → Verdict}
    {effect : State → Nat → State} (h : (s.tick t).admits c lvl = true) (hlen : lenOk = true)
    (hown : own ((s.tick t).touch c.session) = .refuse st i) (hf : op ≠ opFolioSwitch) (ho : op ≠ 0x0801) :
    AnswerStep (s.tick t) (s.runLane c t op lvl lenOk own effect) ∧ (s.runLane c t op lvl lenOk own effect).repliedWith c op st := by
  rw [runLane_refuses h hlen hown]
  obtain ⟨hstep, hreplied⟩ := refuseCmd_spec ((s.tick t).touch c.session) c st i hf ho
  exact ⟨(answer_touch _ _).trans hstep, hreplied⟩

end Sys2Proof.Machine
end

section
/-! PROOF. VAR_READ, VAR_WRITE, FORCE_SET and FORCE_CLEAR (R104 to R109, R405, R406). -/

namespace Sys2Proof.Machine

open State

/-! ### Parts of a packet -/

theorem slice_append_left {a : List Byte} (b : List Byte) {n : Nat} (h : a.length = n) : slice (a ++ b) 0 n = a := by
  rw [slice, List.drop_zero, ← h, List.take_left]

theorem slice_append_right {a : List Byte} (b : List Byte) {k : Nat} (off n : Nat) (h : a.length = k) :
    slice (a ++ b) (k + off) n = slice b off n := by
  rw [slice, ← List.drop_drop, ← h, List.drop_left, slice]

theorem leAt_leBytes_append {n v : Nat} (b : List Byte) (h : v < 256 ^ n) : leAt (leBytes n v ++ b) 0 n = v := by
  rw [leAt, slice_append_left b (leBytes_length n v), leNat_leBytes, Nat.mod_eq_of_lt h]

theorem leAt_leBytes {n v : Nat} (h : v < 256 ^ n) : leAt (leBytes n v) 0 n = v := by
  have happ := leAt_leBytes_append [] h
  rwa [List.append_nil] at happ

theorem leAt_append_right {a : List Byte} (b : List Byte) {k : Nat} (off n : Nat) (h : a.length = k) :
    leAt (a ++ b) (k + off) n = leAt b off n := by
  rw [leAt, slice_append_right b off n h, leAt]

/-- A packet with one record. -/
theorem packet_one {c : Cmd} {r : List Byte} (h : c.params = leBytes 2 1 ++ (zeros 6 ++ r)) :
    packetCount c = 1 ∧ allZero (slice c.params 2 6) = true ∧ c.params.length = 8 + r.length := by
  refine ⟨?_, ?_, ?_⟩
  · rw [packetCount, h]; rfl
  · rw [h]; rfl
  · rw [h, List.length_append, List.length_append, leBytes_length, zeros, List.length_replicate]; omega

theorem packetRecords_one {c : Cmd} {r : List Byte} {z : Nat} (h : c.params = leBytes 2 1 ++ (zeros 6 ++ r)) (hr : r.length = z)
    (hz : 0 < z) : packetRecords c z = [r] := by
  have hdrop : c.params.drop 8 = r := by rw [h]; rfl
  rw [packetRecords, (packet_one h).1, hdrop]
  cases r with
  | nil => exact absurd hr (by simp; omega)
  | cons b bs => simp [chunks, List.take_of_length_le (Nat.le_of_eq hr)]

theorem packetLenOk_one {c : Cmd} {r : List Byte} {z : Nat} (h : c.params = leBytes 2 1 ++ (zeros 6 ++ r)) (hr : r.length = z) :
    packetLenOk c z = true := by
  obtain ⟨hcount, -, hlen⟩ := packet_one h
  simp only [packetLenOk, hcount, hlen, hr, Nat.mul_one, Nat.le_add_right, decide_true, beq_self_eq_true, Bool.and_self]

/-! ### VAR_READ -/

/-- The bytes of one item of VAR_READ. -/
def itemRecord (i a n : Nat) : List Byte := leBytes 4 i ++ (leBytes 4 a ++ leBytes 4 n)

theorem itemRecord_length (i a n : Nat) : (itemRecord i a n).length = 12 := by
  simp [itemRecord, leBytes_length]

theorem readItems_one {c : Cmd} {i a n : Nat} (h : c.params = leBytes 2 1 ++ (zeros 6 ++ itemRecord i a n)) (hi : i < 2 ^ 32)
    (ha : a < 2 ^ 32) (hn : n < 2 ^ 32) : readItems c = [(i, (a, n))] := by
  have hid : leAt (itemRecord i a n) 0 4 = i := leAt_leBytes_append _ hi
  have hfirst : leAt (itemRecord i a n) 4 4 = a := (leAt_append_right _ 0 4 (leBytes_length 4 i)).trans (leAt_leBytes_append _ ha)
  have hcount : leAt (itemRecord i a n) 8 4 = n := (leAt_append_right _ 4 4 (leBytes_length 4 i)).trans
    ((leAt_append_right _ 0 4 (leBytes_length 4 a)).trans (leAt_leBytes hn))
  rw [readItems, packetRecords_one h (itemRecord_length i a n) (by decide), List.map_singleton, hid, hfirst, hcount]

theorem varReadOwn_accepts {c : Cmd} {u : State} {i a n : Nat} (h : c.params = leBytes 2 1 ++ (zeros 6 ++ itemRecord i a n))
    (hitems : readItems c = [(i, (a, n))]) (hbytes : itemBytes u.folio.running (i, (a, n)) ≤ 65536) : varReadOwn c u = .accept := by
  obtain ⟨hcount, hzero, -⟩ := packet_one h
  have hsmall : ¬ 65536 < itemBytes u.folio.running (i, (a, n)) := Nat.not_lt.mpr hbytes
  simp [varReadOwn, refuseIf, hcount, hzero, hitems, hsmall]

/-- A VAR_READ of one item, as it is put among the reads. -/
def oneRead (c : Cmd) (a : Nat) (it : Nat × Nat × Nat) : PendRead := { cmd := c, accepted := a, items := [it], got := [] }

theorem readItems_waits {u : State} {c : Cmd} {a : Nat} {it : Nat × Nat × Nat} {due : Nat × Nat × Nat → Bool} (l : Option Lane)
    (h : due it = false) : u.readItems l (oneRead c a it) due = oneRead c a it := by
  simp [State.readItems, oneRead, h]

theorem readItems_now {u : State} {c : Cmd} {a : Nat} {it : Nat × Nat × Nat} {due : Nat × Nat × Nat → Bool} (l : Option Lane)
    (h : due it = true) : u.readItems l (oneRead c a it) due = { oneRead c a it with got := [(0, u.itemNow l it)] } := by
  simp [State.readItems, oneRead, h, assoc]

/-- The state with a read put last. -/
def withRead (u : State) (p : PendRead) : State := { u with ductus := { u.ductus with reads := u.ductus.reads ++ [p] } }

theorem settleRead_waits {u : State} {p : PendRead} (h : p.got.length < p.items.length) : u.settleRead p =
    { u with ductus := { u.ductus with reads := u.ductus.reads.map fun q => if q.cmd == p.cmd then p else q } } := if_pos h

theorem settleRead_replies {u : State} {p : PendRead} (h : ¬ p.got.length < p.items.length) : u.settleRead p =
    ({ u with ductus := { u.ductus with reads := u.ductus.reads.filter (·.cmd != p.cmd) } } : State).reply p.cmd opVarRead stOk
      (((List.range p.items.length).map fun i => (assoc p.got i).getD []).flatten) := if_neg h

/-- The effect of an accepted VAR_READ (R406). -/
def readEffect (c : Cmd) (u : State) (a : Nat) : State :=
  let p : PendRead := { cmd := c, accepted := a, items := readItems c, got := [] }
  let u := withRead u p
  u.settleRead (u.readItems u.voters.head? p (readAtOnce u))

theorem exec_varRead (c : Cmd) (t : Nat) (s : State) : exec (.varRead c t) s =
    .next (s.runLane c t opVarRead 1 (packetLenOk c 12) (varReadOwn c) (readEffect c)) := rfl

theorem exec_varRead_one {s : State} {f : Folio} {c : Cmd} {i a n t : Nat} (had : (s.tick t).admits c 1 = true)
    (hp : c.params = leBytes 2 1 ++ (zeros 6 ++ itemRecord i a n)) (hitems : readItems c = [(i, (a, n))])
    (hf : s.folio.running = some f) (hbytes : itemBytes (some f) (i, (a, n)) ≤ 65536) :
    exec (.varRead c t) s = .next (readEffect c ((s.tick t).taken c opVarRead) (s.tick t).now) := by
  have hown : varReadOwn c ((s.tick t).touch c.session) = .accept := by
    refine varReadOwn_accepts hp hitems ?_
    rw [(answer_touch _ _).folio, tick_folio, hf]
    exact hbytes
  rw [exec_varRead, runLane_accepts had (packetLenOk_one hp (itemRecord_length i a n)) hown]

theorem readEffect_waits {u : State} {c : Cmd} {a : Nat} {it : Nat × Nat × Nat} (hitems : readItems c = [it])
    (h : readAtOnce u it = false) : readEffect c u a = { u with ductus := { u.ductus with
      reads := (u.ductus.reads ++ [oneRead c a it]).map fun q => if q.cmd == c then oneRead c a it else q } } := by
  have hnone : readAtOnce (withRead u (oneRead c a it)) it = false := h
  have hread := readItems_waits (u := withRead u (oneRead c a it)) (c := c) (a := a) (withRead u (oneRead c a it)).voters.head? hnone
  have heffect : readEffect c u a = (withRead u (oneRead c a it)).settleRead
      ((withRead u (oneRead c a it)).readItems (withRead u (oneRead c a it)).voters.head? (oneRead c a it)
        (readAtOnce (withRead u (oneRead c a it)))) := by
    simp only [readEffect, hitems, oneRead]
  rw [heffect, hread]
  exact settleRead_waits (p := oneRead c a it) Nat.one_pos

theorem readEffect_now {u : State} {f : Folio} {l : Lane} {c : Cmd} {a : Nat} {it : Nat × Nat × Nat} (hitems : readItems c = [it])
    (h : readAtOnce u it = true) (hf : u.folio.running = some f) (hl : u.voters.head? = some l) (hreads : u.ductus.reads = []) :
    readEffect c u a = ({ u with ductus := { u.ductus with reads := [] } } : State).reply c opVarRead stOk (readItem u f l it) := by
  have hnow : readAtOnce (withRead u (oneRead c a it)) it = true := h
  have hread := readItems_now (u := withRead u (oneRead c a it)) (c := c) (a := a) (withRead u (oneRead c a it)).voters.head? hnow
  have hitem : (withRead u (oneRead c a it)).itemNow (withRead u (oneRead c a it)).voters.head? it = readItem u f l it := by
    have hl' : (withRead u (oneRead c a it)).voters.head? = some l := hl
    have hf' : (withRead u (oneRead c a it)).folio.running = some f := hf
    simp only [State.itemNow, hl', hf']
    rfl
  have heffect : readEffect c u a = (withRead u (oneRead c a it)).settleRead
      ((withRead u (oneRead c a it)).readItems (withRead u (oneRead c a it)).voters.head? (oneRead c a it)
        (readAtOnce (withRead u (oneRead c a it)))) := by
    simp only [readEffect, hitems, oneRead]
  rw [heffect, hread, hitem]
  refine (settleRead_replies (p := { oneRead c a it with got := [(0, readItem u f l it)] }) (Nat.lt_irrefl 1)).trans ?_
  simp only [oneRead, withRead, hreads, List.nil_append, List.length_singleton, List.range_one, List.map_singleton, List.flatten_singleton,
    bne_self_eq_false, Bool.false_eq_true, not_false_eq_true, List.filter_cons_of_neg, List.filter_nil, assoc, if_true, Option.getD_some]

theorem readAtOnce_of {s u : State} (hfolio : u.folio = s.folio) (hmode : u.modeNow = s.modeNow) (it : Nat × Nat × Nat) :
    readAtOnce u it = readAtOnce s it := by
  simp only [readAtOnce, hfolio, hmode]

theorem modeNow_of_regs {s t : State} (h : t.regs = s.regs) : t.modeNow = s.modeNow := by
  simp only [State.modeNow, fget_of_regs h]

/-! ### VAR_WRITE -/

theorem varWriteOwn_eq {c : Cmd} {u : State} {r : List Byte} (hp : c.params = leBytes 2 1 ++ (zeros 6 ++ r)) (hr : r.length = 16) :
    varWriteOwn c u = if writeRecordOk u.folio.running r then (if u.notActing then .refuse stRole noIndex else .accept)
      else .refuse stBadParam 0 := by
  obtain ⟨hcount, hzero, -⟩ := packet_one hp
  simp only [varWriteOwn, hcount, hzero, packetRecords_one hp hr (by decide), firstBad, refuseIf]
  by_cases hok : writeRecordOk u.folio.running r = true <;> simp [hok]

theorem exec_varWrite (c : Cmd) (t : Nat) (s : State) : exec (.varWrite c t) s =
    .next (s.runLane c t opVarWrite 2 (packetLenOk c 16) (varWriteOwn c) (varWriteEffect c)) := rfl

theorem varWriteEffect_one {u : State} {f : Folio} {c : Cmd} {r : List Byte} (a : Nat) (hp : c.params = leBytes 2 1 ++ (zeros 6 ++ r))
    (hr : r.length = 16) (hf : u.folio.running = some f) : varWriteEffect c u a =
      { u with ductus := { u.ductus with writes := insertWrite (pendWrite f c a 0 r) u.ductus.writes } } := by
  simp only [varWriteEffect, hf, packetRecords_one hp hr (by decide)] <;> rfl

/-! ### FORCE_SET and FORCE_CLEAR -/

theorem forceSetOwn_eq {c : Cmd} {u : State} (hok : forceRecordOk u.folio.running c.params = true) : forceSetOwn c u =
    if u.standstill then (if u.notActing then .refuse stRole noIndex else
      if 256 ≤ u.ductus.forces.length then .refuse stBusy noIndex else .accept) else .refuse stMoving noIndex := by
  unfold forceSetOwn refuseIf
  cases u.standstill <;> simp [hok]

theorem exec_forceSet (c : Cmd) (t : Nat) (s : State) : exec (.forceSet c t) s =
    .next (s.runLane c t opForceSet 3 (c.params.length == 16) (forceSetOwn c) (forceSetEffect c)) := rfl

theorem forceSetEffect_spec {u : State} {f : Folio} {x : VarRec} {c : Cmd} (a : Nat) (hf : u.folio.running = some f)
    (hx : f.varOf (leAt c.params 0 4) = some x) :
    (forceSetEffect c u a).ductus.forces = (u.ductus.forces.filter fun y => !(y.identity == leAt c.params 0 4 && y.element == leAt c.params 4 4)) ++
      [⟨leAt c.params 0 4, leAt c.params 4 4, x.ty, BitVec.ofNat 64 (leAt c.params 8 8)⟩] ∧
    (forceSetEffect c u a).repliedWith c opForceSet stOk := by
  have hvar : u.folio.running.bind (·.varOf (leAt c.params 0 4)) = some x := by rw [hf]; exact hx
  have hset : forceSetEffect c u a = ({ u with ductus := { u.ductus with
      forces := (u.ductus.forces.filter fun y => !(y.identity == leAt c.params 0 4 && y.element == leAt c.params 4 4)) ++
        [⟨leAt c.params 0 4, leAt c.params 4 4, x.ty, BitVec.ofNat 64 (leAt c.params 8 8)⟩] } } : State).replyOk c opForceSet := by
    simp only [forceSetEffect, writeRecord, hvar] <;> rfl
  rw [hset]
  exact ⟨(answer_replyOk _ _ _).forces, (answers_reply _ _ _ _ _).repliedWith⟩

/-- FORCE_CLEAR's effect (R109). -/
def forceClearEffect (c : Cmd) (u : State) (_ : Nat) : State :=
  (u.dropForces fun x => (leAt c.params 0 4 == 0xFFFFFFFF || x.identity == leAt c.params 0 4) &&
    (leAt c.params 4 4 == 0xFFFFFFFF || x.element == leAt c.params 4 4)).replyOk c opForceClear

theorem exec_forceClear (c : Cmd) (t : Nat) (s : State) : exec (.forceClear c t) s =
    .next (s.runLane c t opForceClear 3 (c.params.length == 8) forceClearOwn (forceClearEffect c)) := rfl

theorem forceClearEffect_all {u : State} {c : Cmd} (a : Nat) (hp : c.params = List.replicate 8 0xFF) :
    (forceClearEffect c u a).ductus.forces = [] ∧ (forceClearEffect c u a).repliedWith c opForceClear stOk := by
  have hid : leAt c.params 0 4 = 0xFFFFFFFF := by rw [hp]; rfl
  have helem : leAt c.params 4 4 = 0xFFFFFFFF := by rw [hp]; rfl
  refine ⟨(answer_replyOk _ _ _).forces.trans ?_, (answers_reply _ _ _ _ _).repliedWith⟩
  simp [State.dropForces, hid, helem]

end Sys2Proof.Machine
end

section
/-! PROOF. LANE_REINTEGRATE, DIAG_SNAPSHOT and ABORT (R69, R403, R405, R408, R409). -/

namespace Sys2Proof.Machine

open State

/-! ### LANE_REINTEGRATE -/

/-- LANE_REINTEGRATE's effect (R69). -/
def reintegrateEffect (c : Cmd) (u : State) (_ : Nat) : State :=
  match laneOf (byteAt c.params 0) with
  | some l => if u.laneSt l == .outLimit then (u.enterPowerCycle l).replyOk c opLaneReintegrate
      else u.replyErr c opLaneReintegrate stBadParam noIndex
  | none => u.replyErr c opLaneReintegrate stBadParam noIndex

theorem exec_laneReintegrate (c : Cmd) (t : Nat) (s : State) : exec (.laneReintegrate c t) s =
    .next (s.runLane c t opLaneReintegrate 3 (c.params.length == 8) (reintegrateOwn c) (reintegrateEffect c)) := rfl

theorem reintegrate_params {c : Cmd} {l : Lane} (hp : c.params = BitVec.ofNat 8 l.idx :: zeros 7) :
    c.params.length = 8 ∧ laneOf (byteAt c.params 0) = some l ∧ allZero (slice c.params 1 7) = true := by
  rw [hp]
  cases l <;> exact ⟨rfl, rfl, rfl⟩

theorem reintegrateOwn_eq {c : Cmd} {l : Lane} (u : State) (hp : c.params = BitVec.ofNat 8 l.idx :: zeros 7) :
    reintegrateOwn c u = if u.laneSt l = .outLimit then .accept else .refuse stBadParam noIndex := by
  obtain ⟨-, hlane, hzero⟩ := reintegrate_params hp
  simp only [reintegrateOwn, hlane, hzero, refuseIf]
  by_cases h : u.laneSt l = .outLimit <;> simp [h]

/-- A lane in OUT_LIMIT starts an attempt at once (R69). -/
theorem reintegrateEffect_spec {u : State} {c : Cmd} {l : Lane} (a : Nat) (hp : c.params = BitVec.ofNat 8 l.idx :: zeros 7)
    (h : u.laneSt l = .outLimit) : let v := reintegrateEffect c u a
    v.laneSt l = .powerCycle ∧ ¬ v.powered (pdLane l) = true ∧ v.repliedWith c opLaneReintegrate stOk ∧
      ∀ k, k ≠ l → v.laneSt k = u.laneSt k := by
  obtain ⟨-, hlane, -⟩ := reintegrate_params hp
  obtain ⟨hst, hoff, -, -, -, hstep⟩ := enterPowerCycle_spec u l
  have heffect : reintegrateEffect c u a = (u.enterPowerCycle l).replyOk c opLaneReintegrate := by
    simp only [reintegrateEffect, hlane, h, beq_self_eq_true, if_true]
  have hanswer := answers_reply (u.enterPowerCycle l) c opLaneReintegrate stOk []
  have hregs : ∀ k, R.LANE_STATE k ∉ [R.LANE_REINT l, R.RPC_PD_STAT, R.LANE_STOP l] := fun k => by
    simp only [R.LANE_STATE, R.LANE_REINT, R.RPC_PD_STAT, R.LANE_STOP, List.mem_cons, List.not_mem_nil, or_false]
    cases k <;> cases l <;> simp only [Lane.idx] <;> omega
  intro v
  have hv : v = (u.enterPowerCycle l).reply c opLaneReintegrate stOk [] := heffect
  refine ⟨?_, ?_, ?_, fun k hk => ?_⟩
  · rw [hv, hanswer.1.laneSt, hst]
  · rw [hv, powered_of_reg (hanswer.1.reg (by decide))]
    exact hoff
  · rw [hv]
    exact hanswer.repliedWith
  · rw [hv, hanswer.1.laneSt]
    exact hstep.laneSt_other hk (hregs k)

/-! ### DIAG_SNAPSHOT -/

theorem exec_diagSnapshotSlice (c : Cmd) (t : Nat) (s : State) : exec (.diagSnapshotSlice c t) s =
    .next (s.runLane c t opDiagSnapshot 1 (c.params.length == 8) (diagSliceOwn c) fun u _ =>
      { u with ductus := { u.ductus with snaps := u.ductus.snaps ++ [⟨c, byteAt c.params 1, leAt c.params 2 2, []⟩] } }) := rfl

theorem snapSlice_params {c : Cmd} {k n : Nat} (hp : c.params = [2, BitVec.ofNat 8 k] ++ (leBytes 2 n ++ zeros 4)) (hk : k < 64)
    (hn : n < 2 ^ 16) : c.params.length = 8 ∧ byteAt c.params 0 = 2 ∧ byteAt c.params 1 = k ∧ leAt c.params 2 2 = n ∧
      allZero (slice c.params 4 4) = true := by
  rw [hp]
  refine ⟨rfl, rfl, ?_, ?_, rfl⟩
  · show (BitVec.ofNat 8 k).toNat = k
    rw [BitVec.toNat_ofNat]
    exact Nat.mod_eq_of_lt (by omega)
  · exact (leAt_append_right (a := [2, BitVec.ofNat 8 k]) (k := 2) _ 0 2 rfl).trans (leAt_leBytes_append _ hn)

theorem exec_diagSnapshotRegisters (c : Cmd) (t : Nat) (s : State) : exec (.diagSnapshotRegisters c t) s =
    .next (s.runLane c t opDiagSnapshot 1 (c.params.length == 8) (diagRegsOwn c) fun u _ =>
      u.snapRegisters.replyOk c opDiagSnapshot) := rfl

theorem cellGetN_congr {α : Type} {d : α} {m m' : List (Nat × α)} {a n : Nat} (h : ∀ i, i < n → cellGet d m' (a + i) = cellGet d m (a + i)) :
    cellGetN d m' a n = cellGetN d m a n := by
  induction n generalizing a with
  | zero => rfl
  | succ n ih =>
    have hhead := h 0 (Nat.succ_pos n)
    have htail : cellGetN d m' (a + 1) n = cellGetN d m (a + 1) n := ih fun i hi => by
      have hi' := h (i + 1) (Nat.succ_lt_succ hi)
      rwa [show a + (i + 1) = a + 1 + i by omega] at hi'
    rw [Nat.add_zero] at hhead
    rw [cellGetN, cellGetN, hhead, htail]

theorem cellGetN_cellSetN {α : Type} [DecidableEq α] (d : α) (m : List (Nat × α)) (a : Nat) (vs : List α) :
    cellGetN d (cellSetN d m a vs) a vs.length = vs := by
  have hget : ∀ (n : Nat) (b : Nat) (c : List (Nat × α)), cellGetN d c b n = (List.range n).map fun i => cellGet d c (b + i) := by
    intro n
    induction n with
    | zero => exact fun _ _ => rfl
    | succ n ih =>
      intro b c
      rw [cellGetN, ih, List.range_succ_eq_map, List.map_cons, List.map_map]
      simp only [Function.comp_def, Nat.succ_eq_add_one, Nat.add_assoc, Nat.add_comm 1, Nat.add_zero]
  rw [hget]
  refine List.ext_getElem (by simp) fun i hi _ => ?_
  simp only [List.length_map, List.length_range] at hi
  rw [List.getElem_map, List.getElem_range, cellGet_cellSetN_get d m a i vs hi]

theorem mreadN_mwrite_same (s : State) (a : Nat) (bs : List Byte) {n : Nat} (h : bs.length = n) : (s.mwrite a bs).mreadN a n = bs := by
  subst h
  exact cellGetN_cellSetN memDefault s.mem a bs

theorem mreadN_mwrite_other (s : State) {a b n : Nat} (bs : List Byte) (h : b + n ≤ a ∨ a + bs.length ≤ b) :
    (s.mwrite a bs).mreadN b n = s.mreadN b n :=
  cellGetN_congr fun i hi => cellGet_cellSetN_other memDefault memDefault s.mem bs (by omega)

@[simp] theorem heldWord_mwrite (s : State) (a : Nat) (bs : List Byte) (off : Nat) : (s.mwrite a bs).heldWord off = s.heldWord off := rfl

/-- Registers at some offsets copied to the snapshot area. -/
def snapAt (s : State) (offs : List Nat) : State :=
  offs.foldl (fun s off => s.mwrite (snapBase + off) (leBytes 4 (s.heldWord off).toNat)) s

theorem heldWord_snapAt (s : State) (offs : List Nat) (off : Nat) : (snapAt s offs).heldWord off = s.heldWord off :=
  foldl_keeps (P := fun t : State => t.heldWord off = s.heldWord off) (fun _ _ ht => (heldWord_mwrite _ _ _ off).trans ht) offs rfl

/-- The copy of a register at a word's offset is not touched by the copies of the others. -/
theorem snapAt_keeps {s u : State} {off : Nat} (offs : List Nat) (h4 : ∀ b ∈ offs, b % 4 = 0) (ho : off % 4 = 0)
    (hheld : u.heldWord off = s.heldWord off) (hu : u.mreadN (snapBase + off) 4 = leBytes 4 (s.heldWord off).toNat) :
    (snapAt u offs).mreadN (snapBase + off) 4 = leBytes 4 (s.heldWord off).toNat := by
  refine (foldl_keeps_mem (P := fun t : State => t.heldWord off = s.heldWord off ∧
    t.mreadN (snapBase + off) 4 = leBytes 4 (s.heldWord off).toNat) offs (fun t b hb ht => ?_) ⟨hheld, hu⟩).2
  obtain ⟨hword, hread⟩ := ht
  refine ⟨hword, ?_⟩
  by_cases he : off = b
  · rw [← he, mreadN_mwrite_same _ _ _ (leBytes_length 4 _), hword]
  · have hb4 := h4 b hb
    rw [mreadN_mwrite_other _ _ (by rw [leBytes_length]; omega), hread]

theorem snapAt_reads {s : State} {offs : List Nat} {off : Nat} (h4 : ∀ b ∈ offs, b % 4 = 0) (h : off ∈ offs) :
    (snapAt s offs).mreadN (snapBase + off) 4 = leBytes 4 (s.heldWord off).toNat := by
  obtain ⟨pre, post, rfl⟩ := List.append_of_mem h
  have hpost : ∀ b ∈ post, b % 4 = 0 := fun b hb => h4 b (List.mem_append_right _ (List.mem_cons_of_mem _ hb))
  have hfold : snapAt s (pre ++ off :: post) =
      snapAt ((snapAt s pre).mwrite (snapBase + off) (leBytes 4 ((snapAt s pre).heldWord off).toNat)) post := by
    rw [snapAt, List.foldl_append, List.foldl_cons]; rfl
  rw [hfold]
  refine snapAt_keeps post hpost (h4 off h) (heldWord_snapAt s pre off) ?_
  rw [mreadN_mwrite_same _ _ _ (leBytes_length 4 _), heldWord_snapAt]

theorem snapRegisters_eq (s : State) : s.snapRegisters = snapAt s (regRows.flatMap rowOffsets) := by
  have hrows : ∀ (rows : List RegRow) (u : State), rows.foldl (fun s r => (rowOffsets r).foldl (fun s off =>
      s.mwrite (snapBase + off) (leBytes 4 (s.heldWord off).toNat)) s) u = snapAt u (rows.flatMap rowOffsets) := by
    intro rows
    induction rows with
    | nil => exact fun _ => rfl
    | cons r rows ih =>
      intro u
      rw [List.foldl_cons, ih, List.flatMap_cons, snapAt, snapAt, List.foldl_append]
  exact hrows regRows s

theorem regRows_words : regRows.all (fun r => r.base % 4 == 0 && r.stride % 4 == 0) = true := by
  simp only [regRows, List.all_append, Bool.and_eq_true]
  refine ⟨⟨⟨⟨⟨⟨⟨?_, ?_⟩, ?_⟩, ?_⟩, ?_⟩, ?_⟩, ?_⟩, ?_⟩ <;> decide

theorem rowOffset_word {r : RegRow} {off : Nat} (hr : r ∈ regRows) (ho : off ∈ rowOffsets r) : off % 4 = 0 := by
  have hrow := List.all_eq_true.mp regRows_words r hr
  rw [Bool.and_eq_true, beq_iff_eq, beq_iff_eq] at hrow
  obtain ⟨i, -, rfl⟩ := List.mem_map.mp ho
  rw [Nat.add_mod, Nat.mul_mod, hrow.1, hrow.2]
  simp

theorem snapRegisters_reads (s : State) {r : RegRow} {off : Nat} (hr : r ∈ regRows) (ho : off ∈ rowOffsets r) :
    s.snapRegisters.mreadN (snapBase + off) 4 = leBytes 4 (s.heldWord off).toNat := by
  rw [snapRegisters_eq]
  refine snapAt_reads (fun b hb => ?_) (List.mem_flatMap.mpr ⟨r, hr, ho⟩)
  obtain ⟨q, hq, hbq⟩ := List.mem_flatMap.mp hb
  exact rowOffset_word hq hbq

end Sys2Proof.Machine
end

section
/-! PROOF. The snapshot survives the log records of its reply (R405, R412), and ABORT (R403, R408, R409). -/

namespace Sys2Proof.Machine

open State

/-! ### Log records beside the snapshot -/

/-- At most `k` log records are written, below the snapshot area as long as the log has not reached it. -/
def LogsBelow (k : Nat) (s t : State) : Prop :=
  t.quill.logCount ≤ s.quill.logCount + k ∧ t.ductus.fences = s.ductus.fences ∧
    (s.quill.logCount + k ≤ 1835008 → ∀ a, snapBase ≤ a → t.mread a = s.mread a)

namespace LogsBelow

theorem refl (s : State) : LogsBelow 0 s s := ⟨Nat.le_refl _, rfl, fun _ _ _ => rfl⟩

theorem trans {j k : Nat} {s t u : State} (h : LogsBelow j s t) (h' : LogsBelow k t u) : LogsBelow (j + k) s u := by
  obtain ⟨hcount, hfences, hmem⟩ := h
  obtain ⟨hcount', hfences', hmem'⟩ := h'
  exact ⟨by omega, hfences'.trans hfences, fun hle a ha => (hmem' (by omega) a ha).trans (hmem (by omega) a ha)⟩

theorem mono {j k : Nat} {s t : State} (h : LogsBelow j s t) (hjk : j ≤ k) : LogsBelow k s t :=
  ⟨Nat.le_trans h.1 (by omega), h.2.1, fun hle => h.2.2 (by omega)⟩

theorem log (s : State) (e src : Nat) (d : List Byte) : LogsBelow 1 s (s.log e src d) := by
  refine ⟨Nat.le_refl _, rfl, fun hle a ha => ?_⟩
  have hring : s.quill.logCount % logRing = s.quill.logCount := Nat.mod_eq_of_lt (by unfold logRing; omega)
  rw [State.log, mread_logAt, mread_mwrite_other]
  rw [logRecord_length, hring]
  refine .inr (Nat.le_trans ?_ ha)
  unfold logBase snapBase
  omega

theorem endSession (s : State) (id reason : Nat) : LogsBelow 1 s (s.endSession id reason) := by
  unfold State.endSession
  split
  · exact (refl s).mono (Nat.zero_le 1)
  · rename_i x _
    have hshow : LogsBelow 0 s ({ s with quill := { s.quill with sessions := s.quill.sessions.filter (·.id != id) } } : State).showSessions :=
      ⟨Nat.le_refl _, rfl, fun _ _ _ => rfl⟩
    dsimp only
    split
    · exact hshow.trans (log _ _ _ _)
    · exact hshow.mono (Nat.zero_le 1)

theorem pushReply (s : State) (c : Cmd) (op status : Nat) (params : List Byte) (lane : Bool) :
    LogsBelow 1 s (s.pushReply c op status params lane) := by
  obtain ⟨u, r, hpush, hu, -⟩ := pushReply_cases s c op status params lane
  have hstep : LogsBelow 1 s u := by
    obtain rfl | ⟨id, rfl⟩ | ⟨y, rfl⟩ := hu
    · exact (refl _).mono (Nat.zero_le 1)
    · exact endSession s id 2
    · exact ⟨Nat.le_succ _, rfl, fun _ _ _ => rfl⟩
  rw [hpush]
  exact hstep.trans (k := 0) ⟨Nat.le_refl _, rfl, fun _ _ _ => rfl⟩

/-- A reply while no fence waits. -/
theorem reply {s : State} (c : Cmd) (op status : Nat) (params : List Byte) (hf : s.ductus.fences = []) :
    LogsBelow 2 s (s.reply c op status params) := by
  have hlane : LogsBelow 2 s (s.replyLane c op status params) :=
    ((log s _ _ _).trans (pushReply _ c op status params true)).trans (k := 0) ⟨Nat.le_refl _, rfl, fun _ _ _ => rfl⟩
  have hnone : (s.replyLane c op status params).ductus.fences = [] := hlane.2.1.trans hf
  rw [State.reply, State.settleQueueFences, hnone]
  exact hlane

end LogsBelow

theorem snapAt_frame (s : State) (offs : List Nat) : (snapAt s offs).ductus = s.ductus ∧ (snapAt s offs).quill = s.quill := by
  refine foldl_keeps (P := fun t : State => t.ductus = s.ductus ∧ t.quill = s.quill) (fun t off ht => ?_) offs ⟨rfl, rfl⟩
  exact ht

theorem snapRegisters_frame (s : State) : s.snapRegisters.ductus = s.ductus ∧ s.snapRegisters.quill = s.quill := by
  rw [snapRegisters_eq]
  exact snapAt_frame s _

theorem mreadN_congr {s t : State} {a n : Nat} (h : ∀ i, i < n → t.mread (a + i) = s.mread (a + i)) : t.mreadN a n = s.mreadN a n :=
  cellGetN_congr h

/-- The register snapshot of an accepted DIAG_SNAPSHOT (R405). -/
theorem diagSnapshot_spec {u : State} (c : Cmd) (hf : u.ductus.fences = []) (hlog : u.quill.logCount + 2 ≤ 1835008)
    {r : RegRow} {off : Nat} (hr : r ∈ regRows) (ho : off ∈ rowOffsets r) :
    (u.snapRegisters.replyOk c opDiagSnapshot).mreadN (snapBase + off) 4 = leBytes 4 (u.heldWord off).toNat := by
  obtain ⟨hductus, hquill⟩ := snapRegisters_frame u
  obtain ⟨-, -, hmem⟩ := LogsBelow.reply (s := u.snapRegisters) c opDiagSnapshot stOk [] (by rw [hductus, hf])
  rw [hquill] at hmem
  rw [← snapRegisters_reads u hr ho]
  exact mreadN_congr fun i _ => hmem hlog _ (Nat.le_trans (Nat.le_add_right _ off) (Nat.le_add_right _ i))

/-! ### ABORT -/

theorem exec_abort {s : State} {c : Cmd} {t : Nat} (h : (s.tick t).admitsUnfenced c ((s.tick t).abortLevel c) = true)
    (hlen : c.params.length = 8) (hown : abortOwn c ((s.tick t).touch c.session) = .accept) :
    exec (.abort c t) s = .next (((s.tick t).taken c opAbort).abortEffect c) := by
  obtain ⟨hpre, hvoters, hopen⟩ := admitsUnfenced_iff.mp h
  have hvoters' : ¬ (s.tick t).voters.length < 2 := Nat.not_lt.mpr hvoters
  have hlevel : ((s.tick t).touch c.session).abortLevel c = (s.tick t).abortLevel c := by
    simp only [State.abortLevel, State.abortTarget]
    rw [touch_quill]
  have hcheck : (c.params.length == 8) = true := by rw [hlen]; rfl
  simp only [exec, execAbort, hpre, hvoters', hopen.sessionOk, State.verdict, hlevel, hcheck, preCheck_touch opAbort hopen, hown, if_false,
    Bool.false_eq_true, Bool.not_true] <;> rfl

/-- ABORT's parameters: queue and tag of its target (R408). -/
theorem abort_params {c : Cmd} {q n : Nat} (hp : c.params = BitVec.ofNat 8 q :: (zeros 3 ++ leBytes 4 n)) (hq : q ≤ 16)
    (hn : n < 2 ^ 32) : c.params.length = 8 ∧ abortQueue c = q ∧ abortTag c = n ∧ allZero (slice c.params 1 3) = true := by
  refine ⟨?_, ?_, ?_, ?_⟩
  · rw [hp, List.length_cons, List.length_append, leBytes_length]; rfl
  · rw [abortQueue, hp]
    show (BitVec.ofNat 8 q).toNat = q
    rw [BitVec.toNat_ofNat]
    exact Nat.mod_eq_of_lt (by omega)
  · rw [abortTag, hp]
    exact (leAt_append_right (a := BitVec.ofNat 8 q :: zeros 3) (k := 4) _ 0 4 rfl).trans (leAt_leBytes hn)
  · rw [hp]; rfl

/-- What an ABORT of `c` names is `x`. -/
def Names (c x : Cmd) : Prop := x ≠ c ∧ abortQueue c = x.queue ∧ abortTag c = x.tag

/-- The check of an ABORT on one command (R408). -/
def namedBy (c : Cmd) (x : Cmd × Nat) : Bool := x.1 != c && x.1.queue == abortQueue c && x.1.tag == abortTag c

theorem namedBy_self (c : Cmd) (op : Nat) : namedBy c (c, op) = false := by simp [namedBy]

theorem namedBy_target {c x : Cmd} (op : Nat) (h : Names c x) : namedBy c (x, op) = true := by
  obtain ⟨hne, hq, ht⟩ := h
  simp [namedBy, hne, hq, ht]

theorem abortTarget_eq (u : State) (c : Cmd) : u.abortTarget c = (u.quill.cmds.map (fun x => (x.cmd, x.opcode)) ++
    u.quill.held.map (fun x => (x.cmd, x.opcode)) ++ (u.quill.inflight.filter (·.decided.isNone)).map (fun x => (x.cmd, x.opcode))).find?
    (namedBy c) := rfl

theorem abortTarget_held {u : State} {c x : Cmd} {op : Nat} (hc : ∀ r ∈ u.quill.cmds, r.cmd = c) (hh : u.quill.held = [⟨x, op⟩])
    (h : Names c x) : u.abortTarget c = some (x, op) := by
  have hcmds : (u.quill.cmds.map fun x => (x.cmd, x.opcode)).find? (namedBy c) = none := by
    rw [List.find?_eq_none]
    rintro ⟨y, o⟩ hy
    obtain ⟨r, hr, hy'⟩ := List.mem_map.mp hy
    obtain ⟨rfl, rfl⟩ := Prod.mk.inj hy'
    rw [hc r hr, namedBy_self]
    exact Bool.false_ne_true
  rw [abortTarget_eq, List.find?_append, List.find?_append, hcmds, hh]
  simp [namedBy_target op h]

theorem abortTarget_cmd {u : State} {c x : Cmd} {op a : Nat} {started : Bool} {rest : List CmdRec}
    (hc : u.quill.cmds = ⟨x, op, a, started⟩ :: rest) (h : Names c x) : u.abortTarget c = some (x, op) := by
  rw [abortTarget_eq, hc]
  simp [namedBy_target op h]

theorem abortTarget_none {u : State} {c : Cmd} (hc : ∀ r ∈ u.quill.cmds, r.cmd = c) (hh : u.quill.held = []) (hi : u.quill.inflight = []) :
    u.abortTarget c = none := by
  rw [abortTarget_eq, List.find?_eq_none, hh, hi]
  rintro ⟨y, o⟩ hy
  simp only [List.map_nil, List.filter_nil, List.append_nil] at hy
  obtain ⟨r, hr, hy'⟩ := List.mem_map.mp hy
  obtain ⟨rfl, rfl⟩ := Prod.mk.inj hy'
  rw [hc r hr, namedBy_self]
  exact Bool.false_ne_true

theorem abortOwn_target {u : State} {c x : Cmd} {op : Nat} (hq : abortQueue c ≤ 16) (hz : allZero (slice c.params 1 3) = true)
    (ht : u.abortTarget c = some (x, op)) (ho : op ∈ abortable) (hs : x.session = c.session) : abortOwn c u = .accept := by
  have hq' : ¬ 16 < abortQueue c := Nat.not_lt.mpr hq
  simp [abortOwn, refuseIf, ht, hq', hz, ho, hs]

theorem abortOwn_none {u : State} {c : Cmd} (hq : abortQueue c ≤ 16) (hz : allZero (slice c.params 1 3) = true)
    (ht : u.abortTarget c = none) : abortOwn c u = .accept := by
  have hq' : ¬ 16 < abortQueue c := Nat.not_lt.mpr hq
  simp [abortOwn, refuseIf, ht, hq', hz]

/-! ### The held commands through replies -/

theorem held_endSession (s : State) (id reason : Nat) : (s.endSession id reason).quill.held = s.quill.held := by
  unfold State.endSession
  split
  · rfl
  · dsimp only
    split <;> rfl

theorem held_pushReply (s : State) (c : Cmd) (op status : Nat) (params : List Byte) (lane : Bool) :
    (s.pushReply c op status params lane).quill.held = s.quill.held := by
  obtain ⟨u, r, hpush, hu, -⟩ := pushReply_cases s c op status params lane
  rw [hpush]
  show u.quill.held = s.quill.held
  obtain rfl | ⟨id, rfl⟩ | ⟨y, rfl⟩ := hu
  · rfl
  · exact held_endSession s id 2
  · rfl

theorem held_replyLane (s : State) (c : Cmd) (op status : Nat) (params : List Byte) :
    (s.replyLane c op status params).quill.held = s.quill.held :=
  held_pushReply (s.log 0x0002 codeVote (cmdDetail s c op status)) c op status params true

theorem held_reply (s : State) (c : Cmd) (op status : Nat) (params : List Byte) :
    (s.reply c op status params).quill.held = s.quill.held := by
  refine foldl_keeps (P := fun t : State => t.quill.held = s.quill.held) (fun t f ht => ?_) _ (held_replyLane s c op status params)
  split
  · exact (held_replyLane _ _ _ _ _).trans ht
  · exact ht

/-! ### What a stop does -/

/-- The target replies ABORTED; a STORE shows it (R409). -/
theorem aborted_spec (u : State) (x : Cmd) (op : Nat) : (u.aborted x op).repliedWith x op stAborted ∧
    (u.aborted x op).quill.held = u.quill.held ∧ (u.aborted x op).ductus.writes = u.ductus.writes ∧
    (op = opStore → (u.aborted x op).fget F.STORE_STAT_LAST_RESULT = storeAborted) := by
  have hreply : ∀ w : State, w.ductus = u.ductus → w.quill = u.quill →
      (w.replyErr x op stAborted noIndex).repliedWith x op stAborted ∧ (w.replyErr x op stAborted noIndex).quill.held = u.quill.held ∧
      (w.replyErr x op stAborted noIndex).ductus.writes = u.ductus.writes ∧
      (w.replyErr x op stAborted noIndex).fget F.STORE_STAT_LAST_RESULT = w.fget F.STORE_STAT_LAST_RESULT := fun w hductus hquill => by
    have hanswer := answers_reply w x op stAborted (indexParams noIndex)
    exact ⟨hanswer.repliedWith, (held_reply w x op _ _).trans (by rw [hquill]), hanswer.1.writes.trans (by rw [hductus]),
      hanswer.1.fget (by decide)⟩
  unfold State.aborted
  by_cases hop : op = opStore
  · obtain ⟨hreplied, hheld, hwrites, hshown⟩ := hreply (u.fput F.STORE_STAT_LAST_RESULT storeAborted) rfl rfl
    subst hop
    rw [if_pos (beq_self_eq_true _)]
    exact ⟨hreplied, hheld, hwrites, fun _ => hshown.trans (fget_fput_same _ _ _ rfl)⟩
  · obtain ⟨hreplied, hheld, hwrites, -⟩ := hreply u rfl rfl
    rw [if_neg (by simpa using hop)]
    exact ⟨hreplied, hheld, hwrites, fun h => absurd h hop⟩

/-- An ABORT whose target has stopped answers OK. -/
theorem abortEffect_stops {u v : State} {c x : Cmd} {op : Nat} (ht : u.abortTarget c = some (x, op)) (h : u.abortOne x op = some v) :
    u.abortEffect c = v.replyOk c opAbort := by
  simp only [State.abortEffect, ht, h]

theorem abortEffect_late {u : State} {c x : Cmd} {op : Nat} (ht : u.abortTarget c = some (x, op)) (h : u.abortOne x op = none) :
    u.abortEffect c = u.replyErr c opAbort stNothing noIndex := by
  simp only [State.abortEffect, ht, h]

theorem abortEffect_none {u : State} {c : Cmd} (ht : u.abortTarget c = none) :
    u.abortEffect c = u.replyErr c opAbort stNothing noIndex := by
  simp only [State.abortEffect, ht]

/-- Nothing is held unstarted. -/
def noneHeld (u : State) : State := { u with quill := { u.quill with held := [] } }

theorem abortOne_held {u : State} {x : Cmd} {op : Nat} (hh : u.quill.held = [⟨x, op⟩]) : u.abortOne x op =
    some ((noneHeld u).aborted x op) := by
  simp [State.abortOne, noneHeld, hh]

/-- The writes without those of a VAR_WRITE. -/
def dropWrites (u : State) (x : Cmd) : State :=
  { u with ductus := { u.ductus with writes := u.ductus.writes.filter (·.cmd != x) } }

theorem abortWrite_stops {u : State} {x : Cmd} (h : ¬ (u.ductus.writes.filter (·.cmd == x)).length < leAt x.params 0 2) :
    u.abortWrite x = some ((dropWrites u x).aborted x opVarWrite) := if_neg h

theorem abortWrite_late {u : State} {x : Cmd} (h : (u.ductus.writes.filter (·.cmd == x)).length < leAt x.params 0 2) :
    u.abortWrite x = none := if_pos h

theorem abortOne_write {u : State} {c x : Cmd} {a : Nat} (hc : u.quill.cmds = [⟨x, opVarWrite, a, true⟩, ⟨c, opAbort, u.now, true⟩])
    (hh : u.quill.held = []) (hi : u.quill.inflight = []) : u.abortOne x opVarWrite = u.abortWrite x := by
  simp [State.abortOne, State.preAccepted, hc, hh, hi, State.abortRunning, opFence, opModeSet, opFolioStage, opFolioSwitch, opTaskTrigger,
    opVarWrite]

end Sys2Proof.Machine
end

section
/-! PROOF. Variables read, written, forced and copied, LANE_REINTEGRATE and ABORT as a whole (R69, R104 to R109, R403 to R409). -/

namespace Sys2Proof.Machine

open State

/-- The state in which the lanes check an admitted command differs from the one before it in the session's instant alone. -/
theorem touch_folio (s : State) (c : Cmd) (t : Nat) : ((s.tick t).touch c.session).folio = s.folio := by
  rw [(answer_touch _ _).folio, tick_folio]

theorem taken_folio (s : State) (c : Cmd) (op t : Nat) : ((s.tick t).taken c op).folio = s.folio := by
  rw [(answer_taken _ _ _).folio, tick_folio]

theorem taken_tick_ductus (s : State) (c : Cmd) (op t : Nat) : ((s.tick t).taken c op).ductus = s.ductus := by
  rw [taken_ductus, tick_ductus]

theorem taken_tick_replies (s : State) (c : Cmd) (op t : Nat) : ((s.tick t).taken c op).quill.replies = s.quill.replies := by
  rw [taken_replies, tick_quill]

theorem taken_lane (s : State) (c : Cmd) (op t : Nat) (l : Lane) : ((s.tick t).taken c op).lane l = s.lane l := by
  rw [(answer_taken _ _ _).lane, lane_tick]

@[simp] theorem notActing_tick (s : State) (t : Nat) : (s.tick t).notActing = s.notActing := by
  simp only [State.notActing, State.role, fget_tick]

@[simp] theorem standstill_tick (s : State) (t : Nat) : (s.tick t).standstill = s.standstill := by
  simp only [State.standstill, fget_tick]

/-! ### Variables -/

theorem varRead_waits {s : State} {f : Folio} {c : Cmd} {i a n t : Nat} (had : (s.tick t).admits c 1 = true)
    (hp : c.params = leBytes 2 1 ++ (zeros 6 ++ itemRecord i a n)) (hitems : readItems c = [(i, (a, n))])
    (hf : s.folio.running = some f) (hbytes : itemBytes (some f) (i, (a, n)) ≤ 65536) (h : ¬ readAtOnce s (i, (a, n)) = true) :
    Completes (.varRead c t) s fun v => v.ductus.reads = s.ductus.reads.map (fun q => if q.cmd == c then
        ⟨c, (s.tick t).now, [(i, (a, n))], []⟩ else q) ++ [⟨c, (s.tick t).now, [(i, (a, n))], []⟩] ∧
      v.quill.replies = s.quill.replies ∧ v.laneA.mem = s.laneA.mem := by
  have hwait : readAtOnce ((s.tick t).taken c opVarRead) (i, (a, n)) = false := by
    rw [readAtOnce_of (taken_folio s c _ t) ((answer_taken _ _ _).modeNow.trans (modeNow_tick s t))]
    simpa using h
  refine ⟨_, exec_varRead_one had hp hitems hf hbytes, ?_⟩
  have hductus := taken_tick_ductus s c opVarRead t
  have hreplies := taken_tick_replies s c opVarRead t
  have hlane := taken_lane s c opVarRead t .a
  rw [readEffect_waits hitems hwait]
  generalize (s.tick t).taken c opVarRead = u at hductus hreplies hlane
  refine ⟨?_, hreplies, congrArg LaneState.mem hlane⟩
  dsimp only
  rw [hductus, List.map_append, List.map_singleton]
  simp only [oneRead, beq_self_eq_true, if_true]

theorem varRead_at_once {s : State} {f : Folio} {l : Lane} {c : Cmd} {i a n t : Nat} (had : (s.tick t).admits c 1 = true)
    (hp : c.params = leBytes 2 1 ++ (zeros 6 ++ itemRecord i a n)) (hitems : readItems c = [(i, (a, n))])
    (hf : s.folio.running = some f) (hbytes : itemBytes (some f) (i, (a, n)) ≤ 65536) (h : readAtOnce s (i, (a, n)) = true)
    (hl : s.voters.head? = some l) (hreads : s.ductus.reads = []) :
    Completes (.varRead c t) s fun v => v.ductus.reads = [] ∧ v.repliedParams c 0x0301 (readItem s f l (i, (a, n))) := by
  have hnow : readAtOnce ((s.tick t).taken c opVarRead) (i, (a, n)) = true := by
    rw [readAtOnce_of (taken_folio s c _ t) ((answer_taken _ _ _).modeNow.trans (modeNow_tick s t)), h]
  have hlane : ((s.tick t).taken c opVarRead).voters.head? = some l := by
    rw [(answer_taken _ _ _).voters, voters_tick, hl]
  have hitem : readItem ((s.tick t).taken c opVarRead) f l (i, (a, n)) = readItem s f l (i, (a, n)) := by
    simp only [readItem, taken_lane]
  refine ⟨_, exec_varRead_one had hp hitems hf hbytes, ?_⟩
  rw [readEffect_now hitems hnow (by rw [taken_folio, hf]) hlane (by rw [taken_tick_ductus, hreads]), hitem]
  obtain ⟨hstep, hreply⟩ := answers_reply ({ (s.tick t).taken c opVarRead with
    ductus := { ((s.tick t).taken c opVarRead).ductus with reads := [] } } : State) c opVarRead stOk (readItem s f l (i, (a, n)))
  exact ⟨hstep.reads, hreply⟩

theorem varWrite_spec {s : State} {f : Folio} {c : Cmd} {r : List Byte} {t : Nat} (had : (s.tick t).admits c 2 = true)
    (hp : c.params = leBytes 2 1 ++ (zeros 6 ++ r)) (hr : r.length = 16) (hf : s.folio.running = some f) :
    (writeRecordOk (some f) r = true → ¬ s.notActing = true → Completes (.varWrite c t) s fun v =>
      v.ductus.writes = insertWrite (pendWrite f c (s.tick t).now 0 r) s.ductus.writes ∧
      v.quill.replies = s.quill.replies ∧ v.laneA.mem = s.laneA.mem ∧ v.laneB.mem = s.laneB.mem ∧ v.laneC.mem = s.laneC.mem) ∧
    (¬ writeRecordOk (some f) r = true → Completes (.varWrite c t) s fun v => v.ductus.writes = s.ductus.writes ∧ v.repliedWith c 0x0302 stBadParam) ∧
    (writeRecordOk (some f) r = true → s.notActing = true → Completes (.varWrite c t) s fun v =>
      v.ductus.writes = s.ductus.writes ∧ v.repliedWith c 0x0302 stRole) := by
  have hfolio : ((s.tick t).touch c.session).folio.running = some f := by rw [touch_folio, hf]
  have hact : ((s.tick t).touch c.session).notActing = s.notActing := by rw [(answer_touch _ _).notActing, notActing_tick]
  have hown := varWriteOwn_eq (u := (s.tick t).touch c.session) hp hr
  rw [hfolio, hact] at hown
  have hrefused : ∀ st i, varWriteOwn c ((s.tick t).touch c.session) = .refuse st i → Completes (.varWrite c t) s fun v =>
      v.ductus.writes = s.ductus.writes ∧ v.repliedWith c 0x0302 st := fun st i h => by
    obtain ⟨hstep, hreplied⟩ := runLane_refused_spec (op := opVarWrite) (effect := varWriteEffect c) had (packetLenOk_one hp hr) h
      (by decide) (by decide)
    exact ⟨_, exec_varWrite c t s, hstep.writes.trans (congrArg Ductus.writes (tick_ductus s t)), hreplied⟩
  refine ⟨fun hok hna => ?_, fun hok => hrefused _ _ (by rw [hown, if_neg hok]), fun hok hna => hrefused _ _ (by rw [hown, if_pos hok, if_pos hna])⟩
  have haccept := runLane_accepts (op := opVarWrite) (effect := varWriteEffect c) had (packetLenOk_one hp hr)
    (hown.trans (by rw [if_pos hok, if_neg hna]))
  rw [varWriteEffect_one _ hp hr (by rw [taken_folio, hf])] at haccept
  have hductus := taken_tick_ductus s c opVarWrite t
  have hreplies := taken_tick_replies s c opVarWrite t
  have hlane := taken_lane s c opVarWrite t
  refine ⟨_, (exec_varWrite c t s).trans (congrArg Host.Outcome.next haccept), ?_⟩
  generalize (s.tick t).taken c opVarWrite = u at hductus hreplies hlane
  refine ⟨?_, hreplies, congrArg LaneState.mem (hlane .a), congrArg LaneState.mem (hlane .b), congrArg LaneState.mem (hlane .c)⟩
  dsimp only
  rw [hductus]

theorem forceSet_spec {s : State} {f : Folio} {x : VarRec} {c : Cmd} {t : Nat} (had : (s.tick t).admits c 3 = true)
    (hlen : c.params.length = 16) (hf : s.folio.running = some f) (hok : forceRecordOk (some f) c.params = true)
    (hx : f.varOf (leAt c.params 0 4) = some x) :
    (s.standstill = true → ¬ s.notActing = true → s.ductus.forces.length < 256 → Completes (.forceSet c t) s fun v =>
      v.ductus.forces = (s.ductus.forces.filter fun y => !(y.identity == leAt c.params 0 4 && y.element == leAt c.params 4 4)) ++
        [⟨leAt c.params 0 4, leAt c.params 4 4, x.ty, BitVec.ofNat 64 (leAt c.params 8 8)⟩] ∧ v.repliedWith c 0x0303 0) ∧
    (¬ s.standstill = true → Completes (.forceSet c t) s fun v => v.ductus.forces = s.ductus.forces ∧ v.repliedWith c 0x0303 stMoving) := by
  have hown := forceSetOwn_eq (c := c) (u := (s.tick t).touch c.session) (by rw [touch_folio, hf]; exact hok)
  have hforces : ((s.tick t).touch c.session).ductus.forces = s.ductus.forces :=
    (answer_touch _ _).forces.trans (congrArg Ductus.forces (tick_ductus s t))
  rw [(answer_touch _ _).standstill, (answer_touch _ _).notActing, standstill_tick, notActing_tick, hforces] at hown
  have hlen' : (c.params.length == 16) = true := by rw [hlen]; rfl
  refine ⟨fun hstill hact hfew => ?_, fun hmoves => ?_⟩
  · have haccept := runLane_accepts (op := opForceSet) (effect := forceSetEffect c) had hlen'
      (hown.trans (by rw [if_pos hstill, if_neg hact, if_neg (Nat.not_le.mpr hfew)]))
    obtain ⟨hset, hreplied⟩ := forceSetEffect_spec (u := (s.tick t).taken c opForceSet) (s.tick t).now (by rw [taken_folio, hf]) hx
    rw [taken_tick_ductus] at hset
    exact ⟨_, (exec_forceSet c t s).trans (congrArg Host.Outcome.next haccept), hset, hreplied⟩
  · obtain ⟨hstep, hreplied⟩ := runLane_refused_spec (op := opForceSet) (effect := forceSetEffect c) had hlen'
      (hown.trans (if_neg hmoves)) (by decide) (by decide)
    exact ⟨_, exec_forceSet c t s, hstep.forces.trans (congrArg Ductus.forces (tick_ductus s t)), hreplied⟩

theorem forceClear_spec {s : State} {c : Cmd} {t : Nat} (had : (s.tick t).admits c 3 = true) (hp : c.params = List.replicate 8 0xFF)
    (hact : ¬ s.notActing = true) :
    Completes (.forceClear c t) s fun v => v.ductus.forces = [] ∧ v.repliedWith c 0x0304 0 := by
  have hown : forceClearOwn ((s.tick t).touch c.session) = .accept := by
    rw [forceClearOwn, refuseIf, (answer_touch _ _).notActing, notActing_tick, if_neg hact]
  have haccept := runLane_accepts (op := opForceClear) (lenOk := c.params.length == 8) (effect := forceClearEffect c) had (by rw [hp]; rfl) hown
  exact ⟨_, (exec_forceClear c t s).trans (congrArg Host.Outcome.next haccept), forceClearEffect_all _ hp⟩

/-! ### Lanes and snapshots -/

theorem laneReintegrate_spec {s : State} {c : Cmd} {l : Lane} {t : Nat} (had : (s.tick t).admits c 3 = true)
    (hp : c.params = BitVec.ofNat 8 l.idx :: zeros 7) :
    (s.laneSt l = .outLimit → Completes (.laneReintegrate c t) s fun v => v.laneSt l = .powerCycle ∧ ¬ v.powered (pdLane l) = true ∧
      v.repliedWith c 0x0102 0 ∧ ∀ k, k ≠ l → v.laneSt k = s.laneSt k) ∧
    (s.laneSt l ≠ .outLimit → Completes (.laneReintegrate c t) s fun v => v.laneSt l = s.laneSt l ∧ v.repliedWith c 0x0102 stBadParam) := by
  have hlen : (c.params.length == 8) = true := by rw [(reintegrate_params hp).1]; rfl
  have hown := reintegrateOwn_eq ((s.tick t).touch c.session) hp
  rw [(answer_touch _ _).laneSt, laneSt_tick] at hown
  have hst : ∀ k, ((s.tick t).taken c opLaneReintegrate).laneSt k = s.laneSt k := fun k => by
    rw [(answer_taken _ _ _).laneSt, laneSt_tick]
  refine ⟨fun h => ?_, fun h => ?_⟩
  · have haccept := runLane_accepts (op := opLaneReintegrate) (effect := reintegrateEffect c) had hlen (hown.trans (if_pos h))
    obtain ⟨hcycle, hoff, hreplied, hother⟩ := reintegrateEffect_spec (u := (s.tick t).taken c opLaneReintegrate) (s.tick t).now hp
      ((hst l).trans h)
    exact ⟨_, (exec_laneReintegrate c t s).trans (congrArg Host.Outcome.next haccept), hcycle, hoff, hreplied,
      fun k hk => (hother k hk).trans (hst k)⟩
  · obtain ⟨hstep, hreplied⟩ := runLane_refused_spec (op := opLaneReintegrate) (effect := reintegrateEffect c) had hlen
      (hown.trans (if_neg h)) (by decide) (by decide)
    exact ⟨_, exec_laneReintegrate c t s, (hstep.laneSt l).trans (laneSt_tick s t l), hreplied⟩

theorem diagSnapshotRegisters_spec {s : State} {c : Cmd} {t : Nat} (had : (s.tick t).admits c 1 = true) (hp : c.params = 1 :: zeros 7)
    (hfences : s.ductus.fences = []) (hlog : s.quill.logCount + 8 < 1835008) :
    Completes (.diagSnapshotRegisters c t) s fun v => v.repliedWith c 0x0A02 0 ∧
      ∀ r ∈ regRows, ∀ off ∈ rowOffsets r, v.mreadN (snapBase + off) 4 = leBytes 4 (((s.tick t).taken c 0x0A02).heldWord off).toNat := by
  have hown : diagRegsOwn c ((s.tick t).touch c.session) = .accept := by rw [diagRegsOwn, hp]; rfl
  have hlogged : ((s.tick t).taken c opDiagSnapshot).quill.logCount = s.quill.logCount + 1 := by rw [taken_quill, tick_quill]
  refine ⟨_, (exec_diagSnapshotRegisters c t s).trans (congrArg Host.Outcome.next (runLane_accepts (lenOk := c.params.length == 8) had (by rw [hp]; rfl) hown)),
    (answers_reply _ _ _ _ _).repliedWith, fun r hr off ho => ?_⟩
  exact diagSnapshot_spec c (by rw [taken_tick_ductus, hfences]) (by rw [hlogged]; omega) hr ho

theorem diagSnapshotSlice_spec {s : State} {c : Cmd} {k n t : Nat} (had : (s.tick t).admits c 1 = true)
    (hp : c.params = [2, BitVec.ofNat 8 k] ++ (leBytes 2 n ++ zeros 4)) (hk : k < 64) (hn : n < s.sliceCount k) (hn16 : n < 2 ^ 16)
    (hr : s.taskRec k ≠ none) : Completes (.diagSnapshotSlice c t) s fun v =>
      v.ductus.snaps = s.ductus.snaps ++ [⟨c, k, n, []⟩] ∧ v.quill.replies = s.quill.replies := by
  obtain ⟨hlen, hkind, htask, hslice, hzero⟩ := snapSlice_params hp hk hn16
  have hown : diagSliceOwn c ((s.tick t).touch c.session) = .accept := by
    have hcount : ((s.tick t).touch c.session).sliceCount k = s.sliceCount k := by simp only [State.sliceCount, touch_folio]
    have hrec : ((s.tick t).touch c.session).taskRec k = s.taskRec k := by simp only [State.taskRec, touch_folio]
    have hin : ¬ s.sliceCount k ≤ n := Nat.not_le.mpr hn
    simp [diagSliceOwn, refuseIf, hkind, htask, hslice, hzero, hcount, hrec, hin, hr]
  have hlen' : (c.params.length == 8) = true := by rw [hlen]; rfl
  have hductus := taken_tick_ductus s c opDiagSnapshot t
  have hreplies := taken_tick_replies s c opDiagSnapshot t
  refine ⟨_, (exec_diagSnapshotSlice c t s).trans (congrArg Host.Outcome.next (runLane_accepts had hlen' hown)), ?_⟩
  generalize (s.tick t).taken c opDiagSnapshot = u at hductus hreplies
  refine ⟨?_, hreplies⟩
  dsimp only
  rw [hductus, htask, hslice]

/-! ### ABORT -/

section

variable {s : State} {c x : Cmd} {t : Nat}
  (had : (s.tick t).admitsUnfenced c ((s.tick t).abortLevel c) = true)
  (hp : c.params = BitVec.ofNat 8 x.queue :: (zeros 3 ++ leBytes 4 x.tag)) (hq : x.queue ≤ 16) (ht : x.tag < 2 ^ 32)

include had hp hq ht

/-- ABORT of a command held unstarted (R408). -/
theorem abort_held {op : Nat} (hne : x ≠ c) (hcmds : s.quill.cmds = []) (hheld : s.quill.held = [⟨x, op⟩]) (hop : op ∈ abortable)
    (hsess : x.session = c.session) : Completes (.abort c t) s fun v => v.quill.held = [] ∧ v.repliedWith x op stAborted ∧
      v.repliedWith c 0x0B02 0 ∧ (op = opStore → v.fget F.STORE_STAT_LAST_RESULT = storeAborted) := by
  obtain ⟨hlen, hqueue, htag, hzero⟩ := abort_params hp hq ht
  have hnames : Names c x := ⟨hne, hqueue, htag⟩
  have hown : abortOwn c ((s.tick t).touch c.session) = .accept := by
    refine abortOwn_target (hqueue ▸ hq) hzero (abortTarget_held (fun r hr => ?_) ?_ hnames) hop hsess
    · rw [touch_quill, tick_quill, hcmds] at hr
      exact absurd hr List.not_mem_nil
    · rw [touch_quill, tick_quill, hheld]
  have hheld' : ((s.tick t).taken c opAbort).quill.held = [⟨x, op⟩] := by
    rw [taken_quill, tick_quill, hheld]
    simp [hne]
  have htarget : ((s.tick t).taken c opAbort).abortTarget c = some (x, op) := by
    refine abortTarget_held (fun r hr => ?_) hheld' hnames
    rw [taken_quill, tick_quill, hcmds] at hr
    rw [List.mem_singleton.mp hr]
  refine ⟨_, (exec_abort had hlen hown).trans (congrArg Host.Outcome.next (abortEffect_stops htarget (abortOne_held hheld'))), ?_⟩
  obtain ⟨hreplied, hempty, -, hstore⟩ := aborted_spec (noneHeld ((s.tick t).taken c opAbort)) x op
  have hanswer := answers_reply ((noneHeld ((s.tick t).taken c opAbort)).aborted x op) c opAbort stOk []
  exact ⟨(held_reply _ _ _ _ _).trans hempty, hanswer.1.repliedWith hreplied, hanswer.repliedWith,
    fun h => (hanswer.1.fget (by decide)).trans (hstore h)⟩

/-- ABORT of a VAR_WRITE under way (R408, R409). -/
theorem abort_write {a : Nat} (hne : x ≠ c) (hcmds : s.quill.cmds = [⟨x, 0x0302, a, true⟩]) (hheld : s.quill.held = [])
    (hin : s.quill.inflight = []) (hsess : x.session = c.session) : Completes (.abort c t) s fun v =>
      if (s.ductus.writes.filter (·.cmd == x)).length < leAt x.params 0 2 then v.ductus.writes = s.ductus.writes ∧ v.repliedWith c 0x0B02 stNothing
      else v.ductus.writes = s.ductus.writes.filter (·.cmd != x) ∧ v.repliedWith x 0x0302 stAborted ∧ v.repliedWith c 0x0B02 0 := by
  obtain ⟨hlen, hqueue, htag, hzero⟩ := abort_params hp hq ht
  have hnames : Names c x := ⟨hne, hqueue, htag⟩
  have hown : abortOwn c ((s.tick t).touch c.session) = .accept :=
    abortOwn_target (hqueue ▸ hq) hzero (abortTarget_cmd (rest := []) (by rw [touch_quill, tick_quill, hcmds]) hnames) (by decide) hsess
  have hcmds' : ((s.tick t).taken c opAbort).quill.cmds = [⟨x, opVarWrite, a, true⟩, ⟨c, opAbort, ((s.tick t).taken c opAbort).now, true⟩] := by
    rw [(answer_taken _ _ _).now, taken_quill, tick_quill, hcmds]
    rfl
  have htarget : ((s.tick t).taken c opAbort).abortTarget c = some (x, opVarWrite) := abortTarget_cmd hcmds' hnames
  have hone : ((s.tick t).taken c opAbort).abortOne x opVarWrite = ((s.tick t).taken c opAbort).abortWrite x :=
    abortOne_write hcmds' (by rw [taken_quill, tick_quill, hheld]; rfl) (by rw [taken_quill, tick_quill, hin])
  have hwritesNow : ((s.tick t).taken c opAbort).ductus.writes = s.ductus.writes := by rw [taken_tick_ductus]
  have hexec := exec_abort had hlen hown
  generalize (s.tick t).taken c opAbort = u at hcmds' htarget hone hwritesNow hexec
  by_cases hlate : (s.ductus.writes.filter (·.cmd == x)).length < leAt x.params 0 2
  · have hnone : u.abortOne x opVarWrite = none := hone.trans (abortWrite_late (by rw [hwritesNow]; exact hlate))
    have hanswer := answers_reply u c opAbort stNothing (indexParams noIndex)
    refine ⟨_, hexec.trans (congrArg Host.Outcome.next (abortEffect_late htarget hnone)), ?_⟩
    beta_reduce
    rw [if_pos hlate]
    exact ⟨hanswer.1.writes.trans hwritesNow, hanswer.repliedWith⟩
  · have hsome : u.abortOne x opVarWrite = some ((dropWrites u x).aborted x opVarWrite) :=
      hone.trans (abortWrite_stops (by rw [hwritesNow]; exact hlate))
    obtain ⟨hreplied, -, hwrites, -⟩ := aborted_spec (dropWrites u x) x opVarWrite
    have hanswer := answers_reply ((dropWrites u x).aborted x opVarWrite) c opAbort stOk []
    have hdropped : (dropWrites u x).ductus.writes = s.ductus.writes.filter (·.cmd != x) := by rw [← hwritesNow]; rfl
    refine ⟨_, hexec.trans (congrArg Host.Outcome.next (abortEffect_stops htarget hsome)), ?_⟩
    beta_reduce
    rw [if_neg hlate]
    exact ⟨(hanswer.1.writes.trans hwrites).trans hdropped, hanswer.1.repliedWith hreplied, hanswer.repliedWith⟩

/-- ABORT without a target (R410). -/
theorem abort_nothing (hcmds : s.quill.cmds = []) (hheld : s.quill.held = []) (hin : s.quill.inflight = []) :
    Completes (.abort c t) s fun v => v.repliedWith c 0x0B02 stNothing ∧ v.ductus.writes = s.ductus.writes := by
  obtain ⟨hlen, hqueue, -, hzero⟩ := abort_params hp hq ht
  have hown : abortOwn c ((s.tick t).touch c.session) = .accept := by
    refine abortOwn_none (hqueue ▸ hq) hzero (abortTarget_none (fun r hr => ?_) ?_ ?_)
    · rw [touch_quill, tick_quill, hcmds] at hr
      exact absurd hr List.not_mem_nil
    · rw [touch_quill, tick_quill, hheld]
    · rw [touch_quill, tick_quill, hin]
  have htarget : ((s.tick t).taken c opAbort).abortTarget c = none := by
    refine abortTarget_none (fun r hr => ?_) ?_ ?_
    · rw [taken_quill, tick_quill, hcmds] at hr
      rw [List.mem_singleton.mp hr]
    · rw [taken_quill, tick_quill, hheld]; rfl
    · rw [taken_quill, tick_quill, hin]
  refine ⟨_, (exec_abort had hlen hown).trans (congrArg Host.Outcome.next (abortEffect_none htarget)), ?_⟩
  have hanswer := answers_reply ((s.tick t).taken c opAbort) c opAbort stNothing (indexParams noIndex)
  exact ⟨hanswer.repliedWith, hanswer.1.writes.trans (by rw [taken_tick_ductus])⟩

end

/-- Settles O50: each command is admitted, passes its own check or not, and its effect is followed by at most one reply, which
leaves variables, forces and lanes. -/
theorem variablesAreReadWrittenForcedAndCopied : Obligations.VariablesAreReadWrittenForcedAndCopied := by
  unfold Obligations.VariablesAreReadWrittenForcedAndCopied
  refine ⟨?_, ?_, ?_, ?_, ?_, ?_, ?_, ?_⟩
  · intro s f c i a n t had hp hi ha hn hf hbytes
    have hitems := readItems_one hp hi ha hn
    exact ⟨varRead_waits had hp hitems hf hbytes, fun l => varRead_at_once had hp hitems hf hbytes⟩
  · intro s f c r t had hp hr hf
    exact varWrite_spec had hp hr hf
  · intro s f x c t had hlen hf hok hx
    exact forceSet_spec had hlen hf hok hx
  · intro s c t had hp hact
    exact forceClear_spec had hp hact
  · intro s c l t had hp
    exact laneReintegrate_spec had hp
  · intro s c t had hp hfences hlog
    exact diagSnapshotRegisters_spec had hp hfences hlog
  · intro s c k n t had hp hk hn hn16 hr
    exact diagSnapshotSlice_spec had hp hk hn hn16 hr
  · intro s c x op t had hp hq ht hne
    exact ⟨fun hcmds hheld hop hsess => abort_held had hp hq ht hne hcmds hheld hop hsess,
      fun a hcmds hheld hin hsess => abort_write had hp hq ht hne hcmds hheld hin hsess, abort_nothing had hp hq ht⟩

end Sys2Proof.Machine
end

section
/-! PROOF. No Stroke instruction acts without an execution under way (R78, R94, R119, R454). -/

namespace Sys2Proof.Machine

open State

theorem strokeStep_not_running {x : Ctx} {s : State} (k : Exec → State) (h : s.running x = none) :
    strokeStep x s k = .next s := by
  simp only [strokeStep, h]

/-- Every Stroke instruction acts through `strokeStep` on the execution of its context. -/
theorem exec_strokeStep {i : Instr} {x : Ctx} (s : State) (h : strokeCtx i = some x) : ∃ k, exec i s = strokeStep x s k := by
  cases i <;> cases h <;> exact ⟨_, rfl⟩

theorem running_none {x : Ctx} {s : State}
    (h : s.exec? x.lane x.task = none ∨ (∃ e, s.exec? x.lane x.task = some e ∧ e.ended = true) ∨ s.modeNow = .hold ∨
      (s.lane x.lane).halted = true ∨ ¬ s.powered (pdLane x.lane) = true ∨ ¬ s.runsTask x.lane x.task = true) :
    s.running x = none := by
  cases he : s.exec? x.lane x.task with
  | none => simp only [State.running, he]
  | some e =>
    have hstop : (e.ended || s.modeNow == .hold || (s.lane x.lane).halted || !s.powered (pdLane x.lane) ||
        !s.runsTask x.lane x.task) = true := by
      obtain hnone | ⟨e', he', hend⟩ | hhold | hhalt | hoff | hother := h
      · exact absurd (he.symm.trans hnone) (Option.some_ne_none e)
      · obtain rfl := Option.some.inj (he.symm.trans he')
        simp [hend]
      · simp [hhold]
      · simp [hhalt]
      · simp [hoff]
      · simp [hother]
    simp only [State.running, he, hstop, if_true]

/-- Settles O28: every Stroke instruction acts through `strokeStep`, which finds no execution under way. -/
theorem strokeRunsOnlyExecutionsUnderWay : Obligations.StrokeRunsOnlyExecutionsUnderWay := by
  unfold Obligations.StrokeRunsOnlyExecutionsUnderWay
  intro i x s hctx hstop
  obtain ⟨k, hexec⟩ := exec_strokeStep s hctx
  rw [hexec, strokeStep_not_running k (running_none hstop)]

end Sys2Proof.Machine
end

section
/-! PROOF. Branches, loops, calls, the end of an execution and task faults (R84, R126 to R130, R143). -/

namespace Sys2Proof.Machine

open State

/-! ### Writes of lane memory -/

/-- `t` differs from `s` in the lanes' memory and notes: registers, ductus and the executions under way stay. -/
def LaneWrites (s t : State) : Prop :=
  t.regs = s.regs ∧ t.ductus = s.ductus ∧ ∀ l n, t.exec? l n = s.exec? l n

namespace LaneWrites

variable {s t u : State}

theorem refl (s : State) : LaneWrites s s := ⟨rfl, rfl, fun _ _ => rfl⟩

theorem trans (h : LaneWrites s t) (h' : LaneWrites t u) : LaneWrites s u := by
  obtain ⟨hregs, hductus, hexec⟩ := h
  obtain ⟨hregs', hductus', hexec'⟩ := h'
  exact ⟨hregs'.trans hregs, hductus'.trans hductus, fun l n => (hexec' l n).trans (hexec l n)⟩

theorem setLane (s : State) (l : Lane) (x : LaneState) (h : x.execs = (s.lane l).execs) : LaneWrites s (s.setLane l x) := by
  refine ⟨setLane_regs s l x, setLane_ductus s l x, fun k n => ?_⟩
  by_cases hk : k = l
  · subst hk
    rw [State.exec?, lane_setLane_same, h]; rfl
  · rw [State.exec?, lane_setLane_other s x hk]; rfl

theorem foldl {α : Type} {k : State → α → State} (hk : ∀ s x, LaneWrites s (k s x)) (xs : List α) (s : State) :
    LaneWrites s (xs.foldl k s) := foldl_keeps (P := fun t => LaneWrites s t) (fun t x ht => ht.trans (hk t x)) xs (refl s)

end LaneWrites

theorem laneWrites_noteRewrite (s : State) (l : Lane) (seg off n : Nat) : LaneWrites s (s.noteRewrite l seg off n) := by
  unfold State.noteRewrite
  split
  · exact LaneWrites.refl s
  · refine LaneWrites.foldl (fun u d => ?_) allLanes s
    split
    · exact LaneWrites.setLane u d _ rfl
    · exact LaneWrites.refl u

theorem laneWrites_writeElem (s : State) (f : Folio) (l : Lane) (v : VarRec) (i : Nat) (x : DWord) :
    LaneWrites s (s.writeElem f l v i x) := by
  refine (LaneWrites.setLane s l _ ?_).trans (laneWrites_noteRewrite _ l _ _ _)
  rfl

theorem laneWrites_storeElem (s : State) (f : Folio) (l : Lane) (v : VarRec) (i : Nat) (x : DWord) :
    LaneWrites s (s.storeElem f l v i x) := (laneWrites_writeElem s f l v i x).trans (LaneWrites.setLane _ l _ rfl)

theorem laneWrites_applyForces (s : State) (f : Folio) (l : Lane) (task : Nat) (segs : List Nat) :
    LaneWrites s (s.applyForces f l task segs) := by
  refine LaneWrites.foldl (fun u x => ?_) s.ductus.forces s
  split
  · split
    · exact laneWrites_storeElem u f l _ _ _
    · exact LaneWrites.refl u
  · exact LaneWrites.refl u

/-! ### END -/

/-- The state of an execution that has ended, with its forced outputs, before alarms and reads take values (R109, R130). -/
def endedForced (s : State) (x : Ctx) (e : Exec) : State :=
  let u := s.closeExec x.lane x.task e
  match u.folio.running with
  | some f => u.applyForces f x.lane x.task [segOut, segTgo]
  | none => u

theorem endExec_eq (s : State) (x : Ctx) (e : Exec) : s.endExec x e = (endedForced s x e).endReads x e.release := rfl

theorem laneWrites_endedForced (s : State) (x : Ctx) (e : Exec) : LaneWrites (s.closeExec x.lane x.task e) (endedForced s x e) := by
  unfold endedForced
  dsimp only
  split
  · exact laneWrites_applyForces _ _ _ _ _
  · exact LaneWrites.refl _

theorem EndStep.exec? {s t : State} (h : EndStep s t) (l : Lane) (n : Nat) : t.exec? l n = s.exec? l n := by
  rw [State.exec?, h.lane]; rfl

theorem EndStep.taskSt {s t : State} (h : EndStep s t) (l : Lane) (n : Nat) : t.taskSt l n = s.taskSt l n :=
  taskSt_of_reg (h.2 _ (not_mem_answerRegs (by unfold R.TASK_STAT; omega)))

theorem taskSt_of_regs {s t : State} (h : t.regs = s.regs) (l : Lane) (n : Nat) : t.taskSt l n = s.taskSt l n :=
  congrArg taskStOf (fget_of_regs h _)

/-- END ends the execution and leaves the task's state (R80, R130). -/
theorem endExec_spec (s : State) (x : Ctx) (e : Exec) :
    (s.endExec x e).exec? x.lane x.task = some { e with ended := true, endAt := s.now } ∧
      (s.endExec x e).taskSt x.lane x.task = s.taskSt x.lane x.task := by
  obtain ⟨hexec, hregs, -⟩ := closeExec_spec s x.lane x.task e
  obtain ⟨hregs', -, hexec'⟩ := laneWrites_endedForced s x e
  have hend := endStep_endReads (endedForced s x e) x e.release
  rw [endExec_eq]
  exact ⟨(hend.exec? _ _).trans ((hexec' _ _).trans hexec), (hend.taskSt _ _).trans (taskSt_of_regs (hregs'.trans hregs) _ _)⟩

/-! ### Task faults -/

/-- The state of an execution that a task fault has ended, before alarms and reads take values (R84). -/
def faultClosed (s : State) (x : Ctx) (e : Exec) (cause : Nat) : State :=
  (faultShown s x e cause).closeExec x.lane x.task { e with faulted := true }

/-- The same with the task FINISHED, where its outputs were still wanted (R80, R96). -/
def faultFinished (s : State) (x : Ctx) (e : Exec) (cause : Nat) : State :=
  if (faultClosed s x e cause).taskSt x.lane x.task == .released && !e.discarded then
    (faultClosed s x e cause).setTaskSt x.lane x.task .finished
  else faultClosed s x e cause

theorem taskFault_eq (s : State) (x : Ctx) (e : Exec) (cause : Nat) :
    s.taskFault x e cause = (faultFinished s x e cause).endReads x e.release := rfl

theorem faultClosed_regs (s : State) (x : Ctx) (e : Exec) (cause : Nat) :
    (faultClosed s x e cause).regs = (faultShown s x e cause).regs := (closeExec_spec _ x.lane x.task _).2.1

/-- Finishing writes STATE alone. -/
theorem fget_faultFinished (s : State) (x : Ctx) (e : Exec) (cause : Nat) {f : Field} (hf : fieldOk f = true)
    (h : bitsApart f (F.TASK_STAT_STATE x.lane x.task) = true) : (faultFinished s x e cause).fget f = (faultShown s x e cause).fget f := by
  unfold faultFinished
  split
  · exact (fget_fput_other _ _ _ _ rfl hf h).trans (fget_of_regs (faultClosed_regs s x e cause) f)
  · exact fget_of_regs (faultClosed_regs s x e cause) f

theorem fget_faultShown_word (s : State) (x : Ctx) (e : Exec) (cause : Nat) (hn : x.task < 64) :
    (faultShown s x e cause).fget (F.TASK_FAULT_WORD x.lane x.task) = e.pc % 2 ^ 24 := by
  rw [faultShown, fget_of_reg (reg_fput_other _ (F.TASK_STAT_FAULT x.lane x.task) _ (taskFault_ne x.lane hn).1)]
  exact fget_fput_same _ _ _ rfl

theorem taskSt_faultShown (s : State) (x : Ctx) (e : Exec) (cause : Nat) (hn : x.task < 64) :
    (faultShown s x e cause).taskSt x.lane x.task = s.taskSt x.lane x.task := by
  have hne : R.TASK_STAT x.lane x.task ≠ R.TASK_FAULT x.lane x.task := (taskFault_ne x.lane hn).1.symm
  have hstate : ∀ u : State, (u.fput (F.TASK_STAT_FAULT x.lane x.task) 1).taskSt x.lane x.task = u.taskSt x.lane x.task := fun u =>
    congrArg taskStOf (fget_fput_other _ _ _ _ rfl rfl (by simp [bitsApart, F.TASK_STAT_FAULT, F.TASK_STAT_STATE]))
  rw [faultShown, hstate]
  exact taskSt_of_reg ((reg_fput_other _ (F.TASK_FAULT_WORD x.lane x.task) _ hne).trans
    (reg_fput_other _ (F.TASK_FAULT_CAUSE x.lane x.task) _ hne))

theorem taskSt_faultFinished {s : State} {x : Ctx} (e : Exec) (cause : Nat) (hn : x.task < 64)
    (hst : s.taskSt x.lane x.task = .released) :
    (faultFinished s x e cause).taskSt x.lane x.task = if e.discarded then .released else .finished := by
  have hclosed : (faultClosed s x e cause).taskSt x.lane x.task = .released :=
    (taskSt_of_regs (faultClosed_regs s x e cause) _ _).trans ((taskSt_faultShown s x e cause hn).trans hst)
  unfold faultFinished
  cases hd : e.discarded
  · rw [if_pos (by simp [hclosed]), taskSt_setTaskSt_same]; rfl
  · rw [if_neg (by simp), hclosed]; rfl

/-- What a task fault shows beside its cause: the word, the FAULT flag and the task's state (R80, R84, R143). -/
theorem taskFault_shows (s : State) (x : Ctx) (e : Exec) (cause : Nat) (hn : x.task < 64) : let w := s.taskFault x e cause
    w.fget (F.TASK_FAULT_WORD x.lane x.task) = e.pc % 2 ^ 24 ∧ w.flag (F.TASK_STAT_FAULT x.lane x.task) = true ∧
      (s.taskSt x.lane x.task = .released → w.taskSt x.lane x.task = if e.discarded then .released else .finished) := by
  have hend := endStep_endReads (faultFinished s x e cause) x e.release
  have hstat : R.TASK_STAT x.lane x.task ∉ answerRegs := not_mem_answerRegs (by unfold R.TASK_STAT; omega)
  have hne := (taskFault_ne x.lane hn).1
  rw [taskFault_eq]
  refine ⟨?_, ?_, fun hst => ?_⟩
  · rw [fget_of_reg (f := F.TASK_FAULT_WORD x.lane x.task) (hend.2 _ (taskFault_ne x.lane hn).2),
      fget_faultFinished s x e cause rfl (by simp [bitsApart, F.TASK_FAULT_WORD, F.TASK_STAT_STATE, hne]),
      fget_faultShown_word s x e cause hn]
  · rw [State.flag, fget_of_reg (f := F.TASK_STAT_FAULT x.lane x.task) (hend.2 _ hstat),
      fget_faultFinished s x e cause rfl (by simp [bitsApart, F.TASK_STAT_FAULT, F.TASK_STAT_STATE]), faultShown, fget_fput_same _ _ _ rfl]
    rfl
  · rw [hend.taskSt, taskSt_faultFinished e cause hn hst]

/-- A task fault in full (R84, R143). -/
theorem taskFault_full (s : State) (x : Ctx) (e : Exec) {cause : Nat} (hn : x.task < 64) (hc : cause < 16) : let w := s.taskFault x e cause
    w.exec? x.lane x.task = some { e with ended := true, endAt := s.now, faulted := true } ∧
      w.fget (F.TASK_FAULT_CAUSE x.lane x.task) = cause ∧ w.fget (F.TASK_FAULT_WORD x.lane x.task) = e.pc % 2 ^ 24 ∧
      w.flag (F.TASK_STAT_FAULT x.lane x.task) = true ∧
      (s.taskSt x.lane x.task = .released → w.taskSt x.lane x.task = if e.discarded then .released else .finished) := by
  obtain ⟨hexec, hcause, -⟩ := taskFault_spec s x e hn hc
  exact ⟨hexec, hcause, taskFault_shows s x e cause hn⟩

/-! ### Branches -/

section

variable {s : State} {x : Ctx} {e : Exec} {a : Reg} {bound : BitVec 16} {target : Nat} (hrun : s.running x = some e)

include hrun

theorem opBrt_goesOn : GoesOn (.opBrt x a target) x s (e.at_ (if e.isTrue a then target else e.pc + 2)) := by
  refine (strokeStep_running _ hrun).trans ?_
  cases e.isTrue a <;> rfl

theorem opBrf_goesOn : GoesOn (.opBrf x a target) x s (e.at_ (if e.isTrue a then e.pc + 2 else target)) := by
  refine (strokeStep_running _ hrun).trans ?_
  cases e.isTrue a <;> rfl

theorem opLoop_falls_through (ha : ¬ e.isTrue a = true) : GoesOn (.opLoop x bound a target) x s (e.at_ (e.pc + 2)) := by
  refine (strokeStep_running _ hrun).trans (congrArg Host.Outcome.next ?_)
  exact if_pos (by simp [ha])

theorem opLoop_below_bound (ha : e.isTrue a = true) (hc : loopCount e e.pc < bound.toNat) :
    GoesOn (.opLoop x bound a target) x s (loopTaken e target) := by
  refine (strokeStep_running _ hrun).trans (congrArg Host.Outcome.next ?_)
  exact (if_neg (by simp [ha])).trans (if_pos hc)

theorem opLoop_at_bound (ha : e.isTrue a = true) (hc : bound.toNat ≤ loopCount e e.pc) :
    exec (.opLoop x bound a target) s = .next (s.taskFault x e faultLoop) := by
  refine (strokeStep_running _ hrun).trans (congrArg Host.Outcome.next ?_)
  exact (if_neg (by simp [ha])).trans (if_neg (Nat.not_lt.mpr hc))

theorem opRet_returns {r : Nat} {rs : List Nat} (hcalls : e.calls = r :: rs) :
    GoesOn (.opRet x) x s ({ e with calls := rs }.at_ r) := by
  refine (strokeStep_running _ hrun).trans (congrArg Host.Outcome.next ?_)
  simp only [hcalls]
  rfl

theorem opRet_ends (hcalls : e.calls = []) : exec (.opRet x) s = exec (.opEnd x) s := by
  refine ((strokeStep_running _ hrun).trans (congrArg Host.Outcome.next ?_)).trans (strokeStep_running _ hrun).symm
  simp only [hcalls]

theorem opAssert_holds (ha : e.isTrue a = true) : GoesOn (.opAssert x a) x s (e.at_ (e.pc + 1)) :=
  (strokeStep_running _ hrun).trans (congrArg Host.Outcome.next (if_pos ha))

theorem opAssert_fails (ha : ¬ e.isTrue a = true) : exec (.opAssert x a) s = .next (s.taskFault x e faultAssert) :=
  (strokeStep_running _ hrun).trans (congrArg Host.Outcome.next (if_neg ha))

end

/-- Settles O25: an instruction of an execution under way acts at once; the faults end in `taskFault`, END in `endExec`. -/
theorem strokeControlFlowAndTaskFaults : Obligations.StrokeControlFlowAndTaskFaults := by
  unfold Obligations.StrokeControlFlowAndTaskFaults
  intro s x e a bound target hrun hn
  exact ⟨strokeStep_running _ hrun, opBrt_goesOn hrun, opBrf_goesOn hrun, opLoop_falls_through hrun, opLoop_below_bound hrun,
    fun ha hc => ⟨_, opLoop_at_bound hrun ha hc, taskFault_full s x e hn (by decide)⟩, strokeStep_running _ hrun,
    fun _ _ => opRet_returns hrun, opRet_ends hrun, opAssert_holds hrun,
    fun ha => ⟨_, opAssert_fails hrun ha, taskFault_full s x e hn (by decide)⟩, _, strokeStep_running _ hrun, endExec_spec s x e⟩

end Sys2Proof.Machine
end

section
/-! PROOF. Fences: what each kind waits for, and how it ends (R110 to R113, R405). -/

namespace Sys2Proof.Machine

open State

/-! ### The parameters of a fence -/

/-- The parameters of a FENCE read back (R405). -/
theorem fence_params {c : Cmd} {b : Byte} {m x : Nat} (h : c.params = b :: zeros 7 ++ (leBytes 8 m ++ leBytes 8 x))
    (hm : m < 256 ^ 8) (hx : x < 256 ^ 8) : c.params.length = 24 ∧ byteAt c.params 0 = b.toNat ∧
      allZero (slice c.params 1 7) = true ∧ fenceMask c = m ∧ fenceInstant c = x := by
  rw [fenceMask, fenceInstant, h]
  have hmask : leAt (b :: zeros 7 ++ (leBytes 8 m ++ leBytes 8 x)) 8 8 = m :=
    (leAt_append_right (a := b :: zeros 7) _ 0 8 rfl).trans (leAt_leBytes_append _ hm)
  have hinstant : leAt (b :: zeros 7 ++ (leBytes 8 m ++ leBytes 8 x)) 16 8 = x :=
    (leAt_append_right (a := b :: zeros 7) _ 8 8 rfl).trans
      ((leAt_append_right _ 0 8 (leBytes_length 8 m)).trans (leAt_leBytes hx))
  refine ⟨?_, rfl, rfl, hmask, hinstant⟩
  simp only [List.length_append, leBytes_length]
  rfl

theorem fenceOwn_accepts {c : Cmd} {k : Nat} {u : State} (hp : fenceParamsOk c k = true) (hmask : k = 2 → u.fenceMaskOk c = true) :
    fenceOwn c k u = .accept := by
  have hno : (k == 2 && !u.fenceMaskOk c) = false := by
    by_cases hk : k = 2
    · rw [hmask hk, Bool.not_true, Bool.and_false]
    · rw [beq_eq_false_iff_ne.mpr hk, Bool.false_and]
  simp only [fenceOwn, refuseIf, hp, hno, Bool.not_true, Bool.or_false, Bool.false_eq_true, if_false]

/-! ### FENCE up to its effect -/

/-- The effect of FENCE_QUEUE (R110). -/
def fenceQueueEffect (c : Cmd) (u : State) (a : Nat) : State := (u.addFence c a .queue).settleQueueFences

/-- The effect of FENCE_TIME (R110). -/
def fenceTimeEffect (c : Cmd) (u : State) (a : Nat) : State :=
  let f : Fence := ⟨c, a, .time (fenceInstant c), u.cmdsAhead c⟩
  (u.addFence c a f.kind).settleTimeFence f

section

variable {s : State} {c : Cmd} {t : Nat} (had : (s.tick t).admits c 1 = true)

include had

theorem exec_fenceQueue (h : c.params = 1 :: zeros 23) :
    exec (.fenceQueue c t) s = .next (fenceQueueEffect c ((s.tick t).taken c opFence) (s.tick t).now) := by
  obtain ⟨hlen, hkind, hzero, hmask, hinstant⟩ := fence_params (b := 1) (m := 0) (x := 0) h (by decide) (by decide)
  have hp : fenceParamsOk c 1 = true := by simp [fenceParamsOk, hkind, hzero, hmask, hinstant]
  exact congrArg Host.Outcome.next (runLane_accepts had (beq_iff_eq.mpr hlen) (fenceOwn_accepts hp fun h => absurd h (by decide)))

theorem exec_fenceCommit {m : Nat} (hm : m < 2 ^ 64) (h : c.params = 2 :: zeros 7 ++ leBytes 8 m ++ zeros 8)
    (hmask : ((s.tick t).touch c.session).fenceMaskOk c = true) :
    exec (.fenceCommit c t) s = .next (((s.tick t).taken c opFence).addFence c (s.tick t).now
      (.commit (((s.tick t).taken c opFence).fenceTasks c))) := by
  obtain ⟨hlen, hkind, hzero, -, hinstant⟩ := fence_params (b := 2) (x := 0) (h.trans (List.append_assoc _ _ _)) hm (by decide)
  have hp : fenceParamsOk c 2 = true := by simp [fenceParamsOk, hkind, hzero, hinstant]
  exact congrArg Host.Outcome.next (runLane_accepts had (beq_iff_eq.mpr hlen) (fenceOwn_accepts hp fun _ => hmask))

theorem exec_fenceTime {x : Nat} (hx : x < 2 ^ 64) (h : c.params = 3 :: zeros 15 ++ leBytes 8 x) :
    exec (.fenceTime c t) s = .next (fenceTimeEffect c ((s.tick t).taken c opFence) (s.tick t).now) := by
  obtain ⟨hlen, hkind, hzero, hmask, -⟩ := fence_params (b := 3) (m := 0) h (by decide) hx
  have hp : fenceParamsOk c 3 = true := by simp [fenceParamsOk, hkind, hzero, hmask]
  exact congrArg Host.Outcome.next (runLane_accepts had (beq_iff_eq.mpr hlen) (fenceOwn_accepts hp fun h => absurd h (by decide)))

end

/-! ### The end of a fence -/

theorem replyLane_fences (s : State) (c : Cmd) (op status : Nat) (params : List Byte) :
    (s.replyLane c op status params).ductus.fences = s.ductus.fences := (LogsBelow.pushReply _ c op status params true).2.1

/-- A fence that ends is removed and answered (R110). -/
theorem fenceReply_spec (s : State) (f : Fence) (status : Nat) : AnswerStep s (s.fenceReply f status) ∧
    (s.fenceReply f status).repliedWith f.cmd opFence status ∧
    (s.fenceReply f status).ductus.fences = s.ductus.fences.filter (· != f) := by
  have hanswer := answers_replyLane ({ s with ductus := { s.ductus with fences := s.ductus.fences.filter (· != f) } } : State)
    f.cmd opFence status (if status == stOk then [] else indexParams noIndex)
  exact ⟨(answer_ductus s _ s.ductus.snaps).trans hanswer.1, hanswer.repliedWith, replyLane_fences _ _ _ _ _⟩

theorem fenceOf_tick (s : State) (t queue tag : Nat) : (s.tick t).fenceOf queue tag = s.fenceOf queue tag := by
  simp only [State.fenceOf, tick_ductus]

theorem exec_timeFenceExpire {s : State} {f : Fence} {queue tag x t : Nat} (hf : s.fenceOf queue tag = some f)
    (hk : f.kind = .time x) (hx : x + 80000 ≤ (s.tick t).now) :
    exec (.timeFenceExpire queue tag t) s = .next ((s.tick t).fenceReply f stOk) := by
  have hpast : (decide (2 ^ 63 ≤ x) || decide (x + us80 ≤ (s.tick t).now)) = true := by
    rw [Bool.or_eq_true, decide_eq_true_eq, decide_eq_true_eq]
    exact .inr hx
  have hsettle : (s.tick t).settleTimeFence f = (s.tick t).fenceReply f stOk := by
    simp only [State.settleTimeFence, hk, hpast, if_true]
  simp only [exec, execTimeFenceExpire, fenceOf_tick, hf, hsettle]

theorem exec_fenceTimeout {s : State} {f : Fence} {ts : List Nat} {queue tag t : Nat} (hf : s.fenceOf queue tag = some f)
    (hk : f.kind = .commit ts) (ha : f.accepted + 20500000000 ≤ (s.tick t).now) :
    exec (.fenceTimeout queue tag t) s = .next ((s.tick t).fenceReply f stTimeout) := by
  simp only [exec, execFenceTimeout, fenceOf_tick, hf, hk]
  exact if_pos ha

/-! ### QUEUE fences -/

/-- A QUEUE fence with nothing ahead of it completes (R110). -/
def settleFence (s : State) (f : Fence) : State := if f.kind == .queue && !s.aheadOf f then s.fenceReply f stOk else s

theorem settleQueueFences_eq (s : State) : s.settleQueueFences = s.ductus.fences.foldl settleFence s := rfl

theorem settleFence_fences (s : State) (f : Fence) : (settleFence s f).ductus.fences ⊆ s.ductus.fences := by
  unfold settleFence
  split
  · rw [(fenceReply_spec s f stOk).2.2]
    exact List.filter_subset_self _
  · exact List.Subset.refl _

/-- The fence put last is settled last, once those before it have been settled. -/
theorem settleQueueFences_addFence (u : State) (c : Cmd) (a : Nat) (k : FenceKind) : (u.addFence c a k).settleQueueFences =
    settleFence (u.ductus.fences.foldl settleFence (u.addFence c a k)) ⟨c, a, k, u.cmdsAhead c⟩ := by
  rw [settleQueueFences_eq]
  exact List.foldl_append

theorem fenceQueueEffect_done {u : State} {c : Cmd} (a : Nat) (hahead : u.cmdsAhead c = [])
    (hother : ∀ f ∈ u.ductus.fences, f.cmd ≠ c) :
    (fenceQueueEffect c u a).repliedWith c opFence stOk ∧ ∀ f ∈ (fenceQueueEffect c u a).ductus.fences, f.cmd ≠ c := by
  have hkept : (u.ductus.fences.foldl settleFence (u.addFence c a .queue)).ductus.fences ⊆ u.ductus.fences ++ [⟨c, a, .queue, []⟩] := by
    refine foldl_keeps (P := fun v : State => v.ductus.fences ⊆ u.ductus.fences ++ [⟨c, a, .queue, []⟩])
      (fun v f hv => List.Subset.trans (settleFence_fences v f) hv) _ ?_
    rw [← hahead]
    exact List.Subset.refl _
  rw [fenceQueueEffect, settleQueueFences_addFence, hahead]
  generalize u.ductus.fences.foldl settleFence (u.addFence c a .queue) = w at hkept
  have hsettle : settleFence w ⟨c, a, .queue, []⟩ = w.fenceReply ⟨c, a, .queue, []⟩ stOk := if_pos rfl
  obtain ⟨-, hreplied, hfences⟩ := fenceReply_spec w ⟨c, a, .queue, []⟩ stOk
  rw [hsettle]
  refine ⟨hreplied, fun f hf => ?_⟩
  rw [hfences, List.mem_filter, bne_iff_ne] at hf
  obtain hold | hnew := List.mem_append.mp (hkept hf.1)
  · exact hother f hold
  · exact absurd (List.mem_singleton.mp hnew) hf.2

/-- A command that stands ahead of a fence has not replied (R110). -/
theorem unreplied_of_ahead {u : State} {c x : Cmd} (h : x ∈ u.cmdsAhead c) : u.unreplied x = true := by
  simp only [State.cmdsAhead, List.mem_append, List.mem_filter, List.mem_map] at h
  simp only [State.unreplied, Bool.or_eq_true, List.any_eq_true]
  obtain ⟨(⟨r, hr, rfl⟩ | ⟨r, hr, rfl⟩) | ⟨r, ⟨hr, hopen⟩, rfl⟩, -⟩ | ⟨⟨r, ⟨hr, hopen⟩, rfl⟩, -⟩ := h
  · exact .inl (.inl (.inl ⟨r, hr, beq_self_eq_true _⟩))
  · exact .inl (.inl (.inr ⟨r, hr, beq_self_eq_true _⟩))
  · exact .inr ⟨r, hr, by rw [beq_self_eq_true, Bool.true_and]; exact hopen⟩
  · exact .inl (.inr ⟨r, hr, by rw [beq_self_eq_true, Bool.true_and]; exact hopen⟩)

theorem fenceQueueEffect_waits {u : State} {c : Cmd} (a : Nat) (hahead : u.cmdsAhead c ≠ [])
    (hother : ∀ f ∈ u.ductus.fences, f.kind ≠ .queue) :
    (⟨c, a, .queue, u.cmdsAhead c⟩ : Fence) ∈ (fenceQueueEffect c u a).ductus.fences := by
  have hbefore : u.ductus.fences.foldl settleFence (u.addFence c a .queue) = u.addFence c a .queue := by
    refine foldl_keeps_mem (P := fun v => v = u.addFence c a .queue) _ (fun v f hf hv => Eq.trans ?_ hv) rfl
    exact if_neg (by simp [hother f hf])
  have hwaits : (u.addFence c a .queue).aheadOf ⟨c, a, .queue, u.cmdsAhead c⟩ = true := by
    obtain ⟨x, hx⟩ := List.exists_mem_of_ne_nil _ hahead
    exact List.any_eq_true.mpr ⟨x, hx, unreplied_of_ahead hx⟩
  have hsettle : settleFence (u.addFence c a .queue) ⟨c, a, .queue, u.cmdsAhead c⟩ = u.addFence c a .queue :=
    if_neg (by rw [hwaits, Bool.not_true, Bool.and_false]; exact Bool.false_ne_true)
  rw [fenceQueueEffect, settleQueueFences_addFence, hbefore, hsettle]
  exact List.mem_append_right _ List.mem_cons_self

/-! ### COMMIT and TIME fences -/

theorem tasks_of_folio {s t : State} (h : t.folio = s.folio) : t.tasks = s.tasks := by
  simp only [State.tasks, h]

theorem fenceTasks_eq {u : State} {c : Cmd} {m : Nat} (h : fenceMask c = m) :
    u.fenceTasks c = if m = 0 then u.tasks.map (·.task) else (List.range 64).filter (natBit m) := by
  simp only [State.fenceTasks, maskTasks, h, beq_iff_eq]

theorem fenceMaskOk_of {u : State} {c : Cmd} {m : Nat} (h : fenceMask c = m)
    (hm : if m = 0 then u.folio.running.isSome = true else ∀ n < 64, natBit m n = true → (u.taskRec n).isSome = true) :
    u.fenceMaskOk c = true := by
  by_cases hzero : m = 0
  · simp only [hzero, if_true] at hm
    simp only [State.fenceMaskOk, h, hzero, beq_self_eq_true, if_true, hm]
  · simp only [hzero, if_false] at hm
    simp only [State.fenceMaskOk, h, beq_iff_eq, hzero, if_false, List.all_eq_true, maskTasks, List.mem_filter, List.mem_range]
    exact fun n hn => hm n hn.1 hn.2

theorem fenceTimeEffect_waits {u : State} {c : Cmd} {a x : Nat} (h : fenceInstant c = x) (hx : x < 2 ^ 63) (hnow : u.now < x + 80000) :
    (⟨c, a, .time x, u.cmdsAhead c⟩ : Fence) ∈ (fenceTimeEffect c u a).ductus.fences := by
  have hwait : (decide (2 ^ 63 ≤ x) || decide (x + us80 ≤ u.now)) = false := by
    rw [Bool.or_eq_false_iff, decide_eq_false_iff_not, decide_eq_false_iff_not]
    exact ⟨Nat.not_le.mpr hx, Nat.not_le.mpr hnow⟩
  have hsettle : fenceTimeEffect c u a = u.addFence c a (.time x) := by
    simp only [fenceTimeEffect, h, State.settleTimeFence]
    exact if_neg (ne_true_of_eq_false hwait)
  rw [hsettle]
  exact List.mem_append_right _ List.mem_cons_self

/-- Settles O19: an admitted fence takes its effect at once; a fence that ends is answered by `fenceReply`. -/
theorem fencesCompleteOrTimeOut : Obligations.FencesCompleteOrTimeOut := by
  unfold Obligations.FencesCompleteOrTimeOut
  refine ⟨?_, ?_, ?_, ?_, ?_, ?_⟩
  · intro s c t had hp hahead hother
    exact ⟨_, exec_fenceQueue had hp, fenceQueueEffect_done _ hahead (by rw [taken_tick_ductus]; exact hother)⟩
  · intro s c t had hp hahead hother
    exact ⟨_, exec_fenceQueue had hp, fenceQueueEffect_waits _ hahead (by rw [taken_tick_ductus]; exact hother)⟩
  · intro s c m t had hm hp hmask
    obtain ⟨-, -, -, hm', -⟩ := fence_params (b := 2) (x := 0) (hp.trans (List.append_assoc _ _ _)) hm (by decide)
    have hok : ((s.tick t).touch c.session).fenceMaskOk c = true :=
      fenceMaskOk_of hm' (by simpa only [State.taskRec, touch_folio] using hmask)
    have htasks := fenceTasks_eq (u := (s.tick t).taken c opFence) hm'
    rw [tasks_of_folio (taken_folio s c opFence t)] at htasks
    refine ⟨_, exec_fenceCommit had hm hp hok, ?_⟩
    rw [htasks]
    exact List.mem_append_right _ List.mem_cons_self
  · intro s c x t had hx hp hnow
    have hx64 : x < 256 ^ 8 := Nat.lt_trans hx (by decide)
    obtain ⟨-, -, -, -, hinstant⟩ := fence_params (b := 3) (m := 0) hp (by decide) hx64
    exact ⟨_, exec_fenceTime had hx64 hp, fenceTimeEffect_waits hinstant hx (by rw [(answer_taken _ _ _).now]; exact hnow)⟩
  · intro s f queue tag x t hf hk hx
    obtain ⟨-, hreplied, hfences⟩ := fenceReply_spec (s.tick t) f stOk
    exact ⟨_, exec_timeFenceExpire hf hk hx, hreplied, hfences.trans (by rw [tick_ductus])⟩
  · intro s f ts queue tag t hf hk ha
    obtain ⟨-, hreplied, hfences⟩ := fenceReply_spec (s.tick t) f stTimeout
    exact ⟨_, exec_fenceTimeout hf hk ha, hreplied, hfences.trans (by rw [tick_ductus])⟩

end Sys2Proof.Machine
end

section
/-! PROOF. The bookkeeping of tasks, and what the inputs of a release leave of it and of the vote (R76, R83, R104, R109). -/

namespace Sys2Proof.Machine

open State

/-! ### Bookkeeping -/

theorem book_setBook_other (s : State) {b : TaskBook} {n : Nat} (hn : n ≠ b.task) : (s.setBook b).book n = s.book n := by
  have hb : (b.task == n) = false := beq_eq_false_iff_ne.mpr hn.symm
  have hfind : (s.setBook b).ductus.tasks.find? (·.task == n) = s.ductus.tasks.find? (·.task == n) := by
    have hdrop := find?_dropped_other (p := fun y : TaskBook => y.task == b.task) (q := fun y => y.task == n)
      (fun y hy => beq_eq_false_iff_ne.mpr (beq_iff_eq.mp hy ▸ hn)) s.ductus.tasks
    show ((s.ductus.tasks.filter fun y => y.task != b.task) ++ [b]).find? (·.task == n) = _
    rw [List.find?_append, show (s.ductus.tasks.filter fun y => y.task != b.task) =
      s.ductus.tasks.filter fun y => !(y.task == b.task) from rfl, hdrop, List.find?_cons, hb, List.find?_nil, Option.or_none]
  simp only [State.book, hfind]

/-- Bookkeeping replaced by one with the same count of releases. -/
theorem releases_setBook {s : State} {b : TaskBook} (h : b.releases = (s.book b.task).releases) (n : Nat) :
    ((s.setBook b).book n).releases = (s.book n).releases := by
  by_cases hn : n = b.task
  · rw [hn, book_setBook_same s rfl, h]
  · rw [book_setBook_other s hn]

theorem AnswerStep.book {s t : State} (h : AnswerStep s t) (n : Nat) : t.book n = s.book n := by
  have htasks : t.ductus.tasks = s.ductus.tasks := by rw [h.ductus]
  simp only [State.book, htasks]

theorem AnswerStep.isVoting {s t : State} (h : AnswerStep s t) (l : Lane) : t.isVoting l = s.isVoting l := by
  simp only [State.isVoting, h.laneSt]

/-! ### A lane that is excluded leaves the vote as the only change to it and to the ductus -/

theorem State.Logged.ductus {s t : State} (h : Logged s t) : t.ductus = s.ductus := by
  obtain ⟨_, _, _, _, rfl⟩ := h
  rfl

theorem setHeartbeat_ductus (s : State) (on : Bool) : (s.setHeartbeat on).ductus = s.ductus := by
  unfold State.setHeartbeat
  split <;> rfl

theorem failLane_ductus (s : State) (l : Lane) : (failLane s l).ductus = s.ductus := by
  unfold failLane
  split
  · rfl
  · exact setLaneSt_ductus s l _

theorem failModule_ductus (s : State) (cause task : Nat) : (s.failModule cause task).ductus = s.ductus := by
  by_cases h : s.flag F.VOTE_CTRL_FAILED = true
  · rw [failModule_failed cause task h]
  · have hvote : (failVote (s.failMarks cause task)).ductus = s.ductus := setHeartbeat_ductus _ _
    rw [failModule_eq cause task h, ((logged_logReg _ _ _ _).trans (logged_hostEvent _ _) : Logged _ _).ductus, failLanes_eq, failLane_ductus,
      failLane_ductus, failLane_ductus, hvote]

theorem exclude_ductus (s : State) (l : Lane) (cause : LaneCause) : (s.exclude l cause).ductus = s.ductus := by
  have hprep : (exclPrep s l cause).ductus = (exclMarks s l cause).ductus := setLane_ductus _ _ _
  rw [exclude_eq, setLaneSt_ductus, hprep, exclMarks_frame]

theorem excludeCheck_ductus (s : State) (l : Lane) (cause : LaneCause) (task : Nat) : (s.excludeCheck l cause task).ductus = s.ductus := by
  unfold State.excludeCheck
  dsimp only
  split
  · rfl
  · split
    · rw [failModule_ductus, exclude_ductus]
    · exact exclude_ductus s l cause

theorem isVoting_of_exclude {s : State} {l k : Lane} {cause : LaneCause} (h : (s.exclude l cause).isVoting k = true) :
    s.isVoting k = true := by
  by_cases hk : k = l
  · subst hk
    rw [isVoting_iff, laneSt_exclude] at h
    cases h
  · rwa [State.isVoting, laneSt_exclude_other s cause hk] at h

theorem isVoting_of_failModule {s : State} {cause task : Nat} {l : Lane} (h : (s.failModule cause task).isVoting l = true) :
    s.isVoting l = true := by
  by_cases hf : s.flag F.VOTE_CTRL_FAILED = true
  · rwa [failModule_failed cause task hf] at h
  · rw [isVoting_iff, laneSt_failModule cause task l hf] at h
    cases h

theorem isVoting_of_excludeCheck {s : State} {l k : Lane} {cause : LaneCause} {task : Nat}
    (h : (s.excludeCheck l cause task).isVoting k = true) : s.isVoting k = true := by
  unfold State.excludeCheck at h
  dsimp only at h
  split at h
  · exact h
  · split at h
    · exact isVoting_of_exclude (isVoting_of_failModule h)
    · exact isVoting_of_exclude h

/-! ### The inputs of a release -/

/-- From `s` to `t` no lane has entered the vote, and no release has been counted. -/
def TakesInputs (s t : State) : Prop :=
  (∀ l, t.isVoting l = true → s.isVoting l = true) ∧ ∀ n, (t.book n).releases = (s.book n).releases

namespace TakesInputs

variable {s t u : State}

theorem refl (s : State) : TakesInputs s s := ⟨fun _ h => h, fun _ => rfl⟩

theorem trans (h : TakesInputs s t) (h' : TakesInputs t u) : TakesInputs s u :=
  ⟨fun l hl => h.1 l (h'.1 l hl), fun n => (h'.2 n).trans (h.2 n)⟩

theorem of_same (hregs : t.regs = s.regs) (hductus : t.ductus.tasks = s.ductus.tasks) : TakesInputs s t :=
  ⟨fun l hl => (isVoting_of_regs hregs l).symm.trans hl, fun n => by simp only [State.book, hductus]⟩

theorem of_writes (h : LaneWrites s t) : TakesInputs s t := of_same h.1 (congrArg Ductus.tasks h.2.1)

theorem of_answer (h : AnswerStep s t) : TakesInputs s t :=
  ⟨fun l hl => (h.isVoting l).symm.trans hl, fun n => congrArg TaskBook.releases (h.book n)⟩

theorem foldl {α : Type} {k : State → α → State} (hk : ∀ s x, TakesInputs s (k s x)) (xs : List α) (s : State) :
    TakesInputs s (xs.foldl k s) := foldl_keeps (P := fun t => TakesInputs s t) (fun t x ht => ht.trans (hk t x)) xs (refl s)

end TakesInputs

theorem mirror_ductus (s : State) (seg off : Nat) (bs : List Byte) : (s.mirror seg off bs).ductus = s.ductus := by
  unfold State.mirror
  split <;> rfl

theorem takesInputs_mirrorInputs (s : State) (f : Folio) (task : Nat) (l : Lane) : TakesInputs s (s.mirrorInputs f task l) :=
  TakesInputs.foldl (fun u _ => TakesInputs.of_same (mirror_regs u _ _ _) (congrArg Ductus.tasks (mirror_ductus u _ _ _))) _ s

theorem takesInputs_takeAlarms (s : State) (f : Folio) (l : Lane) (v : VarRec) : TakesInputs s (s.takeAlarms f l v) := by
  refine TakesInputs.foldl (fun u r => ?_) f.tasks s
  split
  · exact ⟨fun _ h => h, releases_setBook (by rw [book_task])⟩
  · exact TakesInputs.refl u

theorem takesInputs_applyWrite (s : State) (f : Folio) (w : PendWrite) : TakesInputs s (s.applyWrite f w) := by
  unfold State.applyWrite
  split
  · exact TakesInputs.refl s
  · rename_i v _
    have hwrite : TakesInputs s (s.writeAll f v w.element w.value) :=
      TakesInputs.of_writes (LaneWrites.foldl (fun u l => laneWrites_writeElem u f l v _ _) _ s)
    dsimp only
    split
    · exact hwrite.trans (takesInputs_takeAlarms _ f _ v)
    · exact hwrite

theorem takesInputs_settleWrites (s : State) (done : List PendWrite) : TakesInputs s (s.settleWrites done) := by
  refine TakesInputs.foldl (fun u w => ?_) done s
  split
  · exact TakesInputs.refl u
  · exact TakesInputs.of_answer (answer_replyOk u _ _)

theorem takesInputs_applyWrites (s : State) (f : Folio) (due : List PendWrite) : TakesInputs s (s.applyWrites f due) := by
  have happly := TakesInputs.foldl (fun u w => takesInputs_applyWrite u f w) due s
  exact (happly.trans (TakesInputs.of_same rfl rfl)).trans (takesInputs_settleWrites _ due)

theorem takesInputs_formLine (s : State) (f : Folio) (x : Nat × (Nat × Nat)) : TakesInputs s (s.formLine f x).1 := by
  unfold State.formLine
  dsimp only
  split
  · exact TakesInputs.refl s
  · split
    · exact TakesInputs.refl s
    · split
      · exact ⟨fun _ h => isVoting_of_excludeCheck h, fun n => by rw [book_of_ductus (excludeCheck_ductus _ _ _ _)]⟩
      · exact TakesInputs.refl s

theorem takesInputs_formLines (s : State) (f : Folio) (xs : List (Nat × (Nat × Nat))) : TakesInputs s (s.formLines f xs).1 := by
  refine foldl_keeps (P := fun p : State × Option (List CopyLine) => TakesInputs s p.1) (fun p x hp => ?_) xs (TakesInputs.refl s)
  dsimp only
  split
  · exact hp
  · exact hp.trans (takesInputs_formLine p.1 f x)

theorem takesInputs_of_formLines {s u : State} {f : Folio} {xs : List (Nat × (Nat × Nat))} {o : Option (List CopyLine)}
    (h : s.formLines f xs = (u, o)) : TakesInputs s u := by
  have hform := takesInputs_formLines s f xs
  rwa [h] at hform

theorem cbSend_ductus (s : State) (rs : List (List Byte)) : (s.cbSend rs).ductus = s.ductus := by
  unfold State.cbSend
  split
  · rfl
  · split <;> rfl

theorem takesInputs_sendInputs (s : State) (f : Folio) (r : TaskRec) (rel : Nat) (due : List PendWrite) :
    TakesInputs s (s.sendInputs f r rel due) := by
  have hsend : ∀ u rs, TakesInputs u (State.cbSend u rs) := fun u rs =>
    TakesInputs.of_same (cbSend_regs u rs) (congrArg Ductus.tasks (cbSend_ductus u rs))
  unfold State.sendInputs
  dsimp only
  split
  · exact TakesInputs.refl s
  · split
    · rename_i u ls h
      exact (takesInputs_of_formLines h).trans (hsend u _)
    · rename_i u h
      exact takesInputs_of_formLines h

end Sys2Proof.Machine
end

section
/-! PROOF. A release starts the executions of the voting lanes in which the task is IDLE, or is skipped (R75, R76, R80, R83). -/

namespace Sys2Proof.Machine

open State

/-! ### The start of an execution -/

theorem exec?_of_lane {s t : State} {l : Lane} (h : t.lane l = s.lane l) (n : Nat) : t.exec? l n = s.exec? l n := by
  simp only [State.exec?, h]

/-- An execution that has not begun (R80, R119). -/
def newExec (rel : Nat) : Exec := ⟨rel, 0, [], [], [], false, 0, false, false, false⟩

/-- The task is RELEASED in the lane with an execution at word 0. -/
def Started (n rel : Nat) (l : Lane) (s : State) : Prop := s.taskSt l n = .released ∧ s.exec? l n = some (newExec rel)

/-- What an update of the registers of task `n` beside STATE keeps: states, executions, voting lanes and the ductus. -/
theorem started_of_same {n rel : Nat} {l : Lane} {s t : State} (hst : t.taskSt l n = s.taskSt l n) (hexec : t.exec? l n = s.exec? l n)
    (h : Started n rel l s) : Started n rel l t := ⟨hst.trans h.1, hexec.trans h.2⟩

theorem addExec_spec (s : State) (l : Lane) (n : Nat) (e : Exec) : (s.addExec l n e).exec? l n = some e ∧
    (s.addExec l n e).regs = s.regs ∧ (s.addExec l n e).ductus = s.ductus ∧ ∀ k, k ≠ l → (s.addExec l n e).lane k = s.lane k := by
  have hset : (s.setExec l n e).exec? l n = some e := by
    rw [State.exec?, State.setExec, lane_setLane_same]
    exact assoc_cellIns_same _ _ _
  unfold State.addExec
  split
  · refine ⟨?_, (setLane_regs _ _ _).trans (setLane_regs _ _ _), (setLane_ductus _ _ _).trans (setLane_ductus _ _ _), fun k hk => ?_⟩
    · rw [State.exec?, State.reschedule, lane_setLane_same]
      exact hset
    · rw [State.reschedule, lane_setLane_other _ _ hk, State.setExec, lane_setLane_other _ _ hk]
  · exact ⟨hset, setLane_regs _ _ _, setLane_ductus _ _ _, fun k hk => lane_setLane_other _ _ hk⟩

/-- Registers of tasks are none of the lanes' states. -/
theorem isVoting_fput_task (s : State) (l k : Lane) {n : Nat} (f : Field) (v : Nat) (hf : f.off = R.TASK_STAT l n) (hn : n < 64) :
    (s.fput f v).isVoting k = s.isVoting k := by
  rw [State.isVoting, laneSt_of_reg (reg_fput_other s f v (by rw [hf]; exact taskStat_ne l k hn)), ← State.isVoting]

theorem startExec_eq (s : State) (n rel : Nat) (l : Lane) :
    s.startExec n rel l = (s.addExec l n (newExec rel)).setTaskSt l n .released := rfl

theorem started_startExec_same (s : State) (n rel : Nat) (l : Lane) : Started n rel l (s.startExec n rel l) := by
  rw [startExec_eq]
  exact ⟨taskSt_setTaskSt_same _ l n .released, (exec?_of_lane (lane_fput _ _ _ l) n).trans (addExec_spec s l n _).1⟩

theorem started_startExec {s : State} {n rel : Nat} {l : Lane} (k : Lane) (h : Started n rel l s) :
    Started n rel l (s.startExec n rel k) := by
  by_cases hk : l = k
  · subst hk
    exact started_startExec_same s n rel l
  · obtain ⟨-, hregs, -, hother⟩ := addExec_spec s k n (newExec rel)
    rw [startExec_eq]
    refine started_of_same ((taskSt_setTaskSt_other _ .released hk).trans (taskSt_of_regs hregs l n)) ?_ h
    exact exec?_of_lane ((lane_fput _ _ _ l).trans (hother l hk)) n

theorem startExec_keeps (s : State) (rel : Nat) (l : Lane) {n : Nat} (hn : n < 64) :
    (s.startExec n rel l).ductus = s.ductus ∧ ∀ k, (s.startExec n rel l).isVoting k = s.isVoting k := by
  obtain ⟨-, hregs, hductus, -⟩ := addExec_spec s l n (newExec rel)
  rw [startExec_eq]
  exact ⟨hductus, fun k => (isVoting_fput_task _ l k (F.TASK_STAT_STATE l n) _ rfl hn).trans (isVoting_of_regs hregs k)⟩

/-- The execution of a task started in some lanes. -/
def startAll (s : State) (n rel : Nat) (ls : List Lane) : State := ls.foldl (fun s l => s.startExec n rel l) s

theorem started_startAll (s : State) (n rel : Nat) {ls : List Lane} {l : Lane} (h : l ∈ ls) : Started n rel l (startAll s n rel ls) :=
  foldl_reaches (P := fun _ => True) (fun _ _ _ => trivial) (fun _ k hu => started_startExec k hu)
    (fun u _ => started_startExec_same u n rel l) ls s h trivial

theorem startAll_keeps (s : State) (rel : Nat) (ls : List Lane) {n : Nat} (hn : n < 64) :
    (startAll s n rel ls).ductus = s.ductus ∧ ∀ k, (startAll s n rel ls).isVoting k = s.isVoting k := by
  refine foldl_keeps (P := fun u : State => u.ductus = s.ductus ∧ ∀ k, u.isVoting k = s.isVoting k) (fun u l hu => ?_) ls ⟨rfl, fun _ => rfl⟩
  obtain ⟨hductus, hvoting⟩ := startExec_keeps u rel l hn
  exact ⟨hductus.trans hu.1, fun k => (hvoting k).trans (hu.2 k)⟩

/-! ### The release -/

/-- The voting lanes in which a task is IDLE. -/
def takersOf (s : State) (n : Nat) : List Lane := s.voters.filter fun l => s.taskSt l n == .idle

theorem mem_takersOf {s : State} {n : Nat} {l : Lane} : l ∈ takersOf s n ↔ s.isVoting l = true ∧ s.taskSt l n = .idle := by
  rw [takersOf, List.mem_filter, mem_voters, beq_iff_eq]

/-- The inputs of a release are taken, from the snapshot to the forces (R76, R104, R109, R428). -/
def inputsTaken (s : State) (f : Folio) (r : TaskRec) (rel : Nat) (l0 : Lane) : State :=
  let takers := takersOf s r.task
  let u := (takers.foldl (fun (z : State) l => z.writeInputs f (s.snapshot l f r rel) l) s).mirrorInputs f r.task l0
  let due := u.releaseWrites f r.task rel
  takers.foldl (fun s l => s.applyForces f l r.task [segIn, segTgi]) ((u.applyWrites f due).sendInputs f r rel due)

theorem takesInputs_inputsTaken (s : State) (f : Folio) (r : TaskRec) (rel : Nat) (l0 : Lane) : TakesInputs s (inputsTaken s f r rel l0) := by
  have hwrite : ∀ (u : State) vs l, TakesInputs u (u.writeInputs f vs l) := fun u _ l =>
    TakesInputs.of_writes (LaneWrites.setLane u l _ rfl)
  have hsnap : TakesInputs s ((takersOf s r.task).foldl (fun (z : State) l => z.writeInputs f (s.snapshot l f r rel) l) s) :=
    TakesInputs.foldl (fun u l => hwrite u _ l) _ s
  have hforce : ∀ u : State, TakesInputs u ((takersOf s r.task).foldl (fun s l => s.applyForces f l r.task [segIn, segTgi]) u) :=
    fun u => TakesInputs.foldl (fun z l => TakesInputs.of_writes (laneWrites_applyForces z f l _ _)) _ u
  exact (((hsnap.trans (takesInputs_mirrorInputs _ f r.task l0)).trans (takesInputs_applyWrites _ f _)).trans
    (takesInputs_sendInputs _ f r rel _)).trans (hforce _)

/-- The executions of a release are ready, in the lanes that still vote (R80, R83). -/
def execsReady (s : State) (f : Folio) (r : TaskRec) (rel : Nat) (l0 : Lane) : State :=
  startAll (inputsTaken s f r rel l0) r.task rel ((takersOf s r.task).filter (inputsTaken s f r rel l0).isVoting)

/-- A task's bookkeeping replaced, and PENDING cleared for an event task (R88). -/
def bookShown (s : State) (r : TaskRec) (b : TaskBook) : State :=
  if r.event then (s.setBook b).putTask F.TASK_STAT_PENDING r.task 0 else s.setBook b

/-- A release that takes place: its executions, its bookkeeping, and the replies to the TASK_TRIGGER commands it serves. -/
theorem releaseTask_taken {s : State} {r : TaskRec} {l0 : Lane} (f : Folio) (rel : Nat) (h : (takersOf s r.task).head? = some l0) :
    s.releaseTask f r rel none = (s.book r.task).triggers.foldl (fun s c => s.replyOk c opTaskTrigger)
      (bookShown (execsReady s f r rel l0) r (bookRelease r rel ((execsReady s f r rel l0).book r.task))) := by
  have hhead : (s.voters.filter fun l => s.taskSt l r.task == .idle).head? = some l0 := h
  unfold State.releaseTask
  dsimp only
  rw [hhead]
  rfl

theorem releaseTask_skipped {s : State} {r : TaskRec} (f : Folio) (rel : Nat) (hv : s.voters ≠ [])
    (h : ∀ l, s.isVoting l = true → s.taskSt l r.task ≠ .idle) : s.releaseTask f r rel none = s.skipRelease r rel := by
  have hnone : (s.voters.filter fun l => s.taskSt l r.task == .idle) = [] :=
    List.filter_eq_nil_iff.mpr fun l hl => by simpa using h l ((mem_voters s l).mp hl)
  have hvoters : ¬ s.voters.isEmpty = true := by simpa using hv
  unfold State.releaseTask
  dsimp only
  rw [hnone]
  exact if_neg hvoters

/-- PENDING lies beside STATE. -/
theorem bookShown_keeps (s : State) {r : TaskRec} (b : TaskBook) (hn : r.task < 64) : (bookShown s r b).ductus = (s.setBook b).ductus ∧
    (∀ k, (bookShown s r b).isVoting k = s.isVoting k) ∧ ∀ k, (bookShown s r b).taskSt k r.task = s.taskSt k r.task ∧
      (bookShown s r b).exec? k r.task = s.exec? k r.task := by
  have hexec : ∀ k, (s.setBook b).exec? k r.task = s.exec? k r.task := fun k => exec?_of_lane (by cases k <;> rfl) _
  unfold bookShown
  split
  · refine foldl_keeps (P := fun u : State => u.ductus = (s.setBook b).ductus ∧ (∀ k, u.isVoting k = s.isVoting k) ∧
      ∀ k, u.taskSt k r.task = s.taskSt k r.task ∧ u.exec? k r.task = s.exec? k r.task) (fun u l hu => ?_) _
      ⟨rfl, fun _ => rfl, fun k => ⟨rfl, hexec k⟩⟩
    obtain ⟨hductus, hvoting, htask⟩ := hu
    have hstate : ∀ k, (u.fput (F.TASK_STAT_PENDING l r.task) 0).taskSt k r.task = u.taskSt k r.task := fun k =>
      congrArg taskStOf (fget_fput_other _ _ _ _ rfl rfl (by simp [bitsApart, F.TASK_STAT_PENDING, F.TASK_STAT_STATE]))
    refine ⟨hductus, fun k => (isVoting_fput_task u l k (F.TASK_STAT_PENDING l r.task) 0 rfl hn).trans (hvoting k), fun k =>
      ⟨(hstate k).trans (htask k).1, Eq.trans ?_ (htask k).2⟩⟩
    exact exec?_of_lane (lane_fput u _ _ k) _
  · exact ⟨rfl, fun _ => rfl, fun k => ⟨rfl, hexec k⟩⟩

/-- What a release that takes place leaves (R75, R80, R83, R88). -/
theorem releaseTask_taken_spec {s : State} {r : TaskRec} (f : Folio) (rel : Nat) (hn : r.task < 64)
    (h : ∃ l, s.isVoting l = true ∧ s.taskSt l r.task = .idle) : let v := s.releaseTask f r rel none
    (v.book r.task).due = some (rel + r.deadline, false) ∧ (v.book r.task).lastRelease = some rel ∧
      (v.book r.task).releases = ((s.book r.task).releases + 1) % 2 ^ 32 ∧ (v.book r.task).pend = none ∧
      ∀ l, v.isVoting l = true → s.taskSt l r.task = .idle → Started r.task rel l v := by
  obtain ⟨l, hl⟩ := h
  obtain ⟨l0, hhead⟩ := Option.ne_none_iff_exists'.mp
    (fun hnone => List.ne_nil_of_mem (mem_takersOf.mpr hl) (List.head?_eq_none_iff.mp hnone) : (takersOf s r.task).head? ≠ none)
  obtain ⟨hvotes, hreleases⟩ := takesInputs_inputsTaken s f r rel l0
  obtain ⟨hductus, hvoting⟩ := startAll_keeps (inputsTaken s f r rel l0) rel
    ((takersOf s r.task).filter (inputsTaken s f r rel l0).isVoting) hn
  obtain ⟨hshown, hshownVotes, hshownTask⟩ := bookShown_keeps (execsReady s f r rel l0)
    (bookRelease r rel ((execsReady s f r rel l0).book r.task)) hn
  have hanswer := AnswerStep.foldl (fun s c => answer_replyOk s c opTaskTrigger) (s.book r.task).triggers
    (bookShown (execsReady s f r rel l0) r (bookRelease r rel ((execsReady s f r rel l0).book r.task)))
  intro v
  have hv : v = (s.book r.task).triggers.foldl (fun s c => s.replyOk c opTaskTrigger)
      (bookShown (execsReady s f r rel l0) r (bookRelease r rel ((execsReady s f r rel l0).book r.task))) := releaseTask_taken f rel hhead
  rw [← hv] at hanswer
  have hbook : v.book r.task = bookRelease r rel ((execsReady s f r rel l0).book r.task) :=
    (hanswer.book _).trans ((book_of_ductus hshown _).trans (book_setBook_same _ (book_task _ r.task)))
  have hcount : ((execsReady s f r rel l0).book r.task).releases = (s.book r.task).releases :=
    (congrArg TaskBook.releases (book_of_ductus hductus r.task)).trans (hreleases r.task)
  rw [hbook]
  refine ⟨rfl, rfl, ?_, rfl, fun k hk hidle => ?_⟩
  · rw [← hcount]; rfl
  · have hstill : (inputsTaken s f r rel l0).isVoting k = true := by
      rw [← hvoting k, ← hk, hanswer.isVoting, hshownVotes]; rfl
    have htaker : k ∈ (takersOf s r.task).filter (inputsTaken s f r rel l0).isVoting :=
      List.mem_filter.mpr ⟨mem_takersOf.mpr ⟨hvotes k hstill, hidle⟩, hstill⟩
    refine started_of_same ((hanswer.taskSt k _).trans (hshownTask k).1) ?_ (started_startAll _ r.task rel htaker)
    exact (exec?_of_lane (hanswer.lane k) _).trans (hshownTask k).2

/-- A skipped release is counted, and its commit will be met by none (R83, R97). -/
theorem skipRelease_spec (s : State) (r : TaskRec) (rel : Nat) : let v := s.skipRelease r rel
    v = { s with ductus := v.ductus } ∧ (v.book r.task).releases = ((s.book r.task).releases + 1) % 2 ^ 32 ∧
      (v.book r.task).due = (if s.heldExec r.task then none else some (rel + r.deadline, true)) ∧
      (v.book r.task).lastRelease = (s.book r.task).lastRelease := by
  have hbook : (s.skipRelease r rel).book r.task = { s.book r.task with
      releases := ((s.book r.task).releases + 1) % 2 ^ 32
      due := if s.heldExec r.task then none else some (rel + r.deadline, true)
      pend := (s.book r.task).pend.map fun p => { p with instant := rel + r.period } } := book_setBook_same s (book_task s r.task)
  dsimp only
  rw [hbook]
  exact ⟨rfl, rfl, rfl, rfl⟩

/-! ### TASK_RELEASE -/

theorem joinLane_now (s : State) (l : Lane) : (s.joinLane l).now = s.now := by
  have henter : ∀ u : State, (u.enterPermits l).now = u.now := fun u => setLane_now _ _ _
  have hduration : ∀ (u : State) (c : Bool) f v, (if c then u else u.fputSat f v).now = u.now := fun _ c _ _ => by cases c <;> rfl
  unfold State.joinLane
  dsimp only
  rw [henter, setLaneSt_now, hduration]
  exact setLane_now s l _

theorem joinLanded_now (s : State) : s.joinLanded.now = s.now := by
  refine foldl_keeps (P := fun u : State => u.now = s.now) (fun u l hu => ?_) allLanes rfl
  split
  · exact (joinLane_now u l).trans hu
  · exact hu

theorem task_lt_of_taskRec {s : State} {f : Folio} {r : TaskRec} {n : Nat} (hf : s.folio.running = some f) (hok : f.tasksOk)
    (hr : s.taskRec n = some r) : r.task < 64 := by
  obtain ⟨g, hg, hmem⟩ := Option.bind_eq_some_iff.mp hr
  obtain rfl := Option.some.inj (hf.symm.trans hg)
  exact hok r (List.mem_of_find?_eq_some hmem)

theorem exec_taskRelease {s : State} {f : Folio} {r : TaskRec} {task t : Nat} (hf : s.folio.running = some f)
    (hr : s.taskRec task = some r) (hdue : (s.tick t).releaseDue r (s.tick t).now = true) (hact : ¬ s.notActing = true) :
    exec (.taskRelease task t) s = .next ((s.tick t).joinLanded.releaseTask f r (s.tick t).joinLanded.now none) := by
  have hgo : ((s.tick t).releaseDue r (s.tick t).now && !(s.tick t).notActing) = true := by
    rw [hdue, notActing_tick]
    simpa using hact
  simp only [exec, execTaskRelease, tick_folio, hf, taskRec_tick, hr, joinLanded_now]
  exact if_pos hgo

theorem exec_taskRelease_not_in_run {s : State} (task t : Nat) (hm : s.modeNow ≠ .run) :
    exec (.taskRelease task t) s = .next (s.tick t) := by
  have hno : ∀ r, (s.tick t).releaseDue r (s.tick t).now = false := fun r => by
    simp [State.releaseDue, hm]
  simp only [exec, execTaskRelease, hno, Bool.false_and]
  split <;> rfl

/-- Settles O15: a release with a taker starts executions in the lanes that still vote, one without is skipped. -/
theorem releasesStartExecutions : Obligations.ReleasesStartExecutions := by
  unfold Obligations.ReleasesStartExecutions
  refine ⟨?_, ?_, ?_⟩
  · intro s f r task t hf hok hr hdue hact htaker
    exact ⟨_, exec_taskRelease hf hr hdue hact, releaseTask_taken_spec f _ (task_lt_of_taskRec hf hok hr) htaker⟩
  · intro s f r task t hf _ hr hdue hact hv hbusy
    refine ⟨_, exec_taskRelease hf hr hdue hact, ?_⟩
    rw [releaseTask_skipped f _ hv hbusy]
    exact skipRelease_spec _ r _
  · intro s task t hm
    exact exec_taskRelease_not_in_run task t hm

end Sys2Proof.Machine
end

section
/-! PROOF. MODE_SET: an accepted change waits for its instant (R95, R96, R99). -/

namespace Sys2Proof.Machine

open State

/-! ### The grid (R74) -/

/-- The first multiple of `g` at or after `t`. -/
theorem gridAtOrAfter_spec {g : Nat} (t : Nat) (hg : 0 < g) :
    gridAtOrAfter g t % g = 0 ∧ t ≤ gridAtOrAfter g t ∧ gridAtOrAfter g t < t + g := by
  have hmod := Nat.div_add_mod (t + g - 1) g
  have hlt := Nat.mod_lt (t + g - 1) hg
  have hceil : gridAtOrAfter g t = g * ((t + g - 1) / g) := Nat.mul_comm _ _
  rw [hceil]
  exact ⟨Nat.mul_mod_right _ _, by omega, by omega⟩

/-! ### A change waits -/

theorem researchSeam_frame (s : State) (t : Nat) :
    s.researchSeam t = { s with folio := (s.researchSeam t).folio, dup := (s.researchSeam t).dup } := by
  have hsend : ∀ (u : State) rs, u.cbSend rs = { u with dup := (u.cbSend rs).dup } := fun u rs => by
    unfold State.cbSend
    split
    · rfl
    · split <;> rfl
  have hannounce : ∀ (w : Switch) t, s.announceFrom w t =
      { s with folio := (s.announceFrom w t).folio, dup := (s.announceFrom w t).dup } := fun w t => by
    unfold State.announceFrom
    dsimp only
    split
    · split
      · rw [hsend]
      · rfl
    · rfl
  unfold State.researchSeam
  split
  · split
    · rfl
    · split
      · split
        · rfl
        · exact hannounce _ _
      · exact hannounce _ _
  · rfl

theorem researchSeam_ductus (s : State) (t : Nat) : (s.researchSeam t).ductus = s.ductus := by rw [researchSeam_frame]

theorem mem_insertMode (p : PendMode) (ps : List PendMode) : p ∈ insertMode p ps := by
  induction ps with
  | nil => exact List.mem_singleton_self p
  | cons q qs ih =>
    unfold insertMode
    split
    · exact List.mem_cons_of_mem _ ih
    · exact List.mem_cons_self

theorem mem_pendMode (s : State) (m : Mode) (a : Nat) (c : Option Cmd) :
    (⟨m, modeInstant m a, c⟩ : PendMode) ∈ (s.pendMode m a c).ductus.modes := by
  unfold State.pendMode
  dsimp only
  rw [researchSeam_ductus]
  split
  · rw [cbSend_ductus]
    exact mem_insertMode _ _
  · exact mem_insertMode _ _

/-- RUN waits for a multiple of 1 ms from 200 us after acceptance on (R95). -/
theorem modeInstant_run (a : Nat) :
    modeInstant .run a % 1000000 = 0 ∧ a + 200000 ≤ modeInstant .run a ∧ modeInstant .run a < a + 1200000 := by
  have hms : modeInstant .run a = gridAtOrAfter 1000000 (a + 200000) := rfl
  obtain ⟨hgrid, hfrom, hbelow⟩ := gridAtOrAfter_spec (g := 1000000) (a + 200000) (by decide)
  rw [hms]
  exact ⟨hgrid, hfrom, lt_of_lt_of_eq hbelow (Nat.add_assoc a 200000 1000000)⟩

/-- STOP and HOLD wait for a grid instant from 20 us after acceptance on (R95). -/
theorem modeInstant_grid {m : Mode} (a : Nat) (hm : m ≠ .run) :
    modeInstant m a % 50000 = 0 ∧ a + 20000 ≤ modeInstant m a ∧ modeInstant m a < a + 70000 := by
  have hup : modeInstant m a = gridAtOrAfter 50000 (a + 20000) := by
    cases m
    case run => exact absurd rfl hm
    all_goals rfl
  obtain ⟨hgrid, hfrom, hbelow⟩ := gridAtOrAfter_spec (g := 50000) (a + 20000) (by decide)
  rw [hup]
  exact ⟨hgrid, hfrom, lt_of_lt_of_eq hbelow (Nat.add_assoc a 20000 50000)⟩

/-! ### MODE_SET -/

theorem mode_params {c : Cmd} {b : Byte} (h : c.params = b :: zeros 7) :
    c.params.length = 8 ∧ byteAt c.params 0 = b.toNat ∧ allZero (slice c.params 1 7) = true := by
  rw [h]
  exact ⟨rfl, rfl, rfl⟩

/-- MODE_SET's own check where the parameters name the mode (R99). -/
theorem modeOwn_eq {c : Cmd} {m : Mode} (u : State) (h : c.params = BitVec.ofNat 8 (modeCode m) :: zeros 7) : modeOwn m c u =
    if m = .run ∧ u.folio.running = none then .refuse stBadParam noIndex
    else if m = .hold ∧ u.lifecycle ≠ lcBench then .refuse stBadParam noIndex
    else if u.notActing then .refuse stRole noIndex else .accept := by
  obtain ⟨-, hcode, hzero⟩ := mode_params h
  have hcode' : byteAt c.params 0 = modeCode m := by rw [hcode]; cases m <;> rfl
  simp [modeOwn, refuseIf, hcode', hzero]

theorem modeSet_accepts {s : State} {c : Cmd} {m : Mode} {t : Nat} (had : (s.tick t).admits c 2 = true)
    (h : c.params = BitVec.ofNat 8 (modeCode m) :: zeros 7) (hown : modeOwn m c ((s.tick t).touch c.session) = .accept) :
    s.modeSet m c t = ((s.tick t).taken c opModeSet).pendMode m (s.tick t).now (some c) :=
  runLane_accepts had (beq_iff_eq.mpr (mode_params h).1) hown

/-- An accepted MODE_SET leaves the mode in force, and its change waits (R95). -/
theorem modeSet_accepted_spec {s : State} {c : Cmd} {m : Mode} {t : Nat} (had : (s.tick t).admits c 2 = true)
    (h : c.params = BitVec.ofNat 8 (modeCode m) :: zeros 7) (hown : modeOwn m c ((s.tick t).touch c.session) = .accept) :
    (s.modeSet m c t).modeNow = s.modeNow ∧
      (⟨m, modeInstant m (s.tick t).now, some c⟩ : PendMode) ∈ (s.modeSet m c t).ductus.modes := by
  rw [modeSet_accepts had h hown]
  refine ⟨?_, mem_pendMode _ m _ _⟩
  rw [modeNow_of_regs (pendMode_regs _ _ _ _), (answer_taken _ _ _).modeNow, modeNow_tick]

theorem touch_notActing (s : State) (id t : Nat) : ((s.tick t).touch id).notActing = s.notActing := by
  rw [(answer_touch _ _).notActing, notActing_tick]

theorem touch_lifecycle (s : State) (id t : Nat) : ((s.tick t).touch id).lifecycle = s.fget F.SEC_STATE_LIFECYCLE := by
  rw [State.lifecycle, (answer_touch _ _).fget (by decide), fget_tick]

theorem modeSet_run_own {s : State} {c : Cmd} {t : Nat} (h : c.params = 1 :: zeros 7) (hf : s.folio.running.isSome = true)
    (hact : ¬ s.notActing = true) : modeOwn .run c ((s.tick t).touch c.session) = .accept := by
  have hrun : s.folio.running ≠ none := Option.isSome_iff_ne_none.mp hf
  rw [modeOwn_eq (m := .run) _ h, touch_folio, touch_notActing, if_neg (by simp [hrun]), if_neg (by simp), if_neg hact]

theorem modeSet_stop_own {s : State} {c : Cmd} {t : Nat} (h : c.params = zeros 8) (hact : ¬ s.notActing = true) :
    modeOwn .stop c ((s.tick t).touch c.session) = .accept := by
  rw [modeOwn_eq (m := .stop) _ h, touch_notActing, if_neg (by simp), if_neg (by simp), if_neg hact]

theorem modeSet_hold_own {s : State} {c : Cmd} (t : Nat) (h : c.params = 2 :: zeros 7) : modeOwn .hold c ((s.tick t).touch c.session) =
    if s.fget F.SEC_STATE_LIFECYCLE ≠ 3 then .refuse stBadParam noIndex
    else if s.notActing then .refuse stRole noIndex else .accept := by
  rw [modeOwn_eq (m := .hold) _ h, touch_notActing, touch_lifecycle, if_neg (by simp)]
  simp only [true_and]
  rfl

theorem modeSet_hold_refused {s : State} {c : Cmd} {t : Nat} (had : (s.tick t).admits c 2 = true) (h : c.params = 2 :: zeros 7)
    (hlife : s.fget F.SEC_STATE_LIFECYCLE ≠ 3) : (s.modeSet .hold c t).repliedWith c opModeSet stBadParam ∧
      (s.modeSet .hold c t).modeNow = s.modeNow ∧ (s.modeSet .hold c t).ductus.modes = s.ductus.modes := by
  have hown := (modeSet_hold_own t h).trans (if_pos hlife)
  obtain ⟨hstep, hreplied⟩ := runLane_refused_spec (op := opModeSet) (effect := fun s a => s.pendMode .hold a (some c)) had
    (beq_iff_eq.mpr (mode_params (b := 2) h).1) hown (by decide) (by decide)
  refine ⟨hreplied, hstep.modeNow.trans (modeNow_tick s t), ?_⟩
  show (s.runLane c t opModeSet 2 _ _ _).ductus.modes = _
  rw [hstep.ductus, tick_ductus]

end Sys2Proof.Machine
end

section
/-! PROOF. The effect of a mode change at its instant (R94 to R97, R113), and MODE_SET as a whole. -/

namespace Sys2Proof.Machine

open State

/-! ### Entering a mode -/

theorem logged_putMode (s : State) (m : Mode) : Logged s (s.putMode m) :=
  ((((logged_fput s _ _).trans (logged_fput _ _ _)).trans (logged_logReg _ _ _ _)).trans (logged_hostEvent _ _) : Logged _ _)

theorem reg_putMode (s : State) (m : Mode) {a : Nat} (hlog : a ≠ R.LOG_HEAD) (hevt : a ≠ R.BRG_EVT) :
    (s.putMode m).reg a = ((s.fput F.VOTE_CTRL_MODE (modeCode m)).fsat F.MODE_STAT_CHANGES).reg a :=
  (reg_hostEvent_other _ _ hevt).trans (reg_logReg_other _ _ _ _ hlog)

theorem modeNow_putMode (s : State) (m : Mode) : (s.putMode m).modeNow = m := by
  have hfield : (s.putMode m).fget F.VOTE_CTRL_MODE = modeCode m % 2 ^ 2 := by
    rw [fget_of_reg (f := F.VOTE_CTRL_MODE) (reg_putMode s m (by decide) (by decide)),
      fget_of_reg (f := F.VOTE_CTRL_MODE) (reg_fsat_other _ F.MODE_STAT_CHANGES (by decide)), fget_fput_same _ _ _ rfl]
    rfl
  rw [State.modeNow, hfield]
  cases m <;> rfl

theorem stopCause_putMode (s : State) (m : Mode) : (s.putMode m).fget F.MODE_STAT_STOP_CAUSE = s.fget F.MODE_STAT_STOP_CAUSE := by
  rw [fget_of_reg (f := F.MODE_STAT_STOP_CAUSE) (reg_putMode s m (by decide) (by decide)), State.fsat, State.fsatAdd,
    fget_fput_other _ _ _ _ rfl rfl rfl]
  exact fget_of_reg (reg_fput_other s F.VOTE_CTRL_MODE _ (by decide))

/-- Entering a mode writes registers and the log: the lanes, the vote, the ductus and the folio stay. -/
theorem putMode_keeps (s : State) (m : Mode) : (s.putMode m).ductus = s.ductus ∧ (s.putMode m).folio = s.folio ∧
    (s.putMode m).now = s.now ∧ ∀ l, (s.putMode m).lane l = s.lane l := by
  obtain ⟨_, _, _, _, h⟩ := logged_putMode s m
  rw [h]
  exact ⟨rfl, rfl, rfl, fun l => by cases l <;> rfl⟩

/-! ### What the end of RUN drops (R93, R96, R113) -/

/-- No commit is due. -/
def NoneDue (s : State) : Prop := ∀ b ∈ s.ductus.tasks, b.due = none

/-- From `s` to `t` the registers below those of the lanes stay but for those of answers, the vote stays, and no commit falls due. -/
def Drops (s t : State) : Prop :=
  (∀ a, a < 0x200000 → a ∉ answerRegs → t.reg a = s.reg a) ∧ t.vote = s.vote ∧ (NoneDue s → NoneDue t)

/-- The lanes stay besides. -/
def DropsOnly (s t : State) : Prop := Drops s t ∧ ∀ l, t.lane l = s.lane l

namespace Drops

variable {s t u : State}

theorem refl (s : State) : Drops s s := ⟨fun _ _ _ => rfl, rfl, id⟩

theorem trans (h : Drops s t) (h' : Drops t u) : Drops s u := by
  obtain ⟨hreg, hvote, hdue⟩ := h
  obtain ⟨hreg', hvote', hdue'⟩ := h'
  exact ⟨fun a ha hn => (hreg' a ha hn).trans (hreg a ha hn), hvote'.trans hvote, hdue' ∘ hdue⟩

theorem modeNow (h : Drops s t) : t.modeNow = s.modeNow := by
  simp only [State.modeNow, fget_of_reg (f := F.VOTE_CTRL_MODE) (h.1 _ (by decide) (by decide))]

end Drops

namespace DropsOnly

variable {s t u : State}

theorem refl (s : State) : DropsOnly s s := ⟨Drops.refl s, fun _ => rfl⟩

theorem trans (h : DropsOnly s t) (h' : DropsOnly t u) : DropsOnly s u :=
  ⟨h.1.trans h'.1, fun l => (h'.2 l).trans (h.2 l)⟩

theorem foldl {α : Type} {k : State → α → State} (hk : ∀ s x, DropsOnly s (k s x)) (xs : List α) (s : State) :
    DropsOnly s (xs.foldl k s) := foldl_keeps (P := fun t => DropsOnly s t) (fun t x ht => ht.trans (hk t x)) xs (refl s)

theorem of_answer (h : AnswerStep s t) : DropsOnly s t := by
  refine ⟨⟨fun a _ ha => h.reg ha, h.vote, fun hdue b hb => hdue b ?_⟩, h.lane⟩
  rwa [h.ductus] at hb

theorem fput_task (s : State) {f : Field} (v : Nat) {l : Lane} {n : Nat} (hf : f.off = R.TASK_STAT l n) : DropsOnly s (s.fput f v) := by
  refine ⟨⟨fun a ha _ => reg_fput_other s f v ?_, rfl, id⟩, lane_fput s f v⟩
  rw [hf]
  unfold R.TASK_STAT
  omega

/-- Bookkeeping replaced by one with the same commit due. -/
theorem setBook (s : State) {b : TaskBook} (h : b.due = (s.book b.task).due) : DropsOnly s (s.setBook b) := by
  refine ⟨⟨fun _ _ _ => rfl, rfl, fun hdue x hx => ?_⟩, fun l => by cases l <;> rfl⟩
  obtain hold | hnew := List.mem_append.mp hx
  · exact hdue x (List.mem_of_mem_filter hold)
  · rw [List.mem_singleton.mp hnew, h, State.book]
    split
    · rename_i y hy
      exact hdue y (List.mem_of_find?_eq_some hy)
    · rfl

end DropsOnly

theorem dropsOnly_putTask (s : State) {f : Lane → Nat → Field} (n v : Nat) (hf : ∀ l, (f l n).off = R.TASK_STAT l n) :
    DropsOnly s (s.putTask f n v) := DropsOnly.foldl (fun u l => DropsOnly.fput_task u v (hf l)) s.voters s

theorem dropsOnly_dropTriggers (s : State) (n : Nat) : DropsOnly s (s.dropTriggers n) :=
  (DropsOnly.setBook s (b := { s.book n with triggers := [] }) (by rw [book_task])).trans
    (DropsOnly.foldl (fun u c => DropsOnly.of_answer (answers_reply u c _ _ _).1) _ _)

theorem dropsOnly_dropPending (s : State) (n : Nat) : DropsOnly s (s.dropPending n) := by
  unfold State.dropPending
  dsimp only
  split
  · exact DropsOnly.refl s
  · have hbook := DropsOnly.setBook s (b := { s.book n with pend := none }) (by rw [book_task])
    exact (hbook.trans (dropsOnly_putTask _ n 0 fun _ => rfl)).trans (dropsOnly_dropTriggers _ n)

theorem dropsOnly_dropAllPending (s : State) : DropsOnly s s.dropAllPending :=
  DropsOnly.foldl (fun u (r : TaskRec) => dropsOnly_dropPending u r.task) s.tasks s

theorem dropsOnly_endCommitFences (s : State) (was : Mode) : DropsOnly s (s.endCommitFences was) := by
  unfold State.endCommitFences
  split
  · exact DropsOnly.refl s
  · refine DropsOnly.foldl (fun u f => ?_) s.ductus.fences s
    split
    · exact DropsOnly.of_answer (fenceReply_spec u f _).1
    · exact DropsOnly.refl u

/-! ### Entry to HOLD and to STOP (R94, R96) -/

theorem enterHold_spec (s : State) : s.enterHold.modeNow = .hold ∧ ∀ l, s.enterHold.lane l = s.lane l := by
  obtain ⟨-, -, -, hlane⟩ := putMode_keeps s .hold
  have hdrop : DropsOnly ({ s.putMode .hold with ductus := { (s.putMode .hold).ductus with holdAt := (s.putMode .hold).now } } : State)
      s.enterHold := (dropsOnly_dropAllPending _).trans (dropsOnly_endCommitFences _ s.modeNow)
  refine ⟨hdrop.1.modeNow.trans (modeNow_putMode s .hold), fun l => (hdrop.2 l).trans ((hlane l).symm ▸ ?_)⟩
  cases l <;> rfl

theorem drops_setTaskSt (s : State) (l : Lane) (n : Nat) (st : TaskSt) : Drops s (s.setTaskSt l n st) :=
  (DropsOnly.fput_task s (taskStCode st) (f := F.TASK_STAT_STATE l n) rfl).1

theorem drops_setLane (s : State) (l : Lane) (x : LaneState) : Drops s (s.setLane l x) := by
  refine ⟨fun a _ _ => reg_setLane s l x a, setLane_vote s l x, fun h b hb => h b ?_⟩
  rwa [setLane_ductus] at hb

theorem drops_stopExec (s : State) (l : Lane) (n : Nat) : Drops s (s.stopExec l n) := by
  unfold State.stopExec
  split
  · exact (drops_setLane s l _).trans (drops_setTaskSt _ l n .idle)
  · split
    · exact drops_setLane s l _
    · exact drops_setTaskSt s l n .idle
  · split
    · exact drops_setLane s l _
    · exact drops_setTaskSt s l n .idle
  · exact Drops.refl s

theorem drops_eachExec {k : State → Lane → Nat → State} (hk : ∀ s l n, Drops s (k s l n)) (s : State) : Drops s (s.eachExec k) :=
  foldl_keeps (P := fun u => Drops s u) (fun u l hu =>
    foldl_keeps (P := fun w => Drops s w) (fun w r hw => hw.trans (hk w l r.task)) u.tasks hu) allLanes (Drops.refl s)

/-- The registers of STOP_CAUSE and TASK, then the mode (R85, R96). -/
def stopShown (s : State) (cause task : Nat) : State :=
  ((s.fput F.MODE_STAT_STOP_CAUSE cause).fput F.MODE_STAT_TASK task).putMode .stop

/-- Executions stopped (R96). -/
def stopStopped (s : State) (cause task : Nat) : State :=
  let u := stopShown s cause task
  ({ u with ductus := { u.ductus with stopAt := u.now } } : State).eachExec State.stopExec

/-- A state with no commit due and no object at the vote (R96). -/
def voteCleared (s : State) : State := { s.clearDue with vote := { s.clearDue.vote with outs := [] } }

theorem voteCleared_spec (s : State) :
    (∀ a, (voteCleared s).reg a = s.reg a) ∧ (voteCleared s).vote.outs = [] ∧ NoneDue (voteCleared s) := by
  refine ⟨fun _ => rfl, rfl, fun b hb => ?_⟩
  obtain ⟨x, -, rfl⟩ := List.mem_map.mp hb
  rfl

theorem reg_stopStopped (s : State) (cause task : Nat) {a : Nat} (ha : a < 0x200000) (hn : a ∉ answerRegs) :
    (stopStopped s cause task).reg a = (stopShown s cause task).reg a :=
  (drops_eachExec drops_stopExec _).1 a ha hn

theorem enterStop_eq (s : State) (cause task : Nat) :
    s.enterStop cause task = (voteCleared (stopStopped s cause task)).dropAllPending.endCommitFences s.modeNow := rfl

theorem enterStop_spec (s : State) {cause : Nat} (task : Nat) (hc : cause < 16) : let v := s.enterStop cause task
    v.modeNow = .stop ∧ v.fget F.MODE_STAT_STOP_CAUSE = cause ∧ v.vote.outs = [] ∧ NoneDue v := by
  obtain ⟨hregCleared, houts, hnone⟩ := voteCleared_spec (stopStopped s cause task)
  obtain ⟨⟨hregDrop, hvote, hdue⟩, -⟩ := (dropsOnly_dropAllPending (voteCleared (stopStopped s cause task))).trans
    (dropsOnly_endCommitFences _ s.modeNow)
  rw [enterStop_eq]
  have hreg := fun a (ha : a < 0x200000) (hn : a ∉ answerRegs) =>
    (hregDrop a ha hn).trans ((hregCleared a).trans (reg_stopStopped s cause task ha hn))
  have hcause : ((s.fput F.MODE_STAT_STOP_CAUSE cause).fput F.MODE_STAT_TASK task).fget F.MODE_STAT_STOP_CAUSE = cause := by
    rw [fget_fput_other _ _ _ _ rfl rfl rfl, fget_fput_same _ _ _ rfl]
    exact Nat.mod_eq_of_lt hc
  refine ⟨?_, ?_, ?_, ?_⟩
  · rw [State.modeNow, fget_of_reg (f := F.VOTE_CTRL_MODE) (hreg _ (by decide) (by decide)), ← State.modeNow]
    exact modeNow_putMode _ .stop
  · rw [fget_of_reg (f := F.MODE_STAT_STOP_CAUSE) (hreg _ (by decide) (by decide))]
    exact (stopCause_putMode _ .stop).trans hcause
  · rw [hvote, houts]
  · exact hdue hnone

/-! ### Entry to RUN from STOP (R81, R94) -/

/-- A task's bookkeeping at RUN entry (R81, R141, R142). -/
def RunBook (b : TaskBook) : Prop := b.consec = 0 ∧ b.firstNext = true ∧ b.due = none

/-- One task's bookkeeping at RUN entry. -/
def runBook (s : State) (r : TaskRec) : State := (s.setBook (bookRunEntry (s.book r.task))).putTask F.TASK_STAT_CONSEC r.task 0

theorem putTask_ductus (s : State) (f : Lane → Nat → Field) (n v : Nat) : (s.putTask f n v).ductus = s.ductus :=
  foldl_keeps (P := fun u : State => u.ductus = s.ductus) (k := fun u l => u.fput (f l n) v) (fun _ _ hu => hu) s.voters rfl

theorem book_runBook (s : State) (r : TaskRec) : (runBook s r).book r.task = bookRunEntry (s.book r.task) :=
  (book_of_ductus (putTask_ductus _ _ _ _) r.task).trans (book_setBook_same s (book_task s r.task))

theorem book_runBook_other (s : State) {r : TaskRec} {n : Nat} (hn : n ≠ r.task) : (runBook s r).book n = s.book n :=
  (book_of_ductus (putTask_ductus _ _ _ _) n).trans
    (book_setBook_other s (b := bookRunEntry (s.book r.task)) (by rw [show (bookRunEntry (s.book r.task)).task = r.task from book_task s _]; exact hn))

theorem runBook_keeps_book {s : State} {n : Nat} (r : TaskRec) (h : RunBook (s.book n)) : RunBook ((runBook s r).book n) := by
  by_cases hn : n = r.task
  · rw [hn, book_runBook]
    exact ⟨rfl, rfl, rfl⟩
  · rwa [book_runBook_other s hn]

theorem booksRunEntry_books (s : State) {r : TaskRec} (hr : r ∈ s.tasks) : RunBook (s.booksRunEntry.book r.task) :=
  foldl_reaches (P := fun _ => True) (Q := fun u : State => RunBook (u.book r.task)) (k := runBook) (fun _ _ _ => trivial)
    (fun _ q hu => runBook_keeps_book q hu) (fun u _ => by rw [book_runBook]; exact ⟨rfl, rfl, rfl⟩) s.tasks s hr trivial

/-- Of the ductus only the tasks' bookkeeping changes. -/
theorem booksRunEntry_ductus (s : State) : s.booksRunEntry.ductus = { s.ductus with tasks := s.booksRunEntry.ductus.tasks } :=
  foldl_keeps (P := fun u : State => u.ductus = { s.ductus with tasks := u.ductus.tasks }) (k := runBook) (fun u r hu => by
    have hstep : (runBook u r).ductus = { u.ductus with tasks := (runBook u r).ductus.tasks } := by
      rw [runBook, putTask_ductus]; rfl
    rw [hstep, hu]) s.tasks rfl

/-- The state at RUN entry before the tasks' bookkeeping. -/
def runEntered (s : State) : State :=
  { s.fput F.MODE_RUN_ENTRY_SECONDS (secOf s.now) with ductus := { s.ductus with runEntry := some s.now } }

theorem enterRun_eq (s : State) : s.enterRun true = (runEntered s).booksRunEntry.putMode .run := rfl

theorem enterRun_spec (s : State) : let v := s.enterRun true
    v.modeNow = .run ∧ v.ductus.runEntry = some s.now ∧ v.ductus.modes = s.ductus.modes ∧ ∀ r ∈ s.tasks, RunBook (v.book r.task) := by
  obtain ⟨hductus, -⟩ := putMode_keeps (runEntered s).booksRunEntry .run
  rw [enterRun_eq]
  refine ⟨modeNow_putMode _ .run, ?_, ?_, fun r hr => ?_⟩
  · rw [hductus, booksRunEntry_ductus]; rfl
  · rw [hductus, booksRunEntry_ductus]; rfl
  · rw [book_of_ductus hductus]
    exact booksRunEntry_books (runEntered s) hr

/-! ### MODE_CHANGE_EFFECT -/

/-- A change no longer waits (R95). -/
def dropMode (s : State) (p : PendMode) : State := { s with ductus := { s.ductus with modes := s.ductus.modes.filter (· != p) } }

/-- The state in which a mode has changed, before the MODE_SET is answered (R95, R177). -/
def modeChanged (s : State) (p : PendMode) : State :=
  ((dropMode s p).changeMode p.target).researchSeam ((dropMode s p).changeMode p.target).now

/-- The search of a seam changes nothing of mode, lanes, vote and ductus. -/
theorem modeChanged_keeps (s : State) (p : PendMode) : let u := (dropMode s p).changeMode p.target
    (modeChanged s p).regs = u.regs ∧ (modeChanged s p).ductus = u.ductus ∧ (modeChanged s p).vote = u.vote ∧
      ∀ l, (modeChanged s p).lane l = u.lane l := by
  dsimp only
  rw [modeChanged, researchSeam_frame]
  exact ⟨rfl, rfl, rfl, fun l => by cases l <;> rfl⟩

/-- The MODE_SET that asked for a change is answered, and the answer leaves all else (R95). -/
theorem takeMode_spec (s : State) (p : PendMode) : AnswerStep (modeChanged s p) (s.takeMode p) ∧
    ∀ c, p.cmd = some c → (s.takeMode p).repliedWith c opModeSet stOk := by
  have htake : ∀ o : Option Cmd, p.cmd = o → s.takeMode p = (match o with
      | some c => (modeChanged s p).replyOk c opModeSet
      | none => modeChanged s p) := fun o ho => by
    subst ho; rfl
  cases hp : p.cmd with
  | none =>
    rw [htake none hp]
    exact ⟨AnswerStep.refl _, nofun⟩
  | some c =>
    rw [htake (some c) hp]
    refine ⟨answer_replyOk _ _ _, fun d hd => ?_⟩
    obtain rfl := Option.some.inj hd
    exact (answers_reply (modeChanged s p) c opModeSet stOk []).repliedWith

/-- With no commit due there is none to vote before the change (R114). -/
theorem meetCommits_of_none {s : State} (h : s.dueCommits = []) : s.meetCommits = s := by
  refine foldl_keeps (P := fun u => u = s) (fun u _ hu => ?_) s.tasks rfl
  subst hu
  unfold State.meetNext
  rw [h]
  split
  · rename_i hnone
    cases hnone
  · rfl

theorem exec_modeChangeEffect {s : State} {p : PendMode} {t : Nat}
    (hp : (s.upTo t).ductus.modes.filter (fun x => x.instant ≤ (s.upTo t).now) = [p]) (hdue : (s.upTo t).dueCommits = []) :
    exec (.modeChangeEffect t) s = .next ((s.upTo t).takeMode p) := by
  simp only [exec, execModeChangeEffect, hp, List.isEmpty_cons, Bool.false_eq_true, if_false, List.foldl_cons, List.foldl_nil,
    meetCommits_of_none hdue]

theorem not_mem_dropMode (s : State) (p : PendMode) : p ∉ (dropMode s p).ductus.modes := fun h => by
  simpa using (List.mem_filter.mp h).2

theorem changeMode_same {s : State} {m : Mode} (hm : m = s.modeNow) : s.changeMode m = s :=
  if_pos (by rw [hm, beq_self_eq_true, Bool.true_or])

section

variable {s : State} (hf : ¬ s.flag F.VOTE_CTRL_FAILED = true)

include hf

theorem changeMode_stop_run (hm : s.modeNow = .stop) : s.changeMode .run = s.enterRun true := by
  unfold State.changeMode
  rw [if_neg (by simp [hm, hf]), hm]

theorem changeMode_run_stop (hm : s.modeNow = .run) : s.changeMode .stop = s.enterStop stopCommand 0 := by
  unfold State.changeMode
  rw [if_neg (by simp [hm, hf]), hm]

theorem changeMode_run_hold (hm : s.modeNow = .run) : s.changeMode .hold = s.enterHold := by
  unfold State.changeMode
  rw [if_neg (by simp [hm, hf]), hm]

end

/-- MODE_SET_RUN that is accepted (R95). -/
theorem modeSetRun_spec {s : State} {c : Cmd} {t : Nat} (had : (s.tick t).admits c 2 = true) (hp : c.params = 1 :: zeros 7)
    (hf : s.folio.running.isSome = true) (hact : ¬ s.notActing = true) :
    Completes (.modeSetRun c t) s fun v => v.modeNow = s.modeNow ∧ ∃ p ∈ v.ductus.modes, p.target = .run ∧ p.cmd = some c ∧
      p.instant % 1000000 = 0 ∧ (s.tick t).now + 200000 ≤ p.instant ∧ p.instant < (s.tick t).now + 1200000 := by
  obtain ⟨hmode, hmem⟩ := modeSet_accepted_spec (m := .run) had hp (modeSet_run_own hp hf hact)
  exact ⟨_, rfl, hmode, _, hmem, rfl, rfl, modeInstant_run _⟩

/-- An accepted MODE_SET of STOP or HOLD (R95). -/
theorem modeSet_grid_spec {s : State} {c : Cmd} {m : Mode} {t : Nat} (hm : m ≠ .run) (had : (s.tick t).admits c 2 = true)
    (hp : c.params = BitVec.ofNat 8 (modeCode m) :: zeros 7) (hown : modeOwn m c ((s.tick t).touch c.session) = .accept) :
    let v := s.modeSet m c t
    v.modeNow = s.modeNow ∧ ∃ p ∈ v.ductus.modes, p.target = m ∧ p.cmd = some c ∧
      p.instant % 50000 = 0 ∧ (s.tick t).now + 20000 ≤ p.instant ∧ p.instant < (s.tick t).now + 70000 := by
  obtain ⟨hmode, hmem⟩ := modeSet_accepted_spec had hp hown
  exact ⟨hmode, _, hmem, rfl, rfl, modeInstant_grid _ hm⟩

section

variable {s : State} {p : PendMode} {t : Nat} (hp : (s.upTo t).ductus.modes.filter (fun x => x.instant ≤ (s.upTo t).now) = [p])
  (hdue : (s.upTo t).dueCommits = [])

include hp hdue

/-- RUN from STOP takes effect (R75, R81, R94). -/
theorem modeChangeEffect_run (htarget : p.target = .run) (hm : (s.upTo t).modeNow = .stop)
    (hf : ¬ (s.upTo t).flag F.VOTE_CTRL_FAILED = true) :
    Completes (.modeChangeEffect t) s fun v => let u := s.upTo t
      v.modeNow = .run ∧ v.ductus.runEntry = some u.now ∧ p ∉ v.ductus.modes ∧
      (∀ r ∈ u.tasks, (v.book r.task).consec = 0 ∧ (v.book r.task).firstNext = true ∧ (v.book r.task).due = none) ∧
      (∀ c, p.cmd = some c → v.repliedWith c 0x0201 0) := by
  obtain ⟨hmode, hentry, hmodes, hbooks⟩ := enterRun_spec (dropMode (s.upTo t) p)
  obtain ⟨hregs, hductus, -, -⟩ := modeChanged_keeps (s.upTo t) p
  obtain ⟨hanswer, hreplied⟩ := takeMode_spec (s.upTo t) p
  rw [htarget, changeMode_stop_run (s := dropMode (s.upTo t) p) hf hm] at hregs hductus
  refine ⟨_, exec_modeChangeEffect hp hdue, ?_, ?_, ?_, fun r hr => ?_, hreplied⟩
  · rw [hanswer.modeNow, modeNow_of_regs hregs, hmode]
  · rw [hanswer.ductus, hductus, hentry]; rfl
  · rw [hanswer.ductus, hductus, hmodes]
    exact not_mem_dropMode _ p
  · have hbook : ((s.upTo t).takeMode p).book r.task = ((dropMode (s.upTo t) p).enterRun true).book r.task :=
      (hanswer.book _).trans (book_of_ductus hductus _)
    rw [hbook]
    exact hbooks r hr

/-- STOP from RUN takes effect (R96). -/
theorem modeChangeEffect_stop (htarget : p.target = .stop) (hm : (s.upTo t).modeNow = .run)
    (hf : ¬ (s.upTo t).flag F.VOTE_CTRL_FAILED = true) :
    Completes (.modeChangeEffect t) s fun v =>
      v.modeNow = .stop ∧ v.fget F.MODE_STAT_STOP_CAUSE = 1 ∧ v.vote.outs = [] ∧ (∀ b ∈ v.ductus.tasks, b.due = none) ∧
      (∀ c, p.cmd = some c → v.repliedWith c 0x0201 0) := by
  obtain ⟨hmode, hcause, houts, hnone⟩ := enterStop_spec (dropMode (s.upTo t) p) (cause := stopCommand) 0 (by decide)
  obtain ⟨hregs, hductus, hvote, -⟩ := modeChanged_keeps (s.upTo t) p
  obtain ⟨hanswer, hreplied⟩ := takeMode_spec (s.upTo t) p
  rw [htarget, changeMode_run_stop (s := dropMode (s.upTo t) p) hf hm] at hregs hductus hvote
  refine ⟨_, exec_modeChangeEffect hp hdue, ?_, ?_, ?_, fun b hb => ?_, hreplied⟩
  · rw [hanswer.modeNow, modeNow_of_regs hregs, hmode]
  · rw [hanswer.fget (by decide), fget_of_regs hregs, hcause]; rfl
  · rw [hanswer.vote, hvote, houts]
  · rw [hanswer.ductus, hductus] at hb
    exact hnone b hb

/-- HOLD from RUN takes effect (R94). -/
theorem modeChangeEffect_hold (htarget : p.target = .hold) (hm : (s.upTo t).modeNow = .run)
    (hf : ¬ (s.upTo t).flag F.VOTE_CTRL_FAILED = true) :
    Completes (.modeChangeEffect t) s fun v => v.modeNow = .hold ∧ (∀ l, v.lane l = (s.upTo t).lane l) ∧
      (∀ c, p.cmd = some c → v.repliedWith c 0x0201 0) := by
  obtain ⟨hmode, hlanes⟩ := enterHold_spec (dropMode (s.upTo t) p)
  obtain ⟨hregs, -, -, hlane⟩ := modeChanged_keeps (s.upTo t) p
  obtain ⟨hanswer, hreplied⟩ := takeMode_spec (s.upTo t) p
  rw [htarget, changeMode_run_hold (s := dropMode (s.upTo t) p) hf hm] at hregs hlane
  refine ⟨_, exec_modeChangeEffect hp hdue, ?_, fun l => ?_, hreplied⟩
  · rw [hanswer.modeNow, modeNow_of_regs hregs, hmode]
  · rw [hanswer.lane, hlane, hlanes]
    cases l <;> rfl

/-- A change that names the mode in force leaves it (R95). -/
theorem modeChangeEffect_same (htarget : p.target = (s.upTo t).modeNow) :
    Completes (.modeChangeEffect t) s fun v => v.modeNow = (s.upTo t).modeNow ∧ v.ductus.runEntry = (s.upTo t).ductus.runEntry ∧
      (∀ c, p.cmd = some c → v.repliedWith c 0x0201 0) := by
  obtain ⟨hregs, hductus, -, -⟩ := modeChanged_keeps (s.upTo t) p
  obtain ⟨hanswer, hreplied⟩ := takeMode_spec (s.upTo t) p
  rw [changeMode_same (s := dropMode (s.upTo t) p) htarget] at hregs hductus
  refine ⟨_, exec_modeChangeEffect hp hdue, ?_, ?_, hreplied⟩
  · exact hanswer.modeNow.trans (modeNow_of_regs hregs)
  · rw [hanswer.ductus, hductus]; rfl

end

/-- Settles O18: an accepted MODE_SET waits by `pendMode`; at its instant `takeMode` enters the mode and answers. -/
theorem modeChangesTakeEffectAtTheirInstants : Obligations.ModeChangesTakeEffectAtTheirInstants := by
  unfold Obligations.ModeChangesTakeEffectAtTheirInstants
  refine ⟨?_, ?_, ?_, ?_, ?_, ?_, ?_, ?_⟩
  · intro s c t had hp hf hact
    exact modeSetRun_spec had hp hf hact
  · intro s c t had hp hact
    exact ⟨_, rfl, modeSet_grid_spec (by decide) had hp (modeSet_stop_own hp hact)⟩
  · intro s c t had hp hact hlife
    exact ⟨_, rfl, modeSet_grid_spec (by decide) had hp
      ((modeSet_hold_own t hp).trans ((if_neg (not_not.mpr hlife)).trans (if_neg hact)))⟩
  · intro s c t had hp hlife
    exact ⟨_, rfl, modeSet_hold_refused had hp hlife⟩
  · intro s p t hp hdue htarget hm hf _
    exact modeChangeEffect_run hp hdue htarget hm hf
  · intro s p t hp hdue htarget hm hf _
    exact modeChangeEffect_stop hp hdue htarget hm hf
  · intro s p t hp hdue htarget hm hf _
    exact modeChangeEffect_hold hp hdue htarget hm hf
  · intro s p t hp hdue htarget
    exact modeChangeEffect_same hp hdue htarget

end Sys2Proof.Machine
end

section
/-! PROOF. Integer results reduced to a type's width, or clamped to its range (R120, R132). -/

namespace Sys2Proof.Machine

/-- The value of `x` reduced to the low w bits and read as the type reads them. -/
def wrapInt (ty : Ty) (x : Int) : Int :=
  let r := x % ((2 ^ tyWidth ty : Nat) : Int)
  if tySigned ty && decide ((2 ^ (tyWidth ty - 1) : Nat) ≤ r) then r - ((2 ^ tyWidth ty : Nat) : Int) else r

theorem wrapReg_eq (ty : Ty) (x : Int) : wrapReg ty x = BitVec.ofInt 64 (wrapInt ty x) := rfl

theorem wrapInt_emod (ty : Ty) (x : Int) :
    wrapInt ty x % ((2 ^ tyWidth ty : Nat) : Int) = x % ((2 ^ tyWidth ty : Nat) : Int) := by
  unfold wrapInt
  dsimp only
  split
  · rw [Int.sub_emod_right, Int.emod_emod_of_dvd x (dvd_refl _)]
  · exact Int.emod_emod_of_dvd x (dvd_refl _)

theorem tyWidth_pos (ty : Ty) : 0 < tyWidth ty := by cases ty <;> decide

/-- A type's width is one bit more than that of its greatest power of two. -/
theorem two_pow_tyWidth (ty : Ty) : 2 ^ tyWidth ty = 2 * 2 ^ (tyWidth ty - 1) := by
  rw [← Nat.pow_succ', Nat.succ_eq_add_one, Nat.sub_add_cancel (tyWidth_pos ty)]

/-- The range of a type is one of 2^w values. -/
theorem tyMax_eq (ty : Ty) : tyMax ty = tyMin ty + ((2 ^ tyWidth ty : Nat) : Int) - 1 := by
  have hpow := two_pow_tyWidth ty
  unfold tyMax tyMin
  split <;> omega

theorem wrapInt_range (ty : Ty) (x : Int) : tyMin ty ≤ wrapInt ty x ∧ wrapInt ty x ≤ tyMax ty := by
  have hpow := two_pow_tyWidth ty
  have hhalf : 0 < 2 ^ (tyWidth ty - 1) := Nat.two_pow_pos _
  have hpos : (0 : Int) < ((2 ^ tyWidth ty : Nat) : Int) := by omega
  have hlow := Int.emod_nonneg x hpos.ne'
  have hhigh := Int.emod_lt_of_pos x hpos
  unfold wrapInt tyMin tyMax
  cases tySigned ty
  · simp only [Bool.false_and, Bool.false_eq_true, if_false]
    omega
  · simp only [Bool.true_and, decide_eq_true_eq, if_true]
    split <;> omega

/-- A number in the type's range is one of the 64 bits of a register. -/
theorem regInt_ofInt {ty : Ty} {v : Int} (hlow : tyMin ty ≤ v) (hhigh : v ≤ tyMax ty) : regInt ty (BitVec.ofInt 64 v) = v := by
  have hle : 2 ^ tyWidth ty ≤ 2 ^ 64 := Nat.pow_le_pow_right Nat.two_pos (tyWidth_le ty)
  have hpow := two_pow_tyWidth ty
  unfold tyMin at hlow
  unfold tyMax at hhigh
  unfold regInt
  cases hsigned : tySigned ty <;> simp only [hsigned, Bool.false_eq_true, if_false, if_true] at hlow hhigh ⊢
  · rw [BitVec.toNat_ofInt]
    omega
  · rw [BitVec.toInt_ofInt, Int.bmod_eq_of_le] <;> omega

theorem regInt_wrapReg (ty : Ty) (x : Int) : regInt ty (wrapReg ty x) = wrapInt ty x := by
  obtain ⟨hlow, hhigh⟩ := wrapInt_range ty x
  rw [wrapReg_eq, regInt_ofInt hlow hhigh]

/-- Two numbers in the type's range that agree in w bits are one. -/
theorem eq_of_range {ty : Ty} {x y : Int} (hx : tyMin ty ≤ x ∧ x ≤ tyMax ty) (hy : tyMin ty ≤ y ∧ y ≤ tyMax ty)
    (h : x % ((2 ^ tyWidth ty : Nat) : Int) = y % ((2 ^ tyWidth ty : Nat) : Int)) : x = y := by
  obtain ⟨hxlow, hxhigh⟩ := hx
  obtain ⟨hylow, hyhigh⟩ := hy
  rw [tyMax_eq] at hxhigh hyhigh
  have hsub : ((2 ^ tyWidth ty : Nat) : Int) ∣ x - y := Int.ModEq.dvd (Int.ModEq.symm h)
  exact sub_eq_zero.mp (Int.eq_zero_of_abs_lt_dvd hsub (abs_lt.mpr ⟨by omega, by omega⟩))

theorem wrapInt_of_range {ty : Ty} {x : Int} (h : tyMin ty ≤ x ∧ x ≤ tyMax ty) : wrapInt ty x = x :=
  eq_of_range (wrapInt_range ty x) h (wrapInt_emod ty x)

theorem clampInt_range (ty : Ty) (x : Int) : tyMin ty ≤ clampInt ty x ∧ clampInt ty x ≤ tyMax ty := by
  have hsize : 0 < 2 ^ tyWidth ty := Nat.two_pow_pos _
  have hmax := tyMax_eq ty
  unfold clampInt
  split
  · omega
  · split <;> omega

theorem regInt_satReg (ty : Ty) (x : Int) : regInt ty (satReg ty x) = clampInt ty x := by
  rw [satReg, regInt_wrapReg, wrapInt_of_range (clampInt_range ty x)]

theorem wrapReg_regInt_wrapReg (ty : Ty) (x : Int) : wrapReg ty (regInt ty (wrapReg ty x)) = wrapReg ty x := by
  rw [regInt_wrapReg]
  exact wrapReg_congr (wrapInt_emod ty x)

/-- A wrapped result is a register representation of its type (R120). -/
theorem regFits_wrapReg {ty : Ty} (x : Int) (hb : ty ≠ .bool) (hr : ¬ tyReal ty = true) : regFits ty (wrapReg ty x) = true := by
  cases ty
  case bool => exact absurd rfl hb
  case real32 | real64 => exact absurd rfl hr
  all_goals exact beq_iff_eq.mpr (wrapReg_regInt_wrapReg _ x)

/-- Settles O20: of the 2^w values in the type's range exactly one agrees with the exact result in w bits. -/
theorem wrappingAndSaturatingResults : Obligations.WrappingAndSaturatingResults := by
  unfold Obligations.WrappingAndSaturatingResults
  intro ty x hb hr
  obtain ⟨hlow, hhigh⟩ := wrapInt_range ty x
  refine ⟨?_, regInt_satReg ty x, regFits_wrapReg x hb hr, regFits_wrapReg _ hb hr⟩
  rw [regInt_wrapReg]
  refine ⟨hlow, hhigh, ?_⟩
  exact_mod_cast Int.emod_eq_emod_iff_emod_sub_eq_zero.mp (wrapInt_emod ty x)

end Sys2Proof.Machine
end

section
/-! PROOF. Stroke instructions that write one frame register and go on: integer arithmetic (R132 to R137). -/

namespace Sys2Proof.Machine

/-! ### Instructions of an execution under way -/

section

variable {i : Instr} {x : Ctx} {s : State} {e : Exec} {d a b : Reg} {v : DWord} (hrun : s.running x = some e)

include hrun

theorem strokeReg_running (words : Nat) (k : Exec → Exec) :
    strokeReg x s words k = .next (s.setExec x.lane x.task ((k e).skip words)) := strokeStep_running _ hrun

/-- An instruction that combines two registers writes what its function gives in the type of the first. -/
theorem sets_of_strokeBin {f : Ty → DWord → DWord → DWord} (hexec : exec i s = strokeBin x s d a b f)
    (hv : f (e.ty a) (e.val a) (e.val b) = v) : Sets i x s e 1 d (e.ty a) v := by
  subst hv
  exact hexec.trans (strokeReg_running hrun 1 _)

theorem sets_of_strokeUn {f : Ty → DWord → DWord} (hexec : exec i s = strokeUn x s d a f)
    (hv : f (e.ty a) (e.val a) = v) : Sets i x s e 1 d (e.ty a) v := by
  subst hv
  exact hexec.trans (strokeReg_running hrun 1 _)

theorem sets_of_strokeDiv {f : Ty → DWord → DWord → DWord} (hexec : exec i s = strokeDiv x s d a b f)
    (hzero : divisorZero (e.ty a) (e.val b) = false) (hv : f (e.ty a) (e.val a) (e.val b) = v) :
    Sets i x s e 1 d (e.ty a) v := by
  subst hv
  refine hexec.trans ((strokeStep_running _ hrun).trans ?_)
  rw [hzero]; rfl

/-- A division by zero writes 0, sets DIVZ and goes on (R136). -/
theorem strokeDiv_by_zero {f : Ty → DWord → DWord → DWord} (hzero : divisorZero (e.ty a) (e.val b) = true)
    (hv : f (e.ty a) (e.val a) (e.val b) = 0) : strokeDiv x s d a b f =
      .next ((s.fput (F.TASK_STAT_DIVZ x.lane x.task) 1).setExec x.lane x.task ((e.set d (e.ty a) 0).skip 1)) := by
  refine (strokeStep_running _ hrun).trans ?_
  rw [hzero, hv]; rfl

end

/-! ### Integer operations -/

theorem aluAbss_abs (ty : Ty) (a : DWord) : aluAbss ty a = satReg ty |regInt ty a| := by rw [aluAbss, Int.natCast_natAbs]

section

variable {ty : Ty} {a b : DWord} (hty : ¬ tyReal ty = true)

include hty

theorem arith_int (fi : Int → Int → Int) (fr : Fmt → Fp → Fp → Nat) :
    arith ty fi fr a b = wrapReg ty (fi (regInt ty a) (regInt ty b)) := if_neg hty

theorem divisorZero_int : divisorZero ty b = (regInt ty b == 0) := if_neg hty

theorem aluNeg_int : aluNeg ty a = wrapReg ty (-(regInt ty a)) := if_neg hty

theorem aluAbs_int : aluAbs ty a = wrapReg ty |regInt ty a| := (if_neg hty).trans (by rw [Int.natCast_natAbs])

theorem aluMin_int : aluMin ty a b = if regInt ty a ≤ regInt ty b then a else b := if_neg hty

theorem aluMax_int : aluMax ty a b = if regInt ty b ≤ regInt ty a then a else b := if_neg hty

end

/-! ### Divisions by type and divisor (R135, R136) -/

section

variable {ty : Ty} {a b : DWord}

theorem aluDiv_by_zero (h : divisorZero ty b = true) : aluDiv ty a b = 0 := if_pos h

theorem aluMod_by_zero (h : divisorZero ty b = true) : aluMod ty a b = 0 := if_pos h

theorem aluDiv_nonzero (h : divisorZero ty b = false) : aluDiv ty a b = arith ty (fun x y => x.tdiv y) fpDiv a b :=
  if_neg (ne_true_of_eq_false h)

theorem aluMod_nonzero (h : divisorZero ty b = false) : aluMod ty a b = wrapReg ty ((regInt ty a).tmod (regInt ty b)) :=
  if_neg (ne_true_of_eq_false h)

end

/-- Settles O21: on a type that is no REAL each operation is the exact integer one, wrapped or clamped. -/
theorem strokeArithmeticOnIntegers : Obligations.StrokeArithmeticOnIntegers := by
  unfold Obligations.StrokeArithmeticOnIntegers
  intro s x e d a b imm hrun hty
  refine ⟨sets_of_strokeBin hrun rfl (arith_int hty _ _), sets_of_strokeBin hrun rfl (arith_int hty _ _),
    sets_of_strokeBin hrun rfl (arith_int hty _ _), sets_of_strokeUn hrun rfl (aluNeg_int hty), sets_of_strokeUn hrun rfl (aluAbs_int hty),
    sets_of_strokeUn (f := fun ty v => aluAddi ty v imm) hrun rfl rfl, sets_of_strokeBin hrun rfl rfl, sets_of_strokeBin hrun rfl rfl,
    sets_of_strokeBin hrun rfl rfl,
    sets_of_strokeUn hrun rfl rfl, sets_of_strokeUn hrun rfl (aluAbss_abs _ _), sets_of_strokeBin hrun rfl (aluMin_int hty),
    sets_of_strokeBin hrun rfl (aluMax_int hty), fun hq => ?_, fun hq => ?_⟩
  · have hzero : divisorZero (e.ty a) (e.val b) = false := (divisorZero_int hty).trans (beq_eq_false_iff_ne.mpr hq)
    exact ⟨sets_of_strokeDiv hrun rfl hzero ((aluDiv_nonzero hzero).trans (arith_int hty _ _)),
      sets_of_strokeDiv hrun rfl hzero (aluMod_nonzero hzero)⟩
  · have hzero : divisorZero (e.ty a) (e.val b) = true := (divisorZero_int hty).trans (beq_iff_eq.mpr hq)
    exact ⟨strokeDiv_by_zero hrun hzero (aluDiv_by_zero hzero), strokeDiv_by_zero hrun hzero (aluMod_by_zero hzero)⟩

end Sys2Proof.Machine
end

section
/-! PROOF. Stroke instructions on REAL operands (R136, R137). -/

namespace Sys2Proof.Machine

/-! ### The order of data -/

/-- The order of two data that are no NaN turns its sign with its operands. -/
theorem fpCmp_swap (p q : Fp) : fpCmp q p = -fpCmp p q := by
  cases p <;> cases q
  case nan.nan | nan.inf | nan.fin | inf.nan | fin.nan => rfl
  case inf.inf n m => simp only [fpCmp, neg_sub]
  case inf.fin n _ _ _ => cases n <;> rfl
  case fin.inf _ _ _ n => cases n <;> rfl
  case fin.fin n m e n' m' e' => simp only [fpCmp, neg_sub, min_comm e' e]

/-- What `realLt` finds: neither operand is a NaN, and the first is below the second (R138). -/
theorem realLt_iff {ty : Ty} {a b : DWord} : realLt ty a b = true ↔
    (fpIsNan (fpReg ty a) || fpIsNan (fpReg ty b)) = false ∧ fpCmp (fpReg ty a) (fpReg ty b) < 0 := by
  simp only [realLt, Bool.and_eq_true, Bool.not_eq_true', decide_eq_true_eq, Bool.or_eq_false_iff]

section

variable {ty : Ty} {a b : DWord}

theorem realMin_of_lt (h : realLt ty a b = true) : realMin ty a b = a := by
  obtain ⟨hnan, hcmp⟩ := realLt_iff.mp h
  simp [realMin, hnan, hcmp]

theorem realMax_of_lt (h : realLt ty a b = true) : realMax ty a b = b := by
  obtain ⟨hnan, hcmp⟩ := realLt_iff.mp h
  simp [realMax, hnan, hcmp, hcmp.le]

theorem realMin_of_gt (h : realLt ty b a = true) : realMin ty a b = b := by
  obtain ⟨hnan, hcmp⟩ := realLt_iff.mp h
  rw [fpCmp_swap, neg_lt_zero] at hcmp
  rw [Bool.or_comm] at hnan
  simp [realMin, hnan, hcmp, hcmp.le]

theorem realMax_of_gt (h : realLt ty b a = true) : realMax ty a b = a := by
  obtain ⟨hnan, hcmp⟩ := realLt_iff.mp h
  rw [fpCmp_swap, neg_lt_zero] at hcmp
  rw [Bool.or_comm] at hnan
  simp [realMax, hnan, hcmp]

end

/-! ### REAL operations -/

section

variable {ty : Ty} {a b : DWord} (hty : tyReal ty = true)

include hty

theorem arith_real (fi : Int → Int → Int) (fr : Fmt → Fp → Fp → Nat) :
    arith ty fi fr a b = realReg (fr (fmtOf ty) (fpReg ty a) (fpReg ty b)) := if_pos hty

theorem aluNeg_real : aluNeg ty a = a ^^^ BitVec.ofNat 64 (2 ^ (tyWidth ty - 1)) := if_pos hty

theorem aluAbs_real : aluAbs ty a = a &&& ~~~ BitVec.ofNat 64 (2 ^ (tyWidth ty - 1)) := if_pos hty

theorem aluMin_real : aluMin ty a b = realMin ty a b := if_pos hty

theorem aluMax_real : aluMax ty a b = realMax ty a b := if_pos hty

/-- A REAL divisor is zero with either sign (R136). -/
theorem divisorZero_real : divisorZero ty b = true ↔ ∃ n k, fpReg ty b = .fin n 0 k := by
  rw [divisorZero, if_pos hty]
  cases fpReg ty b with
  | nan => simp
  | inf n => simp
  | fin n m k => simp

end

/-- Settles O22: each operation is the exact one rounded once; which of two is less, `fpCmp` says for either order. -/
theorem strokeArithmeticOnReals : Obligations.StrokeArithmeticOnReals := by
  unfold Obligations.StrokeArithmeticOnReals
  refine ⟨?_, ?_, ?_, ?_, ?_, ?_⟩
  · intro s x e d a b hrun hty
    refine ⟨sets_of_strokeBin hrun rfl (arith_real hty _ _), sets_of_strokeBin hrun rfl (arith_real hty _ _),
      sets_of_strokeBin hrun rfl (arith_real hty _ _), sets_of_strokeUn hrun rfl rfl, sets_of_strokeUn hrun rfl (aluNeg_real hty),
      sets_of_strokeUn hrun rfl (aluAbs_real hty), fun hq => ?_, fun n k hq => ?_, fun hlt => ?_, fun hlt => ?_⟩
    · have hzero : divisorZero (e.ty a) (e.val b) = false := by
        rw [← Bool.not_eq_true, divisorZero_real hty]
        exact fun ⟨n, k, h⟩ => hq n k h
      exact sets_of_strokeDiv hrun rfl hzero ((aluDiv_nonzero hzero).trans (arith_real hty _ _))
    · have hzero : divisorZero (e.ty a) (e.val b) = true := (divisorZero_real hty).mpr ⟨n, k, hq⟩
      exact strokeDiv_by_zero hrun hzero (aluDiv_by_zero hzero)
    · exact ⟨sets_of_strokeBin hrun rfl ((aluMin_real hty).trans (realMin_of_lt hlt)),
        sets_of_strokeBin hrun rfl ((aluMax_real hty).trans (realMax_of_lt hlt))⟩
    · exact ⟨sets_of_strokeBin hrun rfl ((aluMin_real hty).trans (realMin_of_gt hlt)),
        sets_of_strokeBin hrun rfl ((aluMax_real hty).trans (realMax_of_gt hlt))⟩
  all_goals decide

end Sys2Proof.Machine
end

section
/-! PROOF. Logic, shifts, rotates and comparisons of Stroke (R131, R138, R139). -/

namespace Sys2Proof.Machine

/-- A comparison writes its answer as a BOOL. -/
theorem sets_of_strokeCmp {i : Instr} {x : Ctx} {s : State} {e : Exec} {d a b : Reg} {f : Ty → DWord → DWord → Bool} {c : Bool}
    (hrun : s.running x = some e) (hexec : exec i s = strokeCmp x s d a b f) (hc : f (e.ty a) (e.val a) (e.val b) = c) :
    Sets i x s e 1 d .bool (boolReg c) := by
  subst hc
  exact hexec.trans (strokeReg_running hrun 1 _)

theorem aluNot_eq (ty : Ty) (a : DWord) : aluNot ty a = if ty = .bool then a ^^^ 1 else wrapReg ty (~~~a).toNat := by
  simp only [aluNot, beq_iff_eq]

/-! ### Comparisons of types that are no REAL -/

section

variable {ty : Ty} {a b : DWord} (hty : ¬ tyReal ty = true)

include hty

theorem cmpLt_int : cmpLt ty a b = decide (regInt ty a < regInt ty b) := if_neg hty

theorem cmpGt_int : cmpGt ty a b = decide (regInt ty b < regInt ty a) := if_neg hty

theorem cmpEq_int : cmpEq ty a b = (a == b) := if_neg hty

theorem cmpNe_int : cmpNe ty a b = (a != b) := by
  rw [cmpNe, cmpEq_int hty, anyNan, Bool.eq_false_iff.mpr hty]; rfl

theorem cmpLe_int : cmpLe ty a b = (decide (regInt ty a < regInt ty b) || a == b) := by
  rw [cmpLe, cmpLt_int hty, cmpEq_int hty]

theorem cmpGe_int : cmpGe ty a b = (decide (regInt ty b < regInt ty a) || a == b) := by
  rw [cmpGe, cmpLt_int hty, cmpEq_int hty]

end

/-! ### Comparisons of REAL operands -/

section

variable {ty : Ty} {a b : DWord}

theorem realLt_of_nan (h : fpIsNan (fpReg ty a) = true ∨ fpIsNan (fpReg ty b) = true) : realLt ty a b = false := by
  obtain h | h := h <;> simp [realLt, h]

theorem realEq_of_nan (h : fpIsNan (fpReg ty a) = true ∨ fpIsNan (fpReg ty b) = true) : realEq ty a b = false := by
  obtain h | h := h <;> simp [realEq, h]

variable (hty : tyReal ty = true)

include hty

theorem cmpLt_real : cmpLt ty a b = realLt ty a b := if_pos hty

theorem cmpGt_real : cmpGt ty a b = realLt ty b a := if_pos hty

theorem cmpEq_real : cmpEq ty a b = realEq ty a b := if_pos hty

theorem cmpLe_real : cmpLe ty a b = (realLt ty a b || realEq ty a b) := by rw [cmpLe, cmpLt_real hty, cmpEq_real hty]

theorem cmpGe_real : cmpGe ty a b = (realLt ty b a || realEq ty a b) := by rw [cmpGe, cmpLt_real hty, cmpEq_real hty]

theorem anyNan_real : anyNan ty a b = (fpIsNan (fpReg ty a) || fpIsNan (fpReg ty b)) := by rw [anyNan, hty, Bool.true_and]

/-- NE, too, is FALSE with a NaN (R138). -/
theorem cmpNe_of_nan (h : fpIsNan (fpReg ty a) = true ∨ fpIsNan (fpReg ty b) = true) : cmpNe ty a b = false := by
  rw [cmpNe, anyNan_real hty, Bool.or_eq_true_iff.mpr h]; rfl

theorem cmpNe_of_numbers (ha : ¬ fpIsNan (fpReg ty a) = true) (hb : ¬ fpIsNan (fpReg ty b) = true) :
    cmpNe ty a b = !realEq ty a b := by
  rw [cmpNe, anyNan_real hty, cmpEq_real hty, Bool.eq_false_iff.mpr ha, Bool.eq_false_iff.mpr hb]; rfl

theorem cmpLe_of_nan (h : fpIsNan (fpReg ty a) = true ∨ fpIsNan (fpReg ty b) = true) : cmpLe ty a b = false := by
  rw [cmpLe_real hty, realLt_of_nan h, realEq_of_nan h]; rfl

theorem cmpGe_of_nan (h : fpIsNan (fpReg ty a) = true ∨ fpIsNan (fpReg ty b) = true) : cmpGe ty a b = false := by
  rw [cmpGe_real hty, realLt_of_nan h.symm, realEq_of_nan h]; rfl

end

/-- Settles O23: the bit operations are their functions; a comparison splits on the type and on a NaN among its operands. -/
theorem strokeLogicShiftsAndComparisons : Obligations.StrokeLogicShiftsAndComparisons := by
  unfold Obligations.StrokeLogicShiftsAndComparisons
  intro s x e d a b imm hrun
  refine ⟨strokeReg_running hrun 1 _, strokeReg_running hrun 1 _, strokeReg_running hrun 1 _, sets_of_strokeUn hrun rfl (aluNot_eq _ _),
    strokeReg_running hrun 1 _, strokeReg_running hrun 1 _, strokeReg_running hrun 1 _, strokeReg_running hrun 1 _,
    strokeReg_running hrun 1 _, strokeReg_running hrun 1 _, strokeReg_running hrun 1 _, strokeReg_running hrun 1 _,
    fun hty => ?_, fun hty hnan => ?_, fun hty ha hb => ?_, strokeReg_running hrun 1 _⟩
  · exact ⟨sets_of_strokeCmp hrun rfl (cmpEq_int hty), sets_of_strokeCmp hrun rfl (cmpNe_int hty),
      sets_of_strokeCmp hrun rfl (cmpLt_int hty), sets_of_strokeCmp hrun rfl (cmpLe_int hty),
      sets_of_strokeCmp hrun rfl (cmpGt_int hty), sets_of_strokeCmp hrun rfl (cmpGe_int hty)⟩
  · exact ⟨sets_of_strokeCmp hrun rfl ((cmpEq_real hty).trans (realEq_of_nan hnan)), sets_of_strokeCmp hrun rfl (cmpNe_of_nan hty hnan),
      sets_of_strokeCmp hrun rfl ((cmpLt_real hty).trans (realLt_of_nan hnan)), sets_of_strokeCmp hrun rfl (cmpLe_of_nan hty hnan),
      sets_of_strokeCmp hrun rfl ((cmpGt_real hty).trans (realLt_of_nan hnan.symm)), sets_of_strokeCmp hrun rfl (cmpGe_of_nan hty hnan)⟩
  · exact ⟨sets_of_strokeCmp hrun rfl (cmpEq_real hty), sets_of_strokeCmp hrun rfl (cmpNe_of_numbers hty ha hb),
      sets_of_strokeCmp hrun rfl (cmpLt_real hty), sets_of_strokeCmp hrun rfl (cmpGt_real hty),
      sets_of_strokeCmp hrun rfl (cmpLe_real hty), sets_of_strokeCmp hrun rfl (cmpGe_real hty)⟩

end Sys2Proof.Machine
end

section
/-! PROOF. Moves, literals, conversions, time and task flags of Stroke (R131, R134, R140 to R142, R145). -/

namespace Sys2Proof.Machine

/-! ### Literals -/

section

variable {ty : Ty}

theorem aluLdi_signed (h : tySigned ty = true) (imm : Byte) : aluLdi ty imm = wrapReg ty imm.toInt := by
  cases ty <;> cases h <;> rfl

theorem aluLdi_unsigned (h : tyUnsigned ty = true) (imm : Byte) : aluLdi ty imm = wrapReg ty imm.toNat := by
  cases ty <;> cases h <;> rfl

theorem aluLdi_real (h : tyReal ty = true) (imm : Byte) : aluLdi ty imm = realOfInt ty imm.toInt := if_pos h

theorem aluLdl_signed (h : tySigned ty = true) (value : Word) : aluLdl ty value = wrapReg ty value.toInt := by
  cases ty <;> cases h <;> rfl

theorem aluLdl_unsigned (h : tyUnsigned ty = true) (value : Word) : aluLdl ty value = wrapReg ty value.toNat := by
  cases ty <;> cases h <;> rfl

end

/-! ### Conversions -/

/-- An integer type or TIME is neither BOOL nor REAL (R120). -/
theorem tyInt_or_time {ty : Ty} (h : tyInt ty = true ∨ ty = .time) : (ty == .bool) = false ∧ tyReal ty = false := by
  obtain h | rfl := h
  · cases ty <;> cases h <;> exact ⟨rfl, rfl⟩
  · exact ⟨rfl, rfl⟩

theorem aluConv_same (ty : Ty) (sat : Bool) (a : DWord) : aluConv ty ty sat a = a := if_pos (beq_self_eq_true ty)

theorem aluConv_int {src dst : Ty} (sat : Bool) (a : DWord) (hne : src ≠ dst) (hdst : tyInt dst = true ∨ dst = .time)
    (hsrc : tyInt src = true ∨ src = .time) :
    aluConv src dst sat a = if sat then satReg dst (regInt src a) else wrapReg dst (regInt src a) := by
  obtain ⟨hdbool, hdreal⟩ := tyInt_or_time hdst
  obtain ⟨hsbool, hsreal⟩ := tyInt_or_time hsrc
  simp only [aluConv, beq_eq_false_iff_ne.mpr hne, hdbool, hdreal, hsbool, hsreal, Bool.false_eq_true, if_false]

/-! ### Instructions of an execution under way -/

section

variable {x : Ctx} {s : State} {e : Exec} {d a b : Reg} {ty : Ty} {imm : Byte} (hrun : s.running x = some e)

include hrun

theorem sets_of_strokeConv {i : Instr} {f : Ty → Ty → DWord → DWord} {v : DWord} (hcode : tyOfCode imm.toNat = some ty)
    (hexec : exec i s = strokeConv x s d a imm f) (hv : f (e.ty a) ty (e.val a) = v) : Sets i x s e 1 d ty v := by
  subst hv
  refine hexec.trans ((strokeReg_running hrun 1 _).trans ?_)
  rw [hcode]

theorem opConv_sets {v : DWord} (hcode : tyOfCode imm.toNat = some ty) (hv : aluConv (e.ty a) ty false (e.val a) = v) :
    Sets (.opConv x d a imm) x s e 1 d ty v :=
  sets_of_strokeConv (f := fun src dst => aluConv src dst false) hrun hcode rfl hv

theorem opConvs_sets {v : DWord} (hcode : tyOfCode imm.toNat = some ty) (hv : aluConv (e.ty a) ty true (e.val a) = v) :
    Sets (.opConvs x d a imm) x s e 1 d ty v :=
  sets_of_strokeConv (f := fun src dst => aluConv src dst true) hrun hcode rfl hv

theorem opLdi_sets {v : DWord} (hv : aluLdi ty imm = v) : Sets (.opLdi x d ty imm) x s e 1 d ty v := by
  subst hv
  exact strokeReg_running hrun 1 _

theorem opLdl_sets {value : Word} {v : DWord} (hv : aluLdl ty value = v) : Sets (.opLdl x d ty value) x s e 2 d ty v := by
  subst hv
  exact strokeReg_running hrun 2 _

theorem opCmov_moves (ha : e.isTrue a = true) : Sets (.opCmov x d a b) x s e 1 d (e.ty b) (e.val b) := by
  refine (strokeReg_running hrun 1 _).trans ?_
  rw [if_pos ha]

theorem opCmov_keeps (ha : ¬ e.isTrue a = true) : GoesOn (.opCmov x d a b) x s (e.at_ (e.pc + 1)) := by
  refine (strokeReg_running hrun 1 _).trans ?_
  rw [if_neg ha]; rfl

end

/-- Settles O24: each instruction writes the value of its function; literals and conversions split on the types. -/
theorem strokeMovesConversionsTimeAndFlags : Obligations.StrokeMovesConversionsTimeAndFlags := by
  unfold Obligations.StrokeMovesConversionsTimeAndFlags
  refine ⟨?_, ?_, ?_⟩
  · intro s x e d a b ty imm value hrun
    refine ⟨strokeReg_running hrun 1 id, strokeReg_running hrun 1 id, strokeReg_running hrun 1 _, opCmov_moves hrun, opCmov_keeps hrun,
      fun h => ⟨opLdi_sets hrun (aluLdi_signed h imm), opLdl_sets hrun (aluLdl_signed h value)⟩,
      fun h => ⟨opLdi_sets hrun (aluLdi_unsigned h imm), opLdl_sets hrun (aluLdl_unsigned h value)⟩,
      opLdi_sets hrun rfl, opLdl_sets hrun rfl, opLdl_sets hrun rfl, fun h => opLdi_sets hrun (aluLdi_real h imm),
      fun hcode hsame => ?_, fun hcode hne hdst hsrc => ?_, fun hcode _ _ => sets_of_strokeConv hrun hcode rfl rfl,
      strokeReg_running hrun 1 _, strokeReg_running hrun 1 _, strokeReg_running hrun 1 _, strokeReg_running hrun 1 _,
      strokeReg_running hrun 1 _, strokeReg_running hrun 1 _, strokeStep_running _ hrun⟩
    · subst hsame
      exact ⟨opConv_sets hrun hcode (aluConv_same _ _ _), opConvs_sets hrun hcode (aluConv_same _ _ _)⟩
    · exact ⟨opConv_sets hrun hcode (aluConv_int _ _ hne hdst hsrc), opConvs_sets hrun hcode (aluConv_int _ _ hne hdst hsrc)⟩
  · decide
  · decide

end Sys2Proof.Machine
end

section
/-! PROOF. Bytes and fields of function-block records (R149). -/

namespace Sys2Proof.Machine

open State

/-! ### Replaced bytes -/

section

variable {r new : List Byte} {off : Nat}

theorem splice_length (h : off + new.length ≤ r.length) : (splice r off new).length = r.length := by
  simp only [splice, List.length_append, List.length_take, List.length_drop]
  omega

/-- Replaced bytes read back. -/
theorem slice_splice_same (h : off ≤ r.length) : slice (splice r off new) off new.length = new := by
  rw [splice, List.append_assoc]
  exact (slice_append_right _ 0 _ (List.length_take_of_le h)).trans (slice_append_left _ rfl)

/-- Bytes behind the replaced ones stay. -/
theorem slice_splice_behind {k : Nat} (n : Nat) (h : off + new.length ≤ r.length) (hk : off + new.length ≤ k) :
    slice (splice r off new) k n = slice r k n := by
  have hlen : (r.take off ++ new).length = off + new.length := by
    rw [List.length_append, List.length_take_of_le (by omega)]
  obtain ⟨j, rfl⟩ := Nat.exists_eq_add_of_le hk
  rw [splice, slice_append_right _ j n hlen, slice, List.drop_drop, slice]

/-- Bytes before the replaced ones stay. -/
theorem byteAt_splice_before {k : Nat} (hk : k < off) (h : off ≤ r.length) : byteAt (splice r off new) k = byteAt r k := by
  have hlen : k < (r.take off).length := by rw [List.length_take_of_le h]; exact hk
  simp only [byteAt, splice, List.append_assoc, List.getD_eq_getElem?_getD, List.getElem?_append_left hlen, List.getElem?_take_of_lt hk]

theorem byteAt_splice_same (b : Byte) (h : off ≤ r.length) : byteAt (splice r off [b]) off = b.toNat := by
  have hlen : (r.take off).length = off := List.length_take_of_le h
  simp [byteAt, splice, List.getD_eq_getElem?_getD, hlen]

end

/-! ### FLAGS -/

/-- A bit added where it was clear changes no other bit. -/
theorem testBit_add_bit (b : Bool) {c i : Nat} (j : Nat) (hc : c.testBit i = false) :
    (c + if b then 2 ^ i else 0).testBit j = if j = i then b else c.testBit j := by
  cases b with
  | false => by_cases h : j = i <;> simp [h, hc]
  | true =>
    simp only [if_true]
    induction i generalizing c j with
    | zero =>
      have heven : c % 2 = 0 := by simpa [Nat.testBit_zero] using hc
      rw [pow_zero]
      cases j with
      | zero =>
        have hodd : (c + 1) % 2 = 1 := by omega
        simp [Nat.testBit_zero, hodd]
      | succ j =>
        have hhalf : (c + 1) / 2 = c / 2 := by omega
        simp [Nat.testBit_succ, hhalf]
    | succ i ih =>
      have hhalf : (c + 2 ^ (i + 1)) / 2 = c / 2 + 2 ^ i := by omega
      have hparity : (c + 2 ^ (i + 1)) % 2 = c % 2 := by omega
      cases j with
      | zero => simp [Nat.testBit_zero, hparity]
      | succ j =>
        rw [Nat.testBit_succ] at hc
        rw [Nat.testBit_succ, hhalf, ih j hc, Nat.testBit_succ]
        simp only [Nat.add_right_cancel_iff]

/-- A number without its bit `i`. -/
def clearBit (v i : Nat) : Nat := v - if natBit v i then 2 ^ i else 0

theorem clearBit_add (v i : Nat) : clearBit v i + (if natBit v i then 2 ^ i else 0) = v := by
  refine Nat.sub_add_cancel ?_
  split
  · exact Nat.ge_two_pow_of_testBit ‹_›
  · exact Nat.zero_le v

theorem testBit_clearBit_same (v i : Nat) : (clearBit v i).testBit i = false := by
  have hadd := clearBit_add v i
  cases hv : natBit v i with
  | false => rw [clearBit, hv]; exact hv
  | true =>
    rw [hv, if_pos rfl, Nat.add_comm] at hadd
    have hflip := Nat.testBit_two_pow_add_eq (clearBit v i) i
    rw [hadd, show v.testBit i = true from hv] at hflip
    simpa using hflip.symm

/-- A number whose bit `i` is written. -/
theorem testBit_clearBit_add (v i j : Nat) (b : Bool) :
    (clearBit v i + if b then 2 ^ i else 0).testBit j = if j = i then b else v.testBit j := by
  rw [testBit_add_bit b j (testBit_clearBit_same v i)]
  by_cases h : j = i
  · rw [if_pos h, if_pos h]
  · have hkept := testBit_add_bit (natBit v i) j (testBit_clearBit_same v i)
    rw [clearBit_add, if_neg h] at hkept
    rw [if_neg h, if_neg h, hkept]

section

variable {r : List Byte}

theorem recSetFlag_length (i : Nat) (b : Bool) (h : 2 ≤ r.length) : (recSetFlag r i b).length = r.length := splice_length h

/-- A flag reads back as it was written, and the other flags stay (R149). -/
theorem recFlag_recSetFlag {i j : Nat} (b : Bool) (h : 2 ≤ r.length) (hj : j < 8) :
    recFlag (recSetFlag r i b) j = if j = i then b else recFlag r j := by
  have hbyte : byteAt (recSetFlag r i b) 1 = (clearBit (byteAt r 1) i + if b then 2 ^ i else 0) % 2 ^ 8 :=
    (byteAt_splice_same _ (by omega)).trans (BitVec.toNat_ofNat _ 8)
  rw [recFlag, natBit, hbyte, Nat.testBit_mod_two_pow, decide_eq_true hj, Bool.true_and, testBit_clearBit_add]
  rfl

theorem recFlag_recSetFlag_same {i : Nat} (b : Bool) (h : 2 ≤ r.length) (hi : i < 8) : recFlag (recSetFlag r i b) i = b :=
  (recFlag_recSetFlag b h hi).trans (if_pos rfl)

theorem recFlag_recSetFlag_other {i j : Nat} (b : Bool) (h : 2 ≤ r.length) (hj : j < 8) (hne : j ≠ i) :
    recFlag (recSetFlag r i b) j = recFlag r j := (recFlag_recSetFlag b h hj).trans (if_neg hne)

/-! ### Numbers of a record -/

theorem recSetInt_length {off : Nat} (v : Int) (h : off + 8 ≤ r.length) : (recSetInt r off v).length = r.length :=
  splice_length (by rw [leBytes_length]; exact h)

theorem recFlag_recSetInt {off : Nat} (v : Int) (i : Nat) (hoff : 1 < off) (h : off ≤ r.length) :
    recFlag (recSetInt r off v) i = recFlag r i := by
  rw [recFlag, recSetInt, byteAt_splice_before hoff h, recFlag]

theorem recInt_recSetFlag {off : Nat} (i : Nat) (b : Bool) (hoff : 2 ≤ off) (h : 2 ≤ r.length) :
    recInt (recSetFlag r i b) off = recInt r off := by
  rw [recInt, leAt, recSetFlag, slice_splice_behind 8 h hoff, recInt, leAt]

/-- A number of a record reads back, in 64 bits. -/
theorem recInt_recSetInt {off : Nat} (v : Int) (h : off ≤ r.length) : recInt (recSetInt r off v) off = wrap64 v := by
  have hslice : slice (recSetInt r off v) off 8 = leBytes 8 (BitVec.ofInt 64 v).toNat := by
    have hsame := slice_splice_same (new := leBytes 8 (BitVec.ofInt 64 v).toNat) h
    rwa [leBytes_length] at hsame
  rw [recInt, leAt, hslice, leNat_leBytes, Nat.mod_eq_of_lt (show _ < 256 ^ 8 from BitVec.isLt _),
    BitVec.ofNat_toNat, BitVec.setWidth_eq, wrap64]

end

end Sys2Proof.Machine
end

section
/-! PROOF. Block instructions and the laws of their evaluations (R147 to R153). -/

namespace Sys2Proof.Machine

/-! ### Evaluations -/

section

variable {r : List Byte}

/-- With SEED clear the previous inputs stay (R150). -/
theorem recSeed_clear (prev : List (Nat × Bool)) (h : ¬ recFlag r 7 = true) : recSeed r prev = r := if_neg h

theorem evalRtrig_eq (clk : Bool) (h : ¬ recFlag r 7 = true) : evalRtrig r clk =
    (recSetFlag (recSetFlag r 0 (clk && !recFlag r 1)) 1 clk, [outBool (clk && !recFlag r 1)]) := by
  simp only [evalRtrig, recSeed_clear _ h]

theorem evalFtrig_eq (clk : Bool) (h : ¬ recFlag r 7 = true) : evalFtrig r clk =
    (recSetFlag (recSetFlag r 0 (!clk && recFlag r 1)) 1 clk, [outBool (!clk && recFlag r 1)]) := by
  simp only [evalFtrig, recSeed_clear _ h]

/-- An edge trigger keeps its input for the next evaluation. -/
theorem recFlag_trigger (q clk : Bool) (h : 8 ≤ r.length) : recFlag (recSetFlag (recSetFlag r 0 q) 1 clk) 1 = clk :=
  recFlag_recSetFlag_same clk (by rw [recSetFlag_length 0 q (by omega)]; omega) (by decide)

theorem evalCtu_outputs (c z : Bool) (pv : Int) (h : ¬ recFlag r 7 = true) :
    let up := if z then 0 else if c ∧ ¬ recFlag r 2 ∧ recInt r 8 < 2 ^ 63 - 1 then recInt r 8 + 1 else recInt r 8
    (evalCtu r c z pv).2 = [outBool (decide (pv ≤ up)), outInt up] := by
  simp only [evalCtu, recSeed_clear _ h, int64Max, Bool.and_eq_true, Bool.not_eq_true', decide_eq_true_eq, Bool.not_eq_true, and_assoc]

theorem evalCtd_outputs (c z : Bool) (pv : Int) (h : ¬ recFlag r 7 = true) :
    let dn := if z then pv else if c ∧ ¬ recFlag r 3 ∧ -2 ^ 63 < recInt r 8 then recInt r 8 - 1 else recInt r 8
    (evalCtd r c z pv).2 = [outBool (decide (dn ≤ 0)), outInt dn] := by
  simp only [evalCtd, recSeed_clear _ h, int64Min, Bool.and_eq_true, Bool.not_eq_true', decide_eq_true_eq, Bool.not_eq_true, and_assoc]

/-- A TON with input FALSE shows FALSE and an elapsed time of 0 (R152). -/
theorem evalTon_false_outputs (pt now : Int) (h : 24 ≤ r.length) : (evalTon r false pt now).2 = [outBool false, outTime 0] := by
  have hq := recSetFlag_length 0 false (r := r) (by omega)
  have het := recSetInt_length (r := recSetFlag r 0 false) (off := 16) 0 (by omega)
  have hflag : recFlag (recSetFlag (recSetInt (recSetFlag r 0 false) 16 0) 2 false) 0 = false := by
    rw [recFlag_recSetFlag_other false (by omega) (by decide) (by decide), recFlag_recSetInt 0 0 (by decide) (by omega),
      recFlag_recSetFlag_same false (by omega) (by decide)]
  have htime : recInt (recSetFlag (recSetInt (recSetFlag r 0 false) 16 0) 2 false) 16 = 0 := by
    rw [recInt_recSetFlag 2 false (by decide) (by omega), recInt_recSetInt 0 (by omega)]; rfl
  simp only [evalTon, Bool.false_eq_true, if_false, hflag, htime]

end

/-! ### Instructions over records -/

section

variable {x : Ctx} {s : State} {e : Exec} {f : Folio} {i : InstRec} {d : Reg} {inst : Nat} (hrun : s.running x = some e)
  (hinst : s.instAt inst = some (f, i))

include hrun hinst

theorem strokeBlock_running (eval : InstRec → List Byte → Exec → List Byte × Outputs) :
    let o := eval i (rdInst x.lane f (s.lane x.lane).mem i) e
    strokeBlock x s d inst eval = .next ((s.writeInst f x.lane i o.1).setExec x.lane x.task ((e.setOuts d o.2).skip 2)) := by
  refine (strokeStep_running _ hrun).trans ?_
  simp only [hinst]

theorem opBlkrst_renews : exec (.opBlkrst x inst) s =
    .next ((s.writeInst f x.lane i (newRecord i.block)).setExec x.lane x.task (e.at_ (e.pc + 2))) := by
  refine (strokeStep_running _ hrun).trans ?_
  simp only [hinst]
  rfl

theorem opBlkrd_sets {code : Byte} {ty : Ty} {v : DWord}
    (hfield : recField i (rdInst x.lane f (s.lane x.lane).mem i) code.toNat = some (ty, v)) :
    Sets (.opBlkrd x d code inst) x s e 2 d ty v := by
  refine (strokeReg_running hrun 2 _).trans ?_
  simp only [hinst, hfield]

end

/-- Settles O27: every block instruction acts through `strokeBlock`; the laws follow from the fields of its record. -/
theorem blockInstructionsEvaluateTheirRecords : Obligations.BlockInstructionsEvaluateTheirRecords := by
  unfold Obligations.BlockInstructionsEvaluateTheirRecords
  refine ⟨?_, ?_, ?_, ?_, ?_⟩
  · intro s x e f i d a inst hrun hinst
    have hfirst : a + BitVec.ofNat 8 0 = a := BitVec.add_zero a
    simp only [hfirst]
    have hblock := strokeBlock_running (d := d) hrun hinst
    exact ⟨(hblock _ : execOpTon x d a inst s = _), (hblock _ : execOpTof x d a inst s = _), (hblock _ : execOpTp x d a inst s = _),
      (hblock _ : execOpRtrig x d a inst s = _), (hblock _ : execOpFtrig x d a inst s = _), (hblock _ : execOpCtu x d a inst s = _),
      (hblock _ : execOpCtd x d a inst s = _), (hblock _ : execOpCtud x d a inst s = _), (hblock _ : execOpSr x d a inst s = _),
      (hblock _ : execOpRs x d a inst s = _), (hblock _ : execOpHyst x d a inst s = _), (hblock _ : execOpRamp x d a inst s = _),
      (hblock _ : execOpLimit x d a inst s = _), opBlkrst_renews hrun hinst, fun _ _ _ => opBlkrd_sets hrun hinst⟩
  · intro r clk hlen hseed
    rw [evalRtrig_eq clk hseed, evalFtrig_eq clk hseed]
    exact ⟨rfl, recFlag_trigger _ clk hlen, rfl, recFlag_trigger _ clk hlen⟩
  · intro r p q
    exact ⟨rfl, rfl⟩
  · intro r c z pv _ hseed
    exact ⟨evalCtu_outputs c z pv hseed, evalCtd_outputs c z pv hseed⟩
  · intro r pt now hlen
    exact evalTon_false_outputs pt now hlen

end Sys2Proof.Machine
end

section
/-! PROOF. Of the registers a reply changes LOG_HEAD and QUILL_SESS alone (R396, R413), and a refusal is counted (R401). -/

namespace Sys2Proof.Machine

open State

/-- The registers of the log and of the sessions. -/
def replyRegs : List Nat := [R.LOG_HEAD, R.QUILL_SESS]

theorem State.RegsKept.refl (offs : List Nat) (s : State) : State.RegsKept offs s s := fun _ _ => rfl

theorem State.RegsKept.trans {offs : List Nat} {s t u : State} (h : State.RegsKept offs s t) (h' : State.RegsKept offs t u) :
    State.RegsKept offs s u := fun a ha => (h' a ha).trans (h a ha)

theorem State.RegsKept.of_regs {offs : List Nat} {s t : State} (h : t.regs = s.regs) : State.RegsKept offs s t := fun a _ => by
  simp only [State.reg, h]

theorem State.RegsKept.fput {offs : List Nat} (s : State) {f : Field} (v : Nat) (hf : f.off ∈ offs) :
    State.RegsKept offs s (s.fput f v) := fun _ ha => reg_fput_other s f v fun he => ha (he ▸ hf)

theorem regsKept_log (s : State) (e src : Nat) (d : List Byte) : State.RegsKept replyRegs s (s.log e src d) :=
  State.RegsKept.trans (State.RegsKept.of_regs rfl) (State.RegsKept.fput _ (f := F.LOG_HEAD_SEQ) _ (by decide))

theorem regsKept_endSession (s : State) (id reason : Nat) : State.RegsKept replyRegs s (s.endSession id reason) := by
  have hshow : ∀ u : State, State.RegsKept replyRegs u u.showSessions := fun u =>
    State.RegsKept.fput u (f := F.QUILL_SESS_OPEN) _ (by decide)
  unfold State.endSession
  split
  · exact State.RegsKept.refl _ s
  · have hends := State.RegsKept.trans (State.RegsKept.of_regs rfl)
      (hshow ({ s with quill := { s.quill with sessions := s.quill.sessions.filter (·.id != id) } } : State))
    dsimp only
    split
    · exact hends.trans (regsKept_log _ _ _ _)
    · exact hends

theorem regsKept_replyLane (s : State) (c : Cmd) (op status : Nat) (params : List Byte) :
    State.RegsKept replyRegs s (s.replyLane c op status params) := by
  obtain ⟨u, r, hpush, hu, -⟩ := pushReply_cases (s.log 0x0002 codeVote (cmdDetail s c op status)) c op status params true
  have hstep : State.RegsKept replyRegs (s.log 0x0002 codeVote (cmdDetail s c op status)) u := by
    obtain rfl | ⟨id, rfl⟩ | ⟨y, rfl⟩ := hu
    · exact State.RegsKept.refl _ _
    · exact regsKept_endSession _ id 2
    · exact State.RegsKept.of_regs rfl
  unfold State.replyLane
  dsimp only
  rw [hpush]
  exact ((regsKept_log s _ _ _).trans hstep).trans (State.RegsKept.of_regs rfl)

theorem regsKept_fenceReply (s : State) (f : Fence) (status : Nat) : State.RegsKept replyRegs s (s.fenceReply f status) := by
  have hremoved : State.RegsKept replyRegs s
      { s with ductus := { s.ductus with fences := s.ductus.fences.filter (· != f) } } := State.RegsKept.of_regs rfl
  exact hremoved.trans (regsKept_replyLane _ f.cmd opFence status _)

theorem regsKept_settleFence (s : State) (f : Fence) : State.RegsKept replyRegs s (settleFence s f) := by
  unfold settleFence
  split
  · exact regsKept_fenceReply s f stOk
  · exact State.RegsKept.refl _ s

theorem regsKept_reply (s : State) (c : Cmd) (op status : Nat) (params : List Byte) :
    State.RegsKept replyRegs s (s.reply c op status params) := by
  rw [State.reply, settleQueueFences_eq]
  exact foldl_keeps (fun t f ht => State.RegsKept.trans ht (regsKept_settleFence t f)) _ (regsKept_replyLane s c op status params)

/-- A refusal counted, and shown in FOLIO_STAT.LAST_RESULT where it is that of a FOLIO_SWITCH (R401). -/
def countRefusal (u : State) (op status : Nat) : State :=
  if op == opFolioSwitch && status == stCheckFail then (u.fsat F.QUILL_REFUSE_COUNT).fput F.FOLIO_STAT_LAST_RESULT 3
  else u.fsat F.QUILL_REFUSE_COUNT

/-- The command logged as refused, and held no longer (R401, R413). -/
def logRefusal (u : State) (c : Cmd) (op status : Nat) : State :=
  let u := u.log 0x0001 codeVote (cmdDetail u c op status)
  { u with quill := { u.quill with held := u.quill.held.filter (·.cmd != c) } }

theorem refuseCmd_eq (u : State) (c : Cmd) (op status index : Nat) : u.refuseCmd c op status index =
    if op == 0x0801 && status == stAuthFail then
      ((logRefusal (countRefusal u op status) c op status).replyErr c op status index).endSession c.session 0
    else (logRefusal (countRefusal u op status) c op status).replyErr c op status index := rfl

theorem reg_countRefusal (u : State) (op status : Nat) :
    (countRefusal u op status).reg R.QUILL_REFUSE = (u.fsat F.QUILL_REFUSE_COUNT).reg R.QUILL_REFUSE := by
  unfold countRefusal
  split
  · exact reg_fput_other _ F.FOLIO_STAT_LAST_RESULT 3 (by decide)
  · rfl

theorem regsKept_logRefusal (u : State) (c : Cmd) (op status : Nat) : State.RegsKept replyRegs u (logRefusal u c op status) :=
  (regsKept_log u 0x0001 codeVote (cmdDetail u c op status)).trans (State.RegsKept.of_regs rfl)

/-- A refused command is counted in QUILL_REFUSE, whatever its opcode (R401). -/
theorem refuseCmd_count (u : State) (c : Cmd) (op status index : Nat) : (u.refuseCmd c op status index).fget F.QUILL_REFUSE_COUNT =
    min (u.fget F.QUILL_REFUSE_COUNT + 1) 0xFFFFFFFF := by
  have hreply := (regsKept_logRefusal (countRefusal u op status) c op status).trans (regsKept_reply _ c op status (indexParams index))
  have hkept : State.RegsKept replyRegs (countRefusal u op status) (u.refuseCmd c op status index) := by
    rw [refuseCmd_eq]
    split
    · exact hreply.trans (regsKept_endSession _ _ _)
    · exact hreply
  have hcount := (hkept R.QUILL_REFUSE (by decide)).trans (reg_countRefusal u op status)
  rw [fget_of_reg (f := F.QUILL_REFUSE_COUNT) hcount, fget_fsat _ _ rfl]
  rfl

end Sys2Proof.Machine
end

section
/-! PROOF. FOLIO_STAGE: a block read back from its packet, judged and stored (R171, R189, R405). -/

namespace Sys2Proof.Machine

open State

/-! ### The staging area changes -/

/-- The registers of the staging area: FOLIO_STAT, FOLIO_STG_ID0 to FOLIO_STG_ID3 and FOLIO_CARRY. -/
def stagingRegs : List Nat :=
  [R.FOLIO_STAT, R.FOLIO_STG_ID0, R.FOLIO_STG_ID1, R.FOLIO_STG_ID2, R.FOLIO_STG_ID3, R.FOLIO_CARRY]

theorem showStagedId_regsOnly (s : State) (id : List Byte) : State.RegsOnly stagingRegs s (s.showStagedId id) :=
  ((((State.fput_regsOnly s F.FOLIO_STG_ID0_ID _).trans (State.fput_regsOnly _ F.FOLIO_STG_ID1_ID _)).trans
    (State.fput_regsOnly _ F.FOLIO_STG_ID2_ID _)).trans (State.fput_regsOnly _ F.FOLIO_STG_ID3_ID _)).mono (by decide)

/-- The staging area holds `g`, and its registers follow. -/
theorem setStaging_regsOnly (s : State) (g : Staging) :
    State.RegsOnly stagingRegs { s with folio := { s.folio with staging := g } } (s.setStaging g) := by
  have hcode : ∀ u : State, State.RegsOnly stagingRegs u (u.fput F.FOLIO_STAT_STAGED (stagedCode g)) := fun u =>
    (State.fput_regsOnly u F.FOLIO_STAT_STAGED _).mono (by decide)
  have hshow : ∀ (u : State) id n, State.RegsOnly stagingRegs u ((u.showStagedId id).fput F.FOLIO_CARRY_BYTES n) := fun u id n =>
    ((showStagedId_regsOnly u id).trans (State.fput_regsOnly _ F.FOLIO_CARRY_BYTES n)).mono (by decide)
  cases g <;> exact ((hcode _).trans (hshow _ _ _)).mono (by decide)

theorem setStaging_folio (s : State) (g : Staging) : (s.setStaging g).folio = { s.folio with staging := g } := by
  rw [(setStaging_regsOnly s g).1]

theorem setStaging_quill (s : State) (g : Staging) : (s.setStaging g).quill = s.quill := by
  rw [(setStaging_regsOnly s g).1]

theorem lane_setStaging (s : State) (g : Staging) (l : Lane) : (s.setStaging g).lane l = s.lane l := by
  rw [(setStaging_regsOnly s g).1]
  cases l <;> rfl

/-- The staging area changes, and a command is answered. -/
theorem setStaging_reply_spec (s : State) (g : Staging) (c : Cmd) (op status : Nat) (params : List Byte) :
    let v := (s.setStaging g).reply c op status params
    v.folio = { s.folio with staging := g } ∧ v.repliedWith c op status ∧ (∀ l, v.lane l = s.lane l) ∧
      ∀ f : Field, f.off ∉ stagingRegs ++ replyRegs → v.fget f = s.fget f := by
  have hanswer := answers_reply (s.setStaging g) c op status params
  refine ⟨hanswer.1.folio.trans (setStaging_folio s g), hanswer.repliedWith, fun l => (hanswer.1.lane l).trans (lane_setStaging s g l),
    fun f hf => fget_of_reg ?_⟩
  rw [List.mem_append, not_or] at hf
  exact (regsKept_reply _ c op status params _ hf.2).trans ((setStaging_regsOnly s g).2 _ hf.1)

/-! ### The packet of one block -/

/-- `c` carries block `n` with data `d`, and `k` as its CRC (R405). -/
structure IsBlock (c : Cmd) (n k : Nat) (d : List Byte) : Prop where
  number : stageNo c = n
  crc : stageCrc c = k
  data : stageData c = d
  reserved : (byteAt c.params 8 != 0 || !allZero (slice c.params 9 7)) = false
  length : c.params.length = 16 + d.length

theorem isBlock_of_params {c : Cmd} {n k : Nat} {d : List Byte} (hp : c.params = leBytes 4 n ++ (leBytes 4 k ++ (zeros 8 ++ d)))
    (hn : n < 2 ^ 32) (hk : k < 2 ^ 32) : IsBlock c n k d where
  number := by rw [stageNo, hp]; exact leAt_leBytes_append _ hn
  crc := by
    rw [stageCrc, hp]
    exact (leAt_append_right _ 0 4 (leBytes_length 4 n)).trans (leAt_leBytes_append _ hk)
  data := by rw [stageData, hp]; rfl
  reserved := by rw [hp]; rfl
  length := by
    simp only [hp, List.length_append, leBytes_length, zeros, List.length_replicate]
    omega

theorem isBlock_of_stagePacket {c : Cmd} {n : Nat} {d : List Byte} (hp : c.params = stagePacket n d) (hn : n < 2 ^ 32) :
    IsBlock c n (crc32c d).toNat d := isBlock_of_params hp hn (crc32c d).isLt

theorem IsBlock.lenOk {c : Cmd} {n k : Nat} {d : List Byte} (h : IsBlock c n k d) (hd : d.length ≤ 65536) : stageLenOk c = true := by
  have hmax : 16 + d.length ≤ 16 + stageBlock := Nat.add_le_add_left hd 16
  simp only [stageLenOk, h.length, Nat.le_add_right, hmax, decide_true, Bool.and_self]

/-! ### The progress that a block meets, and the verdict on it -/

theorem stageProgress_of_folio {s u : State} (h : u.folio = s.folio) (c : Cmd) : u.stageProgress c = s.stageProgress c := by
  simp only [State.stageProgress, h]

theorem stageOwn_of_folio {s u : State} (h : u.folio = s.folio) (c : Cmd) : stageOwn c u = stageOwn c s := by
  simp only [stageOwn, stageProgress_of_folio h, State.switchPending, h]

section

variable {s : State} {c : Cmd} {n k total : Nat} {bytes d : List Byte}

theorem stageProgress_next (h : IsBlock c n k d) (hn : n ≠ 0) (hs : s.folio.staging = .receiving n total bytes) :
    s.stageProgress c = some (total, bytes) := by
  simp [State.stageProgress, h.number, hn, hs]

theorem stageProgress_first (h : IsBlock c 0 k d) : s.stageProgress c = some (leAt d 12 4, []) := by
  simp [State.stageProgress, h.number, h.data]

theorem stageProgress_unexpected (h : IsBlock c n k d) (hn : n ≠ 0) (hs : ∀ total bytes, s.folio.staging ≠ .receiving n total bytes) :
    s.stageProgress c = none := by
  simp only [State.stageProgress, h.number, beq_iff_eq, hn, if_false]
  split
  · rename_i next total' bytes' hr
    have hne : n ≠ next := fun he => hs total' bytes' (he ▸ hr)
    exact if_neg hne
  · rfl

theorem stageOwn_unexpected (h : s.stageProgress c = none) : stageOwn c s = .refuse stBadParam noIndex := by
  simp only [stageOwn, h]

/-- A block of the length of R171 is judged by its CRC; the first one is as long as its header, of a folio that is not too
long, and no switch waits (R171, R189). -/
theorem stageOwn_by_crc (h : IsBlock c n k d) (hprog : s.stageProgress c = some (total, bytes)) (hbefore : n * 65536 < total)
    (hlen : d.length = min 65536 (total - n * 65536))
    (hfirst : n = 0 → 16 ≤ d.length ∧ total ≤ 100663296 ∧ s.folio.pendingSwitch = none) :
    stageOwn c s = if (crc32c d).toNat = k then .accept else .refuse stCheckFail noIndex := by
  have hhead : (n == 0 && (decide (d.length < 16) || decide (folioMax < total))) = false := by
    by_cases hn : n = 0
    · obtain ⟨hshort, hlong, -⟩ := hfirst hn
      have hlong' : ¬ folioMax < total := Nat.not_lt.mpr hlong
      simp [hshort, hlong']
    · simp [hn]
  have hlength : (decide (total ≤ n * stageBlock) || d.length != min stageBlock (total - n * stageBlock)) = false := by
    have hbefore' : ¬ total ≤ n * stageBlock := Nat.not_le.mpr hbefore
    have hlen' : d.length = min stageBlock (total - n * stageBlock) := hlen
    rw [decide_eq_false hbefore', ← hlen', bne_self_eq_false, Bool.or_self]
  have hbusy : (n == 0 && s.switchPending) = false := by
    by_cases hn : n = 0
    · simp [State.switchPending, (hfirst hn).2.2]
    · simp [hn]
  simp only [stageOwn, hprog, h.number, h.crc, h.data, h.reserved, hhead, hlength, hbusy, refuseIf, Bool.false_eq_true, if_false]
  by_cases hcrc : (crc32c d).toNat = k <;> simp [hcrc]

/-- An accepted block is stored, where no checks are under way that a new block 0 would end (R171). -/
theorem stageEffect_stores (h : IsBlock c n k d) (hprog : s.stageProgress c = some (total, bytes))
    (hchecks : n = 0 → ∀ bs x, s.folio.staging ≠ .checking bs x) (a : Nat) : stageEffect c s a =
      if total ≤ (bytes ++ d).length then s.setStaging (.checking (bytes ++ d) c)
      else (s.setStaging (.receiving (n + 1) total (bytes ++ d))).replyOk c opFolioStage := by
  have hend : (if n == 0 then s.endChecks else s) = s := by
    by_cases hn : n = 0
    · rw [if_pos (beq_iff_eq.mpr hn), State.endChecks]
      split
      · rename_i bs x hs
        exact absurd hs (hchecks hn bs x)
      · rfl
    · exact if_neg (by simpa using hn)
  simp only [stageEffect, hprog, h.number, h.data, hend]

end

/-! ### FOLIO_STAGE -/

section

variable {s : State} {c : Cmd} {n k total t : Nat} {bytes d : List Byte} (had : (s.tick t).admits c 3 = true)

include had

theorem exec_folioStage_accepted (hlen : stageLenOk c = true) (hown : stageOwn c s = .accept) :
    exec (.folioStage c t) s = .next (stageEffect c ((s.tick t).taken c opFolioStage) (s.tick t).now) :=
  congrArg Host.Outcome.next (runLane_accepts had hlen ((stageOwn_of_folio (touch_folio s c t) c).trans hown))

/-- A refused block is counted, and what was staged stays (R401). -/
theorem folioStage_refused {st : Nat} (hlen : stageLenOk c = true) (hown : stageOwn c s = .refuse st noIndex) :
    Completes (.folioStage c t) s fun v => v.repliedWith c 0x0202 st ∧ v.folio = s.folio ∧
      v.fget F.QUILL_REFUSE_COUNT = min (s.fget F.QUILL_REFUSE_COUNT + 1) 0xFFFFFFFF := by
  have hown' := (stageOwn_of_folio (touch_folio s c t) c).trans hown
  have hcount : ((s.tick t).touch c.session).fget F.QUILL_REFUSE_COUNT = s.fget F.QUILL_REFUSE_COUNT := by
    rw [touch_frame]
    exact fget_tick s t _
  obtain ⟨hstep, hreplied⟩ := refuseCmd_spec ((s.tick t).touch c.session) c (op := opFolioStage) st noIndex (by decide) (by decide)
  refine ⟨_, congrArg Host.Outcome.next (runLane_refuses had hlen hown'), hreplied, hstep.folio.trans (touch_folio s c t), ?_⟩
  rw [refuseCmd_count, hcount]

/-- A block that is accepted completes the folio, whose checks begin, or is answered OK (R171). -/
theorem folioStage_stored (h : IsBlock c n (crc32c d).toNat d) (hprog : s.stageProgress c = some (total, bytes))
    (hbefore : n * 65536 < total) (hlen : d.length = min 65536 (total - n * 65536))
    (hfirst : n = 0 → 16 ≤ d.length ∧ total ≤ 100663296 ∧ s.folio.pendingSwitch = none)
    (hchecks : n = 0 → ∀ bs x, s.folio.staging ≠ .checking bs x) :
    Completes (.folioStage c t) s fun v => v.folio.running = s.folio.running ∧
      (total ≤ (bytes ++ d).length → v.folio.staging = .checking (bytes ++ d) c ∧ v.quill.replies = s.quill.replies) ∧
      ((bytes ++ d).length < total → v.folio.staging = .receiving (n + 1) total (bytes ++ d) ∧ v.repliedWith c 0x0202 0) := by
  have hown : stageOwn c s = .accept := (stageOwn_by_crc h hprog hbefore hlen hfirst).trans (if_pos rfl)
  have hexec := exec_folioStage_accepted had (h.lenOk (by omega)) hown
  have hfolio := taken_folio s c opFolioStage t
  have hreplies := taken_tick_replies s c opFolioStage t
  rw [stageEffect_stores h ((stageProgress_of_folio hfolio c).trans hprog) (by rw [hfolio]; exact hchecks)] at hexec
  generalize (s.tick t).taken c opFolioStage = u at hexec hfolio hreplies
  by_cases hlast : total ≤ (bytes ++ d).length
  · rw [if_pos hlast] at hexec
    refine ⟨_, hexec, ?_, fun _ => ⟨?_, ?_⟩, fun hmore => absurd hlast (Nat.not_le.mpr hmore)⟩
    · rw [setStaging_folio, hfolio]
    · rw [setStaging_folio]
    · rw [setStaging_quill, hreplies]
  · rw [if_neg hlast] at hexec
    obtain ⟨hv, hreplied, -⟩ := setStaging_reply_spec u (.receiving (n + 1) total (bytes ++ d)) c opFolioStage stOk []
    refine ⟨_, hexec, ?_, fun hle => absurd hle hlast, fun _ => ⟨?_, hreplied⟩⟩
    · rw [State.replyOk, hv, hfolio]
    · rw [State.replyOk, hv]

end

/-- Settles O29: what a block meets decides the verdict on it, and an accepted block is stored. -/
theorem folioBlocksAreReceivedInOrder : Obligations.FolioBlocksAreReceivedInOrder := by
  unfold Obligations.FolioBlocksAreReceivedInOrder
  refine ⟨?next, ?first, ?badCrc, ?unexpected⟩
  case next =>
    intro s c n total t bytes d had hp hn hn32 hs hbefore hlen
    have hblock := isBlock_of_stagePacket hp hn32
    obtain ⟨v, hexec, hrunning, hlast, hmore⟩ := folioStage_stored had hblock (stageProgress_next hblock hn hs) hbefore hlen
      (fun h0 => absurd h0 hn) (fun h0 => absurd h0 hn)
    refine ⟨v, hexec, hrunning, fun hle => ⟨(hlast hle).1, fun r hr _ => ?_⟩, hmore⟩
    rwa [(hlast hle).2] at hr
  case first =>
    intro s c t d had hp hchecks hswitch hhead hpos hmax hlen
    have hblock := isBlock_of_stagePacket hp (by decide)
    obtain ⟨v, hexec, hrunning, hlast, hmore⟩ := folioStage_stored had hblock (stageProgress_first hblock)
      (by rw [Nat.zero_mul]; exact hpos) (by rw [Nat.zero_mul]; exact hlen) (fun _ => ⟨hhead, hmax, hswitch⟩) (fun _ => hchecks)
    exact ⟨v, hexec, hrunning, fun hle => (hlast hle).1, hmore⟩
  case badCrc =>
    intro s c n k total t bytes d had hp hn hn32 hk hcrc hs hbefore hlen
    have hblock := isBlock_of_params hp hn32 hk
    have hown := stageOwn_by_crc hblock (stageProgress_next hblock hn hs) hbefore hlen (fun h0 => absurd h0 hn)
    exact folioStage_refused had (hblock.lenOk (by omega)) (hown.trans (if_neg hcrc.symm))
  case unexpected =>
    intro s c n t d had hp hn hn32 hlen hs
    have hblock := isBlock_of_stagePacket hp hn32
    exact folioStage_refused had (hblock.lenOk hlen) (stageOwn_unexpected (stageProgress_unexpected hblock hn hs))

end Sys2Proof.Machine
end

section
/-! PROOF. The checks of R172: what a staged folio is found to be, shown for every voting lane, and its outcome. -/

namespace Sys2Proof.Machine

open State

/-! ### What the checks find -/

@[simp] theorem stageCheck_tick (s : State) (t : Nat) (bs : List Byte) (sigOk : Bool) :
    (s.tick t).stageCheck bs sigOk = s.stageCheck bs sigOk := by
  simp only [State.stageCheck, State.slotEnrolled, State.rbCounter, State.flag, fget_tick, tick_folio] <;> rfl

@[simp] theorem sigFails_tick (s : State) (t : Nat) (bs : List Byte) (sigOk : Bool) :
    (s.tick t).sigFails bs sigOk = s.sigFails bs sigOk := by
  simp only [State.sigFails, stageCheck_tick, State.slotEnrolled, State.flag, fget_tick]

/-- The result is one of the codes of LANE_STAGE.RESULT, and it is 1 only where the signatures verify (R172). -/
theorem stageCheck_result (s : State) (bs : List Byte) (sigOk : Bool) :
    (s.stageCheck bs sigOk).result < 16 ∧ ((s.stageCheck bs sigOk).result = 1 → sigOk = true) := by
  unfold State.stageCheck
  dsimp only
  split
  · simp
  split
  · simp
  split
  · simp
  rename_i hsig
  have hok : sigOk = true := by
    cases sigOk
    · simp at hsig
    · rfl
  repeat' split
  all_goals simp [hok]

/-- A folio that passes has no signature that fails. -/
theorem sigFails_of_passed {s : State} {bs : List Byte} {sigOk : Bool} (h : (s.stageCheck bs sigOk).result = 1) :
    s.sigFails bs sigOk = false := by
  simp [State.sigFails, h]

/-! ### What the lanes show -/

/-- The registers in which lane `l` shows the outcome of the checks (R103, R144, R172). -/
def stageRegs (l : Lane) : List Nat := [R.LANE_STAGE l, R.LANE_VERIFY_STAT l, R.LANE_VERIFY_WORD l, R.LANE_ADMIT l]

theorem showVerify_regsOnly (s : State) (f : Folio) (l : Lane) :
    State.RegsOnly [R.LANE_VERIFY_STAT l, R.LANE_VERIFY_WORD l] s (s.showVerify f l) :=
  ⟨showVerify_frame s f l, fun _ ha => reg_showVerify_other s f l (fun h => ha (h ▸ List.mem_cons_self))
    fun h => ha (h ▸ List.mem_cons_of_mem _ List.mem_cons_self)⟩

theorem showAdmit_regsOnly (s : State) (f : Folio) (l : Lane) : State.RegsOnly [R.LANE_ADMIT l] s (s.showAdmit f l) :=
  (((((State.fput_regsOnly s (F.LANE_ADMIT_REFUSED l) _).trans (State.fput_regsOnly _ (F.LANE_ADMIT_REASON l) _)).trans
    (State.fput_regsOnly _ (F.LANE_ADMIT_TASK l) _)).trans (State.fput_regsOnly _ (F.LANE_ADMIT_EP0_LOAD l) _)).trans
    (State.fput_regsOnly _ (F.LANE_ADMIT_EP1_LOAD l) _)).mono (by simp [F.LANE_ADMIT_REFUSED, F.LANE_ADMIT_REASON,
      F.LANE_ADMIT_TASK, F.LANE_ADMIT_EP0_LOAD, F.LANE_ADMIT_EP1_LOAD])

/-- LANE_STAGE of lane `l` written (R172). -/
def putStage (s : State) (r : StageResult) (l : Lane) : State :=
  ((s.fput (F.LANE_STAGE_RESULT l) r.result).fput (F.LANE_STAGE_SECTION l) r.section_).fput (F.LANE_STAGE_RECORD l) r.record

theorem putStage_regsOnly (s : State) (r : StageResult) (l : Lane) : State.RegsOnly [R.LANE_STAGE l] s (putStage s r l) :=
  (((State.fput_regsOnly s (F.LANE_STAGE_RESULT l) _).trans (State.fput_regsOnly _ (F.LANE_STAGE_SECTION l) _)).trans
    (State.fput_regsOnly _ (F.LANE_STAGE_RECORD l) _)).mono (by simp [F.LANE_STAGE_RESULT, F.LANE_STAGE_SECTION, F.LANE_STAGE_RECORD])

theorem fget_putStage (s : State) (r : StageResult) (l : Lane) :
    (putStage s r l).fget (F.LANE_STAGE_RESULT l) = r.result % 16 := by
  rw [putStage, fget_fput_other _ (F.LANE_STAGE_RECORD l) _ _ rfl rfl (by simp [bitsApart, F.LANE_STAGE_RESULT, F.LANE_STAGE_RECORD]),
    fget_fput_other _ (F.LANE_STAGE_SECTION l) _ _ rfl rfl (by simp [bitsApart, F.LANE_STAGE_RESULT, F.LANE_STAGE_SECTION]),
    fget_fput_same _ _ _ rfl]
  rfl

/-- After LANE_STAGE come the registers of the steps that were reached. -/
theorem showStage_after (s : State) (f : Folio) (r : StageResult) (l : Lane) :
    State.RegsOnly [R.LANE_VERIFY_STAT l, R.LANE_VERIFY_WORD l, R.LANE_ADMIT l] (putStage s r l) (s.showStage f r l) := by
  have hverify : ∀ (p : Prop) [Decidable p] (u : State), State.RegsOnly [R.LANE_VERIFY_STAT l, R.LANE_VERIFY_WORD l] u
      (if p then u.showVerify f l else u) := fun p _ u => by
    split
    · exact showVerify_regsOnly u f l
    · exact ⟨rfl, fun _ _ => rfl⟩
  have hadmit : ∀ (p : Prop) [Decidable p] (u : State), State.RegsOnly [R.LANE_ADMIT l] u (if p then u.showAdmit f l else u) :=
    fun p _ u => by
      split
      · exact showAdmit_regsOnly u f l
      · exact ⟨rfl, fun _ _ => rfl⟩
  exact (hverify _ (putStage s r l)).trans (hadmit _ _)

theorem showStage_regsOnly (s : State) (f : Folio) (r : StageResult) (l : Lane) :
    State.RegsOnly (stageRegs l) s (s.showStage f r l) := (putStage_regsOnly s r l).trans (showStage_after s f r l)

theorem laneStage_inj {l k : Lane} (h : R.LANE_STAGE l = R.LANE_STAGE k) : l = k := by
  revert h; cases l <;> cases k <;> decide

/-- LANE_STAGE is none of the other registers of the checks, of any lane. -/
theorem laneStage_ne (l k : Lane) : R.LANE_STAGE l ∉ [R.LANE_VERIFY_STAT k, R.LANE_VERIFY_WORD k, R.LANE_ADMIT k] := by
  cases l <;> cases k <;> decide

theorem fget_showStage (s : State) (f : Folio) (r : StageResult) (l k : Lane) (hr : r.result < 16) :
    (s.showStage f r k).fget (F.LANE_STAGE_RESULT l) = if l = k then r.result else s.fget (F.LANE_STAGE_RESULT l) := by
  rw [fget_of_reg (f := F.LANE_STAGE_RESULT l) ((showStage_after s f r k).2 _ (laneStage_ne l k))]
  split
  · rename_i hl
    subst hl
    rw [fget_putStage, Nat.mod_eq_of_lt hr]
  · rename_i hl
    refine fget_of_reg ((putStage_regsOnly s r k).2 _ fun hm => hl (laneStage_inj (List.mem_singleton.mp hm)))

/-- What the lanes of `ls` show of the checks. -/
def showStages (s : State) (f : Folio) (r : StageResult) (ls : List Lane) : State := ls.foldl (fun s l => s.showStage f r l) s

theorem stageRegs_subset (l : Lane) : stageRegs l ⊆ allLanes.flatMap stageRegs := by
  cases l <;> decide

theorem showStages_regsOnly (s : State) (f : Folio) (r : StageResult) (ls : List Lane) :
    State.RegsOnly (allLanes.flatMap stageRegs) s (showStages s f r ls) :=
  foldl_keeps (P := fun t => State.RegsOnly (allLanes.flatMap stageRegs) s t) (fun t l ht =>
    (ht.trans (showStage_regsOnly t f r l)).mono (List.append_subset.mpr ⟨List.Subset.refl _,
      stageRegs_subset l⟩)) ls ⟨rfl, fun _ _ => rfl⟩

theorem fget_showStages {s : State} {f : Folio} {r : StageResult} {ls : List Lane} {l : Lane} (hl : l ∈ ls) (hr : r.result < 16) :
    (showStages s f r ls).fget (F.LANE_STAGE_RESULT l) = r.result :=
  foldl_reaches (P := fun _ => True) (Q := fun t : State => t.fget (F.LANE_STAGE_RESULT l) = r.result) (fun _ _ _ => trivial)
    (fun t k ht => by rw [fget_showStage t f r l k hr, ht, ite_self]) (fun t _ => by rw [fget_showStage t f r l l hr, if_pos rfl])
    ls s hl trivial

/-! ### The hashes of the native images (R173) -/

/-- Every lane that votes takes the hash of its native image, any other none. -/
def setStagedHashes (s : State) (f : Folio) (bad : Lane → Option DWord) : State :=
  ((s.setStagedHash f .a (bad .a)).setStagedHash f .b (bad .b)).setStagedHash f .c (bad .c)

theorem setStagedHash_regs (s : State) (f : Folio) (l : Lane) (bad : Option DWord) : (s.setStagedHash f l bad).regs = s.regs :=
  setLane_regs s l _

theorem setStagedHashes_regs (s : State) (f : Folio) (bad : Lane → Option DWord) : (setStagedHashes s f bad).regs = s.regs := by
  simp only [setStagedHashes, setStagedHash_regs]

theorem setStagedHashes_folio (s : State) (f : Folio) (bad : Lane → Option DWord) : (setStagedHashes s f bad).folio = s.folio := by
  simp only [setStagedHashes, State.setStagedHash, setLane_folio]

theorem imageHash_of_vellum {s t : State} (h : t.vellum = s.vellum) (f : Folio) (l : Lane) : t.imageHash f l = s.imageHash f l := by
  simp only [State.imageHash, State.laneFirmware, h]

theorem stagedHash_setStagedHash (s : State) (f : Folio) (l : Lane) (bad : Option DWord) : ((s.setStagedHash f l bad).lane l).stagedHash =
    if s.isVoting l then some (bad.getD (s.imageHash f l)) else none := by
  rw [State.setStagedHash, lane_setLane_same]

theorem stagedHash_setStagedHashes (s : State) (f : Folio) (bad : Lane → Option DWord) (l : Lane) :
    ((setStagedHashes s f bad).lane l).stagedHash = if s.isVoting l then some ((bad l).getD (s.imageHash f l)) else none := by
  have hother : ∀ (u : State) (k j : Lane), k ≠ j → (u.setStagedHash f j (bad j)).lane k = u.lane k := fun u k j h =>
    lane_setLane_other u _ h
  have hvoting : ∀ (u : State) (k j : Lane), (u.setStagedHash f j (bad j)).isVoting k = u.isVoting k := fun u k j =>
    isVoting_of_regs (setLane_regs u j _) k
  have hhash : ∀ (u : State) (k j : Lane), (u.setStagedHash f j (bad j)).imageHash f k = u.imageHash f k := fun u k j =>
    imageHash_of_vellum (setLane_vellum u j _) f k
  unfold setStagedHashes
  cases l
  case a => rw [hother _ .a .c (by decide), hother _ .a .b (by decide), stagedHash_setStagedHash]
  case b => rw [hother _ .b .c (by decide), stagedHash_setStagedHash, hvoting, hhash]
  case c => rw [stagedHash_setStagedHash, hvoting, hvoting, hhash, hhash]

/-! ### FOLIO_STAGING_COMPLETE -/

/-- A signature that does not verify is counted, and every voting lane shows the outcome (R172). -/
def checkedState (s : State) (bytes : List Byte) (sigOk : Bool) : State :=
  let u := if s.sigFails bytes sigOk then s.fsat F.SEC_COUNTS_SIG_FAILS else s
  showStages u (parseFolio bytes) (s.stageCheck bytes sigOk) u.voters

/-- The registers that the checks write. -/
def checkRegs : List Nat := R.SEC_COUNTS :: allLanes.flatMap stageRegs

theorem countSigFails_regsOnly (s : State) (p : Prop) [Decidable p] :
    State.RegsOnly [R.SEC_COUNTS] s (if p then s.fsat F.SEC_COUNTS_SIG_FAILS else s) := by
  split
  · exact State.fsat_regsOnly s F.SEC_COUNTS_SIG_FAILS
  · exact ⟨rfl, fun _ _ => rfl⟩

theorem checkedState_regsOnly (s : State) (bytes : List Byte) (sigOk : Bool) : State.RegsOnly checkRegs s (checkedState s bytes sigOk) :=
  (countSigFails_regsOnly s _).trans (showStages_regsOnly _ _ _ _)

theorem checkedState_folio (s : State) (bytes : List Byte) (sigOk : Bool) : (checkedState s bytes sigOk).folio = s.folio := by
  rw [(checkedState_regsOnly s bytes sigOk).1]

theorem imageHash_checkedState (s : State) (bytes : List Byte) (sigOk : Bool) (f : Folio) (l : Lane) :
    (checkedState s bytes sigOk).imageHash f l = s.imageHash f l :=
  imageHash_of_vellum (by rw [(checkedState_regsOnly s bytes sigOk).1]) f l

theorem isVoting_checkedState (s : State) (bytes : List Byte) (sigOk : Bool) (l : Lane) :
    (checkedState s bytes sigOk).isVoting l = s.isVoting l := by
  simp only [State.isVoting]
  rw [laneSt_of_reg ((checkedState_regsOnly s bytes sigOk).2 _ (by cases l <;> decide))]

theorem checkedState_result (s : State) (bytes : List Byte) (sigOk : Bool) {l : Lane} (hl : s.isVoting l = true) :
    (checkedState s bytes sigOk).fget (F.LANE_STAGE_RESULT l) = (s.stageCheck bytes sigOk).result := by
  refine fget_showStages ((mem_voters _ l).mpr ?_) (stageCheck_result s bytes sigOk).1
  rw [State.isVoting, laneSt_of_reg ((countSigFails_regsOnly s _).2 (R.LANE_STATE l) (by cases l <;> decide))]
  exact hl

theorem checkedState_sigFails {s : State} {bytes : List Byte} {sigOk : Bool} (h : s.sigFails bytes sigOk = true) :
    (checkedState s bytes sigOk).fget F.SEC_COUNTS_SIG_FAILS = min (s.fget F.SEC_COUNTS_SIG_FAILS + 1) 0xFFFF := by
  unfold checkedState
  dsimp only
  rw [fget_of_reg (f := F.SEC_COUNTS_SIG_FAILS) ((showStages_regsOnly _ _ _ _).2 _ (by decide)), if_pos h, fget_fsat _ _ rfl]
  rfl

section

variable {s : State} {sigOk : Bool} (bad : Lane → Option DWord) {t : Nat} {bytes : List Byte} {c : Cmd}
  (hs : s.folio.staging = .checking bytes c)

include hs

theorem exec_folioStagingComplete_passed (h : (s.stageCheck bytes sigOk).result = 1) :
    exec (.folioStagingComplete sigOk (bad .a) (bad .b) (bad .c) t) s =
      .next (((setStagedHashes (checkedState (s.tick t) bytes sigOk) (parseFolio bytes) bad).setStaging
        (.staged (parseFolio bytes))).replyOk c opFolioStage) := by
  have hs' : (s.tick t).folio.staging = .checking bytes c := by rw [tick_folio, hs]
  have h' : (((s.tick t).stageCheck bytes sigOk).result == 1) = true := by rw [stageCheck_tick, h]; rfl
  simp only [exec, execFolioStagingComplete, hs', h', if_true]
  rfl

theorem exec_folioStagingComplete_failed (h : (s.stageCheck bytes sigOk).result ≠ 1) :
    exec (.folioStagingComplete sigOk (bad .a) (bad .b) (bad .c) t) s =
      .next (((checkedState (s.tick t) bytes sigOk).setStaging .empty).replyErr c opFolioStage
        (s.stageCheck bytes sigOk).status noIndex) := by
  have hs' : (s.tick t).folio.staging = .checking bytes c := by rw [tick_folio, hs]
  have h' : (((s.tick t).stageCheck bytes sigOk).result == 1) = false := by rw [stageCheck_tick]; simpa using h
  rw [← stageCheck_tick s t]
  simp only [exec, execFolioStagingComplete, hs', h', Bool.false_eq_true, if_false]
  rfl

end

theorem laneStage_apart (l : Lane) : (F.LANE_STAGE_RESULT l).off ∉ stagingRegs ++ replyRegs := by
  cases l <;> decide

/-- Settles O30: the checks' outcome decides what is staged and how FOLIO_STAGE is answered. -/
theorem stagedFoliosPassOrFailTheChecks : Obligations.StagedFoliosPassOrFailTheChecks := by
  unfold Obligations.StagedFoliosPassOrFailTheChecks
  simp only [stageCheck_tick]
  refine ⟨?passed, ?failed, ?idle⟩
  case passed =>
    intro s sigOk bad t bytes c hs hpass
    obtain ⟨hfolio, hreplied, hlane, hreg⟩ := setStaging_reply_spec
      (setStagedHashes (checkedState (s.tick t) bytes sigOk) (parseFolio bytes) bad) (.staged (parseFolio bytes)) c opFolioStage stOk []
    have hhash := fun l => (congrArg LaneState.stagedHash (hlane l)).trans (stagedHash_setStagedHashes _ _ bad l)
    simp only [isVoting_checkedState, isVoting_tick, imageHash_checkedState, imageHash_tick] at hhash
    refine ⟨_, exec_folioStagingComplete_passed bad hs hpass, (stageCheck_result s bytes sigOk).2 hpass,
      congrArg FolioState.staging hfolio, (congrArg FolioState.running hfolio).trans ?_, hreplied,
      fun l hl => ⟨?_, (hhash l).trans (if_pos hl)⟩, fun l hl => (hhash l).trans (if_neg hl)⟩
    · show (setStagedHashes _ _ bad).folio.running = s.folio.running
      rw [setStagedHashes_folio, checkedState_folio, tick_folio]
    · refine (hreg _ (laneStage_apart l)).trans ?_
      rw [fget_of_regs (setStagedHashes_regs _ _ _), checkedState_result _ _ _ (by rw [isVoting_tick]; exact hl), stageCheck_tick, hpass]
  case failed =>
    intro s sigOk bad t bytes c hs hfail
    obtain ⟨hfolio, hreplied, -, hreg⟩ := setStaging_reply_spec (checkedState (s.tick t) bytes sigOk) .empty c opFolioStage
      (s.stageCheck bytes sigOk).status (indexParams noIndex)
    refine ⟨_, exec_folioStagingComplete_failed bad hs hfail, congrArg FolioState.staging hfolio,
      (congrArg FolioState.running hfolio).trans ?_, hreplied, fun hsig => (hreg _ (by decide)).trans ?_,
      fun l hl => (hreg _ (laneStage_apart l)).trans ?_⟩
    · show (checkedState _ _ _).folio.running = s.folio.running
      rw [checkedState_folio, tick_folio]
    · rw [checkedState_sigFails ((sigFails_tick s t bytes sigOk).trans hsig), fget_tick]
    · rw [checkedState_result _ _ _ (by rw [isVoting_tick]; exact hl), stageCheck_tick]
  case idle =>
    intro s sigOk badA badB badC t hs
    have hnone : ∀ bytes c, (s.tick t).folio.staging ≠ .checking bytes c := by rw [tick_folio]; exact hs
    -- `hnone` rules out the first case of the match, which `simp` takes from the context.
    simp only [exec, execFolioStagingComplete]

end Sys2Proof.Machine
end

section
/-! PROOF. The search for a seam, and FOLIO_SWITCH from its acceptance to its end (R175 to R177, R183). -/

namespace Sys2Proof.Machine

open State

/-! ### The search on the grid (R176) -/

theorem gridUp_spec (t : Nat) : gridUp t % 50000 = 0 ∧ t ≤ gridUp t ∧ gridUp t < t + 50000 :=
  gridAtOrAfter_spec (g := 50000) t (by decide)

/-- No grid instant lies between `t` and the first one at or after it. -/
theorem gridUp_least {t x : Nat} (hx : x % 50000 = 0) (ht : t ≤ x) : gridUp t ≤ x := by
  obtain ⟨hgrid, -, hbelow⟩ := gridUp_spec t
  omega

section

variable {s : State} {old new : Folio} {b stop : Nat}

/-- A candidate found is a grid instant before `stop` that meets the conditions (R176). -/
theorem searchGo_found {k t a : Nat} (hgrid : t % 50000 = 0) (h : s.searchGo old new b stop k t = some a) :
    a % 50000 = 0 ∧ t ≤ a ∧ a < stop ∧ s.seamPredicted old new b a = true := by
  induction k generalizing t with
  | zero => cases h
  | succ k ih =>
    unfold State.searchGo at h
    split at h
    · cases h
    · rename_i hstop
      split at h
      · rename_i hpred
        cases h
        exact ⟨hgrid, Nat.le_refl _, Nat.not_le.mp hstop, hpred⟩
      · obtain ⟨hgrid', hfrom, hrest⟩ := ih (t := t + 50000) (by omega) h
        exact ⟨hgrid', by omega, hrest⟩

/-- No grid instant that the search passes meets the conditions (R176). -/
theorem searchGo_passes {k t x : Nat} (hgrid : t % 50000 = 0) (hx : x % 50000 = 0) (hfrom : t ≤ x) (hstop : x < stop)
    (hk : x < t + 50000 * k) (hbefore : ∀ a, s.searchGo old new b stop k t = some a → x < a) :
    ¬ s.seamPredicted old new b x = true := by
  induction k generalizing t with
  | zero => omega
  | succ k ih =>
    unfold State.searchGo at hbefore
    rw [if_neg (by omega)] at hbefore
    by_cases hpred : s.seamPredicted old new b t = true
    · have hearlier := hbefore t (if_pos hpred)
      omega
    · rw [if_neg hpred] at hbefore
      by_cases hnow : x = t
      · rw [hnow]
        exact hpred
      · exact ih (t := t + 50000) (by omega) (by omega) (by omega) hbefore

end

theorem searchSeam_running {s : State} {w : Switch} {f old : Folio} (t : Nat) (hs : s.folio.staging = .staged f)
    (hr : s.folio.running = some old) : s.searchSeam w t = s.searchGo old f (s.switchBytes w) (w.accepted + 10000000000) 200001
      (gridUp (max t (w.accepted + s.leadTime))) := by
  simp only [State.searchSeam, hs, hr]
  rfl

theorem searchSeam_first {s : State} {w : Switch} {f : Folio} (t : Nat) (hs : s.folio.staging = .staged f)
    (hr : s.folio.running = none) : s.searchSeam w t = some (gridUp (max t (w.accepted + 20000))) := by
  simp only [State.searchSeam, hs, hr]
  rfl

/-- A search from `t` on announces no earlier instant. -/
theorem searchSeam_from {s : State} {w : Switch} {t a : Nat} (h : s.searchSeam w t = some a) : t ≤ a := by
  unfold State.searchSeam at h
  split at h
  · have hstart := gridUp_spec (max t (w.accepted + s.leadTime))
    have hfound := searchGo_found hstart.1 h
    omega
  · have hstart := gridUp_spec (max t (w.accepted + us20))
    have ha := Option.some.inj h
    omega
  · cases h

/-! ### The announcement in a module that is not paired -/

theorem role_of_unpaired {s : State} (h : ¬ s.paired = true) : s.role = roleSingle := by
  simpa [State.paired] using h

/-- A module that is not paired sends no announcement, and its switch needs no confirmation (R177, R188). -/
theorem announceFrom_unpaired {s : State} (w : Switch) (t : Nat) (h : ¬ s.paired = true) : s.announceFrom w t =
    { s with folio := { s.folio with pendingSwitch := some { w with announced := s.searchSeam w t, confirmed := true } } } := by
  have hpaired : s.paired = false := by simpa using h
  have hleads : ∀ u : State, u.regs = s.regs → u.leads w = false := fun u hu => by
    have hrole : u.role = roleSingle := (fget_of_regs hu F.DUP_STAT_ROLE).trans (role_of_unpaired h)
    simp [State.leads, State.copies, State.paired, hrole, roleActive, roleSingle]
  unfold State.announceFrom
  dsimp only
  split
  · rw [hleads, if_neg Bool.false_ne_true, hpaired]
    · rfl
    · rfl
  · rename_i hnone
    rw [hpaired, hnone]
    rfl

@[simp] theorem paired_tick (s : State) (t : Nat) : (s.tick t).paired = s.paired := by
  simp only [State.paired, State.role, fget_tick]

/-! ### FOLIO_SWITCH (R175, R177) -/

theorem ssmDiffers_touch (s : State) (t id : Nat) (f : Folio) : ((s.tick t).touch id).ssmDiffers f = s.ssmDiffers f := by
  rw [touch_frame]
  simp only [State.ssmDiffers, tick_ssm]

theorem AnswerStep.role {s t : State} (h : AnswerStep s t) : t.role = s.role := h.fget (f := F.DUP_STAT_ROLE) (by decide)

theorem switchOwn_accepts {s : State} {f : Folio} (hrole : s.role = roleSingle) (hs : s.folio.staging = .staged f)
    (hmode : s.modeNow ≠ .hold) (hswitch : s.folio.pendingSwitch = none) (hssm : s.ssmDiffers f = false) : switchOwn s = .accept := by
  simp [switchOwn, refuseIf, hrole, hs, hmode, hssm, State.switchPending, hswitch, State.paired, roleSingle, roleStandby]

/-- The switch of a command accepted at `a`, before an instant is announced. -/
def newSwitch (c : Cmd) (a : Nat) : Switch := { cmd := some c, accepted := a, announced := none, confirmed := false, partnerBytes := 0 }

/-- The state in which an accepted FOLIO_SWITCH searches its seam (R177). -/
def switching (s : State) (c : Cmd) (t : Nat) : State := ((s.tick t).taken c opFolioSwitch).fput F.FOLIO_STAT_PENDING 1

theorem switching_folio (s : State) (c : Cmd) (t : Nat) : (switching s c t).folio = s.folio := by
  rw [switching, fput_folio, taken_folio]

theorem switching_now (s : State) (c : Cmd) (t : Nat) : (switching s c t).now = (s.tick t).now := by
  rw [switching, fput_now, (answer_taken _ _ _).now]

theorem switching_pending (s : State) (c : Cmd) (t : Nat) : (switching s c t).fget F.FOLIO_STAT_PENDING = 1 :=
  fget_fput_same _ F.FOLIO_STAT_PENDING 1 rfl

theorem switching_unpaired {s : State} (c : Cmd) (t : Nat) (h : ¬ s.paired = true) : ¬ (switching s c t).paired = true := by
  have hrole : (switching s c t).role = s.role := by
    rw [State.role, switching, fget_fput_other _ F.FOLIO_STAT_PENDING _ _ rfl rfl rfl, (answer_taken _ _ _).fget (by decide), fget_tick]
    rfl
  rw [State.paired, hrole]
  exact h

section

variable {s : State} {c : Cmd} {t : Nat} {f : Folio} (had : (s.tick t).admits c 3 = true) (hp : c.params = [])
  (hunpaired : ¬ s.paired = true) (hs : s.folio.staging = .staged f) (hmode : s.modeNow ≠ .hold) (hswitch : s.folio.pendingSwitch = none)
  (hssm : ¬ s.ssmDiffers f = true)

include had hp hunpaired hs hmode hswitch hssm

theorem exec_folioSwitch : exec (.folioSwitch c t) s =
    .next ((switching s c t).announceFrom (newSwitch c (s.tick t).now) (s.tick t).now) := by
  have htouch := answer_touch (s.tick t) c.session
  have hrole : ((s.tick t).touch c.session).role = roleSingle := by
    rw [htouch.role]
    exact (fget_tick s t _).trans (role_of_unpaired hunpaired)
  have hown : switchOwn ((s.tick t).touch c.session) = .accept := by
    refine switchOwn_accepts hrole (by rw [touch_folio, hs]) ?_ (by rw [touch_folio, hswitch]) ?_
    · rw [htouch.modeNow, modeNow_tick]
      exact hmode
    · rw [ssmDiffers_touch]
      simpa using hssm
  refine congrArg Host.Outcome.next ((runLane_accepts had (by rw [hp]; rfl) hown).trans ?_)
  rw [switchEffect, ← switching, switching_now, newSwitch]

end

/-- A switch in a module with a folio running: the instant announced is the first predicted to serve (R176, R177). -/
theorem searchSeam_newSwitch {u : State} {f old : Folio} (c : Cmd) (a : Nat) (hunpaired : ¬ u.paired = true)
    (hs : u.folio.staging = .staged f) (hr : u.folio.running = some old) :
    (∀ x, u.searchSeam (newSwitch c a) a = some x → x % 50000 = 0 ∧ a + 500000 ≤ x ∧ x < a + 10000000000 ∧
      u.seamPredicted old f (u.fget F.FOLIO_CARRY_BYTES) x = true) ∧
    (∀ x, x % 50000 = 0 → a + 500000 ≤ x → x < a + 10000000000 → (∀ y, u.searchSeam (newSwitch c a) a = some y → x < y) →
      ¬ u.seamPredicted old f (u.fget F.FOLIO_CARRY_BYTES) x = true) := by
  have hbytes : u.switchBytes (newSwitch c a) = u.fget F.FOLIO_CARRY_BYTES := Nat.max_zero _
  have hlead : u.leadTime = 500000 := if_neg hunpaired
  have hstart : max a (a + 500000) = a + 500000 := Nat.max_eq_right (Nat.le_add_right _ _)
  have hsearch := searchSeam_running (w := newSwitch c a) a hs hr
  rw [hbytes, hlead, show (newSwitch c a).accepted = a from rfl, hstart] at hsearch
  obtain ⟨hgrid, hfrom, hbelow⟩ := gridUp_spec (a + 500000)
  rw [hsearch]
  refine ⟨fun x hx => ?_, fun x hx hlow hhigh hbefore => ?_⟩
  · obtain ⟨hgrid', hfrom', hrest⟩ := searchGo_found hgrid hx
    exact ⟨hgrid', Nat.le_trans hfrom hfrom', hrest⟩
  · exact searchGo_passes hgrid hx (gridUp_least hx hlow) hhigh (by omega) hbefore

/-- The first switch: the first grid instant at or after 20 us (R177). -/
theorem searchSeam_newSwitch_first {u : State} {f : Folio} (c : Cmd) (a : Nat) (hs : u.folio.staging = .staged f)
    (hr : u.folio.running = none) :
    ∃ x, u.searchSeam (newSwitch c a) a = some x ∧ x % 50000 = 0 ∧ a + 20000 ≤ x ∧ x < a + 70000 := by
  have hstart : max a ((newSwitch c a).accepted + 20000) = a + 20000 := Nat.max_eq_right (Nat.le_add_right _ _)
  have hspec := gridUp_spec (a + 20000)
  rw [searchSeam_first a hs hr, hstart]
  exact ⟨_, rfl, hspec.1, hspec.2.1, by omega⟩

/-! ### The end of a switch and a void seam (R175, R177) -/

/-- No switch waits, and FOLIO_STAT shows the result of the last one (R175). -/
def switchClosed (s : State) (result : Nat) : State :=
  (({ s with folio := { s.folio with pendingSwitch := none } } : State).fput F.FOLIO_STAT_PENDING 0).fput F.FOLIO_STAT_LAST_RESULT result

theorem endSwitch_replies {s : State} {w : Switch} {c : Cmd} (status result : Nat) (hw : w.cmd = some c) :
    s.endSwitch w status result = (switchClosed s result).replyErr c opFolioSwitch status noIndex := by
  simp only [State.endSwitch, hw]
  rfl

theorem endSwitch_spec {s : State} {w : Switch} {c : Cmd} (status : Nat) (hw : w.cmd = some c) : let v := s.endSwitch w status 2
    v.folio = { s.folio with pendingSwitch := none } ∧ v.fget F.FOLIO_STAT_PENDING = 0 ∧ v.fget F.FOLIO_STAT_LAST_RESULT = 2 ∧
      v.repliedWith c opFolioSwitch status := by
  have hanswer := answers_reply (switchClosed s 2) c opFolioSwitch status (indexParams noIndex)
  have hpending : (switchClosed s 2).fget F.FOLIO_STAT_PENDING = 0 :=
    (fget_fput_other _ F.FOLIO_STAT_LAST_RESULT F.FOLIO_STAT_PENDING _ rfl rfl rfl).trans (fget_fput_same _ _ _ rfl)
  have hresult : (switchClosed s 2).fget F.FOLIO_STAT_LAST_RESULT = 2 := fget_fput_same _ F.FOLIO_STAT_LAST_RESULT 2 rfl
  rw [endSwitch_replies status 2 hw]
  exact ⟨hanswer.1.folio, (hanswer.1.fget (by decide)).trans hpending, (hanswer.1.fget (by decide)).trans hresult, hanswer.repliedWith⟩

theorem exec_seamSearchTimeout {s : State} {w : Switch} (t : Nat) (hw : s.folio.pendingSwitch = some w) :
    exec (.seamSearchTimeout t) s =
      if w.accepted + 10000000000 ≤ (s.tick t).now then .next ((s.tick t).endSwitch w stNoSeam 2) else .next (s.tick t) := by
  simp only [exec, execSeamSearchTimeout, tick_folio, hw]
  rfl

/-- SEAM_VOID at an announced instant that a task's execution passes: the search goes on 50 us later (R177). -/
theorem exec_seamVoid_again {s : State} {w : Switch} {a t : Nat} (hw : s.folio.pendingSwitch = some w) (ha : w.announced = some a)
    (hnow : a ≤ (s.tick t).now) (hbusy : (s.tick t).anyUncommitted = true) (hact : ¬ s.notActing = true) :
    exec (.seamVoid t) s = .next ((s.tick t).announceFrom w (a + 50000)) := by
  have hvoid : (s.tick t).seamVoid w (s.tick t).now = true := by
    simp [State.seamVoid, ha, hnow, hbusy]
  have hact' : s.notActing = false := by simpa using hact
  simp only [exec, execSeamVoid, tick_folio, hw, hvoid, notActing_tick, hact', ha, Bool.not_true, Bool.false_and,
    Bool.false_eq_true, if_false, Option.getD_some] <;> rfl

/-- Settles O31: the search on the grid says which instant is announced; an unpaired module announces it to no one. -/
theorem switchesWaitForTheFirstSeamPredicted : Obligations.SwitchesWaitForTheFirstSeamPredicted := by
  unfold Obligations.SwitchesWaitForTheFirstSeamPredicted
  refine ⟨?accepted, ?timeout, ?early, ?void, ?clear⟩
  case accepted =>
    intro s c t f had hp hunpaired _ hs hmode hswitch hssm
    have hexec := exec_folioSwitch had hp hunpaired hs hmode hswitch hssm
    have hfolio := switching_folio s c t
    have hpending := switching_pending s c t
    have hunpaired' := switching_unpaired c t hunpaired
    dsimp only
    rw [← opFolioSwitch, ← switching]
    generalize switching s c t = u at hexec hfolio hpending hunpaired' ⊢
    rw [announceFrom_unpaired _ _ hunpaired'] at hexec
    have hstaging : u.folio.staging = s.folio.staging := by rw [hfolio]
    have hrunning : u.folio.running = s.folio.running := by rw [hfolio]
    refine ⟨_, hexec, hpending, hstaging, hrunning, _, rfl, rfl, rfl, rfl, fun hr => ?_, fun old hr => ?_⟩
    · exact searchSeam_newSwitch_first c _ (hstaging.trans hs) (hrunning.trans hr)
    · exact searchSeam_newSwitch c _ hunpaired' (hstaging.trans hs) (hrunning.trans hr)
  case timeout =>
    intro s w c t hw hc hlate
    have hexec := exec_seamSearchTimeout t hw
    rw [if_pos hlate] at hexec
    have hend := endSwitch_spec (s := s.tick t) stNoSeam hc
    rw [tick_folio] at hend
    exact ⟨_, hexec, hend⟩
  case early =>
    intro s w t hw hearly
    exact (exec_seamSearchTimeout t hw).trans (if_neg (Nat.not_le.mpr hearly))
  case void =>
    intro s w a t hw ha hnow hbusy hact hunpaired
    have hexec := exec_seamVoid_again hw ha hnow hbusy hact
    rw [announceFrom_unpaired _ _ (by rw [paired_tick]; exact hunpaired)] at hexec
    refine ⟨_, hexec, _, rfl, fun x hx => searchSeam_from hx, rfl, ?_⟩
    simp only [tick_folio]
  case clear =>
    intro s hr
    refine ⟨_, congrArg Host.Outcome.next (State.clearField_reachable (f := F.FOLIO_IOMIS_VALID) hr), ?_,
      State.fput_regsOnly s F.FOLIO_IOMIS_VALID 0⟩
    exact fget_fput_same s F.FOLIO_IOMIS_VALID 0 rfl

end Sys2Proof.Machine
end

section
/-! PROOF. A field controller's channels and banks (R193, R241): what reads back after one is replaced, and what that leaves
unchanged. -/

namespace Sys2Proof.Machine

open State

/-! ### Channels and banks in their lists -/

theorem FcState.chan_pos (x : FcState) (p : Nat) : (x.chan p).pos = p := by
  unfold FcState.chan
  split
  · rename_i c hc
    simpa using List.find?_some hc
  · rfl

theorem find?_insChan_same (c : FcChan) (cs : List FcChan) : (insChan c cs).find? (·.pos == c.pos) = some c := by
  have hhead : ∀ ds : List FcChan, (c :: ds).find? (·.pos == c.pos) = some c := fun ds =>
    List.find?_cons_of_pos (p := fun d : FcChan => d.pos == c.pos) (beq_self_eq_true _)
  induction cs with
  | nil => exact hhead []
  | cons d ds ih =>
    unfold insChan
    split
    · exact hhead _
    · split
      · exact hhead _
      · rename_i hne
        have hd : ¬ (d.pos == c.pos) = true := fun h => hne (beq_iff_eq.mpr (beq_iff_eq.mp h).symm)
        rw [List.find?_cons_of_neg (p := fun x : FcChan => x.pos == c.pos) hd, ih]

theorem find?_insChan_other {c : FcChan} {q : Nat} (h : q ≠ c.pos) (cs : List FcChan) :
    (insChan c cs).find? (·.pos == q) = cs.find? (·.pos == q) := by
  have hskip : ∀ d : FcChan, d.pos = c.pos → ∀ ds : List FcChan, (d :: ds).find? (·.pos == q) = ds.find? (·.pos == q) :=
    fun d hd ds => List.find?_cons_of_neg (p := fun x : FcChan => x.pos == q) (by simpa [hd] using h.symm)
  induction cs with
  | nil => exact hskip c rfl []
  | cons d ds ih =>
    unfold insChan
    split
    · exact hskip c rfl _
    · split
      · rename_i heq
        rw [hskip c rfl, hskip d (beq_iff_eq.mp heq).symm]
      · rw [List.find?_cons, List.find?_cons, ih]

theorem FcState.chan_of_chans {x y : FcState} (h : y.chans = x.chans) (p : Nat) : y.chan p = x.chan p := by
  simp only [FcState.chan, h]

@[simp] theorem FcState.chan_setChan_same (x : FcState) (c : FcChan) : (x.setChan c).chan c.pos = c := by
  simp only [FcState.chan, FcState.setChan, find?_insChan_same]

theorem FcState.chan_setChan_other (x : FcState) {c : FcChan} {q : Nat} (h : q ≠ c.pos) : (x.setChan c).chan q = x.chan q := by
  simp only [FcState.chan, FcState.setChan, find?_insChan_other h]

theorem FcState.bank_of_banks {x y : FcState} (h : y.banks = x.banks) (b : Nat) : y.bank b = x.bank b := by
  simp only [FcState.bank, h]

theorem FcState.bank_setBank_same {x : FcState} {b : Nat} (k : FcBank) (h : b < x.banks.length) : (x.setBank b k).bank b = k := by
  simp [FcState.bank, FcState.setBank, h]

theorem FcState.bank_setBank_other (x : FcState) {b j : Nat} (k : FcBank) (h : j ≠ b) : (x.setBank b k).bank j = x.bank j := by
  simp [FcState.bank, FcState.setBank, List.getElem?_set_ne h.symm]

/-! ### The field controllers of a state -/

@[simp] theorem fc_setFc_same (s : State) (g : Grp) (x : FcState) : (s.setFc g x).fc g = x := by cases g <;> rfl

theorem fc_setFc_other (s : State) {g k : Grp} (x : FcState) (h : k ≠ g) : (s.setFc g x).fc k = s.fc k := by
  cases g <;> cases k
  case g0.g0 | g1.g1 => exact absurd rfl h
  all_goals rfl

theorem fc_of_fio {s t : State} (h : t.fio = s.fio) (g : Grp) : t.fc g = s.fc g := by
  cases g <;> simp only [State.fc, h]

theorem setFc_frame (s : State) (g : Grp) (x : FcState) : s.setFc g x = { s with fio := (s.setFc g x).fio } := by cases g <;> rfl

@[simp] theorem setFc_regs (s : State) (g : Grp) (x : FcState) : (s.setFc g x).regs = s.regs := by rw [setFc_frame]
@[simp] theorem setFc_now (s : State) (g : Grp) (x : FcState) : (s.setFc g x).now = s.now := by rw [setFc_frame]
@[simp] theorem fget_setFc (s : State) (g : Grp) (x : FcState) (f : Field) : (s.setFc g x).fget f = s.fget f :=
  fget_of_regs (setFc_regs s g x) f

@[simp] theorem fc_fput (s : State) (f : Field) (v : Nat) (g : Grp) : (s.fput f v).fc g = s.fc g := fc_of_fio rfl g
@[simp] theorem fc_fsat (s : State) (f : Field) (g : Grp) : (s.fsat f).fc g = s.fc g := fc_of_fio rfl g
@[simp] theorem fc_finc (s : State) (f : Field) (g : Grp) : (s.finc f).fc g = s.fc g := fc_of_fio rfl g
@[simp] theorem fc_tick (s : State) (t : Nat) (g : Grp) : (s.tick t).fc g = s.fc g := fc_of_fio (tick_fio s t) g
@[simp] theorem fgUp_tick (s : State) (t : Nat) (g : Grp) : (s.tick t).fgUp g = s.fgUp g := by
  simp only [State.fgUp, State.powered, fget_tick]

/-! ### One channel or one bank replaced -/

theorem chanPut_setFc {s : State} {g : Grp} {c : FcChan} {x : FcState} (h : x.chans = insChan c (s.fc g).chans) :
    State.ChanPut g c [] s (s.setFc g x) := by
  have hput : ∀ q, x.chan q = ((s.fc g).setChan c).chan q := FcState.chan_of_chans h
  refine ⟨?_, ?_, fun q hq => ?_, fun k hk => fc_setFc_other s x hk, RegsKept.of_regs (setFc_regs s g x)⟩
  · rw [setFc_frame]
  · rw [fc_setFc_same, hput, FcState.chan_setChan_same]
  · rw [fc_setFc_same, hput, FcState.chan_setChan_other _ hq]

theorem chanPut_setChan (s : State) (g : Grp) (c : FcChan) : State.ChanPut g c [] s (s.setChan g c) := chanPut_setFc rfl

theorem ChanPut.fput {s v : State} {g : Grp} {c : FcChan} (h : State.ChanPut g c [] s v) (f : Field) (n : Nat) :
    State.ChanPut g c [f.off] s (v.fput f n) := by
  obtain ⟨hframe, hsame, hother, hgrp, hregs⟩ := h
  refine ⟨?_, ?_, fun q hq => ?_, fun k hk => ?_, fun a ha => ?_⟩
  · conv_lhs => rw [hframe]
    rfl
  · rw [fc_fput, hsame]
  · rw [fc_fput, hother q hq]
  · rw [fc_fput, hgrp k hk]
  · rw [reg_fput_other v f n (List.ne_of_not_mem_cons ha), hregs a List.not_mem_nil]

theorem bankPut_setFc {s : State} {g : Grp} {b : Nat} (k : FcBank) (h : b < (s.fc g).banks.length) :
    State.BankPut g b k s (s.setFc g ((s.fc g).setBank b k)) := by
  refine ⟨?_, ?_, fun j hj => ?_, ?_, fun j hj => fc_setFc_other s _ hj⟩
  · rw [setFc_frame]
  · rw [fc_setFc_same, FcState.bank_setBank_same k h]
  · rw [fc_setFc_same, FcState.bank_setBank_other _ k hj]
  · rw [fc_setFc_same]; rfl

end Sys2Proof.Machine
end

section
/-! PROOF. Inputs: what a read of a pin leaves in its channel, and the filtered edge (R203 to R207, R227). -/

namespace Sys2Proof.Machine

open State

/-! ### A read of a pin -/

theorem wet_frame (c : FcChan) (now : Nat) : wet c now = { c with wetAt := (wet c now).wetAt, wetting := (wet c now).wetting } := by
  unfold wet
  dsimp only
  split <;> split <;> rfl

theorem wet_opens {c : FcChan} {now : Nat} (hk : c.cfg.kind = 1) (hw : flagWetting c.cfg = true)
    (hlast : ∀ w, c.wetAt = some w → w + 20000000 ≤ now) : wet c now = { c with wetAt := some now, wetting := true } := by
  cases hwet : c.wetAt with
  | none => simp [wet, hk, kInput, hw, hwet]
  | some w => simp [wet, hk, kInput, hw, hwet, ns1ms, hlast w hwet]

/-- The channel with its pin read, and the wetting pulse that a transition starts (R203, R205). -/
def chanPinned (c : FcChan) (lv : Pin) (raw : Bool) (now : Nat) : FcChan :=
  let seen := { c with pin := lv, pinAt := if lv == c.pin then c.pinAt else now, raw := raw }
  if raw != c.raw then wet seen now else seen

/-- The run in which the raw state differs from the filtered one starts, goes on or ends (R206). -/
def chanRun (c : FcChan) (raw : Bool) (now : Nat) : FcChan :=
  if c.cfg.kind != kInput || c.hold.isSome then c
  else if raw == c.filtered then { c with run := none }
  else { c with run := some (c.run.getD now) }

/-- A test in progress has seen the pin (R232). -/
def chanTested (c : FcChan) (lv : Pin) : FcChan :=
  match c.test with
  | some t => if lv == .low then { c with test := some { t with sawLow := true } } else c
  | none => c

theorem chanRead_eq (c : FcChan) (lv : Pin) (raw : Bool) (now : Nat) :
    chanRead c lv raw now = chanTested (chanRun (chanPinned c lv raw now) raw now) lv := rfl

theorem chanPinned_frame (c : FcChan) (lv : Pin) (raw : Bool) (now : Nat) : chanPinned c lv raw now = { c with
    pin := lv, pinAt := (chanPinned c lv raw now).pinAt, raw := raw
    wetAt := (chanPinned c lv raw now).wetAt, wetting := (chanPinned c lv raw now).wetting } := by
  unfold chanPinned
  dsimp only
  split
  · rw [wet_frame]
  · rfl

theorem chanRun_frame (c : FcChan) (raw : Bool) (now : Nat) : chanRun c raw now = { c with run := (chanRun c raw now).run } := by
  unfold chanRun
  split
  · rfl
  · split <;> rfl

theorem chanTested_frame (c : FcChan) (lv : Pin) : chanTested c lv = { c with test := (chanTested c lv).test } := by
  unfold chanTested
  split
  · split <;> rfl
  · rfl

/-- A read keeps the channel's place, configuration, filtered state and hold-off. -/
theorem chanRead_keeps (c : FcChan) (lv : Pin) (raw : Bool) (now : Nat) : let d := chanRead c lv raw now
    d.pos = c.pos ∧ d.cfg = c.cfg ∧ d.pin = lv ∧ d.raw = raw ∧ d.filtered = c.filtered ∧ d.hold = c.hold := by
  rw [chanRead_eq, chanTested_frame, chanRun_frame, chanPinned_frame]
  exact ⟨rfl, rfl, rfl, rfl, rfl, rfl⟩

theorem chanRead_run {c : FcChan} (lv : Pin) (raw : Bool) (now : Nat) (hk : c.cfg.kind = 1) (hh : c.hold = none) :
    (chanRead c lv raw now).run = if raw = c.filtered then none else some (c.run.getD now) := by
  rw [chanRead_eq, chanTested_frame, chanPinned_frame]
  simp only [chanRun, hk, hh, kInput]
  by_cases h : raw = c.filtered <;> simp [h]

theorem chanRead_wets {c : FcChan} {raw : Bool} {now : Nat} (lv : Pin) (hk : c.cfg.kind = 1) (hw : flagWetting c.cfg = true)
    (hmoved : raw ≠ c.raw) (hlast : ∀ w, c.wetAt = some w → w + 20000000 ≤ now) :
    (chanRead c lv raw now).wetting = true ∧ (chanRead c lv raw now).wetAt = some now := by
  have hpinned : chanPinned c lv raw now = { c with
      pin := lv, pinAt := if lv == c.pin then c.pinAt else now, raw := raw, wetAt := some now, wetting := true } := by
    rw [chanPinned, if_pos (bne_iff_ne.mpr hmoved)]
    exact wet_opens hk hw hlast
  rw [chanRead_eq, chanTested_frame, chanRun_frame, hpinned]
  exact ⟨rfl, rfl⟩

/-! ### The filtered edge -/

/-- The filtered edge of a channel: its state follows the raw one, stamped and counted (R206, R207). -/
theorem filterEdge_spec (s : State) (g : Grp) (p : Nat) : let v := s.filterEdge g p
    State.ChanPut g { (s.fc g).chan p with filtered := ((s.fc g).chan p).raw, run := none } [R.CH_CNT g p] s v ∧
      (v.fc g).edges = (s.fc g).edges ++ [⟨p, ((s.fc g).chan p).raw, s.fcTime g - s.fcTime g % 1000⟩] ∧
      v.fget (F.CH_CNT_COUNT g p) = (s.fget (F.CH_CNT_COUNT g p) + 1) % 2 ^ 32 := by
  refine ⟨ChanPut.fput (chanPut_setFc rfl) (F.CH_CNT_COUNT g p) _, ?_, ?_⟩
  · rw [State.filterEdge, fc_finc, fc_setFc_same]
    rfl
  · rw [State.filterEdge, fget_finc _ _ rfl, fget_setFc]
    rfl

/-! ### The commands of the inputs -/

section

variable {s : State} {g : Grp} {p : Nat} (hup : s.fgUp g = true)

include hup

theorem exec_rawTransition {lv : Pin} (t : Nat) (hp : p < 128) (hlv : lv ≠ .mid) : exec (.rawTransition g p lv t) s =
    let c := chanRead ((s.fc g).chan p) lv (lv == .high) (s.tick t).now
    let u := (s.tick t).setChan g c
    .next (if c.run.isSome && c.cfg.filter == 0 then u.filterEdge g p else u) := by
  have hraw : pinRaw (s.tick t) lv = (lv == .high) := by
    cases lv
    case mid => exact absurd rfl hlv
    all_goals rfl
  have hmid : (lv == .mid) = false := beq_eq_false_iff_ne.mpr hlv
  have hrange : ¬ 128 ≤ p := Nat.not_le.mpr hp
  simp only [exec, execRawTransition, fgUp_tick, hup, hrange, hraw, hmid, Bool.not_true, Bool.false_or, decide_false,
    Bool.false_eq_true, if_false, fc_tick]
  split <;> rfl

/-- Between 5 V and 11 V the raw state is the next free value (R203). -/
theorem exec_rawTransition_mid (t : Nat) (hp : p < 128) (hfilter : ((s.fc g).chan p).cfg.filter ≠ 0) :
    exec (.rawTransition g p .mid t) s = .next ((s.tick t).spent.setChan g
      (chanRead ((s.fc g).chan p) .mid ((s.tick t).freeWord.getLsbD 0) (s.tick t).now)) := by
  have hrange : ¬ 128 ≤ p := Nat.not_le.mpr hp
  have hfc : (s.tick t).spent.fc g = s.fc g := fc_of_fio (tick_fio s t) g
  obtain ⟨-, hcfg, -⟩ := chanRead_keeps ((s.fc g).chan p) .mid ((s.tick t).freeWord.getLsbD 0) (s.tick t).now
  have hslow : ((chanRead ((s.fc g).chan p) .mid ((s.tick t).freeWord.getLsbD 0) (s.tick t).now).cfg.filter == 0) = false := by
    rw [hcfg]; exact beq_eq_false_iff_ne.mpr hfilter
  simp only [exec, execRawTransition, fgUp_tick, hup, hrange, pinRaw, Bool.not_true, Bool.false_or, decide_false,
    Bool.false_eq_true, if_false, beq_self_eq_true, if_true, hfc, spent_now, hslow, Bool.and_false]

theorem exec_inputFilterExpire {r : Nat} (t : Nat) (hk : ((s.fc g).chan p).cfg.kind = 1) (hh : ((s.fc g).chan p).hold = none)
    (hrun : ((s.fc g).chan p).run = some r) (hdue : r + 100000 * ((s.fc g).chan p).cfg.filter ≤ (s.tick t).now) :
    exec (.inputFilterExpire g p t) s = .next ((s.tick t).filterEdge g p) := by
  have hdue' : r + filterNs ((s.fc g).chan p).cfg ≤ (s.tick t).now := by
    rw [filterNs, Nat.mul_comm]; exact hdue
  simp [exec, execInputFilterExpire, hrun, hup, hk, kInput, hh, hdue']

theorem exec_validHoldoffExpire {h : Nat} (t : Nat) (hh : ((s.fc g).chan p).hold = some h) (hdue : h ≤ (s.tick t).now) :
    exec (.validHoldoffExpire g p t) s =
      .next ((s.tick t).setChan g { (s.fc g).chan p with hold := none, filtered := ((s.fc g).chan p).raw, run := none }) := by
  simp [exec, execValidHoldoffExpire, hh, hdue, hup]

end

theorem exec_wettingPulseEnd {s : State} {g : Grp} {p w : Nat} (t : Nat) (hw : ((s.fc g).chan p).wetAt = some w)
    (hwet : ((s.fc g).chan p).wetting = true) (hdue : w + 2000000 ≤ (s.tick t).now) :
    exec (.wettingPulseEnd g p t) s = .next ((s.tick t).setChan g { (s.fc g).chan p with wetting := false }) := by
  have hdue' : w + 2 * ns1ms ≤ (s.tick t).now := hdue
  simp [exec, execWettingPulseEnd, hw, hwet, hdue']

/-! ### The tick sample (R206, R208) -/

/-- A group's field controller takes its sample on its own 10 us ticks. -/
def sampleStep (s : State) (g : Grp) : State :=
  if s.fgUp g && s.fcTime g % us10 == 0 then s.setFc g ((s.fc g).sample s.now) else s

theorem sampleStep_spec (s : State) (g : Grp) : sampleStep s g = { s with fio := (sampleStep s g).fio } ∧
    (∀ k, k ≠ g → (sampleStep s g).fc k = s.fc k) ∧
    (sampleStep s g).fc g = if s.fgUp g ∧ s.fcTime g % 10000 = 0 then (s.fc g).sample s.now else s.fc g := by
  unfold sampleStep
  by_cases h : s.fgUp g = true ∧ s.fcTime g % 10000 = 0
  · rw [if_pos (by simpa [us10] using h), if_pos h]
    exact ⟨by rw [setFc_frame], fun k hk => fc_setFc_other s _ hk, fc_setFc_same s g _⟩
  · rw [if_neg (by simpa [us10] using h), if_neg h]
    exact ⟨rfl, fun _ _ => rfl, rfl⟩

theorem exec_inputTickSample (s : State) (t : Nat) :
    exec (.inputTickSample t) s = .next (sampleStep (sampleStep (s.tick t) .g0) .g1) := rfl

theorem inputTickSample_spec (s : State) (t : Nat) : let v := sampleStep (sampleStep (s.tick t) .g0) .g1
    v = { s.tick t with fio := v.fio } ∧ ∀ g, v.fc g = if s.fgUp g ∧ (s.tick t).fcTime g % 10000 = 0 then
      { s.fc g with tick := (s.fc g).stateNow, chans := (s.fc g).chans.map (chanTick (s.tick t).now) } else s.fc g := by
  obtain ⟨hframe, hother, hsame⟩ := sampleStep_spec (s.tick t) .g0
  obtain ⟨hframe', hother', hsame'⟩ := sampleStep_spec (sampleStep (s.tick t) .g0) .g1
  refine ⟨by rw [hframe', hframe], fun g => ?_⟩
  cases g
  · rw [hother' .g0 (by decide), hsame, fgUp_tick, fc_tick]
    rfl
  · have hfc := hother .g1 (by decide)
    have hup : (sampleStep (s.tick t) .g0).fgUp .g1 = s.fgUp .g1 := by rw [hframe]; exact fgUp_tick s t .g1
    have hnow : (sampleStep (s.tick t) .g0).now = (s.tick t).now := by rw [hframe]
    have htime : (sampleStep (s.tick t) .g0).fcTime .g1 = (s.tick t).fcTime .g1 := by simp only [State.fcTime, hnow, hfc]
    rw [hsame', hup, htime, hfc, hnow, fc_tick]
    rfl

end Sys2Proof.Machine
end

section
/-! PROOF. A change of a field controller's state, the blotter state, and the supplies of the banks (R234, R241 to R246). -/

namespace Sys2Proof.Machine

open State

/-! ### What the stages report of a change -/

/-- The registers of a group in which tests and the stages that turn on are counted. -/
def testRegs (g : Grp) : List Nat := R.FIO_TEST g :: (List.range 128).flatMap fun p => [R.CH_FAULT g p, R.CH_CNT g p]

theorem chRegs_mem_testRegs (g : Grp) {p : Nat} (hp : p < 128) : R.CH_FAULT g p ∈ testRegs g ∧ R.CH_CNT g p ∈ testRegs g := by
  constructor <;> exact List.mem_cons_of_mem _ (List.mem_flatMap.mpr ⟨p, List.mem_range.mpr hp, by simp⟩)

/-- The group's own registers lie below those of its channels. -/
theorem not_mem_testRegs {g : Grp} {a : Nat} (hlow : a < R.CH_CNT g 0) (ha : a ≠ R.FIO_TEST g) : a ∉ testRegs g := by
  simp only [R.CH_CNT] at hlow
  simp only [testRegs, List.mem_cons, List.mem_flatMap, List.not_mem_nil, or_false, not_or, not_exists, not_and, R.CH_FAULT, R.CH_CNT]
  exact ⟨ha, fun p _ => by omega⟩

/-- `t` differs from `s` in the channels of group `g` and in its registers of tests and counts. -/
def FieldStep (g : Grp) (s t : State) : Prop :=
  t = { s with regs := t.regs, fio := t.fio } ∧ State.RegsKept (testRegs g) s t ∧ (∀ k, k ≠ g → t.fc k = s.fc k) ∧
    t.fc g = { s.fc g with chans := (t.fc g).chans }

namespace FieldStep

variable {g : Grp} {s t u : State}

theorem refl (g : Grp) (s : State) : FieldStep g s s := ⟨rfl, RegsKept.refl _ s, fun _ _ => rfl, rfl⟩

theorem trans (h : FieldStep g s t) (h' : FieldStep g t u) : FieldStep g s u := by
  obtain ⟨hframe, hregs, hother, hsame⟩ := h
  obtain ⟨hframe', hregs', hother', hsame'⟩ := h'
  exact ⟨by rw [hframe', hframe], hregs.trans hregs', fun k hk => (hother' k hk).trans (hother k hk), by rw [hsame', hsame]⟩

theorem fput (s : State) {f : Field} (v : Nat) (hf : f.off ∈ testRegs g) : FieldStep g s (s.fput f v) :=
  ⟨rfl, RegsKept.fput s v hf, fun k _ => fc_fput s f v k, by rw [fc_fput]⟩

/-- Two states of the field controller that differ in their channels. -/
theorem setFc (s : State) (g : Grp) (x : FcState) (cs : List FcChan) :
    FieldStep g (s.setFc g x) (s.setFc g { x with chans := cs }) := by
  refine ⟨?_, ?_, fun k hk => ?_, ?_⟩
  · cases g <;> rfl
  · exact RegsKept.of_regs ((setFc_regs s g _).trans (setFc_regs s g x).symm)
  · rw [fc_setFc_other s _ hk, fc_setFc_other s _ hk]
  · rw [fc_setFc_same, fc_setFc_same]

theorem setChan (s : State) (g : Grp) (c : FcChan) : FieldStep g s (s.setChan g c) := by
  refine ⟨?_, ?_, fun k hk => fc_setFc_other s _ hk, ?_⟩
  · rw [State.setChan, setFc_frame]
  · exact RegsKept.of_regs (setFc_regs s g _)
  · rw [State.setChan, fc_setFc_same]
    rfl

theorem abandonTest (s : State) (g : Grp) {p : Nat} (hp : p < 128) : FieldStep g s (s.abandonTest g p) := by
  unfold State.abandonTest
  dsimp only
  split
  · exact refl g s
  · have hended := (setChan s g (chanIncomplete ((s.fc g).chan p))).trans
      (fput _ (f := F.CH_FAULT_LAST_TEST g p) testIncomplete (chRegs_mem_testRegs g hp).1)
    exact hended.trans (fput _ (f := F.FIO_TEST_INCOMPLETE g) _ List.mem_cons_self)

theorem fget (h : FieldStep g s t) {f : Field} (hf : f.off ∉ testRegs g) : t.fget f = s.fget f := fget_of_reg (h.2.1 _ hf)

end FieldStep

/-- A change of the field controller ends tests and counts stages that turn on; else it is what it changes to (R234, R238). -/
theorem fcUpdate_spec (s : State) (g : Grp) (y : FcState) : FieldStep g (s.setFc g y) (s.fcUpdate g y) := by
  have hpos : ∀ (x : FcState) (p : FcChan → Bool), ∀ c ∈ (x.chans.filter fun c =>
      decide (c.pos < 128) && (isOut c.cfg.kind || isOut ((s.fc g).chan c.pos).cfg.kind)).filter p, c.pos < 128 := by
    intro x p c hc
    have hout := (List.mem_filter.mp (List.mem_filter.mp hc).1).2
    rw [Bool.and_eq_true] at hout
    exact of_decide_eq_true hout.1
  unfold State.fcUpdate
  refine foldl_keeps_mem _ (fun u c hc hu => hu.trans ?_) (foldl_keeps_mem _ (fun u c hc hu => hu.trans ?_) (FieldStep.setFc s g y _))
  · exact FieldStep.fput u (f := F.CH_CNT_COUNT g c.pos) _ (chRegs_mem_testRegs g (hpos y _ c hc)).2
  · exact FieldStep.abandonTest u g (hpos y _ c hc)

theorem fc_fcUpdate (s : State) (g : Grp) (y : FcState) :
    (s.fcUpdate g y).fc g = { y with chans := ((s.fcUpdate g y).fc g).chans } := by
  obtain ⟨-, -, -, hsame⟩ := fcUpdate_spec s g y
  rwa [fc_setFc_same] at hsame

theorem bank_fcUpdate (s : State) (g : Grp) (y : FcState) (b : Nat) : ((s.fcUpdate g y).fc g).bank b = y.bank b := by
  rw [fc_fcUpdate]
  exact FcState.bank_of_banks rfl b

theorem fget_fcUpdate (s : State) (g : Grp) (y : FcState) {f : Field} (hf : f.off ∉ testRegs g) :
    (s.fcUpdate g y).fget f = s.fget f := ((fcUpdate_spec s g y).fget hf).trans (fget_setFc s g y f)

/-! ### The blotter state (R244, R246) -/

/-- What a log record and a message to the host change lies outside the field interface. -/
theorem Logged.fc {s t : State} (h : Logged s t) (g : Grp) : t.fc g = s.fc g := by
  obtain ⟨_, _, _, _, rfl⟩ := h
  cases g <;> rfl

theorem enterBlotter_eq {s : State} {g : Grp} (cause : Nat) (h : ¬ (s.fc g).blotter = true) : s.enterBlotter g cause =
    ((((s.fcUpdate g { s.fc g with blotter := true }).fput (F.FIO_BLOTTER_CAUSE g) cause).fsat (F.FIO_BLOTTER_ENTRIES g)).logReg
      0x0020 codeFio (R.FIO_BLOTTER g)).hostEvent (evGroup g) := if_neg h

/-- Entering the blotter state is counted with its cause; the commands from before it stay (R245, R246). -/
theorem enterBlotter_spec {s : State} {g : Grp} {cause : Nat} (h : ¬ (s.fc g).blotter = true) (hc : cause < 8) :
    let v := s.enterBlotter g cause
    (v.fc g).blotter = true ∧ v.fget (F.FIO_BLOTTER_CAUSE g) = cause ∧
      v.fget (F.FIO_BLOTTER_ENTRIES g) = min (s.fget (F.FIO_BLOTTER_ENTRIES g) + 1) 255 ∧ (v.fc g).cmd = (s.fc g).cmd := by
  have hreg : R.FIO_BLOTTER g ∉ testRegs g := by cases g <;> exact not_mem_testRegs (by decide) (by decide)
  have hlog : R.FIO_BLOTTER g ≠ R.LOG_HEAD ∧ R.FIO_BLOTTER g ≠ R.BRG_EVT := by cases g <;> decide
  have hfc : (s.enterBlotter g cause).fc g = (s.fcUpdate g { s.fc g with blotter := true }).fc g := by
    rw [enterBlotter_eq cause h, Logged.fc ((logged_logReg _ _ _ _).trans (logged_hostEvent _ _)), fc_fsat, fc_fput]
  have happart : bitsApart (F.FIO_BLOTTER_CAUSE g) (F.FIO_BLOTTER_ENTRIES g) = true ∧
      bitsApart (F.FIO_BLOTTER_ENTRIES g) (F.FIO_BLOTTER_CAUSE g) = true := by
    constructor <;> simp [bitsApart, F.FIO_BLOTTER_CAUSE, F.FIO_BLOTTER_ENTRIES]
  refine ⟨?_, ?_, ?_, ?_⟩
  · rw [hfc, fc_fcUpdate]
  · rw [enterBlotter_eq cause h, fget_report_other _ _ _ _ _ (g := F.FIO_BLOTTER_CAUSE g) hlog.1 hlog.2, State.fsat, State.fsatAdd,
      fget_fput_other _ _ _ _ rfl rfl happart.1, fget_fput_same _ _ _ rfl]
    exact Nat.mod_eq_of_lt hc
  · rw [enterBlotter_eq cause h, fget_report_other _ _ _ _ _ (g := F.FIO_BLOTTER_ENTRIES g) hlog.1 hlog.2, fget_fsat _ _ rfl,
      fget_fput_other _ _ _ _ rfl rfl happart.2, fget_fcUpdate s g _ (f := F.FIO_BLOTTER_ENTRIES g) hreg]
    rfl
  · rw [hfc, fc_fcUpdate]

theorem exec_silenceTimeout {s : State} {g : Grp} {a : Nat} (t : Nat) (hup : s.fgUp g = true) (ha : (s.fc g).lastApply = some a)
    (hdue : a + (s.fc g).silenceMs * 1000000 ≤ (s.tick t).now) (happly : ¬ (s.fc g).appliesAt ((s.tick t).fcTime g) = true) :
    exec (.silenceTimeout g t) s = .next ((s.tick t).enterBlotter g blotSilence) := by
  have hdue' : a + (s.fc g).silenceMs * ns1ms ≤ (s.tick t).now := hdue
  simp [exec, execSilenceTimeout, ha, hup, hdue', happly]

theorem exec_haltReceived {s : State} {g : Grp} (t : Nat) (hup : s.fgUp g = true) :
    exec (.haltReceived g t) s = .next ((s.tick t).enterBlotter g blotHalt) := by
  simp [exec, execHaltReceived, hup]

/-! ### Bank supplies (R241 to R243) -/

/-- The log record of a bank leaves the field controllers and the registers of the field interface. -/
theorem logBank_spec (s : State) (g : Grp) (b : Nat) :
    (∀ k, (s.logBank g b).fc k = s.fc k) ∧ ∀ f : Field, 0x200000 ≤ f.off → (s.logBank g b).fget f = s.fget f := by
  have hstep : AnswerStep s (s.logBank g b) := answer_log s _ _ _
  refine ⟨fun k => ?_, fun f hf => hstep.fget (not_mem_answerRegs hf)⟩
  obtain ⟨⟨_, _, _, _, _, _, hframe⟩, -⟩ := hstep
  rw [hframe]
  cases k <;> rfl

theorem not_stageOn_of_cut {x : FcState} {p : Nat} (h : (x.bank (bankOf p)).cut = true) : ¬ x.stageOn p = true := by
  simp [FcState.stageOn, FcBank.drives, h]

theorem bankEvt_apart (g : Grp) {b : Nat} (hb : b < 8) : R.FIO_BANK_EVT g b ∉ testRegs g ∧ R.FIO_BANK_EVT g b ≠ R.BRG_EVT ∧
    0x200000 ≤ R.FIO_BANK_EVT g b := by
  refine ⟨not_mem_testRegs ?_ ?_, ?_, ?_⟩ <;> simp only [R.FIO_BANK_EVT, R.CH_CNT, R.FIO_TEST, R.BRG_EVT] <;> omega

/-- A bank whose output supply switch has opened (R239, R242). -/
def cutOff (k : FcBank) (cause : Nat) : FcBank :=
  { k with cut := true, waitApply := false, restoreSince := none, latched := k.latched || cause == cutStage }

theorem cutBank_eq {s : State} {g : Grp} {b : Nat} (cause : Nat) (hcut : ¬ ((s.fc g).bank b).cut = true) : s.cutBank g b cause =
    ((((s.fcUpdate g ((s.fc g).setBank b (cutOff ((s.fc g).bank b) cause))).fsat (F.FIO_BANK_EVT_CUTS g b)).hostEvent (evGroup g)).fput
      (F.FIO_BANK_EVT_CUT_CAUSE g b) cause).fput (F.FIO_BANK_EVT_LATCHED g b) (bit (cutOff ((s.fc g).bank b) cause).latched) := by
  simp only [State.cutBank, hcut, Bool.false_eq_true, if_false, cutOff]

/-- Cutting a bank that was not cut: its switch opens, with its cause and a count (R242). -/
theorem cutBank_spec {s : State} {g : Grp} {b cause : Nat} (hb : b < 8) (hlen : b < (s.fc g).banks.length)
    (hcut : ¬ ((s.fc g).bank b).cut = true) (hc : cause < 16) : let v := s.cutBank g b cause
    ((v.fc g).bank b).cut = true ∧ v.fget (F.FIO_BANK_EVT_CUT_CAUSE g b) = cause ∧
      v.fget (F.FIO_BANK_EVT_CUTS g b) = min (s.fget (F.FIO_BANK_EVT_CUTS g b) + 1) 255 := by
  obtain ⟨htest, hevt, -⟩ := bankEvt_apart g hb
  have hbank : ((s.fcUpdate g ((s.fc g).setBank b (cutOff ((s.fc g).bank b) cause))).fc g).bank b = cutOff ((s.fc g).bank b) cause :=
    (bank_fcUpdate s g _ b).trans (FcState.bank_setBank_same _ hlen)
  have hcuts := fget_fcUpdate s g ((s.fc g).setBank b (cutOff ((s.fc g).bank b) cause)) (f := F.FIO_BANK_EVT_CUTS g b) htest
  rw [cutBank_eq cause hcut]
  refine ⟨?_, ?_, ?_⟩
  · rw [fc_fput, fc_fput, Logged.fc (logged_hostEvent _ _), fc_fsat, hbank]
    rfl
  · rw [fget_fput_other _ _ _ _ rfl rfl (by simp [bitsApart, F.FIO_BANK_EVT_CUT_CAUSE, F.FIO_BANK_EVT_LATCHED]),
      fget_fput_same _ _ _ rfl]
    exact Nat.mod_eq_of_lt hc
  · rw [fget_fput_other _ _ _ _ rfl rfl (by simp [bitsApart, F.FIO_BANK_EVT_CUTS, F.FIO_BANK_EVT_LATCHED]),
      fget_fput_other _ _ _ _ rfl rfl (by simp [bitsApart, F.FIO_BANK_EVT_CUTS, F.FIO_BANK_EVT_CUT_CAUSE]),
      fget_of_reg (f := F.FIO_BANK_EVT_CUTS g b) (reg_hostEvent_other _ _ hevt), fget_fsat _ _ rfl, hcuts]
    rfl

section

variable {s : State} {g : Grp} {b volts : Nat} (hup : s.fgUp g = true) (hb : b < 8) (hused : (s.fc g).used b = true)

include hup hb hused

/-- A measurement of a bank in use: its counts, a warning, a cut, and the log record of either (R241, R242). -/
theorem exec_bankSupplyMeasure (t : Nat) : exec (.bankSupplyMeasure g b volts t) s =
    let k := measured ((s.fc g).bank b) volts (s.tick t).now
    let toWarn := !k.warn && decide (2 ≤ k.warnRun)
    let toCut := !k.cut && decide (2 ≤ k.cutRun)
    let u := (s.tick t).setFc g ((s.fc g).setBank b (if toWarn then { k with warn := true, validHold := none } else k))
    let u := if toWarn then u.fsat (F.FIO_BANK_EVT_WARNS g b) else u
    let u := if toCut then u.cutBank g b cutUnder else u
    .next (if toWarn || toCut then u.logBank g b else u) := by
  have hrange : ¬ 8 ≤ b := Nat.not_le.mpr hb
  simp only [exec, execBankSupplyMeasure, fgUp_tick, fc_tick, hup, hused, hrange, Bool.not_true, Bool.false_or, decide_false,
    Bool.false_eq_true, if_false]

theorem exec_bankSupplyMeasure_warns (t : Nat) (hwarn : ¬ ((s.fc g).bank b).warn = true) (hrun : 1 ≤ ((s.fc g).bank b).warnRun)
    (hlow : 1400 < volts) (hhigh : volts ≤ 1800) : exec (.bankSupplyMeasure g b volts t) s =
      .next ((((s.tick t).setFc g ((s.fc g).setBank b { measured ((s.fc g).bank b) volts (s.tick t).now with
        warn := true, validHold := none })).fsat (F.FIO_BANK_EVT_WARNS g b)).logBank g b) := by
  have hnocut : (measured ((s.fc g).bank b) volts (s.tick t).now).cutRun = 0 := if_neg (Nat.not_le.mpr hlow)
  have hruns : (measured ((s.fc g).bank b) volts (s.tick t).now).warnRun = ((s.fc g).bank b).warnRun + 1 := if_pos hhigh
  have hquiet : (measured ((s.fc g).bank b) volts (s.tick t).now).warn = false := by simpa [measured] using hwarn
  have hsecond : 2 ≤ ((s.fc g).bank b).warnRun + 1 := Nat.succ_le_succ hrun
  rw [exec_bankSupplyMeasure hup hb hused]
  simp [hnocut, hruns, hquiet, hsecond]

/-- The second measurement in a row at or below 14 V cuts the bank, whether or not it also warns (R242). -/
theorem exec_bankSupplyMeasure_cuts (t : Nat) (hlen : b < (s.fc g).banks.length) (hcut : ¬ ((s.fc g).bank b).cut = true)
    (hrun : 1 ≤ ((s.fc g).bank b).cutRun) (hlow : volts ≤ 1400) :
    ∃ u : State, exec (.bankSupplyMeasure g b volts t) s = .next ((u.cutBank g b cutUnder).logBank g b) ∧ b < (u.fc g).banks.length ∧
      ¬ ((u.fc g).bank b).cut = true ∧ u.fget (F.FIO_BANK_EVT_CUTS g b) = s.fget (F.FIO_BANK_EVT_CUTS g b) := by
  have hruns : (measured ((s.fc g).bank b) volts (s.tick t).now).cutRun = ((s.fc g).bank b).cutRun + 1 := if_pos hlow
  have hclosed : (measured ((s.fc g).bank b) volts (s.tick t).now).cut = false := by simpa [measured] using hcut
  have hsecond : 2 ≤ ((s.fc g).bank b).cutRun + 1 := Nat.succ_le_succ hrun
  have hbank : ∀ k : FcBank, b < (((s.fc g).setBank b k).banks).length := fun k => by
    simpa [FcState.setBank] using hlen
  rw [exec_bankSupplyMeasure hup hb hused]
  simp only [hruns, hclosed, hsecond, Bool.not_false, decide_true, Bool.and_self, if_true, Bool.or_true]
  split
  · refine ⟨_, rfl, ?_, ?_, ?_⟩
    · rw [fc_fsat, fc_setFc_same]; exact hbank _
    · rw [fc_fsat, fc_setFc_same, FcState.bank_setBank_same _ hlen]
      exact Bool.false_ne_true
    · rw [State.fsat, State.fsatAdd, fget_fput_other _ _ _ _ rfl rfl (by simp [bitsApart, F.FIO_BANK_EVT_CUTS, F.FIO_BANK_EVT_WARNS]),
        fget_setFc, fget_tick]
  · refine ⟨_, rfl, ?_, ?_, ?_⟩
    · rw [fc_setFc_same]; exact hbank _
    · rw [fc_setFc_same, FcState.bank_setBank_same _ hlen]
      exact Bool.eq_false_iff.mp hclosed
    · rw [fget_setFc, fget_tick]

end

theorem exec_bankWarnClear {s : State} {g : Grp} {b r : Nat} (t : Nat) (hr : ((s.fc g).bank b).clearSince = some r)
    (hwarn : ((s.fc g).bank b).warn = true) (hdue : r + 1000000 ≤ (s.tick t).now) : exec (.bankWarnClear g b t) s =
      .next ((s.tick t).setFc g ((s.fc g).setBank b { (s.fc g).bank b with warn := false, validHold := some (s.tick t).now })) := by
  have hdue' : r + ns1ms ≤ (s.tick t).now := hdue
  simp [exec, execBankWarnClear, hr, hwarn, hdue']

theorem exec_bankRestore {s : State} {g : Grp} {b r : Nat} (t : Nat) (hr : ((s.fc g).bank b).restoreSince = some r)
    (hcut : ((s.fc g).bank b).cut = true) (hlatch : ¬ ((s.fc g).bank b).latched = true) (hdue : r + 10000000 ≤ (s.tick t).now) :
    exec (.bankRestore g b t) s = .next ((s.tick t).setFc g ((s.fc g).setBank b { (s.fc g).bank b with
      cut := false, cutRun := 0, waitApply := true, restoredAt := (s.tick t).now })) := by
  have hdue' : r + 10 * ns1ms ≤ (s.tick t).now := hdue
  simp [exec, execBankRestore, hr, hcut, hlatch, hdue']

theorem exec_bankValidResume {s : State} {g : Grp} {b r : Nat} (t : Nat) (hr : ((s.fc g).bank b).validHold = some r)
    (hdue : r + 1000000 ≤ (s.tick t).now) : exec (.bankValidResume g b t) s =
      .next ((s.tick t).setFc g ((s.fc g).setBank b { (s.fc g).bank b with validHold := none })) := by
  have hdue' : r + ns1ms ≤ (s.tick t).now := hdue
  simp [exec, execBankValidResume, hr, hdue']

end Sys2Proof.Machine
end

section
/-! PROOF. Inputs, bank supplies, silence and HALT together (R203 to R208, R227, R241 to R246). -/

namespace Sys2Proof.Machine

open State

/-- A channel replaced, as seen from its position. -/
theorem ChanPut.chan {s v : State} {g : Grp} {c : FcChan} {p : Nat} {offs : List Nat} (h : State.ChanPut g c offs s v) (hp : c.pos = p) :
    (v.fc g).chan p = c := by
  obtain ⟨-, hsame, -⟩ := h
  rw [← hp, hsame]

/-- With FILTER 0 the filtered state of an input follows its raw state at once (R206). -/
theorem rawTransition_edge {s : State} {g : Grp} {p : Nat} {lv : Pin} (t : Nat) (hup : s.fgUp g = true) (hp : p < 128) (hlv : lv ≠ .mid)
    (hfilter : ((s.fc g).chan p).cfg.filter = 0) (hk : ((s.fc g).chan p).cfg.kind = 1) (hh : ((s.fc g).chan p).hold = none)
    (hdiff : ((s.fc g).chan p).filtered ≠ (lv == .high)) :
    Completes (.rawTransition g p lv t) s fun v => ((v.fc g).chan p).filtered = (lv == .high) ∧ ((v.fc g).chan p).run = none ∧
      (v.fc g).edges = (s.fc g).edges ++ [⟨p, lv == .high, (s.tick t).fcTime g - (s.tick t).fcTime g % 1000⟩] ∧
      v.fget (F.CH_CNT_COUNT g p) = (s.fget (F.CH_CNT_COUNT g p) + 1) % 2 ^ 32 ∧ State.RegsKept [R.CH_CNT g p] s v := by
  obtain ⟨hpos, hcfg, -, hraw, -, -⟩ := chanRead_keeps ((s.fc g).chan p) lv (lv == .high) (s.tick t).now
  have hrun := chanRead_run lv (lv == .high) (s.tick t).now hk hh
  rw [if_neg (Ne.symm hdiff)] at hrun
  have hexec := exec_rawTransition hup t hp hlv
  generalize chanRead ((s.fc g).chan p) lv (lv == .high) (s.tick t).now = c at hexec hpos hcfg hraw hrun
  rw [FcState.chan_pos] at hpos
  simp only [hrun, hcfg, hfilter, Option.isSome_some, beq_self_eq_true, Bool.and_self, if_true] at hexec
  have hchan : (((s.tick t).setChan g c).fc g).chan p = c := ChanPut.chan (chanPut_setChan _ g c) hpos
  obtain ⟨hput, hedges, hcount⟩ := filterEdge_spec ((s.tick t).setChan g c) g p
  have htime : ((s.tick t).setChan g c).fcTime g = (s.tick t).fcTime g := by
    simp only [State.fcTime, State.setChan, setFc_now, fc_setFc_same]
    rfl
  have hedge := ChanPut.chan hput (FcState.chan_pos _ p)
  obtain ⟨-, -, -, -, hregs⟩ := hput
  rw [hchan] at hedge hedges
  refine ⟨_, hexec, ?_, ?_, ?_, ?_, fun a ha => (hregs a ha).trans ?_⟩
  · rw [hedge]; exact hraw
  · rw [hedge]
  · rw [hedges, htime, hraw, State.setChan, fc_setFc_same, fc_tick]
    rfl
  · rw [hcount, State.setChan, fget_setFc, fget_tick]
  · rw [State.setChan]
    simp only [State.reg, setFc_regs, tick_regs]

/-- Settles O35: channels and banks are lists of which a command replaces one entry; a cut and the blotter state go through
`fcUpdate`, which touches channels and counters alone. -/
theorem inputsBanksAndSilenceAreSupervised : Obligations.InputsBanksAndSilenceAreSupervised := by
  unfold Obligations.InputsBanksAndSilenceAreSupervised
  refine ⟨?read, ?free, ?edge, ?law, ?expire, ?sample, ?wetting, ?holdoff, ?warn, ?cut, ?clear, ?restore, ?resume, ?silence, ?halt⟩
  case read =>
    intro s g p t lv hup hp hlv hfilter
    obtain ⟨-, hcfg, -⟩ := chanRead_keeps ((s.fc g).chan p) lv (lv == .high) (s.tick t).now
    refine ⟨_, (exec_rawTransition hup t hp hlv).trans ?_, chanPut_setChan (s.tick t) g _⟩
    simp [hcfg, hfilter]
  case free =>
    intro s g p t hup hp hfilter
    obtain ⟨hpos, -, -, hraw, -⟩ := chanRead_keeps ((s.fc g).chan p) .mid ((s.tick t).freeWord.getLsbD 0) (s.tick t).now
    refine ⟨_, exec_rawTransition_mid hup t hp hfilter, ?_, ?_, ?_⟩
    · rw [State.setChan, setFc_frame]
      rfl
    · rw [ChanPut.chan (chanPut_setChan _ g _) (hpos.trans (FcState.chan_pos _ p)), hraw]
    · rw [State.setChan, setFc_regs, spent_regs, tick_regs]
  case edge =>
    intro s g p t lv hup hp hlv hfilter hk hh hdiff
    exact rawTransition_edge t hup hp hlv hfilter hk hh hdiff
  case law =>
    intro c lv raw n
    obtain ⟨-, -, hpin, hraw, hfiltered, -⟩ := chanRead_keeps c lv raw n
    exact ⟨hpin, hraw, hfiltered, chanRead_run lv raw n, chanRead_wets lv⟩
  case expire =>
    intro s g p r t hup _ hk hh hrun hdue
    have hedge := filterEdge_spec (s.tick t) g p
    rw [fc_tick, fget_tick] at hedge
    exact ⟨_, exec_inputFilterExpire hup t hk hh hrun hdue, hedge⟩
  case sample =>
    intro s t
    exact ⟨_, exec_inputTickSample s t, inputTickSample_spec s t⟩
  case wetting =>
    intro s g p w t hw hwet hdue
    exact ⟨_, exec_wettingPulseEnd t hw hwet hdue, chanPut_setChan _ g _⟩
  case holdoff =>
    intro s g p h t hup hh hdue
    exact ⟨_, exec_validHoldoffExpire hup t hh hdue, chanPut_setChan _ g _⟩
  case warn =>
    intro s g b volts t hup hb hlen hused hwarn hrun hlow hhigh
    refine ⟨_, exec_bankSupplyMeasure_warns hup hb hused t hwarn hrun hlow hhigh, ?_⟩
    obtain ⟨hfc, hfget⟩ := logBank_spec (((s.tick t).setFc g ((s.fc g).setBank b { measured ((s.fc g).bank b) volts (s.tick t).now with
      warn := true, validHold := none })).fsat (F.FIO_BANK_EVT_WARNS g b)) g b
    rw [hfc, fc_fsat, fc_setFc_same, FcState.bank_setBank_same _ hlen, hfget _ (bankEvt_apart g hb).2.2, fget_fsat _ _ rfl, fget_setFc, fget_tick]
    exact ⟨rfl, rfl, rfl, fun j hj => FcState.bank_setBank_other _ _ hj, rfl⟩
  case cut =>
    intro s g b volts t hup hb hlen hused hcut hrun hlow
    obtain ⟨u, hexec, hlen', hcut', hcuts⟩ := exec_bankSupplyMeasure_cuts hup hb hused t hlen hcut hrun hlow
    obtain ⟨hopen, hcause, hcount⟩ := cutBank_spec hb hlen' hcut' (show cutUnder < 16 by decide)
    obtain ⟨hfc, hfget⟩ := logBank_spec (u.cutBank g b cutUnder) g b
    refine ⟨_, hexec, ?_, ?_, ?_, fun p hp => not_stageOn_of_cut ?_⟩
    · rw [hfc]; exact hopen
    · rw [hfget _ (bankEvt_apart g hb).2.2]; exact hcause
    · rw [hfget _ (bankEvt_apart g hb).2.2, hcount, hcuts]
    · rw [hp, hfc]; exact hopen
  case clear =>
    intro s g b r t hlen hr hwarn hdue
    have hput := bankPut_setFc (s := s.tick t) (g := g) { (s.fc g).bank b with warn := false, validHold := some (s.tick t).now }
      (by rw [fc_tick]; exact hlen)
    rw [fc_tick] at hput
    exact ⟨_, exec_bankWarnClear t hr hwarn hdue, hput⟩
  case restore =>
    intro s g b r t hlen hr hcut hlatch hdue
    have hput := bankPut_setFc (s := s.tick t) (g := g) { (s.fc g).bank b with
      cut := false, cutRun := 0, waitApply := true, restoredAt := (s.tick t).now } (by rw [fc_tick]; exact hlen)
    rw [fc_tick] at hput
    exact ⟨_, exec_bankRestore t hr hcut hlatch hdue, hput⟩
  case resume =>
    intro s g b r t hlen hr hdue
    have hput := bankPut_setFc (s := s.tick t) (g := g) { (s.fc g).bank b with validHold := none } (by rw [fc_tick]; exact hlen)
    rw [fc_tick] at hput
    exact ⟨_, exec_bankValidResume t hr hdue, hput⟩
  case silence =>
    intro s g a t hup hblot ha hdue happly
    have henter := enterBlotter_spec (s := s.tick t) (g := g) (cause := blotSilence) (by rw [fc_tick]; exact hblot) (by decide)
    rw [fget_tick, fc_tick] at henter
    exact ⟨_, exec_silenceTimeout t hup ha hdue happly, henter⟩
  case halt =>
    intro s g t hup hblot
    have henter := enterBlotter_spec (s := s.tick t) (g := g) (cause := blotHalt) (by rw [fc_tick]; exact hblot) (by decide)
    rw [fget_tick, fc_tick] at henter
    exact ⟨_, exec_haltReceived t hup, henter⟩

end Sys2Proof.Machine
end

section
/-! PROOF. The frames of the field links (R198, R208 to R221): a field-to-logic frame whose edge releases an event task can
leave FIO_LINK.SET at another value than the frame's, where the folio names a ductus number beyond those of R158. -/

namespace Sys2Proof.Machine

open State

/-- An event task bound to channel 0, both polarities, whose register TASK_STAT in lane A lies at FIO_LINK of group 0. -/
def strayTask : TaskRec :=
  { task := 0xFFF1, event := true, priority := 0, ep := 0, limit := 0, source := 1, polarity := 3, period := 0, phase := 0
    deadline := 0, selector := 0, codeOff := 0, codeLen := 0 }

theorem taskStat_strayTask : R.TASK_STAT .a strayTask.task = R.FIO_LINK .g0 := rfl

def strayFolio : Folio :=
  { autostart := false, narrowRefuse := false, loadLimit := 0, keySlot := 0, rbIndex := 0, rbValue := 0, id := [], segSize := []
    tasks := [strayTask], code := [], vars := [], insts := [], init := [], io := [], tg := [], out := [], ssmDecl := [], message := [] }

/-- Mode RUN with lane A voting and `strayFolio` running. -/
def strayState : State :=
  { (State.reset.fput F.VOTE_CTRL_MODE 1).fput (F.LANE_STATE_STATE .a) 5 with folio := { folioReset with running := some strayFolio } }

/-- The first 280 bytes of a field-to-logic frame: a rising edge at position 0, SET 0 and every other byte 0 (R217, R218). -/
def edgeBody : List Byte := leBytes 1 0xC2 ++ zeros 55 ++ leBytes 1 0x80 ++ zeros 223

def edgeFrame : List Byte := edgeBody ++ leBytes 4 (crc32c edgeBody).toNat

/-- A body of the frame's type and length with its check value is a good frame where any SEQ is (R212). -/
theorem frameGood_sealed {body : List Byte} {n type : Nat} (hlen : body.length = n) (htype : byteAt (body ++ leBytes 4 (crc32c body).toNat) 0 = type) :
    frameGood (body ++ leBytes 4 (crc32c body).toNat) (n + 4) type none = true := by
  have hcheck : leAt (body ++ leBytes 4 (crc32c body).toNat) n 4 = (crc32c body).toNat := by
    have hslice := slice_append_right (leBytes 4 (crc32c body).toNat) 0 4 hlen
    rw [leAt, ← Nat.add_zero n, hslice]
    exact leAt_leBytes (BitVec.isLt _)
  have hbody : (body ++ leBytes 4 (crc32c body).toNat).take n = body := by rw [← hlen, List.take_left]
  simp only [frameGood, List.length_append, hlen, leBytes_length, htype, Nat.add_sub_cancel, hcheck, hbody, beq_self_eq_true, Bool.true_and]
  rfl

theorem edgeFrame_good : frameGood edgeFrame 284 0xC2 (strayState.fioGrp .g0).rxSeq = true :=
  frameGood_sealed (n := 280) (by simp only [edgeBody, zeros, List.length_append, leBytes_length, List.length_replicate]) rfl

/-- FIO_LINK.SET of group 0 in the state that a command answers. -/
def linkSetAfter : Host.Outcome State Fault Refusal → Nat
  | .next v => v.fget (F.FIO_LINK_SET .g0)
  | _ => 0

set_option maxRecDepth 100000 in
/-- The event's release sets PENDING, bit 3 of `strayTask`'s TASK_STAT, and with it bit 3 of SET. -/
theorem linkSetAfter_edgeFrame : linkSetAfter (exec (.fieldToLogicFrame .g0 edgeFrame 0) strayState) = 8 := by
  have hgood : frameGood edgeFrame 284 0xC2 ((strayState.tick 0).fioGrp .g0).rxSeq = true := edgeFrame_good
  simp only [exec, execFieldToLogicFrame, hgood]
  decide

/-- Refutes O33: the frame's SET is 0 and FIO_LINK.SET reads 8 after it, since the statement lets a folio name any task and the
event of `strayTask` writes its TASK_STAT over FIO_LINK. -/
theorem not_fieldFramesCarryCommandsAndTheImage : ¬ Obligations.FieldFramesCarryCommandsAndTheImage := by
  unfold Obligations.FieldFramesCarryCommandsAndTheImage
  rintro ⟨-, -, -, -, -, -, -, -, hgood, -⟩
  obtain ⟨v, hexec, -, -, -, -, -, hset, -⟩ := hgood strayState .g0 edgeFrame 0 edgeFrame_good
  have hafter := linkSetAfter_edgeFrame
  rw [hexec] at hafter
  have hframe : byteAt edgeFrame 20 = 0 := by decide
  exact absurd (hafter.symm.trans (hset.trans hframe)) (by decide)

end Sys2Proof.Machine
end

section
/-! PROOF. The shadow set (R220 to R226): what replacing it, recording its result and discarding it change, and what of the
configuration in force they keep. -/

namespace Sys2Proof.Machine

open State

/-! ### The registers that show the set -/

/-- FIO_SHADOW of both groups. -/
def shadowRegs : List Nat := [R.FIO_SHADOW .g0, R.FIO_SHADOW .g1]

theorem shadow_mem (g : Grp) : R.FIO_SHADOW g ∈ shadowRegs := by cases g <;> decide

theorem shadow_not_answer (g : Grp) : R.FIO_SHADOW g ∉ answerRegs := by cases g <;> decide

theorem State.RegsOnly.refl (offs : List Nat) (s : State) : State.RegsOnly offs s s := ⟨rfl, fun _ _ => rfl⟩

theorem State.RegsOnly.fput {offs : List Nat} {s t : State} (h : State.RegsOnly offs s t) {f : Field} (v : Nat) (hf : f.off ∈ offs) :
    State.RegsOnly offs s (t.fput f v) :=
  (h.trans (State.fput_regsOnly t f v)).mono (List.append_subset.mpr ⟨List.Subset.refl _, List.cons_subset.mpr ⟨hf, List.nil_subset _⟩⟩)

theorem showSet_regsOnly (s : State) : State.RegsOnly shadowRegs s s.showSet := by
  refine foldl_keeps (P := fun u => State.RegsOnly shadowRegs s u) (fun u g hu => ?_) allGroups (RegsOnly.refl _ s)
  split
  · exact ((hu.fput (f := F.FIO_SHADOW_STATE g) _ (shadow_mem g)).fput (f := F.FIO_SHADOW_SET g) _ (shadow_mem g)).fput
      (f := F.FIO_SHADOW_RECORDS g) _ (shadow_mem g)
  · exact (hu.fput (f := F.FIO_SHADOW_STATE g) _ (shadow_mem g)).fput (f := F.FIO_SHADOW_RECORDS g) _ (shadow_mem g)

theorem putSet_fio (s : State) (z : Option ShadowSet) : (s.putSet z).fio = { s.fio with set := z } := by
  rw [State.putSet, (showSet_regsOnly _).1]

theorem putSet_frame (s : State) (z : Option ShadowSet) :
    s.putSet z = { s with fio := { s.fio with set := z }, regs := (s.putSet z).regs } := by
  unfold State.putSet
  conv_lhs => rw [(showSet_regsOnly _).1]

theorem regsKept_putSet (s : State) (z : Option ShadowSet) : State.RegsKept shadowRegs s (s.putSet z) :=
  fun a ha => (showSet_regsOnly { s with fio := { s.fio with set := z } }).2 a ha

theorem setResult_eq (s : State) (code : Nat) :
    s.setResult code = (s.fput (F.FIO_SHADOW_LAST_RESULT .g0) code).fput (F.FIO_SHADOW_LAST_RESULT .g1) code := rfl

theorem setResult_regsOnly (s : State) (code : Nat) : State.RegsOnly shadowRegs s (s.setResult code) :=
  ((RegsOnly.refl _ s).fput (f := F.FIO_SHADOW_LAST_RESULT .g0) code (shadow_mem .g0)).fput
    (f := F.FIO_SHADOW_LAST_RESULT .g1) code (shadow_mem .g1)

theorem fget_setResult (s : State) {code : Nat} (hc : code < 16) (g : Grp) :
    (s.setResult code).fget (F.FIO_SHADOW_LAST_RESULT g) = code := by
  have hfit : code % 2 ^ 4 = code := Nat.mod_eq_of_lt hc
  rw [setResult_eq]
  cases g
  · rw [fget_fput_other _ _ _ _ rfl rfl rfl, fget_fput_same _ _ _ rfl]
    exact hfit
  · rw [fget_fput_same _ _ _ rfl]
    exact hfit

/-! ### The configuration in force -/

theorem cfgOf_of_kept {offs : List Nat} {s t : State} (h : State.RegsKept offs s t) {ch : Nat}
    (hcfg : R.CH_CFG (grpOf ch) (posOf ch) ∉ offs) (htest : R.CH_TEST (grpOf ch) (posOf ch) ∉ offs) : t.cfgOf ch = s.cfgOf ch := by
  have hfget : ∀ f : Field, f.off = R.CH_CFG (grpOf ch) (posOf ch) ∨ f.off = R.CH_TEST (grpOf ch) (posOf ch) → t.fget f = s.fget f := by
    rintro f (hf | hf) <;> exact fget_of_reg (h _ (by rwa [hf]))
  simp only [State.cfgOf, hfget (F.CH_CFG_KIND _ _) (.inl rfl), hfget (F.CH_CFG_FLAGS _ _) (.inl rfl), hfget (F.CH_CFG_STOP _ _) (.inl rfl),
    hfget (F.CH_CFG_BLOTTER _ _) (.inl rfl), hfget (F.CH_CFG_FILTER _ _) (.inl rfl), hfget (F.CH_TEST_DARK_US _ _) (.inr rfl),
    hfget (F.CH_TEST_TEST_S _ _) (.inr rfl)]

/-- The registers of answers and of the set are not a channel's configuration. -/
theorem chRegs_apart (ch : Nat) : R.CH_CFG (grpOf ch) (posOf ch) ∉ shadowRegs ++ answerRegs ∧
    R.CH_TEST (grpOf ch) (posOf ch) ∉ shadowRegs ++ answerRegs := by
  have hpos : posOf ch < 128 := Nat.mod_lt _ (by decide)
  generalize posOf ch = p at hpos
  constructor <;> cases grpOf ch <;>
    simp only [shadowRegs, answerRegs, R.CH_CFG, R.CH_TEST, R.FIO_SHADOW, R.LOG_HEAD, R.QUILL_SESS, R.QUILL_ACCEPT, R.QUILL_REFUSE, Grp.idx,
      List.cons_append, List.nil_append, List.mem_cons, List.not_mem_nil, or_false] <;> omega

/-- A change that shows in the registers of the set and of answers keeps the configuration in force. -/
theorem cfgOf_of_setRegs {s t : State} (h : State.RegsKept (shadowRegs ++ answerRegs) s t) (ch : Nat) : t.cfgOf ch = s.cfgOf ch :=
  cfgOf_of_kept h (chRegs_apart ch).1 (chRegs_apart ch).2

theorem State.RegsKept.mono {as bs : List Nat} {s t : State} (h : State.RegsKept as s t) (hs : as ⊆ bs) : State.RegsKept bs s t :=
  fun a ha => h a fun hm => ha (hs hm)

theorem regsKept_of_shadow {s t : State} (h : State.RegsKept shadowRegs s t) : State.RegsKept (shadowRegs ++ answerRegs) s t :=
  h.mono (List.subset_append_left _ _)

theorem regsKept_of_answer {s t : State} (h : AnswerStep s t) : State.RegsKept (shadowRegs ++ answerRegs) s t := by
  obtain ⟨-, hregs, -⟩ := h
  exact hregs.mono (List.subset_append_right _ _)

/-! ### Discarding the set (R226) -/

theorem AnswerStep.fio {s t : State} (h : AnswerStep s t) : t.fio = s.fio := by
  obtain ⟨⟨_, _, _, _, _, _, rfl⟩, -⟩ := h
  rfl

/-- The set dropped and its result recorded, before the replies owed are given (R226). -/
def setDropped (s : State) (code : Nat) : State := (s.putSet none).setResult code

theorem setDropped_fio (s : State) (code : Nat) : (setDropped s code).fio = { s.fio with set := none } := by
  rw [setDropped, (setResult_regsOnly _ code).1, putSet_fio]

theorem regsKept_setDropped (s : State) (code : Nat) : State.RegsKept shadowRegs s (setDropped s code) :=
  (regsKept_putSet s none).trans (setResult_regsOnly _ code).2

theorem discardSet_eq {s : State} {z : ShadowSet} (status code : Nat) (hz : s.fio.set = some z) : s.discardSet status code =
    z.owed.foldl (fun u c => u.replyErr c opChConfig status noIndex) (setDropped s code) := by
  simp only [State.discardSet, hz, setDropped]

theorem answer_replyErrs (s : State) (op status index : Nat) (cs : List Cmd) :
    AnswerStep s (cs.foldl (fun u c => u.replyErr c op status index) s) :=
  AnswerStep.foldl (fun u c => (answers_reply u c op status _).1) cs s

/-- Each command of a list is answered with the status. -/
theorem repliedWith_replyErrs (op status index : Nat) {cs : List Cmd} {c : Cmd} (hc : c ∈ cs) (s : State) :
    (cs.foldl (fun u c => u.replyErr c op status index) s).repliedWith c op status := by
  induction cs generalizing s with
  | nil => exact absurd hc List.not_mem_nil
  | cons d ds ih =>
    obtain rfl | hmem := List.mem_cons.mp hc
    · exact (answer_replyErrs _ op status index ds).repliedWith (answers_reply s c op status _).repliedWith
    · exact ih hmem _

/-- A set that is discarded is gone, its result is recorded, the packets owed a reply have it, and the configuration in force
stays (R226). -/
theorem discardSet_spec {s : State} {z : ShadowSet} {code : Nat} (status : Nat) (hz : s.fio.set = some z) (hc : code < 16) :
    let v := s.discardSet status code
    v.fio = { s.fio with set := none } ∧ (∀ g, v.fget (F.FIO_SHADOW_LAST_RESULT g) = code) ∧
      (∀ c ∈ z.owed, v.repliedWith c opChConfig status) ∧ State.RegsKept (shadowRegs ++ answerRegs) s v := by
  have hanswer := answer_replyErrs (setDropped s code) opChConfig status noIndex z.owed
  rw [discardSet_eq status code hz]
  refine ⟨hanswer.fio.trans (setDropped_fio s code), fun g => ?_, fun c hmem => repliedWith_replyErrs _ _ _ hmem _,
    (regsKept_of_shadow (regsKept_setDropped s code)).trans (regsKept_of_answer hanswer)⟩
  exact (hanswer.fget (f := F.FIO_SHADOW_LAST_RESULT g) (shadow_not_answer g)).trans (fget_setResult _ hc g)

/-! ### The timeouts of a set -/

section

variable {s : State} {z : ShadowSet} {t : Nat}

theorem exec_shadowSetOpenTimeout (hz : s.fio.set = some z) (hopen : z.closedAt = none) (hdue : z.touchedAt + 10000000000 ≤ (s.tick t).now) :
    exec (.shadowSetOpenTimeout t) s = .next ((s.tick t).discardSet stAborted shDiscarded) := by
  have hdue' : z.touchedAt + sec10 ≤ (s.tick t).now := hdue
  simp [exec, execShadowSetOpenTimeout, hz, hopen, hdue']

theorem exec_shadowSetCompleteTimeout {a : Nat} (hz : s.fio.set = some z) (hclosed : z.closedAt = some a) (hopen : ¬ z.complete = true)
    (hdue : a + 10000000000 ≤ (s.tick t).now) :
    exec (.shadowSetCompleteTimeout t) s = .next ((s.tick t).discardSet stTimeout shTimeout) := by
  have hdue' : a + sec10 ≤ (s.tick t).now := hdue
  simp [exec, execShadowSetCompleteTimeout, hz, hclosed, hopen, hdue']

end

theorem exec_shadowSetOpenTimeout_early {s : State} {t : Nat}
    (h : s.fio.set.all (fun z => decide ((s.tick t).now < z.touchedAt + 10000000000)) = true) :
    exec (.shadowSetOpenTimeout t) s = .next (s.tick t) := by
  cases hz : s.fio.set with
  | none => simp only [exec, execShadowSetOpenTimeout, tick_fio, hz]
  | some z =>
    rw [hz, Option.all_some] at h
    have hearly : ¬ z.touchedAt + sec10 ≤ (s.tick t).now := by
      rw [sec10]
      exact Nat.not_le.mpr (of_decide_eq_true h)
    simp [exec, execShadowSetOpenTimeout, hz, hearly]

theorem exec_shadowSetCompleteTimeout_complete {s : State} {t : Nat} (h : s.fio.set.all (fun z => z.complete) = true) :
    exec (.shadowSetCompleteTimeout t) s = .next (s.tick t) := by
  cases hz : s.fio.set with
  | none => simp only [exec, execShadowSetCompleteTimeout, tick_fio, hz]
  | some z =>
    have hcomplete : z.complete = true := by simpa [hz] using h
    cases ha : z.closedAt <;> simp [exec, execShadowSetCompleteTimeout, hz, ha, hcomplete]

end Sys2Proof.Machine
end

section
/-! PROOF. CH_CONFIG: the packet and its check (R194 to R197, R405), and whom an accepted packet answers (R221, R226). -/

namespace Sys2Proof.Machine

open State

/-! ### Packets -/

/-- A packet without records: its FLAGS byte alone. -/
theorem emptySet_head {c : Cmd} {b : Byte} (hp : c.params = b :: zeros 7) : setLenOk c 16 = true ∧ setRecs c 16 = [] ∧
    setLast c = natBit b.toNat 0 ∧ setDiscard c = natBit b.toNat 1 ∧
    setHeadOk c 32 = (decide (b.toNat < 4) && !(natBit b.toNat 1 && natBit b.toNat 0)) := by
  have hcount : setCount c = 0 := by rw [setCount, hp]; rfl
  have hbyte : byteAt c.params 0 = b.toNat := by rw [hp]; rfl
  have hlen : c.params.length = 8 := by rw [hp]; rfl
  have hzero : byteAt c.params 1 = 0 ∧ allZero (slice c.params 4 4) = true := by rw [hp]; exact ⟨rfl, rfl⟩
  obtain ⟨hreserved, hrest⟩ := hzero
  refine ⟨?_, ?_, ?_, ?_, ?_⟩
  · simp [setLenOk, hlen, hcount]
  · rw [setRecs, hcount]; rfl
  · rw [setLast, hbyte]
  · rw [setDiscard, hbyte]
  · simp [setHeadOk, setDiscard, setLast, hbyte, hcount, hreserved, hrest]

/-- A packet of one record, neither LAST nor DISCARD. -/
structure OneRecord (c : Cmd) (r : List Byte) : Prop where
  lenOk : setLenOk c 16 = true
  recs : setRecs c 16 = [r]
  notLast : setLast c = false
  notDiscard : setDiscard c = false
  headOk : setHeadOk c 32 = true

theorem oneRecord_of_params {c : Cmd} {r : List Byte} (hp : c.params = zeros 2 ++ (leBytes 2 1 ++ (zeros 4 ++ r))) (hr : r.length = 16) :
    OneRecord c r := by
  have hp' : c.params = [0, 0, 1, 0, 0, 0, 0, 0] ++ r := hp
  have hcount : setCount c = 1 := by rw [setCount, hp']; rfl
  have hbyte : byteAt c.params 0 = 0 ∧ byteAt c.params 1 = 0 ∧ allZero (slice c.params 4 4) = true := by
    rw [hp']; exact ⟨rfl, rfl, rfl⟩
  obtain ⟨hflags, hreserved, hrest⟩ := hbyte
  have hlast : setLast c = false := by rw [setLast, hflags]; rfl
  have hdiscard : setDiscard c = false := by rw [setDiscard, hflags]; rfl
  refine ⟨?_, ?_, hlast, hdiscard, ?_⟩
  · simp [setLenOk, hcount, hp', hr]
  · have hdrop : c.params.drop 8 = r := by rw [hp']; rfl
    rw [setRecs, hcount, hdrop]
    cases r with
    | nil => cases hr
    | cons b bs =>
      have htake : (b :: bs).take 16 = b :: bs := List.take_of_length_le (Nat.le_of_eq hr)
      show (b :: bs).take 16 :: chunks 16 0 _ = [b :: bs]
      rw [htake]
      rfl
  · simp [setHeadOk, hflags, hreserved, hrest, hcount, hdiscard]

/-! ### CH_CONFIG's own check -/

/-- A set that is closed. -/
def setClosed (s : State) : Bool := match s.fio.set with | some z => z.closedAt.isSome | none => false

theorem chConfigOwn_oneRecord {c : Cmd} {r : List Byte} (h : OneRecord c r) (s : State) : chConfigOwn c s =
    if cfgRecOk r then (if setClosed s then .refuse stBusy noIndex else .accept) else .refuse stBadParam 0 := by
  simp only [chConfigOwn, h.headOk, h.recs, h.notDiscard, firstBad, refuseIf, Bool.not_true, Bool.false_eq_true, if_false, Bool.not_false,
    Bool.true_and]
  by_cases hok : cfgRecOk r = true
  · rw [if_pos hok, if_pos hok]
    rfl
  · rw [if_neg hok, if_neg hok]
    rfl

theorem chConfigOwn_last {c : Cmd} (hp : c.params = 1 :: zeros 7) (s : State) :
    chConfigOwn c s = if setClosed s then .refuse stBusy noIndex else .accept := by
  obtain ⟨-, hrecs, -, hdiscard, hhead⟩ := emptySet_head hp
  have hhead' : setHeadOk c 32 = true := hhead
  have hdiscard' : setDiscard c = false := hdiscard
  simp only [chConfigOwn, hhead', hrecs, hdiscard', firstBad, refuseIf, Bool.not_true, Bool.false_eq_true, if_false, Bool.not_false, Bool.true_and]
  rfl

theorem chConfigOwn_discard {c : Cmd} (hp : c.params = 2 :: zeros 7) (s : State) : chConfigOwn c s = .accept := by
  obtain ⟨-, hrecs, -, hdiscard, hhead⟩ := emptySet_head hp
  have hhead' : setHeadOk c 32 = true := hhead
  have hdiscard' : setDiscard c = true := hdiscard
  simp only [chConfigOwn, hhead', hrecs, hdiscard', firstBad, refuseIf, Bool.not_true, Bool.false_eq_true, if_false, Bool.false_and]

theorem setClosed_touch (s : State) (t id : Nat) : setClosed ((s.tick t).touch id) = setClosed s := by
  rw [setClosed, (answer_touch _ id).fio, tick_fio]
  rfl

theorem setClosed_of_set {s : State} {z : ShadowSet} (hz : s.fio.set = some z) : setClosed s = z.closedAt.isSome := by
  rw [setClosed, hz]

theorem setClosed_of_all {s : State} (h : s.fio.set.all (fun z => z.closedAt.isNone) = true) : setClosed s = false := by
  cases hz : s.fio.set with
  | none => rw [setClosed, hz]
  | some z =>
    rw [setClosed_of_set hz]
    simpa [hz] using h

/-! ### What acceptance leaves of the field interface -/

theorem taken_fio (s : State) (c : Cmd) (op t : Nat) : ((s.tick t).taken c op).fio = s.fio := by
  rw [(answer_taken _ c op).fio, tick_fio]

theorem taken_now (s : State) (c : Cmd) (op t : Nat) : ((s.tick t).taken c op).now = (s.tick t).now := (answer_taken _ c op).now

theorem regsKept_taken (s : State) (c : Cmd) (op t : Nat) :
    State.RegsKept (shadowRegs ++ answerRegs) s ((s.tick t).taken c op) :=
  (RegsKept.of_regs (tick_regs s t)).trans (regsKept_of_answer (answer_taken _ c op))

/-! ### Replies that leave out one command -/

/-- From `s` to `t` no reply to `c` is queued, and no fence is added. -/
def NoReplyTo (c : Cmd) (s t : State) : Prop :=
  (∀ x ∈ t.quill.replies, x.cmd = c → x ∈ s.quill.replies) ∧ t.ductus.fences ⊆ s.ductus.fences

namespace NoReplyTo

variable {c : Cmd} {s t u : State}

theorem of_eq (hr : t.quill.replies = s.quill.replies) (hf : t.ductus.fences = s.ductus.fences) : NoReplyTo c s t := by
  refine ⟨fun x hx _ => ?_, ?_⟩
  · rwa [hr] at hx
  · rw [hf]; exact List.Subset.refl _

theorem refl (c : Cmd) (s : State) : NoReplyTo c s s := of_eq rfl rfl

theorem trans (h : NoReplyTo c s t) (h' : NoReplyTo c t u) : NoReplyTo c s u :=
  ⟨fun x hx hxc => h.1 x (h'.1 x hx hxc) hxc, List.Subset.trans h'.2 h.2⟩

theorem pushReply (s : State) {k : Cmd} (op status : Nat) (params : List Byte) (lane : Bool) (hk : k ≠ c) :
    NoReplyTo c s (s.pushReply k op status params lane) := by
  obtain ⟨u, r, hpush, hu, hr, -⟩ := pushReply_cases s k op status params lane
  have hkept : u.quill.replies = s.quill.replies ∧ u.ductus.fences = s.ductus.fences := by
    obtain rfl | ⟨id, rfl⟩ | ⟨y, rfl⟩ := hu
    · exact ⟨rfl, rfl⟩
    · unfold State.endSession
      split
      · exact ⟨rfl, rfl⟩
      · dsimp only
        split <;> exact ⟨rfl, rfl⟩
    · exact ⟨rfl, rfl⟩
  obtain ⟨hreplies, hfences⟩ := hkept
  rw [hpush]
  refine ⟨fun x hx hxc => ?_, by rw [← hfences]; exact List.Subset.refl _⟩
  obtain hold | hnew := List.mem_append.mp hx
  · rwa [hreplies] at hold
  · rw [List.mem_singleton.mp hnew, hr] at hxc
    exact absurd hxc hk

theorem replyLane (s : State) {k : Cmd} (op status : Nat) (params : List Byte) (hk : k ≠ c) :
    NoReplyTo c s (s.replyLane k op status params) :=
  ((of_eq rfl rfl : NoReplyTo c s (s.log 0x0002 codeVote (cmdDetail s k op status))).trans
    (pushReply _ op status params true hk)).trans (of_eq rfl rfl)

/-- QUEUE fences are answered to their own commands. -/
theorem settleQueueFences (s : State) (hf : ∀ f ∈ s.ductus.fences, f.cmd ≠ c) : NoReplyTo c s s.settleQueueFences := by
  refine foldl_keeps_mem (P := fun u => NoReplyTo c s u) s.ductus.fences (fun u f hmem hu => ?_) (refl c s)
  split
  · have hdrop : NoReplyTo c u { u with ductus := { u.ductus with fences := u.ductus.fences.filter (· != f) } } :=
      ⟨fun x hx _ => hx, fun x hx => List.mem_of_mem_filter hx⟩
    exact (hu.trans hdrop).trans (replyLane _ opFence stOk _ (hf f hmem))
  · exact hu

theorem reply (s : State) {k : Cmd} (op status : Nat) (params : List Byte) (hk : k ≠ c) (hf : ∀ f ∈ s.ductus.fences, f.cmd ≠ c) :
    NoReplyTo c s (s.reply k op status params) := by
  have hlane := replyLane s op status params hk
  exact hlane.trans (settleQueueFences _ fun f hmem => hf f (hlane.2 hmem))

end NoReplyTo

/-- The packets whose records have been replaced are answered, and not the one that replaces them (R197, R221). -/
theorem answerReplaced_spec (s : State) (old : List ShadowRec) (c : Cmd) : AnswerStep s (s.answerReplaced old c) ∧
    ((∀ f ∈ s.ductus.fences, f.cmd ≠ c) → NoReplyTo c s (s.answerReplaced old c)) := by
  refine ⟨AnswerStep.foldl (fun u k => answer_replyOk u k opChConfig) _ s, fun hf => ?_⟩
  refine foldl_keeps_mem (P := fun u => NoReplyTo c s u) _ (fun u k hk hu => ?_) (NoReplyTo.refl c s)
  have hother : k ≠ c := by
    have hkeep := (List.mem_filter.mp hk).2
    simp only [Bool.and_eq_true, bne_iff_ne] at hkeep
    exact hkeep.2
  exact hu.trans (NoReplyTo.reply u opChConfig stOk [] hother fun f hmem => hf f (hu.2 hmem))

end Sys2Proof.Machine
end

section
/-! PROOF. CH_CONFIG's effect (R196, R197, R220, R221, R226), the take-over of a set (R222), and the obligation about them. -/

namespace Sys2Proof.Machine

open State

/-! ### The check of R197 reads the configuration in force alone -/

theorem banksUsed_apart (g : Grp) : R.FIO_GRPCFG g ∉ shadowRegs ++ answerRegs := by cases g <;> decide

theorem setOk_of_setRegs {s t : State} (h : State.RegsKept (shadowRegs ++ answerRegs) s t) (rs : List (List Byte)) : t.setOk rs = s.setOk rs := by
  have hcfg : t.cfgWith rs = s.cfgWith rs := funext fun ch => by simp only [State.cfgWith, cfgOf_of_setRegs h]
  have hbanks : t.banksWith rs = s.banksWith rs := funext fun g => by
    simp only [State.banksWith, fget_of_reg (f := F.FIO_GRPCFG_BANKS_USED g) (h _ (banksUsed_apart g))]
  simp only [State.setOk, hcfg, hbanks]

/-! ### An accepted packet joins the set -/

/-- The record of a packet accepted at instant `a`, as the set keeps it. -/
def newRec (c : Cmd) (r : List Byte) (a : Nat) : ShadowRec := ⟨recGrp r, r, some c, gridUp (a + us20), none, false⟩

section

variable {c : Cmd} {u : State} {z : ShadowSet} {a : Nat}

/-- A new set is empty and open; no reply is given (R220). -/
theorem openSet_spec (u : State) (rearm : Option Grp) (c : Cmd) :
    (u.openSet rearm).fio.set = some ⟨u.setNum, [], none, none, u.now, false, rearm⟩ ∧ State.RegsKept shadowRegs u (u.openSet rearm) ∧
      NoReplyTo c u (u.openSet rearm) := by
  have hframe := putSet_frame { u with fio := { u.fio with nextSet := some ((u.setNum + 1) % 256) } }
    (some ⟨u.setNum, [], none, none, u.now, false, rearm⟩)
  exact ⟨by rw [State.openSet, putSet_fio], State.RegsKept.trans (State.RegsKept.of_regs rfl) (regsKept_putSet _ _),
    NoReplyTo.of_eq (by rw [State.openSet, hframe]) (by rw [State.openSet, hframe])⟩

/-- Without a set, a packet other than DISCARD does what it does to a set just opened (R220). -/
theorem chConfigEffect_opens (hd : setDiscard c = false) (hz : u.fio.set = none) :
    chConfigEffect c u a = chConfigEffect c (u.openSet none) a := by
  obtain ⟨hset, -, -⟩ := openSet_spec u none c
  simp [chConfigEffect, hd, hz, hset]

theorem chConfigEffect_oneRecord {r : List Byte} (h : OneRecord c r) (hz : u.fio.set = some z) : chConfigEffect c u a =
    (u.putSet (some { z with recs := joinRecs z.recs [newRec c r a], touchedAt := u.now })).answerReplaced z.recs c := by
  simp [chConfigEffect, h.notDiscard, h.notLast, h.recs, hz, newRec]

theorem chConfigEffect_last (hp : c.params = 1 :: zeros 7) (hz : u.fio.set = some z) : chConfigEffect c u a =
    if u.setOk (z.recs.map (·.bytes)) then
      (u.putSet (some { z with touchedAt := u.now, last := some c, closedAt := some u.now })).answerReplaced z.recs c
    else ((u.discardSet stAborted shBad).setResult shBad).replyErr c opChConfig stBadParam noIndex := by
  obtain ⟨-, hrecs, hlast, hdiscard, -⟩ := emptySet_head hp
  have hlast' : setLast c = true := hlast
  have hdiscard' : setDiscard c = false := hdiscard
  by_cases hok : u.setOk (z.recs.map (·.bytes)) = true <;> simp [chConfigEffect, hdiscard', hlast', hrecs, hz, joinRecs, hok]

theorem chConfigEffect_discard (hp : c.params = 2 :: zeros 7) :
    chConfigEffect c u a = (u.discardSet stAborted shDiscarded).replyOk c opChConfig := by
  obtain ⟨-, -, -, hdiscard, -⟩ := emptySet_head hp
  have hdiscard' : setDiscard c = true := hdiscard
  simp [chConfigEffect, hdiscard']

/-- A set put in place, and the packets whose records it no longer holds answered. -/
theorem putSet_answered (u : State) (z : ShadowSet) (old : List ShadowRec) (c : Cmd) :
    let v := (u.putSet (some z)).answerReplaced old c
    v.fio = { u.fio with set := some z } ∧ State.RegsKept (shadowRegs ++ answerRegs) u v ∧
      ((∀ f ∈ u.ductus.fences, f.cmd ≠ c) → NoReplyTo c u v) := by
  obtain ⟨hanswer, hsilent⟩ := answerReplaced_spec (u.putSet (some z)) old c
  have hframe := putSet_frame u (some z)
  have hput : NoReplyTo c u (u.putSet (some z)) := NoReplyTo.of_eq (by rw [hframe]) (by rw [hframe])
  refine ⟨hanswer.fio.trans (putSet_fio u _), (regsKept_of_shadow (regsKept_putSet u _)).trans (regsKept_of_answer hanswer), fun hf => ?_⟩
  exact hput.trans (hsilent fun f hmem => hf f (hput.2 hmem))

/-- The set discarded with a result, and the packet that had it discarded answered (R197, R226). -/
def SetDiscarded (c : Cmd) (code status : Nat) (s v : State) : Prop :=
  v.fio = { s.fio with set := none } ∧ (∀ g, v.fget (F.FIO_SHADOW_LAST_RESULT g) = code) ∧ v.repliedWith c opChConfig status ∧
    State.RegsKept (shadowRegs ++ answerRegs) s v

theorem setDiscarded_reply {w : State} {code : Nat} (hfio : w.fio = { u.fio with set := none })
    (hresult : ∀ g, w.fget (F.FIO_SHADOW_LAST_RESULT g) = code) (hregs : State.RegsKept (shadowRegs ++ answerRegs) u w)
    (c : Cmd) (status : Nat) (params : List Byte) : SetDiscarded c code status u (w.reply c opChConfig status params) := by
  have hreply := answers_reply w c opChConfig status params
  obtain ⟨hanswer, -⟩ := id hreply
  exact ⟨hanswer.fio.trans hfio, fun g => (hanswer.fget (f := F.FIO_SHADOW_LAST_RESULT g) (shadow_not_answer g)).trans (hresult g),
    hreply.repliedWith, hregs.trans (regsKept_of_answer hanswer)⟩

/-- DISCARD (R226). -/
theorem chConfigEffect_discard_spec (hp : c.params = 2 :: zeros 7) (hz : u.fio.set = some z) :
    SetDiscarded c shDiscarded stOk u (chConfigEffect c u a) := by
  obtain ⟨hfio, hresult, -, hregs⟩ := discardSet_spec (code := shDiscarded) stAborted hz (by decide)
  rw [chConfigEffect_discard hp]
  exact setDiscarded_reply hfio hresult hregs c stOk _

/-- LAST for a set that does not pass the check (R197). -/
theorem chConfigEffect_bad_spec (hp : c.params = 1 :: zeros 7) (hz : u.fio.set = some z) (hbad : ¬ u.setOk (z.recs.map (·.bytes)) = true) :
    SetDiscarded c shBad stBadParam u (chConfigEffect c u a) := by
  obtain ⟨hfio, -, -, hregs⟩ := discardSet_spec (code := shBad) stAborted hz (by decide)
  have hrecord := setResult_regsOnly (u.discardSet stAborted shBad) shBad
  rw [chConfigEffect_last hp hz, if_neg hbad]
  refine setDiscarded_reply ?_ (fget_setResult _ (by decide)) (hregs.trans (regsKept_of_shadow hrecord.2)) c stBadParam _
  rw [hrecord.1, hfio]

end

/-! ### The take-over -/

/-- The fields of a channel's configuration hold it. -/
structure ChanCfg.Fits (k : ChanCfg) : Prop where
  kind : k.kind < 2 ^ 4
  flags : k.flags < 2 ^ 8
  stop : k.stop < 2 ^ 2
  blotter : k.blotter < 2 ^ 2
  filter : k.filter < 2 ^ 8
  darkUs : k.darkUs < 2 ^ 16
  testS : k.testS < 2 ^ 16

theorem byteAt_lt (bs : List Byte) (off : Nat) : byteAt bs off < 256 := BitVec.isLt _

theorem leNat_lt : ∀ bs : List Byte, leNat bs < 256 ^ bs.length
  | [] => by decide
  | b :: bs => by
    have hb : b.toNat < 256 := b.isLt
    have htail := leNat_lt bs
    rw [List.length_cons, Nat.pow_succ, leNat]
    omega

theorem leAt_lt (bs : List Byte) (off n : Nat) : leAt bs off n < 256 ^ n :=
  Nat.lt_of_lt_of_le (leNat_lt _) (Nat.pow_le_pow_right (by decide) (List.length_take_le _ _))

/-- A record of a channel that passes the check of R196 fits the fields. -/
theorem fits_of_cfgRecOk {r : List Byte} (h : cfgRecOk r = true) (hk : byteAt r 1 ≠ kGroup) : (cfgOfRec r).Fits := by
  have hgroup : (byteAt r 1 == kGroup) = false := beq_false_of_ne hk
  rw [cfgRecOk, hgroup, if_neg Bool.false_ne_true] at h
  simp only [chanRecOk, Bool.and_eq_true, decide_eq_true_eq] at h
  obtain ⟨⟨⟨⟨⟨⟨⟨⟨hkind, -⟩, hflags⟩, hstop⟩, hblotter⟩, -⟩, -⟩, -⟩, -⟩ := h
  exact ⟨by omega, by omega, by omega, by omega, byteAt_lt r 5, leAt_lt r 6 2, leAt_lt r 8 2⟩

theorem cfg_test_apart (g : Grp) (p : Nat) : R.CH_CFG g p ≠ R.CH_TEST g p := by simp only [R.CH_CFG, R.CH_TEST]; omega

/-- A configuration put into its fields reads back. -/
theorem cfgOf_putCfg {k : ChanCfg} (h : k.Fits) (s : State) (ch : Nat) : (s.putCfg ch k).cfgOf ch = k := by
  obtain ⟨hkind, hflags, hstop, hblotter, hfilter, hdark, htest⟩ := h
  have happart := cfg_test_apart (grpOf ch) (posOf ch)
  simp (disch := simp [fieldOk, bitsApart, F.CH_CFG_KIND, F.CH_CFG_FLAGS, F.CH_CFG_STOP, F.CH_CFG_BLOTTER, F.CH_CFG_FILTER,
    F.CH_TEST_DARK_US, F.CH_TEST_TEST_S, happart, happart.symm]) only [State.cfgOf, State.putCfg, fget_fput_same, fget_fput_other]
  simp only [F.CH_CFG_KIND, F.CH_CFG_FLAGS, F.CH_CFG_STOP, F.CH_CFG_BLOTTER, F.CH_CFG_FILTER, F.CH_TEST_DARK_US, F.CH_TEST_TEST_S]
  cases k
  simp only [ChanCfg.mk.injEq]
  exact ⟨Nat.mod_eq_of_lt hkind, Nat.mod_eq_of_lt hflags, Nat.mod_eq_of_lt hstop, Nat.mod_eq_of_lt hblotter, Nat.mod_eq_of_lt hfilter,
    Nat.mod_eq_of_lt hdark, Nat.mod_eq_of_lt htest⟩

/-- The registers other than a channel's own that a take-over changes. -/
def takeRegs : List Nat := [R.FIO_BLOTTER .g0, R.FIO_BLOTTER .g1] ++ shadowRegs

theorem chRegs_not_take (ch : Nat) : R.CH_CFG (grpOf ch) (posOf ch) ∉ takeRegs ∧ R.CH_TEST (grpOf ch) (posOf ch) ∉ takeRegs := by
  have hpos : posOf ch < 128 := Nat.mod_lt _ (by decide)
  generalize posOf ch = p at hpos
  constructor <;> cases grpOf ch <;>
    simp only [takeRegs, shadowRegs, R.CH_CFG, R.CH_TEST, R.FIO_SHADOW, R.FIO_BLOTTER, Grp.idx,
      List.cons_append, List.nil_append, List.mem_cons, List.not_mem_nil, or_false] <;> omega

theorem regsKept_advanceGen (offs : List Nat) (s : State) : State.RegsKept offs s s.advanceGen := by
  refine State.RegsKept.of_regs ?_
  unfold State.advanceGen
  split <;> rfl

theorem advanceGen_fio (s : State) : s.advanceGen.fio = s.fio := by
  unfold State.advanceGen
  split <;> rfl

theorem completeSet_of_complete {s : State} {z : ShadowSet} (hz : s.fio.set = some z) (hc : z.complete = true) : s.completeSet = s := by
  simp [State.completeSet, hz, hc]

/-- A complete set with one record is taken over: its record is put into its registers, and the set is gone (R222). -/
theorem takeSet_spec {s : State} {z : ShadowSet} {x : ShadowRec} (hz : s.fio.set = some z) (hc : z.complete = true) (hrecs : z.recs = [x])
    (hrun : ¬ s.flag F.VOTE_CTRL_FAILED = true) :
    (∃ u, State.RegsKept takeRegs (State.takeRec u x.bytes) s.takeSet) ∧ s.takeSet.fio.set = none := by
  have hguard : (!z.complete || s.flag F.VOTE_CTRL_FAILED) = false := by simp [hc, hrun]
  simp only [State.takeSet, completeSet_of_complete hz hc, hz, hguard, Bool.false_eq_true, if_false, hrecs, List.foldl_cons, List.foldl_nil]
  generalize List.foldl _ s _ = u
  have hrest : ∀ w : State, State.RegsKept takeRegs w ((w.putSet none).setResult shTaken).advanceGen ∧
      ((w.putSet none).setResult shTaken).advanceGen.fio.set = none := fun w => by
    have hdrop : State.RegsKept takeRegs w (setDropped w shTaken) := (regsKept_setDropped w shTaken).mono (List.subset_append_right _ _)
    refine ⟨hdrop.trans (regsKept_advanceGen _ _), ?_⟩
    rw [advanceGen_fio]
    exact congrArg FioState.set (setDropped_fio w shTaken)
  refine ⟨⟨u, ?_⟩, (hrest _).2⟩
  refine State.RegsKept.trans ?_ (hrest _).1
  cases z.rearm with
  | none => exact State.RegsKept.of_regs rfl
  | some g => exact State.RegsKept.trans (State.RegsKept.of_regs rfl) (State.RegsKept.fput _ (f := F.FIO_BLOTTER_REARMS g) _ (by cases g <;> decide))

theorem cfgOf_takeSet {s : State} {z : ShadowSet} {x : ShadowRec} (hz : s.fio.set = some z) (hc : z.complete = true) (hrecs : z.recs = [x])
    (hrun : ¬ s.flag F.VOTE_CTRL_FAILED = true) (hok : cfgRecOk x.bytes = true) (hk : byteAt x.bytes 1 ≠ kGroup) :
    s.takeSet.cfgOf (byteAt x.bytes 0) = cfgOfRec x.bytes := by
  obtain ⟨⟨u, hregs⟩, -⟩ := takeSet_spec hz hc hrecs hrun
  obtain ⟨hcfg, htest⟩ := chRegs_not_take (byteAt x.bytes 0)
  have htaken : u.takeRec x.bytes = u.putCfg (byteAt x.bytes 0) (cfgOfRec x.bytes) := by
    rw [State.takeRec, beq_false_of_ne hk, if_neg Bool.false_ne_true]
  rw [cfgOf_of_kept hregs hcfg htest, htaken, cfgOf_putCfg (fits_of_cfgRecOk hok hk)]

/-! ### The commands -/

section

variable {s : State} {c : Cmd} {t : Nat} (had : (s.tick t).admits c lvlEngineer = true)
include had

theorem exec_chConfig_accepts (hlen : setLenOk c 16 = true) (hown : chConfigOwn c ((s.tick t).touch c.session) = .accept) :
    exec (.chConfig c t) s = .next (chConfigEffect c ((s.tick t).taken c opChConfig) (s.tick t).now) :=
  congrArg Host.Outcome.next (runLane_accepts had hlen hown)

theorem exec_chConfigDiscard_accepts (hp : c.params = 2 :: zeros 7) :
    exec (.chConfigDiscard c t) s = .next (chConfigEffect c ((s.tick t).taken c opChConfig) (s.tick t).now) :=
  congrArg Host.Outcome.next (runLane_accepts had (emptySet_head hp).1 (chConfigOwn_discard hp _))

/-- A CH_CONFIG that its own check refuses is answered, and the field interface stays. -/
theorem chConfig_refused {status index : Nat} (hlen : setLenOk c 16 = true)
    (hown : chConfigOwn c ((s.tick t).touch c.session) = .refuse status index) :
    Completes (.chConfig c t) s fun v => v.repliedWith c opChConfig status ∧ v.fio = s.fio := by
  obtain ⟨hstep, hreplied⟩ := runLane_refused_spec (op := opChConfig) (effect := chConfigEffect c) had hlen hown (by decide) (by decide)
  exact ⟨_, rfl, hreplied, hstep.fio.trans (tick_fio s t)⟩

end

section

variable {s : State} {c : Cmd}

/-- What a packet does to a set after its acceptance, told of the state before. -/
theorem SetDiscarded.of_taken {t code status : Nat} {v : State} (h : SetDiscarded c code status ((s.tick t).taken c opChConfig) v) :
    SetDiscarded c code status s v := by
  obtain ⟨hfio, hresult, hreplied, hregs⟩ := h
  exact ⟨by rw [hfio, taken_fio], hresult, hreplied, (regsKept_taken s c opChConfig t).trans hregs⟩

/-- A record joins an open set, in place of an earlier one for the same channel or group, without a reply (R220, R221). -/
theorem record_joins {u : State} {z : ShadowSet} {r : List Byte} {a : Nat} (h : OneRecord c r) (hz : u.fio.set = some z)
    (hopen : z.closedAt = none) (hregs : State.RegsKept (shadowRegs ++ answerRegs) s u) (hquiet : NoReplyTo c s u)
    (hf : ∀ f ∈ s.ductus.fences, f.cmd ≠ c) :
    let v := chConfigEffect c u a
    ∃ y, v.fio.set = some y ∧ y.closedAt = none ∧ y.recs = joinRecs z.recs [newRec c r a] ∧
      (∀ ch, v.cfgOf ch = s.cfgOf ch) ∧ ∀ x ∈ v.quill.replies, x.cmd = c → x ∈ s.quill.replies := by
  rw [chConfigEffect_oneRecord h hz]
  obtain ⟨hfio, hkept, hsilent⟩ :=
    putSet_answered u { z with recs := joinRecs z.recs [newRec c r a], touchedAt := u.now } z.recs c
  obtain ⟨hnone, -⟩ := hquiet.trans (hsilent fun f hmem => hf f (hquiet.2 hmem))
  exact ⟨_, congrArg FioState.set hfio, hopen, rfl, cfgOf_of_setRegs (hregs.trans hkept), hnone⟩

end

/-- Settles O34: the set is followed through each command that can change it. Acceptance and answers leave the field interface,
and neither they nor the set's own registers are a channel's configuration; only the take-over writes that. -/
theorem channelSetsAreGatheredAndTakenOver : Obligations.ChannelSetsAreGatheredAndTakenOver := by
  unfold Obligations.ChannelSetsAreGatheredAndTakenOver
  refine ⟨?record, ?badRecord, ?busy, ?last, ?bad, ?discard, ?openTimeout, ?completeTimeout, fun s t h => exec_shadowSetOpenTimeout_early h,
    fun s t h => exec_shadowSetCompleteTimeout_complete h, ?take⟩
  case record =>
    intro s c r t had hp hr hok hopen hf
    have hone := oneRecord_of_params hp hr
    have hown : chConfigOwn c ((s.tick t).touch c.session) = .accept := by
      rw [chConfigOwn_oneRecord hone, setClosed_touch, setClosed_of_all hopen, if_pos hok, if_neg Bool.false_ne_true]
    refine ⟨_, exec_chConfig_accepts had hone.lenOk hown, ?_⟩
    have hregs := regsKept_taken s c opChConfig t
    have hfio := congrArg FioState.set (taken_fio s c opChConfig t)
    have hquiet : NoReplyTo c s ((s.tick t).taken c opChConfig) :=
      NoReplyTo.of_eq (taken_tick_replies s c opChConfig t) (by rw [taken_tick_ductus])
    generalize (s.tick t).taken c opChConfig = u at hregs hfio hquiet ⊢
    cases hz : s.fio.set with
    | some z =>
      rw [hz] at hopen
      exact record_joins hone (hfio.trans hz) (by simpa using hopen) hregs hquiet hf
    | none =>
      rw [chConfigEffect_opens hone.notDiscard (hfio.trans hz)]
      obtain ⟨hset, hkept, hopened⟩ := openSet_spec u none c
      exact record_joins hone hset rfl (hregs.trans (regsKept_of_shadow hkept)) (hquiet.trans hopened) hf
  case badRecord =>
    intro s c r t had hp hr hbad
    have hone := oneRecord_of_params hp hr
    exact chConfig_refused had hone.lenOk (by rw [chConfigOwn_oneRecord hone, if_neg hbad])
  case busy =>
    intro s c z t had hp hz hclosed
    refine chConfig_refused (index := noIndex) had (emptySet_head hp).1 ?_
    rw [chConfigOwn_last hp, setClosed_touch, setClosed_of_set hz, if_pos hclosed]
  case last =>
    intro s c z t had hp hz hopen hok
    have hown : chConfigOwn c ((s.tick t).touch c.session) = .accept := by
      rw [chConfigOwn_last hp, setClosed_touch, setClosed_of_set hz, hopen]; rfl
    refine ⟨_, exec_chConfig_accepts had (emptySet_head hp).1 hown, ?_⟩
    have hregs := regsKept_taken s c opChConfig t
    have hset : ((s.tick t).taken c opChConfig).fio.set = some z := by rw [taken_fio, hz]
    rw [chConfigEffect_last hp hset, setOk_of_setRegs hregs, if_pos hok, taken_now]
    obtain ⟨hfio, hkept, -⟩ := putSet_answered ((s.tick t).taken c opChConfig)
      { z with touchedAt := (s.tick t).now, last := some c, closedAt := some (s.tick t).now } z.recs c
    exact ⟨congrArg FioState.set hfio, cfgOf_of_setRegs (hregs.trans hkept)⟩
  case bad =>
    intro s c z t had hp hz hopen hbad
    have hown : chConfigOwn c ((s.tick t).touch c.session) = .accept := by
      rw [chConfigOwn_last hp, setClosed_touch, setClosed_of_set hz, hopen]; rfl
    have hset : ((s.tick t).taken c opChConfig).fio.set = some z := by rw [taken_fio, hz]
    rw [← setOk_of_setRegs (regsKept_taken s c opChConfig t)] at hbad
    obtain ⟨hfio, hresult, hreplied, hregs⟩ :=
      SetDiscarded.of_taken (chConfigEffect_bad_spec (a := (s.tick t).now) hp hset hbad)
    exact ⟨_, exec_chConfig_accepts had (emptySet_head hp).1 hown, hfio, hresult, hreplied, cfgOf_of_setRegs hregs⟩
  case discard =>
    intro s c z t had hp hz
    have hset : ((s.tick t).taken c opChConfig).fio.set = some z := by rw [taken_fio, hz]
    obtain ⟨hfio, hresult, hreplied, hregs⟩ := SetDiscarded.of_taken (chConfigEffect_discard_spec (a := (s.tick t).now) hp hset)
    exact ⟨_, exec_chConfigDiscard_accepts had hp, hfio, hresult, hreplied, cfgOf_of_setRegs hregs⟩
  case openTimeout =>
    intro s z t hz hopen hdue
    obtain ⟨hfio, hresult, hreplied, hregs⟩ :=
      discardSet_spec (s := s.tick t) (code := shDiscarded) stAborted (by rw [tick_fio, hz]) (by decide)
    exact ⟨_, exec_shadowSetOpenTimeout hz hopen hdue, by rw [hfio, tick_fio], hresult, hreplied,
      cfgOf_of_setRegs ((State.RegsKept.of_regs (tick_regs s t)).trans hregs)⟩
  case completeTimeout =>
    intro s z a t hz hclosed hopen hdue
    obtain ⟨hfio, hresult, hreplied, hregs⟩ :=
      discardSet_spec (s := s.tick t) (code := shTimeout) stTimeout (by rw [tick_fio, hz]) (by decide)
    exact ⟨_, exec_shadowSetCompleteTimeout hz hclosed hopen hdue, by rw [hfio, tick_fio], hresult, hreplied,
      cfgOf_of_setRegs ((State.RegsKept.of_regs (tick_regs s t)).trans hregs)⟩
  case take =>
    intro s z x hz hc hrecs hrun hok hk
    exact ⟨cfgOf_takeSet hz hc hrecs hrun hok hk, (takeSet_spec hz hc hrecs hrun).2⟩

end Sys2Proof.Machine
end

section
/-! PROOF. Steps of one channel: the channel replaced again and its register fields written, the result of a test recorded,
OPEN_LOAD and EXTERNAL_DRIVE set (R232 to R238). -/

namespace Sys2Proof.Machine

open State

/-! ### A channel replaced and its fields written -/

section

variable {s v : State} {g : Grp} {c d : FcChan} {offs : List Nat}

theorem State.ChanPut.refl (s : State) (g : Grp) (p : Nat) (offs : List Nat) : State.ChanPut g ((s.fc g).chan p) offs s s :=
  ⟨rfl, by rw [FcState.chan_pos], fun _ _ => rfl, fun _ _ => rfl, RegsKept.refl _ s⟩

/-- A second change of the same channel. -/
theorem State.ChanPut.trans {u : State} (h : State.ChanPut g c offs s u) (h' : State.ChanPut g d offs u v) (hpos : d.pos = c.pos) :
    State.ChanPut g d offs s v := by
  obtain ⟨hframe, -, hother, hgrp, hregs⟩ := h
  obtain ⟨hframe', hsame', hother', hgrp', hregs'⟩ := h'
  exact ⟨by rw [hframe', hframe], hsame', fun q hq => (hother' q hq).trans (hother q (by rwa [← hpos])),
    fun k hk => (hgrp' k hk).trans (hgrp k hk), hregs.trans hregs'⟩

theorem State.ChanPut.setChan (h : State.ChanPut g c offs s v) (d : FcChan) (hpos : d.pos = c.pos) :
    State.ChanPut g d offs s (v.setChan g d) := by
  refine h.trans ?_ hpos
  obtain ⟨hframe, hsame, hother, hgrp, hregs⟩ := chanPut_setChan v g d
  exact ⟨hframe, hsame, hother, hgrp, hregs.mono (List.nil_subset offs)⟩

theorem State.ChanPut.fput_mem (h : State.ChanPut g c offs s v) {f : Field} (n : Nat) (hf : f.off ∈ offs) :
    State.ChanPut g c offs s (v.fput f n) := by
  obtain ⟨hframe, hsame, hother, hgrp, hregs⟩ := h
  refine ⟨?_, ?_, fun q hq => ?_, fun k hk => ?_, hregs.trans (RegsKept.fput v n hf)⟩
  · conv_lhs => rw [hframe]
    rfl
  · rw [fc_fput, hsame]
  · rw [fc_fput, hother q hq]
  · rw [fc_fput, hgrp k hk]

theorem State.ChanPut.now (h : State.ChanPut g c offs s v) : v.now = s.now := by
  rw [h.1]

/-- A channel that keeps its configuration leaves every configuration. -/
theorem State.ChanPut.cfg (h : State.ChanPut g c offs s v) (hcfg : c.cfg = ((s.fc g).chan c.pos).cfg) (q : Nat) :
    ((v.fc g).chan q).cfg = ((s.fc g).chan q).cfg := by
  obtain ⟨-, hsame, hother, -⟩ := h
  by_cases hq : q = c.pos
  · rw [hq, hsame, hcfg]
  · rw [hother q hq]

end

theorem chan_setChan (s : State) (g : Grp) {c : FcChan} {p : Nat} (hpos : c.pos = p) : ((s.setChan g c).fc g).chan p = c :=
  ChanPut.chan (chanPut_setChan s g c) hpos

@[simp] theorem fget_setChan (s : State) (g : Grp) (c : FcChan) (f : Field) : (s.setChan g c).fget f = s.fget f :=
  fget_setFc s g _ f

theorem bank_setChan (s : State) (g : Grp) (c : FcChan) (b : Nat) : ((s.setChan g c).fc g).bank b = (s.fc g).bank b := by
  rw [State.setChan, fc_setFc_same]
  rfl

theorem banks_setChan (s : State) (g : Grp) (c : FcChan) : ((s.setChan g c).fc g).banks = (s.fc g).banks := by
  rw [State.setChan, fc_setFc_same]
  rfl

/-! ### The result of a test -/

/-- The registers in which the tests of a position show. -/
def resultRegs (g : Grp) (p : Nat) : List Nat := [R.CH_FAULT g p, R.FIO_TEST g]

theorem chFault_ne_fioTest (g : Grp) (p : Nat) : R.CH_FAULT g p ≠ R.FIO_TEST g := by
  simp only [R.CH_FAULT, R.FIO_TEST]
  omega

theorem bitsApart_of_off {f k : Field} (h : f.off ≠ k.off) : bitsApart f k = true := by
  simp [bitsApart, h]

theorem testResult_incomplete (s : State) (g : Grp) (p : Nat) :
    s.testResult g p testIncomplete = (s.fput (F.CH_FAULT_LAST_TEST g p) testIncomplete).fsat (F.FIO_TEST_INCOMPLETE g) := rfl

theorem testResult_done (s : State) (g : Grp) (p : Nat) {r : Nat} (hr : r ≠ testIncomplete) :
    s.testResult g p r = (s.fput (F.CH_FAULT_LAST_TEST g p) r).finc (F.FIO_TEST_DONE g) :=
  if_neg fun h => hr (beq_iff_eq.mp h)

@[simp] theorem fc_testResult (s : State) (g k : Grp) (p r : Nat) : (s.testResult g p r).fc k = s.fc k := by
  unfold State.testResult
  dsimp only
  split <;> simp

@[simp] theorem testResult_now (s : State) (g : Grp) (p r : Nat) : (s.testResult g p r).now = s.now := by
  unfold State.testResult
  dsimp only
  split <;> simp

theorem lastTest_testResult (s : State) (g : Grp) (p : Nat) {r : Nat} (hr : r < 16) :
    (s.testResult g p r).fget (F.CH_FAULT_LAST_TEST g p) = r := by
  have hlast : (s.fput (F.CH_FAULT_LAST_TEST g p) r).fget (F.CH_FAULT_LAST_TEST g p) = r :=
    (fget_fput_same s _ r rfl).trans (Nat.mod_eq_of_lt hr)
  by_cases h : r = testIncomplete
  · rw [h, testResult_incomplete, ← h]
    exact (fget_fput_other _ _ _ _ rfl rfl (bitsApart_of_off (chFault_ne_fioTest g p))).trans hlast
  · rw [testResult_done s g p h]
    exact (fget_fput_other _ _ _ _ rfl rfl (bitsApart_of_off (chFault_ne_fioTest g p))).trans hlast

/-- A result leaves the channel and shows in LAST_TEST. -/
theorem testResult_shows {s : State} {g : Grp} {p r : Nat} {c : FcChan} (hchan : (s.fc g).chan p = c) (hr : r < 16) :
    (s.testResult g p r).fget (F.CH_FAULT_LAST_TEST g p) = r ∧ ((s.testResult g p r).fc g).chan p = c :=
  ⟨lastTest_testResult s g p hr, by rw [fc_testResult, hchan]⟩

theorem incomplete_testResult (s : State) (g : Grp) (p : Nat) :
    (s.testResult g p testIncomplete).fget (F.FIO_TEST_INCOMPLETE g) = min (s.fget (F.FIO_TEST_INCOMPLETE g) + 1) 0xFFFF := by
  rw [testResult_incomplete, fget_fsat _ _ rfl, fget_fput_other _ _ _ _ rfl rfl (bitsApart_of_off (chFault_ne_fioTest g p).symm)]
  rfl

theorem done_testResult (s : State) (g : Grp) (p : Nat) {r : Nat} (hr : r ≠ testIncomplete) :
    (s.testResult g p r).fget (F.FIO_TEST_DONE g) = (s.fget (F.FIO_TEST_DONE g) + 1) % 2 ^ 16 := by
  rw [testResult_done s g p hr, fget_finc _ _ rfl,
    fget_fput_other _ _ _ _ rfl rfl (bitsApart_of_off (chFault_ne_fioTest g p).symm)]
  rfl

theorem State.ChanPut.testResult {s v : State} {g : Grp} {c : FcChan} {p : Nat} (h : State.ChanPut g c (resultRegs g p) s v) (r : Nat) :
    State.ChanPut g c (resultRegs g p) s (v.testResult g p r) := by
  have hlast := h.fput_mem (f := F.CH_FAULT_LAST_TEST g p) r (by simp [resultRegs, F.CH_FAULT_LAST_TEST])
  unfold State.testResult
  dsimp only
  split
  · exact hlast.fput_mem (f := F.FIO_TEST_INCOMPLETE g) _ (by simp [resultRegs, F.FIO_TEST_INCOMPLETE])
  · exact hlast.fput_mem (f := F.FIO_TEST_DONE g) _ (by simp [resultRegs, F.FIO_TEST_DONE])

/-! ### OPEN_LOAD and EXTERNAL_DRIVE -/

section

variable {s v : State} {g : Grp} {c : FcChan} {p : Nat} {offs : List Nat}

theorem State.ChanPut.setOpenLoad (h : State.ChanPut g c offs s v) (hpos : c.pos = p) (hoff : R.CH_FAULT g p ∈ offs) (byOn : Bool) :
    State.ChanPut g { c with openLoad := true, openByOn := byOn } offs s (v.setOpenLoad g p byOn) := by
  have hset : State.ChanPut g { c with openLoad := true, openByOn := byOn } offs s
    (v.setChan g { c with openLoad := true, openByOn := byOn }) := h.setChan _ rfl
  simp only [State.setOpenLoad, ChanPut.chan h hpos]
  split
  · exact hset
  · exact hset.fput_mem (f := F.CH_FAULT_OPEN_LOADS g p) _ hoff

theorem State.ChanPut.setExtDrive (h : State.ChanPut g c offs s v) (hpos : c.pos = p) (hoff : R.CH_FAULT g p ∈ offs) (dark : Bool) :
    State.ChanPut g { c with extDrive := true, extByDark := c.extByDark || dark } offs s (v.setExtDrive g p dark) := by
  have hset : State.ChanPut g { c with extDrive := true, extByDark := c.extByDark || dark } offs s
    (v.setChan g { c with extDrive := true, extByDark := c.extByDark || dark }) := h.setChan _ rfl
  simp only [State.setExtDrive, ChanPut.chan h hpos]
  split
  · exact hset
  · exact hset.fput_mem (f := F.CH_FAULT_EXT_DRIVES g p) _ hoff

end

end Sys2Proof.Machine
end

section
/-! PROOF. Stage faults and overload: a bank cut for a stage (R239), and a stage latched off (R236). -/

namespace Sys2Proof.Machine

open State

/-! ### Stage faults (R239) -/

/-- Whether the bank was cut before or not, its switch opens, and the cause and the latch show (R239, R242). -/
theorem cutBank_shows (s : State) (g : Grp) (b cause : Nat) : ∃ u : State,
    s.cutBank g b cause = (u.fput (F.FIO_BANK_EVT_CUT_CAUSE g b) cause).fput (F.FIO_BANK_EVT_LATCHED g b)
      (bit (cutOff ((s.fc g).bank b) cause).latched) ∧
    u.fc g = (s.fcUpdate g ((s.fc g).setBank b (cutOff ((s.fc g).bank b) cause))).fc g := by
  unfold State.cutBank
  dsimp only
  split
  · exact ⟨_, rfl, rfl⟩
  · exact ⟨_, rfl, by rw [Logged.fc (logged_hostEvent _ _), fc_fsat]; rfl⟩

theorem cutBank_stage {s : State} {g : Grp} {b : Nat} (hlen : b < (s.fc g).banks.length) : let v := s.cutBank g b cutStage
    ((v.fc g).bank b).cut = true ∧ ((v.fc g).bank b).latched = true ∧ v.fget (F.FIO_BANK_EVT_CUT_CAUSE g b) = 2 ∧
      v.fget (F.FIO_BANK_EVT_LATCHED g b) = 1 := by
  obtain ⟨u, hcut, hfc⟩ := cutBank_shows s g b cutStage
  have hlatched : (cutOff ((s.fc g).bank b) cutStage).latched = true := Bool.or_true _
  have hbank : ((s.cutBank g b cutStage).fc g).bank b = cutOff ((s.fc g).bank b) cutStage := by
    rw [hcut, fc_fput, fc_fput, hfc, bank_fcUpdate, FcState.bank_setBank_same _ hlen]
  refine ⟨?_, ?_, ?_, ?_⟩
  · rw [hbank]; rfl
  · rw [hbank]; exact hlatched
  · rw [hcut, fget_fput_other _ _ _ _ rfl rfl (by simp [bitsApart, F.FIO_BANK_EVT_CUT_CAUSE, F.FIO_BANK_EVT_LATCHED]),
      fget_fput_same _ _ _ rfl]
    rfl
  · rw [hcut, fget_fput_same _ _ _ rfl, hlatched]
    rfl

theorem stageFault_eq {s : State} {g : Grp} {p : Nat} (hlatch : ¬ ((s.fc g).bank (bankOf p)).latched = true) : s.stageFault g p =
    ((s.cutBank g (bankOf p) cutStage).fput (F.FIO_BANK_EVT_STAGE_POS g (bankOf p)) (p % 16)).logBank g (bankOf p) := if_neg hlatch

theorem stageFaulted_stageFault {s : State} {g : Grp} {p : Nat} (hp : p < 128) (hlen : bankOf p < (s.fc g).banks.length)
    (hlatch : ¬ ((s.fc g).bank (bankOf p)).latched = true) : State.stageFaulted g p (s.stageFault g p) := by
  obtain ⟨hcut, hlatched, hcause, hshown⟩ := cutBank_stage (g := g) hlen
  have hb : bankOf p < 8 := Nat.div_lt_of_lt_mul hp
  obtain ⟨-, -, hevt⟩ := bankEvt_apart g hb
  rw [stageFault_eq hlatch]
  generalize s.cutBank g (bankOf p) cutStage = u at hcut hlatched hcause hshown ⊢
  obtain ⟨hfc, hfget⟩ := logBank_spec (u.fput (F.FIO_BANK_EVT_STAGE_POS g (bankOf p)) (p % 16)) g (bankOf p)
  unfold State.stageFaulted
  rw [hfc, fc_fput, hfget _ hevt, hfget _ hevt, hfget _ hevt]
  refine ⟨hcut, hlatched, ?_, ?_, ?_, fun q hq => not_stageOn_of_cut (hq ▸ hcut)⟩
  · rw [fget_fput_other _ _ _ _ rfl rfl (by simp [bitsApart, F.FIO_BANK_EVT_CUT_CAUSE, F.FIO_BANK_EVT_STAGE_POS]), hcause]
  · rw [fget_fput_same _ _ _ rfl]
    exact Nat.mod_mod p 16
  · rw [fget_fput_other _ _ _ _ rfl rfl (by simp [bitsApart, F.FIO_BANK_EVT_LATCHED, F.FIO_BANK_EVT_STAGE_POS]), hshown]

/-! ### A stage latched off (R236) -/

theorem leader_le (x : FcState) (p : Nat) : x.leader p ≤ p := by
  unfold FcState.leader
  split
  · exact le_refl p
  · split <;> exact Nat.sub_le _ _

theorem leader_of_cfg {x y : FcState} (h : ∀ q, (y.chan q).cfg = (x.chan q).cfg) (p : Nat) : y.leader p = x.leader p := by
  simp only [FcState.leader, h]

theorem not_stageOn_of_latched {x : FcState} {p : Nat} (h : (x.chan (x.leader p)).latched = true) : ¬ x.stageOn p = true := by
  simp [FcState.stageOn, h]

theorem claim_of_stageOn {x : FcState} {p : Nat} (h : x.stageOn p = true) : x.claim = true := by
  unfold FcState.stageOn at h
  simp only [Bool.and_eq_true] at h
  obtain ⟨⟨⟨⟨⟨-, hclaim⟩, -⟩, -⟩, -⟩, -⟩ := h
  exact hclaim

/-- The channel after a change that ends the test it has in progress (R234). -/
def chanAbandoned (c : FcChan) : FcChan := if c.test.isNone then c else chanIncomplete c

theorem chanAbandoned_keeps (c : FcChan) : (chanAbandoned c).pos = c.pos ∧ (chanAbandoned c).cfg = c.cfg := by
  unfold chanAbandoned
  split <;> exact ⟨rfl, rfl⟩

theorem chanPut_abandonTest (s : State) (g : Grp) (p : Nat) :
    State.ChanPut g (chanAbandoned ((s.fc g).chan p)) (resultRegs g p) s (s.abandonTest g p) := by
  unfold State.abandonTest chanAbandoned
  dsimp only
  split
  · exact .refl s g p _
  · exact ((State.ChanPut.refl s g p _).setChan (chanIncomplete ((s.fc g).chan p)) rfl).testResult testIncomplete

theorem overloads_abandonTest (s : State) (g : Grp) (p : Nat) :
    (s.abandonTest g p).fget (F.CH_FAULT_OVERLOADS g p) = s.fget (F.CH_FAULT_OVERLOADS g p) := by
  unfold State.abandonTest
  dsimp only
  split
  · rfl
  · rw [testResult_incomplete, State.fsat, State.fsatAdd, fget_fput_other _ _ _ _ rfl rfl (bitsApart_of_off (chFault_ne_fioTest g p)),
      fget_fput_other _ _ _ _ rfl rfl (by simp [bitsApart, F.CH_FAULT_OVERLOADS, F.CH_FAULT_LAST_TEST]), fget_setChan]

/-- A channel latched off for overload at `now` (R236). -/
def latchedOff (c : FcChan) (hot claim : Bool) (now : Nat) : FcChan :=
  { c with latched := true, hot := c.hot || hot, overload := claim, retrying := none, retryAt := gridUp (now + sec1) }

section

variable (s : State) (g : Grp) {p : Nat} (hot : Bool) (hp : p < 128)

include hp

/-- The stage and with it its ligature is latched off in the channel of its leader. -/
theorem chanPut_latchOff : State.ChanPut g
    (latchedOff (chanAbandoned ((s.fc g).chan ((s.fc g).leader p))) hot (s.fc g).claim s.now) (resultRegs g ((s.fc g).leader p)) s
    (s.latchOff g p hot) := by
  obtain ⟨-, -, -, hsame⟩ := FieldStep.abandonTest s g (lt_of_le_of_lt (leader_le (s.fc g) p) hp)
  have hput := chanPut_abandonTest s g ((s.fc g).leader p)
  have hchan := ChanPut.chan hput ((chanAbandoned_keeps _).1.trans (FcState.chan_pos _ _))
  have hclaim : ((s.abandonTest g ((s.fc g).leader p)).fc g).claim = (s.fc g).claim := by rw [hsame]
  simp only [State.latchOff, hchan, hclaim, hput.now]
  exact (hput.setChan (latchedOff (chanAbandoned ((s.fc g).chan ((s.fc g).leader p))) hot (s.fc g).claim s.now) rfl).fput_mem
    (f := F.CH_FAULT_OVERLOADS g ((s.fc g).leader p)) _ List.mem_cons_self

theorem latchOff_spec : let v := s.latchOff g p hot
    let q := (s.fc g).leader p
    ((v.fc g).chan q).latched = true ∧ ((v.fc g).chan q).overload = (s.fc g).claim ∧ (hot = true → ((v.fc g).chan q).hot = true) ∧
      ((v.fc g).chan q).retryAt = gridUp (s.now + 1000000000) ∧ ¬ (v.fc g).stageOn p = true := by
  obtain ⟨hpos, hcfg⟩ := chanAbandoned_keeps ((s.fc g).chan ((s.fc g).leader p))
  rw [FcState.chan_pos] at hpos
  have hput := chanPut_latchOff s g hot hp
  have hchan := ChanPut.chan hput hpos
  have hleader := leader_of_cfg (hput.cfg (hcfg.trans (by rw [latchedOff, hpos]))) p
  refine ⟨?_, ?_, fun hh => ?_, ?_, not_stageOn_of_latched ?_⟩
  · rw [hchan]; rfl
  · rw [hchan]; rfl
  · rw [hchan, hh]; exact Bool.or_true _
  · rw [hchan]; rfl
  · rw [hleader, hchan]; rfl

omit hp in
theorem overloads_latchOff : (s.latchOff g p hot).fget (F.CH_FAULT_OVERLOADS g ((s.fc g).leader p)) =
    min (s.fget (F.CH_FAULT_OVERLOADS g ((s.fc g).leader p)) + 1) 255 := by
  rw [State.latchOff, fget_fsat _ _ rfl, fget_setChan, overloads_abandonTest]
  rfl

end

end Sys2Proof.Machine
end

section
/-! PROOF. Tests of output stages and their faults together (R230 to R239, R248). -/

namespace Sys2Proof.Machine

open State

/-! ### Tests that fall due (R230, R231, R248) -/

/-- A test that starts replaces the channel's test alone (R232, R233). -/
theorem State.ChanPut.startTest {s v : State} {g : Grp} {c : FcChan} {p : Nat} {offs : List Nat} (h : State.ChanPut g c offs s v)
    (hpos : c.pos = p) (dark : Bool) :
    State.ChanPut g { c with test := some ⟨dark, s.now, c.pin == .low⟩ } offs s (v.startTest g p dark) := by
  simp only [State.startTest, ChanPut.chan h hpos, h.now]
  exact h.setChan { c with test := some ⟨dark, s.now, c.pin == .low⟩ } rfl

theorem testMayStart_of {s : State} {g : Grp} {p : Nat} (t : Nat) (hgrid : (s.tick t).fcTime g % 50000 = 0)
    (hfree : ¬ (s.fc g).bankBusy (bankOf p) = true) (hfirst : ¬ (s.fc g).lowerWaits p (s.tick t).now = true) :
    (s.tick t).testMayStart g p = true := by
  simp [State.testMayStart, gridNs, hgrid, hfree, hfirst]

section

variable {s : State} {g : Grp} {p d : Nat}

theorem exec_testDue_starts (t : Nat) (hup : s.fgUp g = true) (hd : ((s.fc g).chan p).due = some d) (hdue : d ≤ (s.tick t).now)
    (hlead : isLead ((s.fc g).chan p).cfg.kind = true) (hclaim : (s.fc g).claim = true) (hgood : ¬ (s.fc g).supplyBad p = true)
    (hable : ¬ (s.fc g).disable = true) (hlatch : ¬ ((s.fc g).chan p).latched = true) (hcmd : (s.fc g).stageCmd p = true)
    (hflag : flagDark ((s.fc g).chan p).cfg = true) (hmay : (s.tick t).testMayStart g p = true) :
    exec (.testDue g p t) s = .next (((s.tick t).setChan g { (s.fc g).chan p with
      due := nextDue ((s.fc g).chan p).cfg (s.tick t).now }).startTest g p true) := by
  simp [exec, execTestDue, hd, hup, hdue, hlead, hclaim, hgood, hable, hlatch, hcmd, hflag, hmay]

theorem exec_testDue_skipped (t : Nat) (hup : s.fgUp g = true) (hd : ((s.fc g).chan p).due = some d) (hdue : d ≤ (s.tick t).now)
    (hlead : isLead ((s.fc g).chan p).cfg.kind = true) (hclaim : (s.fc g).claim = true) (hbad : (s.fc g).supplyBad p = true) :
    exec (.testDue g p t) s = .next ((s.tick t).testSkipped g p d) := by
  simp [exec, execTestDue, hd, hup, hdue, hlead, hclaim, hbad]

theorem testSkipped_spec (s : State) (g : Grp) (p d : Nat) : let v := s.testSkipped g p d
    v.fget (F.CH_FAULT_LAST_TEST g p) = 7 ∧
      v.fget (F.FIO_TEST_INCOMPLETE g) = min (s.fget (F.FIO_TEST_INCOMPLETE g) + 1) 0xFFFF ∧
      State.ChanPut g { (s.fc g).chan p with due := some (d + ((s.fc g).chan p).cfg.testS * 1000000000) } (resultRegs g p) s v := by
  have hput := (State.ChanPut.refl s g p (resultRegs g p)).setChan { (s.fc g).chan p with due := nextDue ((s.fc g).chan p).cfg d } rfl
  refine ⟨lastTest_testResult _ g p (by decide), ?_, hput.testResult testIncomplete⟩
  rw [State.testSkipped, incomplete_testResult, fget_setChan]

theorem exec_testDue_early (t : Nat) (h : ∀ d, ((s.fc g).chan p).due = some d → (s.tick t).now < d) :
    exec (.testDue g p t) s = .next (s.tick t) := by
  cases hd : ((s.fc g).chan p).due with
  | none => simp [exec, execTestDue, hd]
  | some d => simp [exec, execTestDue, hd, h d hd]

end

/-! ### The end of a dark pulse (R232) -/

section

variable {s : State} {g : Grp} {p : Nat} {k : ChanTest} {hot : Bool}

theorem exec_darkPulseEnd (t : Nat) (htest : ((s.fc g).chan p).test = some k) (hdark : k.dark = true)
    (hend : k.start + ((s.fc g).chan p).cfg.darkUs * 1000 ≤ (s.tick t).now) : exec (.darkPulseEnd g p hot t) s =
      .next ((s.tick t).darkEnd g p (darkResult ((s.fc g).chan p) k hot (s.tick t).now)) := by
  have hend' : k.start + ((s.fc g).chan p).cfg.darkUs * us1 ≤ (s.tick t).now := hend
  simp [exec, execDarkPulseEnd, htest, hdark, hend']

theorem darkResult_pass (c : FcChan) (now : Nat) (hlow : k.sawLow = true) : darkResult c k hot now = darkPass := if_pos hlow

theorem darkResult_fail {c : FcChan} {now : Nat} (hlow : ¬ k.sawLow = true) (hpin : c.pin = .high) (hheld : c.pinAt + 50000 ≤ now) :
    darkResult c k hot now = if hot then darkFailStage else darkFailExt := by
  have hheld' : c.pinAt + 50 * us1 ≤ now := hheld
  simp [darkResult, hlow, hpin, hheld']

end

section

variable (s : State) (g : Grp) (p : Nat)

theorem darkEnd_pass : s.darkEnd g p darkPass = (s.testResult g p darkPass).setChan g { chanIncomplete ((s.fc g).chan p) with
    extDrive := ((s.fc g).chan p).extDrive && !((s.fc g).chan p).extByDark, extByDark := false } := rfl

variable {s g p} {r : Nat} (hr : r = darkFailExt ∨ r = darkFailStage)

include hr

theorem darkEnd_first (h : ((s.fc g).chan p).firstFail = 0) : s.darkEnd g p r = (s.testResult g p r).setChan g { (s.fc g).chan p with
    test := none, firstFail := r, repeatAt := some (gridUp (s.now + 100 * ns1ms)) } := by
  rcases hr with rfl | rfl <;>
    simp [State.darkEnd, darkFailExt, darkFailStage, darkPass, testIncomplete, h]

theorem darkEnd_second (h : ((s.fc g).chan p).firstFail = r) : s.darkEnd g p r =
    let u := (s.testResult g p r).setChan g (chanIncomplete ((s.fc g).chan p))
    if r == darkFailExt then u.setExtDrive g p true else u.stageFault g p := by
  rcases hr with rfl | rfl <;>
    simp [State.darkEnd, darkFailExt, darkFailStage, darkPass, testIncomplete, h]

end

/-- A dark pulse that passes forgets a first failure and what dark pulses have set (R232). -/
theorem darkEnd_pass_spec (s : State) (g : Grp) (p : Nat) : let v := s.darkEnd g p darkPass
    v.fget (F.CH_FAULT_LAST_TEST g p) = 1 ∧ v.fget (F.FIO_TEST_DONE g) = (s.fget (F.FIO_TEST_DONE g) + 1) % 2 ^ 16 ∧
      State.ChanPut g { (s.fc g).chan p with
        test := none, firstFail := 0, repeatAt := none, extByDark := false
        extDrive := ((s.fc g).chan p).extDrive && !((s.fc g).chan p).extByDark } (resultRegs g p) s v := by
  rw [darkEnd_pass]
  refine ⟨?_, ?_, ((State.ChanPut.refl s g p _).testResult darkPass).setChan _ rfl⟩
  · rw [fget_setChan, lastTest_testResult s g p (by decide)]
    rfl
  · rw [fget_setChan, done_testResult s g p (by decide)]

/-- A first failure is repeated at the first grid instant from 100 ms later (R232). -/
theorem darkEnd_first_spec {s : State} {g : Grp} {p r : Nat} (hr : r = darkFailExt ∨ r = darkFailStage)
    (h : ((s.fc g).chan p).firstFail = 0) : let v := s.darkEnd g p r
    v.fget (F.CH_FAULT_LAST_TEST g p) = r ∧ State.ChanPut g { (s.fc g).chan p with
      test := none, firstFail := r, repeatAt := some (gridUp (s.now + 100000000)) } (resultRegs g p) s v := by
  have hsmall : r < 16 := by rcases hr with rfl | rfl <;> decide
  rw [darkEnd_first hr h]
  refine ⟨?_, ((State.ChanPut.refl s g p _).testResult r).setChan _ rfl⟩
  rw [fget_setChan, lastTest_testResult s g p hsmall]

/-- A second failure with 20 mA or less sets EXTERNAL_DRIVE (R232). -/
theorem darkEnd_external_spec {s : State} {g : Grp} {p : Nat} (h : ((s.fc g).chan p).firstFail = darkFailExt) :
    State.ChanPut g { (s.fc g).chan p with test := none, firstFail := 0, repeatAt := none, extDrive := true, extByDark := true }
      (resultRegs g p) s (s.darkEnd g p darkFailExt) := by
  have hput := (((State.ChanPut.refl s g p _).testResult darkFailExt).setChan (chanIncomplete ((s.fc g).chan p)) rfl).setExtDrive
    (FcState.chan_pos _ p) List.mem_cons_self true
  rw [Bool.or_true] at hput
  rw [darkEnd_second (.inl rfl) h]
  exact hput

/-- A second failure with more than 20 mA is a stage fault (R232, R239). -/
theorem darkEnd_stage_spec {s : State} {g : Grp} {p : Nat} (hp : p < 128) (h : ((s.fc g).chan p).firstFail = darkFailStage)
    (hlen : bankOf p < (s.fc g).banks.length) (hlatch : ¬ ((s.fc g).bank (bankOf p)).latched = true) :
    State.stageFaulted g p (s.darkEnd g p darkFailStage) := by
  rw [darkEnd_second (.inr rfl) h]
  refine stageFaulted_stageFault hp ?_ ?_
  · rw [banks_setChan, fc_testResult]; exact hlen
  · rw [bank_setChan, fc_testResult]; exact hlatch

/-! ### The repeat of a dark pulse (R232, R248) -/

section

variable {s : State} {g : Grp} {p r : Nat} (hrep : ((s.fc g).chan p).repeatAt = some r) (htest : ((s.fc g).chan p).test = none)

include hrep htest

theorem exec_darkPulseRepeat_starts (t : Nat) (hdue : r ≤ (s.tick t).now) (hgood : ¬ (s.fc g).supplyBad p = true)
    (hon : (s.fc g).stageOn p = true) (hmay : (s.tick t).testMayStart g p = true) : exec (.darkPulseRepeat g p t) s =
      .next (((s.tick t).setChan g { (s.fc g).chan p with repeatAt := none }).startTest g p true) := by
  simp [exec, execDarkPulseRepeat, hrep, htest, Nat.not_lt.mpr hdue, hgood, hon, hmay]

/-- The repeat is INCOMPLETE where no test runs: the first failure is forgotten (R232). -/
theorem exec_darkPulseRepeat_off (t : Nat) (hdue : r ≤ (s.tick t).now) (hoff : ¬ (s.fc g).stageOn p = true) :
    exec (.darkPulseRepeat g p t) s =
      .next (((s.tick t).setChan g { (s.fc g).chan p with firstFail := 0, repeatAt := none }).testResult g p testIncomplete) := by
  simp [exec, execDarkPulseRepeat, hrep, htest, Nat.not_lt.mpr hdue, hoff, chanIncomplete]

end

/-! ### The end of a probe (R233) -/

/-- What a probe leaves that ends with the pin at level `pin` (R233). -/
def probeEnded (s : State) (g : Grp) (p : Nat) (pin : Pin) : State :=
  let c := (s.fc g).chan p
  let u := s.setChan g { c with test := none }
  match pin with
  | .low => (u.setChan g { c with test := none, openLoad := false, openByOn := false }).testResult g p probeLoad
  | .high => (u.setOpenLoad g p false).testResult g p probeOpen
  | .mid => u.testResult g p probeUndecided

theorem exec_probeEnd {s : State} {g : Grp} {p : Nat} {k : ChanTest} (t : Nat) (htest : ((s.fc g).chan p).test = some k)
    (hprobe : ¬ k.dark = true) (hend : k.start + 100000 ≤ (s.tick t).now) :
    exec (.probeEnd g p t) s = .next (probeEnded (s.tick t) g p ((s.fc g).chan p).pin) := by
  have hend' : ¬ (s.tick t).now < k.start + 100 * us1 := Nat.not_lt.mpr hend
  simp only [exec, execProbeEnd, fc_tick, htest, hprobe, hend', decide_false, Bool.or_self, Bool.false_eq_true, if_false, probeEnded]
  cases ((s.fc g).chan p).pin <;> rfl

theorem probeEnded_spec (s : State) (g : Grp) (p : Nat) (pin : Pin) : let v := probeEnded s g p pin
    (pin = .low → v.fget (F.CH_FAULT_LAST_TEST g p) = 4 ∧
      (v.fc g).chan p = { (s.fc g).chan p with test := none, openLoad := false, openByOn := false }) ∧
    (pin = .high → v.fget (F.CH_FAULT_LAST_TEST g p) = 5 ∧
      (v.fc g).chan p = { (s.fc g).chan p with test := none, openLoad := true, openByOn := false }) ∧
    (pin = .mid → v.fget (F.CH_FAULT_LAST_TEST g p) = 6 ∧ (v.fc g).chan p = { (s.fc g).chan p with test := none }) := by
  have hpos : ((s.fc g).chan p).pos = p := FcState.chan_pos _ p
  have hput : State.ChanPut g { (s.fc g).chan p with test := none } (resultRegs g p) s
    (s.setChan g { (s.fc g).chan p with test := none }) := (State.ChanPut.refl s g p _).setChan _ rfl
  refine ⟨?_, ?_, ?_⟩ <;> rintro rfl
  · exact testResult_shows (chan_setChan _ g hpos) (by decide)
  · exact testResult_shows (ChanPut.chan (hput.setOpenLoad hpos List.mem_cons_self false) hpos) (by decide)
  · exact testResult_shows (ChanPut.chan hput hpos) (by decide)

/-! ### Overload and thermal shutdown (R236) -/

section

variable {s : State} {g : Grp} {p : Nat} (hup : s.fgUp g = true)

include hup

theorem exec_overloadLatch (t : Nat) (hon : (s.fc g).stageOn p = true) :
    exec (.overloadLatch g p t) s = .next ((s.tick t).latchOff g p false) := by
  simp [exec, execOverloadLatch, hup, hon]

theorem exec_thermalShutdown (t : Nat) (hout : isOut ((s.fc g).chan p).cfg.kind = true) :
    exec (.thermalShutdown g p t) s = .next ((s.tick t).latchOff g p true) := by
  simp [exec, execThermalShutdown, hup, hout]

theorem exec_overloadRetry_latched {cool : Bool} (t : Nat) (hlatch : ((s.fc g).chan ((s.fc g).leader p)).latched = true)
    (hcmd : (s.fc g).stageCmd p = true) (hdue : ((s.fc g).chan ((s.fc g).leader p)).retryAt ≤ (s.tick t).now)
    (hslot : ((s.tick t).now - ((s.fc g).chan ((s.fc g).leader p)).retryAt) % 1000000000 < 50000)
    (hgrid : (s.tick t).fcTime g % 50000 = 0) (hdrives : ((s.fc g).bank (bankOf p)).drives = true) :
    exec (.overloadRetry g p cool t) s =
      if ((s.fc g).chan ((s.fc g).leader p)).hot && !cool then .next (s.tick t)
      else .next ((s.tick t).setChan g { (s.fc g).chan ((s.fc g).leader p) with
        latched := false, hot := false, retrying := some (s.tick t).now }) := by
  have hslot' : ¬ gridNs ≤ ((s.tick t).now - ((s.fc g).chan ((s.fc g).leader p)).retryAt) % sec1 := Nat.not_le.mpr hslot
  have hgrid' : (s.tick t).fcTime g % gridNs = 0 := hgrid
  simp [exec, execOverloadRetry, hup, hlatch, hcmd, Nat.not_lt.mpr hdue, hslot', hgrid', hdrives]

theorem exec_overloadRetry_ends {r : Nat} {cool : Bool} (t : Nat) (hlatch : ¬ ((s.fc g).chan ((s.fc g).leader p)).latched = true)
    (hr : ((s.fc g).chan ((s.fc g).leader p)).retrying = some r) (hon : (s.fc g).stageOn p = true)
    (hdue : r + 100000000 ≤ (s.tick t).now) : exec (.overloadRetry g p cool t) s =
      .next ((s.tick t).setChan g { (s.fc g).chan ((s.fc g).leader p) with retrying := none, overload := false }) := by
  have hdue' : r + 100 * ns1ms ≤ (s.tick t).now := hdue
  simp [exec, execOverloadRetry, hup, hlatch, hr, hon, hdue']

/-! ### Open load and external drive (R237 to R239) -/

theorem exec_openLoadDetect_sets (t : Nat) (hout : isOut ((s.fc g).chan p).cfg.kind = true) (hclaim : (s.fc g).claim = true)
    (hon : (s.fc g).stageOn p = true) : exec (.openLoadDetect g p true t) s = .next ((s.tick t).setOpenLoad g p true) := by
  simp [exec, execOpenLoadDetect, hup, hout, hclaim, hon]

theorem exec_openLoadDetect_clears (t : Nat) (hout : isOut ((s.fc g).chan p).cfg.kind = true) (hclaim : (s.fc g).claim = true)
    (hby : ((s.fc g).chan p).openByOn = true) : exec (.openLoadDetect g p false t) s =
      .next ((s.tick t).setChan g { (s.fc g).chan p with openLoad := false, openByOn := false }) := by
  simp [exec, execOpenLoadDetect, hup, hout, hclaim, hby]

theorem exec_externalDriveDetect {h : Nat} {hot : Bool} (t : Nat) (hclaim : (s.fc g).claim = true)
    (hout : isOut ((s.fc g).chan p).cfg.kind = true) (hcmd : ¬ (s.fc g).stageCmd p = true) (hcut : ¬ (s.fc g).cut (bankOf p) = true)
    (hhigh : ((s.fc g).chan p).highTick = some h) (hheld : max h ((s.fc g).driveFrom p) + 1000000 ≤ (s.tick t).now) :
    exec (.externalDriveDetect g p hot t) s =
      .next (if hot then (s.tick t).stageFault g p else (s.tick t).setExtDrive g p false) := by
  have hfrom : ((s.fc g).chan p).highFrom ((s.fc g).driveFrom p) (s.tick t).now = true := by
    rw [FcChan.highFrom, hhigh]
    exact decide_eq_true hheld
  simp [exec, execExternalDriveDetect, hup, hclaim, hout, hcmd, hcut, hfrom]

end

theorem exec_externalDriveClear {s : State} {g : Grp} {p h : Nat} (t : Nat) (hext : ((s.fc g).chan p).extDrive = true)
    (hby : ¬ ((s.fc g).chan p).extByDark = true) (hlow : ((s.fc g).chan p).lowTick = some h) (hheld : h + 1000000 ≤ (s.tick t).now) :
    exec (.externalDriveClear g p t) s = .next ((s.tick t).setChan g { (s.fc g).chan p with extDrive := false }) := by
  have hheld' : h + ns1ms ≤ (s.tick t).now := hheld
  simp [exec, execExternalDriveClear, hlow, hext, hby, hheld']

/-- Settles O36: every command replaces one channel and writes registers of its tests and faults; a stage fault cuts the bank, and
overload latches the leader off, which takes its ligature with it. -/
theorem stagesAreTestedAndTheirFaultsHandled : Obligations.StagesAreTestedAndTheirFaultsHandled := by
  unfold Obligations.StagesAreTestedAndTheirFaultsHandled
  refine ⟨?due, ?skipped, ?early, ?pass, ?first, ?second, ?again, ?forgotten, ?probe, ?overload, ?thermal, ?retry, ?cleared, ?openLoad,
    ?external, ?clear⟩
  case due =>
    intro s g p d t hup hd hdue hlead hclaim hgood hable hlatch hcmd hflag hgrid hfree hfirst
    refine ⟨_, exec_testDue_starts t hup hd hdue hlead hclaim hgood hable hlatch hcmd hflag (testMayStart_of t hgrid hfree hfirst), ?_⟩
    exact State.ChanPut.startTest (c := { (s.fc g).chan p with due := nextDue ((s.fc g).chan p).cfg (s.tick t).now })
      (chanPut_setChan (s.tick t) g _) (FcState.chan_pos _ p) true
  case skipped =>
    intro s g p d t _ hup hd hdue hlead hclaim hbad
    have hspec := testSkipped_spec (s.tick t) g p d
    rw [fget_tick, fc_tick] at hspec
    exact ⟨_, exec_testDue_skipped t hup hd hdue hlead hclaim hbad, hspec⟩
  case early =>
    intro s g p t h
    exact exec_testDue_early t h
  case pass =>
    intro s g p t k hot _ htest hdark hlow hend
    have hexec := exec_darkPulseEnd (hot := hot) t htest hdark hend
    have hspec := darkEnd_pass_spec (s.tick t) g p
    rw [darkResult_pass _ _ hlow] at hexec
    rw [fget_tick, fc_tick] at hspec
    exact ⟨_, hexec, hspec⟩
  case first =>
    intro s g p t k hot _ htest hdark hlow hend hpin hheld hfail
    have hexec := exec_darkPulseEnd (hot := hot) t htest hdark hend
    rw [darkResult_fail hlow hpin hheld] at hexec
    have hspec := darkEnd_first_spec (s := s.tick t) (g := g) (p := p) (r := if hot then darkFailStage else darkFailExt)
      (by cases hot <;> simp) (by rw [fc_tick]; exact hfail)
    rw [fc_tick] at hspec
    exact ⟨_, hexec, hspec⟩
  case second =>
    intro s g p t k hp htest hdark hlow hend hpin hheld
    have hexec := fun hot => exec_darkPulseEnd (hot := hot) t htest hdark hend
    simp only [darkResult_fail hlow hpin hheld] at hexec
    refine ⟨fun hfail => ⟨_, hexec false, ?_⟩, fun hfail hlen hlatch => ⟨_, hexec true, ?_⟩⟩
    · have hspec := darkEnd_external_spec (s := s.tick t) (g := g) (p := p) (by rw [fc_tick]; exact hfail)
      rw [fc_tick] at hspec
      exact hspec
    · exact darkEnd_stage_spec hp (by rw [fc_tick]; exact hfail) (by rw [fc_tick]; exact hlen) (by rw [fc_tick]; exact hlatch)
  case again =>
    intro s g p r t hrep hdue htest hgood hon hgrid hfree hfirst
    refine ⟨_, exec_darkPulseRepeat_starts hrep htest t hdue hgood hon (testMayStart_of t hgrid hfree hfirst), ?_⟩
    exact State.ChanPut.startTest (c := { (s.fc g).chan p with repeatAt := none }) (chanPut_setChan (s.tick t) g _)
      (FcState.chan_pos _ p) true
  case forgotten =>
    intro s g p r t hrep hdue htest hoff
    have hput := (State.ChanPut.refl (s.tick t) g p (resultRegs g p)).setChan
      { (s.fc g).chan p with firstFail := 0, repeatAt := none } (by rw [fc_tick])
    exact ⟨_, exec_darkPulseRepeat_off hrep htest t hdue hoff, hput.testResult testIncomplete⟩
  case probe =>
    intro s g p t k _ htest hprobe hend
    have hspec := probeEnded_spec (s.tick t) g p ((s.fc g).chan p).pin
    rw [fc_tick] at hspec
    exact ⟨_, exec_probeEnd t htest hprobe hend, hspec⟩
  case overload =>
    intro s g p t hp hup hon
    obtain ⟨hlatched, hoverload, -, hretry, hoff⟩ := latchOff_spec (s.tick t) g false hp
    have hcount := overloads_latchOff (s.tick t) g (p := p) false
    rw [fc_tick] at hlatched hoverload hretry hcount
    rw [fget_tick] at hcount
    exact ⟨_, exec_overloadLatch hup t hon, hlatched, hoverload.trans (claim_of_stageOn hon), hoff, hretry, hcount⟩
  case thermal =>
    intro s g p t hp hup hout
    obtain ⟨hlatched, hoverload, hhot, -, hoff⟩ := latchOff_spec (s.tick t) g true hp
    rw [fc_tick] at hlatched hoverload hhot
    exact ⟨_, exec_thermalShutdown hup t hout, hlatched, hoverload, hhot rfl, hoff⟩
  case retry =>
    intro s g p t cool hup hlatch hcmd hdue hslot hgrid hdrives
    have hexec := exec_overloadRetry_latched (cool := cool) hup t hlatch hcmd hdue hslot hgrid hdrives
    refine ⟨fun hready => ⟨_, hexec.trans (if_neg ?_), chanPut_setChan _ g _⟩, fun hcool hhot => hexec.trans (if_pos ?_)⟩
    · rcases hready with h | h <;> simp [h]
    · simp [hcool, hhot]
  case cleared =>
    intro s g p r t cool hup hlatch hr hon hdue
    exact ⟨_, exec_overloadRetry_ends hup t hlatch hr hon hdue, chanPut_setChan _ g _⟩
  case openLoad =>
    intro s g p t hup hout hclaim
    refine ⟨fun hon => ⟨_, exec_openLoadDetect_sets hup t hout hclaim hon, ?_⟩,
      fun hby => ⟨_, exec_openLoadDetect_clears hup t hout hclaim hby, chanPut_setChan _ g _⟩⟩
    have hput := (State.ChanPut.refl (s.tick t) g p _).setOpenLoad (FcState.chan_pos _ p) (List.mem_singleton_self (R.CH_FAULT g p)) true
    rw [fc_tick] at hput
    exact hput
  case external =>
    intro s g p h t hp hup hclaim hout hcmd hcut hhigh hheld
    refine ⟨⟨_, exec_externalDriveDetect hup t hclaim hout hcmd hcut hhigh hheld, ?_⟩,
      fun hlen hlatch => ⟨_, exec_externalDriveDetect hup t hclaim hout hcmd hcut hhigh hheld, ?_⟩⟩
    · have hput := (State.ChanPut.refl (s.tick t) g p _).setExtDrive (FcState.chan_pos _ p)
        (List.mem_singleton_self (R.CH_FAULT g p)) false
      rw [Bool.or_false, fc_tick] at hput
      exact hput
    · exact stageFaulted_stageFault hp (by rw [fc_tick]; exact hlen) (by rw [fc_tick]; exact hlatch)
  case clear =>
    intro s g p h t hext hby hlow hheld
    exact ⟨_, exec_externalDriveClear t hext hby hlow hheld, chanPut_setChan _ g _⟩

end Sys2Proof.Machine
end

section
/-! PROOF. The table of states of a safe stop path (R260 to R264): what each state is left for, and which values it answers. -/

namespace Sys2Proof.Machine

/-! ### Rows of the table -/

section

variable {st c f k : Nat} {p : StopPath} {r : List Byte} {w : StopView} {leave : Bool} {lost : Option Nat}

theorem stopNext_fault (hst : st ≠ stFault) (hf : w.fault = some f) : stopNext st c p r w leave lost = (stFault, f) := by
  simp [stopNext, hf, hst]

/-- A cause that clears only at POR is neither left nor replaced (R262, R263). -/
theorem stopNext_porOnly (hc : porOnly c = true) : stopNext stFault c p r w leave lost = (stFault, c) := by
  unfold stopNext
  cases w.fault <;> simp [hc]

theorem stopNext_held (hf : w.fault = none) :
    stopNext stHeld c p r w leave lost = (if leave = true ∧ ¬ w.request = true then stPermit else stHeld, c) := by
  cases hl : leave <;> cases hq : w.request <;> simp [stopNext, hf, hq, stHeld, stFault]

theorem stopNext_permit_request (hf : w.fault = none) (hq : w.request = true) :
    stopNext stPermit c p r w leave none = (stStopping, c) := by
  simp [stopNext, hf, hq, stPermit, stHeld, stFault]

theorem stopNext_lost (hf : w.fault = none) (hst : st ≠ stFault) (hheld : st ≠ stHeld) :
    stopNext st c p r w leave (some k) = (stHeld, k) := by
  simp [stopNext, hf, hst, hheld]

theorem stopNext_stopping_end (hf : w.fault = none) (hk : p.stopEnd r w.v w.now = some k) :
    stopNext stStopping c p r w leave none = (stHeld, k) := by
  simp [stopNext, hf, hk, stStopping, stPermit, stHeld, stFault]

/-- A path that may not leave HELD and reports a loss holds its contact open (R263, R264). -/
theorem stopNext_lost_open : stoClosed (stopNext st c p r w false (some k)).1 = false := by
  cases hf : w.fault with
  | some f =>
    by_cases hst : st = stFault
    · subst hst
      simp only [stopNext, hf, bne_self_eq_false, Bool.false_eq_true, if_false]
      split <;> rfl
    · rw [stopNext_fault hst hf]
      rfl
  | none =>
    by_cases hst : st = stFault
    · subst hst
      simp only [stopNext, hf, beq_self_eq_true, if_true]
      split <;> rfl
    · by_cases hheld : st = stHeld
      · rw [hheld, stopNext_held hf]
        rfl
      · rw [stopNext_lost hf hst hheld]
        rfl

end

/-! ### Values -/

theorem stopEnd_lt {p : StopPath} {r : List Byte} {v now k : Nat} (h : p.stopEnd r v now = some k) : k < 16 := by
  unfold StopPath.stopEnd at h
  dsimp only at h
  split at h
  · cases h; decide
  · split at h
    · cases h; decide
    · split at h
      · cases h; decide
      · cases h

/-- The first row of R260 decides. -/
theorem stopEnd_envelope {p : StopPath} {r : List Byte} {v now : Nat}
    (h : (p.v0 : Int) - ((recAmin r * (now - p.ts) / 1000000 : Nat) : Int) + ((recTol r * 1000 : Nat) : Int) < (v : Int)) :
    p.stopEnd r v now = some cEnvelope := if_pos h

theorem sensorFault_lt {p : StopPath} {x : SsmState} {r : List Byte} {va vb now f : Nat}
    (h : p.sensorFault x r va vb now = some f) : f < 16 := by
  unfold StopPath.sensorFault at h
  dsimp only at h
  split at h
  · cases h; decide
  · split at h
    · cases h; decide
    · cases h

/-- States and causes fit their fields of four bits. -/
theorem stopNext_lt {st c : Nat} {p : StopPath} {r : List Byte} {w : StopView} {leave : Bool} {lost : Option Nat}
    (hst : st < 16) (hc : c < 16) (hf : ∀ f, w.fault = some f → f < 16) (hl : ∀ k, lost = some k → k < 16) :
    (stopNext st c p r w leave lost).1 < 16 ∧ (stopNext st c p r w leave lost).2 < 16 := by
  have hfault : stFault < 16 ∧ stHeld < 16 ∧ stPermit < 16 ∧ stStopping < 16 := by decide
  obtain ⟨hF, hH, hP, hS⟩ := hfault
  unfold stopNext
  split
  case h_1 f hff =>
    have hf' := hf f hff
    repeat' split
    all_goals exact ⟨by assumption, by assumption⟩
  case h_2 =>
    split
    · split <;> exact ⟨by assumption, hc⟩
    · split
      · split <;> exact ⟨by assumption, hc⟩
      · split
        · exact ⟨hH, hl _ rfl⟩
        · split
          · split <;> exact ⟨by assumption, hc⟩
          · split
            · split
              · next hk => exact ⟨hH, stopEnd_lt hk⟩
              · exact ⟨hst, hc⟩
            · exact ⟨hst, hc⟩

end Sys2Proof.Machine
end

section
/-! PROOF. An evaluation of the loaded SSM (R255, R260 to R263): the state that it enters, STO2, and what is counted. -/

namespace Sys2Proof.Machine

open State

/-! ### The SSM enters a state -/

/-- The SSM's registers and its contact in a state, before the change is logged (R263). -/
def ssmEntered (s : State) (st cause : Nat) : State :=
  let s := { (s.fput F.SSM_STATE_STATE st).fput F.SSM_STATE_CAUSE cause with ssm := { s.ssm with sto2 := stoClosed st } }
  (s.fput F.SSM_STATE_STO2_CLOSED (bit (stoClosed st))).fput F.STO1_STAT_STO2_CLOSED (bit (stoClosed st))

theorem putSsm_eq (s : State) (st cause : Nat) : s.putSsm st cause = if s.fget F.SSM_STATE_STATE == st then ssmEntered s st cause
    else ((ssmEntered s st cause).logReg 0x0030 codeSsm R.SSM_STATE).hostEvent evSsm := rfl

theorem logged_putSsm (s : State) (st cause : Nat) : Logged (ssmEntered s st cause) (s.putSsm st cause) := by
  rw [putSsm_eq]
  split
  · exact ⟨_, _, _, _, rfl⟩
  · exact (logged_logReg _ _ _ _).trans (logged_hostEvent _ _)

theorem fget_putSsm (s : State) (st cause : Nat) {g : Field} (hl : g.off ≠ R.LOG_HEAD) (hb : g.off ≠ R.BRG_EVT) :
    (s.putSsm st cause).fget g = (ssmEntered s st cause).fget g := by
  rw [putSsm_eq]
  split
  · rfl
  · exact fget_report_other _ _ _ _ _ hl hb

@[simp] theorem putSsm_ssm (s : State) (st cause : Nat) : (s.putSsm st cause).ssm = { s.ssm with sto2 := stoClosed st } := by
  rw [(logged_putSsm s st cause).frame]
  rfl

/-- A field of the SSM's block that is no part of its state is as before. -/
theorem fget_putSsm_other (s : State) (st cause : Nat) {g : Field} (hl : g.off ≠ R.LOG_HEAD) (hb : g.off ≠ R.BRG_EVT)
    (hs : g.off ≠ R.SSM_STATE) (ht : g.off ≠ R.STO1_STAT) : (s.putSsm st cause).fget g = s.fget g := by
  rw [fget_putSsm s st cause hl hb]
  refine fget_of_reg ?_
  rw [ssmEntered, reg_fput_other _ F.STO1_STAT_STO2_CLOSED _ ht, reg_fput_other _ F.SSM_STATE_STO2_CLOSED _ hs]
  exact (reg_fput_other _ F.SSM_STATE_CAUSE _ hs).trans (reg_fput_other s F.SSM_STATE_STATE _ hs)

theorem bit_lt (b : Bool) : bit b < 2 := by cases b <;> decide

/-- State, cause and contact read back (R263). -/
theorem putSsm_shows (s : State) {st cause : Nat} (hst : st < 16) (hc : cause < 16) : let v := s.putSsm st cause
    v.fget F.SSM_STATE_STATE = st ∧ v.fget F.SSM_STATE_CAUSE = cause ∧ v.fget F.SSM_STATE_STO2_CLOSED = bit (stoClosed st) ∧
    v.fget F.STO1_STAT_STO2_CLOSED = bit (stoClosed st) ∧ v.fget F.SSM_STATE_STO1_CLOSED = s.fget F.SSM_STATE_STO1_CLOSED ∧
    v.fget F.SSM_STATE_LOCKED = s.fget F.SSM_STATE_LOCKED := by
  have hbit := Nat.mod_eq_of_lt (bit_lt (stoClosed st))
  have hread : ∀ g : Field, g.off = R.SSM_STATE → (s.putSsm st cause).fget g =
      (((s.fput F.SSM_STATE_STATE st).fput F.SSM_STATE_CAUSE cause).fput F.SSM_STATE_STO2_CLOSED (bit (stoClosed st))).fget g := by
    intro g hg
    rw [fget_putSsm s st cause (by rw [hg]; decide) (by rw [hg]; decide), ssmEntered,
      fget_of_reg (reg_fput_other _ F.STO1_STAT_STO2_CLOSED _ (by rw [hg]; decide))]
    rfl
  refine ⟨?_, ?_, ?_, ?_, ?_, ?_⟩
  · rw [hread _ rfl, fget_fput_other _ _ _ _ rfl rfl rfl, fget_fput_other _ _ _ _ rfl rfl rfl, fget_fput_same _ _ _ rfl]
    exact Nat.mod_eq_of_lt hst
  · rw [hread _ rfl, fget_fput_other _ _ _ _ rfl rfl rfl, fget_fput_same _ _ _ rfl]
    exact Nat.mod_eq_of_lt hc
  · rw [hread _ rfl, fget_fput_same _ _ _ rfl]
    exact hbit
  · rw [fget_putSsm s st cause (by decide) (by decide), ssmEntered, fget_fput_same _ _ _ rfl]
    exact hbit
  · rw [hread _ rfl, fget_fput_other _ _ _ _ rfl rfl rfl, fget_fput_other _ _ _ _ rfl rfl rfl, fget_fput_other _ _ _ _ rfl rfl rfl]
  · rw [hread _ rfl, fget_fput_other _ _ _ _ rfl rfl rfl, fget_fput_other _ _ _ _ rfl rfl rfl, fget_fput_other _ _ _ _ rfl rfl rfl]

/-! ### What a change of state is counted as -/

/-- An entry into FAULT is counted. -/
def faultCounted (s : State) (old new : Nat) : State := if new == stFault && old != stFault then s.fsat F.SSM_COUNTS_FAULTS else s

theorem faultCounted_entry (s : State) {old : Nat} (h : old ≠ stFault) : faultCounted s old stFault = s.fsat F.SSM_COUNTS_FAULTS :=
  if_pos (by simp [h])

/-- An entry into STOPPING is counted, with its instant and its speed (R260). -/
def stopBegun (s : State) (old new v now : Nat) : State :=
  if new == stStopping && old != stStopping then
    ({ s with ssm := { s.ssm with path := { s.ssm.path with ts := now, v0 := v } } }.fsat F.SSM_COUNTS_STOPS).fputSat F.SSM_V0_V0 (v / 1000)
  else s

/-- The end of a stop is recorded (SSM_STOP_LAST). -/
def stopEnded (s : State) (old new cause stopCause now : Nat) : State :=
  if old == stStopping && new != stStopping then
    let e := if new == stFault then cause else stopCause
    let s := (s.fput F.SSM_STOP_LAST_END e).fputSat F.SSM_STOP_LAST_DURATION ((now - s.ssm.path.ts) / 1000000)
    if e == cEnvelope then s.fsat F.SSM_COUNTS_ENVELOPE else s
  else s

theorem ssmCount_eq (s : State) (old new cause stopCause v now : Nat) : s.ssmCount old new cause stopCause v now =
    stopEnded (stopBegun (faultCounted s old new) old new v now) old new cause stopCause now := rfl

/-- The registers in which the SSM counts its stops and faults. -/
def stopCountRegs : List Nat := [R.SSM_COUNTS, R.SSM_STOP_LAST, R.SSM_V0]

theorem regsKept_faultCounted (s : State) (old new : Nat) : State.RegsKept stopCountRegs s (faultCounted s old new) := by
  unfold faultCounted
  split
  · exact State.RegsKept.fput s (f := F.SSM_COUNTS_FAULTS) _ (by decide)
  · exact State.RegsKept.refl _ s

theorem stopBegun_spec (s : State) (old new v now : Nat) : let u := stopBegun s old new v now
    State.RegsKept stopCountRegs s u ∧ u.fget F.SSM_COUNTS_FAULTS = s.fget F.SSM_COUNTS_FAULTS ∧
    u.ssm = { s.ssm with path := u.ssm.path } ∧ (new = stStopping → old ≠ stStopping → u.ssm.path.ts = now ∧ u.ssm.path.v0 = v) := by
  unfold stopBegun
  split
  · have hpath : ∀ p : StopPath, State.RegsKept stopCountRegs s { s with ssm := { s.ssm with path := p } } := fun p =>
      State.RegsKept.of_regs rfl
    refine ⟨?_, ?_, rfl, fun _ _ => ⟨rfl, rfl⟩⟩
    · exact ((hpath _).trans (State.RegsKept.fput _ (f := F.SSM_COUNTS_STOPS) _ (by decide))).trans
        (State.RegsKept.fput _ (f := F.SSM_V0_V0) _ (by decide))
    · rw [State.fputSat, fget_fput_other _ _ _ _ rfl rfl rfl]
      exact fget_fput_other _ F.SSM_COUNTS_STOPS _ _ rfl rfl rfl
  · next h => exact ⟨State.RegsKept.refl _ s, rfl, rfl, fun hn ho => absurd (by simp [hn, ho]) h⟩

theorem stopEnded_spec (s : State) (old new cause stopCause now : Nat) : let u := stopEnded s old new cause stopCause now
    State.RegsKept stopCountRegs s u ∧ u.fget F.SSM_COUNTS_FAULTS = s.fget F.SSM_COUNTS_FAULTS ∧ u.ssm = s.ssm := by
  have hlast : ∀ e d, State.RegsKept stopCountRegs s ((s.fput F.SSM_STOP_LAST_END e).fputSat F.SSM_STOP_LAST_DURATION d) := fun e d =>
    (State.RegsKept.fput s (f := F.SSM_STOP_LAST_END) _ (by decide)).trans
      (State.RegsKept.fput _ (f := F.SSM_STOP_LAST_DURATION) _ (by decide))
  have hfaults : ∀ e d, ((s.fput F.SSM_STOP_LAST_END e).fputSat F.SSM_STOP_LAST_DURATION d).fget F.SSM_COUNTS_FAULTS =
      s.fget F.SSM_COUNTS_FAULTS := fun e d =>
    (fget_fput_other _ _ _ _ rfl rfl rfl).trans (fget_fput_other _ _ _ _ rfl rfl rfl)
  unfold stopEnded
  split
  · dsimp only
    generalize (if new == stFault then cause else stopCause) = e
    split
    · refine ⟨(hlast _ _).trans (State.RegsKept.fput _ (f := F.SSM_COUNTS_ENVELOPE) _ (by decide)), ?_, rfl⟩
      exact (fget_fput_other _ F.SSM_COUNTS_ENVELOPE _ _ rfl rfl rfl).trans (hfaults _ _)
    · exact ⟨hlast _ _, hfaults _ _, rfl⟩
  · exact ⟨State.RegsKept.refl _ s, rfl, rfl⟩

theorem ssmCount_spec (s : State) (old new cause stopCause v now : Nat) : let u := s.ssmCount old new cause stopCause v now
    State.RegsKept stopCountRegs s u ∧ u.ssm = { s.ssm with path := u.ssm.path } ∧
    (new = stStopping → old ≠ stStopping → u.ssm.path.ts = now ∧ u.ssm.path.v0 = v) ∧
    u.fget F.SSM_COUNTS_FAULTS = (faultCounted s old new).fget F.SSM_COUNTS_FAULTS := by
  have hfaulted : (faultCounted s old new).ssm = s.ssm := by unfold faultCounted; split <;> rfl
  obtain ⟨hregs, hcount, hssm, hbegun⟩ := stopBegun_spec (faultCounted s old new) old new v now
  obtain ⟨hregs', hcount', hssm'⟩ := stopEnded_spec (stopBegun (faultCounted s old new) old new v now) old new cause stopCause now
  rw [ssmCount_eq]
  refine ⟨((regsKept_faultCounted s old new).trans hregs).trans hregs', ?_, fun hn ho => ?_, hcount'.trans hcount⟩
  · rw [hssm', hssm, hfaulted]
  · rw [hssm']
    exact hbegun hn ho

/-! ### One evaluation -/

/-- State and cause that an evaluation of the SSM answers, `sto1` its readback of STO1. -/
def ssmNext (s : State) (r : List Byte) (sto1 : Bool) : Nat × Nat :=
  stopNext (s.fget F.SSM_STATE_STATE) (s.fget F.SSM_STATE_CAUSE) (s.ssmSees r sto1).1 r (s.ssmSees r sto1).2
    (s.heartbeat && s.hbFor 10000000) (if !s.heartbeat && s.hbFor 1000000 then some cHeartbeat else none)

/-- The SSM's memory after it has read its inputs. -/
def ssmRead (s : State) (p : StopPath) : State := { s with ssm := { s.ssm with path := p } }

/-- The SSM has read its inputs, and its change of state is counted. -/
def ssmCounted (s : State) (r : List Byte) (sto1 : Bool) : State :=
  let x := s.ssmSees r sto1
  let n := ssmNext s r sto1
  (ssmRead s x.1).ssmCount (s.fget F.SSM_STATE_STATE) n.1 n.2 ((x.1.stopEnd r x.2.v s.mono).getD n.2) x.2.v s.mono

theorem ssmEval_eq (s : State) (r : List Byte) (sto1 : Bool) : ∃ va vb d, s.ssmEval r sto1 =
    ((((ssmCounted s r sto1).putSsm (ssmNext s r sto1).1 (ssmNext s r sto1).2).fputSat F.SSM_SPEED_A_SPEED va).fputSat
      F.SSM_SPEED_B_SPEED vb).fput F.SSM_STATE_SREQ_DISC d := ⟨_, _, _, rfl⟩

/-- The faults of the SSM have the codes of R262. -/
theorem ssmFault_lt {s : State} {p : StopPath} {r : List Byte} {va vb f : Nat} (h : s.ssmFault p r va vb = some f) : f < 16 := by
  unfold State.ssmFault at h
  split at h
  · cases h; decide
  · split at h
    · cases h; decide
    · split at h
      · cases h; decide
      · split at h
        · cases h; decide
        · exact sensorFault_lt h

theorem ssmNext_lt (s : State) (r : List Byte) (sto1 : Bool) : (ssmNext s r sto1).1 < 16 ∧ (ssmNext s r sto1).2 < 16 := by
  refine stopNext_lt (s.fget_lt F.SSM_STATE_STATE) (s.fget_lt F.SSM_STATE_CAUSE) (fun f hf => ssmFault_lt hf) fun k hk => ?_
  split at hk
  · cases hk; decide
  · cases hk

/-- `v` is `s` after the SSM has entered state and cause `n` at `now` at the speed `v0`: its registers and its contact, what a
stop that begins keeps, and the count of faults (R260, R263). -/
structure SsmEnters (s : State) (n : Nat × Nat) (now v0 : Nat) (v : State) : Prop where
  state : v.fget F.SSM_STATE_STATE = n.1
  cause : v.fget F.SSM_STATE_CAUSE = n.2
  contact : v.ssm.sto2 = stoClosed n.1
  sto2 : v.fget F.SSM_STATE_STO2_CLOSED = bit (stoClosed n.1)
  sto2Lanes : v.fget F.STO1_STAT_STO2_CLOSED = bit (stoClosed n.1)
  record : v.ssm.record = s.ssm.record
  begun : n.1 = stStopping → s.fget F.SSM_STATE_STATE ≠ stStopping → v.ssm.path.ts = now ∧ v.ssm.path.v0 = v0
  faults : v.fget F.SSM_COUNTS_FAULTS = (faultCounted s (s.fget F.SSM_STATE_STATE) n.1).fget F.SSM_COUNTS_FAULTS

theorem ssmEval_enters (s : State) (r : List Byte) (sto1 : Bool) :
    SsmEnters s (ssmNext s r sto1) s.mono (s.ssmSees r sto1).2.v (s.ssmEval r sto1) ∧
      (s.ssmEval r sto1).fget F.SSM_STATE_STO1_CLOSED = s.fget F.SSM_STATE_STO1_CLOSED := by
  obtain ⟨va, vb, d, hv⟩ := ssmEval_eq s r sto1
  obtain ⟨hst, hc⟩ := ssmNext_lt s r sto1
  obtain ⟨hregs, hssm, hbegun, hfaults⟩ := ssmCount_spec (ssmRead s (s.ssmSees r sto1).1)
    (s.fget F.SSM_STATE_STATE) (ssmNext s r sto1).1 (ssmNext s r sto1).2
    (((s.ssmSees r sto1).1.stopEnd r (s.ssmSees r sto1).2.v s.mono).getD (ssmNext s r sto1).2) (s.ssmSees r sto1).2.v s.mono
  obtain ⟨hstate, hcause, hsto2, hsto2', hsto1, -⟩ := putSsm_shows (ssmCounted s r sto1) hst hc
  have hkept : ∀ g : Field, g.off ∉ stopCountRegs → (ssmCounted s r sto1).fget g = s.fget g := fun g hg =>
    fget_of_reg (hregs _ hg)
  have htail : ∀ (u : State) (g : Field), fieldOk g = true → bitsApart g F.SSM_SPEED_A_SPEED = true →
      bitsApart g F.SSM_SPEED_B_SPEED = true → bitsApart g F.SSM_STATE_SREQ_DISC = true →
      (((u.fputSat F.SSM_SPEED_A_SPEED va).fputSat F.SSM_SPEED_B_SPEED vb).fput F.SSM_STATE_SREQ_DISC d).fget g = u.fget g :=
    fun u g hg ha hb hd => (fget_fput_other _ _ _ _ rfl hg hd).trans
      ((fget_fput_other _ _ _ _ rfl hg hb).trans (fget_fput_other _ _ _ _ rfl hg ha))
  have hssm' : ∀ u : State, (((u.fputSat F.SSM_SPEED_A_SPEED va).fputSat F.SSM_SPEED_B_SPEED vb).fput F.SSM_STATE_SREQ_DISC d).ssm =
      u.ssm := fun _ => rfl
  have hrecord := congrArg SsmState.record hssm
  have hfaulted : (faultCounted (ssmRead s (s.ssmSees r sto1).1) (s.fget F.SSM_STATE_STATE) (ssmNext s r sto1).1).fget
      F.SSM_COUNTS_FAULTS = (faultCounted s (s.fget F.SSM_STATE_STATE) (ssmNext s r sto1).1).fget F.SSM_COUNTS_FAULTS := by
    unfold faultCounted
    split <;> rfl
  rw [hv]
  refine ⟨⟨?_, ?_, ?_, ?_, ?_, ?_, ?_, ?_⟩, ?_⟩
  · rw [htail _ _ rfl rfl rfl rfl, hstate]
  · rw [htail _ _ rfl rfl rfl rfl, hcause]
  · rw [hssm', putSsm_ssm]
  · rw [htail _ _ rfl rfl rfl rfl, hsto2]
  · rw [htail _ _ rfl rfl rfl rfl, hsto2']
  · rw [hssm', putSsm_ssm]
    exact hrecord
  · rw [hssm', putSsm_ssm]
    exact hbegun
  · rw [htail _ _ rfl rfl rfl rfl, fget_putSsm_other _ _ _ (by decide) (by decide) (by decide) (by decide)]
    exact hfaults.trans hfaulted
  · rw [htail _ _ rfl rfl rfl rfl, hsto1, hkept _ (by decide)]

end Sys2Proof.Machine
end

section
/-! PROOF. SSM_EVALUATION and the checks of the SSM (R254 to R256, R262, R263, R272). -/

namespace Sys2Proof.Machine

open State

@[simp] theorem powered_tick (s : State) (t c : Nat) : (s.tick t).powered c = s.powered c := by
  simp only [State.powered, fget_tick]

/-! ### SSM_EVALUATION -/

/-- The SSM's status wire shows its readback of STO1 and the heartbeat (R26, R251). -/
def ssmShown (u : State) (sto1 : Bool) : State :=
  ((u.report pdSsm).fput F.SSM_STATE_STO1_CLOSED (bit sto1)).fput F.SSM_STATE_HEARTBEAT (bit u.heartbeat)

/-- The SSM with a record evaluates. -/
def ssmJudged (u : State) (sto1 : Bool) : State :=
  match u.ssm.record with
  | some r => u.ssmEval r sto1
  | none => u

/-- MOTION is reported (R275). -/
def motionShown (u : State) : State :=
  u.fput F.SSM_STATE_MOTION (motion u.ssm (u.fget F.SSM_STATE_STATE) (u.fget F.SSM_STATE_CAUSE) u.mono)

theorem motionShown_ssm (u : State) : (motionShown u).ssm = u.ssm := rfl

theorem fget_motionShown (u : State) {g : Field} (hg : fieldOk g = true) (hm : bitsApart g F.SSM_STATE_MOTION = true) :
    (motionShown u).fget g = u.fget g := fget_fput_other _ _ _ _ rfl hg hm

theorem fget_ssmShown (u : State) (sto1 : Bool) {g : Field} (hg : fieldOk g = true)
    (hs : bitsApart g F.SSM_STATE_STO1_CLOSED = true) (hh : bitsApart g F.SSM_STATE_HEARTBEAT = true) :
    (ssmShown u sto1).fget g = u.fget g :=
  (fget_fput_other _ _ _ _ rfl hg hh).trans (fget_fput_other (u.report pdSsm) F.SSM_STATE_STO1_CLOSED _ _ rfl hg hs)

theorem sto1Closed_ssmShown (u : State) (sto1 : Bool) : (ssmShown u sto1).fget F.SSM_STATE_STO1_CLOSED = bit sto1 := by
  rw [ssmShown, fget_fput_other _ _ _ _ rfl rfl rfl, fget_fput_same _ _ _ rfl]
  exact Nat.mod_eq_of_lt (bit_lt sto1)

theorem heartbeat_ssmShown (u : State) (sto1 : Bool) : (ssmShown u sto1).heartbeat = u.heartbeat := by
  simp only [State.heartbeat, State.flag, fget_ssmShown u sto1 (g := F.STO1_STAT_HEARTBEAT) rfl rfl rfl]

/-- What the SSM sees does not depend on what its status wire shows. -/
theorem ssmSees_ssmShown (u : State) (r : List Byte) (sto1 : Bool) : (ssmShown u sto1).ssmSees r sto1 = u.ssmSees r sto1 := by
  unfold State.ssmSees
  rw [heartbeat_ssmShown]
  rfl

theorem ssmNext_ssmShown (u : State) (r : List Byte) (sto1 : Bool) : ssmNext (ssmShown u sto1) r sto1 = ssmNext u r sto1 := by
  unfold ssmNext
  rw [ssmSees_ssmShown, heartbeat_ssmShown, fget_ssmShown u sto1 rfl rfl rfl, fget_ssmShown u sto1 rfl rfl rfl]
  rfl

section

variable {s : State} {r : List Byte} (welded : Bool) (t : Nat)

theorem exec_ssmEvaluation_unpowered (hp : ¬ s.powered pdSsm = true) : exec (.ssmEvaluation welded t) s = .next (s.tick t) := by
  simp [exec, execSsmEvaluation, hp]

theorem exec_ssmEvaluation_loaded (hp : s.powered pdSsm = true) (hr : s.ssm.record = some r) : exec (.ssmEvaluation welded t) s =
    .next (motionShown ((ssmShown (s.tick t) (s.ssm.sto1 || welded)).ssmEval r (s.ssm.sto1 || welded))) := by
  have hread : (ssmShown (s.tick t) (s.ssm.sto1 || welded)).ssm.record = some r := (congrArg SsmState.record (tick_ssm s t)).trans hr
  have hexec : exec (.ssmEvaluation welded t) s = .next (motionShown (ssmJudged (ssmShown (s.tick t) (s.ssm.sto1 || welded))
      (s.ssm.sto1 || welded))) := by
    simp only [exec, execSsmEvaluation, powered_tick, hp, Bool.not_true, Bool.false_eq_true, if_false, tick_ssm]
    rfl
  rw [hexec, ssmJudged, hread]

/-- SSM_EVALUATION of the loaded SSM: state, cause and contact by the table, and its readback of STO1 (R260, R263, R265). -/
theorem ssmEvaluation_enters (hp : s.powered pdSsm = true) (hr : s.ssm.record = some r) :
    ∃ v, exec (.ssmEvaluation welded t) s = .next v ∧
      SsmEnters s (ssmNext (s.tick t) r (s.ssm.sto1 || welded)) (s.tick t).mono ((s.tick t).ssmSees r (s.ssm.sto1 || welded)).2.v v ∧
      v.fget F.SSM_STATE_STO1_CLOSED = bit (s.ssm.sto1 || welded) := by
  have hshown : ∀ g : Field, fieldOk g = true → bitsApart g F.SSM_STATE_STO1_CLOSED = true → bitsApart g F.SSM_STATE_HEARTBEAT = true →
      (ssmShown (s.tick t) (s.ssm.sto1 || welded)).fget g = s.fget g := fun g hg hs hh =>
    (fget_ssmShown _ _ hg hs hh).trans (fget_tick s t g)
  obtain ⟨henters, hsto1⟩ := ssmEval_enters (ssmShown (s.tick t) (s.ssm.sto1 || welded)) r (s.ssm.sto1 || welded)
  rw [ssmNext_ssmShown, ssmSees_ssmShown] at henters
  have hstate := hshown F.SSM_STATE_STATE rfl rfl rfl
  have hbegun := henters.begun
  have hfaults := henters.faults
  rw [hstate] at hbegun hfaults
  refine ⟨_, exec_ssmEvaluation_loaded welded t hp hr, ⟨?_, ?_, ?_, ?_, ?_, ?_, ?_, ?_⟩, ?_⟩
  · rw [fget_motionShown _ rfl rfl, henters.state]
  · rw [fget_motionShown _ rfl rfl, henters.cause]
  · rw [motionShown_ssm, henters.contact]
  · rw [fget_motionShown _ rfl rfl, henters.sto2]
  · rw [fget_motionShown _ rfl rfl, henters.sto2Lanes]
  · rw [motionShown_ssm]
    exact henters.record.trans (congrArg SsmState.record (tick_ssm s t))
  · rw [motionShown_ssm]
    exact hbegun
  · rw [fget_motionShown _ rfl rfl, hfaults]
    unfold faultCounted
    split
    · rw [fget_fsat _ _ rfl, fget_fsat _ _ rfl, hshown _ rfl rfl rfl]
    · exact hshown _ rfl rfl rfl
  · rw [fget_motionShown _ rfl rfl, hsto1, sto1Closed_ssmShown]

end

/-- A parity fault is the cause that an evaluation finds, unless the module has failed (R262, R272). -/
theorem ssmNext_parity {s : State} (r : List Byte) (sto1 : Bool) (hparity : s.ssm.parityFault = true) (hfail : ¬ s.vote.failWire = true)
    (hst : s.fget F.SSM_STATE_STATE ≠ stFault) : ssmNext s r sto1 = (stFault, cParity) := by
  refine stopNext_fault hst ?_
  simp [State.ssmSees, State.ssmFault, hparity, hfail]

/-! ### The checks of the oscillator and of the record -/

theorem ssmOscCheck_spec (s : State) (dev : Int) (t : Nat) : Completes (.ssmOscCheck dev t) s fun v =>
    v.ssm = { s.ssm with oscFault := s.ssm.oscFault || decide (500 < dev.natAbs) } ∧
    v.fget F.SSM_OSC_DEVIATION = (BitVec.ofInt 16 dev).toNat ∧ State.RegsKept [R.SSM_OSC] s v := by
  have hshown : ((s.tick t).fput F.SSM_OSC_DEVIATION (BitVec.ofInt 16 dev).toNat).fget F.SSM_OSC_DEVIATION = (BitVec.ofInt 16 dev).toNat := by
    rw [fget_fput_same _ _ _ rfl]
    exact Nat.mod_eq_of_lt (BitVec.ofInt 16 dev).isLt
  have hkept : State.RegsKept [R.SSM_OSC] s ((s.tick t).fput F.SSM_OSC_DEVIATION (BitVec.ofInt 16 dev).toNat) :=
    (State.RegsKept.of_regs (tick_regs s t)).trans (State.RegsKept.fput _ (f := F.SSM_OSC_DEVIATION) _ (by decide))
  by_cases hdev : 500 < dev.natAbs
  · refine ⟨_, if_pos hdev, ?_, hshown, hkept⟩
    simp [hdev]
  · refine ⟨_, if_neg hdev, ?_, hshown, hkept⟩
    simp [hdev]

theorem exec_ssmParityCheck_bad {s : State} (t : Nat) (hr : s.ssm.record.isSome = true) (hp : s.powered pdSsm = true) :
    exec (.ssmParityCheck true t) s = .next { s.tick t with ssm := { s.ssm with parityFault := true } } := by
  have hr' : s.ssm.record ≠ none := Option.isSome_iff_ne_none.mp hr
  simp [exec, execSsmParityCheck, hr', hp]

theorem exec_ssmParityCheck_not {s : State} {bad : Bool} (t : Nat)
    (h : ¬ bad = true ∨ s.ssm.record = none ∨ ¬ s.powered pdSsm = true) : exec (.ssmParityCheck bad t) s = .next (s.tick t) := by
  have hnot : (!bad || s.ssm.record.isNone || !s.powered pdSsm) = true := by
    rcases h with h | h | h <;> simp [h]
  simp only [exec, execSsmParityCheck, tick_ssm, powered_tick, hnot, if_true]

/-! ### SPEED_EDGE -/

theorem speedEdge_last (x : SpeedSensor) (now : Nat) : (x.edge now).last = some now := by
  unfold SpeedSensor.edge
  split
  · split <;> rfl
  · rfl

/-- An edge within 2 s of the last one measures the interval between them (R254). -/
theorem speedEdge_prev {x : SpeedSensor} {l now : Nat} (hl : x.last = some l) (hnow : now < l + 2000000000) : (x.edge now).prev = l := by
  have hsilent : ¬ l + silenceNs ≤ now := Nat.not_le.mpr hnow
  simp [SpeedSensor.edge, hl, hsilent]

theorem speedEdge_spec (s : State) (b : Bool) (t : Nat) : Completes (.speedEdge b t) s fun v =>
    v = { s.tick t with ssm := v.ssm } ∧
    v.ssm = (if b then { s.ssm with speedB := v.ssm.speedB } else { s.ssm with speedA := v.ssm.speedA }) ∧
    (if b then v.ssm.speedB.last else v.ssm.speedA.last) = some (s.tick t).mono ∧
    (∀ l, (if b then s.ssm.speedB.last else s.ssm.speedA.last) = some l → (s.tick t).mono < l + 2000000000 →
      (if b then v.ssm.speedB.prev else v.ssm.speedA.prev) = l) := by
  cases b
  case false =>
    refine ⟨{ s.tick t with ssm := { (s.tick t).ssm with speedA := (s.tick t).ssm.speedA.edge (s.tick t).mono } }, rfl, rfl, ?_, ?_, ?_⟩
    · rw [tick_ssm]; rfl
    · exact speedEdge_last _ _
    · intro l hl hnow
      rw [tick_ssm]
      exact speedEdge_prev hl hnow
  case true =>
    refine ⟨{ s.tick t with ssm := { (s.tick t).ssm with speedB := (s.tick t).ssm.speedB.edge (s.tick t).mono } }, rfl, rfl, ?_, ?_, ?_⟩
    · rw [tick_ssm]; rfl
    · exact speedEdge_last _ _
    · intro l hl hnow
      rw [tick_ssm]
      exact speedEdge_prev hl hnow

end Sys2Proof.Machine
end

section
/-! PROOF. The stop requests (R253, R257) and the lane supervisors (R255, R264, R273). -/

namespace Sys2Proof.Machine

open State

/-! ### Stop requests -/

theorem eachStop_regs (s : State) (k : StopPath → StopPath) : (s.eachStop k).regs = s.regs := by
  simp [State.eachStop, allLanes]

theorem eachStop_ssm (s : State) (k : StopPath → StopPath) : (s.eachStop k).ssm = s.ssm := by
  simp [State.eachStop, allLanes]

theorem lane_eachStop (s : State) (k : StopPath → StopPath) (l : Lane) :
    (s.eachStop k).lane l = { s.lane l with stop := k (s.lane l).stop } := by
  cases l <;> rfl

/-- A run that has reached 1 ms and ends now is kept for the path's next evaluation (R257). -/
theorem offRan_inputs (p : StopPath) {x : SsmState} (y : SsmState) (r : Option (List Byte)) {now : Nat} (h : x.offRun now = true) :
    (p.inputs x y r now).offRan = true := by
  simp [StopPath.inputs, h]

/-- SSM_STATE.SREQ as the four channels show it. -/
def reqBits (y : SsmState) : Nat := ((List.range 4).map fun i => bit (y.req i).on * 2 ^ i).foldl (· + ·) 0

/-- A sum of four weighted bits has these bits. -/
theorem testBit_fourBits (a b c d : Bool) :
    0 + bit a * 2 ^ 0 + bit b * 2 ^ 1 + bit c * 2 ^ 2 + bit d * 2 ^ 3 < 16 ∧ ∀ j, j < 4 →
      (0 + bit a * 2 ^ 0 + bit b * 2 ^ 1 + bit c * 2 ^ 2 + bit d * 2 ^ 3).testBit j = [a, b, c, d].getD j false := by
  revert a b c d
  decide

theorem reqBits_lt (y : SsmState) : reqBits y < 16 := (testBit_fourBits _ _ _ _).1

theorem testBit_reqBits (y : SsmState) {j : Nat} (hj : j < 4) : (reqBits y).testBit j = (y.req j).on := by
  refine ((testBit_fourBits (y.req 0).on (y.req 1).on (y.req 2).on (y.req 3).on).2 j hj).trans ?_
  obtain rfl | rfl | rfl | rfl : j = 0 ∨ j = 1 ∨ j = 2 ∨ j = 3 := by omega
  all_goals rfl

/-- The request channels with channel `i` changed. -/
def reqChanged (x : SsmState) (i : Nat) (on : Bool) (now : Nat) : SsmState := { x with reqs := x.reqs.set i ⟨on, now⟩ }

theorem req_reqChanged_same {x : SsmState} {i : Nat} (on : Bool) (now : Nat) (hi : i < x.reqs.length) :
    (reqChanged x i on now).req i = ⟨on, now⟩ := by
  simp [SsmState.req, reqChanged, hi]

theorem req_reqChanged_other (x : SsmState) {i j : Nat} (on : Bool) (now : Nat) (h : j ≠ i) : (reqChanged x i on now).req j = x.req j := by
  simp [SsmState.req, reqChanged, h.symm]

/-- The SSM's path has taken a change of a request channel (R257, R258). -/
def reqTakenSsm (u : State) (i : Nat) (on : Bool) : State :=
  let y := reqChanged u.ssm i on u.mono
  { u with ssm := { y with path := u.ssm.path.inputs u.ssm y u.ssm.record u.mono } }

/-- The lanes' paths have taken it too (R257, R258). -/
def reqTakenLanes (u : State) (i : Nat) (on : Bool) : State :=
  (reqTakenSsm u i on).eachStop fun p =>
    p.inputs u.ssm (reqChanged u.ssm i on u.mono) (u.folio.running.map (·.ssmDecl)) u.mono

/-- Both paths have taken a change of a request channel, and SREQ shows it. -/
def reqTaken (u : State) (i : Nat) (on : Bool) : State :=
  (reqTakenLanes u i on).fput F.SSM_STATE_SREQ (reqBits (reqChanged u.ssm i on u.mono))

theorem exec_stopRequestInput_changes {s : State} {i : Nat} {on : Bool} (t : Nat) (hi : i < 4) (hon : (s.ssm.req i).on ≠ on) :
    exec (.stopRequestInput i on t) s = .next (reqTaken (s.tick t) i on) := by
  have hskip : ¬ (decide (4 ≤ i) || ((s.tick t).ssm.req i).on == on) = true := by simp [hi, hon]
  exact if_neg hskip

theorem exec_stopRequestInput_same (s : State) (i t : Nat) : exec (.stopRequestInput i (s.ssm.req i).on t) s = .next (s.tick t) := by
  have hskip : (decide (4 ≤ i) || ((s.tick t).ssm.req i).on == (s.ssm.req i).on) = true := by simp
  exact if_pos hskip

theorem reqTaken_spec {u : State} {i : Nat} (on : Bool) (hi : i < u.ssm.reqs.length) : let v := reqTaken u i on
    v.ssm.req i = ⟨on, u.mono⟩ ∧ (∀ j, j ≠ i → v.ssm.req j = u.ssm.req j) ∧
    (∀ j, j < 4 → natBit (v.fget F.SSM_STATE_SREQ) j = (v.ssm.req j).on) ∧
    (u.ssm.offRun u.mono = true → v.ssm.path.offRan = true ∧ ∀ l, (v.lane l).stop.offRan = true) ∧ State.RegsKept [R.SSM_STATE] u v := by
  have hssm : (reqTaken u i on).ssm = { reqChanged u.ssm i on u.mono with
      path := u.ssm.path.inputs u.ssm (reqChanged u.ssm i on u.mono) u.ssm.record u.mono } := by
    rw [reqTaken, fput_ssm, reqTakenLanes, eachStop_ssm]
    rfl
  have hreq : ∀ j, (reqTaken u i on).ssm.req j = (reqChanged u.ssm i on u.mono).req j := fun j => by rw [hssm]; rfl
  refine ⟨?_, fun j hj => ?_, fun j hj => ?_, fun hrun => ⟨?_, fun l => ?_⟩, ?_⟩
  · rw [hreq, req_reqChanged_same on _ hi]
  · rw [hreq, req_reqChanged_other u.ssm on _ hj]
  · rw [hreq, reqTaken, fget_fput_same _ _ _ rfl]
    exact (congrArg (fun n => natBit n j) (Nat.mod_eq_of_lt (reqBits_lt _))).trans (testBit_reqBits _ hj)
  · rw [hssm]
    exact offRan_inputs _ _ _ hrun
  · rw [reqTaken, lane_fput, reqTakenLanes, lane_eachStop]
    exact offRan_inputs _ _ _ hrun
  · have hregs : (reqTakenLanes u i on).regs = u.regs := eachStop_regs _ _
    exact (State.RegsKept.of_regs hregs).trans (State.RegsKept.fput _ (f := F.SSM_STATE_SREQ) _ (by decide))

/-! ### A lane's supervisor enters a state -/

theorem laneStop_ne_sto1 (l : Lane) : R.LANE_STOP l ≠ R.STO1_STAT := by unfold R.LANE_STOP R.STO1_STAT; omega

theorem laneStop_apart (l : Lane) : bitsApart (F.LANE_STOP_STATE l) (F.LANE_STOP_CAUSE l) = true ∧
    bitsApart (F.LANE_STOP_STATE l) (F.LANE_STOP_PERMIT l) = true ∧ bitsApart (F.LANE_STOP_CAUSE l) (F.LANE_STOP_PERMIT l) = true := by
  simp [bitsApart, F.LANE_STOP_STATE, F.LANE_STOP_CAUSE, F.LANE_STOP_PERMIT]

section

variable (s : State) (l : Lane)

theorem state_putLaneStop {st : Nat} (cause : Nat) (h : st < 16) : (s.putLaneStop l st cause).fget (F.LANE_STOP_STATE l) = st := by
  obtain ⟨hsc, hsp, -⟩ := laneStop_apart l
  rw [State.putLaneStop, fget_fput_other _ _ _ _ rfl rfl hsp, fget_fput_other _ _ _ _ rfl rfl hsc, fget_fput_same _ _ _ rfl]
  exact Nat.mod_eq_of_lt h

theorem cause_putLaneStop (st : Nat) {cause : Nat} (h : cause < 16) : (s.putLaneStop l st cause).fget (F.LANE_STOP_CAUSE l) = cause := by
  obtain ⟨-, -, hcp⟩ := laneStop_apart l
  rw [State.putLaneStop, fget_fput_other _ _ _ _ rfl rfl hcp, fget_fput_same _ _ _ rfl]
  exact Nat.mod_eq_of_lt h

/-- The permit is TRUE in PERMIT and STOPPING (R264). -/
theorem permit_putLaneStop (st cause : Nat) : (s.putLaneStop l st cause).fget (F.LANE_STOP_PERMIT l) = bit (stoClosed st) := by
  rw [State.putLaneStop, fget_fput_same _ _ _ rfl]
  exact Nat.mod_eq_of_lt (bit_lt _)

theorem regsKept_putLaneStop (st cause : Nat) : State.RegsKept [R.LANE_STOP l, R.STO1_STAT] s (s.putLaneStop l st cause) := by
  have hput : ∀ (u : State) (f : Field) (v : Nat), f.off = R.LANE_STOP l → State.RegsKept [R.LANE_STOP l, R.STO1_STAT] u (u.fput f v) :=
    fun u f v hf => State.RegsKept.fput u v (by rw [hf]; exact List.mem_cons_self)
  exact ((hput s (F.LANE_STOP_STATE l) st rfl).trans (hput _ (F.LANE_STOP_CAUSE l) cause rfl)).trans
    (hput _ (F.LANE_STOP_PERMIT l) _ rfl)

@[simp] theorem lane_putLaneStop (st cause : Nat) (k : Lane) : (s.putLaneStop l st cause).lane k = s.lane k := by
  simp only [State.putLaneStop, lane_fput]

/-- A supervisor whose record does not match enters no state in which it permits (R264, R273). -/
theorem laneEval_no_match (r : List Byte) (sto2 : Bool) (h : s.flag (F.LANE_STOP_MATCH l) = false) :
    ∃ x st c, s.laneEval l r sto2 = (s.setLane l x).putLaneStop l st c ∧ stoClosed st = false := by
  unfold State.laneEval
  dsimp only
  rw [h]
  exact ⟨_, _, _, rfl, stopNext_lost_open⟩

end

/-! ### LANE_STOP_EVALUATION -/

/-- The lane's readback of STO2 is shown (R251). -/
def sto2Shown (u : State) (welded : Bool) : State := u.fput F.STO1_STAT_STO2_CLOSED (bit (u.ssm.sto2 || welded))

/-- What an evaluation does to the supervisor of lane `l` (R264). -/
def laneJudged (u : State) (l : Lane) (sto2 : Bool) : State :=
  if u.fget (F.LANE_STOP_STATE l) == stUnloaded then
    if u.flag (F.LANE_STOP_MATCH l) then u.putLaneStop l stHeld 0 else u.putLaneStop l stUnloaded cMismatch
  else match u.folio.running with
    | some f => u.laneEval l f.ssmDecl sto2
    | none => u.putLaneStop l stUnloaded cMismatch

theorem fget_sto2Shown (u : State) (welded : Bool) (l : Lane) {g : Field} (hg : g.off = R.LANE_STOP l) :
    (sto2Shown u welded).fget g = u.fget g :=
  fget_of_reg (reg_fput_other u F.STO1_STAT_STO2_CLOSED _ (by rw [hg]; exact laneStop_ne_sto1 l))

theorem flag_sto2Shown (u : State) (welded : Bool) (l : Lane) : (sto2Shown u welded).flag (F.LANE_STOP_MATCH l) = u.flag (F.LANE_STOP_MATCH l) := by
  simp only [State.flag, fget_sto2Shown u welded l (g := F.LANE_STOP_MATCH l) rfl]

section

variable {s : State} {l : Lane} (welded : Bool) {t : Nat}

theorem exec_laneStopEvaluation (hp : s.powered (pdLane l) = true) (ht : t % 250000 = 0) : exec (.laneStopEvaluation l welded t) s =
    .next (laneJudged (sto2Shown (s.tick t) welded) l (s.ssm.sto2 || welded)) := by
  have hrun : ¬ (!(s.tick t).powered (pdLane l) || t % us250 != 0) = true := by
    have hus : us250 = 250000 := rfl
    simp [hp, ht, hus]
  have hexec : exec (.laneStopEvaluation l welded t) s = _ := if_neg hrun
  rw [hexec]
  simp only [laneJudged, sto2Shown, tick_ssm, fput_folio, tick_folio]
  split
  · split <;> rfl
  · cases s.folio.running <;> rfl

theorem exec_laneStopEvaluation_not (h : ¬ (s.powered (pdLane l) = true ∧ t % 250000 = 0)) :
    exec (.laneStopEvaluation l welded t) s = .next (s.tick t) := by
  have hskip : (!(s.tick t).powered (pdLane l) || t % us250 != 0) = true := by
    have hus : us250 = 250000 := rfl
    rw [not_and] at h
    by_cases hp : s.powered (pdLane l) = true
    · simp [hp, hus, h hp]
    · simp [hp]
  exact if_pos hskip

theorem regsKept_sto2Shown : State.RegsKept [R.LANE_STOP l, R.STO1_STAT] s (sto2Shown (s.tick t) welded) :=
  (State.RegsKept.of_regs (tick_regs s t)).trans (State.RegsKept.fput _ (f := F.STO1_STAT_STO2_CLOSED) _ (by simp [F.STO1_STAT_STO2_CLOSED]))

/-- A supervisor leaves UNLOADED for HELD once its record matches (R264, R273). -/
theorem laneStopEvaluation_matches (hp : s.powered (pdLane l) = true) (ht : t % 250000 = 0) (hst : s.fget (F.LANE_STOP_STATE l) = 0)
    (hm : s.flag (F.LANE_STOP_MATCH l) = true) : Completes (.laneStopEvaluation l welded t) s fun v =>
      v.fget (F.LANE_STOP_STATE l) = 1 ∧ v.fget (F.LANE_STOP_PERMIT l) = 0 ∧ State.RegsKept [R.LANE_STOP l, R.STO1_STAT] s v := by
  have hst' : (sto2Shown (s.tick t) welded).fget (F.LANE_STOP_STATE l) = stUnloaded :=
    (fget_sto2Shown _ welded l rfl).trans ((fget_tick s t _).trans hst)
  have hm' : (sto2Shown (s.tick t) welded).flag (F.LANE_STOP_MATCH l) = true := (flag_sto2Shown _ welded l).trans ((flag_tick s t _).trans hm)
  have hjudged : laneJudged (sto2Shown (s.tick t) welded) l (s.ssm.sto2 || welded) =
      (sto2Shown (s.tick t) welded).putLaneStop l stHeld 0 := by
    simp only [laneJudged, hst', hm', beq_self_eq_true, if_true]
  refine ⟨_, exec_laneStopEvaluation welded hp ht, ?_⟩
  rw [hjudged]
  exact ⟨state_putLaneStop _ l 0 (by decide), permit_putLaneStop _ l stHeld 0, (regsKept_sto2Shown welded).trans (regsKept_putLaneStop _ l _ _)⟩

/-- Without a match a supervisor ends in a state without a permit, whatever it does to its own lane (R264, R273). -/
theorem laneJudged_no_match {u : State} (sto2 : Bool) (hm : u.flag (F.LANE_STOP_MATCH l) = false) :
    ∃ x st c, laneJudged u l sto2 = (u.setLane l x).putLaneStop l st c ∧ stoClosed st = false ∧
      (u.fget (F.LANE_STOP_STATE l) = stUnloaded → c = cMismatch) := by
  have hself : u = u.setLane l (u.lane l) := by cases l <;> rfl
  by_cases hst : u.fget (F.LANE_STOP_STATE l) = stUnloaded
  · refine ⟨u.lane l, stUnloaded, cMismatch, ?_, rfl, fun _ => rfl⟩
    rw [← hself, laneJudged, hst, hm]
    rfl
  · have hne : ¬ (u.fget (F.LANE_STOP_STATE l) == stUnloaded) = true := by simp [hst]
    rw [laneJudged, if_neg hne]
    split
    · next f _ =>
      obtain ⟨x, st, c, heval, hopen⟩ := laneEval_no_match u l f.ssmDecl sto2 hm
      exact ⟨x, st, c, heval, hopen, fun h => absurd h hst⟩
    · exact ⟨u.lane l, stUnloaded, cMismatch, by rw [← hself], rfl, fun _ => rfl⟩

theorem laneStopEvaluation_no_match (hp : s.powered (pdLane l) = true) (ht : t % 250000 = 0) (hm : ¬ s.flag (F.LANE_STOP_MATCH l) = true) :
    Completes (.laneStopEvaluation l welded t) s fun v =>
      v.fget (F.LANE_STOP_PERMIT l) = 0 ∧ (s.fget (F.LANE_STOP_STATE l) = 0 → v.fget (F.LANE_STOP_CAUSE l) = 0xA) ∧
      State.RegsKept [R.LANE_STOP l, R.STO1_STAT] s v ∧ ∀ k, k ≠ l → v.lane k = s.lane k := by
  have hm' : (sto2Shown (s.tick t) welded).flag (F.LANE_STOP_MATCH l) = false := by
    rw [flag_sto2Shown, flag_tick]
    exact Bool.eq_false_iff.mpr hm
  obtain ⟨x, st, c, hjudged, hopen, hcause⟩ := laneJudged_no_match (s.ssm.sto2 || welded) hm'
  refine ⟨_, exec_laneStopEvaluation welded hp ht, ?_⟩
  rw [hjudged]
  refine ⟨?_, fun hst => ?_, ?_, fun k hk => ?_⟩
  · rw [permit_putLaneStop, hopen]
    rfl
  · rw [hcause ((fget_sto2Shown _ welded l rfl).trans ((fget_tick s t _).trans hst))]
    exact cause_putLaneStop _ l st (by decide)
  · have hset : State.RegsKept [R.LANE_STOP l, R.STO1_STAT] s ((sto2Shown (s.tick t) welded).setLane l x) :=
      (regsKept_sto2Shown welded).trans (State.RegsKept.of_regs (setLane_regs _ l x))
    exact hset.trans (regsKept_putLaneStop _ l st c)
  · rw [lane_putLaneStop, lane_setLane_other _ x hk, sto2Shown, lane_fput, lane_tick]

end

end Sys2Proof.Machine
end

section
/-! PROOF. The stop paths as a whole (R254 to R264, R272, R273). -/

namespace Sys2Proof.Machine

open State

/-- The heartbeat as the SSM times it decides HELD and the loss (R263). -/
theorem ssmNext_eq (s : State) (r : List Byte) (sto1 : Bool) : ssmNext s r sto1 =
    stopNext (s.fget F.SSM_STATE_STATE) (s.fget F.SSM_STATE_CAUSE) (s.ssmSees r sto1).1 r (s.ssmSees r sto1).2
      (s.flag F.STO1_STAT_HEARTBEAT && decide (s.ssm.hbAt + 10000000 ≤ s.mono))
      (if ¬ s.flag F.STO1_STAT_HEARTBEAT = true ∧ s.ssm.hbAt + 1000000 ≤ s.mono then some 0xB else none) := by
  unfold ssmNext
  congr 1
  simp only [State.heartbeat, State.hbFor, Bool.and_eq_true, Bool.not_eq_true', Bool.not_eq_true, decide_eq_true_eq]
  rfl

/-- Settles O37: by the table of states, what an evaluation shows of it, and what each input records. -/
theorem theStopPathsEvaluate : Obligations.TheStopPathsEvaluate := by
  unfold Obligations.TheStopPathsEvaluate
  refine ⟨?evaluation, fun s welded t hp => exec_ssmEvaluation_unpowered welded t hp, ?table, ?lane,
    fun s l welded t h => exec_laneStopEvaluation_not welded h, ssmOscCheck_spec, fun s t hr hp => exec_ssmParityCheck_bad t hr hp,
    fun s bad t h => exec_ssmParityCheck_not t h, ?parity, speedEdge_spec, ?request, exec_stopRequestInput_same⟩
  case evaluation =>
    intro s r welded t hp hr
    obtain ⟨v, hexec, hv, hsto1⟩ := ssmEvaluation_enters welded t hp hr
    rw [ssmNext_eq, fget_tick, fget_tick, flag_tick, tick_ssm] at hv
    exact ⟨v, hexec, hv.state, hv.cause, hv.contact, hv.sto2, hv.sto2Lanes, hsto1, hv.record.trans hr, hv.begun⟩
  case table =>
    intro st c k f p r w leave lost
    refine ⟨stopNext_fault, stopNext_held, stopNext_permit_request, ?_, stopNext_stopping_end, stopNext_porOnly, stopEnd_envelope⟩
    rintro hf rfl
    exact ⟨stopNext_lost hf (by decide) (by decide), stopNext_lost hf (by decide) (by decide)⟩
  case lane =>
    intro s l welded t hp ht
    exact ⟨laneStopEvaluation_matches welded hp ht, laneStopEvaluation_no_match welded hp ht⟩
  case parity =>
    intro s r welded t hp hr hparity hfail hst
    obtain ⟨v, hexec, hv, -⟩ := ssmEvaluation_enters welded t hp hr
    have hnext : ssmNext (s.tick t) r (s.ssm.sto1 || welded) = (stFault, cParity) :=
      ssmNext_parity r _ (by rw [tick_ssm]; exact hparity) (by rw [tick_vote]; exact hfail) (by rw [fget_tick]; exact hst)
    rw [hnext] at hv
    refine ⟨v, hexec, hv.state, hv.cause, Bool.eq_false_iff.mp hv.contact, hv.sto2, hv.faults.trans ?_⟩
    rw [faultCounted_entry s hst, fget_fsat _ _ rfl]
    rfl
  case request =>
    intro s i on t hi hlen hon
    refine ⟨_, exec_stopRequestInput_changes t hi hon, ?_⟩
    have hspec := reqTaken_spec (u := s.tick t) (i := i) on (by rw [tick_ssm, hlen]; exact hi)
    rw [tick_ssm] at hspec
    obtain ⟨hsame, hother, hbits, hrun, hregs⟩ := hspec
    exact ⟨hsame, hother, hbits, hrun, (State.RegsKept.of_regs (tick_regs s t)).trans hregs⟩

end Sys2Proof.Machine
end

section
/-! PROOF. The permit vote, the heartbeat and STO1 (R266, R267). -/

namespace Sys2Proof.Machine

open State

/-! ### TAKING and PERMIT are shown -/

/-- The registers in which the permit vote shows TAKING and PERMIT. -/
def permitRegs : List Nat := allLanes.map R.LANE_STOP ++ [R.STO1_STAT]

theorem laneStop_mem_permitRegs (l : Lane) : R.LANE_STOP l ∈ permitRegs := by cases l <;> decide

theorem laneState_not_mem_permitRegs (l : Lane) : R.LANE_STATE l ∉ permitRegs := by cases l <;> decide

/-- The lanes that take part are kept from the vote no longer. -/
def barsCleared (s : State) : State :=
  (allLanes.filter s.taking).foldl (fun (s : State) l => s.setLane l { s.lane l with barred := false }) s

/-- TAKING of one lane. -/
def showTaking (ts : List Lane) (s : State) (l : Lane) : State := s.fput (F.LANE_STOP_TAKING l) (bit (ts.contains l))

/-- TAKING of each lane. -/
def takingShown (u : State) (ts : List Lane) : State := allLanes.foldl (showTaking ts) u

theorem showPermits_eq (s : State) : ∃ ts mask permits, ts = allLanes.filter s.taking ∧ s.showPermits =
    ((takingShown (barsCleared s) ts).fput F.STO1_STAT_TAKING mask).fput F.STO1_STAT_PERMIT permits :=
  ⟨_, _, _, rfl, rfl⟩

theorem barsCleared_spec (s : State) : (barsCleared s).regs = s.regs ∧ (barsCleared s).ssm = s.ssm := by
  refine foldl_keeps (P := fun t : State => t.regs = s.regs ∧ t.ssm = s.ssm) (fun t l ht => ?_) _ ⟨rfl, rfl⟩
  obtain ⟨hregs, hssm⟩ := ht
  have hlane : ∀ x, (t.setLane l x).ssm = t.ssm := fun x => by cases l <;> rfl
  exact ⟨(setLane_regs t l _).trans hregs, (hlane _).trans hssm⟩

theorem takingShown_kept (u : State) (ts : List Lane) : State.RegsKept permitRegs u (takingShown u ts) ∧ (takingShown u ts).ssm = u.ssm :=
  foldl_keeps (P := fun t : State => State.RegsKept permitRegs u t ∧ t.ssm = u.ssm) (fun t l ht =>
    ⟨ht.1.trans (State.RegsKept.fput t (f := F.LANE_STOP_TAKING l) _ (laneStop_mem_permitRegs l)), ht.2⟩) _ ⟨State.RegsKept.refl _ u, rfl⟩

theorem laneStop_inj {l k : Lane} (h : R.LANE_STOP l = R.LANE_STOP k) : l = k := by
  revert h; cases l <;> cases k <;> decide

theorem taking_showTaking_same (ts : List Lane) (s : State) (l : Lane) :
    (showTaking ts s l).flag (F.LANE_STOP_TAKING l) = ts.contains l := by
  rw [showTaking, State.flag, fget_fput_same _ _ _ rfl]
  cases ts.contains l <;> rfl

theorem taking_showTaking_other (ts : List Lane) (s : State) {k l : Lane} (h : l ≠ k) :
    (showTaking ts s k).flag (F.LANE_STOP_TAKING l) = s.flag (F.LANE_STOP_TAKING l) :=
  congrArg (· != 0) (fget_of_reg (reg_fput_other s (F.LANE_STOP_TAKING k) _ fun he => h (laneStop_inj he)))

theorem taking_takingShown (u : State) (ts : List Lane) (l : Lane) : (takingShown u ts).flag (F.LANE_STOP_TAKING l) = ts.contains l := by
  have hlast : takingShown u ts = showTaking ts (showTaking ts (showTaking ts u .a) .b) .c := rfl
  rw [hlast]
  cases l
  case a => rw [taking_showTaking_other _ _ (by decide), taking_showTaking_other _ _ (by decide), taking_showTaking_same]
  case b => rw [taking_showTaking_other _ _ (by decide), taking_showTaking_same]
  case c => rw [taking_showTaking_same]

theorem showPermits_spec (s : State) : State.RegsKept permitRegs s s.showPermits ∧ s.showPermits.ssm = s.ssm ∧
    ∀ l, s.showPermits.flag (F.LANE_STOP_TAKING l) = s.taking l := by
  obtain ⟨hregs, hssm⟩ := barsCleared_spec s
  obtain ⟨ts, mask, permits, hts, hshow⟩ := showPermits_eq s
  obtain ⟨hregs', hssm'⟩ := takingShown_kept (barsCleared s) ts
  have hsto1 : ∀ (u : State) (f : Field) v, f.off = R.STO1_STAT → State.RegsKept permitRegs u (u.fput f v) := fun u f v hf =>
    State.RegsKept.fput u v (by rw [hf]; decide)
  rw [hshow]
  refine ⟨?_, ?_, fun l => ?_⟩
  · exact (((State.RegsKept.of_regs hregs).trans hregs').trans (hsto1 _ F.STO1_STAT_TAKING _ rfl)).trans
      (hsto1 _ F.STO1_STAT_PERMIT _ rfl)
  · rw [fput_ssm, fput_ssm, hssm', hssm]
  · have hother : ∀ (u : State) (f : Field) v, f.off = R.STO1_STAT → (u.fput f v).flag (F.LANE_STOP_TAKING l) =
        u.flag (F.LANE_STOP_TAKING l) := fun u f v hf =>
      congrArg (· != 0) (fget_of_reg (reg_fput_other u f v (by rw [hf]; exact laneStop_ne_sto1 l)))
    have hmem : ts.contains l = s.taking l := by
      rw [hts, List.contains_eq_mem, Bool.eq_iff_iff]
      cases l <;> simp [allLanes]
    rw [hother _ _ _ rfl, hother _ _ _ rfl, taking_takingShown, hmem]

/-- The permits of the lanes that take part. -/
def permitsOf (u : State) : List (Lane × Bool) :=
  (allLanes.filter fun l => u.flag (F.LANE_STOP_TAKING l)).map fun l => (l, u.flag (F.LANE_STOP_PERMIT l))

/-- One permit differs from both others only where three lanes give one. -/
theorem length_of_oddPermit {ps : List (Lane × Bool)} {l : Lane} (h : oddPermit ps = some l) : ps.length = 3 := by
  unfold oddPermit at h
  split at h
  · rfl
  · cases h

/-- A lane that takes part votes (R266). -/
theorem isVoting_of_taking {s : State} {l : Lane} (h : s.taking l = true) : s.isVoting l = true :=
  (Bool.and_eq_true_iff.mp h).1

/-- Three lanes that take part are three voting lanes. -/
theorem voters_of_permits {u : State} (htaking : ∀ l, u.flag (F.LANE_STOP_TAKING l) = true → u.isVoting l = true)
    (h : (permitsOf u).length = 3) : u.voters.length = 3 := by
  rw [permitsOf, List.length_map] at h
  have hall := List.length_filter_eq_length_iff.mp (h.trans (by rfl : 3 = allLanes.length))
  exact congrArg List.length (List.filter_eq_self.mpr fun l hl => htaking l (hall l hl))

/-- Two permits are a majority; that two lanes give one follows (R266). -/
theorem permitMajority_eq (ps : List (Lane × Bool)) : permitMajority ps = decide (2 ≤ (ps.filter (·.2)).length) := by
  have hle := List.length_filter_le (·.2) ps
  by_cases h : 2 ≤ (ps.filter (·.2)).length
  · have hlen : 2 ≤ ps.length := h.trans hle
    simp [permitMajority, h, hlen]
  · simp [permitMajority, h]

/-! ### The heartbeat -/

theorem heartbeat_setHeartbeat (s : State) (on : Bool) : (s.setHeartbeat on).flag F.STO1_STAT_HEARTBEAT = on := by
  unfold State.setHeartbeat
  split
  · next h => exact beq_iff_eq.mp h
  · have hput : (s.fput F.STO1_STAT_HEARTBEAT (bit on)).flag F.STO1_STAT_HEARTBEAT = on := by
      rw [State.flag, fget_fput_same _ _ _ rfl]
      cases on <;> rfl
    exact hput

theorem setHeartbeat_ssm (s : State) (on : Bool) :
    (s.setHeartbeat on).ssm.sto1 = s.ssm.sto1 ∧ (s.setHeartbeat on).ssm.odd = s.ssm.odd := by
  unfold State.setHeartbeat
  split <;> exact ⟨rfl, rfl⟩

/-- The heartbeat follows the vote, and STO1 closes with it (R266). -/
def heartbeatDriven (u : State) (on bench : Bool) : State :=
  let s := (u.setHeartbeat on).fput F.STO1_STAT_BENCH_HOLD (bit bench)
  if on then { s with ssm := { s.ssm with sto1 := true } }.fput F.STO1_STAT_STO1_CLOSED 1 else s

theorem heartbeatDriven_spec (u : State) (on bench : Bool) : let v := heartbeatDriven u on bench
    v.flag F.STO1_STAT_HEARTBEAT = on ∧ v.ssm.sto1 = (on || u.ssm.sto1) ∧ (on = true → v.fget F.STO1_STAT_STO1_CLOSED = 1) ∧
    v.fget F.STO1_STAT_BENCH_HOLD = bit bench ∧ v.ssm.odd = u.ssm.odd ∧ State.RegsKept [R.STO1_STAT] u v := by
  obtain ⟨hsto1, hodd⟩ := setHeartbeat_ssm u on
  have hbeats : ((u.setHeartbeat on).fput F.STO1_STAT_BENCH_HOLD (bit bench)).flag F.STO1_STAT_HEARTBEAT = on :=
    (flag_fput_other _ _ _ _ rfl rfl rfl).trans (heartbeat_setHeartbeat u on)
  have hbench : ((u.setHeartbeat on).fput F.STO1_STAT_BENCH_HOLD (bit bench)).fget F.STO1_STAT_BENCH_HOLD = bit bench :=
    (fget_fput_same _ _ _ rfl).trans (Nat.mod_eq_of_lt (bit_lt bench))
  have hregs : State.RegsKept [R.STO1_STAT] u ((u.setHeartbeat on).fput F.STO1_STAT_BENCH_HOLD (bit bench)) := by
    have hset : State.RegsKept [R.STO1_STAT] u (u.setHeartbeat on) := fun b hb =>
      reg_setHeartbeat_other u on fun he => hb (List.mem_singleton.mpr he)
    exact hset.trans (State.RegsKept.fput _ (f := F.STO1_STAT_BENCH_HOLD) _ (by decide))
  rw [← fput_ssm (u.setHeartbeat on) F.STO1_STAT_BENCH_HOLD (bit bench)] at hsto1 hodd
  unfold heartbeatDriven
  generalize (u.setHeartbeat on).fput F.STO1_STAT_BENCH_HOLD (bit bench) = w at hbeats hbench hregs hsto1 hodd
  cases on
  case false =>
    exact ⟨hbeats, hsto1, fun h => Bool.noConfusion h, hbench, hodd, hregs⟩
  case true =>
    refine ⟨?_, rfl, fun _ => ?_, ?_, hodd, ?_⟩
    · exact (flag_fput_other _ _ _ _ rfl rfl rfl).trans hbeats
    · exact fget_fput_same _ _ _ rfl
    · exact (fget_fput_other _ _ _ _ rfl rfl rfl).trans hbench
    · have hclosed : State.RegsKept [R.STO1_STAT] w { w with ssm := { w.ssm with sto1 := true } } := State.RegsKept.of_regs rfl
      exact (hregs.trans hclosed).trans (State.RegsKept.fput _ (f := F.STO1_STAT_STO1_CLOSED) _ (by decide))

/-! ### Permits that differ -/

/-- With three lanes voting the module goes on with the two others. -/
theorem excludeCheck_three {s : State} (l : Lane) (cause : LaneCause) (task : Nat) (h : s.voters.length = 3) :
    s.excludeCheck l cause task = s.exclude l cause := by
  have hvoters : ¬ (s.exclude l cause).voters.length < 2 := by
    rw [voters_exclude, allLanes_of_three h]
    cases l <;> decide
  simp only [State.excludeCheck, excludable_of_voting (isVoting_of_three h l), hvoters, decide_false, Bool.not_true, Bool.and_false,
    Bool.false_and, Bool.false_eq_true, if_false]

/-- The onset of a difference is counted for the lane that is odd, or for both of two (R267). -/
def diffsCounted (s : State) (ps : List (Lane × Bool)) : State :=
  if (ps.any (·.2) && ps.any (fun p => !p.2)) && !s.ssm.differed then
    (match oddPermit ps with
     | some l => s.fsat (disField l)
     | none => ps.foldl (fun s p => s.fsat (disField p.1)) s)
  else s

/-- The evaluation is remembered for the next one. -/
def diffsNoted (s : State) (ps : List (Lane × Bool)) : State :=
  { diffsCounted s ps with
    ssm := { (diffsCounted s ps).ssm with odd := oddPermit ps, differed := ps.any (·.2) && ps.any (fun p => !p.2) } }

theorem permitDiffs_eq (s : State) (ps : List (Lane × Bool)) : s.permitDiffs ps = match oddPermit ps with
    | some l => if s.ssm.odd == some l then (diffsNoted s ps).excludeCheck l .disagree 0 else diffsNoted s ps
    | none => diffsNoted s ps := rfl

theorem diffsCounted_spec (s : State) (ps : List (Lane × Bool)) :
    State.RegsKept [R.STO1_DIS] s (diffsCounted s ps) ∧ (diffsCounted s ps).ssm = s.ssm := by
  have hcount : ∀ (t : State) l, State.RegsKept [R.STO1_DIS] s t ∧ t.ssm = s.ssm →
      State.RegsKept [R.STO1_DIS] s (t.fsat (disField l)) ∧ (t.fsat (disField l)).ssm = s.ssm := fun t l ht =>
    ⟨ht.1.trans (State.RegsKept.fput t (f := disField l) _ (by cases l <;> decide)), ht.2⟩
  unfold diffsCounted
  split
  · split
    · exact hcount s _ ⟨State.RegsKept.refl _ s, rfl⟩
    · exact foldl_keeps (P := fun t : State => State.RegsKept [R.STO1_DIS] s t ∧ t.ssm = s.ssm) (fun t p ht => hcount t p.1 ht) _
        ⟨State.RegsKept.refl _ s, rfl⟩
  · exact ⟨State.RegsKept.refl _ s, rfl⟩

theorem diffsNoted_spec (s : State) (ps : List (Lane × Bool)) : State.RegsKept [R.STO1_DIS] s (diffsNoted s ps) ∧
    (diffsNoted s ps).ssm.odd = oddPermit ps ∧ (diffsNoted s ps).ssm.sto1 = s.ssm.sto1 := by
  obtain ⟨hregs, hssm⟩ := diffsCounted_spec s ps
  have hsto1 : (diffsCounted s ps).ssm.sto1 = s.ssm.sto1 := by rw [hssm]
  exact ⟨hregs.trans (State.RegsKept.of_regs rfl), rfl, hsto1⟩

theorem laneState_ne_sto1Dis (l : Lane) : R.LANE_STATE l ∉ [R.STO1_DIS] := by cases l <;> decide

/-- What a comparison of permits leaves: the lane that is odd for the second time is excluded, the others stay (R267). -/
theorem permitDiffs_spec {u : State} {ps : List (Lane × Bool)} (hthree : ps.length = 3 → u.voters.length = 3) :
    let v := u.permitDiffs ps
    v.ssm.odd = oddPermit ps ∧ v.ssm.sto1 = u.ssm.sto1 ∧ v.reg R.STO1_STAT = u.reg R.STO1_STAT ∧
    (∀ l, oddPermit ps = some l → u.ssm.odd = some l → v.laneSt l = .excluded) ∧
    (∀ k, u.ssm.odd ≠ some k → v.laneSt k = u.laneSt k) := by
  obtain ⟨hregs, hodd, hsto1⟩ := diffsNoted_spec u ps
  have hst : ∀ k, (diffsNoted u ps).laneSt k = u.laneSt k := fun k => laneSt_of_reg (hregs _ (laneState_ne_sto1Dis k))
  have hstat := hregs R.STO1_STAT (by decide)
  rw [permitDiffs_eq]
  cases h : oddPermit ps with
  | none => exact ⟨hodd.trans h, hsto1, hstat, nofun, fun k _ => hst k⟩
  | some l =>
    by_cases hwas : u.ssm.odd = some l
    · have hvoters : (diffsNoted u ps).voters.length = 3 := by
        rw [voters_of_laneSt hst]
        exact hthree (length_of_oddPermit h)
      have hexcl : ((diffsNoted u ps).exclude l .disagree).ssm = (diffsNoted u ps).ssm := by rw [exclude_frame]
      obtain ⟨-, -, hkept, -⟩ := laneStep_exclude (diffsNoted u ps) l .disagree
      have hapart : R.STO1_STAT ∉ stateRegs l ++ [(exclField l 7 0).off] := by cases l <;> decide
      simp only [hwas, beq_self_eq_true, if_true, excludeCheck_three l .disagree 0 hvoters, hexcl]
      refine ⟨hodd.trans h, hsto1, (hkept _ hapart).trans hstat, fun k hk _ => ?_, fun k hk => ?_⟩
      · rw [← Option.some.inj hk]
        exact laneSt_exclude _ l _
      · exact (laneSt_exclude_other _ _ fun he => hk (by rw [he])).trans (hst k)
    · simp only [beq_eq_false_iff_ne.mpr hwas, Bool.false_eq_true, if_false]
      refine ⟨hodd.trans h, hsto1, hstat, fun k hk hk' => ?_, fun k _ => hst k⟩
      exact absurd (hk'.trans hk.symm) hwas

/-! ### PERMIT_VOTE -/

/-- The heartbeat is permitted: the vote is enabled, the module has not failed, the state is not BENCH, and two lanes permit
(R266). -/
def heartbeatDue (s : State) : Bool :=
  decide (s.flag F.VOTE_CTRL_EN = true ∧ ¬ s.flag F.VOTE_CTRL_FAILED = true ∧ s.lifecycle ≠ lcBench ∧
    2 ≤ ((permitsOf s).filter (·.2)).length)

theorem exec_permitVote (s : State) (t : Nat) : exec (.permitVote t) s = .next ((heartbeatDriven (s.tick t).showPermits
    (heartbeatDue (s.tick t).showPermits) ((s.tick t).showPermits.lifecycle == lcBench)).permitDiffs (permitsOf (s.tick t).showPermits)) := by
  have hdue : ∀ u : State, (u.flag F.VOTE_CTRL_EN && !u.flag F.VOTE_CTRL_FAILED && !(u.lifecycle == lcBench) &&
      permitMajority (permitsOf u)) = heartbeatDue u := fun u => by
    rw [permitMajority_eq, heartbeatDue, Bool.eq_iff_iff]
    simp [and_assoc]
  rw [← hdue]
  rfl

theorem permitVote_spec (s : State) (t : Nat) : Completes (.permitVote t) s fun v =>
    let u := (s.tick t).showPermits
    let on := decide (s.flag F.VOTE_CTRL_EN = true ∧ ¬ s.flag F.VOTE_CTRL_FAILED = true ∧ s.lifecycle ≠ lcBench ∧
      2 ≤ ((permitsOf u).filter (·.2)).length)
    v.flag F.STO1_STAT_HEARTBEAT = on ∧ v.ssm.sto1 = (on || s.ssm.sto1) ∧ (on = true → v.fget F.STO1_STAT_STO1_CLOSED = 1) ∧
    v.fget F.STO1_STAT_BENCH_HOLD = bit (s.lifecycle == lcBench) ∧ v.ssm.odd = oddPermit (permitsOf u) ∧
    (∀ l, u.flag (F.LANE_STOP_TAKING l) = true → s.isVoting l = true) ∧
    (∀ l, oddPermit (permitsOf u) = some l → s.ssm.odd = some l → v.laneSt l = .excluded) ∧
    (∀ k, s.ssm.odd ≠ some k → v.laneSt k = s.laneSt k) := by
  obtain ⟨hregs, hssm, htaking⟩ := showPermits_spec (s.tick t)
  have hkept : ∀ f : Field, f.off ∉ permitRegs → (s.tick t).showPermits.fget f = s.fget f := fun f hf =>
    (fget_of_reg (hregs _ hf)).trans (fget_tick s t f)
  have hst : ∀ l, (s.tick t).showPermits.laneSt l = s.laneSt l := fun l =>
    congrArg laneStOf (hkept (F.LANE_STATE_STATE l) (laneState_not_mem_permitRegs l))
  have hvoting : ∀ l, (s.tick t).showPermits.isVoting l = s.isVoting l := fun l => by simp only [State.isVoting, hst]
  have htakes : ∀ l, (s.tick t).showPermits.flag (F.LANE_STOP_TAKING l) = true → s.isVoting l = true := fun l hl => by
    rw [htaking] at hl
    exact (isVoting_tick s t l).symm.trans (isVoting_of_taking hl)
  have hdue : heartbeatDue (s.tick t).showPermits = decide (s.flag F.VOTE_CTRL_EN = true ∧ ¬ s.flag F.VOTE_CTRL_FAILED = true ∧
      s.lifecycle ≠ lcBench ∧ 2 ≤ ((permitsOf (s.tick t).showPermits).filter (·.2)).length) := by
    refine decide_eq_decide.mpr ?_
    simp only [State.flag, State.lifecycle, hkept F.VOTE_CTRL_EN (by decide), hkept F.VOTE_CTRL_FAILED (by decide),
      hkept F.SEC_STATE_LIFECYCLE (by decide)]
  have hlife : (s.tick t).showPermits.lifecycle = s.lifecycle := hkept F.SEC_STATE_LIFECYCLE (by decide)
  have hssm' : (s.tick t).showPermits.ssm = s.ssm := hssm.trans (tick_ssm s t)
  have hexec := exec_permitVote s t
  rw [hdue, hlife] at hexec
  dsimp only
  generalize decide (s.flag F.VOTE_CTRL_EN = true ∧ ¬ s.flag F.VOTE_CTRL_FAILED = true ∧
      s.lifecycle ≠ lcBench ∧ 2 ≤ ((permitsOf (s.tick t).showPermits).filter (·.2)).length) = on at hexec ⊢
  generalize (s.tick t).showPermits = u at hexec hst hvoting htakes hssm' ⊢
  obtain ⟨hbeats, hsto1, hclosed, hbench, hodd, hdriven⟩ := heartbeatDriven_spec u on (s.lifecycle == lcBench)
  have hst' : ∀ l, (heartbeatDriven u on (s.lifecycle == lcBench)).laneSt l = s.laneSt l := fun l =>
    (laneSt_of_reg (hdriven _ (by cases l <;> decide))).trans (hst l)
  have hthree : (permitsOf u).length = 3 → (heartbeatDriven u on (s.lifecycle == lcBench)).voters.length = 3 := fun h => by
    rw [voters_of_laneSt fun l => (hst' l).trans (hst l).symm]
    exact voters_of_permits (fun l hl => (hvoting l).trans (htakes l hl)) h
  obtain ⟨hodd', hsto1', hstat, hexcl, hothers⟩ := permitDiffs_spec hthree
  have hfield : ∀ f : Field, f.off = R.STO1_STAT → ((heartbeatDriven u on (s.lifecycle == lcBench)).permitDiffs (permitsOf u)).fget f =
      (heartbeatDriven u on (s.lifecycle == lcBench)).fget f := fun f hf => fget_of_reg (by rw [hf]; exact hstat)
  have hwas : (heartbeatDriven u on (s.lifecycle == lcBench)).ssm.odd = s.ssm.odd := hodd.trans (congrArg SsmState.odd hssm')
  refine ⟨_, hexec, ?_, ?_, fun hon => ?_, ?_, hodd', htakes, fun l hl hl' => ?_, fun k hk => ?_⟩
  · exact (congrArg (· != 0) (hfield F.STO1_STAT_HEARTBEAT rfl)).trans hbeats
  · rw [hsto1', hsto1, hssm']
  · rw [hfield _ rfl, hclosed hon]
  · rw [hfield _ rfl, hbench]
  · exact hexcl l hl (hwas.trans hl')
  · exact (hothers k (by rw [hwas]; exact hk)).trans (hst' k)

/-! ### STO1_HEARTBEAT_LOSS -/

/-- STO1 opens (R266). -/
def sto1Opened (u : State) : State := { u with ssm := { u.ssm with sto1 := false } }.fput F.STO1_STAT_STO1_CLOSED 0

theorem sto1HeartbeatLoss_opens {s : State} {t : Nat} (hb : ¬ s.flag F.STO1_STAT_HEARTBEAT = true)
    (hlong : s.ssm.hbAt + 1000000 ≤ (s.tick t).mono) : Completes (.sto1HeartbeatLoss t) s fun v =>
      v.ssm = { s.ssm with sto1 := false } ∧ v.fget F.STO1_STAT_STO1_CLOSED = 0 ∧ v = { s.tick t with regs := v.regs, ssm := v.ssm } ∧
      State.RegsKept [R.STO1_STAT] s v := by
  have hlost : (!(s.tick t).heartbeat && (s.tick t).hbFor 1000000) = true := by
    simp [State.heartbeat, State.hbFor, flag_tick, hb, hlong]
  refine ⟨sto1Opened (s.tick t), if_pos hlost, ?_, fget_fput_same _ _ _ rfl, rfl, ?_⟩
  · rw [sto1Opened, fput_ssm, tick_ssm]
  · exact (State.RegsKept.of_regs (tick_regs s t)).trans
      (State.RegsKept.fput { s.tick t with ssm := _ } (f := F.STO1_STAT_STO1_CLOSED) _ (by decide))

theorem exec_sto1HeartbeatLoss_beating {s : State} (t : Nat) (hb : s.flag F.STO1_STAT_HEARTBEAT = true) :
    exec (.sto1HeartbeatLoss t) s = .next (s.tick t) := by
  have hbeats : ¬ (!(s.tick t).heartbeat && (s.tick t).hbFor 1000000) = true := by simp [State.heartbeat, flag_tick, hb]
  exact if_neg hbeats

end Sys2Proof.Machine
end

section
/-! PROOF. SSM_PARAM_LOAD: a record is admitted to the parameter wires, or refused (R271, R272, R274). -/

namespace Sys2Proof.Machine

open State

/-! ### What an answer leaves unchanged of the SSM and of the clock -/

theorem AnswerStep.ssm {s t : State} (h : AnswerStep s t) : t.ssm = s.ssm := by
  obtain ⟨⟨_, _, _, _, _, _, rfl⟩, -⟩ := h
  rfl

theorem AnswerStep.mono {s t : State} (h : AnswerStep s t) : t.mono = s.mono := by
  obtain ⟨⟨_, _, _, _, _, _, rfl⟩, -⟩ := h
  rfl

/-! ### The packet and the checks of a load -/

/-- `c` carries the valid record `r` for key slot `n`, with two signatures (R271). -/
structure LoadPacket (c : Cmd) (r : List Byte) (n : Nat) : Prop where
  length : (c.params.length == 52 + sigBlockLen) = true
  slot : byteAt c.params 0 = n
  reserved : allZero (slice c.params 1 3) = true
  record : loadRecord c = r
  valid : ssmRecordOk r = true
  slotLe : n < 8

theorem loadPacket_of {c : Cmd} {r b : List Byte} {n : Byte} (hp : c.params = n :: zeros 3 ++ (r ++ b)) (hr : r.length = 48)
    (hb : b.length = 3416) (hvalid : ssmRecordOk r = true) (hn : n.toNat < 8) : LoadPacket c r n.toNat := by
  refine ⟨?_, ?_, ?_, ?_, hvalid, hn⟩
  · have hlen : c.params.length = 52 + sigBlockLen := by
      rw [hp, List.length_append, List.length_append, hr, hb]
      rfl
    rw [hlen, beq_self_eq_true]
  · rw [hp]; rfl
  · rw [hp]; rfl
  · have hskip : slice c.params (4 + 0) 48 = slice (r ++ b) 0 48 := by rw [hp]; exact slice_append_right (r ++ b) 0 48 rfl
    exact hskip.trans (slice_append_left b hr)

/-- The checks that are left of R271: the signatures, nothing locked, standstill. -/
theorem paramLoadOwn_of_packet {c : Cmd} {r : List Byte} {n : Nat} (h : LoadPacket c r n) (sigOk : Bool) (u : State) :
    paramLoadOwn c sigOk u = refuseIf (!u.slotEnrolled n || !sigOk) stSigFail noIndex (refuseIf u.ssm.record.isSome stLocked noIndex
      (refuseIf (!u.standstill && !u.loadInMotion r) stMoving noIndex .accept)) := by
  have hlow : decide (7 < n) = false := decide_eq_false (Nat.not_lt.mpr (Nat.le_of_lt_succ h.slotLe))
  have hpass : ∀ st v, refuseIf false st noIndex v = v := fun _ _ => if_neg Bool.false_ne_true
  rw [paramLoadOwn, h.slot, h.reserved, h.record, h.valid]
  simp only [Bool.not_true, hpass, hlow, Bool.false_or]

section

variable {c : Cmd} {r : List Byte} {n : Nat} {u : State}

theorem paramLoadOwn_unsigned (h : LoadPacket c r n) : paramLoadOwn c false u = .refuse stSigFail noIndex := by
  rw [paramLoadOwn_of_packet h, Bool.not_false, Bool.or_true]
  rfl

theorem paramLoadOwn_signed (h : LoadPacket c r n) (he : u.slotEnrolled n = true) :
    paramLoadOwn c true u = refuseIf u.ssm.record.isSome stLocked noIndex
      (refuseIf (!u.standstill && !u.loadInMotion r) stMoving noIndex .accept) := by
  rw [paramLoadOwn_of_packet h, he]
  rfl

theorem paramLoadOwn_locked (h : LoadPacket c r n) (he : u.slotEnrolled n = true) (hl : u.ssm.record.isSome = true) :
    paramLoadOwn c true u = .refuse stLocked noIndex := by
  rw [paramLoadOwn_signed h he, hl]
  rfl

theorem paramLoadOwn_accepts (h : LoadPacket c r n) (he : u.slotEnrolled n = true) (hl : u.ssm.record = none)
    (hs : u.standstill = true) : paramLoadOwn c true u = .accept := by
  rw [paramLoadOwn_signed h he, hl, hs]
  rfl

/-- A module that is not paired loads at standstill alone (R274). -/
theorem paramLoadOwn_moving (h : LoadPacket c r n) (he : u.slotEnrolled n = true) (hl : u.ssm.record = none)
    (hs : u.standstill = false) (hrole : u.role = roleSingle) : paramLoadOwn c true u = .refuse stMoving noIndex := by
  have hmotion : u.loadInMotion r = false := by
    rw [State.loadInMotion, hrole]
    rfl
  rw [paramLoadOwn_signed h he, hl, hs, hmotion]
  rfl

end

/-! ### Whether a command is checked depends on the queues and the sessions alone -/

/-- `t` has the queues, the sessions and the lanes of `s`. -/
structure SameFront (s t : State) : Prop where
  quill : t.quill = s.quill
  ductus : t.ductus = s.ductus
  que : t.que = s.que
  regs : State.RegsKept [R.SEC_COUNTS] s t

theorem SameFront.laneSt {s t : State} (h : SameFront s t) (l : Lane) : t.laneSt l = s.laneSt l :=
  laneSt_of_reg (h.regs _ (by cases l <;> decide))

theorem SameFront.pathOf {s t : State} (h : SameFront s t) (q : Nat) : t.pathOf q = s.pathOf q := by
  have hcfg : t.fget (F.Q_CFG_PRODUCER q) = s.fget (F.Q_CFG_PRODUCER q) := fget_of_reg (h.regs _ (by
    rw [List.mem_singleton]
    unfold F.Q_CFG_PRODUCER R.Q_CFG R.SEC_COUNTS
    dsimp only
    omega))
  simp only [State.pathOf, hcfg]

theorem SameFront.admits {s t : State} (h : SameFront s t) (c : Cmd) (lvl : Nat) : t.admits c lvl = s.admits c lvl := by
  have hvoters : t.voters = s.voters := voters_of_laneSt h.laneSt
  have hplace : ∀ x, t.queuePlace x = s.queuePlace x := fun x => by simp only [State.queuePlace, h.que]
  have hfenced : t.fenced c = s.fenced c := by
    simp only [State.fenced, State.openFences, State.isAhead, State.placedBefore, hplace, h.quill, h.ductus]
  simp only [State.admits, State.preAccepted, State.session, hvoters, hfenced, h.pathOf, h.quill]

theorem sameFront_tick (s : State) (t : Nat) : SameFront s (s.tick t) :=
  ⟨tick_quill s t, tick_ductus s t, tick_que s t, State.RegsKept.of_regs (tick_regs s t)⟩

/-- A failed signature is counted (SEC_COUNTS). -/
def sigCounted (s : State) : State := s.fsat F.SEC_COUNTS_SIG_FAILS

theorem sameFront_sigCounted (s : State) (t : Nat) : SameFront s ((sigCounted s).tick t) := by
  have hcount : State.RegsKept [R.SEC_COUNTS] s (sigCounted s) := State.RegsKept.fput s (f := F.SEC_COUNTS_SIG_FAILS) _ (by decide)
  exact ⟨tick_quill _ t, tick_ductus _ t, tick_que _ t, hcount.trans (State.RegsKept.of_regs (tick_regs _ t))⟩

theorem checkedNow_of_admits {s : State} {c : Cmd} {lvl : Nat} (op : Nat) (h : s.admits c lvl = true) :
    s.checkedNow c op lvl true = true := by
  obtain ⟨hpre, hvoters, hfence, hopen⟩ := admits_iff.mp h
  have hcheck : s.preCheck c op lvl true = .accept := by
    obtain ⟨x, hx, -, -, hblank, hlvl⟩ := hopen
    have hlow : ¬ x.level < lvl := Nat.not_lt.mpr hlvl
    simp only [State.preCheck, hx, Bool.not_true, Bool.false_eq_true, if_false, hblank, Bool.false_and, hlow]
  simp [State.checkedNow, hpre, hvoters, hfence, hopen.sessionOk, hcheck]

theorem noteLoad_signed (s : State) (c : Cmd) : s.noteLoad c true = s := by
  simp [State.noteLoad, State.noteSig]

/-- Signatures that do not verify are counted. -/
theorem noteLoad_unsigned {s : State} {c : Cmd} {r : List Byte} {n : Nat} (h : LoadPacket c r n) (he : s.slotEnrolled n = true)
    (ha : s.admits c 3 = true) : s.noteLoad c false = sigCounted s := by
  have hcheck : s.checkedNow c opSsmParamLoad lvlEngineer true = true := checkedNow_of_admits _ ha
  rw [State.noteLoad, State.noteSig, h.length, h.slot, he, paramLoadOwn_unsigned h, hcheck, beq_self_eq_true]
  rfl

/-! ### SSM_PARAM_LOAD -/

/-- An accepted load with its record, its instant that of acceptance. -/
def loadTaken (c : Cmd) (s : State) (_ : Nat) : State := s.takeLoad ⟨c, loadRecord c, s.mono⟩

/-- SSM_PARAM_LOAD from its check to its effect, once the signatures have been noted. -/
def loadRun (s : State) (c : Cmd) (sigOk : Bool) (t : Nat) : State :=
  s.runLane c t opSsmParamLoad lvlEngineer (c.params.length == 52 + sigBlockLen) (paramLoadOwn c sigOk) (loadTaken c)

theorem exec_ssmParamLoad (s : State) (c : Cmd) (sigOk : Bool) (t : Nat) :
    exec (.ssmParamLoad c sigOk t) s = .next (loadRun (s.noteLoad c sigOk) c sigOk t) := rfl

theorem exec_ssmParamLoad_signed (s : State) (c : Cmd) (t : Nat) : exec (.ssmParamLoad c true t) s = .next (loadRun s c true t) := by
  rw [exec_ssmParamLoad, noteLoad_signed]

section

variable {s : State} {c : Cmd} {r : List Byte} {n t : Nat}

/-- A load that its own check refuses is answered, and locks and queues nothing. -/
theorem loadRun_refused {sigOk : Bool} {st : Nat} (h : LoadPacket c r n) (ha : (s.tick t).admits c 3 = true)
    (hown : paramLoadOwn c sigOk ((s.tick t).touch c.session) = .refuse st noIndex) :
    AnswerStep (s.tick t) (loadRun s c sigOk t) ∧ (loadRun s c sigOk t).ssm = s.ssm ∧ (loadRun s c sigOk t).repliedWith c 0x0502 st := by
  obtain ⟨hstep, hreplied⟩ := runLane_refused_spec (op := opSsmParamLoad) (effect := loadTaken c) ha h.length hown (by decide) (by decide)
  exact ⟨hstep, hstep.ssm.trans (tick_ssm s t), hreplied⟩

/-- The check reads of the state what the touch of a session leaves. -/
theorem load_touch (s : State) (c : Cmd) (t : Nat) : let u := (s.tick t).touch c.session
    u.ssm = s.ssm ∧ (n < 8 → u.slotEnrolled n = s.slotEnrolled n) ∧ u.standstill = s.standstill ∧ u.role = s.role := by
  have hstep := answer_touch (s.tick t) c.session
  have hfield : ∀ f : Field, f.off ∉ answerRegs → ((s.tick t).touch c.session).fget f = s.fget f := fun f hf =>
    (hstep.fget hf).trans (fget_tick s t f)
  refine ⟨hstep.ssm.trans (tick_ssm s t), fun hn => ?_, ?_, ?_⟩
  · have hslot : R.SEC_SLOT n ∉ answerRegs := by
      simp only [answerRegs, R.SEC_SLOT, R.LOG_HEAD, R.QUILL_SESS, R.QUILL_ACCEPT, R.QUILL_REFUSE, List.mem_cons, List.not_mem_nil, or_false]
      omega
    simp only [State.slotEnrolled, State.flag, hfield (F.SEC_SLOT_ENROLLED n) hslot]
  · simp only [State.standstill, hfield F.SSM_STATE_MOTION (by decide)]
  · exact hfield F.DUP_STAT_ROLE (by decide)

theorem ssmParamLoad_waits (h : LoadPacket c r n) (ha : (s.tick t).admits c 3 = true) (he : s.slotEnrolled n = true)
    (hl : s.ssm.record = none) (hs : s.standstill = true) : Completes (.ssmParamLoad c true t) s fun v =>
      v.ssm = { s.ssm with loads := s.ssm.loads ++ [⟨c, r, (s.tick t).mono⟩] } ∧ v.fget F.SSM_STATE_LOCKED = s.fget F.SSM_STATE_LOCKED := by
  obtain ⟨hssm, hslot, hstand, -⟩ := load_touch (n := n) s c t
  have hown : paramLoadOwn c true ((s.tick t).touch c.session) = .accept :=
    paramLoadOwn_accepts h ((hslot h.slotLe).trans he) (by rw [hssm]; exact hl) (hstand.trans hs)
  have htaken := answer_taken (s.tick t) c opSsmParamLoad
  have hssm' : ((s.tick t).taken c opSsmParamLoad).ssm = s.ssm := htaken.ssm.trans (tick_ssm s t)
  have hrun : loadRun s c true t = loadTaken c ((s.tick t).taken c opSsmParamLoad) (s.tick t).now := runLane_accepts ha h.length hown
  refine ⟨_, exec_ssmParamLoad_signed s c t, ?_⟩
  rw [hrun, loadTaken, State.takeLoad, hssm', hl, h.record, htaken.mono]
  exact ⟨rfl, (htaken.fget (f := F.SSM_STATE_LOCKED) (by decide)).trans (fget_tick s t _)⟩

theorem ssmParamLoad_moving (h : LoadPacket c r n) (ha : (s.tick t).admits c 3 = true) (he : s.slotEnrolled n = true)
    (hl : s.ssm.record = none) (hs : ¬ s.standstill = true) (hp : ¬ s.paired = true) : Completes (.ssmParamLoad c true t) s fun v =>
      v.ssm = s.ssm ∧ v.repliedWith c 0x0502 stMoving := by
  obtain ⟨hssm, hslot, hstand, hrole⟩ := load_touch (n := n) s c t
  have hown : paramLoadOwn c true ((s.tick t).touch c.session) = .refuse stMoving noIndex :=
    paramLoadOwn_moving h ((hslot h.slotLe).trans he) (by rw [hssm]; exact hl) (hstand.trans (Bool.eq_false_iff.mpr hs))
      (hrole.trans (role_of_unpaired hp))
  exact ⟨_, exec_ssmParamLoad_signed s c t, (loadRun_refused h ha hown).2⟩

theorem ssmParamLoad_locked (h : LoadPacket c r n) (ha : (s.tick t).admits c 3 = true) (he : s.slotEnrolled n = true)
    (hl : s.ssm.record.isSome = true) : Completes (.ssmParamLoad c true t) s fun v => v.ssm = s.ssm ∧ v.repliedWith c 0x0502 stLocked := by
  obtain ⟨hssm, hslot, -, -⟩ := load_touch (n := n) s c t
  have hown : paramLoadOwn c true ((s.tick t).touch c.session) = .refuse stLocked noIndex :=
    paramLoadOwn_locked h ((hslot h.slotLe).trans he) (by rw [hssm]; exact hl)
  exact ⟨_, exec_ssmParamLoad_signed s c t, (loadRun_refused h ha hown).2⟩

theorem ssmParamLoad_unsigned (h : LoadPacket c r n) (ha : (s.tick t).admits c 3 = true) (he : s.slotEnrolled n = true) :
    Completes (.ssmParamLoad c false t) s fun v => v.ssm = s.ssm ∧ v.repliedWith c 0x0502 stSigFail ∧
      v.fget F.SEC_COUNTS_SIG_FAILS = min (s.fget F.SEC_COUNTS_SIG_FAILS + 1) 0xFFFF := by
  have hadmits : s.admits c 3 = true := ((sameFront_tick s t).admits c 3).symm.trans ha
  have hcounted : ((sigCounted s).tick t).admits c 3 = true := ((sameFront_sigCounted s t).admits c 3).trans hadmits
  obtain ⟨hstep, hssm, hreplied⟩ := loadRun_refused h hcounted (paramLoadOwn_unsigned h)
  refine ⟨_, exec_ssmParamLoad s c false t, ?_⟩
  rw [noteLoad_unsigned h he hadmits]
  refine ⟨hssm, hreplied, ?_⟩
  rw [hstep.fget (by decide), fget_tick]
  exact fget_fsat s F.SEC_COUNTS_SIG_FAILS rfl

end

end Sys2Proof.Machine
end

section
/-! PROOF. SSM_PARAM_LOCK and SSM_LOCK_TIMEOUT: the SSM locks one record, once, and the lanes compare (R272, R273); the
obligation on permits and parameters. -/

namespace Sys2Proof.Machine

open State

/-! ### The comparison of the lanes -/

/-- The locked record is the running folio's SSMDECL (R273). -/
def recordMatches (s : State) : Bool :=
  match s.ssm.record, s.folio.running with
  | some r, some f => r == f.ssmDecl
  | _, _ => false

theorem recordMatches_locked {s : State} {r : List Byte} (h : s.ssm.record = some r) :
    recordMatches s = (match s.folio.running with | some f => r == f.ssmDecl | none => false) := by
  unfold recordMatches
  rw [h]
  cases s.folio.running <;> rfl

theorem compareStop_eq (s : State) (l : Lane) : s.compareStop l = s.fput (F.LANE_STOP_MATCH l) (bit (recordMatches s)) := rfl

theorem match_compareStop_same (s : State) (l : Lane) : (s.compareStop l).flag (F.LANE_STOP_MATCH l) = recordMatches s := by
  rw [compareStop_eq, State.flag, fget_fput_same _ _ _ rfl]
  cases recordMatches s <;> rfl

theorem match_compareStop_other (s : State) {k l : Lane} (h : l ≠ k) :
    (s.compareStop k).flag (F.LANE_STOP_MATCH l) = s.flag (F.LANE_STOP_MATCH l) :=
  congrArg (· != 0) (fget_of_reg (reg_fput_other s (F.LANE_STOP_MATCH k) _ fun he => h (laneStop_inj he)))

/-- `t` differs from `s` by comparisons of the lanes alone. -/
structure ComparesOnly (s t : State) : Prop where
  frame : t = { s with regs := t.regs }
  regs : State.RegsKept (allLanes.map R.LANE_STOP) s t

theorem ComparesOnly.ssm {s t : State} (h : ComparesOnly s t) : t.ssm = s.ssm := by rw [h.frame]

theorem ComparesOnly.recordMatches {s t : State} (h : ComparesOnly s t) : recordMatches t = recordMatches s := by
  have hfolio : t.folio = s.folio := by rw [h.frame]
  simp only [Machine.recordMatches, h.ssm, hfolio]

theorem ComparesOnly.repliedWith {s t : State} (h : ComparesOnly s t) {c : Cmd} {op status : Nat} (hr : s.repliedWith c op status) :
    t.repliedWith c op status := by
  have hquill : t.quill = s.quill := by rw [h.frame]
  rwa [State.repliedWith, hquill]

theorem ComparesOnly.compareStop {s t : State} (h : ComparesOnly s t) (l : Lane) : ComparesOnly s (t.compareStop l) := by
  refine ⟨?_, h.regs.trans (State.RegsKept.fput t (f := F.LANE_STOP_MATCH l) _ (by cases l <;> decide))⟩
  rw [compareStop_eq]
  exact congrArg (fun u : State => u.fput (F.LANE_STOP_MATCH l) (bit (Machine.recordMatches t))) h.frame

theorem comparesOnly_compareStops (s : State) : ComparesOnly s s.compareStops :=
  foldl_keeps (P := ComparesOnly s) (k := fun (s : State) l => s.compareStop l) (fun _ l ht => ht.compareStop l) _
    ⟨rfl, State.RegsKept.refl _ s⟩

theorem match_compareStops {s : State} {l : Lane} (h : s.powered (pdLane l) = true) :
    s.compareStops.flag (F.LANE_STOP_MATCH l) = recordMatches s := by
  have hmem : l ∈ allLanes.filter fun l => s.powered (pdLane l) := List.mem_filter.mpr ⟨by cases l <;> decide, h⟩
  have hreached := foldl_reaches (P := ComparesOnly s) (Q := fun t => ComparesOnly s t ∧ t.flag (F.LANE_STOP_MATCH l) = recordMatches s)
    (k := fun (s : State) l => s.compareStop l) (fun _ k ht => ht.compareStop k) (fun t k ht => ?_) (a := l) (fun t ht => ?_) _ s hmem
    ⟨rfl, State.RegsKept.refl _ s⟩
  · exact hreached.2
  · obtain ⟨honly, hmatch⟩ := ht
    refine ⟨honly.compareStop k, ?_⟩
    by_cases hk : l = k
    · rw [← hk, match_compareStop_same, honly.recordMatches]
    · rw [match_compareStop_other t hk, hmatch]
  · exact ⟨ht.compareStop l, (match_compareStop_same t l).trans ht.recordMatches⟩

/-! ### A record is locked -/

/-- The SSM has locked the record of `p`, and its CRC is read back (R272). -/
def recordLocked (u : State) (p : ParamLoad) (path : StopPath) : State :=
  ({ u with ssm := { u.ssm with record := some p.record, loads := [], path := path } }.fput F.SSM_PARAM_CRC_CRC
    (leAt p.record 44 4)).fput F.SSM_STATE_LOCKED 1

/-- The SSM with a new record is in HELD (R272). -/
def lockHeld (u : State) (p : ParamLoad) (path : StopPath) : State :=
  (recordLocked u p path).putSsm stHeld ((recordLocked u p path).fget F.SSM_STATE_CAUSE)

theorem lockHeld_ssm (u : State) (p : ParamLoad) (path : StopPath) :
    (lockHeld u p path).ssm = { u.ssm with record := some p.record, loads := [], path := path, sto2 := false } := by
  rw [lockHeld, putSsm_ssm]
  rfl

theorem putSsm_folio (s : State) (st cause : Nat) : (s.putSsm st cause).folio = s.folio := by
  have hentered : (ssmEntered s st cause).folio = s.folio := by simp only [ssmEntered, fput_folio]
  rw [(logged_putSsm s st cause).frame]
  exact hentered

theorem lockHeld_folio (u : State) (p : ParamLoad) (path : StopPath) : (lockHeld u p path).folio = u.folio := by
  rw [lockHeld, putSsm_folio, recordLocked, fput_folio, fput_folio]

theorem lockHeld_shows (u : State) (p : ParamLoad) (path : StopPath) : let v := lockHeld u p path
    v.fget F.SSM_STATE_STATE = 1 ∧ v.fget F.SSM_STATE_LOCKED = 1 ∧ v.fget F.SSM_PARAM_CRC_CRC = leAt p.record 44 4 := by
  obtain ⟨hstate, -, -, -, -, hlocked⟩ := putSsm_shows (recordLocked u p path) (st := stHeld) (by decide)
    ((recordLocked u p path).fget_lt F.SSM_STATE_CAUSE)
  refine ⟨hstate, hlocked.trans (fget_fput_same _ _ _ rfl), ?_⟩
  rw [lockHeld, fget_putSsm_other _ _ _ (by decide) (by decide) (by decide) (by decide), recordLocked,
    fget_fput_other _ _ _ _ rfl rfl rfl, fget_fput_same _ _ _ rfl]
  exact Nat.mod_eq_of_lt (leAt_lt p.record 44 4)

theorem lockHeld_powered (u : State) (p : ParamLoad) (path : StopPath) (d : Nat) : (lockHeld u p path).powered d = u.powered d := by
  have hon : (lockHeld u p path).fget F.RPC_PD_STAT_ON = u.fget F.RPC_PD_STAT_ON := by
    rw [lockHeld, fget_putSsm_other _ _ _ (by decide) (by decide) (by decide) (by decide), recordLocked,
      fget_of_reg (reg_fput_other _ F.SSM_STATE_LOCKED _ (by decide)), fget_of_reg (reg_fput_other _ F.SSM_PARAM_CRC_CRC _ (by decide))]
    rfl
  simp only [State.powered, hon]

/-! ### The loads that waited are answered -/

theorem answer_lateLoad (s : State) (r : List Byte) (q : ParamLoad) : AnswerStep s (s.lateLoad r q) ∧
    (s.lateLoad r q).repliedWith q.cmd 0x0502 (if q.record = r then 0 else stLocked) := by
  unfold State.lateLoad
  by_cases h : q.record = r
  · rw [if_pos (beq_iff_eq.mpr h), if_pos h]
    exact ⟨answer_replyOk s q.cmd opSsmParamLoad, (answers_reply s q.cmd opSsmParamLoad stOk []).repliedWith⟩
  · rw [if_neg (by simpa using h), if_neg h]
    have hanswer := answers_reply s q.cmd opSsmParamLoad stLocked (indexParams noIndex)
    exact ⟨hanswer.1, hanswer.repliedWith⟩

/-- The later loads are answered by the record that has locked (R272). -/
def lateLoads (r : List Byte) (qs : List ParamLoad) (s : State) : State := qs.foldl (fun s q => s.lateLoad r q) s

theorem answer_lateLoads (r : List Byte) (qs : List ParamLoad) (s : State) : AnswerStep s (lateLoads r qs s) :=
  AnswerStep.foldl (fun u q => (answer_lateLoad u r q).1) qs s

theorem repliedWith_lateLoads (r : List Byte) {qs : List ParamLoad} {q : ParamLoad} (hq : q ∈ qs) (s : State) :
    (lateLoads r qs s).repliedWith q.cmd 0x0502 (if q.record = r then 0 else stLocked) := by
  induction qs generalizing s with
  | nil => exact absurd hq List.not_mem_nil
  | cons d ds ih =>
    obtain rfl | hmem := List.mem_cons.mp hq
    · exact (answer_lateLoads r ds _).repliedWith (answer_lateLoad s r q).2
    · exact ih hmem _

/-- The first load is answered OK, and the later ones by its record. -/
def lockAnswered (u : State) (p : ParamLoad) (rest : List ParamLoad) : State := lateLoads p.record rest (u.replyOk p.cmd opSsmParamLoad)

theorem lockAnswered_spec (u : State) (p : ParamLoad) (rest : List ParamLoad) : let v := lockAnswered u p rest
    AnswerStep u v ∧ v.repliedWith p.cmd 0x0502 0 ∧ ∀ q ∈ rest, v.repliedWith q.cmd 0x0502 (if q.record = p.record then 0 else stLocked) := by
  have hfirst := answers_reply u p.cmd opSsmParamLoad stOk []
  have hlate := answer_lateLoads p.record rest (u.replyOk p.cmd opSsmParamLoad)
  exact ⟨hfirst.1.trans hlate, hlate.repliedWith hfirst.repliedWith, fun q hq => repliedWith_lateLoads p.record hq _⟩

/-! ### SSM_PARAM_LOCK -/

section

variable {s : State} {p : ParamLoad} {rest : List ParamLoad} {t : Nat}

theorem exec_ssmParamLock_locks (hloads : s.ssm.loads = p :: rest) (hr : s.ssm.record = none) (hv : 2 ≤ s.voters.length)
    (hp : s.powered pdSsm = true) (ht : (s.tick t).mono ≤ p.since + 10000000) : ∃ path, exec (.ssmParamLock t) s =
      .next (lockAnswered (lockHeld (s.tick t) p path) p rest).compareStops := by
  have hloads' : (s.tick t).ssm.loads = p :: rest := by rw [tick_ssm, hloads]
  have hv' : 1 < s.voters.length := hv
  have hruns : ((s.tick t).ssm.record.isSome || decide ((s.tick t).voters.length < 2) || !(s.tick t).powered pdSsm ||
      decide (p.since + 10000000 < (s.tick t).mono)) = false := by
    simp [hr, hp, hv', ht]
  have hexec : exec (.ssmParamLock t) s = execSsmParamLock t s := rfl
  rw [hexec, execSsmParamLock]
  dsimp only
  rw [hloads']
  dsimp only
  rw [hruns, if_neg Bool.false_ne_true]
  exact ⟨_, rfl⟩

theorem ssmParamLock_locks (hloads : s.ssm.loads = p :: rest) (hr : s.ssm.record = none) (hv : 2 ≤ s.voters.length)
    (hp : s.powered pdSsm = true) (ht : (s.tick t).mono ≤ p.since + 10000000) : Completes (.ssmParamLock t) s fun v =>
      v.ssm.record = some p.record ∧ v.ssm.loads = [] ∧ ¬ v.ssm.sto2 = true ∧ v.fget F.SSM_STATE_STATE = 1 ∧
      v.fget F.SSM_STATE_LOCKED = 1 ∧ v.fget F.SSM_PARAM_CRC_CRC = leAt p.record 44 4 ∧ v.repliedWith p.cmd 0x0502 0 ∧
      (∀ q ∈ rest, v.repliedWith q.cmd 0x0502 (if q.record = p.record then 0 else stLocked)) ∧
      ∀ l, s.powered (pdLane l) = true → v.flag (F.LANE_STOP_MATCH l) =
        (match s.folio.running with | some f => p.record == f.ssmDecl | none => false) := by
  obtain ⟨path, hexec⟩ := exec_ssmParamLock_locks hloads hr hv hp ht
  obtain ⟨hstate, hlocked, hcrc⟩ := lockHeld_shows (s.tick t) p path
  obtain ⟨hstep, hfirst, hlater⟩ := lockAnswered_spec (lockHeld (s.tick t) p path) p rest
  have honly := comparesOnly_compareStops (lockAnswered (lockHeld (s.tick t) p path) p rest)
  have hssm := hstep.ssm.trans (lockHeld_ssm (s.tick t) p path)
  have hfield : ∀ f : Field, f.off ∉ allLanes.map R.LANE_STOP → f.off ∉ answerRegs →
      (lockAnswered (lockHeld (s.tick t) p path) p rest).compareStops.fget f = (lockHeld (s.tick t) p path).fget f := fun f hl ha =>
    (fget_of_reg (honly.regs _ hl)).trans (hstep.fget ha)
  refine ⟨_, hexec, ?_, ?_, ?_, ?_, ?_, ?_, honly.repliedWith hfirst, fun q hq => honly.repliedWith (hlater q hq), fun l hl => ?_⟩
  · rw [honly.ssm, hssm]
  · rw [honly.ssm, hssm]
  · rw [honly.ssm, hssm]
    exact Bool.false_ne_true
  · rw [hfield _ (by decide) (by decide), hstate]
  · rw [hfield _ (by decide) (by decide), hlocked]
  · rw [hfield _ (by decide) (by decide), hcrc]
  · have hpower : (lockAnswered (lockHeld (s.tick t) p path) p rest).powered (pdLane l) = true := by
      rw [State.powered, hstep.fget (f := F.RPC_PD_STAT_ON) (by decide)]
      exact (lockHeld_powered (s.tick t) p path _).trans ((powered_tick s t _).trans hl)
    have hrecord : (lockAnswered (lockHeld (s.tick t) p path) p rest).ssm.record = some p.record := by rw [hssm]
    rw [match_compareStops hpower, recordMatches_locked hrecord, hstep.folio, lockHeld_folio, tick_folio]

/-- After its 10 ms a load no longer locks (R272). -/
theorem exec_ssmParamLock_late (hloads : s.ssm.loads = p :: rest) (ht : p.since + 10000000 < (s.tick t).mono) :
    exec (.ssmParamLock t) s = .next (s.tick t) := by
  have hloads' : (s.tick t).ssm.loads = p :: rest := by rw [tick_ssm, hloads]
  have hlate : ((s.tick t).ssm.record.isSome || decide ((s.tick t).voters.length < 2) || !(s.tick t).powered pdSsm ||
      decide (p.since + 10000000 < (s.tick t).mono)) = true := by simp [ht]
  have hexec : exec (.ssmParamLock t) s = execSsmParamLock t s := rfl
  rw [hexec, execSsmParamLock]
  dsimp only
  rw [hloads']
  dsimp only
  rw [hlate, if_pos rfl]

/-! ### SSM_LOCK_TIMEOUT -/

/-- The load behind one that has timed out begins its own 10 ms (R272). -/
def loadsFrom (now : Nat) : List ParamLoad → List ParamLoad
  | q :: qs => { q with since := now } :: qs
  | [] => []

theorem loadsFrom_cmds (now : Nat) (qs : List ParamLoad) : (loadsFrom now qs).map (·.cmd) = qs.map (·.cmd) := by
  cases qs <;> rfl

/-- The first load is gone. -/
def loadDropped (u : State) (rest : List ParamLoad) : State := { u with ssm := { u.ssm with loads := loadsFrom u.mono rest } }

theorem exec_ssmLockTimeout_due (hloads : s.ssm.loads = p :: rest) (ht : p.since + 10000000 ≤ (s.tick t).mono) :
    exec (.ssmLockTimeout t) s = .next ((loadDropped (s.tick t) rest).replyErr p.cmd opSsmParamLoad stTimeout noIndex) := by
  have hloads' : (s.tick t).ssm.loads = p :: rest := by rw [tick_ssm, hloads]
  have hexec : exec (.ssmLockTimeout t) s = execSsmLockTimeout t s := rfl
  rw [hexec, execSsmLockTimeout]
  dsimp only
  rw [hloads']
  dsimp only
  rw [if_neg (Nat.not_lt.mpr ht)]
  cases rest <;> rfl

theorem ssmLockTimeout_due (hloads : s.ssm.loads = p :: rest) (ht : p.since + 10000000 ≤ (s.tick t).mono) :
    Completes (.ssmLockTimeout t) s fun v => v.repliedWith p.cmd 0x0502 stTimeout ∧ v.ssm.record = s.ssm.record ∧
      v.ssm.loads.map (·.cmd) = rest.map (·.cmd) := by
  have hanswer := answers_reply (loadDropped (s.tick t) rest) p.cmd opSsmParamLoad stTimeout (indexParams noIndex)
  have hssm := hanswer.1.ssm
  refine ⟨_, exec_ssmLockTimeout_due hloads ht, hanswer.repliedWith, ?_, ?_⟩
  · have hkept : (loadDropped (s.tick t) rest).ssm.record = (s.tick t).ssm.record := rfl
    rw [State.replyErr, hssm, hkept, tick_ssm]
  · rw [State.replyErr, hssm]
    exact loadsFrom_cmds _ rest

end

/-! ### The obligation -/

/-- Settles O38: the vote, the loss of the heartbeat, the admission of a record and its lock are taken each from the lemma over
the command. -/
theorem permitsAreVotedAndParametersLocked : Obligations.PermitsAreVotedAndParametersLocked := by
  unfold Obligations.PermitsAreVotedAndParametersLocked
  refine ⟨permitVote_spec, fun s t => sto1HeartbeatLoss_opens, fun s t => exec_sto1HeartbeatLoss_beating t, ?_,
    fun s p rest t => ssmParamLock_locks, fun s p rest t => exec_ssmParamLock_late, fun s p rest t => ssmLockTimeout_due⟩
  intro s c r b n t hadmits hparams hr hb hvalid hn hslot
  have hpacket := loadPacket_of hparams hr hb hvalid hn
  exact ⟨ssmParamLoad_waits hpacket hadmits hslot, ssmParamLoad_moving hpacket hadmits hslot, ssmParamLoad_locked hpacket hadmits hslot,
    ssmParamLoad_unsigned hpacket hadmits hslot⟩

end Sys2Proof.Machine
end

section
/-! PROOF. The inkwell (R291, R295 to R298): cells that pass between the books, the egress queues, and what the end of a frame's
reference leaves of both. -/

namespace Sys2Proof.Machine

open State

/-! ### Cells pass between the books -/

section

variable (s : State) {src dst : Field} (n : Nat) (hs : fieldOk src = true) (hd : fieldOk dst = true)
include hs hd

theorem fget_moveCells_src (h : bitsApart src dst = true) : (s.moveCells src dst n).fget src = s.fget src - n := by
  rw [State.moveCells, fget_fput_other _ _ _ _ hd hs h, fget_fput_same _ _ _ hs]
  exact Nat.mod_eq_of_lt (Nat.lt_of_le_of_lt (Nat.sub_le _ _) (fget_lt s src))

theorem fget_moveCells_dst (h : bitsApart dst src = true) (hfit : s.fget dst + n < 2 ^ (dst.hi - dst.lo + 1)) :
    (s.moveCells src dst n).fget dst = s.fget dst + n := by
  rw [State.moveCells, fget_fput_same _ _ _ hd, fget_fput_other _ _ _ _ hs hd h]
  exact Nat.mod_eq_of_lt hfit

theorem fget_moveCells_other {g : Field} (hg : fieldOk g = true) (h : bitsApart g src = true) (h' : bitsApart g dst = true) :
    (s.moveCells src dst n).fget g = s.fget g := by
  rw [State.moveCells, fget_fput_other _ _ _ _ hd hg h', fget_fput_other _ _ _ _ hs hg h]

end

/-- The registers of the books: the free cells of the shared pool and of each reserve, and what each holder holds. -/
def bookRegs : List Nat :=
  [R.INK_FREE_SHARED, R.INK_HELD_INGRESS, R.INK_HELD_QUEUES, R.INK_HELD_ENGINE] ++ (List.range 7).map R.INK_RES_FREE

/-- They lie above the registers of the switch. -/
theorem not_mem_bookRegs {a : Nat} (h : a < 0xB0010) : a ∉ bookRegs := by
  intro hm
  obtain hm | hm := List.mem_append.mp hm
  · simp only [R.INK_FREE_SHARED, R.INK_HELD_INGRESS, R.INK_HELD_QUEUES, R.INK_HELD_ENGINE, List.mem_cons, List.not_mem_nil, or_false] at hm
    omega
  · obtain ⟨i, -, rfl⟩ := List.mem_map.mp hm
    unfold R.INK_RES_FREE at h
    omega

theorem regsKept_moveCells (s : State) {src dst : Field} (n : Nat) (hs : src.off ∈ bookRegs) (hd : dst.off ∈ bookRegs) :
    State.RegsKept bookRegs s (s.moveCells src dst n) := (State.RegsKept.fput s _ hs).trans (State.RegsKept.fput _ _ hd)

theorem poolField_mem_bookRegs {i : Nat} (shared : Bool) (h : i ≤ 6) : (poolField i shared).off ∈ bookRegs := by
  cases shared
  · exact List.mem_append_right _ (List.mem_map_of_mem (List.mem_range.mpr (Nat.lt_succ_of_le h)))
  · exact List.mem_append_left _ List.mem_cons_self

theorem holder_mem_bookRegs {f : NetFrame} {k : Field} (h : f.holder = some k) : k.off ∈ bookRegs := by
  unfold NetFrame.holder at h
  split at h
  · cases h
    decide
  · split at h <;> cases h
    decide

/-! ### The egress queues -/

theorem assoc_getD {α : Type} (d : α) (m : List (Nat × α)) (a : Nat) : (assoc m a).getD d = cellGet d m a := by
  induction m with
  | nil => rfl
  | cons e m ih =>
    obtain ⟨b, v⟩ := e
    by_cases h : a = b <;> simp [assoc, cellGet, h, ih]

theorem assoc_cellSet_same {α : Type} [DecidableEq α] {d v : α} (m : List (Nat × α)) (a : Nat) (h : v ≠ d) :
    assoc (cellSet d m a v) a = some v := by
  rw [cellSet, if_neg h, assoc_cellIns_same]

theorem queue_eq (n : NetState) (p c : Nat) : n.queue p c = cellGet [] n.queues (8 * p + c) := assoc_getD _ _ _

theorem queue_setQueue_same (s : State) (p c : Nat) (q : List Nat) : (s.setQueue p c q).net.queue p c = q := by
  rw [queue_eq]
  exact cellGet_cellSet_same _ _ _ _

theorem queue_setQueue_other (s : State) {p c p' c' : Nat} (q : List Nat) (h : 8 * p' + c' ≠ 8 * p + c) :
    (s.setQueue p c q).net.queue p' c' = s.net.queue p' c' := by
  rw [queue_eq, queue_eq]
  exact cellGet_cellSet_other _ _ _ _ h

/-- A queue is one of a port and a class below 8. -/
theorem queueKey_ne {p c p' c' : Nat} (hc : c < 8) (hc' : c' < 8) (h : p' ≠ p ∨ c' ≠ c) : 8 * p' + c' ≠ 8 * p + c := by omega

theorem classOf_lt (pcp : Nat) : classOf pcp < 8 := by
  unfold classOf
  rw [List.getD_eq_getElem?_getD]
  rcases Nat.lt_or_ge pcp 8 with h | h
  · interval_cases pcp <;> decide
  · rw [List.getElem?_eq_none (by simpa using h)]
    decide

/-! ### A frame of the inkwell is changed -/

/-- The frames with one changed: gone when nothing holds it. -/
def framesPut (fs : List NetFrame) (new : NetFrame) : List NetFrame :=
  match new.holder with
  | some _ => fs.map fun g => if g.id == new.id then new else g
  | none => fs.filter (·.id != new.id)

/-- The book that a changed frame's cells leave. -/
def movedFrom (old : NetFrame) : Field := old.holder.getD F.INK_HELD_INGRESS_CELLS

/-- The book that they enter: their holder's, or else their pool's (R295, R297). -/
def movedTo (new : NetFrame) : Field := new.holder.getD (poolField new.port new.shared)

theorem putFrame_eq (s : State) (old new : NetFrame) : s.putFrame old new =
    let u : State := { s with net := { s.net with frames := framesPut s.net.frames new } }
    if movedFrom old == movedTo new then u else u.moveCells (movedFrom old) (movedTo new) new.cells := rfl

theorem putFrame_net (s : State) (old new : NetFrame) :
    (s.putFrame old new).net = { s.net with frames := framesPut s.net.frames new } := by
  rw [putFrame_eq]
  dsimp only
  split <;> rfl

theorem putFrame_moves (s : State) {old new : NetFrame} {src dst : Field} (hsrc : movedFrom old = src) (hdst : movedTo new = dst)
    (h : src ≠ dst) : (s.putFrame old new).regs = (s.moveCells src dst new.cells).regs := by
  have hne : (src == dst) = false := beq_eq_false_iff_ne.mpr h
  rw [putFrame_eq, hsrc, hdst, hne]
  rfl

theorem movedFrom_mem_bookRegs (f : NetFrame) : (movedFrom f).off ∈ bookRegs := by
  unfold movedFrom
  cases h : f.holder with
  | none => decide
  | some k => exact holder_mem_bookRegs h

theorem movedTo_mem_bookRegs {f : NetFrame} (hp : f.port ≤ 6) : (movedTo f).off ∈ bookRegs := by
  unfold movedTo
  cases h : f.holder with
  | none => exact poolField_mem_bookRegs f.shared hp
  | some k => exact holder_mem_bookRegs h

theorem regsKept_putFrame (s : State) (old : NetFrame) {new : NetFrame} (hp : new.port ≤ 6) :
    State.RegsKept bookRegs s (s.putFrame old new) := by
  have hframes : State.RegsKept bookRegs s { s with net := { s.net with frames := framesPut s.net.frames new } } :=
    State.RegsKept.of_regs rfl
  rw [putFrame_eq]
  dsimp only
  split
  · exact hframes
  · exact hframes.trans (regsKept_moveCells _ _ (movedFrom_mem_bookRegs old) (movedTo_mem_bookRegs hp))

/-- A frame changed stays one of the same ingress port. -/
theorem port_of_mem_framesPut {fs : List NetFrame} {new g : NetFrame} (hnew : new.port ≤ 6) (hfs : ∀ f ∈ fs, f.port ≤ 6)
    (h : g ∈ framesPut fs new) : g.port ≤ 6 := by
  unfold framesPut at h
  split at h
  · obtain ⟨f, hf, rfl⟩ := List.mem_map.mp h
    split
    · exact hnew
    · exact hfs f hf
  · exact hfs g (List.mem_of_mem_filter h)

theorem frame_mem {n : NetState} {id : Nat} {f : NetFrame} (h : n.frame id = some f) : f ∈ n.frames := List.mem_of_find?_eq_some h

/-! ### A reference ends (R297) -/

/-- A frame taken out of a queue, at the instant now. -/
def unqueued (s : State) (id p c : Nat) : State :=
  let s := s.setQueue p c ((s.net.queue p c).filter (· != id))
  { s with net := { s.net with quiet := cellIns s.net.quiet p s.now } }

/-- The frame without its reference at a port. -/
def refDropped (f : NetFrame) (p : Nat) : NetFrame := { f with refs := f.refs.filter (· != p) }

theorem dropRef_eq (s : State) (id p c : Nat) : s.dropRef id p c = match s.net.frame id with
    | none => unqueued s id p c
    | some f => (unqueued s id p c).putFrame f (refDropped f p) := rfl

theorem dropRef_some {s : State} {id : Nat} {f : NetFrame} (p c : Nat) (h : s.net.frame id = some f) :
    s.dropRef id p c = (unqueued s id p c).putFrame f (refDropped f p) := by
  rw [dropRef_eq, h]

theorem dropRef_none {s : State} {id : Nat} (p c : Nat) (h : s.net.frame id = none) : s.dropRef id p c = unqueued s id p c := by
  rw [dropRef_eq, h]

/-- Of the switch, the end of a reference changes the queue, the instant at which the port was last busy, and the frames. -/
theorem dropRef_net (s : State) (id p c : Nat) :
    (s.dropRef id p c).net = { (unqueued s id p c).net with frames := (s.dropRef id p c).net.frames } := by
  cases h : s.net.frame id with
  | none => rw [dropRef_none p c h]
  | some f => rw [dropRef_some p c h, putFrame_net]

theorem dropRef_tx (s : State) (id p c : Nat) : (s.dropRef id p c).net.tx = s.net.tx := by rw [dropRef_net]; rfl

theorem dropRef_sent (s : State) (id p c : Nat) : (s.dropRef id p c).net.sent = s.net.sent := by rw [dropRef_net]; rfl

theorem queue_dropRef_same (s : State) (id p c : Nat) : (s.dropRef id p c).net.queue p c = (s.net.queue p c).filter (· != id) := by
  rw [dropRef_net]
  exact queue_setQueue_same s p c _

theorem queue_dropRef_subset (s : State) (id p c q k : Nat) : (s.dropRef id p c).net.queue q k ⊆ s.net.queue q k := by
  rw [dropRef_net]
  show (s.setQueue p c ((s.net.queue p c).filter (· != id))).net.queue q k ⊆ _
  by_cases h : 8 * q + k = 8 * p + c
  · rw [queue_eq, h, ← queue_eq, queue_setQueue_same, queue_eq s.net q k, h, ← queue_eq]
    exact List.filter_subset_self _
  · rw [queue_setQueue_other s _ h]
    exact List.Subset.refl _

/-- Every frame of the inkwell came in at a port of the switch. -/
def PortsOk (s : State) : Prop := ∀ f ∈ s.net.frames, f.port ≤ 6

theorem PortsOk.dropRef {s : State} (h : PortsOk s) (id p c : Nat) : PortsOk (s.dropRef id p c) := by
  intro g hg
  cases hf : s.net.frame id with
  | none =>
    rw [dropRef_none p c hf] at hg
    exact h g hg
  | some f =>
    rw [dropRef_some p c hf, putFrame_net] at hg
    exact port_of_mem_framesPut (new := refDropped f p) (h f (frame_mem hf)) h hg

theorem regsKept_dropRef {s : State} (h : PortsOk s) (id p c : Nat) : State.RegsKept bookRegs s (s.dropRef id p c) := by
  have hqueue : State.RegsKept bookRegs s (unqueued s id p c) := State.RegsKept.of_regs rfl
  cases hf : s.net.frame id with
  | none =>
    rw [dropRef_none p c hf]
    exact hqueue
  | some f =>
    rw [dropRef_some p c hf]
    exact hqueue.trans (regsKept_putFrame _ f (h f (frame_mem hf)))

section

variable {s : State} {f : NetFrame} {p : Nat} (c : Nat) (hf : s.net.frame f.id = some f) (hrefs : f.refs = [p]) (hshared : f.shared = true)
include hrefs

theorem refs_refDropped_last : (refDropped f p).refs = [] := by
  rw [refDropped, hrefs]
  simp

theorem movedFrom_of_refs : movedFrom f = F.INK_HELD_QUEUES_CELLS := by
  rw [movedFrom, NetFrame.holder, hrefs]
  rfl

include hf

/-- The registers after the last reference: the cells pass from the queues to `dst`. -/
theorem regs_dropRef_last {dst : Field} (hdst : movedTo (refDropped f p) = dst) (hne : F.INK_HELD_QUEUES_CELLS ≠ dst) :
    (s.dropRef f.id p c).regs = (s.moveCells F.INK_HELD_QUEUES_CELLS dst f.cells).regs := by
  rw [dropRef_some p c hf, putFrame_moves _ (movedFrom_of_refs hrefs) hdst hne]
  rfl

/-- The last reference of a frame that the engine reads leaves its cells to the engine. -/
theorem dropRef_engine (he : f.engine = true) (hfit : s.fget F.INK_HELD_ENGINE_CELLS + f.cells < 2 ^ 16) : let v := s.dropRef f.id p c
    v.fget F.INK_HELD_ENGINE_CELLS = s.fget F.INK_HELD_ENGINE_CELLS + f.cells ∧
      v.fget F.INK_HELD_QUEUES_CELLS = s.fget F.INK_HELD_QUEUES_CELLS - f.cells ∧
      v.fget F.INK_FREE_SHARED_CELLS = s.fget F.INK_FREE_SHARED_CELLS := by
  have hdst : movedTo (refDropped f p) = F.INK_HELD_ENGINE_CELLS := by
    have he' : (refDropped f p).engine = true := he
    simp [movedTo, NetFrame.holder, refs_refDropped_last hrefs, he']
  have hregs := regs_dropRef_last c hf hrefs hdst (by decide)
  refine ⟨?_, ?_, ?_⟩
  · rw [fget_of_regs hregs, fget_moveCells_dst _ _ rfl rfl rfl hfit]
  · rw [fget_of_regs hregs, fget_moveCells_src _ _ rfl rfl rfl]
  · rw [fget_of_regs hregs, fget_moveCells_other _ _ rfl rfl rfl rfl rfl]

include hshared

/-- The last reference of a frame that the engine does not read returns its cells to the shared pool. -/
theorem dropRef_last (he : ¬ f.engine = true) (hfit : s.fget F.INK_FREE_SHARED_CELLS + f.cells < 2 ^ 16) : let v := s.dropRef f.id p c
    v.fget F.INK_FREE_SHARED_CELLS = s.fget F.INK_FREE_SHARED_CELLS + f.cells ∧
      v.fget F.INK_HELD_QUEUES_CELLS = s.fget F.INK_HELD_QUEUES_CELLS - f.cells ∧ v.net.frame f.id = none := by
  have hholder : (refDropped f p).holder = none := by
    have he' : (refDropped f p).engine = false := Bool.eq_false_iff.mpr he
    simp [NetFrame.holder, refs_refDropped_last hrefs, he']
  have hdst : movedTo (refDropped f p) = F.INK_FREE_SHARED_CELLS := by
    rw [movedTo, hholder]
    show poolField f.port f.shared = _
    rw [hshared]
    rfl
  have hregs := regs_dropRef_last c hf hrefs hdst (by decide)
  refine ⟨?_, ?_, ?_⟩
  · rw [fget_of_regs hregs, fget_moveCells_dst _ _ rfl rfl rfl hfit]
  · rw [fget_of_regs hregs, fget_moveCells_src _ _ rfl rfl rfl]
  · rw [dropRef_some p c hf, putFrame_net, framesPut, hholder]
    exact find?_dropped_same (p := fun g : NetFrame => g.id == f.id) s.net.frames

end

end Sys2Proof.Machine
end

section
/-! PROOF. The feed (R295 to R297) and FRAME_INGRESS (R280, R286 to R290, R301): an admitted frame draws its credits, enters its
queues and settles at its last byte. -/

namespace Sys2Proof.Machine

open State

/-! ### The queues of a frame's destinations -/

/-- A frame put at the tail of one queue. -/
def queuedAt (id c : Nat) (s : State) (p : Nat) : State := s.setQueue p c (s.net.queue p c ++ [id])

/-- A frame put at the tail of the queue of each port. -/
def queuedAll (id c : Nat) (ps : List Nat) (s : State) : State := ps.foldl (queuedAt id c) s

theorem queuedAll_frame (id c : Nat) (ps : List Nat) (s : State) :
    queuedAll id c ps s = { s with net := { s.net with queues := (queuedAll id c ps s).net.queues } } := by
  induction ps generalizing s with
  | nil => rfl
  | cons p ps ih =>
    show queuedAll id c ps (queuedAt id c s p) = _
    conv_lhs => rw [ih]
    rfl

theorem queue_queuedAll_other {id c : Nat} {ps : List Nat} {p k : Nat} (hc : c < 8) (hk : k < 8) (h : p ∉ ps ∨ k ≠ c) (s : State) :
    (queuedAll id c ps s).net.queue p k = s.net.queue p k := by
  refine foldl_keeps_mem (P := fun t : State => t.net.queue p k = s.net.queue p k) ps (fun t q hq ht => ?_) rfl
  rw [queuedAt, queue_setQueue_other, ht]
  exact queueKey_ne hc hk (h.imp_left fun hp he => hp (he ▸ hq))

theorem queue_queuedAll_same {id c : Nat} {ps : List Nat} {p : Nat} (hc : c < 8) (hnodup : ps.Nodup) (hp : p ∈ ps) (s : State) :
    (queuedAll id c ps s).net.queue p c = s.net.queue p c ++ [id] := by
  induction ps generalizing s with
  | nil => exact absurd hp List.not_mem_nil
  | cons q ps ih =>
    obtain ⟨hq, hrest⟩ := List.nodup_cons.mp hnodup
    show (queuedAll id c ps (queuedAt id c s q)).net.queue p c = _
    obtain rfl | hmem := List.mem_cons.mp hp
    · rw [queue_queuedAll_other hc hc (.inl hq), queuedAt, queue_setQueue_same]
    · have hne : p ≠ q := fun h => hq (h ▸ hmem)
      rw [ih hrest hmem, queuedAt, queue_setQueue_other _ _ (queueKey_ne hc hc (.inl hne))]

/-! ### A frame is taken into the inkwell (R289, R296, R297) -/

/-- The frame that the inkwell keeps of `x` for the ports `ports`. -/
def inkFrame (id : Nat) (x : SwitchIn) (ports : List Nat) (shared : Bool) : NetFrame :=
  ⟨id, x.port, x.core, x.vid, x.pcp, x.length, shared, cellsOf x.length, ports.filter (· != 6), x.untagged, x.stamp, x.lat, false⟩

/-- The frame is delivered to port 6 where that is one of its destinations. -/
def delivered6 (s : State) (x : SwitchIn) (ports : List Nat) : State :=
  if ports.contains 6 then ({ s with net := { s.net with port6 := x.core } }).sendNetFrame .time x.core (classOf x.pcp) else s

/-- The frame is kept under the next identifier. -/
def frameKept (s : State) (f : NetFrame) : State :=
  { s with net := { s.net with frames := s.net.frames ++ [f], nextId := s.net.nextId + 1 } }

theorem delivered6_frame (s : State) (x : SwitchIn) (ports : List Nat) : delivered6 s x ports =
    { s with fabric := (delivered6 s x ports).fabric, net := { s.net with port6 := (delivered6 s x ports).net.port6 } } := by
  unfold delivered6
  split <;> rfl

theorem enqueue_eq (s : State) (x : SwitchIn) (ports : List Nat) (shared : Bool) : s.enqueue x ports shared =
    let u := delivered6 (s.moveCells (poolField x.port shared) F.INK_HELD_INGRESS_CELLS 7) x ports
    (queuedAll u.net.nextId (classOf x.pcp) (ports.filter (· != 6)) (frameKept u (inkFrame u.net.nextId x ports shared)),
      u.net.nextId) := rfl

/-- What the inkwell holds of a frame from its header to its last byte. -/
theorem enqueue_spec (s : State) (x : SwitchIn) (ports : List Nat) (shared : Bool) : let r := s.enqueue x ports shared
    r.2 = s.net.nextId ∧ r.1.regs = (s.moveCells (poolField x.port shared) F.INK_HELD_INGRESS_CELLS 7).regs ∧
      r.1.net.frames = s.net.frames ++ [inkFrame s.net.nextId x ports shared] ∧
      (ports.Nodup → ∀ p ∈ ports, p ≠ 6 → r.1.net.queue p (classOf x.pcp) = s.net.queue p (classOf x.pcp) ++ [s.net.nextId]) ∧
      ∀ p c, c < 8 → (p ∉ ports ∨ c ≠ classOf x.pcp) → r.1.net.queue p c = s.net.queue p c := by
  have hdelivered := delivered6_frame (s.moveCells (poolField x.port shared) F.INK_HELD_INGRESS_CELLS 7) x ports
  rw [enqueue_eq]
  dsimp only
  generalize delivered6 _ x ports = u at hdelivered
  have hid : u.net.nextId = s.net.nextId := by rw [hdelivered]; rfl
  have hqueue : ∀ (p c : Nat), (frameKept u (inkFrame u.net.nextId x ports shared)).net.queue p c = s.net.queue p c := fun p c => by
    show u.net.queue p c = _
    rw [hdelivered]
    rfl
  refine ⟨hid, ?_, ?_, fun hnodup p hp h6 => ?_, fun p c hc h => ?_⟩
  · rw [queuedAll_frame]
    show u.regs = _
    rw [hdelivered]
  · rw [queuedAll_frame]
    show u.net.frames ++ [inkFrame u.net.nextId x ports shared] = _
    rw [hid, hdelivered]
    rfl
  · have hmem : p ∈ ports.filter (· != 6) := List.mem_filter.mpr ⟨hp, bne_iff_ne.mpr h6⟩
    rw [queue_queuedAll_same (classOf_lt _) (hnodup.filter _) hmem, hqueue, hid]
  · have hother : p ∉ ports.filter (· != 6) ∨ c ≠ classOf x.pcp := h.imp_left fun hp hm => hp (List.mem_of_mem_filter hm)
    rw [queue_queuedAll_other (classOf_lt _) hc hother, hqueue]

/-! ### QUEUE_LIMIT counted -/

theorem countLimit_net (s : State) (ports : List Nat) : (s.countLimit ports).net = s.net :=
  foldl_keeps (P := fun t : State => t.net = s.net) (fun t p ht => (fsat_net t (F.PORT_DROP_OUT_QUEUE_LIMIT p)).trans ht) ports rfl

/-- Counting at the ports of the switch leaves the books as they are. -/
theorem fget_countLimit (s : State) {ports : List Nat} (h : ∀ p ∈ ports, p < 7) {f : Field} (hf : 0xB0000 ≤ f.off) :
    (s.countLimit ports).fget f = s.fget f := by
  refine foldl_keeps_mem (P := fun t : State => t.fget f = s.fget f) ports (fun t p hp ht => ?_) rfl
  have hp7 := h p hp
  have hne : f.off ≠ (F.PORT_DROP_OUT_QUEUE_LIMIT p).off := by
    show f.off ≠ 0xA0114 + 0x40 * p
    omega
  exact (fget_of_reg (reg_fsat_other t _ hne)).trans ht

/-! ### The last byte (R296, R297) -/

theorem cellsOf_le {n : Nat} (h : n ≤ 1522) : cellsOf n ≤ 7 := by
  unfold cellsOf ceilDiv
  omega

/-- The frame before its last byte: under ingress alone. -/
def unsettled (f : NetFrame) : NetFrame := { f with refs := [], engine := false }

theorem settleFrame_eq {s : State} {id : Nat} {f : NetFrame} (h : s.net.frame id = some f) : s.settleFrame id =
    (s.moveCells F.INK_HELD_INGRESS_CELLS (poolField f.port f.shared) (headCredits - f.cells)).putFrame (unsettled f) f := by
  rw [State.settleFrame, h]
  rfl

section

variable {s : State} {id : Nat} {f : NetFrame} (h : s.net.frame id = some f)
include h

theorem queue_settleFrame (p c : Nat) : (s.settleFrame id).net.queue p c = s.net.queue p c := by
  rw [settleFrame_eq h, putFrame_net]
  rfl

/-- The unfilled credits of a frame from the shared pool return, and its own cells pass to the queues. -/
theorem settleFrame_books (hshared : f.shared = true) (hrefs : f.refs ≠ []) (hcells : f.cells ≤ 7)
    (hin : 7 ≤ s.fget F.INK_HELD_INGRESS_CELLS) (hfree : s.fget F.INK_FREE_SHARED_CELLS + 7 < 2 ^ 16)
    (hqueues : s.fget F.INK_HELD_QUEUES_CELLS + f.cells < 2 ^ 16) : let v := s.settleFrame id
    v.fget F.INK_FREE_SHARED_CELLS = s.fget F.INK_FREE_SHARED_CELLS + 7 - f.cells ∧
      v.fget F.INK_HELD_INGRESS_CELLS = s.fget F.INK_HELD_INGRESS_CELLS - 7 ∧
      v.fget F.INK_HELD_QUEUES_CELLS = s.fget F.INK_HELD_QUEUES_CELLS + f.cells := by
  have hholder : f.holder = some F.INK_HELD_QUEUES_CELLS := by
    have hnonempty : (!f.refs.isEmpty) = true := by simpa using hrefs
    rw [NetFrame.holder, hnonempty, if_pos rfl]
  have hregs : (s.settleFrame id).regs = ((s.moveCells F.INK_HELD_INGRESS_CELLS F.INK_FREE_SHARED_CELLS (7 - f.cells)).moveCells
      F.INK_HELD_INGRESS_CELLS F.INK_HELD_QUEUES_CELLS f.cells).regs := by
    rw [settleFrame_eq h, hshared]
    exact putFrame_moves _ rfl (by rw [movedTo, hholder]; rfl) (by decide)
  have hfit : s.fget F.INK_FREE_SHARED_CELLS + (7 - f.cells) < 2 ^ 16 := by omega
  have hreturned := fget_moveCells_src s (src := F.INK_HELD_INGRESS_CELLS) (dst := F.INK_FREE_SHARED_CELLS) (7 - f.cells) rfl rfl rfl
  have hpool := fget_moveCells_dst s (src := F.INK_HELD_INGRESS_CELLS) (dst := F.INK_FREE_SHARED_CELLS) (7 - f.cells) rfl rfl rfl hfit
  have hkept := fget_moveCells_other s (src := F.INK_HELD_INGRESS_CELLS) (dst := F.INK_FREE_SHARED_CELLS) (7 - f.cells) rfl rfl
    (g := F.INK_HELD_QUEUES_CELLS) rfl rfl rfl
  refine ⟨?_, ?_, ?_⟩
  · rw [fget_of_regs hregs, fget_moveCells_other _ _ rfl rfl rfl rfl rfl, hpool]
    omega
  · rw [fget_of_regs hregs, fget_moveCells_src _ _ rfl rfl rfl, hreturned]
    omega
  · rw [fget_of_regs hregs, fget_moveCells_dst _ _ rfl rfl rfl (by rw [hkept]; exact hqueues), hkept]

end

/-! ### The feed (R296) -/

/-- The feed admits to the shared pool while that has the credits, and to the queues below their threshold. -/
theorem poolAdmission_shared {s : State} {i c : Nat} {d ok : List Nat} (h : s.poolAdmission i c d = .shared ok) :
    7 ≤ s.fget F.INK_FREE_SHARED_CELLS ∧ ok = d.filter (fun p => s.queueOk p c) := by
  unfold State.poolAdmission at h
  dsimp only at h
  split at h
  · next hpool =>
    rw [Bool.and_eq_true, decide_eq_true_eq] at hpool
    cases h
    exact ⟨hpool.1, rfl⟩
  · split at h
    · cases h
    · split at h <;> cases h

theorem feed_shared {s : State} {x : SwitchIn} {d ok : List Nat} (h : s.poolAdmission x.port (classOf x.pcp) d = .shared ok) :
    s.feed x d = (((s.countLimit (d.filter fun p => !ok.contains p)).enqueue x ok true).1,
      .forwarded ((s.countLimit (d.filter fun p => !ok.contains p)).enqueue x ok true).2) := by
  rw [State.feed, h]

/-- A frame is found under the identifier that none had before it. -/
theorem frame_append {fs : List NetFrame} {f : NetFrame} (h : ∀ g ∈ fs, g.id ≠ f.id) : (fs ++ [f]).find? (·.id == f.id) = some f := by
  have hnone : fs.find? (·.id == f.id) = none := by
    rw [List.find?_eq_none]
    exact fun g hg => by simpa using h g hg
  rw [List.find?_append, hnone]
  simp

/-- A frame from the shared pool, at its header and after its last byte. -/
theorem feed_spec {s : State} {x : SwitchIn} {d ok : List Nat} (hadmit : s.poolAdmission x.port (classOf x.pcp) d = .shared ok)
    (hlen : x.length ≤ 1522) (hnodup : ok.Nodup) (hd : ∀ p ∈ d, p < 7) (hports : ∃ p ∈ ok, p ≠ 6)
    (hid : ∀ f ∈ s.net.frames, f.id ≠ s.net.nextId) (hin : s.fget F.INK_HELD_INGRESS_CELLS + 7 < 2 ^ 16)
    (hq : s.fget F.INK_HELD_QUEUES_CELLS + cellsOf x.length < 2 ^ 16) :
    let v := (s.feed x d).1.settle (s.feed x d).2
    7 ≤ s.fget F.INK_FREE_SHARED_CELLS ∧ ok = d.filter (fun p => s.queueOk p (classOf x.pcp)) ∧
    (s.feed x d).2 = .forwarded s.net.nextId ∧
    (s.feed x d).1.fget F.INK_FREE_SHARED_CELLS = s.fget F.INK_FREE_SHARED_CELLS - 7 ∧
    (s.feed x d).1.fget F.INK_HELD_INGRESS_CELLS = s.fget F.INK_HELD_INGRESS_CELLS + 7 ∧
    v.fget F.INK_FREE_SHARED_CELLS = s.fget F.INK_FREE_SHARED_CELLS - cellsOf x.length ∧ cellsOf x.length ≤ 7 ∧
    v.fget F.INK_HELD_INGRESS_CELLS = s.fget F.INK_HELD_INGRESS_CELLS ∧
    v.fget F.INK_HELD_QUEUES_CELLS = s.fget F.INK_HELD_QUEUES_CELLS + cellsOf x.length ∧
    (∀ p ∈ ok, p ≠ 6 → v.net.queue p (classOf x.pcp) = s.net.queue p (classOf x.pcp) ++ [s.net.nextId]) ∧
    (∀ p c, c < 8 → (p ∉ ok ∨ c ≠ classOf x.pcp) → v.net.queue p c = s.net.queue p c) := by
  obtain ⟨hfree, hok⟩ := poolAdmission_shared hadmit
  have hcells := cellsOf_le hlen
  have hlt : s.fget F.INK_FREE_SHARED_CELLS < 2 ^ 16 := fget_lt s F.INK_FREE_SHARED_CELLS
  have hlimit : ∀ p ∈ d.filter fun p => !ok.contains p, p < 7 := fun p hp => hd p (List.mem_of_mem_filter hp)
  have hnet := countLimit_net s (d.filter fun p => !ok.contains p)
  have hbook : ∀ f : Field, 0xB0000 ≤ f.off → (s.countLimit (d.filter fun p => !ok.contains p)).fget f = s.fget f := fun f hf =>
    fget_countLimit s hlimit hf
  rw [feed_shared hadmit]
  obtain ⟨hnext, hregs, hframes, hqueued, hkept⟩ := enqueue_spec (s.countLimit (d.filter fun p => !ok.contains p)) x ok true
  generalize (s.countLimit (d.filter fun p => !ok.contains p)).enqueue x ok true = r at hnext hregs hframes hqueued hkept ⊢
  generalize s.countLimit (d.filter fun p => !ok.contains p) = u at hnet hbook hnext hregs hframes hqueued hkept
  rw [hnet] at hnext hframes
  simp only [hnet] at hqueued hkept
  have hdrawn : r.1.fget F.INK_FREE_SHARED_CELLS = s.fget F.INK_FREE_SHARED_CELLS - 7 := by
    rw [fget_of_regs hregs, ← hbook F.INK_FREE_SHARED_CELLS (by decide)]
    exact fget_moveCells_src _ _ rfl rfl rfl
  have hheld : r.1.fget F.INK_HELD_INGRESS_CELLS = s.fget F.INK_HELD_INGRESS_CELLS + 7 := by
    rw [← hbook F.INK_HELD_INGRESS_CELLS (by decide)] at hin ⊢
    rw [fget_of_regs hregs]
    exact fget_moveCells_dst _ _ rfl rfl rfl hin
  have hqueues : r.1.fget F.INK_HELD_QUEUES_CELLS = s.fget F.INK_HELD_QUEUES_CELLS := by
    rw [fget_of_regs hregs, ← hbook F.INK_HELD_QUEUES_CELLS (by decide)]
    exact fget_moveCells_other _ _ rfl rfl rfl rfl rfl
  have hframe : r.1.net.frame s.net.nextId = some (inkFrame s.net.nextId x ok true) := by
    rw [NetState.frame, hframes]
    exact frame_append (f := inkFrame s.net.nextId x ok true) hid
  have hrefs : (inkFrame s.net.nextId x ok true).refs ≠ [] := by
    obtain ⟨p, hp, h6⟩ := hports
    exact List.ne_nil_of_mem (List.mem_filter.mpr ⟨hp, bne_iff_ne.mpr h6⟩)
  obtain ⟨hfree', hin', hq'⟩ := settleFrame_books hframe rfl hrefs hcells (by omega) (by omega) (by rw [hqueues]; exact hq)
  have hcost : (inkFrame s.net.nextId x ok true).cells = cellsOf x.length := rfl
  rw [hdrawn, hcost] at hfree'
  rw [hheld] at hin'
  rw [hqueues, hcost] at hq'
  rw [hnext]
  refine ⟨hfree, hok, rfl, hdrawn, hheld, ?_, hcells, ?_, hq', fun p hp h6 => ?_, fun p c hc h => ?_⟩
  · show (r.1.settleFrame s.net.nextId).fget _ = _
    omega
  · show (r.1.settleFrame s.net.nextId).fget _ = _
    omega
  · exact (queue_settleFrame hframe p _).trans (hqueued hnodup p hp h6)
  · exact (queue_settleFrame hframe p c).trans (hkept p c hc h)

/-! ### FRAME_INGRESS -/

theorem exec_frameIngress_closed {s : State} {p t : Nat} (b : List Byte)
    (h : 5 < p ∨ ¬ (s.upTo t).linkUp p = true ∨ (s.upTo t).portSt p = 0) : exec (.frameIngress p b t) s = .next (s.upTo t) := by
  have hclosed : (decide (5 < p) || !(s.upTo t).linkUp p || (s.upTo t).portSt p == portDisabled) = true := by
    obtain h | h | h := h <;> simp [h, portDisabled]
  have hexec : exec (.frameIngress p b t) s = execFrameIngress p b t s := rfl
  rw [hexec, execFrameIngress]
  dsimp only
  rw [hclosed, if_pos rfl]

/-- A frame from port `p` counted. -/
def ingressCounted (s : State) (p t : Nat) : State := (s.upTo t).finc (F.PORT_RX_FRAMES p)

/-- The state with the configuration that was in force at the frame's first byte (R289). -/
def ingressDecided (s : State) (p t : Nat) (b : List Byte) : State :=
  (ingressCounted s p t).configAt ((ingressCounted s p t).firstByte p b.length)

/-- The frame as the switch takes it (R286, R289). -/
def frameIn (s : State) (p t : Nat) (b : List Byte) : SwitchIn := (ingressDecided s p t b).switchIn p b

/-- The instant at which the first 64 B of the frame have arrived. -/
def headAt (s : State) (p t : Nat) (b : List Byte) : Nat := (ingressCounted s p t).firstByte p b.length + 64 * byteTenths p

/-- R290 sends the frame cut-through. -/
def cutsThrough (s : State) (p t : Nat) (b : List Byte) : Bool :=
  (ingressCounted s p t).cutThrough (frameIn s p t b) ((ingressDecided s p t b).flag (F.PORT_STAT_CUT p)) (headAt s p t b)

/-- A sound frame learned and switched. -/
def ingressSwitched (s : State) (p t : Nat) (b : List Byte) : State × Switched :=
  (((ingressCounted s p t).captureFrame p b).learn p (frameSrc (frameIn s p t b).core) (frameIn s p t b).vid).switch (frameIn s p t b)

/-- The sound frame inspected, and settled at its last byte (R297, R311). -/
def ingressDone (s : State) (p t : Nat) (b : List Byte) : State :=
  ((ingressSwitched s p t b).1.inspect p (frameIn s p t b).vid (frameIn s p t b).core ((ingressCounted s p t).firstByte p b.length)
    (ingressSwitched s p t b).2.frame).settle (ingressSwitched s p t b).2

/-- A cut-through frame that turns out bad, as the switch takes it. -/
def stompedIn (s : State) (p t : Nat) (b : List Byte) : State × Switched := (ingressCounted s p t).switch (frameIn s p t b).ended

theorem exec_frameIngress_open {s : State} {p t : Nat} (b : List Byte) (hp : p ≤ 5) (hlink : (s.upTo t).linkUp p = true)
    (hst : (s.upTo t).portSt p ≠ 0) : exec (.frameIngress p b t) s =
    if (ingressDecided s p t b).frameOk p b then
      .next (if cutsThrough s p t b then (ingressDone s p t b).cutStart (frameIn s p t b) (ingressSwitched s p t b).2 (headAt s p t b) false
        else ingressDone s p t b)
    else if (ingressDecided s p t b).headOk p b && cutsThrough s p t b then
      .next (((stompedIn s p t b).1.settle (stompedIn s p t b).2).cutStart (frameIn s p t b) (stompedIn s p t b).2
        (headAt s p t b) true)
    else .next ((ingressCounted s p t).fsat (F.PORT_DROP_IN_FORMAT p)) := by
  have hopen : (decide (5 < p) || !(s.upTo t).linkUp p || (s.upTo t).portSt p == portDisabled) = false := by
    simp [Nat.not_lt.mpr hp, hlink, portDisabled, hst]
  have hexec : exec (.frameIngress p b t) s = execFrameIngress p b t s := rfl
  rw [hexec, execFrameIngress]
  dsimp only
  rw [hopen, if_neg Bool.false_ne_true]
  rfl

end Sys2Proof.Machine
end

section
/-! PROOF. Frames leave (R291 to R294, R297), links come and go (R280, R281), entries age (R288); the obligation on the ports. -/

namespace Sys2Proof.Machine

open State

/-! ### FRAME_TRANSMIT_START (R291, R293) -/

/-- The transparent clock changes what waits for a Follow_Up alone (R333). -/
theorem correct_frame (s : State) (f : NetFrame) (e out : Nat) : (s.correct f e out).1 =
    { s with net := { s.net with tcWait := (s.correct f e out).1.net.tcWait } } := by
  unfold State.correct
  split
  · rfl
  · split
    · rfl
    · dsimp only
      split
      · rfl
      · split
        · rfl
        · split
          · split <;> rfl
          · rfl

theorem correct_regs (s : State) (f : NetFrame) (e out : Nat) : (s.correct f e out).1.regs = s.regs := by rw [correct_frame]

theorem correct_tx (s : State) (f : NetFrame) (e out : Nat) : (s.correct f e out).1.net.tx = s.net.tx := by rw [correct_frame]

theorem startTx_spec (s : State) (f : NetFrame) (e c start : Nat) (cut stomped : Bool) : let v := s.startTx f e c start cut stomped
    v.regs = s.regs ∧ v.net.tx = s.net.tx ++
      [⟨e, f.id, c, start / 10, egressBytes f (s.correct f e (stampOf (start + 8 * byteTenths e))).2 e stomped, cut, stomped⟩] :=
  ⟨correct_regs s f e _, congrArg (· ++ _) (correct_tx s f e _)⟩

/-- The frame `id` fits no window of its class (R293). -/
def oversizeAt (s : State) (p c id : Nat) : Bool := match s.net.frame id with
  | some f => (s.net.gate p).oversize c (wireTenths p (egressLength f p))
  | none => false

theorem purge_eq (s : State) (p c : Nat) : s.purge p c = ((s.net.queue p c).takeWhile (oversizeAt s p c)).foldl
    (fun (s : State) id => (s.dropRef id p c).fsat (F.PORT_DROP_GATE_GATE_OVERSIZE p)) s := rfl

/-- A queue whose head fits a window of its class loses nothing. -/
theorem purge_of_fits {s : State} {p c : Nat}
    (h : ∀ f, s.net.headOf p c = some f → ¬ (s.net.gate p).oversize c (wireTenths p (egressLength f p)) = true) : s.purge p c = s := by
  rw [purge_eq]
  unfold NetState.headOf at h
  cases hq : s.net.queue p c with
  | nil => rfl
  | cons id ids =>
    rw [hq] at h
    have hhead : oversizeAt s p c id = false := by
      unfold oversizeAt
      cases hf : s.net.frame id with
      | none => rfl
      | some f => exact Bool.eq_false_iff.mpr (h f hf)
    rw [List.takeWhile_cons, hhead]
    rfl

theorem find?_highest {q : Nat → Bool} {c : Nat} (hc : c < 8) (h : q c = true) (hhigher : ∀ k, c < k → k < 8 → q k = false) :
    [7, 6, 5, 4, 3, 2, 1, 0].find? q = some c := by
  interval_cases c <;> simp [h, hhigher]

/-- The head frame of a class may start to send (R293). -/
def headFits (u : State) (p c : Nat) : Bool := match u.net.headOf p c with
  | some f => (u.net.gate p).fits c u.now (wireTenths p (egressLength f p))
  | none => false

/-- What leaves for the class that was chosen. -/
def sendHead (u : State) (p : Nat) : Option Nat → Host.Outcome State Fault Refusal
  | none => .next u
  | some c => match u.net.headOf p c with
    | some f => .next (u.startTx f p c (10 * u.now) false false)
    | none => .next u

/-- Frames that fit no window go before the choice. -/
def portPurged (u : State) (p : Nat) : State := (List.range 8).foldl (fun (u : State) k => u.purge p k) u

section

variable {s : State} {p t : Nat}

theorem exec_frameTransmitStart_not (h : 5 < p ∨ ¬ (s.upTo t).linkUp p = true ∨ (s.upTo t).net.busy p = true) :
    exec (.frameTransmitStart p t) s = .next (s.upTo t) := by
  have hclosed : (decide (5 < p) || !(s.upTo t).linkUp p || (s.upTo t).portSt p == portDisabled || (s.upTo t).net.busy p) = true := by
    obtain h | h | h := h <;> simp [h]
  have hexec : exec (.frameTransmitStart p t) s = execFrameTransmitStart p t s := rfl
  rw [hexec, execFrameTransmitStart]
  dsimp only
  rw [hclosed, if_pos rfl]

theorem exec_frameTransmitStart_open (hp : p ≤ 5) (hlink : (s.upTo t).linkUp p = true) (hst : (s.upTo t).portSt p ≠ 0)
    (hidle : ¬ (s.upTo t).net.busy p = true) : exec (.frameTransmitStart p t) s =
      sendHead (portPurged (s.upTo t) p) p ([7, 6, 5, 4, 3, 2, 1, 0].find? (headFits (portPurged (s.upTo t) p) p)) := by
  have hopen : (decide (5 < p) || !(s.upTo t).linkUp p || (s.upTo t).portSt p == portDisabled || (s.upTo t).net.busy p) = false := by
    simp [Nat.not_lt.mpr hp, hlink, portDisabled, hst, hidle]
  show execFrameTransmitStart p t s = _
  rw [execFrameTransmitStart]
  dsimp only
  rw [hopen, if_neg Bool.false_ne_true, portPurged]
  generalize (List.range 8).foldl (fun (u : State) k => u.purge p k) (s.upTo t) = v
  rfl

theorem frameTransmitStart_sends {f : NetFrame} {c : Nat} (hp : p ≤ 5) (hlink : (s.upTo t).linkUp p = true)
    (hst : (s.upTo t).portSt p ≠ 0) (hidle : ¬ (s.upTo t).net.busy p = true) (hc : c < 8)
    (hpurge : ∀ k h, (s.upTo t).net.headOf p k = some h → ¬ ((s.upTo t).net.gate p).oversize k (wireTenths p (egressLength h p)) = true)
    (hhead : (s.upTo t).net.headOf p c = some f)
    (hfits : ((s.upTo t).net.gate p).fits c (s.upTo t).now (wireTenths p (egressLength f p)) = true)
    (hhigher : ∀ k h, c < k → k < 8 → (s.upTo t).net.headOf p k = some h →
      ¬ ((s.upTo t).net.gate p).fits k (s.upTo t).now (wireTenths p (egressLength h p)) = true) :
    Completes (.frameTransmitStart p t) s fun v => v.regs = (s.upTo t).regs ∧
      v.net.tx = (s.upTo t).net.tx ++ [⟨p, f.id, c, (s.upTo t).now,
        egressBytes f ((s.upTo t).correct f p (stampOf (10 * (s.upTo t).now + 8 * byteTenths p))).2 p false, false, false⟩] := by
  have hkept : portPurged (s.upTo t) p = s.upTo t :=
    foldl_keeps (P := fun u => u = s.upTo t) (fun u k hu => by rw [hu]; exact purge_of_fits (hpurge k)) _ rfl
  have hsends : headFits (s.upTo t) p c = true := by rw [headFits, hhead]; exact hfits
  have hwaits : ∀ k, c < k → k < 8 → headFits (s.upTo t) p k = false := fun k hk hk8 => by
    rw [headFits]
    cases hq : (s.upTo t).net.headOf p k with
    | none => rfl
    | some h => exact Bool.eq_false_iff.mpr (hhigher k h hk hk8 hq)
  obtain ⟨hregs, htx⟩ := startTx_spec (s.upTo t) f p c (10 * (s.upTo t).now) false false
  have hnow : 10 * (s.upTo t).now / 10 = (s.upTo t).now := Nat.mul_div_cancel_left _ (by decide)
  rw [hnow] at htx
  refine ⟨_, ?_, hregs, htx⟩
  rw [exec_frameTransmitStart_open hp hlink hst hidle, hkept, find?_highest hc hsends hwaits, sendHead, hhead]

end

/-! ### FRAME_TRANSMIT_COMPLETE (R297) -/

/-- The transmission at a port is over, and its bytes are the last that the port sent. -/
def txEnded (u : State) (p : Nat) (x : TxRun) : State :=
  { u with net := { u.net with tx := u.net.tx.filter (·.port != p), sent := cellSet [] u.net.sent p x.bytes } }

theorem not_busy_of_tx {n : NetState} {p : Nat} (xs : List TxRun) (h : n.tx = xs.filter (·.port != p)) : ¬ n.busy p = true := by
  rw [NetState.busy, h]
  simp

theorem frameTransmitComplete_ends {s : State} {x : TxRun} {p t : Nat} (hp : p ≤ 5)
    (hx : (s.upTo t).net.tx.find? (fun y => y.port == p) = some x) (hbytes : x.bytes ≠ []) (hsound : ¬ x.stomped = true)
    (hdone : 10 * x.start + wireTenths p x.bytes.length ≤ 10 * (s.upTo t).now) (hports : PortsOk (s.upTo t)) :
    Completes (.frameTransmitComplete p t) s fun v => ¬ v.net.busy p = true ∧ assoc v.net.sent p = some x.bytes ∧
      v.net.queue p x.cls = ((s.upTo t).net.queue p x.cls).filter (· != x.id) ∧
      v.fget (F.PORT_TX_FRAMES p) = ((s.upTo t).fget (F.PORT_TX_FRAMES p) + 1) % 2 ^ 32 := by
  have hexec : exec (.frameTransmitComplete p t) s =
      .next (((txEnded (s.upTo t) p x).dropRef x.id p x.cls).finc (F.PORT_TX_FRAMES p)) := by
    show execFrameTransmitComplete p t s = _
    rw [execFrameTransmitComplete]
    dsimp only
    rw [hx]
    dsimp only
    rw [if_neg (Nat.not_lt.mpr hdone), if_neg hsound]
    rfl
  have hkept := regsKept_dropRef (s := txEnded (s.upTo t) p x) hports x.id p x.cls
  have hcount : ((txEnded (s.upTo t) p x).dropRef x.id p x.cls).fget (F.PORT_TX_FRAMES p) = (s.upTo t).fget (F.PORT_TX_FRAMES p) := by
    refine fget_of_reg (hkept _ (not_mem_bookRegs ?_))
    show 0xA0108 + 0x40 * p < 0xB0010
    omega
  refine ⟨_, hexec, not_busy_of_tx (s.upTo t).net.tx ?_, ?_, ?_, ?_⟩
  · rw [finc_net, dropRef_tx]
    rfl
  · rw [finc_net, dropRef_sent]
    exact assoc_cellSet_same _ _ hbytes
  · rw [finc_net, queue_dropRef_same]
    rfl
  · rw [State.finc, fget_fput_same _ _ _ rfl, hcount]
    rfl

/-! ### GATE_ENTRY_CHANGE (R292, R294) -/

theorem gateEntryChange_takes {s : State} {g : GateList} {p k t : Nat} (hp : p ≤ 5) (hlen : p < (s.upTo t).net.gates.length)
    (hnext : ((s.upTo t).net.gate p).next = some (g, k)) (hk : k ≤ (s.upTo t).now) :
    Completes (.gateEntryChange p t) s fun v => v.net.gate p = ⟨some g, none, g.maskAt (s.upTo t).now⟩ ∧
      v.fget (F.PORT_STAT_GATED p) = 1 ∧ State.RegsKept [R.PORT_STAT p] (s.upTo t) v := by
  have hmoved : (s.upTo t).moveGates p = (s.upTo t).setGate p ⟨some g, none, g.maskAt (s.upTo t).now⟩ := by
    rw [State.moveGates]
    rw [hnext]
    dsimp only
    rw [if_pos hk]
  have hexec : exec (.gateEntryChange p t) s = .next ((s.upTo t).setGate p ⟨some g, none, g.maskAt (s.upTo t).now⟩) := by
    show execGateEntryChange p t s = _
    rw [execGateEntryChange]
    rw [if_neg (Nat.not_lt.mpr hp), hmoved]
  refine ⟨_, hexec, ?_, ?_, ?_⟩
  · show ((s.upTo t).net.gates.set p _).getD p _ = _
    rw [List.getD_eq_getElem?_getD, List.getElem?_set_self hlen]
    rfl
  · rw [State.setGate, fget_fput_same _ _ _ rfl]
    rfl
  · exact State.RegsKept.trans (State.RegsKept.of_regs rfl) (State.RegsKept.fput _ (f := F.PORT_STAT_GATED p) _ List.mem_cons_self)

/-! ### Links (R280, R281) -/

/-- From `s` to `t` frames have left the queues of port `p` and were counted there: nothing is queued, and the registers of the
switch other than PORT_DROP_OUT stay. -/
structure Drains (p : Nat) (s t : State) : Prop where
  tx : t.net.tx = s.net.tx
  ports : PortsOk s → PortsOk t
  regs : PortsOk s → State.RegsKept (R.PORT_DROP_OUT p :: bookRegs) s t
  queues : ∀ q k, t.net.queue q k ⊆ s.net.queue q k

namespace Drains

variable {p : Nat} {s t u : State}

theorem refl (p : Nat) (s : State) : Drains p s s := ⟨rfl, id, fun _ => State.RegsKept.refl _ s, fun _ _ => List.Subset.refl _⟩

theorem trans (h : Drains p s t) (h' : Drains p t u) : Drains p s u :=
  ⟨h'.tx.trans h.tx, fun hs => h'.ports (h.ports hs), fun hs => (h.regs hs).trans (h'.regs (h.ports hs)),
    fun q k => List.Subset.trans (h'.queues q k) (h.queues q k)⟩

theorem foldl {α : Type} {k : State → α → State} (hk : ∀ u x, Drains p u (k u x)) (xs : List α) (s : State) :
    Drains p s (xs.foldl k s) :=
  foldl_keeps (P := fun u => Drains p s u) (fun u x hu => hu.trans (hk u x)) xs (refl p s)

end Drains

/-- One frame of a queue discarded and counted LINK_DOWN (R281, R301). -/
def frameLost (p c : Nat) (s : State) (id : Nat) : State := (s.dropRef id p c).fsat (F.PORT_DROP_OUT_LINK_DOWN p)

/-- Each frame of a queue discarded. -/
def queueLost (p : Nat) (s : State) (c : Nat) : State := (s.net.queue p c).foldl (frameLost p c) s

theorem flushPort_eq (s : State) (p : Nat) : s.flushPort p =
    (List.range 8).foldl (queueLost p) { s with net := { s.net with tx := s.net.tx.filter (·.port != p) } } := rfl

theorem drains_frameLost (p c : Nat) (s : State) (id : Nat) : Drains p s (frameLost p c s id) where
  tx := dropRef_tx s id p c
  ports := fun hs => hs.dropRef id p c
  regs := fun hs => ((regsKept_dropRef hs id p c).mono (List.subset_cons_self _ _)).trans
    (State.RegsKept.fput _ (f := F.PORT_DROP_OUT_LINK_DOWN p) _ List.mem_cons_self)
  queues := queue_dropRef_subset s id p c

theorem drains_queueLost (p : Nat) (s : State) (c : Nat) : Drains p s (queueLost p s c) := Drains.foldl (drains_frameLost p c) _ s

/-- No frame that is discarded stays in its queue. -/
theorem not_mem_frameLost {p c : Nat} {ids : List Nat} {id : Nat} (h : id ∈ ids) (s : State) :
    id ∉ (ids.foldl (frameLost p c) s).net.queue p c := by
  induction ids generalizing s with
  | nil => exact absurd h List.not_mem_nil
  | cons i is ih =>
    obtain rfl | hmem := List.mem_cons.mp h
    · intro hin
      have hleft := (Drains.foldl (drains_frameLost p c) is (frameLost p c s id)).queues p c hin
      have hgone : (frameLost p c s id).net.queue p c = (s.net.queue p c).filter (· != id) := queue_dropRef_same s id p c
      rw [hgone, List.mem_filter] at hleft
      simpa using hleft.2
    · exact ih hmem _

theorem queue_queueLost (p : Nat) (s : State) (c : Nat) : (queueLost p s c).net.queue p c = [] :=
  List.eq_nil_iff_forall_not_mem.mpr fun _ hid => not_mem_frameLost ((drains_queueLost p s c).queues p c hid) s hid

theorem queues_lost {p : Nat} {cs : List Nat} {c : Nat} (h : c ∈ cs) (s : State) : (cs.foldl (queueLost p) s).net.queue p c = [] := by
  induction cs generalizing s with
  | nil => exact absurd h List.not_mem_nil
  | cons k ks ih =>
    obtain rfl | hmem := List.mem_cons.mp h
    · have hleft := (Drains.foldl (drains_queueLost p) ks (queueLost p s c)).queues p c
      rw [queue_queueLost] at hleft
      exact List.subset_nil.mp hleft
    · exact ih hmem _

/-- What the port forgets shows in NET_FDB alone. -/
theorem putFdb_spec (s : State) (es : List FdbEntry) :
    (s.putFdb es).net = { s.net with fdb := es } ∧ State.RegsKept [R.NET_FDB] s (s.putFdb es) := by
  refine ⟨rfl, State.RegsKept.trans (State.RegsKept.of_regs rfl) ?_⟩
  exact State.RegsKept.trans (State.RegsKept.fput _ (f := F.NET_FDB_STATIC) _ (by decide))
    (State.RegsKept.fput _ (f := F.NET_FDB_DYNAMIC) _ (by decide))

/-- The link of a port shown as down, and its transmission cut off. -/
def portCutOff (s : State) (p : Nat) : State :=
  let u := s.fput (F.PORT_STAT_LINK p) 0
  { u with net := { u.net with tx := u.net.tx.filter (·.port != p) } }

theorem takeDown_eq (s : State) (p : Nat) : s.takeDown p = ((List.range 8).foldl (queueLost p) (portCutOff s p)).forgetPort p := rfl

/-- PORT_STAT is no register that the loss of frames changes. -/
theorem portStat_apart {p : Nat} (hp : p ≤ 5) : R.PORT_STAT p ∉ R.PORT_DROP_OUT p :: bookRegs := by
  refine List.not_mem_cons_of_ne_of_not_mem ?_ (not_mem_bookRegs ?_)
  · unfold R.PORT_STAT R.PORT_DROP_OUT
    omega
  · unfold R.PORT_STAT
    omega

/-- A port whose link is down has nothing queued and nothing under way, and is what no dynamic entry leads to (R281). -/
theorem takeDown_spec {s : State} {p : Nat} (hp : p ≤ 5) (hports : PortsOk s) : let v := s.takeDown p
    v.fget (F.PORT_STAT_LINK p) = 0 ∧ ¬ v.net.busy p = true ∧ (∀ c, c < 8 → v.net.queue p c = []) ∧
      ∀ e ∈ v.net.fdb, e.static = true ∨ e.ports ≠ 2 ^ p := by
  have hdrains := Drains.foldl (drains_queueLost p) (List.range 8) (portCutOff s p)
  have htx : ((List.range 8).foldl (queueLost p) (portCutOff s p)).net.tx = s.net.tx.filter (·.port != p) := hdrains.tx
  have hqueues : ∀ c, c < 8 → ((List.range 8).foldl (queueLost p) (portCutOff s p)).net.queue p c = [] := fun c hc =>
    queues_lost (List.mem_range.mpr hc) _
  have hlink : ((List.range 8).foldl (queueLost p) (portCutOff s p)).fget (F.PORT_STAT_LINK p) = 0 :=
    (fget_of_reg (f := F.PORT_STAT_LINK p) (hdrains.regs hports _ (portStat_apart hp))).trans (fget_fput_same s (F.PORT_STAT_LINK p) 0 rfl)
  rw [takeDown_eq]
  generalize (List.range 8).foldl (queueLost p) (portCutOff s p) = w at htx hqueues hlink
  obtain ⟨hnet, hfdb⟩ := putFdb_spec w (w.net.fdb.filter fun e => e.static || e.ports != 2 ^ p)
  have hnotFdb : R.PORT_STAT p ∉ [R.NET_FDB] := by
    simp only [List.mem_singleton, R.PORT_STAT, R.NET_FDB]
    omega
  rw [State.forgetPort]
  refine ⟨?_, not_busy_of_tx s.net.tx ?_, fun c hc => ?_, fun e he => ?_⟩
  · exact (fget_of_reg (f := F.PORT_STAT_LINK p) (hfdb _ hnotFdb)).trans hlink
  · rw [hnet]
    exact htx
  · rw [hnet]
    exact hqueues c hc
  · rw [hnet] at he
    have hkept := (List.mem_filter.mp he).2
    rwa [Bool.or_eq_true, bne_iff_ne] at hkept

section

variable {s : State} {p t : Nat} (hp : p ≤ 5)
include hp

theorem exec_linkDown : exec (.linkDown p t) s = .next ((s.upTo t).takeDown p) := by
  show execLinkDown p t s = _
  rw [execLinkDown]
  rw [if_neg (Nat.not_lt.mpr hp)]

/-- The port's only rate (R280). -/
theorem exec_linkUp (mbps : Nat) (fd : Bool) : exec (.linkUp p mbps fd t) s =
    if fd = true ∧ mbps = (if p < 2 then 10000 else 1000) then .next ((s.upTo t).fput (F.PORT_STAT_LINK p) 1)
    else .next ((s.upTo t).takeDown p) := by
  show execLinkUp p mbps fd t s = _
  rw [execLinkUp]
  rw [if_neg (Nat.not_lt.mpr hp)]
  simp only [Bool.and_eq_true, beq_iff_eq]

end

/-! ### FDB_AGE_EXPIRE (R288) -/

theorem fdbAgeExpire_removes {s : State} {e : FdbEntry} {mac vid t : Nat} (he : fdbFind (s.upTo t).net.fdb mac vid = some e)
    (hdynamic : ¬ e.static = true) (hage : (s.upTo t).net.ageS ≠ 0)
    (hold : e.at_ + (s.upTo t).net.ageS * 1000000000 ≤ (s.upTo t).mono) :
    Completes (.fdbAgeExpire mac vid t) s fun v =>
      v.net = { (s.upTo t).net with fdb := fdbDrop (s.upTo t).net.fdb mac vid } ∧ fdbFind v.net.fdb mac vid = none ∧
      State.RegsKept [R.NET_FDB] (s.upTo t) v := by
  have haged : (e.static || (s.upTo t).net.ageS == 0 || decide ((s.upTo t).mono < e.at_ + (s.upTo t).net.ageS * 1000000000)) = false := by
    simp [hdynamic, hage, Nat.not_lt.mpr hold]
  have hexec : exec (.fdbAgeExpire mac vid t) s = .next ((s.upTo t).putFdb (fdbDrop (s.upTo t).net.fdb mac vid)) := by
    show execFdbAgeExpire mac vid t s = _
    rw [execFdbAgeExpire]
    rw [he]
    dsimp only
    rw [haged, if_neg Bool.false_ne_true]
  obtain ⟨hnet, hregs⟩ := putFdb_spec (s.upTo t) (fdbDrop (s.upTo t).net.fdb mac vid)
  refine ⟨_, hexec, hnet, ?_, hregs⟩
  rw [hnet]
  exact find?_dropped_same (p := fun x : FdbEntry => x.mac == mac && x.vid == vid) _

theorem exec_fdbAgeExpire_static {s : State} {mac vid t : Nat}
    (h : ∀ e, fdbFind (s.upTo t).net.fdb mac vid = some e → e.static = true) : exec (.fdbAgeExpire mac vid t) s = .next (s.upTo t) := by
  show execFdbAgeExpire mac vid t s = _
  rw [execFdbAgeExpire]
  cases he : fdbFind (s.upTo t).net.fdb mac vid with
  | none => rfl
  | some e =>
    dsimp only
    rw [h e he, Bool.true_or, Bool.true_or, if_pos rfl]

/-! ### The obligation -/

/-- Settles O39: what is decided of a frame at ingress, the books of the feed, and the ends of a frame's way are taken each from
the lemma over its command. -/
theorem portsSwitchFramesAndKeepTheBooks : Obligations.PortsSwitchFramesAndKeepTheBooks := by
  unfold Obligations.PortsSwitchFramesAndKeepTheBooks
  refine ⟨fun s p t b => exec_frameIngress_closed b, ?format, ?ingress, ?vlan, fun s x d ok => feed_spec, ?reference,
    fun s f p c t => frameTransmitStart_sends, fun s p t => exec_frameTransmitStart_not,
    fun s x p t => frameTransmitComplete_ends, fun s g p k t => gateEntryChange_takes, ?down, ?up, ?wrong,
    fun s e mac vid t => fdbAgeExpire_removes, fun s mac vid t => exec_fdbAgeExpire_static, ?six⟩
  case format =>
    intro s p t b hp hlink hst u w hbad hhead
    have hexec := (exec_frameIngress_open b hp hlink hst).trans
      ((if_neg hbad).trans (if_neg fun h => hhead (Bool.and_eq_true_iff.mp h).1))
    have happart : R.PORT_DROP_IN p ≠ R.PORT_RX p := by
      unfold R.PORT_DROP_IN R.PORT_RX
      omega
    refine ⟨_, hexec, rfl, ?_, ?_, ?_⟩
    · have hkept : (ingressCounted s p t).fget (F.PORT_DROP_IN_FORMAT p) = (s.upTo t).fget (F.PORT_DROP_IN_FORMAT p) :=
        fget_of_reg (reg_fput_other _ (F.PORT_RX_FRAMES p) _ happart)
      rw [fget_fsat _ _ rfl, hkept]
      rfl
    · have hkept : ((ingressCounted s p t).fsat (F.PORT_DROP_IN_FORMAT p)).fget (F.PORT_RX_FRAMES p) =
          (ingressCounted s p t).fget (F.PORT_RX_FRAMES p) :=
        fget_of_reg (reg_fsat_other _ (F.PORT_DROP_IN_FORMAT p) happart.symm)
      rw [hkept, ingressCounted, State.finc, fget_fput_same _ _ _ rfl]
      rfl
    · exact (State.RegsKept.fput _ (f := F.PORT_RX_FRAMES p) _ (List.mem_cons_of_mem _ List.mem_cons_self)).trans
        (State.RegsKept.fput _ (f := F.PORT_DROP_IN_FORMAT p) _ List.mem_cons_self)
  case ingress =>
    intro s p t b hp hlink hst u first head w x r done
    have hexec := exec_frameIngress_open b hp hlink hst
    refine ⟨rfl, fun hok hcut => ?_, fun hok hcut => ?_, fun hbad hhead hcut => ?_, fun hbad hcut => ?_⟩
    · exact hexec.trans ((if_pos hok).trans (congrArg Host.Outcome.next (if_neg hcut)))
    · exact hexec.trans ((if_pos hok).trans (congrArg Host.Outcome.next (if_pos hcut)))
    · exact hexec.trans ((if_neg hbad).trans (if_pos (Bool.and_eq_true_iff.mpr ⟨hhead, hcut⟩)))
    · exact hexec.trans ((if_neg hbad).trans (if_neg fun h => hcut (Bool.and_eq_true_iff.mp h).2))
  case vlan =>
    intro s x hd
    rw [State.switch, hd]
    rfl
  case reference =>
    intro s f p c hf hrefs hshared
    exact ⟨dropRef_last c hf hrefs hshared, dropRef_engine c hf hrefs⟩
  case down =>
    intro s p t hp hports
    exact ⟨_, exec_linkDown hp, takeDown_spec hp hports⟩
  case up =>
    intro s p t hp
    refine ⟨_, (exec_linkUp hp _ true).trans (if_pos ⟨rfl, rfl⟩), ?_, fput_regsOnly _ (F.PORT_STAT_LINK p) _⟩
    rw [fget_fput_same _ _ _ rfl]
    rfl
  case wrong =>
    intro s p mbps t fd hp hrate hports
    exact ⟨_, (exec_linkUp hp mbps fd).trans (if_neg hrate), (takeDown_spec hp hports).1⟩
  case six =>
    intro s x tagged h
    have hrefused : (!acceptOk (s.net.cfg 6).accept tagged) = true := by simp [h]
    rw [State.fromSix, hrefused, if_pos rfl]

end Sys2Proof.Machine
end

section
/-! PROOF. NET_CONFIG (R283, R284, R405): the packet and its check, the set that it joins, closes or drops, and the set's time-out. -/

namespace Sys2Proof.Machine

open State

/-! ### The time at a command's instant -/

theorem tick_tick (s : State) (t : Nat) : (s.tick t).tick t = s.tick t := by
  unfold State.tick
  by_cases h : s.now ≤ t
  · have hspan : ∀ n m : Nat, m + (n - n) = m := fun n m => by rw [Nat.sub_self, Nat.add_zero]
    rw [if_pos h, if_pos (Nat.le_refl t), hspan]
  · rw [if_neg h, if_neg h]

/-- Once the time has reached an instant it has reached it. -/
theorem tick_upTo (s : State) (t : Nat) : (s.upTo t).tick t = s.upTo t := tick_tick _ t

theorem AnswerStep.net {s t : State} (h : AnswerStep s t) : t.net = s.net := by
  obtain ⟨⟨_, _, _, _, _, _, rfl⟩, -⟩ := h
  rfl

theorem AnswerStep.time {s t : State} (h : AnswerStep s t) : t.time = s.time := by
  obtain ⟨⟨_, _, _, _, _, _, rfl⟩, -⟩ := h
  rfl

/-! ### Packets -/

/-- A packet of one record of the network set, neither LAST nor DISCARD. -/
structure OneNetRecord (c : Cmd) (r : List Byte) : Prop where
  flags : byteAt c.params 0 = 0
  lenOk : netLenOk c = true
  headOk : netHeadOk c = true
  recs : netRecs c = [r]

theorem netParse_one {r : List Byte} (hr : r.length = netRecLen r) : netParse 1 r = some ([r], []) := by
  have hwhole : ¬ r.length < netRecLen r := by omega
  have htake : r.take (netRecLen r) = r := List.take_of_length_le (Nat.le_of_eq hr)
  have hdrop : r.drop (netRecLen r) = [] := List.drop_of_length_le (Nat.le_of_eq hr)
  rw [netParse, if_neg hwhole, hdrop, htake]
  rfl

theorem oneNetRecord_of_params {c : Cmd} {r : List Byte} (hp : c.params = zeros 2 ++ (leBytes 2 1 ++ (zeros 4 ++ r)))
    (hr : r.length = netRecLen r) : OneNetRecord c r := by
  have hp' : c.params = [0, 0, 1, 0, 0, 0, 0, 0] ++ r := hp
  have hflags : byteAt c.params 0 = 0 := by rw [hp']; rfl
  have hcount : leAt c.params 2 2 = 1 := by rw [hp']; rfl
  have hreserved : byteAt c.params 1 = 0 ∧ allZero (slice c.params 4 4) = true := by rw [hp']; exact ⟨rfl, rfl⟩
  have hlen : 8 ≤ c.params.length := by simp [hp']
  have hparse : netParse (leAt c.params 2 2) (c.params.drop 8) = some ([r], []) := by
    rw [hcount, hp']
    exact netParse_one hr
  refine ⟨hflags, ?_, ?_, ?_⟩
  · rw [netLenOk, hparse]
    simp [hlen]
  · simp [netHeadOk, hflags, hreserved, natBit]
  · rw [netRecs, hparse]

/-- A packet without records: its FLAGS byte alone. -/
theorem emptyNetPacket {c : Cmd} {b : Byte} (hp : c.params = b :: zeros 7) : byteAt c.params 0 = b.toNat ∧ netLenOk c = true ∧
    netRecs c = [] ∧ netHeadOk c = (decide (b.toNat < 4) && !(natBit b.toNat 1 && natBit b.toNat 0)) := by
  have hflags : byteAt c.params 0 = b.toNat := by rw [hp]; rfl
  have hcount : leAt c.params 2 2 = 0 := by rw [hp]; rfl
  have hreserved : byteAt c.params 1 = 0 ∧ allZero (slice c.params 4 4) = true := by rw [hp]; exact ⟨rfl, rfl⟩
  have hlen : c.params.length = 8 := by rw [hp]; rfl
  have hparse : netParse (leAt c.params 2 2) (c.params.drop 8) = some ([], []) := by
    rw [hcount, hp]
    rfl
  refine ⟨hflags, ?_, ?_, ?_⟩
  · rw [netLenOk, hparse]
    simp [hlen]
  · rw [netRecs, hparse]
  · simp [netHeadOk, hflags, hreserved, hcount]

/-! ### NET_CONFIG's own check -/

/-- The set is closed and waits for its commit. -/
def netSetClosed (s : State) : Bool := match s.net.set with
  | some z => z.closedAt.isSome
  | none => false

theorem netSetClosed_of_set {s : State} {z : NetSet} (h : s.net.set = some z) : netSetClosed s = z.closedAt.isSome := by
  rw [netSetClosed, h]

theorem netSetClosed_of_all {s : State} (h : s.net.set.all (fun z => z.closedAt.isNone) = true) : netSetClosed s = false := by
  cases hz : s.net.set with
  | none => rw [netSetClosed, hz]
  | some z =>
    rw [netSetClosed_of_set hz]
    simpa [hz] using h

theorem netSetClosed_touch (s : State) (id : Nat) : netSetClosed (s.touch id) = netSetClosed s := by
  unfold netSetClosed
  rw [(answer_touch s id).net]

/-- A packet whose head and records are in range waits only for a closed set; DISCARD does not wait. -/
theorem netOwn_eq {c : Cmd} (u : State) (hhead : netHeadOk c = true) (hrecs : netBadRec c = none) : netOwn c u =
    if !natBit (byteAt c.params 0) 1 && netSetClosed u then .refuse stBusy noIndex else .accept := by
  rw [netOwn, hhead, hrecs]
  rfl

theorem netOwn_oneRecord {c : Cmd} {r : List Byte} (u : State) (h : OneNetRecord c r) (hok : netRecOk r = true) : netOwn c u =
    if netSetClosed u then .refuse stBusy noIndex else .accept := by
  have hrecs : netBadRec c = none := by simp [netBadRec, h.recs, hok]
  rw [netOwn_eq u h.headOk hrecs, h.flags]
  rfl

theorem netOwn_last {c : Cmd} (u : State) (hp : c.params = 1 :: zeros 7) : netOwn c u =
    if netSetClosed u then .refuse stBusy noIndex else .accept := by
  obtain ⟨hflags, -, hrecs, hhead⟩ := emptyNetPacket hp
  rw [netOwn_eq u hhead (by rw [netBadRec, hrecs]; rfl), hflags]
  rfl

theorem netOwn_discard {c : Cmd} (u : State) (hp : c.params = 2 :: zeros 7) : netOwn c u = .accept := by
  obtain ⟨hflags, -, hrecs, hhead⟩ := emptyNetPacket hp
  rw [netOwn_eq u hhead (by rw [netBadRec, hrecs]; rfl), hflags]
  rfl

/-! ### The set is put in place or dropped -/

theorem putNetSet_net (s : State) (z : Option NetSet) : (s.putNetSet z).net = { s.net with set := z } := rfl

theorem state_putNetSet_none (s : State) : (s.putNetSet none).fget F.NET_CFG_STATE = 0 :=
  fget_fput_same _ F.NET_CFG_STATE _ rfl

theorem state_putNetSet_closed (s : State) {z : NetSet} (h : z.closedAt.isSome = true) :
    (s.putNetSet (some z)).fget F.NET_CFG_STATE = 2 := by
  refine (fget_fput_same _ F.NET_CFG_STATE _ rfl).trans ?_
  dsimp only
  rw [if_pos h]
  rfl

/-- The set is gone, with its result (R283). -/
def netSetGone (s : State) (result : Nat) : State := (s.putNetSet none).fput F.NET_CFG_LAST_RESULT result

theorem netSetGone_spec (s : State) {result : Nat} (h : result < 16) : let v := netSetGone s result
    v.net = { s.net with set := none } ∧ v.fget F.NET_CFG_STATE = 0 ∧ v.fget F.NET_CFG_LAST_RESULT = result := by
  refine ⟨rfl, ?_, ?_⟩
  · rw [netSetGone, fget_fput_other _ _ _ _ rfl rfl rfl, state_putNetSet_none]
  · rw [netSetGone, fget_fput_same _ _ _ rfl]
    exact Nat.mod_eq_of_lt h

/-- A set that is dropped is gone, whether or not its LAST packet is answered (R283). -/
theorem dropNet_spec {s : State} {z : NetSet} {result : Nat} (hz : s.net.set = some z) (h : result < 16) : let v := s.dropNet result
    v.net = { s.net with set := none } ∧ v.fget F.NET_CFG_LAST_RESULT = result := by
  obtain ⟨hnet, -, hresult⟩ := netSetGone_spec s h
  rw [State.dropNet, hz]
  dsimp only
  cases z.last with
  | none => exact ⟨hnet, hresult⟩
  | some c =>
    obtain ⟨hanswer, -⟩ := answers_reply (netSetGone s result) c opNetConfig stAborted (indexParams noIndex)
    exact ⟨hanswer.net.trans hnet, (hanswer.fget (f := F.NET_CFG_LAST_RESULT) (by decide)).trans hresult⟩

/-! ### The packet's effect -/

section

variable {c : Cmd} {u : State} {a : Nat}

/-- The set that a record joins, opened by it where there is none. -/
def netJoined (u : State) (r : List Byte) (a : Nat) : NetSet :=
  let z := u.net.set.getD ⟨[], none, none, a⟩
  { z with recs := z.recs ++ [r], touchedAt := a }

theorem netEffect_oneRecord {r : List Byte} (h : OneNetRecord c r) :
    netEffect c u a = (u.putNetSet (some (netJoined u r a))).replyOk c opNetConfig := by
  simp only [netEffect, h.flags, h.recs]
  rfl

theorem netEffect_last {z : NetSet} (hp : c.params = 1 :: zeros 7) (hz : u.net.set = some z) : netEffect c u a =
    if fdbSetOk u z.recs && ptpSetOk u z.recs then u.putNetSet (some { z with touchedAt := a, last := some c, closedAt := some a })
    else (netSetGone u netBad).replyErr c opNetConfig stBadParam noIndex := by
  obtain ⟨hflags, -, hrecs, -⟩ := emptyNetPacket hp
  simp only [netEffect, hflags, hrecs, hz, Option.getD_some, List.append_nil]
  rfl

theorem netEffect_discard (hp : c.params = 2 :: zeros 7) : netEffect c u a = (u.dropNet netDiscarded).replyOk c opNetConfig := by
  obtain ⟨hflags, -, -, -⟩ := emptyNetPacket hp
  simp only [netEffect, hflags]
  rfl

end

/-- The checks of a closed set read the table and PTP. -/
theorem AnswerStep.netChecks {s t : State} (h : AnswerStep s t) (recs : List (List Byte)) :
    fdbSetOk t recs = fdbSetOk s recs ∧ ptpSetOk t recs = ptpSetOk s recs := by
  constructor
  · simp only [fdbSetOk, h.net]
  · simp only [ptpSetOk, h.time]

/-! ### The commands -/

section

variable {s : State} {c : Cmd} {t : Nat} (had : (s.upTo t).admits c 3 = true)
include had

theorem admits_tick_upTo : ((s.upTo t).tick t).admits c lvlEngineer = true := by
  rw [tick_upTo]
  exact had

theorem runNet_accepts (hlen : netLenOk c = true) (hown : netOwn c ((s.upTo t).touch c.session) = .accept) :
    (s.upTo t).runLane c t opNetConfig lvlEngineer (netLenOk c) (netOwn c) (netEffect c) =
      netEffect c ((s.upTo t).taken c opNetConfig) (s.upTo t).now := by
  rw [runLane_accepts (admits_tick_upTo had) hlen (by rw [tick_upTo]; exact hown), tick_upTo]

theorem exec_netConfig_accepts (hlen : netLenOk c = true) (hown : netOwn c ((s.upTo t).touch c.session) = .accept) :
    exec (.netConfig c t) s = .next (netEffect c ((s.upTo t).taken c opNetConfig) (s.upTo t).now) :=
  congrArg Host.Outcome.next (runNet_accepts had hlen hown)

theorem exec_netConfigDiscard_accepts (hlen : netLenOk c = true) (hown : netOwn c ((s.upTo t).touch c.session) = .accept) :
    exec (.netConfigDiscard c t) s = .next (netEffect c ((s.upTo t).taken c opNetConfig) (s.upTo t).now) :=
  congrArg Host.Outcome.next (runNet_accepts had hlen hown)

theorem netConfig_joins {r : List Byte} (hp : c.params = zeros 2 ++ (leBytes 2 1 ++ (zeros 4 ++ r))) (hr : r.length = netRecLen r)
    (hok : netRecOk r = true) (hopen : (s.upTo t).net.set.all (fun z => z.closedAt.isNone) = true) :
    Completes (.netConfig c t) s fun v => v.repliedWith c 0x0106 0 ∧ ∃ z, v.net = { (s.upTo t).net with set := some z } ∧
      z.closedAt = none ∧ z.recs = (match (s.upTo t).net.set with | some y => y.recs | none => []) ++ [r] := by
  have hone := oneNetRecord_of_params hp hr
  have hown : netOwn c ((s.upTo t).touch c.session) = .accept := by
    rw [netOwn_oneRecord _ hone hok, netSetClosed_touch, netSetClosed_of_all hopen, if_neg Bool.false_ne_true]
  have htaken := (answer_taken (s.upTo t) c opNetConfig).net
  refine ⟨_, exec_netConfig_accepts had hone.lenOk hown, ?_⟩
  rw [netEffect_oneRecord hone]
  generalize (s.upTo t).taken c opNetConfig = w at htaken
  have hanswer := answers_reply (w.putNetSet (some (netJoined w r (s.upTo t).now))) c opNetConfig stOk []
  refine ⟨hanswer.repliedWith, netJoined w r (s.upTo t).now, ?_, ?_, ?_⟩
  · rw [← htaken]
    exact hanswer.1.net
  · rw [netJoined, htaken]
    cases hz : (s.upTo t).net.set with
    | none => rfl
    | some z => simpa [hz] using hopen
  · rw [netJoined, htaken]
    cases (s.upTo t).net.set <;> rfl

section

variable {z : NetSet} (hz : (s.upTo t).net.set = some z)
include hz

theorem netConfig_busy (hp : c.params = 1 :: zeros 7) (hclosed : z.closedAt.isSome = true) :
    Completes (.netConfig c t) s fun v => v.net = (s.upTo t).net ∧ v.repliedWith c 0x0106 stBusy := by
  have hown : netOwn c (((s.upTo t).tick t).touch c.session) = .refuse stBusy noIndex := by
    rw [tick_upTo, netOwn_last _ hp, netSetClosed_touch, netSetClosed_of_set hz, if_pos hclosed]
  obtain ⟨hstep, hreplied⟩ := runLane_refused_spec (effect := netEffect c) (op := opNetConfig) (admits_tick_upTo had)
    (emptyNetPacket hp).2.1 hown (by decide) (by decide)
  rw [tick_upTo] at hstep
  exact ⟨_, rfl, hstep.net, hreplied⟩

theorem exec_netConfig_last (hp : c.params = 1 :: zeros 7) (hopen : z.closedAt = none) : exec (.netConfig c t) s =
    .next (let w := (s.upTo t).taken c opNetConfig
      if fdbSetOk (s.upTo t) z.recs && ptpSetOk (s.upTo t) z.recs then
        w.putNetSet (some { z with touchedAt := (s.upTo t).now, last := some c, closedAt := some (s.upTo t).now })
      else (netSetGone w netBad).replyErr c opNetConfig stBadParam noIndex) := by
  have hown : netOwn c ((s.upTo t).touch c.session) = .accept := by
    rw [netOwn_last _ hp, netSetClosed_touch, netSetClosed_of_set hz, hopen]
    rfl
  have hstep := answer_taken (s.upTo t) c opNetConfig
  obtain ⟨hfdb, hptp⟩ := hstep.netChecks z.recs
  rw [exec_netConfig_accepts had (emptyNetPacket hp).2.1 hown, netEffect_last hp (by rw [hstep.net]; exact hz), hfdb, hptp]

theorem netConfig_closes (hp : c.params = 1 :: zeros 7) (hopen : z.closedAt = none) (hfdb : fdbSetOk (s.upTo t) z.recs = true)
    (hptp : ptpSetOk (s.upTo t) z.recs = true) : Completes (.netConfig c t) s fun v =>
      v.net = { (s.upTo t).net with
        set := some { z with touchedAt := (s.upTo t).now, last := some c, closedAt := some (s.upTo t).now } } ∧
      v.fget F.NET_CFG_STATE = 2 := by
  have hexec := exec_netConfig_last had hz hp hopen
  rw [hfdb, hptp, Bool.and_self, if_pos rfl] at hexec
  refine ⟨_, hexec, ?_, state_putNetSet_closed _ rfl⟩
  rw [putNetSet_net, (answer_taken (s.upTo t) c opNetConfig).net]

theorem netConfig_drops (hp : c.params = 1 :: zeros 7) (hopen : z.closedAt = none)
    (hbad : ¬ (fdbSetOk (s.upTo t) z.recs = true ∧ ptpSetOk (s.upTo t) z.recs = true)) : Completes (.netConfig c t) s fun v =>
      v.net = { (s.upTo t).net with set := none } ∧ v.fget F.NET_CFG_STATE = 0 ∧ v.fget F.NET_CFG_LAST_RESULT = 2 ∧
      v.repliedWith c 0x0106 stBadParam := by
  have hexec := exec_netConfig_last had hz hp hopen
  rw [if_neg fun h => hbad (Bool.and_eq_true_iff.mp h)] at hexec
  obtain ⟨hnet, hstate, hresult⟩ := netSetGone_spec ((s.upTo t).taken c opNetConfig) (result := netBad) (by decide)
  have hanswer := answers_reply (netSetGone ((s.upTo t).taken c opNetConfig) netBad) c opNetConfig stBadParam (indexParams noIndex)
  refine ⟨_, hexec, ?_, ?_, ?_, hanswer.repliedWith⟩
  · rw [State.replyErr, hanswer.1.net, hnet, (answer_taken (s.upTo t) c opNetConfig).net]
  · rw [State.replyErr, hanswer.1.fget (f := F.NET_CFG_STATE) (by decide), hstate]
  · rw [State.replyErr, hanswer.1.fget (f := F.NET_CFG_LAST_RESULT) (by decide), hresult]
    rfl

theorem netConfigDiscard_drops (hp : c.params = 2 :: zeros 7) : Completes (.netConfigDiscard c t) s fun v =>
    v.net = { (s.upTo t).net with set := none } ∧ v.fget F.NET_CFG_LAST_RESULT = 3 ∧ v.repliedWith c 0x0106 0 := by
  have htaken := (answer_taken (s.upTo t) c opNetConfig).net
  obtain ⟨hnet, hresult⟩ := dropNet_spec (s := (s.upTo t).taken c opNetConfig) (z := z) (result := netDiscarded)
    (by rw [htaken]; exact hz) (by decide)
  have hanswer := answers_reply (((s.upTo t).taken c opNetConfig).dropNet netDiscarded) c opNetConfig stOk []
  have hexec := exec_netConfigDiscard_accepts had (emptyNetPacket hp).2.1 (netOwn_discard _ hp)
  rw [netEffect_discard hp] at hexec
  refine ⟨_, hexec, ?_, ?_, hanswer.repliedWith⟩
  · rw [State.replyOk, hanswer.1.net, hnet, htaken]
  · rw [State.replyOk, hanswer.1.fget (f := F.NET_CFG_LAST_RESULT) (by decide), hresult]
    rfl

end

end

/-! ### NET_SET_TIMEOUT -/

theorem netSetTimeout_drops {s : State} {z : NetSet} {t : Nat} (hz : (s.upTo t).net.set = some z) (hopen : z.closedAt = none)
    (hdue : z.touchedAt + 10000000000 ≤ (s.upTo t).now) : Completes (.netSetTimeout t) s fun v =>
      v.net = { (s.upTo t).net with set := none } ∧ v.fget F.NET_CFG_LAST_RESULT = 4 := by
  have hexec : exec (.netSetTimeout t) s = .next ((s.upTo t).dropNet netTimeout) := by
    show execNetSetTimeout t s = _
    simp [execNetSetTimeout, hz, hopen, hdue]
  exact ⟨_, hexec, dropNet_spec hz (by decide)⟩

theorem exec_netSetTimeout_closed {s : State} {t : Nat} (h : (s.upTo t).net.set.all (fun z => z.closedAt.isSome) = true) :
    exec (.netSetTimeout t) s = .next (s.upTo t) := by
  show execNetSetTimeout t s = _
  cases hz : (s.upTo t).net.set with
  | none => simp [execNetSetTimeout, hz]
  | some z =>
    have hclosed : z.closedAt.isNone = false := by simpa [hz] using h
    simp [execNetSetTimeout, hz, hclosed]

end Sys2Proof.Machine
end

section
/-! PROOF. A closed network set is taken over whole (R283, R284, R289). -/

namespace Sys2Proof.Machine

open State

/-! ### What was in force before -/

/-- The configuration in force before the last take-over is as it was. -/
def BeforeKept (s t : State) : Prop := t.net.before = s.net.before

theorem before_dropRef (s : State) (id p c : Nat) : BeforeKept s (s.dropRef id p c) := by
  rw [BeforeKept, dropRef_net]
  rfl

theorem before_frameLost (p c : Nat) (s : State) (id : Nat) : BeforeKept s (frameLost p c s id) := before_dropRef s id p c

theorem before_flushPort (s : State) (p : Nat) : BeforeKept s (s.flushPort p) := by
  rw [flushPort_eq]
  refine foldl_keeps (P := fun u => BeforeKept s u) (fun u c hu => ?_) _ rfl
  exact foldl_keeps (P := fun w => BeforeKept s w) (k := frameLost p c) (fun w id hw => (before_frameLost p c w id).trans hw) _ hu

theorem before_forgetPort (s : State) (p : Nat) : BeforeKept s (s.forgetPort p) := rfl

theorem before_applyPort (s : State) (r : List Byte) : BeforeKept s (s.applyPort r) := by
  unfold State.applyPort
  dsimp only
  split
  · exact (before_forgetPort _ _).trans ((before_flushPort _ _).trans rfl)
  · rfl

theorem before_applyGate (s : State) (r : List Byte) : BeforeKept s (s.applyGate r) := by
  unfold State.applyGate
  dsimp only
  split <;> rfl

/-- No record of a set changes what was in force before. -/
theorem before_applyNetRec (s : State) (r : List Byte) : BeforeKept s (s.applyNetRec r) := by
  unfold State.applyNetRec
  split
  · exact before_applyPort s r
  · rfl
  · rfl
  · rfl
  · exact before_applyGate s r
  all_goals rfl

/-! ### PTP takes its configuration -/

theorem State.Logged.net {s t : State} (h : Logged s t) : t.net = s.net := by
  obtain ⟨_, _, _, _, rfl⟩ := h
  rfl

theorem putTime_net (s : State) (st : Nat) : (s.putTime st).net = s.net := by
  unfold State.putTime
  split
  · rfl
  · dsimp only
    rw [(logged_hostEvent _ _).net, (logged_logReg _ _ _ _).net]
    split <;> rfl

theorem selectMaster_net (s : State) (p : Nat) : (s.selectMaster p).net = s.net := by
  have hlost : s.masterLost.net = s.net := by
    unfold State.masterLost
    dsimp only
    split
    · exact putTime_net _ _
    · rfl
  unfold State.selectMaster State.showGrandmaster
  dsimp only
  rw [fput_net]
  split
  · split
    · rfl
    · exact hlost
  · split <;> rfl

/-- PTP takes nothing from the switch. -/
theorem ptpReconfig_net (s : State) : s.ptpReconfig.net = s.net := by
  unfold State.ptpReconfig
  dsimp only
  split
  all_goals
    rw [selectMaster_net]
    refine foldl_keeps (P := fun u : State => u.net = s.net) (fun u p hu => ?_) _ rfl
    exact hu

/-! ### The take-over -/

theorem advanceGen_net (s : State) : s.advanceGen.net = s.net := by
  unfold State.advanceGen
  split <;> rfl

/-- The records of a set in force, and what they replace kept (R284, R289). -/
def netInForce (s : State) (z : NetSet) : State :=
  let recs := z.recs.foldl keepRec []
  let u := recs.foldl State.applyNetRec { s with net := { s.net with before := some s.configNow } }
  let u := { u with net := { u.net with inForce := recs.foldl keepRec u.net.inForce } }
  if recs.any (fun r => byteAt r 0 == 7 || byteAt r 0 == 8) then u.ptpReconfig else u

theorem before_netInForce (s : State) (z : NetSet) : (netInForce s z).net.before = some s.configNow := by
  have happly : ((z.recs.foldl keepRec []).foldl State.applyNetRec { s with net := { s.net with before := some s.configNow } }).net.before =
      some s.configNow :=
    foldl_keeps (P := fun u : State => u.net.before = some s.configNow) (fun u r hu => (before_applyNetRec u r).trans hu) _ rfl
  unfold netInForce
  dsimp only
  split
  · rw [ptpReconfig_net]
    exact happly
  · exact happly

theorem takeNet_eq {s : State} {z : NetSet} {c : Cmd} (hz : s.net.set = some z) (hlast : z.last = some c) : s.takeNet =
    (((netSetGone (netInForce s z) netTaken).finc F.NET_CFG_TAKEOVERS).advanceGen).replyOk c opNetConfig := by
  rw [State.takeNet, hz]
  dsimp only
  rw [hlast]
  rfl

/-- A closed set is taken over: it is gone, its LAST packet is answered, and the configuration it replaces is kept. -/
theorem takeNet_spec {s : State} {z : NetSet} {c : Cmd} (hz : s.net.set = some z) (hlast : z.last = some c) :
    s.takeNet.net.set = none ∧ s.takeNet.fget F.NET_CFG_LAST_RESULT = 1 ∧ s.takeNet.repliedWith c 0x0106 0 ∧
      s.takeNet.net.before = some s.configNow := by
  have hbefore := before_netInForce s z
  rw [takeNet_eq hz hlast]
  generalize netInForce s z = u at hbefore
  obtain ⟨hnet, -, hresult⟩ := netSetGone_spec u (result := netTaken) (by decide)
  have hanswer := answers_reply ((netSetGone u netTaken).finc F.NET_CFG_TAKEOVERS).advanceGen c opNetConfig stOk []
  have hnet' : (((netSetGone u netTaken).finc F.NET_CFG_TAKEOVERS).advanceGen.replyOk c opNetConfig).net = { u.net with set := none } := by
    rw [State.replyOk, hanswer.1.net, advanceGen_net, finc_net, hnet]
  refine ⟨congrArg NetState.set hnet', ?_, hanswer.repliedWith, (congrArg NetState.before hnet').trans hbefore⟩
  have hgen := fget_of_reg (f := F.NET_CFG_LAST_RESULT)
    (regsKept_advanceGen [] ((netSetGone u netTaken).finc F.NET_CFG_TAKEOVERS) _ List.not_mem_nil)
  rw [State.replyOk, hanswer.1.fget (f := F.NET_CFG_LAST_RESULT) (by decide), hgen, State.finc, fget_fput_other _ _ _ _ rfl rfl rfl, hresult]
  rfl

end Sys2Proof.Machine
end

section
/-! PROOF. The management port (R282): what MP answers, leaves and counts, and the frames that it sends. -/

namespace Sys2Proof.Machine

open State

/-! ### Parts of a frame -/

theorem beNat_beBytes (n v : Nat) : beNat (beBytes n v) = v % 256 ^ n := by
  rw [beNat, beBytes, List.reverse_reverse, leNat_leBytes]

theorem beBytes_length (n v : Nat) : (beBytes n v).length = n := by rw [beBytes, List.length_reverse, leBytes_length]

theorem beAt_beBytes_append (n v : Nat) (b : List Byte) : beAt (beBytes n v ++ b) 0 n = v % 256 ^ n := by
  rw [beAt, slice_append_left b (beBytes_length n v), beNat_beBytes]

theorem beAt_append_right {a : List Byte} (b : List Byte) {k : Nat} (off n : Nat) (h : a.length = k) :
    beAt (a ++ b) (k + off) n = beAt b off n := by
  rw [beAt, slice_append_right b off n h, beAt]

theorem slice_length {b : List Byte} {off n : Nat} (h : off + n ≤ b.length) : (slice b off n).length = n := by
  rw [slice, List.length_take, List.length_drop]
  omega

theorem padTo_of_le {n : Nat} {b : List Byte} (h : b.length ≤ n) : padTo n b = b ++ zeros (n - b.length) := by
  refine List.take_of_length_le ?_
  rw [List.length_append, zeros, List.length_replicate]
  omega

/-! ### What MP sends -/

/-- The bytes of a frame from MP: addresses, type, body, and the bytes up to its least length. -/
def mpFrame (dst : List Byte) (ty : Nat) (body pad : List Byte) : List Byte :=
  dst ++ (beBytes 6 mpMac ++ (beBytes 2 ty ++ (body ++ pad)))

/-- MP changes nothing but its last frame sent. -/
theorem mpSend_frame (s : State) (dst : List Byte) (ty : Nat) (body : List Byte) : s.mpSend dst ty body =
    { s with net := { s.net with mpSent := (s.mpSend dst ty body).net.mpSent } } := rfl

theorem mpSent_mpSend (s : State) {dst : List Byte} (ty : Nat) (body : List Byte) (hdst : dst.length = 6) :
    ∃ pad, (s.mpSend dst ty body).net.mpSent = mpFrame dst ty body pad := by
  have hlen : (dst ++ beBytes 6 mpMac ++ beBytes 2 ty ++ body).length = 14 + body.length := by
    simp only [List.length_append, hdst, beBytes_length]
  have hfits : (dst ++ beBytes 6 mpMac ++ beBytes 2 ty ++ body).length ≤ max 60 (14 + body.length) := by
    rw [hlen]
    exact Nat.le_max_right _ _
  have hpad := padTo_of_le hfits
  rw [hlen] at hpad
  refine ⟨zeros (max 60 (14 + body.length) - (14 + body.length)), hpad.trans ?_⟩
  simp only [mpFrame, List.append_assoc]

section

variable {dst : List Byte} (hdst : dst.length = 6) (body pad : List Byte)
include hdst

theorem take_mpFrame (ty : Nat) : (mpFrame dst ty body pad).take 6 = dst := List.take_left' hdst

theorem frameSrc_mpFrame (ty : Nat) : frameSrc (mpFrame dst ty body pad) = mpMac := by
  have hmac : mpMac < 256 ^ 6 := Nat.mod_lt _ (by decide)
  rw [frameSrc, mpFrame, beAt_append_right _ 0 6 hdst, beAt_beBytes_append, Nat.mod_eq_of_lt hmac]

theorem frameType_mpFrame {ty : Nat} (hty : ty < 2 ^ 16) : frameType (mpFrame dst ty body pad) = ty := by
  have hty' : ty < 256 ^ 2 := hty
  rw [frameType, mpFrame, beAt_append_right _ 6 2 hdst, beAt_append_right _ 0 2 (beBytes_length 6 mpMac), beAt_beBytes_append,
    Nat.mod_eq_of_lt hty']

/-- What lies in the body of a frame. -/
theorem slice_mpFrame (ty off n : Nat) : slice (mpFrame dst ty body pad) (14 + off) n = slice (body ++ pad) off n := by
  have hoff : 14 + off = 6 + (6 + (2 + off)) := by omega
  rw [hoff, mpFrame, slice_append_right _ _ n hdst, slice_append_right _ _ n (beBytes_length 6 mpMac),
    slice_append_right _ _ n (beBytes_length 2 ty)]

end

/-! ### ARP and ICMP echo -/

/-- The body of MP's ARP reply to the station whose addresses are `sender`. -/
def arpReplyBody (ip : Nat) (sender : List Byte) : List Byte :=
  beBytes 6 0x000108000604 ++ (beBytes 2 2 ++ (beBytes 6 mpMac ++ (beBytes 4 ip ++ sender)))

theorem mpArpReply_eq (s : State) (d : List Byte) :
    s.mpArpReply d = s.mpSend (slice d 6 6) 0x0806 (arpReplyBody s.mpIp (slice d 22 10)) := by
  simp only [State.mpArpReply, arpReplyBody, List.append_assoc]

/-- In an ARP reply the operation is 2, the sender MP, and the target the station that asked. -/
theorem arpReply_fields {dst sender : List Byte} (ip : Nat) (pad : List Byte) (hdst : dst.length = 6) (hsender : sender.length = 10) :
    let f := mpFrame dst 0x0806 (arpReplyBody ip sender) pad
    beAt f 20 2 = 2 ∧ beAt f 28 4 = ip % 2 ^ 32 ∧ slice f 32 10 = sender := by
  have hbody : arpReplyBody ip sender ++ pad =
      beBytes 6 0x000108000604 ++ (beBytes 2 2 ++ (beBytes 6 mpMac ++ (beBytes 4 ip ++ (sender ++ pad)))) := by
    simp only [arpReplyBody, List.append_assoc]
  have hfield : ∀ off n, slice (mpFrame dst 0x0806 (arpReplyBody ip sender) pad) (14 + off) n =
      slice (beBytes 6 0x000108000604 ++ (beBytes 2 2 ++ (beBytes 6 mpMac ++ (beBytes 4 ip ++ (sender ++ pad))))) off n := fun off n => by
    rw [slice_mpFrame hdst, hbody]
  refine ⟨?_, ?_, ?_⟩
  · rw [beAt, hfield 6 2, slice_append_right _ 0 2 (beBytes_length 6 _), slice_append_left _ (beBytes_length 2 2), beNat_beBytes]
    rfl
  · rw [beAt, hfield 14 4, slice_append_right _ 8 4 (beBytes_length 6 _), slice_append_right _ 6 4 (beBytes_length 2 2),
      slice_append_right _ 0 4 (beBytes_length 6 mpMac), slice_append_left _ (beBytes_length 4 ip), beNat_beBytes]
    rfl
  · rw [hfield 18 10, slice_append_right _ 12 10 (beBytes_length 6 _), slice_append_right _ 10 10 (beBytes_length 2 2),
      slice_append_right _ 4 10 (beBytes_length 6 mpMac), slice_append_right _ 0 10 (beBytes_length 4 ip), slice_append_left _ hsender]

theorem mpEchoReply_eq (s : State) (d : List Byte) : ∃ body, s.mpEchoReply d = s.mpSend (slice d 6 6) 0x0800 body := ⟨_, rfl⟩

/-! ### What a frame is to MP -/

/-- An ICMP echo request is no ARP packet, and a datagram is neither. -/
theorem type_of_mpIpv4 {u : State} {d : List Byte} (h : u.mpIpv4 d = true) : isArp d = false := by
  simp only [State.mpIpv4, Bool.and_eq_true, beq_iff_eq] at h
  obtain ⟨⟨⟨⟨⟨hty, -⟩, -⟩, -⟩, -⟩, -⟩ := h
  simp [isArp, hty]

theorem not_arp_of_mpIpv4 {u : State} {d : List Byte} (h : u.mpIpv4 d = true) : u.mpConflict d = false ∧ u.mpArp d = false := by
  constructor
  · rw [State.mpConflict, type_of_mpIpv4 h]
    rfl
  · rw [State.mpArp, type_of_mpIpv4 h]
    rfl

theorem mpIpv4_of_mpEcho {u : State} {d : List Byte} (h : u.mpEcho d = true) : u.mpIpv4 d = true ∧ byteAt d 23 = 1 := by
  simp only [State.mpEcho, Bool.and_eq_true, beq_iff_eq] at h
  obtain ⟨⟨⟨hip, hproto⟩, -⟩, -⟩ := h
  exact ⟨hip, hproto⟩

theorem mpIpv4_of_mpUdp {u : State} {d : List Byte} (h : u.mpUdp d = true) : u.mpIpv4 d = true ∧ byteAt d 23 = 17 := by
  simp only [State.mpUdp, Bool.and_eq_true, beq_iff_eq] at h
  obtain ⟨⟨hip, hproto⟩, -⟩ := h
  exact ⟨hip, hproto⟩

theorem not_mpEcho_of_mpUdp {u : State} {d : List Byte} (h : u.mpUdp d = true) : u.mpEcho d = false := by
  rw [Bool.eq_false_iff]
  intro hecho
  have hone := (mpIpv4_of_mpEcho hecho).2
  rw [(mpIpv4_of_mpUdp h).2] at hone
  exact absurd hone (by decide)

/-! ### MP_FRAME_RECEIVE -/

theorem mpFrameReceive_other {s : State} {b : List Byte} {t : Nat}
    (h : (frameDst (dropFcs b) ≠ mpMac ∧ frameDst (dropFcs b) ≠ 0xFFFFFFFFFFFF) ∨ ¬ fcsOk b = true) :
    Completes (.mpFrameReceive b t) s fun v => v.fget F.MP_ERR_OTHER = min ((s.upTo t).fget F.MP_ERR_OTHER + 1) 0xFFFF ∧
      State.RegsOnly [R.MP_ERR] (s.upTo t) v := by
  have hnot : (!((frameDst (dropFcs b) == mpMac || frameDst (dropFcs b) == 0xFFFFFFFFFFFF) && decide (64 ≤ b.length) &&
      decide (b.length ≤ 1518) && fcsOk b)) = true := by
    obtain ⟨hmac, hall⟩ | hfcs := h
    · simp [hmac, hall]
    · simp [hfcs]
  have hexec : exec (.mpFrameReceive b t) s = .next ((s.upTo t).fsat F.MP_ERR_OTHER) := by
    show execMpFrameReceive b t s = _
    rw [execMpFrameReceive]
    dsimp only
    rw [hnot, if_pos rfl]
  exact ⟨_, hexec, fget_fsat _ _ rfl, fsat_regsOnly _ F.MP_ERR_OTHER⟩

section

variable {s : State} {b : List Byte} {t : Nat} (hdst : frameDst (dropFcs b) = mpMac ∨ frameDst (dropFcs b) = 0xFFFFFFFFFFFF)
  (hfcs : fcsOk b = true) (hmin : 64 ≤ b.length) (hmax : b.length ≤ 1518)
include hmin

theorem dropFcs_length : 60 ≤ (dropFcs b).length := by
  rw [dropFcs, List.length_take]
  omega

theorem sender_length : (slice (dropFcs b) 6 6).length = 6 ∧ (slice (dropFcs b) 22 10).length = 10 := by
  have hlen := dropFcs_length hmin
  exact ⟨slice_length (by omega), slice_length (by omega)⟩

include hdst hfcs hmax

/-- A sound frame for MP, in the order of its checks (R282). -/
theorem exec_mpFrameReceive_mine : exec (.mpFrameReceive b t) s =
    if (s.upTo t).mpConflict (dropFcs b) then .next { s.upTo t with net := { (s.upTo t).net with mpTry := (s.upTo t).net.mpTry + 1 } }
    else if (s.upTo t).mpArp (dropFcs b) then .next ((s.upTo t).mpArpReply (dropFcs b))
    else if (s.upTo t).mpEcho (dropFcs b) then .next ((s.upTo t).mpEchoReply (dropFcs b))
    else if (s.upTo t).mpUdp (dropFcs b) then .next (s.upTo t)
    else .next ((s.upTo t).fsat F.MP_ERR_OTHER) := by
  have hmine : (!((frameDst (dropFcs b) == mpMac || frameDst (dropFcs b) == 0xFFFFFFFFFFFF) && decide (64 ≤ b.length) &&
      decide (b.length ≤ 1518) && fcsOk b)) = false := by
    obtain hdst | hdst := hdst <;> simp [hdst, hfcs, hmin, hmax]
  show execMpFrameReceive b t s = _
  rw [execMpFrameReceive]
  dsimp only
  rw [hmine, if_neg Bool.false_ne_true]

theorem mpFrameReceive_arp (hconflict : ¬ (s.upTo t).mpConflict (dropFcs b) = true) (harp : (s.upTo t).mpArp (dropFcs b) = true) :
    Completes (.mpFrameReceive b t) s fun v => v = { s.upTo t with net := { (s.upTo t).net with mpSent := v.net.mpSent } } ∧
      v.net.mpSent.take 6 = slice (dropFcs b) 6 6 ∧ frameSrc v.net.mpSent = mpMac ∧ frameType v.net.mpSent = 0x0806 ∧
      beAt v.net.mpSent 20 2 = 2 ∧ beAt v.net.mpSent 28 4 = (s.upTo t).mpIp % 2 ^ 32 ∧
      slice v.net.mpSent 32 10 = slice (dropFcs b) 22 10 := by
  obtain ⟨hsix, hten⟩ := sender_length hmin
  have hexec := exec_mpFrameReceive_mine (s := s) (t := t) hdst hfcs hmin hmax
  rw [if_neg hconflict, if_pos harp, mpArpReply_eq] at hexec
  obtain ⟨pad, hsent⟩ := mpSent_mpSend (s.upTo t) 0x0806 (arpReplyBody (s.upTo t).mpIp (slice (dropFcs b) 22 10)) hsix
  refine ⟨_, hexec, mpSend_frame _ _ _ _, ?_⟩
  rw [hsent]
  exact ⟨take_mpFrame hsix _ pad _, frameSrc_mpFrame hsix _ pad _, frameType_mpFrame hsix _ pad (by decide),
    arpReply_fields _ pad hsix hten⟩

theorem mpFrameReceive_echo (hecho : (s.upTo t).mpEcho (dropFcs b) = true) :
    Completes (.mpFrameReceive b t) s fun v => v = { s.upTo t with net := { (s.upTo t).net with mpSent := v.net.mpSent } } ∧
      v.net.mpSent.take 6 = slice (dropFcs b) 6 6 ∧ frameSrc v.net.mpSent = mpMac ∧ frameType v.net.mpSent = 0x0800 := by
  obtain ⟨hsix, -⟩ := sender_length hmin
  obtain ⟨hconflict, harp⟩ := not_arp_of_mpIpv4 (mpIpv4_of_mpEcho hecho).1
  obtain ⟨body, hreply⟩ := mpEchoReply_eq (s.upTo t) (dropFcs b)
  have hexec := exec_mpFrameReceive_mine (s := s) (t := t) hdst hfcs hmin hmax
  rw [hconflict, if_neg Bool.false_ne_true, harp, if_neg Bool.false_ne_true, if_pos hecho, hreply] at hexec
  obtain ⟨pad, hsent⟩ := mpSent_mpSend (s.upTo t) 0x0800 body hsix
  refine ⟨_, hexec, mpSend_frame _ _ _ _, ?_⟩
  rw [hsent]
  exact ⟨take_mpFrame hsix _ pad _, frameSrc_mpFrame hsix _ pad _, frameType_mpFrame hsix _ pad (by decide)⟩

theorem exec_mpFrameReceive_udp (hudp : (s.upTo t).mpUdp (dropFcs b) = true) : exec (.mpFrameReceive b t) s = .next (s.upTo t) := by
  obtain ⟨hconflict, harp⟩ := not_arp_of_mpIpv4 (mpIpv4_of_mpUdp hudp).1
  rw [exec_mpFrameReceive_mine hdst hfcs hmin hmax, hconflict, if_neg Bool.false_ne_true, harp, if_neg Bool.false_ne_true,
    not_mpEcho_of_mpUdp hudp, if_neg Bool.false_ne_true, if_pos hudp]

end

end Sys2Proof.Machine
end

section
/-! PROOF. SCRIBE-class commands (R399 to R401), INK_SNAP and INK_CAPTURE (R300, R405); the obligation on the network set, the
inkwell and MP. -/

namespace Sys2Proof.Machine

open State

/-! ### An admitted SCRIBE-class command -/

/-- The command is not held any longer, and its session is touched. -/
def scribeTaken (u : State) (c : Cmd) : State :=
  ({ u with quill := { u.quill with held := u.quill.held.filter (·.cmd != c) } } : State).touch c.session

theorem answer_scribeTaken (u : State) (c : Cmd) : AnswerStep u (scribeTaken u c) :=
  (answer_quill u _ (List.Subset.refl _)).trans (answer_touch _ _)

theorem admitsScribe_iff {u : State} {c : Cmd} {lvl : Nat} : u.admitsScribe c lvl = true ↔ u.fenced c = false ∧ OpenFor u c lvl := by
  unfold State.admitsScribe OpenFor
  cases hs : u.session c.session <;> simp [and_assoc]

theorem runScribe_accepts {u : State} {c : Cmd} {t op lvl : Nat} {lenOk : Bool} {own : State → Verdict} {effect : State → State}
    (htick : u.tick t = u) (h : u.admitsScribe c lvl = true) (hlen : lenOk = true) (hown : own (scribeTaken u c) = .accept) :
    u.runScribe c t op lvl lenOk own effect = effect (scribeTaken u c) := by
  obtain ⟨hfence, hopen⟩ := admitsScribe_iff.mp h
  have hopen' : OpenFor { u with quill := { u.quill with held := u.quill.held.filter (·.cmd != c) } } c lvl := hopen
  have hcheck := preCheck_touch op hopen'
  subst hlen
  rw [scribeTaken] at hown ⊢
  simp only [State.runScribe, htick, hfence, hopen'.sessionOk, State.verdict, hcheck, hown, Bool.false_eq_true, if_false, Bool.not_true]

theorem answers_scribeReply (s : State) (c : Cmd) (op status : Nat) (params : List Byte) :
    Answers s c op status params (s.scribeReply c op status params) := by
  obtain ⟨hstep, r, hr, hrest⟩ := answers_pushReply s c op status params false
  have hsettle := answer_settleQueueFences (s.pushReply c op status params false)
  exact ⟨hstep.trans hsettle, r, hsettle.2.2 hr, hrest⟩

/-! ### The books copied (R300) -/

/-- The books of the shared pool and of the holders copied. -/
def sharedBooksCopied (s : State) : State :=
  let s := (s.fput F.INK_SNAP_FREE_SHARED_CELLS (s.fget F.INK_FREE_SHARED_CELLS)).fput F.INK_SNAP_HELD_INGRESS_CELLS
    (s.fget F.INK_HELD_INGRESS_CELLS)
  (s.fput F.INK_SNAP_HELD_QUEUES_CELLS (s.fget F.INK_HELD_QUEUES_CELLS)).fput F.INK_SNAP_HELD_ENGINE_CELLS
    (s.fget F.INK_HELD_ENGINE_CELLS)

/-- The free cells of one reserve copied. -/
def reserveCopied (s : State) (p : Nat) : State := s.fput (F.INK_SNAP_RES_FREE_CELLS p) (s.fget (F.INK_RES_FREE_CELLS p))

theorem snapInk_eq (s : State) :
    s.snapInk = ((List.range 7).foldl reserveCopied (sharedBooksCopied s)).finc F.INK_SNAP_SEQ_SEQ := rfl

/-- The registers of these copies. -/
def sharedSnaps : List Nat := [R.INK_SNAP_FREE_SHARED, R.INK_SNAP_HELD_INGRESS, R.INK_SNAP_HELD_QUEUES, R.INK_SNAP_HELD_ENGINE]

/-- Each shared book is as wide as its copy, and no copy is a book. -/
theorem sharedBooksCopied_spec (s : State) : let v := sharedBooksCopied s
    v.fget F.INK_SNAP_FREE_SHARED_CELLS = s.fget F.INK_FREE_SHARED_CELLS ∧
      v.fget F.INK_SNAP_HELD_INGRESS_CELLS = s.fget F.INK_HELD_INGRESS_CELLS ∧
      v.fget F.INK_SNAP_HELD_QUEUES_CELLS = s.fget F.INK_HELD_QUEUES_CELLS ∧
      v.fget F.INK_SNAP_HELD_ENGINE_CELLS = s.fget F.INK_HELD_ENGINE_CELLS ∧
      v.net = s.net ∧ State.RegsKept sharedSnaps s v := by
  have hwidth : ∀ f : Field, f.hi - f.lo + 1 = 16 → s.fget f % 2 ^ 16 = s.fget f := fun f hf =>
    Nat.mod_eq_of_lt (hf ▸ fget_lt s f)
  refine ⟨?_, ?_, ?_, ?_, rfl, ?_⟩
  · simp (disch := decide) only [sharedBooksCopied, fget_fput_same, fget_fput_other]
    exact hwidth F.INK_FREE_SHARED_CELLS rfl
  · simp (disch := decide) only [sharedBooksCopied, fget_fput_same, fget_fput_other]
    exact hwidth F.INK_HELD_INGRESS_CELLS rfl
  · simp (disch := decide) only [sharedBooksCopied, fget_fput_same, fget_fput_other]
    exact hwidth F.INK_HELD_QUEUES_CELLS rfl
  · simp (disch := decide) only [sharedBooksCopied, fget_fput_same, fget_fput_other]
    exact hwidth F.INK_HELD_ENGINE_CELLS rfl
  · exact (((State.RegsKept.fput s (f := F.INK_SNAP_FREE_SHARED_CELLS) _ (by decide)).trans
      (State.RegsKept.fput _ (f := F.INK_SNAP_HELD_INGRESS_CELLS) _ (by decide))).trans
      (State.RegsKept.fput _ (f := F.INK_SNAP_HELD_QUEUES_CELLS) _ (by decide))).trans
      (State.RegsKept.fput _ (f := F.INK_SNAP_HELD_ENGINE_CELLS) _ (by decide))

/-- The copies of the reserves are registers of their own. -/
def reserveSnaps : List Nat := (List.range 7).map R.INK_SNAP_RES_FREE

theorem not_mem_reserveSnaps {a : Nat} (h : a < 0xB00A0) : a ∉ reserveSnaps := by
  intro hm
  obtain ⟨i, -, rfl⟩ := List.mem_map.mp hm
  unfold R.INK_SNAP_RES_FREE at h
  omega

theorem regsKept_reserveCopied (s : State) {p : Nat} (hp : p ∈ List.range 7) : State.RegsKept reserveSnaps s (reserveCopied s p) :=
  State.RegsKept.fput s (f := F.INK_SNAP_RES_FREE_CELLS p) _ (List.mem_map_of_mem hp)

theorem regsKept_reservesCopied (s : State) : State.RegsKept reserveSnaps s ((List.range 7).foldl reserveCopied s) :=
  foldl_keeps_mem (P := fun u => State.RegsKept reserveSnaps s u) _ (fun u _ hp hu => hu.trans (regsKept_reserveCopied u hp))
    (State.RegsKept.refl _ s)

theorem net_reservesCopied (ps : List Nat) (s : State) : (ps.foldl reserveCopied s).net = s.net :=
  foldl_keeps (P := fun u : State => u.net = s.net) (k := reserveCopied) (fun _ _ hu => hu) ps rfl

theorem copy_reserveCopied_same (s : State) (p : Nat) :
    (reserveCopied s p).fget (F.INK_SNAP_RES_FREE_CELLS p) = s.fget (F.INK_RES_FREE_CELLS p) := by
  have hwidth : s.fget (F.INK_RES_FREE_CELLS p) < 2 ^ 13 := fget_lt s (F.INK_RES_FREE_CELLS p)
  rw [reserveCopied, fget_fput_same _ _ _ rfl]
  exact Nat.mod_eq_of_lt (Nat.lt_trans hwidth (show 2 ^ 13 < 2 ^ 16 by decide))

theorem copy_reserveCopied_other (s : State) {p q : Nat} (h : q ≠ p) :
    (reserveCopied s p).fget (F.INK_SNAP_RES_FREE_CELLS q) = s.fget (F.INK_SNAP_RES_FREE_CELLS q) := by
  refine fget_of_reg (reg_fput_other s (F.INK_SNAP_RES_FREE_CELLS p) _ ?_)
  show 0xB00A0 + 0x4 * q ≠ 0xB00A0 + 0x4 * p
  omega

theorem reserve_reserveCopied (s : State) {q : Nat} (p : Nat) (hq : q < 7) :
    (reserveCopied s p).fget (F.INK_RES_FREE_CELLS q) = s.fget (F.INK_RES_FREE_CELLS q) := by
  refine fget_of_reg (reg_fput_other s (F.INK_SNAP_RES_FREE_CELLS p) _ ?_)
  show 0xB0020 + 0x4 * q ≠ 0xB00A0 + 0x4 * p
  omega

/-- Each reserve that is copied reads back in its copy. -/
theorem copy_reservesCopied {ps : List Nat} {q : Nat} (hq : q < 7) (hmem : q ∈ ps) (s : State) :
    (ps.foldl reserveCopied s).fget (F.INK_SNAP_RES_FREE_CELLS q) = s.fget (F.INK_RES_FREE_CELLS q) := by
  induction ps generalizing s with
  | nil => exact absurd hmem List.not_mem_nil
  | cons p ps ih =>
    rw [List.foldl_cons]
    by_cases hlater : q ∈ ps
    · rw [ih hlater, reserve_reserveCopied s p hq]
    · obtain rfl : q = p := (List.mem_cons.mp hmem).resolve_right hlater
      refine (foldl_keeps_mem (P := fun u : State => u.fget (F.INK_SNAP_RES_FREE_CELLS q) =
        (reserveCopied s q).fget (F.INK_SNAP_RES_FREE_CELLS q)) ps (fun u k hk hu => ?_) rfl).trans (copy_reserveCopied_same s q)
      exact (copy_reserveCopied_other u fun h => hlater (by rw [h]; exact hk)).trans hu

/-- Every book counter reads back in its snapshot register, and the sequence counts the snapshot (R300). -/
theorem snapInk_spec (s : State) : let v := s.snapInk
    v.fget F.INK_SNAP_FREE_SHARED_CELLS = s.fget F.INK_FREE_SHARED_CELLS ∧
      v.fget F.INK_SNAP_HELD_INGRESS_CELLS = s.fget F.INK_HELD_INGRESS_CELLS ∧
      v.fget F.INK_SNAP_HELD_QUEUES_CELLS = s.fget F.INK_HELD_QUEUES_CELLS ∧
      v.fget F.INK_SNAP_HELD_ENGINE_CELLS = s.fget F.INK_HELD_ENGINE_CELLS ∧
      (∀ p, p < 7 → v.fget (F.INK_SNAP_RES_FREE_CELLS p) = s.fget (F.INK_RES_FREE_CELLS p)) ∧
      v.fget F.INK_SNAP_SEQ_SEQ = (s.fget F.INK_SNAP_SEQ_SEQ + 1) % 2 ^ 32 ∧ v.net = s.net := by
  obtain ⟨hfree, hingress, hqueues, hengine, hnet, hshared⟩ := sharedBooksCopied_spec s
  have hreserves := regsKept_reservesCopied (sharedBooksCopied s)
  have hkept : ∀ f : Field, f.off < 0xB00A0 → f.off ≠ R.INK_SNAP_SEQ → s.snapInk.fget f = (sharedBooksCopied s).fget f :=
    fun f hf hseq => (fget_of_reg (reg_fput_other _ F.INK_SNAP_SEQ_SEQ _ hseq)).trans (fget_of_reg (hreserves _ (not_mem_reserveSnaps hf)))
  have hseq : ((List.range 7).foldl reserveCopied (sharedBooksCopied s)).fget F.INK_SNAP_SEQ_SEQ = s.fget F.INK_SNAP_SEQ_SEQ :=
    (fget_of_reg (hreserves _ (not_mem_reserveSnaps (by decide)))).trans (fget_of_reg (hshared _ (by decide)))
  refine ⟨?_, ?_, ?_, ?_, fun p hp => ?_, ?_, ?_⟩
  · rw [hkept _ (by decide) (by decide), hfree]
  · rw [hkept _ (by decide) (by decide), hingress]
  · rw [hkept _ (by decide) (by decide), hqueues]
  · rw [hkept _ (by decide) (by decide), hengine]
  · have hcopy : (F.INK_SNAP_RES_FREE_CELLS p).off ≠ R.INK_SNAP_SEQ := by
      show 0xB00A0 + 0x4 * p ≠ 0xB0080
      omega
    have hbook : (F.INK_RES_FREE_CELLS p).off ∉ sharedSnaps := by
      simp only [F.INK_RES_FREE_CELLS, R.INK_RES_FREE, sharedSnaps, R.INK_SNAP_FREE_SHARED, R.INK_SNAP_HELD_INGRESS, R.INK_SNAP_HELD_QUEUES,
        R.INK_SNAP_HELD_ENGINE, List.mem_cons, List.not_mem_nil, or_false]
      omega
    rw [snapInk_eq, State.finc, fget_of_reg (f := F.INK_SNAP_RES_FREE_CELLS p) (reg_fput_other _ F.INK_SNAP_SEQ_SEQ _ hcopy),
      copy_reservesCopied hp (List.mem_range.mpr hp), fget_of_reg (f := F.INK_RES_FREE_CELLS p) (hshared _ hbook)]
  · rw [snapInk_eq, State.finc, fget_fput_same _ _ _ rfl, hseq]
    rfl
  · rw [snapInk_eq, finc_net, net_reservesCopied, hnet]

/-! ### INK_SNAP -/

theorem answerReg_lt {a : Nat} (h : a ∈ answerRegs) : a < 0xB0000 := by
  revert a
  decide

/-- The snapshot taken and its sequence number answered (R300). -/
def inkSnapped (w : State) (c : Cmd) : State :=
  w.snapInk.scribeReply c opInkSnap stOk (leBytes 4 (w.snapInk.fget F.INK_SNAP_SEQ_SEQ) ++ zeros 4)

theorem inkSnap_copies {s : State} {c : Cmd} {t : Nat} (had : (s.upTo t).admitsScribe c 1 = true) (hp : c.params = []) :
    Completes (.inkSnap c t) s fun v =>
      v.fget F.INK_SNAP_FREE_SHARED_CELLS = (s.upTo t).fget F.INK_FREE_SHARED_CELLS ∧
      v.fget F.INK_SNAP_HELD_INGRESS_CELLS = (s.upTo t).fget F.INK_HELD_INGRESS_CELLS ∧
      v.fget F.INK_SNAP_HELD_QUEUES_CELLS = (s.upTo t).fget F.INK_HELD_QUEUES_CELLS ∧
      v.fget F.INK_SNAP_HELD_ENGINE_CELLS = (s.upTo t).fget F.INK_HELD_ENGINE_CELLS ∧
      (∀ p, p < 7 → v.fget (F.INK_SNAP_RES_FREE_CELLS p) = (s.upTo t).fget (F.INK_RES_FREE_CELLS p)) ∧
      v.fget F.INK_SNAP_SEQ_SEQ = ((s.upTo t).fget F.INK_SNAP_SEQ_SEQ + 1) % 2 ^ 32 ∧ v.net = (s.upTo t).net ∧
      v.repliedWith c 0x0A03 0 := by
  have hlen : (c.params.length == 0) = true := by rw [hp]; rfl
  have hexec : exec (.inkSnap c t) s = .next (inkSnapped (scribeTaken (s.upTo t) c) c) :=
    congrArg Host.Outcome.next (runScribe_accepts (effect := fun w => inkSnapped w c) (tick_upTo s t) had hlen rfl)
  have htaken := answer_scribeTaken (s.upTo t) c
  generalize scribeTaken (s.upTo t) c = w at hexec htaken
  obtain ⟨hfree, hingress, hqueues, hengine, hreserves, hseq, hnet⟩ := snapInk_spec w
  have hanswer : Answers w.snapInk c opInkSnap stOk _ (inkSnapped w c) := answers_scribeReply _ _ _ _ _
  have hbook : ∀ {f g : Field} {v : State}, AnswerStep w.snapInk v → 0xB0000 ≤ f.off → 0xB0000 ≤ g.off →
      w.snapInk.fget f = w.fget g → v.fget f = (s.upTo t).fget g := fun hstep hf hg hcopy =>
    ((hstep.fget fun hm => absurd (answerReg_lt hm) (Nat.not_lt.mpr hf)).trans hcopy).trans
      (htaken.fget fun hm => absurd (answerReg_lt hm) (Nat.not_lt.mpr hg))
  refine ⟨_, hexec, hbook hanswer.1 (by decide) (by decide) hfree, hbook hanswer.1 (by decide) (by decide) hingress,
    hbook hanswer.1 (by decide) (by decide) hqueues, hbook hanswer.1 (by decide) (by decide) hengine, fun p hp7 => ?_, ?_, ?_,
    hanswer.repliedWith⟩
  · refine hbook hanswer.1 ?_ ?_ (hreserves p hp7)
    · show 0xB0000 ≤ 0xB00A0 + 0x4 * p
      omega
    · show 0xB0000 ≤ 0xB0020 + 0x4 * p
      omega
  · rw [hanswer.1.fget (f := F.INK_SNAP_SEQ_SEQ) (by decide), hseq, htaken.fget (f := F.INK_SNAP_SEQ_SEQ) (by decide)]
  · rw [hanswer.1.net, hnet, htaken.net]

/-! ### INK_CAPTURE and INK_CAPTURE_STOP -/

/-- The capture that a packet asks for. -/
def captureOf (c : Cmd) : Option (Nat × Nat) := if byteAt c.params 0 == 0xFF then none else some (byteAt c.params 0, leAt c.params 2 2)

theorem captureEffect_eq (c : Cmd) (w : State) : captureEffect c w =
    ({ w with net := { w.net with capture := captureOf c } } : State).scribeReply c opInkCapture stOk [] := rfl

section

variable {s : State} {c : Cmd} {t : Nat} (had : (s.upTo t).admitsScribe c 3 = true) (hlen : c.params.length = 8)
  (hown : captureOwn c (scribeTaken (s.upTo t) c) = .accept)
include had hlen hown

theorem runCapture_spec : let v := (s.upTo t).runScribe c t opInkCapture lvlEngineer (c.params.length == 8) (captureOwn c) (captureEffect c)
    v.net = { (s.upTo t).net with capture := captureOf c } ∧ v.repliedWith c 0x0A04 0 := by
  dsimp only
  rw [runScribe_accepts (lvl := lvlEngineer) (tick_upTo s t) had (beq_iff_eq.mpr hlen) hown, captureEffect_eq]
  have htaken := (answer_scribeTaken (s.upTo t) c).net
  generalize scribeTaken (s.upTo t) c = w at htaken
  have hanswer := answers_scribeReply { w with net := { w.net with capture := captureOf c } } c opInkCapture stOk []
  refine ⟨?_, hanswer.repliedWith⟩
  rw [hanswer.1.net, htaken]

end

/-- The bytes of a packet that arms capture. -/
theorem capturePacket {c : Cmd} {p n : Nat} (hp : p ≤ 5) (hn : n < 65536)
    (hc : c.params = BitVec.ofNat 8 p :: 0 :: (leBytes 2 n ++ zeros 4)) : c.params.length = 8 ∧ byteAt c.params 0 = p ∧
      byteAt c.params 1 = 0 ∧ leAt c.params 2 2 = n ∧ allZero (slice c.params 4 4) = true := by
  rw [hc]
  refine ⟨rfl, ?_, rfl, ?_, rfl⟩
  · show (BitVec.ofNat 8 p).toNat = p
    rw [BitVec.toNat_ofNat]
    exact Nat.mod_eq_of_lt (by omega)
  · exact (leAt_append_right (a := [BitVec.ofNat 8 p, 0]) (k := 2) _ 0 2 rfl).trans (leAt_leBytes_append _ hn)

theorem inkCapture_arms {s : State} {c : Cmd} {p n t : Nat} (had : (s.upTo t).admitsScribe c 3 = true) (hp : p ≤ 5) (hpos : 0 < n)
    (hn : n < 65536) (hc : c.params = BitVec.ofNat 8 p :: 0 :: (leBytes 2 n ++ zeros 4)) :
    Completes (.inkCapture c t) s fun v => v.net = { (s.upTo t).net with capture := some (p, n) } ∧ v.repliedWith c 0x0A04 0 := by
  obtain ⟨hlen, hport, hreserved, hcount, hzero⟩ := capturePacket hp hn hc
  have hnotAll : p ≠ 255 := by omega
  have hown : captureOwn c (scribeTaken (s.upTo t) c) = .accept := by
    simp [captureOwn, refuseIf, hport, hreserved, hcount, hzero, hp, Nat.ne_of_gt hpos]
  have hof : captureOf c = some (p, n) := by
    simp [captureOf, hport, hcount, hnotAll]
  have hspec := runCapture_spec had hlen hown
  rw [hof] at hspec
  exact ⟨_, rfl, hspec⟩

theorem inkCaptureStop_ends {s : State} {c : Cmd} {t : Nat} (had : (s.upTo t).admitsScribe c 3 = true) (hc : c.params = 0xFF :: zeros 7) :
    Completes (.inkCaptureStop c t) s fun v => v.net = { (s.upTo t).net with capture := none } ∧ v.repliedWith c 0x0A04 0 := by
  have hlen : c.params.length = 8 := by rw [hc]; rfl
  have hown : captureOwn c (scribeTaken (s.upTo t) c) = .accept := by rw [captureOwn, hc]; rfl
  have hof : captureOf c = none := by rw [captureOf, hc]; rfl
  have hspec := runCapture_spec had hlen hown
  rw [hof] at hspec
  exact ⟨_, rfl, hspec⟩

/-! ### The obligation -/

/-- Settles O40: the set is followed through each command that can change it and through its take-over; MP's answers and the
inkwell's commands are taken each from the lemma over the command. -/
theorem networkSetsTheInkwellAndMp : Obligations.NetworkSetsTheInkwellAndMp := by
  unfold Obligations.NetworkSetsTheInkwellAndMp
  refine ⟨fun s c r t had => netConfig_joins had, ?last, fun s c z t had hp hz => netConfigDiscard_drops had hz hp,
    fun s z t => netSetTimeout_drops, fun s t => exec_netSetTimeout_closed, fun s z c => takeNet_spec,
    fun s b t => mpFrameReceive_other, ?mine, fun s c t => inkSnap_copies, fun s c p n t => inkCapture_arms,
    fun s c t => inkCaptureStop_ends⟩
  case last =>
    intro s c z t u had hp hz
    exact ⟨netConfig_busy had hz hp, netConfig_closes had hz hp, netConfig_drops had hz hp⟩
  case mine =>
    intro s b t u hdst hfcs hmin hmax
    have hexec := exec_mpFrameReceive_mine (s := s) (t := t) hdst hfcs hmin hmax
    refine ⟨fun hconflict => hexec.trans (if_pos hconflict), mpFrameReceive_arp hdst hfcs hmin hmax,
      mpFrameReceive_echo hdst hfcs hmin hmax, exec_mpFrameReceive_udp hdst hfcs hmin hmax, fun hconflict harp hecho hudp => ?_⟩
    exact hexec.trans ((if_neg hconflict).trans ((if_neg harp).trans ((if_neg hecho).trans (if_neg hudp))))

end Sys2Proof.Machine
end
